-- ==== Sys2Proof/Word.lean ====
section
/-! DEFINITION. The word types of the register maps and instruction encodings (R10, R11). -/

namespace Sys2Proof

/-- One byte of a memory. -/
abbrev Byte := BitVec 8

/-- A 32-bit word: index registers, accumulator words, synchronisation counters. -/
abbrev W32 := BitVec 32

/-- A 64-bit word: plot instructions, register reads, memory words. -/
abbrev W64 := BitVec 64

end Sys2Proof
end

