-- ==== Sys2Proof/Syntax.lean ====
section
/-! DEFINITION. The commands of the block: one constructor per row of the table of operations, with the row's
operands. A command is what the outside world, a clocked part of the device or its firmware does next. -/

namespace Sys2Proof

/-- The fabric masters of R32, R37 and R306: a companion read carries its TAG and a posted write none (R352, R354); a
scale-out request carries its port, SRC_DEV and TAG (R380). -/
inductive Master where
  | plot (p : Nat)
  | companion (tag : Option Nat)
  | scaleout (port src tag : Nat)
  | weeder (c : Nat)
  | shed (core : Nat)
  | engine
deriving DecidableEq, Repr

/-- What a fabric request asks of its target (R34, R280, R284). -/
inductive FabOp where
  | read (len : Nat)
  | write (data : List Byte)
  | reduce (redop : Nat) (data : List Byte)
deriving DecidableEq, Repr

/-- A fabric request: its master and class (R306), its address, its slack or LATE flag (R307), the point's own pc
count at arrival (R309), and what the GDDR7 device reports for each sector touched, in order: 0 good, 1 corrected,
2 uncorrectable (R276, R283). -/
structure FabReq where
  master : Master
  cls : Nat
  op : FabOp
  addr : Nat
  slack : Option Nat
  late : Bool
  now : Nat
  report : List Nat
deriving DecidableEq, Repr

/-- A job taken from the ring that has not taken effect (R255): its descriptor, the item records and staging areas that
Ervoec gave it, the tokens read for it, and whether that read failed. -/
structure Job where
  bytes : List Byte
  items : List (Nat × List Byte)
  staging : Nat
  guideStaging : Nat
  tokens : List Nat
  guide : List Nat
  readErr : Bool
deriving DecidableEq, Repr

/-- Where a request waits when its slack runs out (R307): at a place of a regulation point's queue, or of the hold queue of
a bed channel. -/
inductive SlackPlace where
  | point (p pos : Nat)
  | hold (p ch pos : Nat)
deriving DecidableEq, Repr

/-- A command of the block, one per row of the table of operations. -/
inductive Instr where
  /-- REG_WRITE (R12): A write to a register that has no row of its own stores or ignores the value according to its
  access type. -/
  | regWrite (off : Nat) (size : Nat) (data : Nat)
  /-- FABRIC_REQUEST (R37): A master's request reaches its owning target and takes effect in the order in which the
  target accepts it. -/
  | fabricRequest (r : FabReq)
  /-- REGULATION_GRANT (R312): A regulation point grants a waiting request by minimum, budget, due cycle and
  round-robin. -/
  | regulationGrant (point : Nat) (now : Nat) (next : Nat)
  /-- REG_WINDOW_BOUNDARY (R310): At each window boundary a regulation point zeroes the granted bytes of every class
  and applies pending configuration. -/
  | regWindowBoundary (point : Nat)
  /-- SLACK_EXPIRY (R307): A deadline request's slack counter reaches 0 and the request sets LATE. -/
  | slackExpiry (place : SlackPlace)
  /-- FAB_REG_CFG_WRITE (R314): A write to FAB_REG_CFG is checked and takes effect at the next window boundary. -/
  | fabRegCfgWrite (point : Nat) (data : Nat)
  /-- FAB_REG_CLASS_WRITE (R316): A write to FAB_REG_CLASS is checked for MIN above BUDGET and takes effect at the
  next window boundary. -/
  | fabRegClassWrite (point : Nat) (cls : Nat) (data : Nat)
  /-- BRIDGE_CRC_FAIL (R305): A bridge transfer that fails its CRC is replayed, up to 8 times. -/
  | bridgeCrcFail (failures : Nat)
  /-- BRIDGE_PORT_LOCK_LOSS (R305): A bridge row port loses lock and the whole bridge goes down. -/
  | bridgePortLockLoss (row : Nat)
  /-- MCFG (R145): Sets the array format pair, extents, stride and row-scale flag after range and pair checks. -/
  | mcfg (p : Nat)
  /-- LDS (R146): Starts a stationary load into the shadow from the bed or scratch. -/
  | lds (p : Nat)
  /-- SHADOW_LOAD_DONE (R100): The last shadow row and its checksum entries are in place and the shadow becomes
  FULL. -/
  | shadowLoadDone (p : Nat)
  /-- MMUL (R108): Streams M rows against the live or swapped stationary tile into the accumulator file. -/
  | mmul (p : Nat)
  /-- SWAP_START (R98): An instruction with SWAP issues its first row on a FULL shadow and the row broadcast begins. -/
  | swapStart (p : Nat)
  /-- SWAP_DONE (R100): Row 127 has swapped and the shadow goes to FILLING or EMPTY. -/
  | swapDone (p : Nat)
  /-- ARR_CHECK_CLOSE (R115): A row's checksum comparison closes 145 pc after issue and its segments become CLOSED
  or FAILED. -/
  | arrCheckClose (p : Nat) (upset : Bool)
  /-- PLOT_ARR_INJECT_WRITE (R118): A write to PLOT_ARR_INJECT arms or replaces an injection. -/
  | plotArrInjectWrite (p : Nat) (data : Nat)
  /-- PLOT_ARR_REPAIR_WRITE (R105): A write to PLOT_ARR_REPAIR remaps spare rows when the array is idle and
  invalidates the stationary sets. -/
  | plotArrRepairWrite (p : Nat) (data : Nat)
  /-- VEC_CHECK_CLOSE (R126): A vector lane check closes 8 pc after the write and the written unit becomes CLOSED or
  FAILED. -/
  | vecCheckClose (p : Nat) (upset : Nat)
  /-- ADD (R120): VOP adds A and B elementwise. -/
  | vopAdd (p : Nat)
  /-- SUB (R120): VOP subtracts B from A elementwise. -/
  | vopSub (p : Nat)
  /-- MUL (R120): VOP multiplies A and B elementwise. -/
  | vopMul (p : Nat)
  /-- FMA (R120): VOP computes A × B + C with one rounding. -/
  | vopFma (p : Nat)
  /-- MIN (R79): VOP takes the elementwise minimum with NaN propagation. -/
  | vopMin (p : Nat)
  /-- MAX (R79): VOP takes the elementwise maximum with NaN propagation. -/
  | vopMax (p : Nat)
  /-- ABS (R120): VOP takes the absolute value of A. -/
  | vopAbs (p : Nat)
  /-- NEG (R120): VOP negates A. -/
  | vopNeg (p : Nat)
  /-- CMPEQ (R147): VOP compares A and B for equality and writes int32 1 or 0. -/
  | vopCmpeq (p : Nat)
  /-- CMPLT (R147): VOP compares A less than B and writes int32 1 or 0. -/
  | vopCmplt (p : Nat)
  /-- CMPLE (R147): VOP compares A less than or equal to B and writes int32 1 or 0. -/
  | vopCmple (p : Nat)
  /-- SEL (R147): VOP selects A where C is nonzero and B elsewhere. -/
  | vopSel (p : Nat)
  /-- EXP (R122): VOP evaluates the bit-exact exponential of A. -/
  | vopExp (p : Nat)
  /-- LOG (R123): VOP evaluates the bit-exact natural logarithm of A. -/
  | vopLog (p : Nat)
  /-- RECIP (R124): VOP computes the correctly rounded reciprocal of A. -/
  | vopRecip (p : Nat)
  /-- RSQRT (R120): VOP computes the reciprocal square root as log, multiply and exp. -/
  | vopRsqrt (p : Nat)
  /-- DIV (R120): VOP divides A by B as reciprocal and multiply. -/
  | vopDiv (p : Nat)
  /-- RSUM (R121): VOP sums A into one element in the fixed lane and tree order. -/
  | vopRsum (p : Nat)
  /-- RMAX (R121): VOP reduces A to its maximum in the fixed order. -/
  | vopRmax (p : Nat)
  /-- RMIN (R121): VOP reduces A to its minimum in the fixed order. -/
  | vopRmin (p : Nat)
  /-- CVT (R70): VOP converts A from FMT_A to FMT_D with one rounding. -/
  | vopCvt (p : Nat)
  /-- QMX (R73): VOP quantises binary32 blocks to an MX format. -/
  | vopQmx (p : Nat)
  /-- QOK4 (R69): VOP quantises binary32 blocks to OK4, subtracting key means when named. -/
  | vopQok4 (p : Nat)
  /-- IADD (R120): VOP adds int32 operands modulo 2^32. -/
  | vopIadd (p : Nat)
  /-- ISUB (R120): VOP subtracts int32 operands modulo 2^32. -/
  | vopIsub (p : Nat)
  /-- IAND (R120): VOP takes the bitwise and of int32 operands. -/
  | vopIand (p : Nat)
  /-- IOR (R120): VOP takes the bitwise or of int32 operands. -/
  | vopIor (p : Nat)
  /-- IXOR (R120): VOP takes the bitwise exclusive-or of int32 operands. -/
  | vopIxor (p : Nat)
  /-- ISHL (R147): VOP shifts A left by B modulo 32. -/
  | vopIshl (p : Nat)
  /-- ISHR (R147): VOP shifts A right arithmetically by B modulo 32. -/
  | vopIshr (p : Nat)
  /-- NOP (R130): The sequencer issues an instruction that does nothing. -/
  | nop (p : Nat)
  /-- HALT (R136): The sequencer issues HALT and waits as FENCE ALL. -/
  | halt (p : Nat)
  /-- HALT_WAIT_END (R136): HALT's wait ends, the sequencer goes IDLE and raises the completion interrupt. -/
  | haltWaitEnd (p : Nat)
  /-- JMP (R143): Transfers control to TARGET within the loop rules. -/
  | jmp (p : Nat)
  /-- LOOP (R143): Opens a loop body executed COUNT times. -/
  | loop (p : Nat)
  /-- SETI (R133): Writes an immediate into an index register. -/
  | seti (p : Nat)
  /-- ADDI (R133): Adds a signed immediate to an index register modulo 2^32. -/
  | addi (p : Nat)
  /-- LDI (R133): Loads 32 bits of a control-area word into an index register. -/
  | ldi (p : Nat)
  /-- FENCE_CHECK (R150): Holds issue until every unit written earlier is CLOSED. -/
  | fenceCheck (p : Nat)
  /-- FENCE_DMA (R150): Holds issue until every earlier descriptor is complete. -/
  | fenceDma (p : Nat)
  /-- FENCE_TINE (R150): Holds issue until every earlier tine issue is complete with its checks closed. -/
  | fenceTine (p : Nat)
  /-- FENCE_ALL (R150): Holds issue until CHECK, DMA and TINE are all satisfied. -/
  | fenceAll (p : Nat)
  /-- FENCE_CKPT (R163): Holds issue until ALL, engines idle and outbound released, then takes a checkpoint. -/
  | fenceCkpt (p : Nat)
  /-- FENCE_SATISFIED (R150): A fence's condition becomes true and issue resumes, with the checkpoint actions for
  CKPT. -/
  | fenceSatisfied (p : Nat)
  /-- WAIT (R158): Holds issue until a local counter reaches its target. -/
  | wait (p : Nat)
  /-- WAIT_SATISFIED (R158): A counter add satisfies a pending WAIT and issue resumes. -/
  | waitSatisfied (p : Nat)
  /-- SYNC_TIMEOUT (R158): A WAIT expires unsatisfied and stops with 0x0C20. -/
  | syncTimeout (p : Nat)
  /-- SIGNAL (R157): Queues an outbound add to a local or remote synchronisation counter. -/
  | signal (p : Nat)
  /-- OUTBOUND_RELEASE (R160): An outbound operation whose predecessors are released and whose sources are CLOSED
  leaves the plot. -/
  | outboundRelease (p : Nat) (report : List Nat)
  /-- DMA (R152): Checks every named descriptor and starts their transfers. -/
  | dma (p : Nat)
  /-- DMA_DESC_COMPLETE (R155): A descriptor completes, with or without error status, and advances its counter if
  clean. -/
  | dmaDescComplete (p : Nat) (desc : Nat) (report : List Nat)
  /-- TISSUE (R185): Issues a tine program to the named channels with its argument block. -/
  | tissue (p : Nat)
  /-- TINE_ISSUE_COMPLETE (R186): Every tine has ended, every check closed and the write buffers applied, and the
  issue completes. -/
  | tineIssueComplete (p : Nat)
  /-- START (R136): Command START clears sequencer state, sets the checkpoint and runs from PC. -/
  | start (p : Nat) (pc : Nat)
  /-- REPLAY (R165): Command REPLAY restores the checkpoint, clears FAILED units and reruns, suppressing released
  operations. -/
  | replay (p : Nat)
  /-- ABORT (R136): Command ABORT ends issue and takes the sequencer to IDLE, cancelling unreleased operations. -/
  | abort (p : Nat)
  /-- CLEAR_FAILED (R136): Command CLEAR_FAILED sets every FAILED line and segment to CLOSED. -/
  | clearFailed (p : Nat)
  /-- SEQ_DRAIN_DONE (R136): In STOPPING every issued instruction completes and every check closes; the sequencer
  goes STOPPED or IDLE. -/
  | seqDrainDone (p : Nat)
  /-- PLOT_SEQ_IDX_WRITE (R170): A write to an index register takes effect only outside RUNNING and STOPPING. -/
  | plotSeqIdxWrite (p : Nat) (idx : Nat) (data : Nat)
  /-- PLOT_PM_DATA_WRITE (R170): A write to program memory stores the word with fresh check bits when the sequencer
  state allows. -/
  | plotPmDataWrite (p : Nat) (data : Nat)
  /-- PLOT_SYNC_CTR_WRITE (R156): A register write to a synchronisation counter is applied before same-cycle adds. -/
  | plotSyncCtrWrite (p : Nat) (c : Nat) (data : Nat)
  /-- PLOT_DMA_EXT_WRITE (R151): A write to an extent base or size applies to DMA instructions issued afterwards. -/
  | plotDmaExtWrite (p : Nat) (e : Nat) (size : Bool) (data : Nat)
  /-- SOW_BEGIN (R168): A plot accepts or refuses a sow BEGIN packet. -/
  | sowBegin (p : Nat) (gen : Nat) (lib : Nat) (base : Nat) (count : Nat) (crc : Nat)
  /-- SOW_DATA (R168): A plot writes a DATA packet of its sow or fails the sow on a wrong sequence. -/
  | sowData (p : Nat) (gen : Nat) (seq : Nat) (words : List Nat)
  /-- SOW_END (R168): A plot checks packet count and CRC, ends its sow and acknowledges. -/
  | sowEnd (p : Nat) (gen : Nat) (packets : Nat)
  /-- SOW_ACK_TIMEOUT (R169): The 64 µs acknowledgement wait of a sow round expires and Ervoec starts the next
  unicast round. -/
  | sowAckTimeout
  /-- CHANNEL_TO_TINE_DONE (R178): 64 pc after the last started request completes, the channel enters TINE and tines
  start. -/
  | channelToTineDone (p : Nat) (ch : Nat)
  /-- BATCH_LIMIT_EXPIRY (R180): The batch timer reaches BATCH_LIMIT with the hold queue not empty and the tines are
  preempted. -/
  | batchLimitExpiry (p : Nat) (ch : Nat)
  /-- CHANNEL_TO_MEMORY_DONE (R178): 64 pc after the tines pause or complete, the channel enters HELD or MEMORY. -/
  | channelToMemoryDone (p : Nat) (ch : Nat)
  /-- HELD_QUEUE_SERVED (R178): Every entry held at the pause has been served and the channel returns to TO_TINE. -/
  | heldQueueServed (p : Nat) (ch : Nat)
  /-- TEND (R186): Ends a tine's program. -/
  | tend (p : Nat) (t : Nat)
  /-- TSET (R187): Writes an immediate into a tine register. -/
  | tset (p : Nat) (t : Nat)
  /-- TADDI (R187): Adds a signed immediate to a tine register. -/
  | taddi (p : Nat) (t : Nat)
  /-- TLDA (R187): Loads half of an argument word into a tine register. -/
  | tlda (p : Nat) (t : Nat)
  /-- TLOOP (R188): Opens a tine loop body executed COUNT times. -/
  | tloop (p : Nat) (t : Nat)
  /-- TACT (R189): A tine reaches TACT and waits for the channel's other tines. -/
  | tact (p : Nat) (t : Nat)
  /-- TACT_LOAD (R189): All four tines have reached TACT and the channel loads the activation rows once. -/
  | tactLoad (p : Nat) (ch : Nat)
  /-- TMV (R191): Streams group pairs of weights through the tine's MAC lanes into ACC. -/
  | tmv (p : Nat) (t : Nat)
  /-- TCLR (R187): Sets ACC and the attention state to +0. -/
  | tclr (p : Nat) (t : Nat)
  /-- TOUT (R193): Writes ACC rows or attention partials to scratch. -/
  | tout (p : Nat) (t : Nat)
  /-- TATT_ATTEND (R233): TATT with list OP ATTEND folds the listed pages into lane states. -/
  | tattAttend (p : Nat) (t : Nat)
  /-- TATT_SCORE (R234): TATT with list OP SCORE scores listed summaries against the sieve query. -/
  | tattScore (p : Nat) (t : Nat)
  /-- TRED (R195): Reduces columns of one bank into an ACC word. -/
  | tred (p : Nat) (t : Nat)
  /-- TPACK (R196): Places ACC words into the tine's bed write buffer. -/
  | tpack (p : Nat) (t : Nat)
  /-- TADD (R196): Places ACC words to be added into bed words in the write buffer. -/
  | tadd (p : Nat) (t : Nat)
  /-- TCRC_CLEAR (R197): Clears both CRC tallies of the tine. -/
  | tcrcClear (p : Nat) (t : Nat)
  /-- TCRC_WRITE (R197): Writes both CRC tallies to scratch. -/
  | tcrcWrite (p : Nat) (t : Nat)
  /-- TINE_CHECK_CLOSE (R200): A group-pair or attention check closes 4 tc after its last column. -/
  | tineCheckClose (p : Nat) (t : Nat) (upset : Nat)
  /-- TINE_BUFFER_APPLY (R196): After TEND and all checks pass, the write buffers are applied to the bed in order. -/
  | tineBufferApply (p : Nat)
  /-- PARTIAL_RECORD_VALID (R233): A waited-for partial record becomes CLOSED with the right TAG and the tine merges
  it. -/
  | partialRecordValid (p : Nat) (t : Nat)
  /-- ATT_PARTIAL_TIMEOUT (R233): A PARTIAL wait expires and stops the tine with 0x0E03. -/
  | attPartialTimeout (p : Nat) (t : Nat)
  /-- REFRESH_DUE (R204): A bank's refresh falls due and its owed count rises or a refresh is forced. -/
  | refreshDue (p : Nat) (ch : Nat) (bank : Nat)
  /-- REFRESH_START (R205): A refresh of an owing bank starts once its channel state allows it. -/
  | refreshStart (p : Nat) (ch : Nat) (bank : Nat)
  /-- REFRESH_DONE (R202): A refresh's 64 pc end and the bank is available again. -/
  | refreshDone (p : Nat) (ch : Nat) (bank : Nat)
  /-- REMAP_COPY_START (R208): A row at threshold is copied to a free spare once its channel is in memory mode. -/
  | remapCopyStart (p : Nat) (ch : Nat)
  /-- REMAP_COPY_DONE (R208): A remap copy ends, the row decode switches, 0x0D05 is recorded and the shed is
  interrupted. -/
  | remapCopyDone (p : Nat) (ch : Nat)
  /-- BED_CH_CFG_WRITE (R210): A write to BED_CH_CFG is range-checked and sets threshold and batch limit. -/
  | bedChCfgWrite (p : Nat) (ch : Nat) (data : Nat)
  /-- BED_CH_FLIP_WRITE (R177): A write to BED_CH_FLIP arms a corruption of the next column encoded. -/
  | bedChFlipWrite (p : Nat) (ch : Nat) (data : Nat)
  /-- BED_TINE_PM_DATA_WRITE (R184): A write stores a tine instruction in the named channels' stores unless a tine
  is busy. -/
  | bedTinePmDataWrite (p : Nat) (data : Nat)
  /-- ACFG (R236): ATT ACFG loads the pipeline configuration block and query row count. -/
  | acfg (p : Nat)
  /-- QLOAD (R237): ATT QLOAD loads the query rows into the pipeline. -/
  | qload (p : Nat)
  /-- KVPAGES (R237): ATT KVPAGES processes page-list entries from frames, partials or a stream. -/
  | kvpages (p : Nat)
  /-- EMIT (R237): ATT EMIT writes the running state or finalised outputs to scratch. -/
  | emit (p : Nat)
  /-- ATT_CLEAR (R237): ATT CLEAR sets every row of the running state to empty. -/
  | attClear (p : Nat)
  /-- STREAM_RECORD_ARRIVAL (R239): Bytes of a stream record arrive and a waiting KVPAGES consumes them. -/
  | streamRecordArrival (p : Nat) (stream : Nat) (report : List Nat)
  /-- ATT_CHECK_CLOSE (R247): A pipeline page, merge or EMIT check closes 8 pc after the write. -/
  | attCheckClose (p : Nat) (upset : Bool)
  /-- OPEN (R251): Job OPEN takes a FREE slot into PREFILL with a new generation. -/
  | open (job : Job)
  /-- APPEND (R251): Job APPEND queues a prompt chunk for a PREFILL slot. -/
  | append (job : Job)
  /-- CANCEL (R269): Job CANCEL frees a slot at the next commit or boundary. -/
  | cancel (job : Job)
  /-- RESUME (R251): Job RESUME returns a PARKED slot to its prior state. -/
  | resume (job : Job)
  /-- STEP_START (R273): Ervoec starts a step once the previous commit and job effects are complete. -/
  | stepStart (drafts : List (Nat × List Byte)) (opens : List (Nat × Nat × Option Nat × Option (List Nat)))
  /-- STEP_COMMIT (R267): Every check of the step has closed and the commit applies prune results, pages, positions,
  rings and slot transitions. -/
  | stepCommit (logits : List (Nat × List (List Nat))) (faults : List (Nat × Nat)) (resid : List (Nat × Nat)) (others : List Nat) (peers : Bool) (emit : Bool) (now : Nat)
  /-- COMMIT_RESULT_MESSAGE (R267): A device receives the fixed prune results of the last-layer device and commits
  its own layers. -/
  | commitResultMessage (results : List (Nat × Option (List Nat × Nat))) (faults : List (Nat × Nat)) (resid : List (Nat × Nat)) (emit : Bool) (now : Nat)
  /-- STEP_ABANDON (R268): A step abandoned before its commit point changes nothing, frees tentative pages and is
  run again. -/
  | stepAbandon
  /-- HOLD_TIMER_EXPIRY (R251): A parked slot's hold timer expires and the slot is evicted. -/
  | holdTimerExpiry (slot : Nat)
  /-- SLOT_EVENT_RAISE (R253): A waiting slot transition raises its event once the event queue has a free entry. -/
  | slotEventRaise
  /-- STP_CFG_WRITE (R274): A write to STP_CFG takes effect at the next step boundary. -/
  | stpCfgWrite (data : Nat)
  /-- INIT_FLIT (R340): A received INIT flit sets grants and starting sequence of the companion or scale-out link
  layer. -/
  | initFlit (link : Nat) (flit : List Byte) (uncorr : Bool)
  /-- PROTOCOL_FLIT (R341): A PROTOCOL flit is accepted in sequence, applying credits and acknowledgements, or
  discarded. -/
  | protocolFlit (link : Nat) (flit : List Byte) (uncorr : Bool)
  /-- RETRY_REQ_FLIT (R342): A received RETRY_REQ makes the sender resend its kept flits from the named sequence. -/
  | retryReqFlit (link : Nat) (flit : List Byte) (uncorr : Bool)
  /-- NULL_FLIT (R338): A received NULL flit carries only an acknowledgement. -/
  | nullFlit (link : Nat) (flit : List Byte) (uncorr : Bool)
  /-- RETRY_REQ_RESEND (R342): 10 µs pass without the expected flit and the receiver sends RETRY_REQ again. -/
  | retryReqResend (link : Nat)
  /-- ACK_DUE (R341): 2 µs after accepting a flit the receiver must send an acknowledgement. -/
  | ackDue (link : Nat)
  /-- NOTIFY_GAP_END (R360): A notification held by the gap is sent at the gap's end. -/
  | notifyGapEnd (vec : Nat)
  /-- CPL_MBX_OUT_ACK (R363): A write of the outgoing SEQ clears OUT_FULL and lets the next message in. -/
  | cplMbxOutAck (data : Nat)
  /-- CPL_MBX_IN_DB (R362): A doorbell write copies the incoming mailbox message for processing. -/
  | cplMbxInDb
  /-- ECHO (R364): Mailbox ECHO returns its body unchanged. -/
  | echo
  /-- SNP_SHARED (R350): The home snoops a line down to S and the device answers. -/
  | snpShared (tag : Nat) (addr : Nat)
  /-- SNP_INV (R350): The home snoops a line to I and the device answers. -/
  | snpInv (tag : Nat) (addr : Nat)
  /-- LINK_CACHE_EVICTION (R350): A link cache line is evicted with EVICT_CLEAN or WB_DIRTY. -/
  | linkCacheEviction (addr : Nat)
  /-- RING_ENABLE (R357): A write to CPL_RING_CFG enables or disables a ring after its checks. -/
  | ringEnable (r : Nat) (data : Nat)
  /-- CPL_IDX_ADDR_WRITE (R373): A write sets the index line address when no ring is enabled. -/
  | cplIdxAddrWrite (data : Nat)
  /-- CPL_CFG_WRITE (R373): A write to CPL_CFG or CPL_HB_CFG is range-checked and applied. -/
  | cplCfgWrite (hb : Bool) (data : Nat)
  /-- CPL_HEARTBEAT_WRITE (R366): A write to CPL_HEARTBEAT restarts heartbeat timing or counts a stale heartbeat. -/
  | cplHeartbeatWrite (data : Nat)
  /-- PLOT_PWR_WRITE (R436): A write to PLOT_PWR requests a plot sleep state, refused for a busy plot. -/
  | plotPwrWrite (p : Nat) (data : Nat)
  /-- PLOT_STATE_CHANGE_DONE (R435): A plot's entry or wake time elapses and it reaches its new state. -/
  | plotStateChangeDone (p : Nat)
  /-- AMOSWAP (R286): A shed atomic swap on GDDR7 applied indivisibly at the owning controller. -/
  | amoSwap (core : Nat) (addr : Nat) (dbl : Bool) (operand : Nat) (report : List Nat)
  /-- AMOADD (R286): A shed atomic add on GDDR7. -/
  | amoAdd (core : Nat) (addr : Nat) (dbl : Bool) (operand : Nat) (report : List Nat)
  /-- AMOAND (R286): A shed atomic and on GDDR7. -/
  | amoAnd (core : Nat) (addr : Nat) (dbl : Bool) (operand : Nat) (report : List Nat)
  /-- AMOOR (R286): A shed atomic or on GDDR7. -/
  | amoOr (core : Nat) (addr : Nat) (dbl : Bool) (operand : Nat) (report : List Nat)
  /-- AMOXOR (R286): A shed atomic exclusive-or on GDDR7. -/
  | amoXor (core : Nat) (addr : Nat) (dbl : Bool) (operand : Nat) (report : List Nat)
  /-- AMOMIN (R286): A shed atomic signed minimum on GDDR7. -/
  | amoMin (core : Nat) (addr : Nat) (dbl : Bool) (operand : Nat) (report : List Nat)
  /-- AMOMAX (R286): A shed atomic signed maximum on GDDR7. -/
  | amoMax (core : Nat) (addr : Nat) (dbl : Bool) (operand : Nat) (report : List Nat)
  /-- AMOMINU (R286): A shed atomic unsigned minimum on GDDR7. -/
  | amoMinu (core : Nat) (addr : Nat) (dbl : Bool) (operand : Nat) (report : List Nat)
  /-- AMOMAXU (R286): A shed atomic unsigned maximum on GDDR7. -/
  | amoMaxu (core : Nat) (addr : Nat) (dbl : Bool) (operand : Nat) (report : List Nat)
  /-- LR_SC_GDDR7_FAULT (R286): A load-reserved or store-conditional to GDDR7 raises an access fault on the core. -/
  | lrScGddr7Fault (core : Nat) (addr : Nat) (sc : Bool)
  /-- GDDR_WRITE_CRC_ERROR (R288): The device reports a write CRC error and the controller resends, up to the retry
  limit. -/
  | gddrWriteCrcError (c : Nat) (now : Nat) (fails : Nat)
  /-- GDDR_READ_CRC_ERROR (R288): A read CRC error makes the controller reissue the read, up to the retry limit. -/
  | gddrReadCrcError (c : Nat) (now : Nat) (fails : Nat)
  /-- GDC_CA_PARITY (R288): A command and address parity error reissues commands and requests retraining. -/
  | gdcCaParity (c : Nat)
  /-- GDC_RETRAIN_START (R296): A write of START to a SERVING controller begins draining for retraining. -/
  | gdcRetrainStart (c : Nat)
  /-- GDC_DRAIN_DONE (R296): Every request accepted before START completes and the controller retrains. -/
  | gdcDrainDone (c : Nat)
  /-- GDC_RETRAIN_PASS (R296): Retraining passes within the bound and held requests are served. -/
  | gdcRetrainPass (c : Nat) (ac : Nat) (now : Nat)
  /-- GDC_RETRAIN_TIMEOUT (R296): The 2 ms retraining bound expires and the controller goes DOWN. -/
  | gdcRetrainTimeout (c : Nat)
  /-- GDC_FLIP_WRITE (R289): A write to GDC_FLIP arms a link corruption. -/
  | gdcFlipWrite (c : Nat) (data : Nat)
  /-- GDC_CFG_WRITE (R299): A write to GDC_CFG is range-checked and applied. -/
  | gdcCfgWrite (c : Nat) (data : Nat)
  /-- GDC_WEED_CFG_WRITE (R299): A write to GDC_WEED_CFG is range-checked and applied. -/
  | gdcWeedCfgWrite (c : Nat) (data : Nat)
  /-- WEEDER_GDDR_READ (R293): The GDDR7 interval elapses and the weeder reads and scrubs the next 256 bytes. -/
  | weederGddrRead (c : Nat) (report : List Nat)
  /-- WEEDER_BED_READ (R294): The bed interval elapses and the weeder makes a scrub-flagged bed read. -/
  | weederBedRead (c : Nat)
  /-- FRAME_RECEIVED (R320): An octet receives a frame, decodes its codewords and checks its header symbols. -/
  | frameReceived (o : Nat) (corrected : Nat) (uncorr : Nat) (header : List Nat)
  /-- SIGNAL_DETECTED (R328): Signal is found on all eight lanes and the octet enters EQUALIZE. -/
  | signalDetected (o : Nat)
  /-- DETECT_TIMEOUT (R328): DETECT times out and the octet continues with lanes excluded or fails. -/
  | detectTimeout (o : Nat) (signal : Nat)
  /-- EQUALIZE_AGREED (R328): Coefficients are agreed on every lane in play and the octet enters ALIGN. -/
  | equalizeAgreed (o : Nat) (coeffs : List Nat)
  /-- EQUALIZE_TIMEOUT (R328): EQUALIZE times out and unagreed lanes are excluded. -/
  | equalizeTimeout (o : Nat) (agreed : Nat) (coeffs : List Nat)
  /-- ALIGN_LOCKED (R328): Every lane in play is locked and deskewed and the octet enters WIDTH. -/
  | alignLocked (o : Nat) (pos : List Nat) (inverted : Nat)
  /-- ALIGN_TIMEOUT (R328): ALIGN times out and unlocked lanes are excluded. -/
  | alignTimeout (o : Nat) (locked : Nat) (pos : List Nat) (inverted : Nat)
  /-- WIDTH_AGREED (R329): A width is agreed with the partner and the octet enters VERIFY or FAILED. -/
  | widthAgreed (o : Nat) (partner : Nat)
  /-- WIDTH_TIMEOUT (R328): WIDTH times out without a width and the octet fails. -/
  | widthTimeout (o : Nat)
  /-- VERIFY_COMPLETE (R331): The verify count completes within limits and the octet is UP. -/
  | verifyComplete (o : Nat) (corrected : Nat) (uncorr : Nat)
  /-- VERIFY_TIMEOUT (R328): VERIFY exceeds its limits or 20 ms and the octet fails. -/
  | verifyTimeout (o : Nat)
  /-- LANE_LOCK_LOSS (R332): A lane in use loses lock and the UP octet enters RETRAIN. -/
  | laneLockLoss (o : Nat) (lane : Nat)
  /-- LNE_RETRAIN_CMD (R333): A write of RETRAIN, optionally with FULL, to LNE_CTRL retrains an UP octet. -/
  | lneRetrainCmd (o : Nat) (full : Bool)
  /-- RETRAIN_PASSED (R333): A retrain passes and the octet is UP again at its new width. -/
  | retrainPassed (o : Nat) (ac : Nat) (locked : Nat) (pos : List Nat) (inverted : Nat) (coeffs : List Nat) (partner : Nat)
  /-- RETRAIN_EXPIRY (R328): A retrain fails or exceeds 25 ms and the octet goes DOWN. -/
  | retrainExpiry (o : Nat)
  /-- BOOT_SWITCH_FRAME (R326): The companion's last boot-lane frame with SWITCH set arrives and traffic continues
  on octet 1. -/
  | bootSwitchFrame
  /-- BOOT_SWITCH_TIMEOUT (R326): The companion does not switch within 10 ms and the LANES step fails with 0x060C. -/
  | bootSwitchTimeout
  /-- LNE_CFG_WRITE (R336): A write to LNE_CFG is range-checked and applied. -/
  | lneCfgWrite (o : Nat) (data : Nat)
  /-- SOP_TAG_TIMEOUT (R383): A remote request's tag times out and it completes with 0x0805. -/
  | sopTagTimeout (tag : Nat)
  /-- SOP_ROUTE_DATA_WRITE (R389): A routing entry write replaces the entry whole for later messages. -/
  | sopRouteDataWrite (data : Nat)
  /-- SOP_DEV_WRITE (R400): A write to SOP_DEV sets hop limit, inbound register access and, before the lock, DEV_ID. -/
  | sopDevWrite (data : Nat)
  /-- SOP_PORT_CFG_WRITE (R400): A write to SOP_PORT_CFG sets RETRY_LIMIT, refused with 0x080B when 0. -/
  | sopPortCfgWrite (q : Nat) (data : Nat)
  /-- SIG_ACK (R384): A signal acknowledgement completes its SIGNAL. -/
  | sigAck (port : Nat) (msg : List Byte)
  /-- ERR (R384): An error response completes its request or SIGNAL with an error status. -/
  | err (port : Nat) (msg : List Byte)
  /-- WR_ACK (R382): A write acknowledgement completes its request piece and frees its tag. -/
  | wrAck (port : Nat) (msg : List Byte)
  /-- TALLY (R494): A replica tally message reaches the shed's receive queue. -/
  | tally (port : Nat) (msg : List Byte) (now : Nat)
  /-- CTRL (R394): A control message reaches the shed's receive queue. -/
  | ctrl (port : Nat) (msg : List Byte)
  /-- SIG (R393): An inbound signal adds to a plot counter or is forwarded. -/
  | sig (port : Nat) (msg : List Byte)
  /-- WR (R391): An inbound scale-out write is applied locally or forwarded. -/
  | wr (port : Nat) (msg : List Byte) (report : List Nat) (now : Nat) (hold : Nat)
  /-- RD (R391): An inbound scale-out read is served locally or forwarded. -/
  | rd (port : Nat) (msg : List Byte) (report : List Nat) (now : Nat) (hold : Nat)
  /-- RED (R391): An inbound scale-out reduce-write is applied by the memory-side adders or forwarded. -/
  | red (port : Nat) (msg : List Byte) (report : List Nat) (now : Nat) (hold : Nat)
  /-- RD_DATA (R382): Read data is written locally and completes its piece. -/
  | rdData (port : Nat) (msg : List Byte) (report : List Nat)
  /-- ICU_PEND_SET (R514): A write sets source pending bits. -/
  | icuPendSet (w : Nat) (data : Nat)
  /-- ICU_PEND_CLR (R514): A write clears source pending bits. -/
  | icuPendClr (w : Nat) (data : Nat)
  /-- ICU_ENABLE_SET (R516): A write sets source enables for a target. -/
  | icuEnableSet (t : Nat) (w : Nat) (data : Nat)
  /-- ICU_ENABLE_CLR (R516): A write clears source enables for a target. -/
  | icuEnableClr (t : Nat) (w : Nat) (data : Nat)
  /-- ICU_THRESHOLD_WRITE (R515): A write sets a target's threshold, entry 0 of its stack. -/
  | icuThresholdWrite (t : Nat) (data : Nat)
  /-- ICU_PRIO_WRITE (R516): A write to ICU_PRIO sets a source's priority, which can unassign and reassign the
  source or change its eligibility. -/
  | icuPrioWrite (source : Nat) (data : Nat)
  /-- ICU_CLAIM (R517): A read of CLAIM takes the highest assigned source into service. -/
  | icuClaim (t : Nat)
  /-- ICU_COMPLETE (R517): A write of COMPLETE ends service of the latest claim. -/
  | icuComplete (t : Nat) (data : Nat)
  /-- WFI_WAKE (R518): An enabled pending source wakes a core from WFI. -/
  | wfiWake (core : Nat)
  /-- PLOT_IRQ_WRITE (R513): A write clears plot interrupt bits or sets their enables. -/
  | plotIrqWrite (p : Nat) (data : Nat)
  /-- SHD_CORE_RUN_WRITE (R507): A write of RUN moves a core between reset and run. -/
  | shdCoreRunWrite (c : Nat) (data : Nat)
  /-- SHD_CORE_WDOG_WRITE (R519): A write to SHD_CORE[c].WDOG enables the watchdog with EN locking, or sets PERIOD,
  refused with 0x0409 when 0. -/
  | shdCoreWdogWrite (c : Nat) (data : Nat)
  /-- WATCHDOG_KICK (R519): A write of the key restarts a core's watchdog period. -/
  | watchdogKick (c : Nat) (data : Nat)
  /-- MACHINE_TIMER_INTERRUPT (R504): A core's mtime reaches mtimecmp and raises the timer interrupt. -/
  | machineTimerInterrupt (core : Nat) (now : Nat)
  /-- SHD_SRAM_FLIP_WRITE (R506): A write arms a corruption of the next shed SRAM write. -/
  | shdSramFlipWrite (data : Nat)
  /-- POWER_ON_RESET (R427): Input is applied or a rail falls below power-good and a Full reset occurs. -/
  | powerOnReset
  /-- RESET_N_ASSERT (R430): RESET_N held for 4 ac or more begins a Core reset. -/
  | resetNAssert (ac : Nat)
  /-- RESET_N_RELEASE (R430): RESET_N is released and the core is released 1,000 ac later. -/
  | resetNRelease
  /-- CORE_RESET_RELEASE (R428): The reset hold of 1,000 ac after the cause ends and the core is released. -/
  | coreResetRelease
  /-- AON_RELEASE (R429): AON_RESET_CMD RELEASE ends a thermal hold once temperatures allow. -/
  | aonRelease
  /-- CRIT_PARITY (R433): A parity or double-bit error in single-copy critical state performs a Core reset. -/
  | critParity
  /-- PLL_LOCK_LOSS (R424): An sc or pc PLL loses lock and the device resets as a critical error. -/
  | pllLockLoss
  /-- GDDR7_PLL_LOCK_LOSS (R424): A GDDR7 reference PLL loses lock after the CLOCKS step and its controller handles
  it as loss of link under R288. -/
  | gddr7PllLockLoss (c : Nat)
  /-- AON_BLK_RST_GO (R434): A block reset raises the block's idle request. -/
  | aonBlkRstGo (data : Nat)
  /-- BLK_IDLE_ACK (R434): The block acknowledges idle and is reset with RESULT IDLE. -/
  | blkIdleAck
  /-- BLK_IDLE_TIMEOUT (R434): The idle wait expires and the block is reset with RESULT FORCED. -/
  | blkIdleTimeout
  /-- WATCHDOG_EXPIRY (R520): A watchdog period passes without a kick, entering stage 1 or 2. -/
  | watchdogExpiry (c : Nat) (idle : Bool)
  /-- DSTATE_REQ_D1 (R438): AON_DSTATE REQ D1 brings the device from D2 to D1 unless an emergency is active. -/
  | dstateReqD1
  /-- DSTATE_REQ_D2 (R438): AON_DSTATE REQ D2 parks slots and puts plots and GDDR7 to sleep. -/
  | dstateReqD2
  /-- ORDERLY_STOP (R459): Ervoec abandons or finishes the step, parks every slot and enters D2. -/
  | orderlyStop
  /-- COMMIT (R547): TRU_UPD COMMIT completes the handover to the new image. -/
  | commit
  /-- REFUSE (R547): TRU_UPD REFUSE aborts the handover. -/
  | refuse
  /-- HANDOVER_TIMEOUT (R547): 2 s pass in HANDOVER without COMMIT and the handover aborts. -/
  | handoverTimeout
  /-- DEFER_TIMEOUT (R546): DEFER_S passes without a handover and activation ends with 0x050C. -/
  | deferTimeout
  /-- UPDATE_STAGE (R545): Mailbox UPDATE_STAGE verifies an image and writes the inactive slot. -/
  | updateStage (ok : Bool)
  /-- UPDATE_ACTIVATE_MODE0 (R546): UPDATE_ACTIVATE mode 0 writes the selector for the next start. -/
  | updateActivateMode0
  /-- UPDATE_ACTIVATE_MODE1 (R546): UPDATE_ACTIVATE mode 1 loads the staged image and waits for a live handover. -/
  | updateActivateMode1
  /-- UPDATE_CANCEL (R547): Mailbox UPDATE_CANCEL returns a PENDING update to STAGED. -/
  | updateCancel
  /-- ROLLBACK_ADVANCE (R527): Mailbox ROLLBACK_ADVANCE raises the fused rollback counter. -/
  | rollbackAdvance
  /-- FUSE_PROG_KEY (R552): A key write to TRU_FUSE_PROG starts fuse programming. -/
  | fuseProgKey (data : Nat)
  /-- FUSE_POSITION_DONE (R527): A rollback position's 2 ms programming ends and is read back. -/
  | fusePositionDone (ok : Bool)
  /-- LICENCE_INSTALL (R543): Mailbox LICENCE_INSTALL verifies and stores a licence. -/
  | licenceInstall
  /-- LICENCE_LIST (R551): Mailbox LICENCE_LIST returns the stored licences. -/
  | licenceList
  /-- IDENTITY_TREE_BUILD (R535): Ervoec finishes building the identity key's trees after RUN, compares the root
  with PUBKEY and sets IDENT_READY or records 0x0507. -/
  | identityTreeBuild
  /-- IDENTITY_GET (R551): Mailbox IDENTITY_GET writes the device certificate and returns DEV_IDENT. -/
  | identityGet
  /-- ATTEST (R539): Mailbox ATTEST writes signed evidence to companion memory. -/
  | attest (ok : Bool)
  /-- STRAPS_SAMPLED (R402): 4 ms after reset release the straps are sampled and recovery is chosen or not. -/
  | strapsSampled (bootSrc : Nat) (clkMode : Nat) (west : Nat) (east : Nat) (ok : Bool)
  /-- STEP_CONFIG (R406): Bring-up step 1 reads and verifies the configuration record. -/
  | stepConfig (sfdp : Bool)
  /-- STEP_LICENCE (R412): Bring-up step 2 verifies licences and puts the best in force. -/
  | stepLicence
  /-- STEP_HALVES (R413): Bring-up step 3 exchanges die identities and trains the bridge. -/
  | stepHalves (ports : Nat)
  /-- HALVES_PARTNER_TIMEOUT (R413): No partner identity arrives within 50 ms and the HALVES step fails. -/
  | halvesPartnerTimeout
  /-- STEP_CLOCKS (R411): Bring-up step 4 starts the PLLs and fast clocks. -/
  | stepClocks (lock : Bool)
  /-- STEP_LANES (R324): Bring-up step 5 checks the role map and trains every octet. -/
  | stepLanes
  /-- STEP_BEDS (R415): Bring-up step 6 loads bed repairs, tests every bed and writes zero. -/
  | stepBeds (rows : List (Nat × Nat × Nat × Nat))
  /-- STEP_PLOTS (R26): Bring-up step 7 self-tests plots and builds the logical numbering. -/
  | stepPlots (fails : List (Nat × Nat))
  /-- STEP_GDDR (R291): Bring-up step 8 trains, repairs and zeroes every GDDR7 channel. -/
  | stepGddr (down : List Nat) (results : List (Nat × Nat × Nat))
  /-- STEP_SHED (R531): Bring-up step 9 verifies and loads the Ervoec image and releases the cores. -/
  | stepShed
  /-- STEP_HANDSHAKE (R365): Bring-up step 11 opens the mailbox and waits for an accepted HELLO. -/
  | stepHandshake
  /-- STEP_RUN (R411): Bring-up step 12 begins heartbeat timing, clears the failed-start counter and enters D1. -/
  | stepRun
  /-- BRW_STEP_COMPLETE (R408): A running bring-up step completes or fails and the window goes DONE or FAILED. -/
  | brwStepComplete (ac : Nat) (ok : Bool)
  /-- BRW_STEP_TIMEOUT (R408): A step exceeds its timeout and the window goes FAILED with 0x0103. -/
  | brwStepTimeout (ok : Bool)
  /-- BRW_WATCHDOG (R409): The bring-up watchdog expires and resets the core as a failed start. -/
  | brwWatchdog
  /-- BRW_WDOG_WRITE (R421): A write to BRW_WDOG.SECONDS sets the bring-up watchdog period for the next reload,
  refused with 0x0106 when 0. -/
  | brwWdogWrite (data : Nat)
  /-- WRITE_CONFIG (R417): Recovery command verifies and writes a configuration record to flash. -/
  | writeConfig
  /-- WRITE_LICENCE (R417): Recovery command verifies and adds a licence record. -/
  | writeLicence
  /-- WRITE_IMAGE (R417): Recovery command verifies an image, writes the inactive slot and activates it. -/
  | writeImage
  /-- RECOVERY_COMMAND_DONE (R417): A recovery command's flash work ends and RESULT leaves BUSY. -/
  | recoveryCommandDone
  /-- POWER_SAMPLE (R441): Each 1 µs sample updates excess, regulator state and duty. -/
  | powerSample (mw : Nat)
  /-- THM_PWR_CFG_WRITE (R447): A write to THM_PWR_CFG sets the sustained and peak limits after a range check. -/
  | thmPwrCfgWrite (data : Nat)
  /-- PMBUS_POLL (R445): Every 1 ms the shed polls each regulator's STATUS_WORD. -/
  | pmbusPoll (faultBits : Nat)
  /-- PMBUS_TIMEOUT (R445): A regulator does not acknowledge within 10 ms and 0x020B is recorded. -/
  | pmbusTimeout (rail : Nat)
  /-- VOUT_COMMAND (R444): The shed commands a rail setpoint, refused beyond 3 % of nominal. -/
  | voutCommand (rail : Nat) (mv : Nat)
  /-- PMBUS_CLEAR_FAULTS (R444): The shed sends CLEAR_FAULTS to a module regulator, clearing its fault and the
  PMBUS_FAULT emergency bit. -/
  | pmbusClearFaults (rail : Nat)
  /-- SENSOR_SAMPLE (R449): Every 100 µs all plot and coolant sensors convert and arbitration, levels, limits and
  bands update. -/
  | sensorSample (rest : Option Int × Option Int) (odd : List (Nat × Option Int × Option Int)) (inlet : Option Int) (outlet : Option Int)
  /-- SENSOR_MASK_WRITE (R453): A write of MASK to THM_PLOT_ARB masks or unmasks a plot sensor. -/
  | sensorMaskWrite (p : Nat) (mask : Nat)
  /-- UNDECIDED_WRITE (R453): A write of UNDECIDED moves a plot between DISAGREE and UNDECIDED. -/
  | undecidedWrite (p : Nat) (v : Nat)
  /-- SENSOR_RESOLVE (R454): Ervoec resolves a sensor disagreement by residuals against neighbours. -/
  | sensorResolve (p : Nat) (model : List (Nat × Nat × Nat))
  /-- THM_FORECAST_WRITE (R457): A forecast write restarts its 5 ms validity. -/
  | thmForecastWrite (data : Nat)
  /-- FORECAST_EXPIRY (R457): A forecast in use expires, 0x030F is recorded and measured values are used. -/
  | forecastExpiry
  /-- FLOW_PULSE_EDGE (R462): A qualified flow meter edge updates the instant flow. -/
  | flowPulseEdge (ac : Nat)
  /-- NO_PULSE_TIMEOUT (R462): 50 ms pass without a pulse, flow is 0 and FLOW_STOP is entered. -/
  | noPulseTimeout
  /-- COOL_REQ_TRACK_UPDATE (R466): Every 100 ms in TRACK mode the coolant request duty is adjusted. -/
  | coolReqTrackUpdate
  /-- THM_COOL_CFG_WRITE (R473): A write to a coolant or keep-warm register is range-checked and applied. -/
  | thmCoolCfgWrite (reg : Nat) (data : Nat)
  /-- VDD_PLOT_DROOP (R562): A cluster's VDD_PLOT rail falls below nominal less THRESH_MV, counting in DROOPS and
  updating MIN_MV. -/
  | vddPlotDroop (cluster : Nat) (mv : Nat)
  /-- THM_MON_WRITE (R562): A write to a droop monitor sets THRESH_MV, refused with 0x0311 when 0, or resets MIN_MV. -/
  | thmMonWrite (cluster : Nat) (data : Nat)
  /-- MONITOR_WINDOW (R562): Each 100 µs window the ring-oscillator count is updated. -/
  | monitorWindow (counts : List Nat)
  /-- THERMAL_QUERY (R471): Mailbox THERMAL_QUERY returns the thermal registers. -/
  | thermalQuery
  /-- STEP_SOW (R595): Bring-up step 10 sows the base library to every logical plot. -/
  | stepSow (lib : Nat) (base : Nat) (words : List Nat)
  /-- PLACEMENT_LOAD (R420): Mailbox PLACEMENT_LOAD checks an image, sows its libraries and loads tine programs and
  phase table. -/
  | placementLoad
  /-- PLACEMENT_UNLOAD (R420): Mailbox PLACEMENT_UNLOAD removes the placement when every slot is FREE. -/
  | placementUnload
  /-- LIFETIME_RECORD_WRITE (R565): Every 60 s Ervoec writes the older lifetime record. -/
  | lifetimeRecordWrite
  /-- SED_ARBITRATE (R479): Ervoec handles a check failure by replay, referee and verdict. -/
  | sedArbitrate (p : Nat) (reload : List (Nat × List Byte)) (lost : List Nat)
  /-- MOVE (R486): SED_MOVE mode MOVE copies a plot's state to a spare and switches its number. -/
  | move (n : Nat) (sp : Nat)
  /-- RELOAD (R486): SED_MOVE mode RELOAD moves a number, zeroing the spare's bed. -/
  | reload (n : Nat) (sp : Nat)
  /-- CLONE (R486): SED_MOVE mode CLONE copies a plot onto a spare in referee mode. -/
  | clone (n : Nat) (sp : Nat)
  /-- COMPARE (R481): SED_MOVE mode COMPARE compares BORN units of a plot and its clone. -/
  | compare (n : Nat) (sp : Nat)
  /-- RETIRE (R488): SED_MOVE mode RETIRE makes a logical number ABSENT. -/
  | retire (n : Nat) (sp : Nat)
  /-- RELEASE (R486): SED_MOVE mode RELEASE ends referee mode of a clone. -/
  | release (n : Nat) (sp : Nat)
  /-- MOVE_COPY_DONE (R486): The copy completes and the engine switches, or goes IDLE for a clone. -/
  | moveCopyDone
  /-- MOVE_TIMEOUT (R486): The copy exceeds 5 ms and the move fails with decode unchanged. -/
  | moveTimeout
  /-- COMPARE_DONE (R486): Every BORN unit has been compared and the verdict is set. -/
  | compareDone
  /-- SPARE_SWITCH (R486): One pc cycle after SWITCH the number decodes to the spare or becomes ABSENT. -/
  | spareSwitch (reload : List (Nat × List Byte)) (lost : List Nat)
  /-- PLOT_SELFTEST_GO (R502): A GO to PLOT_SELFTEST runs the self-tests on a spare plot. -/
  | plotSelftestGo (p : Nat)
  /-- SELFTEST_DONE (R484): A self-test completes with PASS or FAIL. -/
  | selftestDone (p : Nat) (test : Nat)
  /-- SPARE_SELFTEST_TIMER (R484): The hourly interval elapses and Ervoec self-tests each spare. -/
  | spareSelftestTimer
  /-- TALLY_WAIT_EXPIRY (R494): The wait for peer digests expires and Ervoec compares those in hand. -/
  | tallyWaitExpiry (now : Nat)
  /-- CLOCK_STAMP (R501): Mailbox CLOCK_STAMP stores the companion's wall-clock stamp. -/
  | clockStamp
  /-- REPLICA_SET (R501): Mailbox REPLICA_SET declares a replica group. -/
  | replicaSet
  /-- REPLICA_DECIDE (R495): Mailbox REPLICA_DECIDE keeps or expels a flagged replica. -/
  | replicaDecide
  /-- TESTPACK_LOAD (R490): Mailbox TESTPACK_LOAD verifies and stores a test content pack. -/
  | testpackLoad
  /-- TESTPACK_REMOVE (R501): Mailbox TESTPACK_REMOVE deletes a stored pack. -/
  | testpackRemove
  /-- TESTPACK_RUN (R491): Ervoec runs a pack on an idle plot and compares its digest. -/
  | testpackRun (p : Nat) (k : Nat)
  /-- TESTPACK_TIMEOUT (R491): A pack run reaches MAX_AC without HALT and fails. -/
  | testpackTimeout (p : Nat)
  /-- PLOT_MEM_FLIP_WRITE (R497): A write to PLOT_MEM_FLIP arms a memory corruption. -/
  | plotMemFlipWrite (p : Nat) (data : Nat)
  /-- SED_CRIT_FLIP_WRITE (R498): A write to SED_CRIT_FLIP arms a corruption of one critical copy. -/
  | sedCritFlipWrite (data : Nat)
  /-- SED_CFG_WRITE (R502): A write to SED_CFG sets tally settings, refusing zero fields. -/
  | sedCfgWrite (data : Nat)
  /-- PMR_GO (R558): A GO latches every counter bank and starts writing the snapshot. -/
  | pmrGo
  /-- SNAPSHOT_DONE (R558): The snapshot is written, SNAP advances and source 9 is raised. -/
  | snapshotDone (report : List Nat)
  /-- PMC_CFG_WRITE (R557): A write configures a counter's event and filters. -/
  | pmcCfgWrite (kind : Nat) (inst : Nat) (k : Nat) (data : Nat)
  /-- PMC_CNT_WRITE (R555): A write replaces a counter's value. -/
  | pmcCntWrite (kind : Nat) (inst : Nat) (k : Nat) (data : Nat)
  /-- ERR_CONSUMER_WRITE (R561): A write advances the sticky record's consumer index after its test. -/
  | errConsumerWrite (data : Nat)
  /-- ERR_ENTRY_CONSUME (R561): Ervoec journals the next sticky entry and advances CONSUMER. -/
  | errEntryConsume (ok : Bool)
  /-- DBG_TRIG_IN_ASSERTED (R569): DBG_TRIG_IN_N is asserted for 2 ac. -/
  | dbgTrigInAsserted
  /-- DBG_TRIG_OUT_END (R569): The 16 ac pulse on DBG_TRIG_OUT_N ends. -/
  | dbgTrigOutEnd
  /-- DBG_FLASH_DATA_READ (R567): A read returns 8 bytes of module flash and advances the address. -/
  | dbgFlashDataRead
  /-- DBG_MUX_WRITE (R568): A write selects the internal signal driven on a debug output. -/
  | dbgMuxWrite (j : Nat) (data : Nat)
  /-- BYPASS (R570): JTAG instruction BYPASS. -/
  | bypass (die : Nat)
  /-- IDCODE (R570): JTAG instruction IDCODE returns the die's identity code. -/
  | idcode (die : Nat)
  /-- SAMPLE_PRELOAD (R570): JTAG instruction SAMPLE/PRELOAD. -/
  | samplePreload (die : Nat) (cells : List Byte)
  /-- EXTEST (R570): JTAG instruction EXTEST, effective only while the core is held in reset. -/
  | extest (die : Nat)
  /-- IJTAG_ACCESS (R570): The IEEE 1687 access instruction reaches the die's instrument network. -/
  | ijtagAccess (die : Nat) (inst : Nat) (idx : Nat) (write : Option Nat)
  /-- MODULE_INSERT (R574): The module is inserted and its contacts mate in order. -/
  | moduleInsert (vin : Nat)
  /-- MODULE_REMOVE (R574): The module is removed and PRESENT_N breaks first. -/
  | moduleRemove
  /-- INPUT_RISE (R576): Input rises through 46.0 V and the module enables its rails. -/
  | inputRise (mv : Nat) (sel : Nat)
  /-- INPUT_FALL (R576): Input falls below 44.0 V and the module removes its rails with a power-on reset. -/
  | inputFall (mv : Nat)
  /-- SET_OFFSET (R584): I3C private write setting the current register offset. -/
  | setOffset (bytes : List Byte)
  /-- I3C_WRITE (R584): I3C private write of 8 bytes at an offset. -/
  | i3cWrite (bytes : List Byte)
  /-- I3C_READ (R584): I3C private read of status and 8 bytes at the current offset. -/
  | i3cRead
  /-- ENTDAA (R583): I3C common command ENTDAA assigns a dynamic address. -/
  | entdaa (addr : Nat)
  /-- SETDASA (R583): I3C common command SETDASA sets the dynamic address from the static one. -/
  | setdasa (addr : Nat)
  /-- RSTDAA (R583): I3C common command RSTDAA resets the dynamic address. -/
  | rstdaa
  /-- GETPID (R583): I3C common command GETPID returns the provisional identifier. -/
  | getpid
  /-- GETBCR (R583): I3C common command GETBCR returns the bus characteristics. -/
  | getbcr
  /-- GETDCR (R583): I3C common command GETDCR returns the device characteristics. -/
  | getdcr
  /-- CLEAR_FAULTS (R582): Telemetry CLEAR_FAULTS clears the latched STATUS_WORD bits. -/
  | clearFaults
  /-- CAPABILITY (R582): Telemetry CAPABILITY returns 0x90. -/
  | capability
  /-- STATUS_WORD (R582): Telemetry STATUS_WORD returns latched and live status bits. -/
  | statusWord
  /-- READ_VIN (R582): Telemetry READ_VIN returns the input voltage. -/
  | readVin
  /-- READ_IIN (R582): Telemetry READ_IIN returns the input current. -/
  | readIin
  /-- READ_PIN (R582): Telemetry READ_PIN returns the input power. -/
  | readPin
  /-- READ_TEMPERATURE_1 (R582): Telemetry returns the logic hot spot. -/
  | readTemperature1
  /-- READ_TEMPERATURE_2 (R582): Telemetry returns the bed hot spot. -/
  | readTemperature2
  /-- READ_TEMPERATURE_3 (R582): Telemetry returns the coolant inlet temperature. -/
  | readTemperature3
  /-- PMBUS_REVISION (R582): Telemetry PMBUS_REVISION returns 0x33. -/
  | pmbusRevision
  /-- TELEMETRY_REFRESH (R582): Every 1 ms the telemetry values are refreshed. -/
  | telemetryRefresh (vin : Nat) (iin : Nat)
  /-- LINK_CACHE_READ (R350): A device master reads companion memory through the link cache. -/
  | linkCacheRead (r : FabReq) (lr : Bool)
  /-- LINK_CACHE_WRITE (R350): A device master writes companion memory through the link cache. -/
  | linkCacheWrite (r : FabReq) (sc : Bool)
  /-- DATA_S (R350): The home grants a line in S with data. -/
  | dataS (tag : Nat) (data : List Byte)
  /-- DATA_E (R350): The home grants a line in E with data. -/
  | dataE (tag : Nat) (data : List Byte)
  /-- GO_E (R350): The home grants a line in E without data. -/
  | goE (tag : Nat)
  /-- GO_WB (R350): The home completes a writeback or full write and the buffer is released. -/
  | goWb (tag : Nat)
  /-- COH_ERR (R350): The home refuses a request and the master gets an error status. -/
  | cohErr (tag : Nat)
  /-- DATA_CUR (R349): The home answers RD_CUR with the current value. -/
  | dataCur (tag : Nat) (data : List Byte)
  /-- COH_TIMEOUT (R350): A pending coherent request times out and its master gets an error status. -/
  | cohTimeout (tag : Nat)
  /-- NC_RD (R352): A companion non-coherent read of device memory, answered with NC_CPL or NC_CPL_ERR. -/
  | ncRd (tag : Nat) (addr : Nat) (len : Nat) (now : Nat) (report : List Nat)
  /-- NC_WR (R354): A companion posted non-coherent write, applied in arrival order. -/
  | ncWr (addr : Nat) (data : List Byte) (now : Nat) (report : List Nat)
  /-- HEARTBEAT_MISS (R367): A heartbeat period passes without a valid heartbeat, and after MISSES periods the
  device enters orphan mode. -/
  | heartbeatMiss
  /-- HELLO (R365): Mailbox HELLO negotiates the interface version and completes the HANDSHAKE step. -/
  | hello
  /-- ATTACH (R368): Mailbox ATTACH sets a new attach generation, ends orphan mode and reports slots. -/
  | attach (left : List Nat)
  /-- DETACH (R367): Mailbox DETACH enters orphan mode. -/
  | detach
  /-- RING_DOORBELL (R358): A doorbell advances the companion's producer or consumer index after its test. -/
  | ringDoorbell (r : Nat) (data : Nat)
  /-- AON_RESET (R431): AON_RESET_CMD RESET starts an orderly Core reset. -/
  | aonReset (data : Nat)
  /-- SHAKE256_GO (R508): The SHAKE256 engine absorbs LEN bytes and optionally squeezes. -/
  | shake256Go (data : Nat)
  /-- SHAKE256_DONE (R510): The SHAKE256 engine completes and raises its interrupt. -/
  | shake256Done (report : List Nat)
  /-- CRC64_GO (R509): The CRC-64 engine computes over LEN bytes. -/
  | crc64Go (data : Nat)
  /-- CRC64_DONE (R510): The CRC-64 engine completes and raises its interrupt. -/
  | crc64Done (report : List Nat)
  /-- SHED_LOCAL_ACCESS (R506): A shed core loads, stores or fetches in its local ROM, SRAM or timer space, with
  SRAM correction, uncorrectable fault or an armed flip applied. -/
  | shedLocalAccess (core : Nat) (kind : Nat) (addr : Nat) (len : Nat) (data : Nat) (now : Nat)
deriving DecidableEq, Repr

end Sys2Proof
end

