-- ==== Sys2Proof/Decode.lean ====
section
/-! DEFINITION. The decoder of command words. The table of operations gives no row any bits (every row's encoding is empty, for
a command is an event and not a word), so no word spells a command. -/

namespace Sys2Proof

/-- The command that a word of `nbits` bits spells: none, for no row of the table has bits. -/
def decodeTableWord (nbits w : Nat) : Option Instr :=
  match nbits, w with
  | _, _ => none

end Sys2Proof
end

