-- ==== Sys2Proof/Config.lean ====
section
/-! DEFINITION. What an implementation fixes and what the spec leaves open: the free values, constants without a
body, so that no proof can see what they are. -/

namespace Sys2Proof

/-- A byte that the spec leaves open, by the number of free values drawn before it (log entry 2). -/
opaque Config.freeByte : Nat → BitVec 8

/-- A number that the spec leaves open, by the number of free values drawn before it (log entry 2). -/
opaque Config.freeValue : Nat → BitVec 64

/-- A byte of the mask ROM, whose contents the spec does not give (R533, log entry 3). -/
opaque Config.romByte : Nat → BitVec 8

/-- The root of the identity key's trees that Ervoec builds from DEVICE_SEED (its first 32 bytes); how leaves follow from
the seeds is not in the spec (R534, R535, log entry 34). -/
opaque Config.identityRoot : List (BitVec 8) → List (BitVec 8)

/-- The bytes of an identity signature after its index, by DEVICE_SEED, index and message (R540, log entry 34). -/
opaque Config.identitySignature : List (BitVec 8) → Nat → List (BitVec 8) → List (BitVec 8)

/-- Aelmo's assigned manufacturer identity in IDCODE, whose value the spec does not give (R570, log entry 40). -/
opaque Config.manufacturer : BitVec 11

/-- Whether a signal is in a block's debug list, by KIND, INSTANCE and SIGNAL; the spec gives no list (R568, log entry 40). -/
opaque Config.debugSignal : Nat → Nat → Nat → Bool

/-- The west NoC router of attachment `i` of FAB_ATTACH, which
the spec calls fixed and does not give (R303, log entry 41). -/
opaque Config.attachRouter : Nat → BitVec 11

/-- The exponent of a telemetry value in LINEAR11, by command code and value; the spec names the format and fixes no
exponent (R582, log entry 46). -/
opaque Config.linearExp : Nat → Int → BitVec 5

/-- The provisional identifier but for its part number (R583, log entry 47). -/
opaque Config.i3cPid : BitVec 48

/-- The bus characteristics of the I3C target, whose value the spec does not give (R583, log entry 47). -/
opaque Config.i3cBcr : BitVec 8

/-- The device characteristics of the I3C target, whose value the spec does not give (R583, log entry 47). -/
opaque Config.i3cDcr : BitVec 8

end Sys2Proof
end

