-- ==== Sys2Proof/Machine/SMap.lean ====
section
/-! DEFINITION. Sparse maps in one canonical form, and bit fields of natural numbers. -/

namespace Sys2Proof.Machine

/-- A sparse map: pairs of key and value, keys strictly rising. -/
abbrev SMap (α : Type) := List (Nat × α)

/-- The value listed at key `k`, if one is. -/
def SMap.find? {α : Type} (k : Nat) : SMap α → Option α
  | [] => none
  | (j, v) :: t => if j = k then some v else SMap.find? k t

/-- The map without key `k`. -/
def SMap.erase {α : Type} (k : Nat) : SMap α → SMap α
  | [] => []
  | (j, v) :: t => if j = k then SMap.erase k t else (j, v) :: SMap.erase k t

/-- The map with `v` listed at key `k`, kept in rising order of keys. -/
def SMap.insert {α : Type} (k : Nat) (v : α) : SMap α → SMap α
  | [] => [(k, v)]
  | (j, w) :: t =>
    if k < j then (k, v) :: (j, w) :: t
    else if j = k then (k, v) :: t
    else (j, w) :: SMap.insert k v t

/-- The value at `k`, where an unlisted key reads as `d`. -/
def SMap.get {α : Type} (d : α) (m : SMap α) (k : Nat) : α := (SMap.find? k m).getD d

/-- `m` with `v` at `k`: writing what an unlisted key reads as removes the entry. -/
def SMap.set {α : Type} [DecidableEq α] (d : α) (m : SMap α) (k : Nat) (v : α) : SMap α :=
  if v = d then SMap.erase k m else SMap.insert k v m

/-- The keys rise strictly and all exceed `lo`. -/
def SMap.sortedFrom {α : Type} (lo : Nat) : SMap α → Bool
  | [] => true
  | (j, _) :: t => decide (lo ≤ j) && SMap.sortedFrom (j + 1) t

/-- The canonical form: keys strictly rising, no entry equal to the unlisted value `d`. -/
def SMap.wf {α : Type} [DecidableEq α] (d : α) (m : SMap α) : Bool :=
  SMap.sortedFrom 0 m && m.all (fun e => decide (e.2 ≠ d))

/-- Bits `[lo + w - 1 : lo]` of `n`. -/
def bitsOf (n lo w : Nat) : Nat := n / 2 ^ lo % 2 ^ w

/-- Bit `i` of `n`. -/
def bitOf (n i : Nat) : Bool := n / 2 ^ i % 2 == 1

/-- `n` with bit `i` set. -/
def withBit (n i : Nat) : Nat := if bitOf n i then n else n + 2 ^ i

/-- `n` with bit `i` clear. -/
def clearBit (n i : Nat) : Nat := if bitOf n i then n - 2 ^ i else n

/-- `n` read as a two's-complement number of `w` bits. -/
def signedOf (w n : Nat) : Int :=
  if bitOf n (w - 1) then ((n % 2 ^ w : Nat) : Int) - (2 ^ w : Nat) else (n % 2 ^ w : Nat)

/-- The `w`-bit two's-complement code of `z`. -/
def codeOf (w : Nat) (z : Int) : Nat := (z % ((2 ^ w : Nat) : Int)).toNat

/-- A saturating count: `n + k`, at most `top`. -/
def satAdd (top n k : Nat) : Nat := min top (n + k)

/-- Little-endian value of a list of bytes (R11). -/
def leValue : List Byte → Nat
  | [] => 0
  | b :: t => b.toNat + 256 * leValue t

/-- The `n` low bytes of `v`, least significant first (R11). -/
def leBytes : Nat → Nat → List Byte
  | 0, _ => []
  | n + 1, v => BitVec.ofNat 8 v :: leBytes n (v / 256)

end Sys2Proof.Machine
end

