-- ==== Sys2Proof/Machine/Float.lean ====
section
/-! DEFINITION. The number formats of chapter 2 and the functions of R122 to R124: decoding to exact values,
exact arithmetic, and each rounding at its one stated point. -/

namespace Sys2Proof.Machine

/-- An exact value: NaN (signalling or not), an infinity, or ± m · 2^e. -/
inductive FVal where
  | nan (signalling : Bool)
  | inf (neg : Bool)
  | fin (neg : Bool) (m : Nat) (e : Int)
deriving DecidableEq, Repr

/-- How a format uses the all-ones exponent: infinities and NaNs, the one E4M3 NaN, or an ordinary exponent (R50, R51). -/
inductive Special where
  | ieee | e4m3 | none
deriving DecidableEq, Repr

/-- A floating-point element layout (R49). -/
structure FpFormat where
  expBits : Nat
  manBits : Nat
  bias : Nat
  special : Special
deriving DecidableEq, Repr

/-- binary32 (R49). -/
def fmtB32 : FpFormat := ⟨8, 23, 127, .ieee⟩
/-- binary16 (R49). -/
def fmtB16 : FpFormat := ⟨5, 10, 15, .ieee⟩
/-- bfloat16 (R49). -/
def fmtBf16 : FpFormat := ⟨8, 7, 127, .ieee⟩
/-- E4M3 (R49). -/
def fmtE4M3 : FpFormat := ⟨4, 3, 7, .e4m3⟩
/-- E5M2 (R49). -/
def fmtE5M2 : FpFormat := ⟨5, 2, 15, .ieee⟩
/-- E3M2 (R49). -/
def fmtE3M2 : FpFormat := ⟨3, 2, 3, .none⟩
/-- E2M3 (R49). -/
def fmtE2M3 : FpFormat := ⟨2, 3, 1, .none⟩
/-- E2M1 (R49). -/
def fmtE2M1 : FpFormat := ⟨2, 1, 1, .none⟩

/-- The flag bits of PLOT_FMT_STATUS (R80). -/
def flagSNAN : Nat := 1
def flagNAN_IN : Nat := 2
def flagNAN_OUT : Nat := 4
def flagUNDERFLOW : Nat := 8
def flagSAT : Nat := 16
def flagINT_WRAP : Nat := 32
def flagMX_NAN : Nat := 64
def flagOK4_SCALE : Nat := 128

/-- Decodes an element of a floating-point format (R50, R51). -/
def decodeFp (f : FpFormat) (c : Nat) : FVal :=
  let s := bitOf c (f.expBits + f.manBits)
  let e := bitsOf c f.manBits f.expBits
  let m := bitsOf c 0 f.manBits
  if e = 2 ^ f.expBits - 1 ∧ f.special = .ieee then
    if m = 0 then .inf s else .nan (!bitOf m (f.manBits - 1))
  else if f.special = .e4m3 ∧ e = 15 ∧ m = 7 then .nan false
  else if e = 0 then .fin s m (1 - (f.bias : Int) - f.manBits)
  else .fin s (m + 2 ^ f.manBits) ((e : Int) - f.bias - f.manBits)

/-- The canonical quiet NaN of a format (R52). -/
def canonicalNaN (f : FpFormat) : Nat :=
  match f.special with
  | .ieee => (2 ^ f.expBits - 1) * 2 ^ f.manBits + 2 ^ (f.manBits - 1)
  | _ => 0x7F

/-- The rounding modes: nearest even (R71), toward zero (R71), toward +infinity (R97, R111). -/
inductive Rnd where
  | rne | rtz | up
deriving DecidableEq, Repr

/-- The code of the largest finite value of a format, without its sign. -/
def maxFinite (f : FpFormat) : Nat :=
  match f.special with
  | .ieee => (2 ^ f.expBits - 2) * 2 ^ f.manBits + (2 ^ f.manBits - 1)
  | .e4m3 => 0x7E
  | .none => 2 ^ (f.expBits + f.manBits) - 1

/-- Divides by a power of two with one rounding of the magnitude. -/
def roundShift (r : Rnd) (neg : Bool) (m sh : Nat) : Nat :=
  let q := m / 2 ^ sh
  let rem := m % 2 ^ sh
  match r with
  | .rtz => q
  | .up => if rem = 0 ∨ neg then q else q + 1
  | .rne => if 2 * rem > 2 ^ sh ∨ (2 * rem = 2 ^ sh ∧ q % 2 = 1) then q + 1 else q

/-- Number of bits of a magnitude. -/
def bitLen (m : Nat) : Nat := if m = 0 then 0 else Nat.log2 m + 1

/-- Rounds ± m · 2^e once to a format (R71, R72): the code and the flags. `sat` is the SAT choice of R72. -/
def roundFp (f : FpFormat) (r : Rnd) (sat : Bool) (neg : Bool) (m : Nat) (e : Int) : Nat × Nat :=
  let sgn := if neg then 2 ^ (f.expBits + f.manBits) else 0
  if m = 0 then (sgn, 0) else
  let emin : Int := 1 - (f.bias : Int) - f.manBits
  let qe : Int := max (e + bitLen m - (f.manBits + 1)) emin
  let q := if qe ≤ e then m * 2 ^ (e - qe).toNat else roundShift r neg m (qe - e).toNat
  let carry := q = 2 ^ (f.manBits + 1)
  let q' := if carry then q / 2 else q
  let qe' := if carry then qe + 1 else qe
  let mag : Nat :=
    if q' < 2 ^ f.manBits then q'
    else (qe' + f.manBits + f.bias).toNat * 2 ^ f.manBits + (q' - 2 ^ f.manBits)
  let big := mag > maxFinite f
  let toInf := big ∧ f.special = .ieee ∧ sat = false ∧ (r = .rne ∨ (r = .up ∧ neg = false))
  if toInf then (sgn + (2 ^ f.expBits - 1) * 2 ^ f.manBits, 0)
  else if big then (sgn + maxFinite f, flagSAT)
  else
    let exceeds := mag = maxFinite f ∧ qe > e ∧ q * 2 ^ (qe - e).toNat < m
    (sgn + mag, if mag = 0 then flagUNDERFLOW else if exceeds then flagSAT else 0)

/-- Rounds an exact value to a format without saturation of infinities (R72): code and flags. -/
def encodeFp (f : FpFormat) (r : Rnd) (sat : Bool) : FVal → Nat × Nat
  | .nan _ => (canonicalNaN f, 0)
  | .inf n =>
    let sgn := if n then 2 ^ (f.expBits + f.manBits) else 0
    if f.special = .ieee ∧ sat = false then (sgn + (2 ^ f.expBits - 1) * 2 ^ f.manBits, 0)
    else (sgn + maxFinite f, flagSAT)
  | .fin n m e => roundFp f r sat n m e

/-- Rounds an exact value to an integer of `w` bits, saturating (R72). NaN becomes 0 and sets NAN_IN. -/
def encodeInt (w : Nat) (r : Rnd) : FVal → Nat × Nat
  | .nan _ => (0, flagNAN_IN)
  | .inf n => (codeOf w (if n then -(2 ^ (w - 1) : Nat) else (2 ^ (w - 1) - 1 : Nat)), flagSAT)
  | .fin n m e =>
    let q := if 0 ≤ e then m * 2 ^ e.toNat else roundShift r n m (-e).toNat
    let top := if n then 2 ^ (w - 1) else 2 ^ (w - 1) - 1
    let big := decide (q > top) || (decide (q = top) && decide (e < 0) && decide (q * 2 ^ (-e).toNat < m))
    let q' := min q top
    (codeOf w (if n then -(q' : Int) else q'),
      if big then flagSAT else if q = 0 ∧ m ≠ 0 then flagUNDERFLOW else 0)

/-- Whether a value is a NaN. -/
def FVal.isNaN : FVal → Bool
  | .nan _ => true
  | _ => false

/-- Whether a value is an infinity or a NaN. -/
def FVal.nonfinite : FVal → Bool
  | .fin _ _ _ => false
  | _ => true

/-- Whether a value is a zero of either sign. -/
def FVal.isZero : FVal → Bool
  | .fin _ m _ => m = 0
  | _ => false

/-- The sign of a value; a NaN counts as positive (R52). -/
def FVal.isNeg : FVal → Bool
  | .nan _ => false
  | .inf n => n
  | .fin n _ _ => n

/-- The flags a consumed NaN sets (R80). -/
def FVal.nanFlags : FVal → Nat
  | .nan true => flagSNAN ||| flagNAN_IN
  | .nan false => flagNAN_IN
  | _ => 0

/-- +0. -/
def fZero : FVal := .fin false 0 0
/-- 1. -/
def fOne : FVal := .fin false 1 0

/-- The opposite sign. -/
def FVal.neg : FVal → FVal
  | .nan s => .nan s
  | .inf n => .inf (!n)
  | .fin n m e => .fin (!n) m e

/-- The magnitude. -/
def FVal.abs : FVal → FVal
  | .nan s => .nan s
  | .inf _ => .inf false
  | .fin _ m e => .fin false m e

/-- The signed integer ± m · 2^(e - k), for k ≤ e. -/
def scaledInt (n : Bool) (m : Nat) (e k : Int) : Int :=
  let v : Int := (m * 2 ^ (e - k).toNat : Nat)
  if n then -v else v

/-- The exact sum (R54, R75), with the flags of R80. -/
def addExact : FVal → FVal → FVal × Nat
  | .nan s, b => (.nan false, (FVal.nan s).nanFlags ||| b.nanFlags)
  | a, .nan s => (.nan false, (FVal.nan s).nanFlags ||| a.nanFlags)
  | .inf n, .inf k => if n = k then (.inf n, 0) else (.nan false, flagNAN_OUT)
  | .inf n, .fin _ _ _ => (.inf n, 0)
  | .fin _ _ _, .inf n => (.inf n, 0)
  | .fin n m e, .fin n' m' e' =>
    let k := min e e'
    let z := scaledInt n m e k + scaledInt n' m' e' k
    if z = 0 then (.fin (n && n' && decide (m = 0)) 0 0, 0)
    else (.fin (decide (z < 0)) z.natAbs k, 0)

/-- The exact product (R54, R75), with the flags of R80. -/
def mulExact : FVal → FVal → FVal × Nat
  | .nan s, b => (.nan false, (FVal.nan s).nanFlags ||| b.nanFlags)
  | a, .nan s => (.nan false, (FVal.nan s).nanFlags ||| a.nanFlags)
  | .inf n, b => if b.isZero then (.nan false, flagNAN_OUT) else (.inf (n != b.isNeg), 0)
  | a, .inf n => if a.isZero then (.nan false, flagNAN_OUT) else (.inf (n != a.isNeg), 0)
  | .fin n m e, .fin n' m' e' => (.fin (n != n') (m * m') (e + e'), 0)

/-- a < b of two values, false when either is a NaN; −0 equals +0 (R54, R120). -/
def ltExact : FVal → FVal → Bool
  | .nan _, _ => false
  | _, .nan _ => false
  | .inf n, .inf k => n && !k
  | .inf n, .fin _ _ _ => n
  | .fin _ _ _, .inf k => !k
  | .fin n m e, .fin n' m' e' =>
    let k := min e e'
    decide (scaledInt n m e k < scaledInt n' m' e' k)

/-- a = b of two values, false when either is a NaN; −0 equals +0 (R54, R120). -/
def eqExact (a b : FVal) : Bool := !a.isNaN && !b.isNaN && !ltExact a b && !ltExact b a

/-- The minimum of R79: a NaN propagates, −0 lies below +0. -/
def minExact (a b : FVal) : FVal × Nat :=
  if a.isNaN || b.isNaN then (.nan false, a.nanFlags ||| b.nanFlags)
  else if ltExact a b then (a, 0) else if ltExact b a then (b, 0)
  else (if a.isNeg then a else b, 0)

/-- The maximum of R79: a NaN propagates, −0 lies below +0. -/
def maxExact (a b : FVal) : FVal × Nat :=
  if a.isNaN || b.isNaN then (.nan false, a.nanFlags ||| b.nanFlags)
  else if ltExact a b then (b, 0) else if ltExact b a then (a, 0)
  else (if a.isNeg then b else a, 0)

/-- One rounding to binary32, as a value again. -/
def round32With (r : Rnd) (p : FVal × Nat) : FVal × Nat :=
  let q := encodeFp fmtB32 r false p.1
  (decodeFp fmtB32 q.1, p.2 ||| q.2)

/-- One rounding to binary32, to nearest even. -/
def round32 (p : FVal × Nat) : FVal × Nat := round32With .rne p

/-- The binary32 sum. -/
def add32 (a b : FVal) : FVal × Nat := round32 (addExact a b)

/-- The binary32 product. -/
def mul32 (a b : FVal) : FVal × Nat := round32 (mulExact a b)

/-- The exact a × b + c, for one rounding (R120). -/
def fmaExact (a b c : FVal) : FVal × Nat :=
  let p := mulExact a b
  let s := addExact p.1 c
  (s.1, p.2 ||| c.nanFlags ||| (if p.1.isNaN then 0 else s.2))

/-- The code of a value in binary32, to nearest even. -/
def code32 (v : FVal) : Nat := (encodeFp fmtB32 .rne false v).1

/-- The value of a binary32 code. -/
def val32 (c : Nat) : FVal := decodeFp fmtB32 c

/-- The exact value of an integer. -/
def fInt (z : Int) : FVal := .fin (decide (z < 0)) z.natAbs 0

/-- floor of ± m · 2^e. -/
def floorFin (n : Bool) (m : Nat) (e : Int) : Int :=
  if 0 ≤ e then scaledInt n m e 0
  else (if n then -(m : Int) else m) / (2 ^ (-e).toNat : Nat)

/-- floor(log2 v) of a nonzero finite magnitude. -/
def log2Floor (m : Nat) (e : Int) : Int := e + (Nat.log2 m : Int)

/-- T[i] of R122: the binary32 value nearest to 2^(i/64). -/
def expTable : List Nat := [
  0x3f800000, 0x3f8164d2, 0x3f82cd87, 0x3f843a29, 0x3f85aac3, 0x3f871f62, 0x3f88980f, 0x3f8a14d5,
  0x3f8b95c2, 0x3f8d1adf, 0x3f8ea43a, 0x3f9031dc, 0x3f91c3d3, 0x3f935a2b, 0x3f94f4f0, 0x3f96942d,
  0x3f9837f0, 0x3f99e046, 0x3f9b8d3a, 0x3f9d3eda, 0x3f9ef532, 0x3fa0b051, 0x3fa27043, 0x3fa43516,
  0x3fa5fed7, 0x3fa7cd94, 0x3fa9a15b, 0x3fab7a3a, 0x3fad583f, 0x3faf3b79, 0x3fb123f6, 0x3fb311c4,
  0x3fb504f3, 0x3fb6fd92, 0x3fb8fbaf, 0x3fbaff5b, 0x3fbd08a4, 0x3fbf179a, 0x3fc12c4d, 0x3fc346cd,
  0x3fc5672a, 0x3fc78d75, 0x3fc9b9be, 0x3fcbec15, 0x3fce248c, 0x3fd06334, 0x3fd2a81e, 0x3fd4f35b,
  0x3fd744fd, 0x3fd99d16, 0x3fdbfbb8, 0x3fde60f5, 0x3fe0ccdf, 0x3fe33f89, 0x3fe5b907, 0x3fe8396a,
  0x3feac0c7, 0x3fed4f30, 0x3fefe4ba, 0x3ff28177, 0x3ff5257d, 0x3ff7d0df, 0x3ffa83b3, 0x3ffd3e0c]

/-- RC[i] of R123: the binary32 value nearest to 1 / c_i. -/
def recTable : List Nat := [
  0x3f7e03f8, 0x3f7a232d, 0x3f76603e, 0x3f72b9d6, 0x3f6f2eb7, 0x3f6bbdb3, 0x3f6865ac, 0x3f652598,
  0x3f61fc78, 0x3f5ee95c, 0x3f5beb62, 0x3f5901b2, 0x3f562b81, 0x3f53680d, 0x3f50b6a0, 0x3f4e168a,
  0x3f4b8728, 0x3f4907da, 0x3f46980c, 0x3f443730, 0x3f41e4bc, 0x3f3fa030, 0x3f3d6910, 0x3f3b3ee7,
  0x3f392144, 0x3f370fbb, 0x3f3509e7, 0x3f330f63, 0x3f311fd4, 0x3f2f3ade, 0x3f2d602b, 0x3f2b8f6a,
  0x3f29c84a, 0x3f280a81, 0x3f2655c4, 0x3f24a9cf, 0x3f23065e, 0x3f216b31, 0x3f1fd80a, 0x3f1e4cad,
  0x3f1cc8e1, 0x3f1b4c70, 0x3f19d723, 0x3f1868c8, 0x3f17012e, 0x3f15a025, 0x3f144581, 0x3f12f114,
  0x3f11a2b4, 0x3f105a38, 0x3f0f177a, 0x3f0dda52, 0x3f0ca29c, 0x3f0b7034, 0x3f0a42f8, 0x3f091ac7,
  0x3f07f781, 0x3f06d905, 0x3f05bf37, 0x3f04a9fa, 0x3f039930, 0x3f028cc0, 0x3f01848e, 0x3f008081]

/-- LC[i] of R123: the binary32 value nearest to ln c_i. -/
def logTable : List Nat := [
  0x3bff0153, 0x3cbdc8d8, 0x3d1cf43e, 0x3d5a16ec, 0x3d8b29b7, 0x3da8d83a, 0x3dc61a2f, 0x3de2f2a4,
  0x3dff648a, 0x3e0db957, 0x3e1b8fe1, 0x3e29372f, 0x3e36b07f, 0x3e43fd03, 0x3e511de1, 0x3e5e1434,
  0x3e6ae10b, 0x3e77856e, 0x3e82012d, 0x3e882c60, 0x3e8e44c6, 0x3e944ad1, 0x3e9a3eed, 0x3ea02184,
  0x3ea5f2fd, 0x3eabb3b9, 0x3eb16418, 0x3eb70475, 0x3ebc952b, 0x3ec2168f, 0x3ec788f4, 0x3eccecac,
  0x3ed24205, 0x3ed7894a, 0x3edcc2c5, 0x3ee1eebd, 0x3ee70d78, 0x3eec1f39, 0x3ef12441, 0x3ef61ccf,
  0x3efb0920, 0x3effe970, 0x3f025efd, 0x3f04c37a, 0x3f07224c, 0x3f097b8d, 0x3f0bcf56, 0x3f0e1dc1,
  0x3f1066e7, 0x3f12aade, 0x3f14e9c0, 0x3f1723a2, 0x3f19589a, 0x3f1b88be, 0x3f1db422, 0x3f1fdadc,
  0x3f21fcff, 0x3f241a9f, 0x3f2633cd, 0x3f28489e, 0x3f2a5923, 0x3f2c656e, 0x3f2e6d8f, 0x3f307198]

/-- The product table entry as a value. -/
def tableVal (t : List Nat) (i : Nat) : FVal := val32 (t.getD i 0)

/-- Clamp of R122 to −200.0 .. 200.0. -/
def clamp200 (v : FVal) : FVal :=
  if ltExact v (fInt (-200)) then fInt (-200) else if ltExact (fInt 200) v then fInt 200 else v

/-- exp of R122: the binary32 value and the flags. -/
def exp32 (x : FVal) : FVal × Nat :=
  match x with
  | .nan s => (.nan false, (FVal.nan s).nanFlags)
  | _ =>
    let y := clamp200 (mul32 x (val32 0x3FB8AA3B)).1
    match y with
    | .fin n m e =>
      let t := addExact (.fin n m (e + 6)) (.fin false 1 (-1))
      let j : Int := match t.1 with
        | .fin n' m' e' => floorFin n' m' e'
        | _ => 0
      let f := (addExact y (.fin (decide (0 < j)) j.natAbs (-6))).1
      let i := (j % 64).toNat
      let q := (j - i) / 64
      let p1 := (add32 (val32 0x3E75FDF0) (mul32 f (val32 0x3D635847)).1).1
      let p2 := (add32 (val32 0x3F317218) (mul32 f p1).1).1
      let p := (add32 fOne (mul32 f p2).1).1
      let tp := (mulExact (tableVal expTable i) p).1
      round32 (mulExact tp (.fin false 1 q))
    | v => (v, 0)

/-- log of R123: the binary32 value and the flags. -/
def log32 (x : FVal) : FVal × Nat :=
  match x with
  | .nan s => (.nan false, (FVal.nan s).nanFlags)
  | .inf false => (.inf false, 0)
  | .inf true => (.nan false, flagNAN_OUT)
  | .fin n m e =>
    if m = 0 then (.inf true, 0)
    else if n then (.nan false, flagNAN_OUT)
    else
      let k := Nat.log2 m
      let ex : Int := e + k
      let i := (m - 2 ^ k) * 64 / 2 ^ k
      let mv : FVal := .fin false m (-(k : Int))
      let c : FVal := .fin true (128 + 2 * i + 1) (-7)
      let r := (mul32 (addExact mv c).1 (tableVal recTable i)).1
      let a := (add32 (val32 0xBF000000) (mul32 r (val32 0x3EAAAAAB)).1).1
      let b := (add32 fOne (mul32 r a).1).1
      let p := (mul32 r b).1
      let h := (add32 (mul32 (fInt ex) (val32 0x3F317218)).1 (tableVal logTable i)).1
      add32 h p

/-- reciprocal of R124: the binary32 value nearest to 1/x, and the flags. -/
def recip32 (x : FVal) : FVal × Nat :=
  match x with
  | .nan s => (.nan false, (FVal.nan s).nanFlags)
  | .inf n => (.fin n 0 0, 0)
  | .fin n m e =>
    if m = 0 then (.inf n, 0)
    else
      let k := bitLen m + 200
      let q := 2 * (2 ^ k / m) + (if 2 ^ k % m = 0 then 0 else 1)
      round32 (.fin n q (-e - k - 1), 0)

/-- The reciprocal square root of R120: exp(−0.5 × log x), one rounding per component. -/
def rsqrt32 (x : FVal) : FVal × Nat :=
  let l := log32 x
  let h := mul32 (.fin true 1 (-1)) l.1
  let r := exp32 h.1
  (r.1, l.2 ||| (if l.1.isNaN then 0 else h.2 ||| r.2))

/-- Division of R120, exact after the reciprocal: x × reciprocal(y). -/
def divExact (x y : FVal) : FVal × Nat :=
  let r := recip32 y
  let p := mulExact x r.1
  (p.1, r.2 ||| p.2)

/-- Quantises one value to an MX or OK4 element: |x| / 2^e on the element grid, saturating, +0 for zero
(R54, R69, R72, R73). -/
def quantElem (f : FpFormat) (r : Rnd) (e : Int) : FVal → Nat × Nat
  | .fin n m x =>
    let q := roundFp f r true n m (x - e)
    if q.1 % 2 ^ (f.expBits + f.manBits) = 0 then (0, q.2) else q
  | .inf n => ((if n then 2 ^ (f.expBits + f.manBits) else 0) + maxFinite f, flagSAT)
  | .nan _ => (0, 0)

/-- Quantises one value to an MXINT8 code: x / 2^e in units of 2^−6, within ±127 (R61, R72, R73). -/
def quantInt8 (r : Rnd) (e : Int) : FVal → Nat × Nat
  | .fin n m x =>
    let e' := x - e + 6
    let q := if 0 ≤ e' then m * 2 ^ e'.toNat else roundShift r n m (-e').toNat
    let big := decide (q > 127) || (decide (q = 127) && decide (e' < 0) && decide (q * 2 ^ (-e').toNat < m))
    let q' := min q 127
    (codeOf 8 (if n then -(q' : Int) else q'),
      if big then flagSAT else if q = 0 ∧ m ≠ 0 then flagUNDERFLOW else 0)
  | .inf n => (codeOf 8 (if n then -127 else 127), flagSAT)
  | .nan _ => (0, 0)

/-- The largest magnitude of a list of values; an infinity counts as the largest binary32 finite (R73). -/
def amaxOf : List FVal → FVal
  | [] => fZero
  | v :: t =>
    let a := amaxOf t
    let w := match v with
      | .inf _ => val32 0x7F7FFFFF
      | _ => v.abs
    if ltExact a w then w else a

/-- The shared exponent of a block: floor(log2 amax) − emax, clamped (R69, R73). -/
def sharedExp (amax : FVal) (emax lo hi : Int) : Int :=
  match amax with
  | .fin _ m e => if m = 0 then lo else max lo (min hi (log2Floor m e - emax))
  | _ => hi

/-- OK4 quantisation of a block of 16 values (R69): element codes, scale byte, flags. -/
def quantOK4 (r : Rnd) (d : List FVal) : List Nat × Nat × Nat :=
  if d.any FVal.nonfinite then (d.map (fun _ => 0), 0xFF, flagNAN_OUT)
  else
    let e := sharedExp (amaxOf d) 2 (-127) 125
    let q := d.map (quantElem fmtE2M1 r e)
    (q.map (·.1), (e + 127).toNat, q.foldl (fun a p => a ||| p.2) 0)

end Sys2Proof.Machine
end

