-- ==== Sys2Proof/Machine/State.lean ====
section
/-! DEFINITION. The state of the block: plain data that holds every register, memory, queue, counter, mode and pin
the spec gives the device, the queue of waiting commands, the reasons a step can stop, and the state at power-on. -/

namespace Sys2Proof.Machine

/-! ## Register fields -/

/-- The access types of R12. -/
inductive Acc where
  | ro | rw | rwl | w1c | w1s | wo | rov
deriving DecidableEq, Repr

/-- One field of a register map: its register's byte offset, its low bit and width, its reset value and access type,
and the counts and strides of its instances (two levels of registers, one of bit groups). -/
structure Fld where
  off : Nat
  lo : Nat
  w : Nat
  reset : Nat
  acc : Acc
  n1 : Nat
  s1 : Nat
  n2 : Nat
  s2 : Nat
  nb : Nat
  bs : Nat
deriving DecidableEq, Repr

/-! ## The plot (chapters 1 to 6) -/

/-- An active loop of a plot or tine program: its body and the executions left (R143, R188). -/
structure LoopSt where
  first : Nat
  last : Nat
  left : Nat
deriving DecidableEq, Repr

/-- The MCFG in force (R145). -/
structure MatCfg where
  stat : Nat
  strm : Nat
  klen : Nat
  nlen : Nat
  stride : Nat
  rowscale : Bool
deriving DecidableEq, Repr

/-- The cleared matrix configuration (R136). -/
def MatCfg.reset : MatCfg := ⟨0, 0, 0, 0, 0, false⟩

/-- A stationary set: format, kind of checksum entries, decoded element codes K-major, block scales, the
checksum column entries c[k] and a[k] (R95, R97, R145), the extents of the load, and the open checks its data depends on. -/
structure Tile where
  fmt : Nat
  intKind : Bool
  codes : List Nat
  scales : List Nat
  c : List Nat
  a : List Nat
  klen : Nat
  nlen : Nat
  deps : List Nat
  bad : Bool
deriving DecidableEq, Repr

/-- A stationary load that waits for the next swap (R100): its tile or the code it ends with, and its instruction. -/
structure Load where
  tile : Tile
  err : Nat
  pc : Nat
deriving DecidableEq, Repr

/-- A streamed row whose check has not closed (R115): its check number, whether the comparison of R112 to R114 passes,
and what the signature registers would capture. -/
structure RowCheck where
  id : Nat
  pass : Bool
  nonfinite : Bool
  predicted : Nat
  actual : Nat
  tau : Nat
  injected : Bool
  fmtStat : Nat
  fmtStrm : Nat
  mode : Nat
  accRow : Nat
  streamRow : Nat
  instr : Nat
deriving DecidableEq, Repr

/-- A vector or attention write whose own check has not closed (R126, R247): its check number, its instruction, and for
the attention pipeline the code, page and row, and whether only finiteness was compared. -/
structure UnitCheck where
  id : Nat
  pc : Nat
  code : Nat
  page : Nat
  row : Nat
  nonfinite : Bool
deriving DecidableEq, Repr

/-- An open check by number: the open checks its data depends on, whether a value it depends on has failed, and
whether its own comparison has closed and passed (R119, R140, R141). -/
structure Dep where
  id : Nat
  deps : List Nat
  bad : Bool
  own : Bool
deriving DecidableEq, Repr

/-- The check state and marks of a scratch line or accumulator segment (R140, R161): the open checks of its writers,
whether it is FAILED, its region marks, and whether the running program has written it (R150). -/
structure UnitSt where
  opens : List Nat
  failed : Bool
  read : Bool
  born : Bool
  wrote : Bool
deriving DecidableEq, Repr

/-- A DMA descriptor, as read at issue (R152). -/
structure Desc where
  srcDev : Nat
  srcAddr : Nat
  dstDev : Nat
  dstAddr : Nat
  length : Nat
  rows : Nat
  srcStride : Nat
  dstStride : Nat
  dstExt : Nat
  srcExt : Nat
  dstRemote : Bool
  srcRemote : Bool
  cls : Nat
  dstSpace : Nat
  srcSpace : Nat
  redop : Nat
  kind : Nat
  stream : Nat
  dlEn : Bool
  deadline : Nat
deriving DecidableEq, Repr

/-- A descriptor accepted and not complete (R130, R155): its index, instruction and counter, whether it is outbound and
released, the code of its first failure, the bytes it has given to its stream (R239), how many of its remote pieces have been
sent and how many of those have not been answered, whether its writes to companion memory have begun, the remote bytes that
wait for the stream, by piece, and the check that holds its destination OPEN (R140). -/
structure DmaRun where
  id : Nat
  desc : Nat
  pc : Nat
  ctr : Option Nat
  outbound : Bool
  released : Bool
  err : Nat
  moved : Nat
  sent : Nat
  pieces : Nat
  wrote : Bool
  got : SMap (List Byte)
  check : Option Nat
  d : Desc
deriving DecidableEq, Repr

/-- What an outbound operation is (R159). -/
inductive OutKind where
  | desc (run : Nat)
  | signal (dev : Nat) (remote : Bool) (plot ctr add : Nat)
  | tissue (issue : Nat)
deriving DecidableEq, Repr

/-- An outbound operation that has not been released (R160). -/
structure OutOp where
  kind : OutKind
  pc : Nat
deriving DecidableEq, Repr

/-- Why the sequencer holds issue (R150, R158, R136). -/
inductive SeqWait where
  | none
  | fence (kind : Nat)
  | wait (ctr target : Nat)
  | halt
deriving DecidableEq, Repr

/-- One row of an attention state: m, l and o as binary32 codes (R224). -/
structure AttState where
  m : Nat
  l : Nat
  o : List Nat
deriving DecidableEq, Repr

/-- The configuration block of the attention pipeline (R236). -/
structure AttCfg where
  fold : Nat
  mask : Nat
  outfmt : Nat
  base : Nat
  tag : Nat
  out : Nat
  tee : Nat
  slot : Nat
  layer : Nat
  kvhead : Nat
  anc : List Nat
  rowinfo : List Nat
  q : Nat
deriving DecidableEq, Repr

/-- The attention pipeline of a plot (R236, R237): the configuration, whether ACFG and QLOAD have been issued since the
last CLEAR or checkpoint, the query rows, the running state by row, the open checks its data depends on, and the entries of a waiting KVPAGES that are done. -/
structure AttPipe where
  cfg : Option AttCfg
  fresh : Bool
  loaded : Bool
  qrows : List (List Nat)
  rows : SMap AttState
  deps : List Nat
  bad : Bool
  done : Nat
  waiting : Bool
deriving DecidableEq, Repr

/-- One attention stream: the bytes buffered and the code of an arrival with an error status (R239). -/
structure Stream where
  bytes : List Byte
  err : Option Nat
deriving DecidableEq, Repr

/-- What a checkpoint saves (R163). -/
structure Ckpt where
  idx : List Nat
  loops : List LoopSt
  mat : MatCfg
  att : Option AttCfg
deriving DecidableEq, Repr

/-- A word that a tine's bed write buffer holds: address in the bed, and the value or the addition (R196). -/
structure BedWrite where
  addr : Nat
  bytes : Nat
  value : Nat
  add : Option Nat
deriving DecidableEq, Repr

/-- Why a running tine does not execute (R189, R233). -/
inductive TineWait where
  | none
  | act
  | partialRec
deriving DecidableEq, Repr

/-- An open check of a tine (R200, R247): 0 or the code of its failure, the page and row it concerns, whether only
finiteness was compared, and the unit checks that close with it. -/
structure TineCheck where
  code : Nat
  page : Nat
  row : Nat
  nonfinite : Bool
  ids : List Nat
deriving DecidableEq, Repr

/-- One tine (R182). Its STATE and tallies are register fields. -/
structure Tine where
  pc : Nat
  regs : List Nat
  loops : List LoopSt
  acc : SMap Nat
  att : List AttState
  attDone : Nat
  wbuf : List BedWrite
  wait : TineWait
  ended : Bool
  intTmv : Bool
  checks : List TineCheck
  attTag : Nat
  deps : List Nat
  bad : Bool
deriving DecidableEq, Repr

/-- An issue of tine programs (R185, R186): the instruction and its fields, whether it was released, the
scratch lines it has written, the code of its first stop (0 for none), and whether its buffers are applied. -/
structure Issue where
  id : Nat
  pc : Nat
  chmask : Nat
  arg : Nat
  entry : Nat
  outbound : Bool
  ctr : Option Nat
  released : Bool
  lines : List Nat
  stop : Nat
  applied : Bool
deriving DecidableEq, Repr

/-- An entry of a channel's suspect table (R208). -/
structure Suspect where
  bank : Nat
  row : Nat
  count : Nat
deriving DecidableEq, Repr

/-- One bed channel beyond its registers (R178 to R184, R204 to R208). -/
structure Channel where
  hold : List FabReq
  router : List FabReq
  heldAtPause : Nat
  suspended : Bool
  batchOver : Bool
  queue : List Nat
  cur : Option Nat
  args : List Nat
  actRows : Nat
  actKb : Nat
  act : SMap Nat
  actScale : SMap Nat
  suspects : List Suspect
  remaps : List (Nat × Nat × Nat)
  copying : Option (Nat × Nat × Nat)
  refreshing : Nat
  pm : SMap Nat
  pmErr : SMap Nat
deriving DecidableEq, Repr

/-- A sow in reception (R168). -/
structure Sow where
  gen : Nat
  lib : Nat
  base : Nat
  count : Nat
  crc : Nat
  next : Nat
  words : List Nat
  fail : Nat
deriving DecidableEq, Repr

/-- A physical plot: its register fields, and all it holds beyond them. -/
structure Plot where
  regs : SMap Nat
  pm : SMap Nat
  pmErr : SMap Nat
  scrErr : SMap Nat
  acc : SMap Nat
  accErr : SMap Nat
  units : SMap UnitSt
  abortPending : Bool
  loops : List LoopSt
  wait : SeqWait
  ckpt : Ckpt
  mat : MatCfg
  live : Option Tile
  shadow : Option Tile
  shadowErr : Nat
  shadowPc : Nat
  waitLoad : Option Load
  loading : Bool
  swapTaken : Bool
  keptHdr : Option (Nat × List Byte)
  deps : List Dep
  nextCheck : Nat
  rowChecks : List RowCheck
  vecChecks : List UnitCheck
  attChecks : List UnitCheck
  outq : List OutOp
  suppress : Nat
  dmas : List DmaRun
  issues : List Issue
  nextIssue : Nat
  tines : SMap Tine
  channels : SMap Channel
  bedErr : SMap (List (Nat × Nat))
  att : AttPipe
  streams : SMap Stream
  sow : Option Sow
deriving DecidableEq, Repr

/-- A unit that no write has touched (R140). -/
def UnitSt.idle : UnitSt := ⟨[], false, false, false, false⟩

/-- The empty attention state of R224. -/
def AttState.empty : AttState := ⟨0xFF800000, 0, List.replicate 128 0⟩

/-- An idle tine (R185): address registers, ACC, attention state and write buffer at zero. -/
def Tine.reset : Tine := ⟨0, List.replicate 8 0, [], [], [], 0, [], .none, false, false, [], 0, [], false⟩

/-- A channel at reset (R178, R183). -/
def Channel.reset : Channel :=
  ⟨[], [], 0, false, false, [], none, List.replicate 16 0, 0, 0, [], [], [], [], none, 0, [], []⟩

/-- The attention pipeline at reset (R248). -/
def AttPipe.reset : AttPipe := ⟨none, false, false, [], [], [], false, 0, false⟩

/-- An empty attention stream (R239). -/
def Stream.reset : Stream := ⟨[], none⟩

/-- A plot at power-on: UNSOWN, every unit CLOSED, shadow EMPTY (R129, R136, R140). -/
def Plot.reset : Plot :=
  { regs := [], pm := [], pmErr := [], scrErr := [], acc := [], accErr := [], units := [], abortPending := false,
    loops := [], wait := .none, ckpt := ⟨List.replicate 15 0, [], MatCfg.reset, none⟩, mat := MatCfg.reset, live := none,
    shadow := none, shadowErr := 0, shadowPc := 0, waitLoad := none, loading := false, swapTaken := false, keptHdr := none,
    deps := [], nextCheck := 0, rowChecks := [], vecChecks := [], attChecks := [], outq := [], suppress := 0, dmas := [], issues := [],
    nextIssue := 0, tines := [], channels := [], bedErr := [], att := AttPipe.reset, streams := [], sow := none }

/-! ## GDDR7 and the fabric (chapters 8 and 9) -/

/-- A request at a regulation point: its due cycle, if it carries a deadline (R309), and whether it was accepted
before a retrain's START (R296). -/
structure Waiting where
  req : FabReq
  due : Option Nat
  early : Bool
deriving DecidableEq, Repr

/-- A regulation point beyond its registers (R310, R312): the configuration in force, the bytes granted to each class
in the window, the round-robin pointer and the waiting requests in order of arrival. -/
structure RegPoint where
  window : Nat
  spill : Bool
  mins : List Nat
  budgets : List Nat
  granted : List Nat
  rr : Nat
  queue : List Waiting
deriving DecidableEq, Repr

/-- A regulation point at reset (R315). -/
def RegPoint.reset : RegPoint :=
  ⟨4, true, List.replicate 7 0, List.replicate 7 0xFFFFFF, List.replicate 7 0, 0, []⟩

/-- A GDDR7 controller beyond its registers: CRC retries and accesses of the window of R288, the 256-byte cursor of
the weeder's GDDR7 range, and the logical plot and offset of its bed range (R293). -/
structure Gdc where
  winRetries : Nat
  winAccesses : Nat
  gddrPos : Nat
  bedPlot : Nat
  bedPos : Nat
deriving DecidableEq, Repr

/-- A controller at reset. -/
def Gdc.reset : Gdc := ⟨0, 0, 0, 0, 0⟩

/-- A library to sow (R166, R418): its identifier, base, words and CRC, and the logical plots it is for. -/
structure SowLib where
  id : Nat
  base : Nat
  words : List Nat
  crc : Nat
  first : Nat
  plots : Nat
deriving DecidableEq, Repr

/-- The Ervoec side of a sow (R169): the round, the libraries, and the physical plots that have not acknowledged OK, each with
the place of its library. -/
structure SowRound where
  round : Nat
  libs : List SowLib
  todo : List (Nat × Nat)
deriving DecidableEq, Repr

/-- A licence in force: serial number, licensed plots of each half, ports, and enabled formats (R541, R542). -/
structure Licence where
  serial : Nat
  west : Nat
  east : Nat
  ports : Nat
  oq4 : Bool
  ok4 : Bool
deriving DecidableEq, Repr

/-! ## Links, the companion and scale-out (chapters 10 to 12) -/

/-- A PROTOCOL flit kept until it is acknowledged (R341): its number, its bytes, and the first 32 bytes of the message
that starts in it, if one does. -/
structure Kept where
  seq : Nat
  flit : List Byte
  head : List Byte
deriving DecidableEq, Repr

/-- A link layer (R338 to R345): whether it runs, is lost, or is held by a retrain (R333), the next number to send, the flits kept, the next
number expected, whether flits are discarded until it comes, RETRY_REQ sent for it, flits accepted since the last
ACK, whether any has been accepted, the credits held and granted, the units owed, the messages that wait for credits with their class, and the bytes
of a message that continues in the next flit. -/
structure Link where
  sentInit : Bool
  up : Bool
  lost : Bool
  held : Bool
  txSeq : Nat
  kept : List Kept
  rxSeq : Nat
  discarding : Bool
  retries : Nat
  unacked : Nat
  accepted : Bool
  credits : List Nat
  grant : List Nat
  owed : List Nat
  waiting : List (Nat × List Byte)
  partialMsg : List Byte
deriving DecidableEq, Repr

/-- A link layer at a start (R340, R372). -/
def Link.reset : Link :=
  ⟨false, false, false, false, 0, [], 0, false, 0, 0, false, [0, 0, 0, 0], [0, 0, 0, 0], [0, 0, 0, 0], [], []⟩

/-- A mailbox message (R361). -/
structure Mail where
  major : Nat
  minor : Nat
  type : Nat
  flags : Nat
  seq : Nat
  status : Nat
  body : List Byte
deriving DecidableEq, Repr

/-- States of a link cache line (R350). -/
inductive LineState where
  | shared
  | exclusive
  | modified
deriving DecidableEq, Repr

/-- A line that the link cache holds. -/
structure Line where
  st : LineState
  data : List Byte
deriving DecidableEq, Repr

/-- Who waits for an access to companion memory: a fabric request, a descriptor's row, a core's load-reserved or
store-conditional (`sc`), a core's atomic operation with its operand (R349), an engine (0 SHAKE256, 1 CRC-64, 2 the
counter reader), or Ervoec for the entry of the job ring with an index (R359). -/
inductive HostUser where
  | fab (r : FabReq)
  | dma (p run row : Nat)
  | core (c : Nat) (sc : Bool)
  | amo (core op : Nat) (dbl : Bool) (operand : Nat)
  | engine (k : Nat)
  | job (index : Nat)
deriving DecidableEq, Repr

/-- An access to companion memory (R349): its user, address, length, data to write (none for a read), whether it keeps no
copy (RD_CUR, WR_FULL), the lines not yet served, and the bytes read, by line. -/
structure HostReq where
  id : Nat
  user : HostUser
  addr : Nat
  len : Nat
  data : Option (List Byte)
  noCopy : Bool
  left : List Nat
  got : SMap (List Byte)
deriving DecidableEq, Repr

/-- A coherent request outstanding at the home: its TAG, opcode and line, the bytes of a WB_DIRTY or WR_FULL, and what a
WR_FULL carries: 0 no ring line, 1 ring records, 2 the index line (R350, R359). -/
structure CohReq where
  tag : Nat
  opc : Nat
  line : Nat
  data : List Byte
  ring : Nat
deriving DecidableEq, Repr

/-- Who originated a remote request that holds a tag (R382, R383). -/
inductive TagUser where
  | piece (p run : Nat)
  | signal (p pc : Nat)
deriving DecidableEq, Repr

/-- A tag in use: its user, the port taken, and the number of the descriptor's piece. -/
structure TagUse where
  user : TagUser
  port : Nat
  piece : Nat
deriving DecidableEq, Repr

/-- A message in the shed's receive queue (R394). -/
structure Mgmt where
  opc : Nat
  src : Nat
  type : Nat
  port : Nat
  body : List Byte
deriving DecidableEq, Repr

/-- The companion link beyond its registers: mailboxes and the messages behind them, the link cache, the accesses and
coherent requests outstanding, requests that have expired, load reservations by core, vectors in their gap and those
held, the state of the index line, the ring lines by line number, heartbeat periods missed, whether heartbeats are timed,
posted writes that have not taken effect, and the lines whose acknowledgement a mailbox reply waits for, with its body
(R349 to R367, R540). -/
structure Companion where
  mboxIn : List Host.Cell
  mboxOut : List Host.Cell
  mail : Option Mail
  mailq : List Mail
  cache : SMap Line
  reqs : List HostReq
  coh : List CohReq
  expired : List Nat
  nextTag : Nat
  nextReq : Nat
  reserved : List (Nat × Nat)
  gaps : List Nat
  held : List Nat
  idxDirty : Bool
  idxOut : Bool
  idxEvt : Bool
  records : SMap (List Byte)
  missed : Nat
  hbOn : Bool
  ncOut : Nat
  ackWait : Option (List Nat × List Byte)
deriving DecidableEq, Repr

/-- The companion link at a start (R372). -/
def Companion.reset : Companion :=
  { mboxIn := [], mboxOut := [], mail := none, mailq := [], cache := [], reqs := [], coh := [], expired := [], nextTag := 0,
    nextReq := 0, reserved := [], gaps := [], held := [], idxDirty := false, idxOut := false, idxEvt := false, records := [],
    missed := 0, hbOn := false, ncOut := 0, ackWait := none }

/-! ## Slots and steps (chapter 7) -/

/-- A shoot tree (R260): nodes, parents and tokens. -/
structure Tree where
  n : Nat
  parents : List Nat
  tokens : List Nat
deriving DecidableEq, Repr

/-- A prompt chunk in its GDDR7 staging area (R256): address of its next token, tokens left, whether it ends the prompt. -/
structure Chunk where
  addr : Nat
  left : Nat
  last : Bool
deriving DecidableEq, Repr

/-- A slot beyond STP_SLOT (R250): what its OPEN latched, the pending token, tokens emitted, the position of the last
published record, the guide and its cursor, the chunks queued, the tree planned for the next step, the hold timer's
setting while it runs, the order of its OPEN, and the GDDR7 addresses of its item records (R219). -/
structure Slot where
  tag : Nat
  sample : Bool
  draftEn : Bool
  draftId : Nat
  maxShoots : Nat
  maxNew : Nat
  seed : Nat
  temp : Nat
  sieveP : Nat
  stops : List Nat
  token : Nat
  emitted : Nat
  lastPos : Option Nat
  guideAddr : Nat
  guideLen : Nat
  guideLive : Bool
  cursor : Nat
  chunks : List Chunk
  lastSeen : Bool
  plan : Tree
  hold : Option Nat
  order : Nat
  items : List Nat
deriving DecidableEq, Repr

/-- The tree of the root alone (R260). -/
def Tree.root : Tree := ⟨1, [255], [0]⟩

/-- A FREE slot. -/
def Slot.reset : Slot :=
  { tag := 0, sample := false, draftEn := false, draftId := 0, maxShoots := 1, maxNew := 0, seed := 0, temp := 0, sieveP := 0,
    stops := [], token := 0, emitted := 0, lastPos := none, guideAddr := 0, guideLen := 0, guideLive := false, cursor := 0,
    chunks := [], lastSeen := false, plan := Tree.root, hold := none, order := 0, items := [] }

/-- One slot's part of a step (R272): a tree when it decodes, rows of its prompt when it is in prefill, and whether the
final row of its last chunk is among them. -/
structure StepEntry where
  slot : Nat
  decode : Bool
  tree : Tree
  rows : Nat
  addr : Nat
  final : Bool
deriving DecidableEq, Repr

/-- A page opened tentatively for a step (R227): the item record, the page, its frame. -/
structure OpenPage where
  item : Nat
  page : Nat
  frame : Nat
deriving DecidableEq, Repr

/-- The running step: its number, its slots, the pages opened, the slots without space for a page (R252),
and whether it was abandoned and is to run again (R268). -/
structure StepRun where
  no : Nat
  entries : List StepEntry
  opened : List OpenPage
  noSpace : List Nat
  again : Bool
deriving DecidableEq, Repr

/-- An event of the queue of R253, as the 32 bytes of R259. -/
structure Event where
  bytes : List Byte
deriving DecidableEq, Repr

/-- A slot transition outside a step that raises an event (R253). -/
inductive Trans where
  | park (s prior : Nat) (timer : Bool)
  | resume (s : Nat)
  | evict (s : Nat)
  | fail (s code : Nat)
  | cancel (s : Nat)
  | empty (s : Nat)
deriving DecidableEq, Repr

/-- A loaded placement (R418): plots used, its draft programs, whether it still fits, its libraries and the words of its tine
program. -/
structure Placement where
  plots : Nat
  drafts : Nat
  fits : Bool
  libs : List SowLib
  tine : List Nat
deriving DecidableEq, Repr

/-- Slots, the running step, the number of the last boundary, the order of the next OPEN, events, transitions and jobs that
wait, an orphan entry that waits for a boundary, a written STP_CFG that does (R274), the placement, and what holds
steps: bit 0 a firmware handover (R547), bit 1 a replica decision (R495), bit 2 live sparing (R485). -/
structure Steps where
  slots : SMap Slot
  run : Option StepRun
  lastNo : Nat
  nextOrder : Nat
  events : List Event
  waiting : List Trans
  jobs : List Job
  orphanWait : Bool
  cfgWait : Option Nat
  placement : Option Placement
  hold : Nat
deriving DecidableEq, Repr

/-- Every slot FREE, no step, no placement (R250, R372). -/
def Steps.reset : Steps :=
  { slots := [], run := none, lastNo := 0, nextOrder := 0, events := [], waiting := [], jobs := [], orphanWait := false,
    cfgWait := none, placement := none, hold := 0 }

/-! ## Module flash, lanes and bring-up (chapters 10, 13, 18 and 19) -/

/-- An entry of the repair map (R564): its KIND, the physical plot or controller, and channel, bank and row (an array row
has channel and bank 0). -/
structure Repair where
  kind : Nat
  unit : Nat
  chan : Nat
  bank : Nat
  row : Nat
deriving DecidableEq, Repr

/-- The contents of a lifetime record (R565): SEQ; the lifetime instruction counts, by plot * 20 + unit; the swing bins, of
20, 30 and 45 °C of the west half and then of the east; the committed steps; the next signature number; and the sensor mask of
every plot. -/
structure Life where
  seq : Nat
  units : SMap Nat
  bins : List Nat
  steps : Nat
  sig : Nat
  masks : SMap Nat
deriving DecidableEq, Repr

/-- A record that has never been written. -/
def Life.reset : Life := ⟨0, [], [0, 0, 0, 0, 0, 0], 0, 0, []⟩

/-- Module flash (R529, R563): its bytes, an unlisted one erased (0xFF); and the records whose encoding in flash the spec
leaves open or that the device alone writes: the repair map, the failed-start counter, the lifetime records A and B,
and the number of the next journal entry. -/
structure Flash where
  bytes : List Host.Cell
  repairs : List Repair
  repairSeq : Nat
  failStart : Nat
  lives : List Life
  journal : Nat
deriving DecidableEq, Repr

/-- Erased flash (log entry 3). -/
def Flash.reset : Flash := ⟨[], [], 0, 0, [Life.reset, Life.reset], 0⟩

/-- An octet beyond its registers: codewords received, the codeword counts at which uncorrectable ones came (R332), and
whether all eight lanes are back in play for the running retrain (R333). -/
structure Octet where
  cw : Nat
  bad : List Nat
  full : Bool
deriving DecidableEq, Repr

/-- An octet at a start. -/
def Octet.reset : Octet := ⟨0, [], false⟩

/-- The bring-up window beyond its registers (R408 to R417): whether the running step has done its actions, the outcome it
will end with (0 for completion), its last warning or informational code, whether
this start has been counted, whether the companion's boot switch is awaited (R326), whether the
last start ended by the bring-up watchdog (0x0104 is recorded at the next start), by core 0's watchdog (0x0406) or by a
thermal trip (0x0304), the east die's HALF_ID until it is shown,
the plots that failed a test of this start and the bed rows newly repaired in it, and the recovery command whose flash
work runs. -/
structure Boot where
  acted : Bool
  outcome : Option Nat
  warn : Nat
  failCounted : Bool
  switching : Bool
  wdogFired : Bool
  shedFired : Bool
  tripped : Bool
  halfEast : Nat
  failed : List (Nat × Nat)
  fresh : List Repair
  command : Option Nat
deriving DecidableEq, Repr

/-- The bring-up window at a start. -/
def Boot.reset : Boot := ⟨false, none, 0, false, false, false, false, false, 0, [], [], none⟩

/-- What holds the core in reset (R428 to R430, R576): the hold after a cause, RESET_N asserted, a thermal trip that has not
been released, and no input power. -/
structure Rst where
  held : Bool
  pin : Bool
  trip : Bool
  off : Bool
deriving DecidableEq, Repr

/-- Reset released. -/
def Rst.run : Rst := ⟨false, false, false, false⟩

/-! ## Trust (chapter 18) -/

/-- The trust area beyond its registers: DEV_IDENT and PUBKEY of the device certificate, whether the reservation record had
a good copy (R536), SERIAL and bytes of the licence in force, the configuration record's ROLLBACK, the region and header
of the running image, the slot of a staged image and whether it is live-eligible, the seconds that a live activation may
wait, whether its deferral has been recorded, the target of a fuse programming that runs with whether a message
commanded it, and the last wall-clock stamp (R501). -/
structure Trust where
  ident : List Byte
  pubkey : List Byte
  resvOk : Bool
  cfgRollback : Nat
  region : Nat
  image : List Byte
  staged : Option Nat
  live : Bool
  defer : Nat
  deferred : Bool
  fuse : Option Nat
  byMail : Bool
  stamp : Option (Nat × Nat)
deriving DecidableEq, Repr

/-- The trust area at a start. -/
def Trust.reset : Trust := ⟨[], [], false, 0, 0, [], none, false, 0, false, none, false, none⟩

/-! ## The shed (chapter 17) -/

/-- A shed core beyond its registers (R504, R505): what its mtime reads at ac count 0 since its release, mtimecmp, and
whether its timer interrupt is pending. -/
structure Core where
  mtime : Nat
  mtimecmp : Nat
  mtip : Bool
deriving DecidableEq, Repr

/-- A core at its release; mtimecmp at reset is a choice of the model (log entry 3). -/
def Core.reset : Core := ⟨0, 0, false⟩

/-- An engine operation in progress: its control word, source, length, and the bytes that a read of companion memory has
answered (R508 to R510). -/
structure EngRun where
  ctrl : Nat
  src : Nat
  len : Nat
  host : Option (List Byte × Nat)
deriving DecidableEq, Repr

/-- The shed beyond its registers: SRAM with the error mask of each 8-byte word (R506); the cores' timers; the interrupt
controller's assignments and round-robin pointers by source, its stacks by target with the newest claim first, and the
targets whose output was asserted since their last claim (R514 to R517); the running state of the SHAKE256 engine
and the operations of both engines. -/
structure Shed where
  sram : List Host.Cell
  sramErr : SMap Nat
  cores : SMap Core
  assigned : SMap Nat
  rr : SMap Nat
  stack : SMap (List (Nat × Nat))
  asserted : List Nat
  lanes : List (BitVec 64)
  tail : List Byte
  hash : Option EngRun
  crc : Option EngRun
deriving DecidableEq, Repr

/-- The shed at a start. -/
def Shed.reset : Shed := ⟨[], [], [], [], [], [], [], List.replicate 25 0, [], none, none⟩

/-! ## Power and heat (chapters 14 and 15) -/

/-- A plot's sensors beyond THM_PLOT: consecutive agreeing samples, consecutive invalid logic and bed readings and
samples with both invalid, and whether the last arbitrated values stood at the trip levels (R453, R460). -/
structure Sense where
  agree : Nat
  badLogic : Nat
  badBed : Nat
  badBoth : Nat
  hotLogic : Bool
  hotBed : Bool
deriving DecidableEq, Repr

/-- Sensors with nothing counted. -/
def Sense.reset : Sense := ⟨0, 0, 0, 0, false, false⟩

/-- A half's swing counter (R470): whether a sample has been taken, direction, extreme and start in units of 0.125 °C. -/
structure Swing where
  begun : Bool
  up : Bool
  ext : Int
  start : Int
deriving DecidableEq, Repr

/-- Power regulation, regulators and heat beyond their registers: the excess E in nJ and the excursion count Y (R441), D
in 256ths (R442), samples since a fast cut while its emergency bit is set (R467); setpoints of the rails in mV and
regulators with a fault not cleared (R444, R445); the plots' sensors; the thermal limit in mW (R456); whether the forecast
is valid (R457); the last eight flow intervals in ac and F's samples of the last second, run-length coded (R462); samples
since F stood at half its setpoint in FLOW_STOP (R463); the flow states; whether the inlet is out of range (R461); the
swing counters (R470); the hot-spot samples of the last second of D0, run-length coded (R469). -/
structure Therm where
  excess : Nat
  excursion : Nat
  duty : Nat
  cutAge : Option Nat
  rails : List Nat
  faults : List Nat
  sense : SMap Sense
  limit : Nat
  fcValid : Bool
  intervals : List Nat
  flows : List (Nat × Nat)
  flowBack : Nat
  flowLow : Bool
  flowThr : Bool
  flowStop : Bool
  inletRange : Bool
  swings : List Swing
  warm : List (Int × Nat)
deriving DecidableEq, Repr

/-- Power and heat at power-on: full duty, the limit at SUST_W, the rails at nominal (R444). -/
def Therm.reset : Therm :=
  { excess := 0, excursion := 0, duty := 256, cutAge := none, rails := [750, 750, 1050, 1200, 900, 800], faults := [],
    sense := [], limit := 1800000, fcValid := false, intervals := [], flows := [], flowBack := 0, flowLow := false,
    flowThr := false, flowStop := false, inletRange := false,
    swings := [⟨false, true, 0, 0⟩, ⟨false, true, 0, 0⟩], warm := [] }

/-! ## The module's connectors (chapter 20) -/

/-- What the module's connectors hold: contact groups mated in the order of R574 (5 when all are), the input in mV and mA,
the latched bits of STATUS_WORD and the six values of the telemetry as last refreshed (R582), ADDR_SEL as sampled (R580),
the I3C dynamic address, the current offset, and the status that the next READ reports (R583, R584), whether
DBG_TRIG_OUT_N is asserted (R569), and for the west and then the east die the JTAG instruction (0 IDCODE, 1 BYPASS, 2
SAMPLE/PRELOAD, 3 EXTEST, 4 the 1687 access instruction) and the boundary cells as preloaded (R570). -/
structure Tray where
  mated : Nat
  vin : Nat
  iin : Nat
  latched : Nat
  telem : List Nat
  addrSel : Nat
  dynAddr : Option Nat
  offset : Nat
  status : Nat
  trigOut : Bool
  ir : List Nat
  bsr : List (List Byte)
deriving DecidableEq, Repr

/-- A module in service at 48 V (log entry 3). -/
def Tray.reset : Tray := ⟨5, 48000, 0, 0, [0, 0, 0, 0, 0, 0], 0, none, 0, 0, false, [0, 0], [[], []]⟩

/-! ## Silent error defence (chapter 16) -/

/-- A failure under arbitration (R479, R480): the physical plot, its unit (0 to 3, 4 + TID of a tine), the code and instruction
of the stop, earlier occurrences on the plot, how far arbitration has come (0 replayed, 1 to be refereed, 2 being cloned, 3
refereed, 4 compared, 5 replayed with suspect inputs), the referee and whether its checks passed, and the checkpoint of the
replay. -/
structure Watch where
  plot : Nat
  unit : Nat
  code : Nat
  pc : Nat
  occ : Nat
  stage : Nat
  spare : Nat
  pass : Bool
  ckpt : Ckpt
  ckptPc : Nat
deriving DecidableEq, Repr

/-- A plot judged permanent that waits to be spared (R483, R489): the plot, verdict, code, unit kind and sub-unit, instruction,
captured registers, the referee that is preferred as spare, whether the move is to be made in mode RELOAD, and the register
fields of Ervoec's own record of the plot (R485). -/
structure Judged where
  plot : Nat
  verdict : Nat
  code : Nat
  kind : Nat
  sub : Option Nat
  pc : Nat
  captured : List Byte
  prefer : Option Nat
  reload : Bool
  record : SMap Nat
deriving DecidableEq, Repr

/-- A replica group that this device is in (R493 to R495): the replica it is, replicas, scope, the devices, steps committed
since the declaration, the epoch that waits for digests with the time it ended, the digests by replica with the time each was
received, and whether the replica is expelled (1), has flagged (2), or was expelled by decision (3). -/
structure Replica where
  group : Nat
  self : Nat
  count : Nat
  first : Nat
  plots : Nat
  devs : List Nat
  done : Nat
  waiting : Option (Nat × Nat)
  digests : SMap (List Byte × Nat)
  flagged : Nat
deriving DecidableEq, Repr

/-- A test content pack that runs on a physical plot (R491): the pack's place in flash, and whether this is the rerun. -/
structure PackRun where
  plot : Nat
  pack : Nat
  again : Bool
deriving DecidableEq, Repr

/-- The silent-error defence beyond its registers: failures under arbitration; transients by physical plot, unit and lifetime
count (R482); judgements that wait, the one whose move runs, and whether its completion waits for D1 (R489); qualified
spares (R484); requests held at the router of a plot that moves (R38); replica groups; packs that run; the lifetime record
at the start and the swing bins that it holds (R470, R482, R565); the next signature number (R500); the base
library of the running image (R418); and the critical words of which one copy is corrupted (R432, R498). -/
structure Sed where
  watches : List Watch
  history : List (Nat × Nat × Nat)
  judged : List Judged
  moving : Option Judged
  finish : Option (Nat × Option Nat)
  qualified : List Nat
  held : List FabReq
  groups : List Replica
  packs : List PackRun
  base : Life
  binsBase : List Nat
  sig : Nat
  baseLib : Option SowLib
  crit : List Nat
deriving DecidableEq, Repr

/-- The silent-error defence at a start. -/
def Sed.reset : Sed :=
  { watches := [], history := [], judged := [], moving := none, finish := none, qualified := [], held := [], groups := [],
    packs := [], base := Life.reset, binsBase := [0, 0, 0, 0, 0, 0], sig := 0, baseLib := none, crit := [] }

/-! ## The boundary -/

/-- What leaves the device, in order. -/
inductive Out where
  /-- The completion of a fabric request, to its master (R34, R37). -/
  | fabReply (req : FabReq) (code : Nat) (data : List Byte)
  /-- The result of a shed core's atomic or local access (R286, R506). -/
  | coreData (core value : Nat)
  /-- An exception on a shed core, by its RISC-V cause number (R286, R506). -/
  | coreTrap (core cause : Nat)
  /-- A flit on a link: 0 the companion's, 1 + q of scale-out port q (R338). -/
  | flit (link : Nat) (bytes : List Byte)
  /-- The fixed prune results of a step, to another device of the placement: slot, accepted nodes, new token (R267). -/
  | commitResult (dev : Nat) (slots : List (Nat × List Nat × Nat))
  /-- The value that a read of a register with a side effect answers (R567). -/
  | regData (off value : Nat)
  /-- The answer of the telemetry target, its low byte first (R582). -/
  | pmbus (bytes : List Byte)
  /-- The answer of the I3C target (R583, R584). -/
  | i3c (bytes : List Byte)
  /-- What a JTAG instruction shifts out of a die: 0 west, 1 east (R570). -/
  | jtag (die value : Nat)
deriving DecidableEq, Repr

/-! ## The device -/

/-- The device: all state but the fuses and the command queue. -/
structure Dev where
  /-- Register fields of the device, keyed by offset * 64 + low bit; unlisted at its reset value (R12). -/
  regs : SMap Nat
  /-- Physical plots (R23). -/
  plots : SMap Plot
  /-- Plot scratch, plot p at p * 2^20 (R137). -/
  scr : List Host.Cell
  /-- Plot beds, plot p at p * 2^26 (R172). -/
  bed : List Host.Cell
  /-- Module flash (R529, R563). -/
  flash : Flash
  /-- GDDR7 by its own address (R278). -/
  gddr : List Host.Cell
  /-- Synchronisation counters: logical number * 256 + counter (R156). -/
  sync : SMap Nat
  /-- Logical number to physical plot; an unlisted number is ABSENT (R26, R28). -/
  numbering : List (Nat × Nat)
  /-- A plot in referee mode: the logical number cloned and the physical spare (R481). -/
  referee : Option (Nat × Nat)
  /-- The regulation points (R310). -/
  points : SMap RegPoint
  /-- The GDDR7 controllers (R276). -/
  gdcs : SMap Gdc
  /-- A sow round of Ervoec (R169). -/
  sowRound : Option SowRound
  /-- The licence in force (R5, R542). -/
  licence : Option Licence
  /-- MODEL: free values drawn so far (DESIGN CHOICE, log entry 2). -/
  freeCtr : Nat
  /-- What has left the device's boundary, oldest first. -/
  outs : List Out
  /-- The link layers: 0 the companion's, 1 + q of scale-out port q (R340, R377). -/
  links : SMap Link
  /-- The companion link beyond its registers. -/
  cpl : Companion
  /-- The tag table of remote requests (R383). -/
  tags : SMap TagUse
  /-- Routing entries: GROUP at 0, LOCAL at 1,024 (R385). -/
  routes : SMap Nat
  /-- The shed's receive queue (R394). -/
  mgmt : List Mgmt
  /-- Slots, the running step, events and jobs (R250). -/
  steps : Steps
  /-- Good physical plots without a logical number, the spare pools of the halves (R26). -/
  spares : List Nat
  /-- GDDR7 granules retired, by number (R292). -/
  retired : List Nat
  /-- The octets of lanes beyond their registers (R328). -/
  octets : SMap Octet
  /-- The bring-up window beyond its registers (R408). -/
  boot : Boot
  /-- What holds the core in reset (R428). -/
  rst : Rst
  /-- The trust area beyond its registers. -/
  trust : Trust
  /-- The shed beyond its registers (R504). -/
  shed : Shed
  /-- Power and heat beyond their registers (R440, R449). -/
  therm : Therm
  /-- The connectors of the module (R574, R582, R583). -/
  tray : Tray
  /-- The silent-error defence beyond its registers. -/
  sed : Sed
  /-- The snapshot that is being written, as latched (R558). -/
  snap : List Byte
deriving DecidableEq, Repr

/-- The device at power-on. -/
def Dev.reset : Dev :=
  { regs := [], plots := [], scr := [], bed := [], flash := Flash.reset, gddr := [], sync := [], numbering := [],
    referee := none, points := [], gdcs := [], sowRound := none, licence := none, freeCtr := 0, outs := [],
    links := [], cpl := Companion.reset, tags := [], routes := [], mgmt := [], steps := Steps.reset,
    spares := [], retired := [], octets := [], boot := Boot.reset, rst := Rst.run, trust := Trust.reset,
    shed := Shed.reset, therm := Therm.reset, tray := Tray.reset, sed := Sed.reset, snap := [] }

/-- The fuses (R413, R523, R526, R534): KEY_HASH, the die identities of the west and east half, the identity of each die's
partner and the half each was assembled as, DEVICE_SEED, and the number of blown rollback positions. They change only by
fuse programming. -/
structure Fuses where
  keyHash : List Byte
  dieId : List Nat
  partner : List Nat
  assembled : List Nat
  seed : List Byte
  rollback : Nat
deriving DecidableEq, Repr

/-! ## The state -/

/-- Reasons a step can fault. -/
inductive Fault where
  /-- A 1687 instrument is accessed whose behaviour the spec does not give. Safe: the machine stops (R570). -/
  | undescribedInstrument
deriving DecidableEq, Repr

/-- Reasons a step can be refused. -/
inductive Refusal where
  /-- The command has no meaning yet. Safe: the machine stops. -/
  | notModelled (mnemonic : String)
deriving DecidableEq, Repr

/-- The state: the device, its fuses, and the commands that wait, first in, first out. -/
structure State where
  dev : Dev
  fused : Fuses
  pending : List Instr
deriving DecidableEq, Repr

/-- The fuses of the modelled device as manufactured (log entry 3). -/
def Fuses.reset : Fuses :=
  { keyHash := List.replicate 32 0, dieId := [0, 0], partner := [0, 0], assembled := [0, 1], seed := List.replicate 32 0,
    rollback := 0 }

/-- The block at power-on. -/
def State.reset : State := { dev := Dev.reset, fused := Fuses.reset, pending := [] }

end Sys2Proof.Machine
end

