-- ==== Sys2Proof/Machine/Regs.lean ====
section
/-! DEFINITION. The register maps of the chapters: one constant per field, with its register's byte offset in the
64 MiB register space (for the PLOT_ and BED_ registers, in the plot window; for PMC_, in the bank), its low bit and
width, its reset value and access type as the map gives them, and the instance counts and strides (R12, R39). -/

namespace Sys2Proof.Machine

/- PLOT_FMT_STATUS: chapter 2, R80. -/
def fPLOT_FMT_STATUS_OK4_SCALE : Fld := ⟨0xf00, 7, 1, 0x0, .w1c, 1, 0x0, 1, 0x0, 1, 0⟩
def fPLOT_FMT_STATUS_MX_NAN : Fld := ⟨0xf00, 6, 1, 0x0, .w1c, 1, 0x0, 1, 0x0, 1, 0⟩
def fPLOT_FMT_STATUS_INT_WRAP : Fld := ⟨0xf00, 5, 1, 0x0, .w1c, 1, 0x0, 1, 0x0, 1, 0⟩
def fPLOT_FMT_STATUS_SAT : Fld := ⟨0xf00, 4, 1, 0x0, .w1c, 1, 0x0, 1, 0x0, 1, 0⟩
def fPLOT_FMT_STATUS_UNDERFLOW : Fld := ⟨0xf00, 3, 1, 0x0, .w1c, 1, 0x0, 1, 0x0, 1, 0⟩
def fPLOT_FMT_STATUS_NAN_OUT : Fld := ⟨0xf00, 2, 1, 0x0, .w1c, 1, 0x0, 1, 0x0, 1, 0⟩
def fPLOT_FMT_STATUS_NAN_IN : Fld := ⟨0xf00, 1, 1, 0x0, .w1c, 1, 0x0, 1, 0x0, 1, 0⟩
def fPLOT_FMT_STATUS_SNAN : Fld := ⟨0xf00, 0, 1, 0x0, .w1c, 1, 0x0, 1, 0x0, 1, 0⟩

/- PLOT_ARR_STATUS: chapter 3, R127. -/
def fPLOT_ARR_STATUS_OPEN_SEGS : Fld := ⟨0x800, 15, 9, 0x0, .rov, 1, 0x0, 1, 0x0, 1, 0⟩
def fPLOT_ARR_STATUS_FAILED_SEGS : Fld := ⟨0x800, 7, 8, 0x0, .rov, 1, 0x0, 1, 0x0, 1, 0⟩
def fPLOT_ARR_STATUS_LIVE_VALID : Fld := ⟨0x800, 6, 1, 0x0, .rov, 1, 0x0, 1, 0x0, 1, 0⟩
def fPLOT_ARR_STATUS_SHADOW : Fld := ⟨0x800, 3, 3, 0x0, .rov, 1, 0x0, 1, 0x0, 1, 0⟩
def fPLOT_ARR_STATUS_INJECT_PENDING : Fld := ⟨0x800, 2, 1, 0x0, .rov, 1, 0x0, 1, 0x0, 1, 0⟩
def fPLOT_ARR_STATUS_STALLED : Fld := ⟨0x800, 1, 1, 0x0, .rov, 1, 0x0, 1, 0x0, 1, 0⟩
def fPLOT_ARR_STATUS_BUSY : Fld := ⟨0x800, 0, 1, 0x0, .rov, 1, 0x0, 1, 0x0, 1, 0⟩

/- PLOT_ARR_REPAIR: chapter 3, R127. -/
def fPLOT_ARR_REPAIR_SPARE1_EN : Fld := ⟨0x808, 17, 1, 0x0, .rw, 1, 0x0, 1, 0x0, 1, 0⟩
def fPLOT_ARR_REPAIR_SPARE1_ROW : Fld := ⟨0x808, 9, 8, 0x0, .rw, 1, 0x0, 1, 0x0, 1, 0⟩
def fPLOT_ARR_REPAIR_SPARE0_EN : Fld := ⟨0x808, 8, 1, 0x0, .rw, 1, 0x0, 1, 0x0, 1, 0⟩
def fPLOT_ARR_REPAIR_SPARE0_ROW : Fld := ⟨0x808, 0, 8, 0x0, .rw, 1, 0x0, 1, 0x0, 1, 0⟩

/- PLOT_ARR_ERR: chapter 3, R127. -/
def fPLOT_ARR_ERR_VEC_TABLE_PARITY : Fld := ⟨0x810, 6, 1, 0x0, .w1c, 1, 0x0, 1, 0x0, 1, 0⟩
def fPLOT_ARR_ERR_VEC_RESIDUE : Fld := ⟨0x810, 5, 1, 0x0, .w1c, 1, 0x0, 1, 0x0, 1, 0⟩
def fPLOT_ARR_ERR_REPAIR_REJECTED : Fld := ⟨0x810, 4, 1, 0x0, .w1c, 1, 0x0, 1, 0x0, 1, 0⟩
def fPLOT_ARR_ERR_SHADOW_DATA : Fld := ⟨0x810, 3, 1, 0x0, .w1c, 1, 0x0, 1, 0x0, 1, 0⟩
def fPLOT_ARR_ERR_ACC_PARITY : Fld := ⟨0x810, 2, 1, 0x0, .w1c, 1, 0x0, 1, 0x0, 1, 0⟩
def fPLOT_ARR_ERR_CHECK_MISMATCH : Fld := ⟨0x810, 1, 1, 0x0, .w1c, 1, 0x0, 1, 0x0, 1, 0⟩
def fPLOT_ARR_ERR_SWAP_EMPTY : Fld := ⟨0x810, 0, 1, 0x0, .w1c, 1, 0x0, 1, 0x0, 1, 0⟩

/- PLOT_ARR_SIG_ROW: chapter 3, R127. -/
def fPLOT_ARR_SIG_ROW_INJECTED : Fld := ⟨0x818, 40, 1, 0x0, .ro, 1, 0x0, 1, 0x0, 1, 0⟩
def fPLOT_ARR_SIG_ROW_NONFINITE : Fld := ⟨0x818, 39, 1, 0x0, .ro, 1, 0x0, 1, 0x0, 1, 0⟩
def fPLOT_ARR_SIG_ROW_FMT_STAT : Fld := ⟨0x818, 35, 4, 0x0, .ro, 1, 0x0, 1, 0x0, 1, 0⟩
def fPLOT_ARR_SIG_ROW_FMT_STRM : Fld := ⟨0x818, 31, 4, 0x0, .ro, 1, 0x0, 1, 0x0, 1, 0⟩
def fPLOT_ARR_SIG_ROW_MODE : Fld := ⟨0x818, 29, 2, 0x0, .ro, 1, 0x0, 1, 0x0, 1, 0⟩
def fPLOT_ARR_SIG_ROW_ACC_ROW : Fld := ⟨0x818, 21, 8, 0x0, .ro, 1, 0x0, 1, 0x0, 1, 0⟩
def fPLOT_ARR_SIG_ROW_STREAM_ROW : Fld := ⟨0x818, 13, 8, 0x0, .ro, 1, 0x0, 1, 0x0, 1, 0⟩
def fPLOT_ARR_SIG_ROW_INSTR : Fld := ⟨0x818, 0, 13, 0x0, .ro, 1, 0x0, 1, 0x0, 1, 0⟩

/- PLOT_ARR_SIG_SUMS: chapter 3, R127. -/
def fPLOT_ARR_SIG_SUMS_ACTUAL : Fld := ⟨0x820, 32, 32, 0x0, .ro, 1, 0x0, 1, 0x0, 1, 0⟩
def fPLOT_ARR_SIG_SUMS_PREDICTED : Fld := ⟨0x820, 0, 32, 0x0, .ro, 1, 0x0, 1, 0x0, 1, 0⟩

/- PLOT_ARR_SIG_TAU: chapter 3, R127. -/
def fPLOT_ARR_SIG_TAU_TAU : Fld := ⟨0x828, 0, 32, 0x0, .ro, 1, 0x0, 1, 0x0, 1, 0⟩

/- PLOT_ARR_EVCNT: chapter 3, R127. -/
def fPLOT_ARR_EVCNT_MISMATCHES : Fld := ⟨0x830, 48, 16, 0x0, .w1c, 1, 0x0, 1, 0x0, 1, 0⟩
def fPLOT_ARR_EVCNT_NONFINITE_ROWS : Fld := ⟨0x830, 32, 16, 0x0, .w1c, 1, 0x0, 1, 0x0, 1, 0⟩
def fPLOT_ARR_EVCNT_ACC_HAZARD : Fld := ⟨0x830, 16, 16, 0x0, .w1c, 1, 0x0, 1, 0x0, 1, 0⟩
def fPLOT_ARR_EVCNT_SHADOW_WAIT : Fld := ⟨0x830, 0, 16, 0x0, .w1c, 1, 0x0, 1, 0x0, 1, 0⟩

/- PLOT_ARR_INJECT: chapter 3, R127. -/
def fPLOT_ARR_INJECT_ARM : Fld := ⟨0x838, 12, 1, 0x0, .rw, 1, 0x0, 1, 0x0, 1, 0⟩
def fPLOT_ARR_INJECT_COL : Fld := ⟨0x838, 5, 7, 0x0, .rw, 1, 0x0, 1, 0x0, 1, 0⟩
def fPLOT_ARR_INJECT_BIT : Fld := ⟨0x838, 0, 5, 0x0, .rw, 1, 0x0, 1, 0x0, 1, 0⟩

/- PLOT_SEQ_CTRL: chapter 4, R170. -/
def fPLOT_SEQ_CTRL_PC : Fld := ⟨0x0, 3, 13, 0x0, .rw, 1, 0x0, 1, 0x0, 1, 0⟩
def fPLOT_SEQ_CTRL_CMD : Fld := ⟨0x0, 0, 3, 0x0, .wo, 1, 0x0, 1, 0x0, 1, 0⟩

/- PLOT_SEQ_STATUS: chapter 4, R170. -/
def fPLOT_SEQ_STATUS_PM_CORR : Fld := ⟨0x8, 48, 16, 0x0, .rov, 1, 0x0, 1, 0x0, 1, 0⟩
def fPLOT_SEQ_STATUS_LOOP_DEPTH : Fld := ⟨0x8, 32, 3, 0x0, .rov, 1, 0x0, 1, 0x0, 1, 0⟩
def fPLOT_SEQ_STATUS_PC : Fld := ⟨0x8, 19, 13, 0x0, .rov, 1, 0x0, 1, 0x0, 1, 0⟩
def fPLOT_SEQ_STATUS_WAIT_KIND : Fld := ⟨0x8, 16, 3, 0x0, .rov, 1, 0x0, 1, 0x0, 1, 0⟩
def fPLOT_SEQ_STATUS_STATE : Fld := ⟨0x8, 0, 3, 0x0, .rov, 1, 0x0, 1, 0x0, 1, 0⟩

/- PLOT_SEQ_STOP: chapter 4, R170. -/
def fPLOT_SEQ_STOP_PC : Fld := ⟨0x10, 16, 13, 0x0, .ro, 1, 0x0, 1, 0x0, 1, 0⟩
def fPLOT_SEQ_STOP_CODE : Fld := ⟨0x10, 0, 16, 0x0, .ro, 1, 0x0, 1, 0x0, 1, 0⟩

/- PLOT_SEQ_REPLAY: chapter 4, R170. -/
def fPLOT_SEQ_REPLAY_CKPT_PC : Fld := ⟨0x18, 24, 13, 0x0, .rov, 1, 0x0, 1, 0x0, 1, 0⟩
def fPLOT_SEQ_REPLAY_OUT_DONE : Fld := ⟨0x18, 0, 24, 0x0, .rov, 1, 0x0, 1, 0x0, 1, 0⟩

/- PLOT_SEQ_IDX: chapter 4, R170. -/
def fPLOT_SEQ_IDX_VALUE : Fld := ⟨0x40, 0, 32, 0x0, .rw, 16, 0x8, 1, 0x0, 1, 0⟩

/- PLOT_SYNC_TIMEOUT: chapter 4, R170. -/
def fPLOT_SYNC_TIMEOUT_UNITS : Fld := ⟨0xc0, 0, 24, 0x1000, .rw, 1, 0x0, 1, 0x0, 1, 0⟩

/- PLOT_DMA_STATUS: chapter 4, R170. -/
def fPLOT_DMA_STATUS_READS : Fld := ⟨0xc8, 16, 8, 0x0, .rov, 1, 0x0, 1, 0x0, 1, 0⟩
def fPLOT_DMA_STATUS_UNRELEASED : Fld := ⟨0xc8, 8, 8, 0x0, .rov, 1, 0x0, 1, 0x0, 1, 0⟩
def fPLOT_DMA_STATUS_QUEUED : Fld := ⟨0xc8, 0, 8, 0x0, .rov, 1, 0x0, 1, 0x0, 1, 0⟩

/- PLOT_DMA_ERR: chapter 4, R170. -/
def fPLOT_DMA_ERR_DESC : Fld := ⟨0xd0, 32, 8, 0x0, .ro, 1, 0x0, 1, 0x0, 1, 0⟩
def fPLOT_DMA_ERR_REMOTE_CODE : Fld := ⟨0xd0, 16, 16, 0x0, .ro, 1, 0x0, 1, 0x0, 1, 0⟩
def fPLOT_DMA_ERR_CODE : Fld := ⟨0xd0, 0, 16, 0x0, .ro, 1, 0x0, 1, 0x0, 1, 0⟩

/- PLOT_DMA_EXT_BASE: chapter 4, R170. -/
def fPLOT_DMA_EXT_BASE_BASE : Fld := ⟨0x100, 0, 48, 0x0, .rw, 16, 0x10, 1, 0x0, 1, 0⟩

/- PLOT_DMA_EXT_SIZE: chapter 4, R170. -/
def fPLOT_DMA_EXT_SIZE_SIZE : Fld := ⟨0x108, 0, 40, 0x0, .rw, 16, 0x10, 1, 0x0, 1, 0⟩

/- PLOT_SOW_STATUS: chapter 4, R170. -/
def fPLOT_SOW_STATUS_GEN : Fld := ⟨0x280, 48, 16, 0x0, .rov, 1, 0x0, 1, 0x0, 1, 0⟩
def fPLOT_SOW_STATUS_RESULT : Fld := ⟨0x280, 32, 16, 0x0, .rov, 1, 0x0, 1, 0x0, 1, 0⟩
def fPLOT_SOW_STATUS_PACKETS : Fld := ⟨0x280, 16, 9, 0x0, .rov, 1, 0x0, 1, 0x0, 1, 0⟩
def fPLOT_SOW_STATUS_STATE : Fld := ⟨0x280, 0, 2, 0x0, .rov, 1, 0x0, 1, 0x0, 1, 0⟩

/- PLOT_SOW_LIB: chapter 4, R170. -/
def fPLOT_SOW_LIB_LIB_ID : Fld := ⟨0x288, 0, 32, 0x0, .rov, 1, 0x0, 1, 0x0, 1, 0⟩

/- PLOT_SOW_CRC: chapter 4, R170. -/
def fPLOT_SOW_CRC_CRC : Fld := ⟨0x290, 0, 64, 0x0, .rov, 1, 0x0, 1, 0x0, 1, 0⟩

/- PLOT_PM_ADDR: chapter 4, R170. -/
def fPLOT_PM_ADDR_INDEX : Fld := ⟨0x2c0, 0, 13, 0x0, .rw, 1, 0x0, 1, 0x0, 1, 0⟩

/- PLOT_PM_DATA: chapter 4, R170. -/
def fPLOT_PM_DATA_WORD : Fld := ⟨0x2c8, 0, 64, 0x0, .rw, 1, 0x0, 1, 0x0, 1, 0⟩

/- PLOT_SCR_PROBE: chapter 4, R170. -/
def fPLOT_SCR_PROBE_STATE : Fld := ⟨0x300, 18, 2, 0x0, .rov, 1, 0x0, 1, 0x0, 1, 0⟩
def fPLOT_SCR_PROBE_READ : Fld := ⟨0x300, 17, 1, 0x0, .rov, 1, 0x0, 1, 0x0, 1, 0⟩
def fPLOT_SCR_PROBE_BORN : Fld := ⟨0x300, 16, 1, 0x0, .rov, 1, 0x0, 1, 0x0, 1, 0⟩
def fPLOT_SCR_PROBE_UNIT : Fld := ⟨0x300, 0, 13, 0x0, .rw, 1, 0x0, 1, 0x0, 1, 0⟩

/- PLOT_SYNC_CTR: chapter 4, R170. -/
def fPLOT_SYNC_CTR_VALUE : Fld := ⟨0x1000, 0, 32, 0x0, .rw, 256, 0x8, 1, 0x0, 1, 0⟩

/- BED_CH_STATUS: chapter 5, R210. -/
def fBED_CH_STATUS_HOLD_COUNT : Fld := ⟨0x2000, 6, 6, 0x0, .rov, 4, 0x100, 1, 0x0, 1, 0⟩
def fBED_CH_STATUS_BAND : Fld := ⟨0x2000, 4, 2, 0x0, .rov, 4, 0x100, 1, 0x0, 1, 0⟩
def fBED_CH_STATUS_REMAP_PENDING : Fld := ⟨0x2000, 3, 1, 0x0, .rov, 4, 0x100, 1, 0x0, 1, 0⟩
def fBED_CH_STATUS_MODE : Fld := ⟨0x2000, 0, 3, 0x0, .rov, 4, 0x100, 1, 0x0, 1, 0⟩

/- BED_CH_CFG: chapter 5, R210. -/
def fBED_CH_CFG_REMAP_THRESHOLD : Fld := ⟨0x2008, 8, 8, 0x4, .rw, 4, 0x100, 1, 0x0, 1, 0⟩
def fBED_CH_CFG_BATCH_LIMIT : Fld := ⟨0x2008, 0, 7, 0x28, .rw, 4, 0x100, 1, 0x0, 1, 0⟩

/- BED_CH_OWED: chapter 5, R210. -/
def fBED_CH_OWED_OWED : Fld := ⟨0x2010, 0, 3, 0x0, .rov, 4, 0x100, 1, 0x0, 8, 3⟩

/- BED_CH_CNT: chapter 5, R210. -/
def fBED_CH_CNT_FORCED_REFRESH : Fld := ⟨0x2018, 48, 16, 0x0, .w1c, 4, 0x100, 1, 0x0, 1, 0⟩
def fBED_CH_CNT_STALL_TC : Fld := ⟨0x2018, 24, 24, 0x0, .w1c, 4, 0x100, 1, 0x0, 1, 0⟩
def fBED_CH_CNT_PREEMPTS : Fld := ⟨0x2018, 8, 16, 0x0, .w1c, 4, 0x100, 1, 0x0, 1, 0⟩
def fBED_CH_CNT_BACKPRESSURE : Fld := ⟨0x2018, 0, 8, 0x0, .w1c, 4, 0x100, 1, 0x0, 1, 0⟩

/- BED_CH_ECC: chapter 5, R210. -/
def fBED_CH_ECC_CORRECTED : Fld := ⟨0x2020, 32, 32, 0x0, .w1c, 4, 0x100, 1, 0x0, 1, 0⟩
def fBED_CH_ECC_UNCORRECTABLE : Fld := ⟨0x2020, 16, 16, 0x0, .w1c, 4, 0x100, 1, 0x0, 1, 0⟩

/- BED_CH_ERRADDR: chapter 5, R210. -/
def fBED_CH_ERRADDR_VALID : Fld := ⟨0x2028, 63, 1, 0x0, .w1c, 4, 0x100, 1, 0x0, 1, 0⟩
def fBED_CH_ERRADDR_BANK : Fld := ⟨0x2028, 21, 3, 0x0, .ro, 4, 0x100, 1, 0x0, 1, 0⟩
def fBED_CH_ERRADDR_ROW : Fld := ⟨0x2028, 11, 10, 0x0, .ro, 4, 0x100, 1, 0x0, 1, 0⟩
def fBED_CH_ERRADDR_COLUMN : Fld := ⟨0x2028, 5, 6, 0x0, .ro, 4, 0x100, 1, 0x0, 1, 0⟩

/- BED_CH_SPARES: chapter 5, R210. -/
def fBED_CH_SPARES_USED : Fld := ⟨0x2030, 0, 4, 0x0, .rov, 4, 0x100, 1, 0x0, 8, 4⟩

/- BED_CH_FLIP: chapter 5, R210. -/
def fBED_CH_FLIP_ARM : Fld := ⟨0x2038, 30, 1, 0x0, .rw, 4, 0x100, 1, 0x0, 1, 0⟩
def fBED_CH_FLIP_SYM_B : Fld := ⟨0x2038, 24, 6, 0x0, .rw, 4, 0x100, 1, 0x0, 1, 0⟩
def fBED_CH_FLIP_MASK_B : Fld := ⟨0x2038, 16, 8, 0x0, .rw, 4, 0x100, 1, 0x0, 1, 0⟩
def fBED_CH_FLIP_SYM_A : Fld := ⟨0x2038, 8, 6, 0x0, .rw, 4, 0x100, 1, 0x0, 1, 0⟩
def fBED_CH_FLIP_MASK_A : Fld := ⟨0x2038, 0, 8, 0x0, .rw, 4, 0x100, 1, 0x0, 1, 0⟩

/- BED_TINE_PM_ADDR: chapter 5, R210. -/
def fBED_TINE_PM_ADDR_CHMASK : Fld := ⟨0x2400, 14, 4, 0x0, .rw, 1, 0x0, 1, 0x0, 1, 0⟩
def fBED_TINE_PM_ADDR_INDEX : Fld := ⟨0x2400, 0, 14, 0x0, .rw, 1, 0x0, 1, 0x0, 1, 0⟩

/- BED_TINE_PM_DATA: chapter 5, R210. -/
def fBED_TINE_PM_DATA_CHECK : Fld := ⟨0x2408, 32, 7, 0x0, .ro, 1, 0x0, 1, 0x0, 1, 0⟩
def fBED_TINE_PM_DATA_WORD : Fld := ⟨0x2408, 0, 32, 0x0, .rw, 1, 0x0, 1, 0x0, 1, 0⟩

/- BED_TINE_STATUS: chapter 5, R210. -/
def fBED_TINE_STATUS_STATE : Fld := ⟨0x2410, 0, 2, 0x0, .rov, 1, 0x0, 1, 0x0, 16, 2⟩

/- BED_TINE_STOP: chapter 5, R210. -/
def fBED_TINE_STOP_INDEX : Fld := ⟨0x2418, 32, 14, 0x0, .ro, 1, 0x0, 1, 0x0, 1, 0⟩
def fBED_TINE_STOP_TID : Fld := ⟨0x2418, 16, 4, 0x0, .ro, 1, 0x0, 1, 0x0, 1, 0⟩
def fBED_TINE_STOP_CODE : Fld := ⟨0x2418, 0, 16, 0x0, .ro, 1, 0x0, 1, 0x0, 1, 0⟩

/- BED_TINE_TALLY_EVEN: chapter 5, R210. -/
def fBED_TINE_TALLY_EVEN_CRC : Fld := ⟨0x2500, 0, 64, 0x0, .rov, 16, 0x10, 1, 0x0, 1, 0⟩

/- BED_TINE_TALLY_ODD: chapter 5, R210. -/
def fBED_TINE_TALLY_ODD_CRC : Fld := ⟨0x2508, 0, 64, 0x0, .rov, 16, 0x10, 1, 0x0, 1, 0⟩

/- PLOT_ATT_STATUS: chapter 6, R248. -/
def fPLOT_ATT_STATUS_STREAM_BUSY : Fld := ⟨0x2800, 16, 16, 0x0, .rov, 1, 0x0, 1, 0x0, 1, 0⟩
def fPLOT_ATT_STATUS_ROWS : Fld := ⟨0x2800, 8, 8, 0x0, .rov, 1, 0x0, 1, 0x0, 1, 0⟩
def fPLOT_ATT_STATUS_STATE : Fld := ⟨0x2800, 0, 2, 0x0, .rov, 1, 0x0, 1, 0x0, 1, 0⟩

/- PLOT_ATT_CFG: chapter 6, R248. -/
def fPLOT_ATT_CFG_PARTIAL_TIMEOUT : Fld := ⟨0x2808, 0, 16, 0x100, .rw, 1, 0x0, 1, 0x0, 1, 0⟩

/- PLOT_ATT_ERR: chapter 6, R248. -/
def fPLOT_ATT_ERR_VALID : Fld := ⟨0x2810, 63, 1, 0x0, .w1c, 1, 0x0, 1, 0x0, 1, 0⟩
def fPLOT_ATT_ERR_ROW : Fld := ⟨0x2810, 39, 7, 0x0, .ro, 1, 0x0, 1, 0x0, 1, 0⟩
def fPLOT_ATT_ERR_PAGE : Fld := ⟨0x2810, 16, 14, 0x0, .ro, 1, 0x0, 1, 0x0, 1, 0⟩
def fPLOT_ATT_ERR_CODE : Fld := ⟨0x2810, 0, 16, 0x0, .ro, 1, 0x0, 1, 0x0, 1, 0⟩

/- PLOT_ATT_CNT: chapter 6, R248. -/
def fPLOT_ATT_CNT_EMPTY_ROWS : Fld := ⟨0x2818, 48, 16, 0x0, .w1c, 1, 0x0, 1, 0x0, 1, 0⟩
def fPLOT_ATT_CNT_NONFINITE : Fld := ⟨0x2818, 32, 16, 0x0, .w1c, 1, 0x0, 1, 0x0, 1, 0⟩
def fPLOT_ATT_CNT_PARTIAL_WAIT : Fld := ⟨0x2818, 0, 32, 0x0, .w1c, 1, 0x0, 1, 0x0, 1, 0⟩

/- PLOT_ATT_STREAM: chapter 6, R248. -/
def fPLOT_ATT_STREAM_RECORDS : Fld := ⟨0x2840, 32, 16, 0x0, .w1c, 16, 0x8, 1, 0x0, 1, 0⟩
def fPLOT_ATT_STREAM_FILL : Fld := ⟨0x2840, 0, 15, 0x0, .rov, 16, 0x8, 1, 0x0, 1, 0⟩

/- STP_CFG: chapter 7, R274. -/
def fSTP_CFG_PREFILL_ROWS : Fld := ⟨0x380000, 16, 16, 0x1000, .rw, 1, 0x0, 1, 0x0, 1, 0⟩
def fSTP_CFG_SIEVE_P : Fld := ⟨0x380000, 0, 9, 0xc0, .rw, 1, 0x0, 1, 0x0, 1, 0⟩

/- STP_STATUS: chapter 7, R274. -/
def fSTP_STATUS_STEPS : Fld := ⟨0x380008, 32, 32, 0x0, .rov, 1, 0x0, 1, 0x0, 1, 0⟩
def fSTP_STATUS_ROWS : Fld := ⟨0x380008, 0, 17, 0x0, .rov, 1, 0x0, 1, 0x0, 1, 0⟩

/- STP_CNT: chapter 7, R274. -/
def fSTP_CNT_ABANDONED : Fld := ⟨0x380010, 48, 16, 0x0, .w1c, 1, 0x0, 1, 0x0, 1, 0⟩
def fSTP_CNT_DRAFT_BAD : Fld := ⟨0x380010, 32, 16, 0x0, .w1c, 1, 0x0, 1, 0x0, 1, 0⟩

/- STP_PHASE: chapter 7, R274. -/
def fSTP_PHASE_ADDR : Fld := ⟨0x380018, 0, 48, 0x0, .rov, 1, 0x0, 1, 0x0, 1, 0⟩

/- STP_SLOT: chapter 7, R274. -/
def fSTP_SLOT_GEN : Fld := ⟨0x380100, 32, 32, 0x0, .rov, 16, 0x8, 1, 0x0, 1, 0⟩
def fSTP_SLOT_BASE : Fld := ⟨0x380100, 11, 21, 0x0, .rov, 16, 0x8, 1, 0x0, 1, 0⟩
def fSTP_SLOT_N : Fld := ⟨0x380100, 6, 5, 0x0, .rov, 16, 0x8, 1, 0x0, 1, 0⟩
def fSTP_SLOT_PRIOR : Fld := ⟨0x380100, 3, 3, 0x0, .rov, 16, 0x8, 1, 0x0, 1, 0⟩
def fSTP_SLOT_STATE : Fld := ⟨0x380100, 0, 3, 0x0, .rov, 16, 0x8, 1, 0x0, 1, 0⟩

/- GDC_STATUS: chapter 8, R299. -/
def fGDC_STATUS_QUEUE : Fld := ⟨0x800000, 8, 8, 0x0, .rov, 24, 0x4000, 1, 0x0, 1, 0⟩
def fGDC_STATUS_STATE : Fld := ⟨0x800000, 0, 3, 0x0, .rov, 24, 0x4000, 1, 0x0, 1, 0⟩

/- GDC_CFG: chapter 8, R299. -/
def fGDC_CFG_RETRAIN_AT : Fld := ⟨0x800008, 24, 8, 0x10, .rw, 24, 0x4000, 1, 0x0, 1, 0⟩
def fGDC_CFG_SUSPECT_THRESHOLD : Fld := ⟨0x800008, 16, 8, 0x4, .rw, 24, 0x4000, 1, 0x0, 1, 0⟩
def fGDC_CFG_CRC_RETRIES : Fld := ⟨0x800008, 12, 4, 0x4, .rw, 24, 0x4000, 1, 0x0, 1, 0⟩
def fGDC_CFG_SPEED : Fld := ⟨0x800008, 0, 2, 0x3, .rwl, 24, 0x4000, 1, 0x0, 1, 0⟩

/- GDC_RETRAIN: chapter 8, R299. -/
def fGDC_RETRAIN_LAST_AC : Fld := ⟨0x800010, 32, 16, 0x0, .rov, 24, 0x4000, 1, 0x0, 1, 0⟩
def fGDC_RETRAIN_REASON : Fld := ⟨0x800010, 4, 2, 0x0, .rov, 24, 0x4000, 1, 0x0, 1, 0⟩
def fGDC_RETRAIN_REQUEST : Fld := ⟨0x800010, 1, 1, 0x0, .rov, 24, 0x4000, 1, 0x0, 1, 0⟩
def fGDC_RETRAIN_START : Fld := ⟨0x800010, 0, 1, 0x0, .wo, 24, 0x4000, 1, 0x0, 1, 0⟩

/- GDC_ERR: chapter 8, R299. -/
def fGDC_ERR_ROW_SUSPECT : Fld := ⟨0x800018, 8, 1, 0x0, .w1c, 24, 0x4000, 1, 0x0, 1, 0⟩
def fGDC_ERR_PPR_FAIL : Fld := ⟨0x800018, 7, 1, 0x0, .w1c, 24, 0x4000, 1, 0x0, 1, 0⟩
def fGDC_ERR_PPR_EXHAUSTED : Fld := ⟨0x800018, 6, 1, 0x0, .w1c, 24, 0x4000, 1, 0x0, 1, 0⟩
def fGDC_ERR_CHANNEL_DOWN : Fld := ⟨0x800018, 5, 1, 0x0, .w1c, 24, 0x4000, 1, 0x0, 1, 0⟩
def fGDC_ERR_RETRAIN_TIMEOUT : Fld := ⟨0x800018, 4, 1, 0x0, .w1c, 24, 0x4000, 1, 0x0, 1, 0⟩
def fGDC_ERR_CA_PARITY : Fld := ⟨0x800018, 3, 1, 0x0, .w1c, 24, 0x4000, 1, 0x0, 1, 0⟩
def fGDC_ERR_CRC_RETRY_FAIL : Fld := ⟨0x800018, 2, 1, 0x0, .w1c, 24, 0x4000, 1, 0x0, 1, 0⟩
def fGDC_ERR_RMW_UNCORR : Fld := ⟨0x800018, 1, 1, 0x0, .w1c, 24, 0x4000, 1, 0x0, 1, 0⟩
def fGDC_ERR_UNCORR : Fld := ⟨0x800018, 0, 1, 0x0, .w1c, 24, 0x4000, 1, 0x0, 1, 0⟩

/- GDC_ECC_CNT: chapter 8, R299. -/
def fGDC_ECC_CNT_CORRECTED : Fld := ⟨0x800020, 32, 32, 0x0, .w1c, 24, 0x4000, 1, 0x0, 1, 0⟩
def fGDC_ECC_CNT_UNCORRECTABLE : Fld := ⟨0x800020, 16, 16, 0x0, .w1c, 24, 0x4000, 1, 0x0, 1, 0⟩

/- GDC_LINK_CNT: chapter 8, R299. -/
def fGDC_LINK_CNT_CRC_RETRIED : Fld := ⟨0x800028, 32, 32, 0x0, .w1c, 24, 0x4000, 1, 0x0, 1, 0⟩
def fGDC_LINK_CNT_CA_PARITY : Fld := ⟨0x800028, 16, 16, 0x0, .w1c, 24, 0x4000, 1, 0x0, 1, 0⟩
def fGDC_LINK_CNT_RETRAINS : Fld := ⟨0x800028, 0, 16, 0x0, .w1c, 24, 0x4000, 1, 0x0, 1, 0⟩

/- GDC_ERRADDR: chapter 8, R299. -/
def fGDC_ERRADDR_VALID : Fld := ⟨0x800030, 63, 1, 0x0, .w1c, 24, 0x4000, 1, 0x0, 1, 0⟩
def fGDC_ERRADDR_WRITE : Fld := ⟨0x800030, 32, 1, 0x0, .ro, 24, 0x4000, 1, 0x0, 1, 0⟩
def fGDC_ERRADDR_LOCAL : Fld := ⟨0x800030, 0, 32, 0x0, .ro, 24, 0x4000, 1, 0x0, 1, 0⟩

/- GDC_ADD_CNT: chapter 8, R299. -/
def fGDC_ADD_CNT_REDUCES : Fld := ⟨0x800038, 32, 32, 0x0, .w1c, 24, 0x4000, 1, 0x0, 1, 0⟩
def fGDC_ADD_CNT_AMOS : Fld := ⟨0x800038, 16, 16, 0x0, .w1c, 24, 0x4000, 1, 0x0, 1, 0⟩

/- GDC_WEED_CFG: chapter 8, R299. -/
def fGDC_WEED_CFG_BED_EN : Fld := ⟨0x800040, 63, 1, 0x1, .rw, 24, 0x4000, 1, 0x0, 1, 0⟩
def fGDC_WEED_CFG_GDDR_EN : Fld := ⟨0x800040, 62, 1, 0x1, .rw, 24, 0x4000, 1, 0x0, 1, 0⟩
def fGDC_WEED_CFG_BED_INTERVAL : Fld := ⟨0x800040, 16, 16, 0x4, .rw, 24, 0x4000, 1, 0x0, 1, 0⟩
def fGDC_WEED_CFG_GDDR_INTERVAL : Fld := ⟨0x800040, 0, 16, 0x4, .rw, 24, 0x4000, 1, 0x0, 1, 0⟩

/- GDC_WEED_STATUS: chapter 8, R299. -/
def fGDC_WEED_STATUS_GDDR_PASSES : Fld := ⟨0x800048, 48, 16, 0x0, .rov, 24, 0x4000, 1, 0x0, 1, 0⟩
def fGDC_WEED_STATUS_BED_PASSES : Fld := ⟨0x800048, 32, 16, 0x0, .rov, 24, 0x4000, 1, 0x0, 1, 0⟩
def fGDC_WEED_STATUS_GDDR_CURSOR : Fld := ⟨0x800048, 12, 20, 0x0, .rov, 24, 0x4000, 1, 0x0, 1, 0⟩

/- GDC_FLIP: chapter 8, R299. -/
def fGDC_FLIP_ARM : Fld := ⟨0x800050, 16, 1, 0x0, .rw, 24, 0x4000, 1, 0x0, 1, 0⟩
def fGDC_FLIP_DIR : Fld := ⟨0x800050, 15, 1, 0x0, .rw, 24, 0x4000, 1, 0x0, 1, 0⟩
def fGDC_FLIP_DCH : Fld := ⟨0x800050, 13, 2, 0x0, .rw, 24, 0x4000, 1, 0x0, 1, 0⟩
def fGDC_FLIP_BYTE : Fld := ⟨0x800050, 8, 5, 0x0, .rw, 24, 0x4000, 1, 0x0, 1, 0⟩
def fGDC_FLIP_MASK : Fld := ⟨0x800050, 0, 8, 0x0, .rw, 24, 0x4000, 1, 0x0, 1, 0⟩

/- GDC_PPR_LIST: chapter 8, R299. -/
def fGDC_PPR_LIST_RESULT : Fld := ⟨0x800100, 62, 2, 0x0, .rov, 24, 0x4000, 16, 0x8, 1, 0⟩
def fGDC_PPR_LIST_VALID : Fld := ⟨0x800100, 31, 1, 0x0, .rov, 24, 0x4000, 16, 0x8, 1, 0⟩
def fGDC_PPR_LIST_DCH : Fld := ⟨0x800100, 19, 2, 0x0, .rov, 24, 0x4000, 16, 0x8, 1, 0⟩
def fGDC_PPR_LIST_BANK : Fld := ⟨0x800100, 15, 4, 0x0, .rov, 24, 0x4000, 16, 0x8, 1, 0⟩
def fGDC_PPR_LIST_ROW : Fld := ⟨0x800100, 0, 15, 0x0, .rov, 24, 0x4000, 16, 0x8, 1, 0⟩

/- GDC_SUSPECT: chapter 8, R299. -/
def fGDC_SUSPECT_VALID : Fld := ⟨0x800200, 63, 1, 0x0, .rov, 24, 0x4000, 32, 0x8, 1, 0⟩
def fGDC_SUSPECT_COUNT : Fld := ⟨0x800200, 24, 8, 0x0, .rov, 24, 0x4000, 32, 0x8, 1, 0⟩
def fGDC_SUSPECT_DCH : Fld := ⟨0x800200, 19, 2, 0x0, .rov, 24, 0x4000, 32, 0x8, 1, 0⟩
def fGDC_SUSPECT_BANK : Fld := ⟨0x800200, 15, 4, 0x0, .rov, 24, 0x4000, 32, 0x8, 1, 0⟩
def fGDC_SUSPECT_ROW : Fld := ⟨0x800200, 0, 15, 0x0, .rov, 24, 0x4000, 32, 0x8, 1, 0⟩

/- FAB_BRIDGE_STATUS: chapter 9, R315. -/
def fFAB_BRIDGE_STATUS_REPLAYS : Fld := ⟨0xa00000, 48, 16, 0x0, .w1c, 1, 0x0, 1, 0x0, 1, 0⟩
def fFAB_BRIDGE_STATUS_DOWN : Fld := ⟨0xa00000, 17, 1, 0x0, .rov, 1, 0x0, 1, 0x0, 1, 0⟩
def fFAB_BRIDGE_STATUS_PORT_UP : Fld := ⟨0xa00000, 0, 17, 0x0, .rov, 1, 0x0, 1, 0x0, 1, 0⟩

/- FAB_LATE_OTHER: chapter 9, R315. -/
def fFAB_LATE_OTHER_LATE : Fld := ⟨0xa00010, 0, 32, 0x0, .w1c, 1, 0x0, 1, 0x0, 1, 0⟩

/- FAB_ATTACH: chapter 9, R315. -/
def fFAB_ATTACH_ROUTER : Fld := ⟨0xa00100, 0, 11, 0x0, .ro, 43, 0x8, 1, 0x0, 1, 0⟩

/- FAB_REG_CFG: chapter 9, R315. -/
def fFAB_REG_CFG_SPILL : Fld := ⟨0xa01000, 7, 1, 0x1, .rw, 26, 0x100, 1, 0x0, 1, 0⟩
def fFAB_REG_CFG_WINDOW : Fld := ⟨0xa01000, 0, 7, 0x4, .rw, 26, 0x100, 1, 0x0, 1, 0⟩

/- FAB_REG_CLASS: chapter 9, R315. -/
def fFAB_REG_CLASS_BUDGET : Fld := ⟨0xa01010, 24, 24, 0xffffff, .rw, 26, 0x100, 7, 0x8, 1, 0⟩
def fFAB_REG_CLASS_MIN : Fld := ⟨0xa01010, 0, 24, 0x0, .rw, 26, 0x100, 7, 0x8, 1, 0⟩

/- FAB_REG_LATE: chapter 9, R315. -/
def fFAB_REG_LATE_LATE : Fld := ⟨0xa01050, 32, 32, 0x0, .w1c, 26, 0x100, 7, 0x8, 1, 0⟩
def fFAB_REG_LATE_DL_SERVED : Fld := ⟨0xa01050, 0, 32, 0x0, .w1c, 26, 0x100, 7, 0x8, 1, 0⟩

/- FAB_REG_STATUS: chapter 9, R315. -/
def fFAB_REG_STATUS_OVER_BUDGET : Fld := ⟨0xa01090, 8, 7, 0x0, .rov, 26, 0x100, 1, 0x0, 1, 0⟩
def fFAB_REG_STATUS_BELOW_MIN : Fld := ⟨0xa01090, 0, 7, 0x0, .rov, 26, 0x100, 1, 0x0, 1, 0⟩

/- LNE_STATUS: chapter 10, R336. -/
def fLNE_STATUS_ALIGNED : Fld := ⟨0x500000, 24, 8, 0x0, .rov, 18, 0x1000, 1, 0x0, 1, 0⟩
def fLNE_STATUS_SIGNAL : Fld := ⟨0x500000, 16, 8, 0x0, .rov, 18, 0x1000, 1, 0x0, 1, 0⟩
def fLNE_STATUS_STATE : Fld := ⟨0x500000, 8, 4, 0x0, .rov, 18, 0x1000, 1, 0x0, 1, 0⟩
def fLNE_STATUS_WIDTH : Fld := ⟨0x500000, 0, 2, 0x0, .rov, 18, 0x1000, 1, 0x0, 1, 0⟩

/- LNE_ROLE: chapter 10, R336. -/
def fLNE_ROLE_PORT : Fld := ⟨0x500008, 4, 4, 0x0, .rwl, 18, 0x1000, 1, 0x0, 1, 0⟩
def fLNE_ROLE_ROLE : Fld := ⟨0x500008, 0, 2, 0x0, .rwl, 18, 0x1000, 1, 0x0, 1, 0⟩

/- LNE_CFG: chapter 10, R336. -/
def fLNE_CFG_AUTO_RETRAIN : Fld := ⟨0x500010, 16, 1, 0x1, .rw, 18, 0x1000, 1, 0x0, 1, 0⟩
def fLNE_CFG_UNCORR_LIMIT : Fld := ⟨0x500010, 0, 16, 0x10, .rw, 18, 0x1000, 1, 0x0, 1, 0⟩

/- LNE_CTRL: chapter 10, R336. -/
def fLNE_CTRL_FULL : Fld := ⟨0x500018, 1, 1, 0x0, .wo, 18, 0x1000, 1, 0x0, 1, 0⟩
def fLNE_CTRL_RETRAIN : Fld := ⟨0x500018, 0, 1, 0x0, .wo, 18, 0x1000, 1, 0x0, 1, 0⟩

/- LNE_FEC_CNT: chapter 10, R336. -/
def fLNE_FEC_CNT_CORRECTED_SYM : Fld := ⟨0x500020, 24, 40, 0x0, .w1c, 18, 0x1000, 1, 0x0, 1, 0⟩
def fLNE_FEC_CNT_UNCORR_CW : Fld := ⟨0x500020, 0, 24, 0x0, .w1c, 18, 0x1000, 1, 0x0, 1, 0⟩

/- LNE_ERR: chapter 10, R336. -/
def fLNE_ERR_LOOPBACK_FAIL : Fld := ⟨0x500028, 8, 1, 0x0, .w1c, 18, 0x1000, 1, 0x0, 1, 0⟩
def fLNE_ERR_LINK_LOST : Fld := ⟨0x500028, 7, 1, 0x0, .w1c, 18, 0x1000, 1, 0x0, 1, 0⟩
def fLNE_ERR_RETRAIN : Fld := ⟨0x500028, 6, 1, 0x0, .w1c, 18, 0x1000, 1, 0x0, 1, 0⟩
def fLNE_ERR_TRAIN_TIMEOUT : Fld := ⟨0x500028, 5, 1, 0x0, .w1c, 18, 0x1000, 1, 0x0, 1, 0⟩
def fLNE_ERR_PORT_X4 : Fld := ⟨0x500028, 4, 1, 0x0, .w1c, 18, 0x1000, 1, 0x0, 1, 0⟩
def fLNE_ERR_PORT_DISABLED : Fld := ⟨0x500028, 3, 1, 0x0, .w1c, 18, 0x1000, 1, 0x0, 1, 0⟩
def fLNE_ERR_COMPANION_X8 : Fld := ⟨0x500028, 2, 1, 0x0, .w1c, 18, 0x1000, 1, 0x0, 1, 0⟩
def fLNE_ERR_COMPANION_FAIL : Fld := ⟨0x500028, 1, 1, 0x0, .w1c, 18, 0x1000, 1, 0x0, 1, 0⟩
def fLNE_ERR_ROLE_INVALID : Fld := ⟨0x500028, 0, 1, 0x0, .w1c, 18, 0x1000, 1, 0x0, 1, 0⟩

/- LNE_RETRAIN: chapter 10, R336. -/
def fLNE_RETRAIN_LAST_AC : Fld := ⟨0x500030, 44, 20, 0x0, .rov, 18, 0x1000, 1, 0x0, 1, 0⟩
def fLNE_RETRAIN_REASON : Fld := ⟨0x500030, 32, 4, 0x0, .rov, 18, 0x1000, 1, 0x0, 1, 0⟩
def fLNE_RETRAIN_IGNORED : Fld := ⟨0x500030, 16, 16, 0x0, .w1c, 18, 0x1000, 1, 0x0, 1, 0⟩
def fLNE_RETRAIN_COUNT : Fld := ⟨0x500030, 0, 16, 0x0, .w1c, 18, 0x1000, 1, 0x0, 1, 0⟩

/- LNE_BOOT: chapter 10, R336. -/
def fLNE_BOOT_STATE : Fld := ⟨0x500040, 0, 2, 0x0, .rov, 1, 0x0, 1, 0x0, 1, 0⟩

/- LNE_LANE: chapter 10, R336. -/
def fLNE_LANE_COEFF : Fld := ⟨0x500100, 32, 32, 0x0, .rov, 18, 0x1000, 8, 0x8, 1, 0⟩
def fLNE_LANE_POS : Fld := ⟨0x500100, 5, 3, 0x0, .rov, 18, 0x1000, 8, 0x8, 1, 0⟩
def fLNE_LANE_INVERTED : Fld := ⟨0x500100, 4, 1, 0x0, .rov, 18, 0x1000, 8, 0x8, 1, 0⟩
def fLNE_LANE_EXCLUDED : Fld := ⟨0x500100, 3, 1, 0x0, .rov, 18, 0x1000, 8, 0x8, 1, 0⟩
def fLNE_LANE_ALIGNED : Fld := ⟨0x500100, 2, 1, 0x0, .rov, 18, 0x1000, 8, 0x8, 1, 0⟩
def fLNE_LANE_SIGNAL : Fld := ⟨0x500100, 1, 1, 0x0, .rov, 18, 0x1000, 8, 0x8, 1, 0⟩

/- CPL_STATUS: chapter 11, R373. -/
def fCPL_STATUS_ATTACH_GEN : Fld := ⟨0x600000, 32, 32, 0x0, .rov, 1, 0x0, 1, 0x0, 1, 0⟩
def fCPL_STATUS_HELLO_DONE : Fld := ⟨0x600000, 12, 1, 0x0, .rov, 1, 0x0, 1, 0x0, 1, 0⟩
def fCPL_STATUS_ORPHAN : Fld := ⟨0x600000, 11, 1, 0x0, .rov, 1, 0x0, 1, 0x0, 1, 0⟩
def fCPL_STATUS_LINK : Fld := ⟨0x600000, 8, 3, 0x0, .rov, 1, 0x0, 1, 0x0, 1, 0⟩

/- CPL_CFG: chapter 11, R373. -/
def fCPL_CFG_COH_TIMEOUT : Fld := ⟨0x600008, 24, 16, 0x3e8, .rw, 1, 0x0, 1, 0x0, 1, 0⟩
def fCPL_CFG_RETRY_LIMIT : Fld := ⟨0x600008, 20, 4, 0x8, .rw, 1, 0x0, 1, 0x0, 1, 0⟩

/- CPL_HB_CFG: chapter 11, R373. -/
def fCPL_HB_CFG_HOLD : Fld := ⟨0x600010, 32, 16, 0x258, .rw, 1, 0x0, 1, 0x0, 1, 0⟩
def fCPL_HB_CFG_MISSES : Fld := ⟨0x600010, 16, 4, 0x3, .rw, 1, 0x0, 1, 0x0, 1, 0⟩
def fCPL_HB_CFG_PERIOD : Fld := ⟨0x600010, 0, 10, 0x64, .rw, 1, 0x0, 1, 0x0, 1, 0⟩

/- CPL_HEARTBEAT: chapter 11, R373. -/
def fCPL_HEARTBEAT_GEN : Fld := ⟨0x600018, 0, 32, 0x0, .rw, 1, 0x0, 1, 0x0, 1, 0⟩

/- CPL_LINK_CNT: chapter 11, R373. -/
def fCPL_LINK_CNT_RETRY_SENT : Fld := ⟨0x600020, 48, 16, 0x0, .w1c, 1, 0x0, 1, 0x0, 1, 0⟩
def fCPL_LINK_CNT_BAD_FLITS : Fld := ⟨0x600020, 32, 16, 0x0, .w1c, 1, 0x0, 1, 0x0, 1, 0⟩
def fCPL_LINK_CNT_LATE_GRANTS : Fld := ⟨0x600020, 16, 16, 0x0, .w1c, 1, 0x0, 1, 0x0, 1, 0⟩
def fCPL_LINK_CNT_STALE_HB : Fld := ⟨0x600020, 0, 16, 0x0, .w1c, 1, 0x0, 1, 0x0, 1, 0⟩

/- CPL_ERR: chapter 11, R373. -/
def fCPL_ERR_CODE_SEEN : Fld := ⟨0x600028, 0, 19, 0x0, .w1c, 1, 0x0, 1, 0x0, 1, 0⟩

/- CPL_MBX_IN_DB: chapter 11, R373. -/
def fCPL_MBX_IN_DB_SEQ : Fld := ⟨0x600040, 0, 32, 0x0, .wo, 1, 0x0, 1, 0x0, 1, 0⟩

/- CPL_MBX_OUT_ACK: chapter 11, R373. -/
def fCPL_MBX_OUT_ACK_SEQ : Fld := ⟨0x600048, 0, 32, 0x0, .wo, 1, 0x0, 1, 0x0, 1, 0⟩

/- CPL_MBX_STATUS: chapter 11, R373. -/
def fCPL_MBX_STATUS_OUT_SEQ : Fld := ⟨0x600050, 32, 32, 0x0, .rov, 1, 0x0, 1, 0x0, 1, 0⟩
def fCPL_MBX_STATUS_LOST : Fld := ⟨0x600050, 16, 16, 0x0, .w1c, 1, 0x0, 1, 0x0, 1, 0⟩
def fCPL_MBX_STATUS_OUT_QUEUE : Fld := ⟨0x600050, 8, 8, 0x0, .rov, 1, 0x0, 1, 0x0, 1, 0⟩
def fCPL_MBX_STATUS_OUT_FULL : Fld := ⟨0x600050, 2, 1, 0x0, .rov, 1, 0x0, 1, 0x0, 1, 0⟩
def fCPL_MBX_STATUS_IN_BUSY : Fld := ⟨0x600050, 1, 1, 0x0, .rov, 1, 0x0, 1, 0x0, 1, 0⟩
def fCPL_MBX_STATUS_IN_READY : Fld := ⟨0x600050, 0, 1, 0x0, .rov, 1, 0x0, 1, 0x0, 1, 0⟩

/- CPL_IDX_ADDR: chapter 11, R373. -/
def fCPL_IDX_ADDR_ADDR : Fld := ⟨0x600060, 0, 48, 0x0, .rw, 1, 0x0, 1, 0x0, 1, 0⟩

/- CPL_NOTIFY: chapter 11, R373. -/
def fCPL_NOTIFY_GAP : Fld := ⟨0x600068, 48, 16, 0x19, .rw, 1, 0x0, 1, 0x0, 1, 0⟩
def fCPL_NOTIFY_MBX_VEC : Fld := ⟨0x600068, 32, 16, 0xffff, .rw, 1, 0x0, 1, 0x0, 1, 0⟩
def fCPL_NOTIFY_EVT_VEC : Fld := ⟨0x600068, 16, 16, 0xffff, .rw, 1, 0x0, 1, 0x0, 1, 0⟩
def fCPL_NOTIFY_OUT_VEC : Fld := ⟨0x600068, 0, 16, 0xffff, .rw, 1, 0x0, 1, 0x0, 1, 0⟩

/- CPL_RING_CFG: chapter 11, R373. -/
def fCPL_RING_CFG_ENABLE : Fld := ⟨0x600100, 63, 1, 0x0, .rw, 3, 0x20, 1, 0x0, 1, 0⟩
def fCPL_RING_CFG_LOG2 : Fld := ⟨0x600100, 58, 5, 0x0, .rw, 3, 0x20, 1, 0x0, 1, 0⟩
def fCPL_RING_CFG_BASE : Fld := ⟨0x600100, 0, 48, 0x0, .rw, 3, 0x20, 1, 0x0, 1, 0⟩

/- CPL_RING_IDX: chapter 11, R373. -/
def fCPL_RING_IDX_PRODUCER : Fld := ⟨0x600108, 32, 32, 0x0, .rov, 3, 0x20, 1, 0x0, 1, 0⟩
def fCPL_RING_IDX_CONSUMER : Fld := ⟨0x600108, 0, 32, 0x0, .rov, 3, 0x20, 1, 0x0, 1, 0⟩

/- CPL_RING_DB: chapter 11, R373. -/
def fCPL_RING_DB_INDEX : Fld := ⟨0x600110, 0, 32, 0x0, .wo, 3, 0x20, 1, 0x0, 1, 0⟩

/- SOP_PORT_STATUS: chapter 12, R400. -/
def fSOP_PORT_STATUS_PEER_DEV : Fld := ⟨0x700000, 24, 16, 0x0, .rov, 16, 0x1000, 1, 0x0, 1, 0⟩
def fSOP_PORT_STATUS_PEER_PORT : Fld := ⟨0x700000, 20, 4, 0x0, .rov, 16, 0x1000, 1, 0x0, 1, 0⟩
def fSOP_PORT_STATUS_PEER_VALID : Fld := ⟨0x700000, 19, 1, 0x0, .rov, 16, 0x1000, 1, 0x0, 1, 0⟩
def fSOP_PORT_STATUS_ABSENT : Fld := ⟨0x700000, 18, 1, 0x0, .rw, 16, 0x1000, 1, 0x0, 1, 0⟩
def fSOP_PORT_STATUS_STATE : Fld := ⟨0x700000, 0, 3, 0x0, .rov, 16, 0x1000, 1, 0x0, 1, 0⟩

/- SOP_PORT_CFG: chapter 12, R400. -/
def fSOP_PORT_CFG_RETRY_LIMIT : Fld := ⟨0x700008, 0, 4, 0x8, .rw, 16, 0x1000, 1, 0x0, 1, 0⟩

/- SOP_PORT_CNT: chapter 12, R400. -/
def fSOP_PORT_CNT_RETRY_SENT : Fld := ⟨0x700010, 48, 16, 0x0, .w1c, 16, 0x1000, 1, 0x0, 1, 0⟩
def fSOP_PORT_CNT_BAD_FLITS : Fld := ⟨0x700010, 32, 16, 0x0, .w1c, 16, 0x1000, 1, 0x0, 1, 0⟩
def fSOP_PORT_CNT_FORWARDED : Fld := ⟨0x700010, 0, 32, 0x0, .w1c, 16, 0x1000, 1, 0x0, 1, 0⟩

/- SOP_PORT_ERR: chapter 12, R400. -/
def fSOP_PORT_ERR_FORMAT : Fld := ⟨0x700018, 4, 1, 0x0, .w1c, 16, 0x1000, 1, 0x0, 1, 0⟩
def fSOP_PORT_ERR_CREDIT_OVERFLOW : Fld := ⟨0x700018, 3, 1, 0x0, .w1c, 16, 0x1000, 1, 0x0, 1, 0⟩
def fSOP_PORT_ERR_PEER_LOST : Fld := ⟨0x700018, 2, 1, 0x0, .w1c, 16, 0x1000, 1, 0x0, 1, 0⟩
def fSOP_PORT_ERR_RETRY_EXHAUSTED : Fld := ⟨0x700018, 1, 1, 0x0, .w1c, 16, 0x1000, 1, 0x0, 1, 0⟩
def fSOP_PORT_ERR_LINK_INIT : Fld := ⟨0x700018, 0, 1, 0x0, .w1c, 16, 0x1000, 1, 0x0, 1, 0⟩

/- SOP_DEV: chapter 12, R400. -/
def fSOP_DEV_INBOUND_REG : Fld := ⟨0x700800, 23, 1, 0x0, .rw, 1, 0x0, 1, 0x0, 1, 0⟩
def fSOP_DEV_HOP_LIMIT : Fld := ⟨0x700800, 16, 6, 0x8, .rw, 1, 0x0, 1, 0x0, 1, 0⟩
def fSOP_DEV_DEV_ID : Fld := ⟨0x700800, 0, 16, 0x0, .rwl, 1, 0x0, 1, 0x0, 1, 0⟩

/- SOP_ROUTE_ADDR: chapter 12, R400. -/
def fSOP_ROUTE_ADDR_TABLE : Fld := ⟨0x700808, 10, 1, 0x0, .rw, 1, 0x0, 1, 0x0, 1, 0⟩
def fSOP_ROUTE_ADDR_INDEX : Fld := ⟨0x700808, 0, 10, 0x0, .rw, 1, 0x0, 1, 0x0, 1, 0⟩

/- SOP_ROUTE_DATA: chapter 12, R400. -/
def fSOP_ROUTE_DATA_VALID : Fld := ⟨0x700810, 16, 4, 0x0, .rw, 1, 0x0, 1, 0x0, 1, 0⟩
def fSOP_ROUTE_DATA_PORT : Fld := ⟨0x700810, 0, 4, 0x0, .rw, 1, 0x0, 1, 0x0, 4, 4⟩

/- SOP_TAGS: chapter 12, R400. -/
def fSOP_TAGS_STRAY_RSP : Fld := ⟨0x700818, 32, 32, 0x0, .w1c, 1, 0x0, 1, 0x0, 1, 0⟩
def fSOP_TAGS_IN_USE : Fld := ⟨0x700818, 0, 15, 0x0, .rov, 1, 0x0, 1, 0x0, 1, 0⟩

/- SOP_TIMEOUT: chapter 12, R400. -/
def fSOP_TIMEOUT_UNITS : Fld := ⟨0x700820, 0, 24, 0x100, .rw, 1, 0x0, 1, 0x0, 1, 0⟩

/- SOP_DEV_CNT: chapter 12, R400. -/
def fSOP_DEV_CNT_DROPPED : Fld := ⟨0x700828, 32, 32, 0x0, .w1c, 1, 0x0, 1, 0x0, 1, 0⟩
def fSOP_DEV_CNT_NO_ROUTE : Fld := ⟨0x700828, 16, 16, 0x0, .w1c, 1, 0x0, 1, 0x0, 1, 0⟩
def fSOP_DEV_CNT_MGMT_QUEUE : Fld := ⟨0x700828, 0, 7, 0x0, .rov, 1, 0x0, 1, 0x0, 1, 0⟩

/- BRW_STEP: chapter 13, R421. -/
def fBRW_STEP_STEP : Fld := ⟨0x0, 0, 4, 0x0, .rw, 1, 0x0, 1, 0x0, 1, 0⟩

/- BRW_GO: chapter 13, R421. -/
def fBRW_GO_GO : Fld := ⟨0x8, 0, 1, 0x0, .wo, 1, 0x0, 1, 0x0, 1, 0⟩

/- BRW_STATUS: chapter 13, R421. -/
def fBRW_STATUS_CODE : Fld := ⟨0x10, 48, 16, 0x0, .rov, 1, 0x0, 1, 0x0, 1, 0⟩
def fBRW_STATUS_LAST_DONE : Fld := ⟨0x10, 12, 4, 0x0, .rov, 1, 0x0, 1, 0x0, 1, 0⟩
def fBRW_STATUS_STEP : Fld := ⟨0x10, 8, 4, 0x0, .rov, 1, 0x0, 1, 0x0, 1, 0⟩
def fBRW_STATUS_STATE : Fld := ⟨0x10, 0, 3, 0x0, .rov, 1, 0x0, 1, 0x0, 1, 0⟩

/- BRW_STRAPS: chapter 13, R421. -/
def fBRW_STRAPS_FAILSTART_RECOVERY : Fld := ⟨0x18, 8, 1, 0x0, .ro, 1, 0x0, 1, 0x0, 1, 0⟩
def fBRW_STRAPS_BOOT_SRC : Fld := ⟨0x18, 4, 2, 0x0, .ro, 1, 0x0, 1, 0x0, 1, 0⟩
def fBRW_STRAPS_CLK_MODE : Fld := ⟨0x18, 2, 2, 0x0, .ro, 1, 0x0, 1, 0x0, 1, 0⟩
def fBRW_STRAPS_HALF_ID_EAST : Fld := ⟨0x18, 1, 1, 0x0, .ro, 1, 0x0, 1, 0x0, 1, 0⟩
def fBRW_STRAPS_HALF_ID_WEST : Fld := ⟨0x18, 0, 1, 0x0, .ro, 1, 0x0, 1, 0x0, 1, 0⟩

/- BRW_FAILSTART: chapter 13, R421. -/
def fBRW_FAILSTART_AON_COPY : Fld := ⟨0x20, 8, 8, 0x0, .rov, 1, 0x0, 1, 0x0, 1, 0⟩
def fBRW_FAILSTART_COUNT : Fld := ⟨0x20, 0, 8, 0x0, .rov, 1, 0x0, 1, 0x0, 1, 0⟩

/- BRW_WDOG: chapter 13, R421. -/
def fBRW_WDOG_REMAIN_MS : Fld := ⟨0x28, 12, 20, 0xea60, .rov, 1, 0x0, 1, 0x0, 1, 0⟩
def fBRW_WDOG_SECONDS : Fld := ⟨0x28, 0, 8, 0x3c, .rw, 1, 0x0, 1, 0x0, 1, 0⟩

/- BRW_PLOTS: chapter 13, R421. -/
def fBRW_PLOTS_SPARE_EAST : Fld := ⟨0x30, 32, 7, 0x0, .rov, 1, 0x0, 1, 0x0, 1, 0⟩
def fBRW_PLOTS_SPARE_WEST : Fld := ⟨0x30, 25, 7, 0x0, .rov, 1, 0x0, 1, 0x0, 1, 0⟩
def fBRW_PLOTS_ABSENT : Fld := ⟨0x30, 11, 11, 0x0, .rov, 1, 0x0, 1, 0x0, 1, 0⟩
def fBRW_PLOTS_IN_SERVICE : Fld := ⟨0x30, 0, 11, 0x0, .rov, 1, 0x0, 1, 0x0, 1, 0⟩

/- BRW_PUSH_LEN: chapter 13, R421. -/
def fBRW_PUSH_LEN_LENGTH : Fld := ⟨0x38, 0, 20, 0x0, .rw, 1, 0x0, 1, 0x0, 1, 0⟩

/- BRW_RECOVERY: chapter 13, R421. -/
def fBRW_RECOVERY_CODE : Fld := ⟨0x40, 48, 16, 0x0, .rov, 1, 0x0, 1, 0x0, 1, 0⟩
def fBRW_RECOVERY_RESULT : Fld := ⟨0x40, 16, 2, 0x0, .rov, 1, 0x0, 1, 0x0, 1, 0⟩
def fBRW_RECOVERY_CMD : Fld := ⟨0x40, 0, 3, 0x0, .wo, 1, 0x0, 1, 0x0, 1, 0⟩

/- BRW_ELAPSED: chapter 13, R421. -/
def fBRW_ELAPSED_AC : Fld := ⟨0x48, 0, 32, 0x0, .rov, 1, 0x0, 1, 0x0, 1, 0⟩

/- BRW_PLOTFAIL: chapter 13, R421. -/
def fBRW_PLOTFAIL_VALID : Fld := ⟨0x100, 63, 1, 0x0, .rov, 64, 0x8, 1, 0x0, 1, 0⟩
def fBRW_PLOTFAIL_TEST : Fld := ⟨0x100, 16, 4, 0x0, .rov, 64, 0x8, 1, 0x0, 1, 0⟩
def fBRW_PLOTFAIL_PLOT : Fld := ⟨0x100, 0, 11, 0x0, .rov, 64, 0x8, 1, 0x0, 1, 0⟩

/- AON_RESET_CAUSE: chapter 14, R446. -/
def fAON_RESET_CAUSE_CODE : Fld := ⟨0x100000, 48, 16, 0x0, .ro, 1, 0x0, 1, 0x0, 1, 0⟩
def fAON_RESET_CAUSE_CRIT_ERR : Fld := ⟨0x100000, 7, 1, 0x0, .w1c, 1, 0x0, 1, 0x0, 1, 0⟩
def fAON_RESET_CAUSE_VOTE : Fld := ⟨0x100000, 6, 1, 0x0, .w1c, 1, 0x0, 1, 0x0, 1, 0⟩
def fAON_RESET_CAUSE_THERM_TRIP : Fld := ⟨0x100000, 5, 1, 0x0, .w1c, 1, 0x0, 1, 0x0, 1, 0⟩
def fAON_RESET_CAUSE_COMPANION : Fld := ⟨0x100000, 4, 1, 0x0, .w1c, 1, 0x0, 1, 0x0, 1, 0⟩
def fAON_RESET_CAUSE_WDOG_SHED : Fld := ⟨0x100000, 3, 1, 0x0, .w1c, 1, 0x0, 1, 0x0, 1, 0⟩
def fAON_RESET_CAUSE_WDOG_BRW : Fld := ⟨0x100000, 2, 1, 0x0, .w1c, 1, 0x0, 1, 0x0, 1, 0⟩
def fAON_RESET_CAUSE_RESET_N : Fld := ⟨0x100000, 1, 1, 0x0, .w1c, 1, 0x0, 1, 0x0, 1, 0⟩
def fAON_RESET_CAUSE_POR : Fld := ⟨0x100000, 0, 1, 0x1, .w1c, 1, 0x0, 1, 0x0, 1, 0⟩

/- AON_RESET_CMD: chapter 14, R446. -/
def fAON_RESET_CMD_CMD : Fld := ⟨0x100008, 0, 2, 0x0, .wo, 1, 0x0, 1, 0x0, 1, 0⟩

/- AON_BLK_RST: chapter 14, R446. -/
def fAON_BLK_RST_RESULT : Fld := ⟨0x100010, 16, 2, 0x0, .rov, 1, 0x0, 1, 0x0, 1, 0⟩
def fAON_BLK_RST_KIND : Fld := ⟨0x100010, 12, 4, 0x0, .rw, 1, 0x0, 1, 0x0, 1, 0⟩
def fAON_BLK_RST_INSTANCE : Fld := ⟨0x100010, 1, 11, 0x0, .rw, 1, 0x0, 1, 0x0, 1, 0⟩
def fAON_BLK_RST_GO : Fld := ⟨0x100010, 0, 1, 0x0, .wo, 1, 0x0, 1, 0x0, 1, 0⟩

/- AON_IDLE_TIMEOUT: chapter 14, R446. -/
def fAON_IDLE_TIMEOUT_AC : Fld := ⟨0x100018, 0, 24, 0x9c4, .rw, 1, 0x0, 1, 0x0, 1, 0⟩

/- AON_DSTATE: chapter 14, R446. -/
def fAON_DSTATE_REQ : Fld := ⟨0x100020, 3, 2, 0x0, .wo, 1, 0x0, 1, 0x0, 1, 0⟩
def fAON_DSTATE_STATE : Fld := ⟨0x100020, 0, 3, 0x0, .rov, 1, 0x0, 1, 0x0, 1, 0⟩

/- THM_PWR_CFG: chapter 14, R447. -/
def fTHM_PWR_CFG_PEAK_W : Fld := ⟨0x201000, 16, 12, 0x834, .rw, 1, 0x0, 1, 0x0, 1, 0⟩
def fTHM_PWR_CFG_SUST_W : Fld := ⟨0x201000, 0, 12, 0x708, .rw, 1, 0x0, 1, 0x0, 1, 0⟩

/- THM_PWR_STATUS: chapter 14, R447. -/
def fTHM_PWR_STATUS_E_MJ : Fld := ⟨0x201008, 48, 12, 0x0, .rov, 1, 0x0, 1, 0x0, 1, 0⟩
def fTHM_PWR_STATUS_LOCKED : Fld := ⟨0x201008, 40, 1, 0x0, .rov, 1, 0x0, 1, 0x0, 1, 0⟩
def fTHM_PWR_STATUS_DUTY : Fld := ⟨0x201008, 32, 8, 0xff, .rov, 1, 0x0, 1, 0x0, 1, 0⟩
def fTHM_PWR_STATUS_L_W : Fld := ⟨0x201008, 16, 12, 0x708, .rov, 1, 0x0, 1, 0x0, 1, 0⟩
def fTHM_PWR_STATUS_P_W : Fld := ⟨0x201008, 0, 12, 0x0, .rov, 1, 0x0, 1, 0x0, 1, 0⟩

/- THM_PWR_CNT: chapter 14, R447. -/
def fTHM_PWR_CNT_LOCKS : Fld := ⟨0x201010, 32, 32, 0x0, .w1c, 1, 0x0, 1, 0x0, 1, 0⟩
def fTHM_PWR_CNT_FAST_CUTS : Fld := ⟨0x201010, 0, 32, 0x0, .w1c, 1, 0x0, 1, 0x0, 1, 0⟩

/- PLOT_PWR: chapter 14, R447. -/
def fPLOT_PWR_REQ : Fld := ⟨0xf80, 4, 2, 0x0, .rw, 1, 0x0, 1, 0x0, 1, 0⟩
def fPLOT_PWR_STATE : Fld := ⟨0xf80, 0, 2, 0x0, .rov, 1, 0x0, 1, 0x0, 1, 0⟩

/- THM_STATUS: chapter 15, R472. -/
def fTHM_STATUS_HOT_LOGIC : Fld := ⟨0x200000, 52, 12, 0x0, .rov, 1, 0x0, 1, 0x0, 1, 0⟩
def fTHM_STATUS_HOT_BED : Fld := ⟨0x200000, 40, 12, 0x0, .rov, 1, 0x0, 1, 0x0, 1, 0⟩
def fTHM_STATUS_PLOT_LOGIC : Fld := ⟨0x200000, 29, 11, 0x0, .rov, 1, 0x0, 1, 0x0, 1, 0⟩
def fTHM_STATUS_PLOT_BED : Fld := ⟨0x200000, 18, 11, 0x0, .rov, 1, 0x0, 1, 0x0, 1, 0⟩
def fTHM_STATUS_STOP : Fld := ⟨0x200000, 5, 1, 0x0, .rov, 1, 0x0, 1, 0x0, 1, 0⟩
def fTHM_STATUS_THR_BED : Fld := ⟨0x200000, 4, 1, 0x0, .rov, 1, 0x0, 1, 0x0, 1, 0⟩
def fTHM_STATUS_WARN_BED : Fld := ⟨0x200000, 3, 1, 0x0, .rov, 1, 0x0, 1, 0x0, 1, 0⟩
def fTHM_STATUS_THR_LOGIC : Fld := ⟨0x200000, 2, 1, 0x0, .rov, 1, 0x0, 1, 0x0, 1, 0⟩
def fTHM_STATUS_WARN_LOGIC : Fld := ⟨0x200000, 1, 1, 0x0, .rov, 1, 0x0, 1, 0x0, 1, 0⟩
def fTHM_STATUS_FC_IN_USE : Fld := ⟨0x200000, 0, 1, 0x0, .rov, 1, 0x0, 1, 0x0, 1, 0⟩

/- THM_CFG: chapter 15, R472. -/
def fTHM_CFG_FORECAST_EN : Fld := ⟨0x200008, 0, 1, 0x0, .rw, 1, 0x0, 1, 0x0, 1, 0⟩

/- THM_FORECAST: chapter 15, R472. -/
def fTHM_FORECAST_PRED_LOGIC : Fld := ⟨0x200010, 52, 12, 0x0, .rw, 1, 0x0, 1, 0x0, 1, 0⟩
def fTHM_FORECAST_PRED_BED : Fld := ⟨0x200010, 40, 12, 0x0, .rw, 1, 0x0, 1, 0x0, 1, 0⟩

/- THM_LIMIT: chapter 15, R472. -/
def fTHM_LIMIT_LC_W : Fld := ⟨0x200018, 32, 12, 0x708, .rov, 1, 0x0, 1, 0x0, 1, 0⟩
def fTHM_LIMIT_LT_W : Fld := ⟨0x200018, 20, 12, 0x708, .rov, 1, 0x0, 1, 0x0, 1, 0⟩
def fTHM_LIMIT_X : Fld := ⟨0x200018, 0, 12, 0x0, .rov, 1, 0x0, 1, 0x0, 1, 0⟩

/- THM_EMERG: chapter 15, R472. -/
def fTHM_EMERG_ACTIVE : Fld := ⟨0x200020, 63, 1, 0x0, .rov, 1, 0x0, 1, 0x0, 1, 0⟩
def fTHM_EMERG_PMBUS_FAULT : Fld := ⟨0x200020, 6, 1, 0x0, .rov, 1, 0x0, 1, 0x0, 1, 0⟩
def fTHM_EMERG_FAST_CUT : Fld := ⟨0x200020, 5, 1, 0x0, .rov, 1, 0x0, 1, 0x0, 1, 0⟩
def fTHM_EMERG_FLOW_STOP : Fld := ⟨0x200020, 4, 1, 0x0, .rov, 1, 0x0, 1, 0x0, 1, 0⟩
def fTHM_EMERG_FLOW_THROTTLE : Fld := ⟨0x200020, 3, 1, 0x0, .rov, 1, 0x0, 1, 0x0, 1, 0⟩
def fTHM_EMERG_STOP : Fld := ⟨0x200020, 2, 1, 0x0, .rov, 1, 0x0, 1, 0x0, 1, 0⟩
def fTHM_EMERG_THR_BED : Fld := ⟨0x200020, 1, 1, 0x0, .rov, 1, 0x0, 1, 0x0, 1, 0⟩
def fTHM_EMERG_THR_LOGIC : Fld := ⟨0x200020, 0, 1, 0x0, .rov, 1, 0x0, 1, 0x0, 1, 0⟩

/- THM_COOL_STATUS: chapter 15, R472. -/
def fTHM_COOL_STATUS_INLET : Fld := ⟨0x200040, 52, 12, 0x0, .rov, 1, 0x0, 1, 0x0, 1, 0⟩
def fTHM_COOL_STATUS_OUTLET : Fld := ⟨0x200040, 40, 12, 0x0, .rov, 1, 0x0, 1, 0x0, 1, 0⟩
def fTHM_COOL_STATUS_FLOW : Fld := ⟨0x200040, 28, 12, 0x0, .rov, 1, 0x0, 1, 0x0, 1, 0⟩
def fTHM_COOL_STATUS_FLOW_1S : Fld := ⟨0x200040, 16, 12, 0x0, .rov, 1, 0x0, 1, 0x0, 1, 0⟩
def fTHM_COOL_STATUS_DUTY : Fld := ⟨0x200040, 6, 10, 0x3e8, .rov, 1, 0x0, 1, 0x0, 1, 0⟩
def fTHM_COOL_STATUS_FLOW_LOW : Fld := ⟨0x200040, 5, 1, 0x0, .rov, 1, 0x0, 1, 0x0, 1, 0⟩
def fTHM_COOL_STATUS_INLET_BAD : Fld := ⟨0x200040, 2, 1, 0x0, .rov, 1, 0x0, 1, 0x0, 1, 0⟩
def fTHM_COOL_STATUS_OUTLET_BAD : Fld := ⟨0x200040, 1, 1, 0x0, .rov, 1, 0x0, 1, 0x0, 1, 0⟩
def fTHM_COOL_STATUS_NO_PULSE : Fld := ⟨0x200040, 0, 1, 0x0, .rov, 1, 0x0, 1, 0x0, 1, 0⟩

/- THM_COOL_CFG: chapter 15, R472. -/
def fTHM_COOL_CFG_PULSES_PER_L : Fld := ⟨0x200048, 32, 16, 0xbb8, .rw, 1, 0x0, 1, 0x0, 1, 0⟩
def fTHM_COOL_CFG_FLOW_SET : Fld := ⟨0x200048, 16, 12, 0xc8, .rw, 1, 0x0, 1, 0x0, 1, 0⟩
def fTHM_COOL_CFG_DUTY_MIN : Fld := ⟨0x200048, 0, 10, 0x190, .rw, 1, 0x0, 1, 0x0, 1, 0⟩

/- THM_COOL_CTRL: chapter 15, R472. -/
def fTHM_COOL_CTRL_MODE : Fld := ⟨0x200050, 12, 1, 0x1, .rw, 1, 0x0, 1, 0x0, 1, 0⟩
def fTHM_COOL_CTRL_DUTY_FIXED : Fld := ⟨0x200050, 0, 10, 0x3e8, .rw, 1, 0x0, 1, 0x0, 1, 0⟩

/- THM_WARM: chapter 15, R472. -/
def fTHM_WARM_WARM_EN : Fld := ⟨0x200060, 63, 1, 0x1, .rw, 1, 0x0, 1, 0x0, 1, 0⟩
def fTHM_WARM_REF : Fld := ⟨0x200060, 40, 12, 0x0, .rov, 1, 0x0, 1, 0x0, 1, 0⟩
def fTHM_WARM_FLOOR_W : Fld := ⟨0x200060, 0, 10, 0x12c, .rw, 1, 0x0, 1, 0x0, 1, 0⟩

/- THM_CYCLES_W: chapter 15, R472. -/
def fTHM_CYCLES_W_BIN45 : Fld := ⟨0x200070, 42, 21, 0x0, .rov, 1, 0x0, 1, 0x0, 1, 0⟩

/- THM_CYCLES_E: chapter 15, R472. -/
def fTHM_CYCLES_E_BIN45 : Fld := ⟨0x200078, 42, 21, 0x0, .rov, 1, 0x0, 1, 0x0, 1, 0⟩

/- THM_CYCLES_W: chapter 15, R472. -/
def fTHM_CYCLES_W_BIN30 : Fld := ⟨0x200070, 21, 21, 0x0, .rov, 1, 0x0, 1, 0x0, 1, 0⟩

/- THM_CYCLES_E: chapter 15, R472. -/
def fTHM_CYCLES_E_BIN30 : Fld := ⟨0x200078, 21, 21, 0x0, .rov, 1, 0x0, 1, 0x0, 1, 0⟩

/- THM_CYCLES_W: chapter 15, R472. -/
def fTHM_CYCLES_W_BIN20 : Fld := ⟨0x200070, 0, 21, 0x0, .rov, 1, 0x0, 1, 0x0, 1, 0⟩

/- THM_CYCLES_E: chapter 15, R472. -/
def fTHM_CYCLES_E_BIN20 : Fld := ⟨0x200078, 0, 21, 0x0, .rov, 1, 0x0, 1, 0x0, 1, 0⟩

/- THM_TRIP_LOG: chapter 15, R472. -/
def fTHM_TRIP_LOG_TRIPS : Fld := ⟨0x200080, 48, 16, 0x0, .rov, 1, 0x0, 1, 0x0, 1, 0⟩
def fTHM_TRIP_LOG_PLOT : Fld := ⟨0x200080, 36, 11, 0x0, .rov, 1, 0x0, 1, 0x0, 1, 0⟩
def fTHM_TRIP_LOG_KIND : Fld := ⟨0x200080, 35, 1, 0x0, .rov, 1, 0x0, 1, 0x0, 1, 0⟩
def fTHM_TRIP_LOG_VALUE : Fld := ⟨0x200080, 16, 12, 0x0, .rov, 1, 0x0, 1, 0x0, 1, 0⟩

/- THM_ERR: chapter 15, R472. -/
def fTHM_ERR_CODE_SEEN : Fld := ⟨0x200088, 0, 18, 0x0, .w1c, 1, 0x0, 1, 0x0, 1, 0⟩

/- THM_PLOT_SENSE: chapter 15, R472. -/
def fTHM_PLOT_SENSE_LOGIC : Fld := ⟨0x204000, 52, 12, 0x0, .rov, 2048, 0x10, 1, 0x0, 1, 0⟩
def fTHM_PLOT_SENSE_BED : Fld := ⟨0x204000, 40, 12, 0x0, .rov, 2048, 0x10, 1, 0x0, 1, 0⟩
def fTHM_PLOT_SENSE_LOGIC_ARB : Fld := ⟨0x204000, 28, 12, 0x0, .rov, 2048, 0x10, 1, 0x0, 1, 0⟩
def fTHM_PLOT_SENSE_BED_ARB : Fld := ⟨0x204000, 16, 12, 0x0, .rov, 2048, 0x10, 1, 0x0, 1, 0⟩
def fTHM_PLOT_SENSE_DIS_COUNT : Fld := ⟨0x204000, 12, 4, 0x0, .rov, 2048, 0x10, 1, 0x0, 1, 0⟩
def fTHM_PLOT_SENSE_BED_INVALID : Fld := ⟨0x204000, 6, 1, 0x0, .rov, 2048, 0x10, 1, 0x0, 1, 0⟩
def fTHM_PLOT_SENSE_LOGIC_INVALID : Fld := ⟨0x204000, 5, 1, 0x0, .rov, 2048, 0x10, 1, 0x0, 1, 0⟩
def fTHM_PLOT_SENSE_STATE : Fld := ⟨0x204000, 0, 3, 0x0, .rov, 2048, 0x10, 1, 0x0, 1, 0⟩

/- THM_PLOT_ARB: chapter 15, R472. -/
def fTHM_PLOT_ARB_MASK : Fld := ⟨0x204008, 16, 2, 0x0, .rw, 2048, 0x10, 1, 0x0, 1, 0⟩
def fTHM_PLOT_ARB_UNDECIDED : Fld := ⟨0x204008, 12, 1, 0x0, .rw, 2048, 0x10, 1, 0x0, 1, 0⟩
def fTHM_PLOT_ARB_EXP_OFFSET : Fld := ⟨0x204008, 0, 12, 0x18, .rw, 2048, 0x10, 1, 0x0, 1, 0⟩

/- SED_CFG: chapter 16, R502. -/
def fSED_CFG_TALLY_TIMEOUT : Fld := ⟨0x390000, 32, 16, 0x64, .rw, 1, 0x0, 1, 0x0, 1, 0⟩
def fSED_CFG_TALLY_PERIOD : Fld := ⟨0x390000, 16, 16, 0x40, .rw, 1, 0x0, 1, 0x0, 1, 0⟩
def fSED_CFG_TALLY_EN : Fld := ⟨0x390000, 0, 1, 0x0, .rw, 1, 0x0, 1, 0x0, 1, 0⟩

/- SED_MOVE: chapter 16, R502. -/
def fSED_MOVE_CODE : Fld := ⟨0x390008, 48, 16, 0x0, .rov, 1, 0x0, 1, 0x0, 1, 0⟩
def fSED_MOVE_STATE : Fld := ⟨0x390008, 45, 3, 0x0, .rov, 1, 0x0, 1, 0x0, 1, 0⟩
def fSED_MOVE_VERDICT : Fld := ⟨0x390008, 43, 2, 0x0, .rov, 1, 0x0, 1, 0x0, 1, 0⟩
def fSED_MOVE_SPARE : Fld := ⟨0x390008, 32, 11, 0x0, .rw, 1, 0x0, 1, 0x0, 1, 0⟩
def fSED_MOVE_RESULT : Fld := ⟨0x390008, 30, 2, 0x0, .rov, 1, 0x0, 1, 0x0, 1, 0⟩
def fSED_MOVE_LOGICAL : Fld := ⟨0x390008, 12, 10, 0x0, .rw, 1, 0x0, 1, 0x0, 1, 0⟩
def fSED_MOVE_MODE : Fld := ⟨0x390008, 1, 3, 0x0, .rw, 1, 0x0, 1, 0x0, 1, 0⟩
def fSED_MOVE_GO : Fld := ⟨0x390008, 0, 1, 0x0, .wo, 1, 0x0, 1, 0x0, 1, 0⟩

/- SED_MOVE_STATUS: chapter 16, R502. -/
def fSED_MOVE_STATUS_UNCORR : Fld := ⟨0x390010, 32, 32, 0x0, .rov, 1, 0x0, 1, 0x0, 1, 0⟩
def fSED_MOVE_STATUS_UNITS : Fld := ⟨0x390010, 0, 32, 0x0, .rov, 1, 0x0, 1, 0x0, 1, 0⟩

/- SED_CRIT_FLIP: chapter 16, R502. -/
def fSED_CRIT_FLIP_ARM : Fld := ⟨0x390018, 16, 1, 0x0, .rw, 1, 0x0, 1, 0x0, 1, 0⟩
def fSED_CRIT_FLIP_WORD : Fld := ⟨0x390018, 13, 3, 0x0, .rw, 1, 0x0, 1, 0x0, 1, 0⟩
def fSED_CRIT_FLIP_COPY : Fld := ⟨0x390018, 8, 2, 0x0, .rw, 1, 0x0, 1, 0x0, 1, 0⟩
def fSED_CRIT_FLIP_MASK : Fld := ⟨0x390018, 0, 8, 0x0, .rw, 1, 0x0, 1, 0x0, 1, 0⟩

/- SED_CNT: chapter 16, R502. -/
def fSED_CNT_TRANSIENTS : Fld := ⟨0x390020, 48, 16, 0x0, .w1c, 1, 0x0, 1, 0x0, 1, 0⟩
def fSED_CNT_PERMANENTS : Fld := ⟨0x390020, 32, 16, 0x0, .w1c, 1, 0x0, 1, 0x0, 1, 0⟩
def fSED_CNT_MOVES : Fld := ⟨0x390020, 16, 16, 0x0, .w1c, 1, 0x0, 1, 0x0, 1, 0⟩
def fSED_CNT_TALLY_MISMATCHES : Fld := ⟨0x390020, 0, 16, 0x0, .w1c, 1, 0x0, 1, 0x0, 1, 0⟩

/- PLOT_MEM_FLIP: chapter 16, R502. -/
def fPLOT_MEM_FLIP_ARM : Fld := ⟨0xf40, 26, 1, 0x0, .rw, 1, 0x0, 1, 0x0, 1, 0⟩
def fPLOT_MEM_FLIP_CHANNEL : Fld := ⟨0xf40, 24, 2, 0x0, .rw, 1, 0x0, 1, 0x0, 1, 0⟩
def fPLOT_MEM_FLIP_CLASS : Fld := ⟨0xf40, 22, 2, 0x0, .rw, 1, 0x0, 1, 0x0, 1, 0⟩
def fPLOT_MEM_FLIP_POS_B : Fld := ⟨0xf40, 15, 7, 0x7f, .rw, 1, 0x0, 1, 0x0, 1, 0⟩
def fPLOT_MEM_FLIP_POS_A : Fld := ⟨0xf40, 0, 8, 0xff, .rw, 1, 0x0, 1, 0x0, 1, 0⟩

/- PLOT_SELFTEST: chapter 16, R502. -/
def fPLOT_SELFTEST_TEST : Fld := ⟨0xf48, 16, 4, 0x0, .rov, 1, 0x0, 1, 0x0, 1, 0⟩
def fPLOT_SELFTEST_RESULT : Fld := ⟨0xf48, 8, 2, 0x0, .rov, 1, 0x0, 1, 0x0, 1, 0⟩
def fPLOT_SELFTEST_GO : Fld := ⟨0xf48, 0, 1, 0x0, .wo, 1, 0x0, 1, 0x0, 1, 0⟩

/- PLOT_UNIT_ICNT: chapter 16, R502. -/
def fPLOT_UNIT_ICNT_COUNT : Fld := ⟨0x3000, 0, 48, 0x0, .rov, 20, 0x8, 1, 0x0, 1, 0⟩

/- SHD_FW: chapter 17, R521. -/
def fSHD_FW_VERSION : Fld := ⟨0x300000, 32, 32, 0x0, .rov, 1, 0x0, 1, 0x0, 1, 0⟩
def fSHD_FW_STATE : Fld := ⟨0x300000, 0, 3, 0x0, .rov, 1, 0x0, 1, 0x0, 1, 0⟩

/- SHD_CORE_CTRL: chapter 17, R521. -/
def fSHD_CORE_CTRL_MSIP : Fld := ⟨0x300100, 2, 1, 0x0, .rw, 8, 0x20, 1, 0x0, 1, 0⟩
def fSHD_CORE_CTRL_WFI : Fld := ⟨0x300100, 1, 1, 0x0, .rov, 8, 0x20, 1, 0x0, 1, 0⟩
def fSHD_CORE_CTRL_RUN : Fld := ⟨0x300100, 0, 1, 0x0, .rw, 8, 0x20, 1, 0x0, 1, 0⟩

/- SHD_CORE_WDOG: chapter 17, R521. -/
def fSHD_CORE_WDOG_STAGE : Fld := ⟨0x300108, 18, 2, 0x0, .rov, 8, 0x20, 1, 0x0, 1, 0⟩
def fSHD_CORE_WDOG_EN : Fld := ⟨0x300108, 17, 1, 0x0, .rwl, 8, 0x20, 1, 0x0, 1, 0⟩
def fSHD_CORE_WDOG_PERIOD : Fld := ⟨0x300108, 0, 16, 0x3e8, .rw, 8, 0x20, 1, 0x0, 1, 0⟩

/- SHD_CORE_KICK: chapter 17, R521. -/
def fSHD_CORE_KICK_KEY : Fld := ⟨0x300110, 0, 16, 0x0, .wo, 8, 0x20, 1, 0x0, 1, 0⟩

/- SHD_HASH_CTRL: chapter 17, R521. -/
def fSHD_HASH_CTRL_BUSY : Fld := ⟨0x301000, 4, 1, 0x0, .rov, 1, 0x0, 1, 0x0, 1, 0⟩
def fSHD_HASH_CTRL_OUT64 : Fld := ⟨0x301000, 3, 1, 0x0, .rw, 1, 0x0, 1, 0x0, 1, 0⟩
def fSHD_HASH_CTRL_FINAL : Fld := ⟨0x301000, 2, 1, 0x0, .rw, 1, 0x0, 1, 0x0, 1, 0⟩
def fSHD_HASH_CTRL_INIT : Fld := ⟨0x301000, 1, 1, 0x0, .rw, 1, 0x0, 1, 0x0, 1, 0⟩
def fSHD_HASH_CTRL_GO : Fld := ⟨0x301000, 0, 1, 0x0, .wo, 1, 0x0, 1, 0x0, 1, 0⟩

/- SHD_HASH_SRC: chapter 17, R521. -/
def fSHD_HASH_SRC_ADDR : Fld := ⟨0x301008, 0, 49, 0x0, .rw, 1, 0x0, 1, 0x0, 1, 0⟩

/- SHD_HASH_LEN: chapter 17, R521. -/
def fSHD_HASH_LEN_LEN : Fld := ⟨0x301010, 0, 32, 0x0, .rw, 1, 0x0, 1, 0x0, 1, 0⟩

/- SHD_HASH_OUT: chapter 17, R521. -/
def fSHD_HASH_OUT_BYTES : Fld := ⟨0x301040, 0, 64, 0x0, .rov, 8, 0x8, 1, 0x0, 1, 0⟩

/- SHD_CRC_CTRL: chapter 17, R521. -/
def fSHD_CRC_CTRL_BUSY : Fld := ⟨0x301100, 2, 1, 0x0, .rov, 1, 0x0, 1, 0x0, 1, 0⟩
def fSHD_CRC_CTRL_INIT : Fld := ⟨0x301100, 1, 1, 0x0, .rw, 1, 0x0, 1, 0x0, 1, 0⟩
def fSHD_CRC_CTRL_GO : Fld := ⟨0x301100, 0, 1, 0x0, .wo, 1, 0x0, 1, 0x0, 1, 0⟩

/- SHD_CRC_SRC: chapter 17, R521. -/
def fSHD_CRC_SRC_ADDR : Fld := ⟨0x301108, 0, 49, 0x0, .rw, 1, 0x0, 1, 0x0, 1, 0⟩

/- SHD_CRC_LEN: chapter 17, R521. -/
def fSHD_CRC_LEN_LEN : Fld := ⟨0x301110, 0, 32, 0x0, .rw, 1, 0x0, 1, 0x0, 1, 0⟩

/- SHD_CRC_RESULT: chapter 17, R521. -/
def fSHD_CRC_RESULT_CRC : Fld := ⟨0x301118, 0, 64, 0x0, .rov, 1, 0x0, 1, 0x0, 1, 0⟩

/- SHD_SRAM: chapter 17, R521. -/
def fSHD_SRAM_CORRECTED : Fld := ⟨0x301200, 48, 16, 0x0, .w1c, 1, 0x0, 1, 0x0, 1, 0⟩
def fSHD_SRAM_FLIP_ARM : Fld := ⟨0x301200, 38, 1, 0x0, .rw, 1, 0x0, 1, 0x0, 1, 0⟩
def fSHD_SRAM_POS_B : Fld := ⟨0x301200, 31, 7, 0x7f, .rw, 1, 0x0, 1, 0x0, 1, 0⟩
def fSHD_SRAM_POS_A : Fld := ⟨0x301200, 24, 7, 0x7f, .rw, 1, 0x0, 1, 0x0, 1, 0⟩
def fSHD_SRAM_ERR_ADDR : Fld := ⟨0x301200, 0, 22, 0x0, .ro, 1, 0x0, 1, 0x0, 1, 0⟩

/- SHD_ERR: chapter 17, R521. -/
def fSHD_ERR_CODE_SEEN : Fld := ⟨0x301300, 0, 16, 0x0, .w1c, 1, 0x0, 1, 0x0, 1, 0⟩

/- ICU_PRIO: chapter 17, R521. -/
def fICU_PRIO_PRIO : Fld := ⟨0x340000, 0, 4, 0x0, .rw, 512, 0x8, 1, 0x0, 1, 0⟩

/- ICU_PEND: chapter 17, R521. -/
def fICU_PEND_PEND : Fld := ⟨0x341000, 0, 64, 0x0, .rov, 8, 0x8, 1, 0x0, 1, 0⟩

/- ICU_PEND_SET: chapter 17, R521. -/
def fICU_PEND_SET_SET : Fld := ⟨0x341040, 0, 64, 0x0, .wo, 8, 0x8, 1, 0x0, 1, 0⟩

/- ICU_PEND_CLR: chapter 17, R521. -/
def fICU_PEND_CLR_CLR : Fld := ⟨0x341080, 0, 64, 0x0, .wo, 8, 0x8, 1, 0x0, 1, 0⟩

/- ICU_LEVEL: chapter 17, R521. -/
def fICU_LEVEL_LEVEL : Fld := ⟨0x3410c0, 0, 64, 0x0, .ro, 8, 0x8, 1, 0x0, 1, 0⟩

/- ICU_ENABLE: chapter 17, R521. -/
def fICU_ENABLE_EN : Fld := ⟨0x342000, 0, 64, 0x0, .rov, 8, 0x100, 8, 0x8, 1, 0⟩

/- ICU_THRESHOLD: chapter 17, R521. -/
def fICU_THRESHOLD_THRESHOLD : Fld := ⟨0x3420c0, 0, 4, 0x0, .rw, 8, 0x100, 1, 0x0, 1, 0⟩

/- ICU_CLAIM: chapter 17, R521. -/
def fICU_CLAIM_ID : Fld := ⟨0x3420c8, 0, 10, 0x0, .rov, 8, 0x100, 1, 0x0, 1, 0⟩

/- ICU_COMPLETE: chapter 17, R521. -/
def fICU_COMPLETE_ID : Fld := ⟨0x3420d0, 0, 10, 0x0, .wo, 8, 0x100, 1, 0x0, 1, 0⟩

/- ICU_STACK: chapter 17, R521. -/
def fICU_STACK_DEPTH : Fld := ⟨0x3420d8, 4, 4, 0x0, .rov, 8, 0x100, 1, 0x0, 1, 0⟩
def fICU_STACK_RUNNING : Fld := ⟨0x3420d8, 0, 4, 0x0, .rov, 8, 0x100, 1, 0x0, 1, 0⟩

/- ICU_PLOT_ROW: chapter 17, R521. -/
def fICU_PLOT_ROW_COLS : Fld := ⟨0x343000, 0, 32, 0x0, .rov, 102, 0x8, 1, 0x0, 1, 0⟩

/- PLOT_IRQ: chapter 17, R521. -/
def fPLOT_IRQ_EN : Fld := ⟨0xf50, 32, 16, 0xf07, .rw, 1, 0x0, 1, 0x0, 1, 0⟩
def fPLOT_IRQ_BED_CH : Fld := ⟨0xf50, 16, 4, 0x0, .w1c, 1, 0x0, 1, 0x0, 1, 0⟩
def fPLOT_IRQ_ATT : Fld := ⟨0xf50, 10, 1, 0x0, .w1c, 1, 0x0, 1, 0x0, 1, 0⟩
def fPLOT_IRQ_TINE : Fld := ⟨0xf50, 9, 1, 0x0, .w1c, 1, 0x0, 1, 0x0, 1, 0⟩
def fPLOT_IRQ_ARR : Fld := ⟨0xf50, 8, 1, 0x0, .w1c, 1, 0x0, 1, 0x0, 1, 0⟩
def fPLOT_IRQ_SEQ_DONE : Fld := ⟨0xf50, 1, 1, 0x0, .w1c, 1, 0x0, 1, 0x0, 1, 0⟩
def fPLOT_IRQ_SEQ_STOP : Fld := ⟨0xf50, 0, 1, 0x0, .w1c, 1, 0x0, 1, 0x0, 1, 0⟩

/- TRU_STATUS: chapter 18, R552. -/
def fTRU_STATUS_ROLLBACK : Fld := ⟨0x400000, 32, 8, 0x0, .rov, 1, 0x0, 1, 0x0, 1, 0⟩
def fTRU_STATUS_IDENT_READY : Fld := ⟨0x400000, 7, 1, 0x0, .rov, 1, 0x0, 1, 0x0, 1, 0⟩
def fTRU_STATUS_CERT_VALID : Fld := ⟨0x400000, 6, 1, 0x0, .rov, 1, 0x0, 1, 0x0, 1, 0⟩
def fTRU_STATUS_KEY_VALID : Fld := ⟨0x400000, 5, 1, 0x0, .rov, 1, 0x0, 1, 0x0, 1, 0⟩
def fTRU_STATUS_SLOT_ACTIVE : Fld := ⟨0x400000, 4, 1, 0x0, .rov, 1, 0x0, 1, 0x0, 1, 0⟩
def fTRU_STATUS_SLOT_BOOTED : Fld := ⟨0x400000, 3, 1, 0x0, .rov, 1, 0x0, 1, 0x0, 1, 0⟩
def fTRU_STATUS_PUSHED : Fld := ⟨0x400000, 2, 1, 0x0, .rov, 1, 0x0, 1, 0x0, 1, 0⟩

/- TRU_LIC: chapter 18, R552. -/
def fTRU_LIC_SERIAL : Fld := ⟨0x400008, 32, 32, 0x0, .rov, 1, 0x0, 1, 0x0, 1, 0⟩
def fTRU_LIC_PLOTS_EAST : Fld := ⟨0x400008, 22, 10, 0x0, .rov, 1, 0x0, 1, 0x0, 1, 0⟩
def fTRU_LIC_PLOTS_WEST : Fld := ⟨0x400008, 12, 10, 0x0, .rov, 1, 0x0, 1, 0x0, 1, 0⟩
def fTRU_LIC_PORTS : Fld := ⟨0x400008, 7, 5, 0x0, .rov, 1, 0x0, 1, 0x0, 1, 0⟩
def fTRU_LIC_OK4 : Fld := ⟨0x400008, 1, 1, 0x0, .rov, 1, 0x0, 1, 0x0, 1, 0⟩
def fTRU_LIC_OQ4 : Fld := ⟨0x400008, 0, 1, 0x0, .rov, 1, 0x0, 1, 0x0, 1, 0⟩

/- TRU_XMSS_NEXT: chapter 18, R552. -/
def fTRU_XMSS_NEXT_INDEX : Fld := ⟨0x400010, 0, 40, 0x0, .rov, 1, 0x0, 1, 0x0, 1, 0⟩

/- TRU_XMSS_RESV: chapter 18, R552. -/
def fTRU_XMSS_RESV_END : Fld := ⟨0x400018, 0, 40, 0x0, .rov, 1, 0x0, 1, 0x0, 1, 0⟩

/- TRU_KEYHASH: chapter 18, R552. -/
def fTRU_KEYHASH_BYTES : Fld := ⟨0x400080, 0, 64, 0x0, .ro, 4, 0x8, 1, 0x0, 1, 0⟩

/- TRU_DIE_ID: chapter 18, R552. -/
def fTRU_DIE_ID_ID : Fld := ⟨0x4000a0, 0, 64, 0x0, .ro, 2, 0x8, 1, 0x0, 1, 0⟩

/- TRU_MEAS: chapter 18, R552. -/
def fTRU_MEAS_BYTES : Fld := ⟨0x400100, 0, 64, 0x0, .rov, 4, 0x20, 4, 0x8, 1, 0⟩

/- TRU_UPD: chapter 18, R552. -/
def fTRU_UPD_CODE : Fld := ⟨0x400200, 48, 16, 0x0, .rov, 1, 0x0, 1, 0x0, 1, 0⟩
def fTRU_UPD_TIMER_MS : Fld := ⟨0x400200, 12, 11, 0x0, .rov, 1, 0x0, 1, 0x0, 1, 0⟩
def fTRU_UPD_STATE : Fld := ⟨0x400200, 5, 3, 0x0, .rov, 1, 0x0, 1, 0x0, 1, 0⟩
def fTRU_UPD_CMD : Fld := ⟨0x400200, 0, 2, 0x0, .wo, 1, 0x0, 1, 0x0, 1, 0⟩

/- TRU_FUSE_PROG: chapter 18, R552. -/
def fTRU_FUSE_PROG_RESULT : Fld := ⟨0x400210, 24, 2, 0x0, .rov, 1, 0x0, 1, 0x0, 1, 0⟩
def fTRU_FUSE_PROG_TARGET : Fld := ⟨0x400210, 16, 8, 0x0, .rw, 1, 0x0, 1, 0x0, 1, 0⟩
def fTRU_FUSE_PROG_KEY : Fld := ⟨0x400210, 0, 16, 0x0, .wo, 1, 0x0, 1, 0x0, 1, 0⟩

/- TRU_SEED: chapter 18, R552. -/
def fTRU_SEED_BYTES : Fld := ⟨0x400300, 0, 64, 0x0, .ro, 4, 0x8, 1, 0x0, 1, 0⟩

/- TRU_ERR: chapter 18, R552. -/
def fTRU_ERR_CODE_SEEN : Fld := ⟨0x400400, 0, 22, 0x0, .w1c, 1, 0x0, 1, 0x0, 1, 0⟩

/- PMC_CFG: chapter 19, R557. -/
def fPMC_CFG_MATCH : Fld := ⟨0x0, 24, 1, 0x0, .rw, 8, 0x8, 1, 0x0, 1, 0⟩
def fPMC_CFG_EN : Fld := ⟨0x0, 23, 1, 0x0, .rw, 8, 0x8, 1, 0x0, 1, 0⟩
def fPMC_CFG_CHAIN : Fld := ⟨0x0, 22, 1, 0x0, .rw, 8, 0x8, 1, 0x0, 1, 0⟩
def fPMC_CFG_RANGE_EN : Fld := ⟨0x0, 21, 1, 0x0, .rw, 8, 0x8, 1, 0x0, 1, 0⟩
def fPMC_CFG_PRIV : Fld := ⟨0x0, 19, 2, 0x0, .rw, 8, 0x8, 1, 0x0, 1, 0⟩
def fPMC_CFG_CLASSES : Fld := ⟨0x0, 12, 7, 0x7f, .rw, 8, 0x8, 1, 0x0, 1, 0⟩
def fPMC_CFG_EVENT : Fld := ⟨0x0, 0, 12, 0x0, .rw, 8, 0x8, 1, 0x0, 1, 0⟩

/- PMC_CNT: chapter 19, R557. -/
def fPMC_CNT_COUNT : Fld := ⟨0x40, 0, 48, 0x0, .rw, 8, 0x8, 1, 0x0, 1, 0⟩

/- PMC_RANGE_LO: chapter 19, R557. -/
def fPMC_RANGE_LO_ADDR : Fld := ⟨0x80, 0, 48, 0x0, .rw, 1, 0x0, 1, 0x0, 1, 0⟩

/- PMC_RANGE_HI: chapter 19, R557. -/
def fPMC_RANGE_HI_ADDR : Fld := ⟨0x88, 0, 48, 0xffffffffffff, .rw, 1, 0x0, 1, 0x0, 1, 0⟩

/- PMC_STATUS: chapter 19, R557. -/
def fPMC_STATUS_OVF : Fld := ⟨0x90, 0, 8, 0x0, .w1c, 1, 0x0, 1, 0x0, 1, 0⟩

/- PMR_CTRL: chapter 19, R558. -/
def fPMR_CTRL_GO : Fld := ⟨0xb80000, 0, 1, 0x0, .wo, 1, 0x0, 1, 0x0, 1, 0⟩

/- PMR_ADDR: chapter 19, R558. -/
def fPMR_ADDR_ADDR : Fld := ⟨0xb80008, 0, 48, 0x0, .rw, 1, 0x0, 1, 0x0, 1, 0⟩

/- PMR_LIMIT: chapter 19, R558. -/
def fPMR_LIMIT_LIMIT : Fld := ⟨0xb80010, 0, 32, 0x0, .rw, 1, 0x0, 1, 0x0, 1, 0⟩

/- PMR_STATUS: chapter 19, R558. -/
def fPMR_STATUS_SNAP : Fld := ⟨0xb80018, 32, 32, 0x0, .rov, 1, 0x0, 1, 0x0, 1, 0⟩
def fPMR_STATUS_OVF_ANY : Fld := ⟨0xb80018, 1, 1, 0x0, .rov, 1, 0x0, 1, 0x0, 1, 0⟩
def fPMR_STATUS_BUSY : Fld := ⟨0xb80018, 0, 1, 0x0, .rov, 1, 0x0, 1, 0x0, 1, 0⟩

/- ERR_CLASS_SEEN: chapter 19, R561. -/
def fERR_CLASS_SEEN_SEEN : Fld := ⟨0xb00000, 1, 16, 0x0, .w1c, 1, 0x0, 1, 0x0, 1, 0⟩

/- ERR_IDX: chapter 19, R561. -/
def fERR_IDX_PRODUCER : Fld := ⟨0xb00008, 32, 32, 0x0, .rov, 1, 0x0, 1, 0x0, 1, 0⟩
def fERR_IDX_CONSUMER : Fld := ⟨0xb00008, 0, 32, 0x0, .rw, 1, 0x0, 1, 0x0, 1, 0⟩

/- ERR_STATUS: chapter 19, R561. -/
def fERR_STATUS_LOST : Fld := ⟨0xb00010, 32, 32, 0x0, .w1c, 1, 0x0, 1, 0x0, 1, 0⟩

/- ERR_ENTRY: chapter 19, R561. -/
def fERR_ENTRY_REPEAT : Fld := ⟨0xb01000, 32, 16, 0x0, .rov, 512, 0x10, 1, 0x0, 1, 0⟩
def fERR_ENTRY_INSTANCE : Fld := ⟨0xb01000, 20, 11, 0x0, .rov, 512, 0x10, 1, 0x0, 1, 0⟩
def fERR_ENTRY_KIND : Fld := ⟨0xb01000, 16, 4, 0x0, .rov, 512, 0x10, 1, 0x0, 1, 0⟩
def fERR_ENTRY_CODE : Fld := ⟨0xb01000, 0, 16, 0x0, .rov, 512, 0x10, 1, 0x0, 1, 0⟩
def fERR_ENTRY_SEQ : Fld := ⟨0xb01008, 0, 32, 0x0, .rov, 512, 0x10, 1, 0x0, 1, 0⟩

/- THM_MON: chapter 19, R562. -/
def fTHM_MON_DROOPS : Fld := ⟨0x202000, 48, 16, 0x0, .w1c, 80, 0x10, 1, 0x0, 1, 0⟩
def fTHM_MON_MIN_MV : Fld := ⟨0x202000, 24, 12, 0xfff, .w1c, 80, 0x10, 1, 0x0, 1, 0⟩
def fTHM_MON_THRESH_MV : Fld := ⟨0x202000, 0, 6, 0x1e, .rw, 80, 0x10, 1, 0x0, 1, 0⟩
def fTHM_MON_RO_COUNT : Fld := ⟨0x202008, 0, 20, 0x0, .rov, 80, 0x10, 1, 0x0, 1, 0⟩

/- DBG_MUX: chapter 19, R570. -/
def fDBG_MUX_KIND : Fld := ⟨0xc00000, 20, 4, 0x0, .rw, 32, 0x8, 1, 0x0, 1, 0⟩
def fDBG_MUX_INSTANCE : Fld := ⟨0xc00000, 8, 11, 0x0, .rw, 32, 0x8, 1, 0x0, 1, 0⟩
def fDBG_MUX_SIGNAL : Fld := ⟨0xc00000, 0, 8, 0x0, .rw, 32, 0x8, 1, 0x0, 1, 0⟩

/- DBG_TRIG: chapter 19, R570. -/
def fDBG_TRIG_MATCH_CODE : Fld := ⟨0xc00100, 16, 16, 0x0, .rw, 1, 0x0, 1, 0x0, 1, 0⟩
def fDBG_TRIG_ARM : Fld := ⟨0xc00100, 7, 1, 0x0, .rw, 1, 0x0, 1, 0x0, 1, 0⟩
def fDBG_TRIG_IN_EN : Fld := ⟨0xc00100, 4, 1, 0x0, .rw, 1, 0x0, 1, 0x0, 1, 0⟩
def fDBG_TRIG_OVF_EN : Fld := ⟨0xc00100, 3, 1, 0x0, .rw, 1, 0x0, 1, 0x0, 1, 0⟩
def fDBG_TRIG_ACT_SNAP : Fld := ⟨0xc00100, 2, 1, 0x0, .rw, 1, 0x0, 1, 0x0, 1, 0⟩
def fDBG_TRIG_ACT_IRQ : Fld := ⟨0xc00100, 1, 1, 0x1, .rw, 1, 0x0, 1, 0x0, 1, 0⟩
def fDBG_TRIG_ACT_PIN : Fld := ⟨0xc00100, 0, 1, 0x1, .rw, 1, 0x0, 1, 0x0, 1, 0⟩

/- DBG_FLASH_ADDR: chapter 19, R570. -/
def fDBG_FLASH_ADDR_ADDR : Fld := ⟨0xc00200, 0, 32, 0x0, .rw, 1, 0x0, 1, 0x0, 1, 0⟩

/- DBG_FLASH_DATA: chapter 19, R570. -/
def fDBG_FLASH_DATA_DATA : Fld := ⟨0xc00208, 0, 64, 0x0, .rov, 1, 0x0, 1, 0x0, 1, 0⟩

def flds_plot_0 : List Fld := [
  fPLOT_FMT_STATUS_OK4_SCALE, fPLOT_FMT_STATUS_MX_NAN, fPLOT_FMT_STATUS_INT_WRAP, fPLOT_FMT_STATUS_SAT,
  fPLOT_FMT_STATUS_UNDERFLOW, fPLOT_FMT_STATUS_NAN_OUT, fPLOT_FMT_STATUS_NAN_IN, fPLOT_FMT_STATUS_SNAN,
  fPLOT_ARR_STATUS_OPEN_SEGS, fPLOT_ARR_STATUS_FAILED_SEGS, fPLOT_ARR_STATUS_LIVE_VALID, fPLOT_ARR_STATUS_SHADOW,
  fPLOT_ARR_STATUS_INJECT_PENDING, fPLOT_ARR_STATUS_STALLED, fPLOT_ARR_STATUS_BUSY, fPLOT_ARR_REPAIR_SPARE1_EN,
  fPLOT_ARR_REPAIR_SPARE1_ROW, fPLOT_ARR_REPAIR_SPARE0_EN, fPLOT_ARR_REPAIR_SPARE0_ROW, fPLOT_ARR_ERR_VEC_TABLE_PARITY,
  fPLOT_ARR_ERR_VEC_RESIDUE, fPLOT_ARR_ERR_REPAIR_REJECTED, fPLOT_ARR_ERR_SHADOW_DATA, fPLOT_ARR_ERR_ACC_PARITY,
  fPLOT_ARR_ERR_CHECK_MISMATCH, fPLOT_ARR_ERR_SWAP_EMPTY, fPLOT_ARR_SIG_ROW_INJECTED, fPLOT_ARR_SIG_ROW_NONFINITE,
  fPLOT_ARR_SIG_ROW_FMT_STAT, fPLOT_ARR_SIG_ROW_FMT_STRM, fPLOT_ARR_SIG_ROW_MODE, fPLOT_ARR_SIG_ROW_ACC_ROW,
  fPLOT_ARR_SIG_ROW_STREAM_ROW, fPLOT_ARR_SIG_ROW_INSTR, fPLOT_ARR_SIG_SUMS_ACTUAL, fPLOT_ARR_SIG_SUMS_PREDICTED,
  fPLOT_ARR_SIG_TAU_TAU, fPLOT_ARR_EVCNT_MISMATCHES, fPLOT_ARR_EVCNT_NONFINITE_ROWS, fPLOT_ARR_EVCNT_ACC_HAZARD]

def flds_plot_1 : List Fld := [
  fPLOT_ARR_EVCNT_SHADOW_WAIT, fPLOT_ARR_INJECT_ARM, fPLOT_ARR_INJECT_COL, fPLOT_ARR_INJECT_BIT,
  fPLOT_SEQ_CTRL_PC, fPLOT_SEQ_CTRL_CMD, fPLOT_SEQ_STATUS_PM_CORR, fPLOT_SEQ_STATUS_LOOP_DEPTH,
  fPLOT_SEQ_STATUS_PC, fPLOT_SEQ_STATUS_WAIT_KIND, fPLOT_SEQ_STATUS_STATE, fPLOT_SEQ_STOP_PC,
  fPLOT_SEQ_STOP_CODE, fPLOT_SEQ_REPLAY_CKPT_PC, fPLOT_SEQ_REPLAY_OUT_DONE, fPLOT_SEQ_IDX_VALUE,
  fPLOT_SYNC_TIMEOUT_UNITS, fPLOT_DMA_STATUS_READS, fPLOT_DMA_STATUS_UNRELEASED, fPLOT_DMA_STATUS_QUEUED,
  fPLOT_DMA_ERR_DESC, fPLOT_DMA_ERR_REMOTE_CODE, fPLOT_DMA_ERR_CODE, fPLOT_DMA_EXT_BASE_BASE,
  fPLOT_DMA_EXT_SIZE_SIZE, fPLOT_SOW_STATUS_GEN, fPLOT_SOW_STATUS_RESULT, fPLOT_SOW_STATUS_PACKETS,
  fPLOT_SOW_STATUS_STATE, fPLOT_SOW_LIB_LIB_ID, fPLOT_SOW_CRC_CRC, fPLOT_PM_ADDR_INDEX,
  fPLOT_PM_DATA_WORD, fPLOT_SCR_PROBE_STATE, fPLOT_SCR_PROBE_READ, fPLOT_SCR_PROBE_BORN,
  fPLOT_SCR_PROBE_UNIT, fPLOT_SYNC_CTR_VALUE, fBED_CH_STATUS_HOLD_COUNT, fBED_CH_STATUS_BAND]

def flds_plot_2 : List Fld := [
  fBED_CH_STATUS_REMAP_PENDING, fBED_CH_STATUS_MODE, fBED_CH_CFG_REMAP_THRESHOLD, fBED_CH_CFG_BATCH_LIMIT,
  fBED_CH_OWED_OWED, fBED_CH_CNT_FORCED_REFRESH, fBED_CH_CNT_STALL_TC, fBED_CH_CNT_PREEMPTS,
  fBED_CH_CNT_BACKPRESSURE, fBED_CH_ECC_CORRECTED, fBED_CH_ECC_UNCORRECTABLE, fBED_CH_ERRADDR_VALID,
  fBED_CH_ERRADDR_BANK, fBED_CH_ERRADDR_ROW, fBED_CH_ERRADDR_COLUMN, fBED_CH_SPARES_USED,
  fBED_CH_FLIP_ARM, fBED_CH_FLIP_SYM_B, fBED_CH_FLIP_MASK_B, fBED_CH_FLIP_SYM_A,
  fBED_CH_FLIP_MASK_A, fBED_TINE_PM_ADDR_CHMASK, fBED_TINE_PM_ADDR_INDEX, fBED_TINE_PM_DATA_CHECK,
  fBED_TINE_PM_DATA_WORD, fBED_TINE_STATUS_STATE, fBED_TINE_STOP_INDEX, fBED_TINE_STOP_TID,
  fBED_TINE_STOP_CODE, fBED_TINE_TALLY_EVEN_CRC, fBED_TINE_TALLY_ODD_CRC, fPLOT_ATT_STATUS_STREAM_BUSY,
  fPLOT_ATT_STATUS_ROWS, fPLOT_ATT_STATUS_STATE, fPLOT_ATT_CFG_PARTIAL_TIMEOUT, fPLOT_ATT_ERR_VALID,
  fPLOT_ATT_ERR_ROW, fPLOT_ATT_ERR_PAGE, fPLOT_ATT_ERR_CODE, fPLOT_ATT_CNT_EMPTY_ROWS]

def flds_plot_3 : List Fld := [
  fPLOT_ATT_CNT_NONFINITE, fPLOT_ATT_CNT_PARTIAL_WAIT, fPLOT_ATT_STREAM_RECORDS, fPLOT_ATT_STREAM_FILL,
  fPLOT_PWR_REQ, fPLOT_PWR_STATE, fPLOT_MEM_FLIP_ARM, fPLOT_MEM_FLIP_CHANNEL,
  fPLOT_MEM_FLIP_CLASS, fPLOT_MEM_FLIP_POS_B, fPLOT_MEM_FLIP_POS_A, fPLOT_SELFTEST_TEST,
  fPLOT_SELFTEST_RESULT, fPLOT_SELFTEST_GO, fPLOT_UNIT_ICNT_COUNT, fPLOT_IRQ_EN,
  fPLOT_IRQ_BED_CH, fPLOT_IRQ_ATT, fPLOT_IRQ_TINE, fPLOT_IRQ_ARR,
  fPLOT_IRQ_SEQ_DONE, fPLOT_IRQ_SEQ_STOP]

/-- Every field of a plot window (chapters 2 to 6, 14, 16, 17). -/
def flds_plot : List Fld := flds_plot_0 ++ flds_plot_1 ++ flds_plot_2 ++ flds_plot_3

def flds_ch07_0 : List Fld := [
  fSTP_CFG_PREFILL_ROWS, fSTP_CFG_SIEVE_P, fSTP_STATUS_STEPS, fSTP_STATUS_ROWS,
  fSTP_CNT_ABANDONED, fSTP_CNT_DRAFT_BAD, fSTP_PHASE_ADDR, fSTP_SLOT_GEN,
  fSTP_SLOT_BASE, fSTP_SLOT_N, fSTP_SLOT_PRIOR, fSTP_SLOT_STATE]

/-- Every field of the device registers of chapter 07. -/
def flds_ch07 : List Fld := flds_ch07_0

def flds_ch08_0 : List Fld := [
  fGDC_STATUS_QUEUE, fGDC_STATUS_STATE, fGDC_CFG_RETRAIN_AT, fGDC_CFG_SUSPECT_THRESHOLD,
  fGDC_CFG_CRC_RETRIES, fGDC_CFG_SPEED, fGDC_RETRAIN_LAST_AC, fGDC_RETRAIN_REASON,
  fGDC_RETRAIN_REQUEST, fGDC_RETRAIN_START, fGDC_ERR_ROW_SUSPECT, fGDC_ERR_PPR_FAIL,
  fGDC_ERR_PPR_EXHAUSTED, fGDC_ERR_CHANNEL_DOWN, fGDC_ERR_RETRAIN_TIMEOUT, fGDC_ERR_CA_PARITY,
  fGDC_ERR_CRC_RETRY_FAIL, fGDC_ERR_RMW_UNCORR, fGDC_ERR_UNCORR, fGDC_ECC_CNT_CORRECTED,
  fGDC_ECC_CNT_UNCORRECTABLE, fGDC_LINK_CNT_CRC_RETRIED, fGDC_LINK_CNT_CA_PARITY, fGDC_LINK_CNT_RETRAINS,
  fGDC_ERRADDR_VALID, fGDC_ERRADDR_WRITE, fGDC_ERRADDR_LOCAL, fGDC_ADD_CNT_REDUCES,
  fGDC_ADD_CNT_AMOS, fGDC_WEED_CFG_BED_EN, fGDC_WEED_CFG_GDDR_EN, fGDC_WEED_CFG_BED_INTERVAL,
  fGDC_WEED_CFG_GDDR_INTERVAL, fGDC_WEED_STATUS_GDDR_PASSES, fGDC_WEED_STATUS_BED_PASSES, fGDC_WEED_STATUS_GDDR_CURSOR,
  fGDC_FLIP_ARM, fGDC_FLIP_DIR, fGDC_FLIP_DCH, fGDC_FLIP_BYTE]

def flds_ch08_1 : List Fld := [
  fGDC_FLIP_MASK, fGDC_PPR_LIST_RESULT, fGDC_PPR_LIST_VALID, fGDC_PPR_LIST_DCH,
  fGDC_PPR_LIST_BANK, fGDC_PPR_LIST_ROW, fGDC_SUSPECT_VALID, fGDC_SUSPECT_COUNT,
  fGDC_SUSPECT_DCH, fGDC_SUSPECT_BANK, fGDC_SUSPECT_ROW]

/-- Every field of the device registers of chapter 08. -/
def flds_ch08 : List Fld := flds_ch08_0 ++ flds_ch08_1

def flds_ch09_0 : List Fld := [
  fFAB_BRIDGE_STATUS_REPLAYS, fFAB_BRIDGE_STATUS_DOWN, fFAB_BRIDGE_STATUS_PORT_UP, fFAB_LATE_OTHER_LATE,
  fFAB_ATTACH_ROUTER, fFAB_REG_CFG_SPILL, fFAB_REG_CFG_WINDOW, fFAB_REG_CLASS_BUDGET,
  fFAB_REG_CLASS_MIN, fFAB_REG_LATE_LATE, fFAB_REG_LATE_DL_SERVED, fFAB_REG_STATUS_OVER_BUDGET,
  fFAB_REG_STATUS_BELOW_MIN]

/-- Every field of the device registers of chapter 09. -/
def flds_ch09 : List Fld := flds_ch09_0

def flds_ch10_0 : List Fld := [
  fLNE_STATUS_ALIGNED, fLNE_STATUS_SIGNAL, fLNE_STATUS_STATE, fLNE_STATUS_WIDTH,
  fLNE_ROLE_PORT, fLNE_ROLE_ROLE, fLNE_CFG_AUTO_RETRAIN, fLNE_CFG_UNCORR_LIMIT,
  fLNE_CTRL_FULL, fLNE_CTRL_RETRAIN, fLNE_FEC_CNT_CORRECTED_SYM, fLNE_FEC_CNT_UNCORR_CW,
  fLNE_ERR_LOOPBACK_FAIL, fLNE_ERR_LINK_LOST, fLNE_ERR_RETRAIN, fLNE_ERR_TRAIN_TIMEOUT,
  fLNE_ERR_PORT_X4, fLNE_ERR_PORT_DISABLED, fLNE_ERR_COMPANION_X8, fLNE_ERR_COMPANION_FAIL,
  fLNE_ERR_ROLE_INVALID, fLNE_RETRAIN_LAST_AC, fLNE_RETRAIN_REASON, fLNE_RETRAIN_IGNORED,
  fLNE_RETRAIN_COUNT, fLNE_BOOT_STATE, fLNE_LANE_COEFF, fLNE_LANE_POS,
  fLNE_LANE_INVERTED, fLNE_LANE_EXCLUDED, fLNE_LANE_ALIGNED, fLNE_LANE_SIGNAL]

/-- Every field of the device registers of chapter 10. -/
def flds_ch10 : List Fld := flds_ch10_0

def flds_ch11_0 : List Fld := [
  fCPL_STATUS_ATTACH_GEN, fCPL_STATUS_HELLO_DONE, fCPL_STATUS_ORPHAN, fCPL_STATUS_LINK,
  fCPL_CFG_COH_TIMEOUT, fCPL_CFG_RETRY_LIMIT, fCPL_HB_CFG_HOLD, fCPL_HB_CFG_MISSES,
  fCPL_HB_CFG_PERIOD, fCPL_HEARTBEAT_GEN, fCPL_LINK_CNT_RETRY_SENT, fCPL_LINK_CNT_BAD_FLITS,
  fCPL_LINK_CNT_LATE_GRANTS, fCPL_LINK_CNT_STALE_HB, fCPL_ERR_CODE_SEEN, fCPL_MBX_IN_DB_SEQ,
  fCPL_MBX_OUT_ACK_SEQ, fCPL_MBX_STATUS_OUT_SEQ, fCPL_MBX_STATUS_LOST, fCPL_MBX_STATUS_OUT_QUEUE,
  fCPL_MBX_STATUS_OUT_FULL, fCPL_MBX_STATUS_IN_BUSY, fCPL_MBX_STATUS_IN_READY, fCPL_IDX_ADDR_ADDR,
  fCPL_NOTIFY_GAP, fCPL_NOTIFY_MBX_VEC, fCPL_NOTIFY_EVT_VEC, fCPL_NOTIFY_OUT_VEC,
  fCPL_RING_CFG_ENABLE, fCPL_RING_CFG_LOG2, fCPL_RING_CFG_BASE, fCPL_RING_IDX_PRODUCER,
  fCPL_RING_IDX_CONSUMER, fCPL_RING_DB_INDEX]

/-- Every field of the device registers of chapter 11. -/
def flds_ch11 : List Fld := flds_ch11_0

def flds_ch12_0 : List Fld := [
  fSOP_PORT_STATUS_PEER_DEV, fSOP_PORT_STATUS_PEER_PORT, fSOP_PORT_STATUS_PEER_VALID, fSOP_PORT_STATUS_ABSENT,
  fSOP_PORT_STATUS_STATE, fSOP_PORT_CFG_RETRY_LIMIT, fSOP_PORT_CNT_RETRY_SENT, fSOP_PORT_CNT_BAD_FLITS,
  fSOP_PORT_CNT_FORWARDED, fSOP_PORT_ERR_FORMAT, fSOP_PORT_ERR_CREDIT_OVERFLOW, fSOP_PORT_ERR_PEER_LOST,
  fSOP_PORT_ERR_RETRY_EXHAUSTED, fSOP_PORT_ERR_LINK_INIT, fSOP_DEV_INBOUND_REG, fSOP_DEV_HOP_LIMIT,
  fSOP_DEV_DEV_ID, fSOP_ROUTE_ADDR_TABLE, fSOP_ROUTE_ADDR_INDEX, fSOP_ROUTE_DATA_VALID,
  fSOP_ROUTE_DATA_PORT, fSOP_TAGS_STRAY_RSP, fSOP_TAGS_IN_USE, fSOP_TIMEOUT_UNITS,
  fSOP_DEV_CNT_DROPPED, fSOP_DEV_CNT_NO_ROUTE, fSOP_DEV_CNT_MGMT_QUEUE]

/-- Every field of the device registers of chapter 12. -/
def flds_ch12 : List Fld := flds_ch12_0

def flds_ch13_0 : List Fld := [
  fBRW_STEP_STEP, fBRW_GO_GO, fBRW_STATUS_CODE, fBRW_STATUS_LAST_DONE,
  fBRW_STATUS_STEP, fBRW_STATUS_STATE, fBRW_STRAPS_FAILSTART_RECOVERY, fBRW_STRAPS_BOOT_SRC,
  fBRW_STRAPS_CLK_MODE, fBRW_STRAPS_HALF_ID_EAST, fBRW_STRAPS_HALF_ID_WEST, fBRW_FAILSTART_AON_COPY,
  fBRW_FAILSTART_COUNT, fBRW_WDOG_REMAIN_MS, fBRW_WDOG_SECONDS, fBRW_PLOTS_SPARE_EAST,
  fBRW_PLOTS_SPARE_WEST, fBRW_PLOTS_ABSENT, fBRW_PLOTS_IN_SERVICE, fBRW_PUSH_LEN_LENGTH,
  fBRW_RECOVERY_CODE, fBRW_RECOVERY_RESULT, fBRW_RECOVERY_CMD, fBRW_ELAPSED_AC,
  fBRW_PLOTFAIL_VALID, fBRW_PLOTFAIL_TEST, fBRW_PLOTFAIL_PLOT]

/-- Every field of the device registers of chapter 13. -/
def flds_ch13 : List Fld := flds_ch13_0

def flds_ch14_0 : List Fld := [
  fAON_RESET_CAUSE_CODE, fAON_RESET_CAUSE_CRIT_ERR, fAON_RESET_CAUSE_VOTE, fAON_RESET_CAUSE_THERM_TRIP,
  fAON_RESET_CAUSE_COMPANION, fAON_RESET_CAUSE_WDOG_SHED, fAON_RESET_CAUSE_WDOG_BRW, fAON_RESET_CAUSE_RESET_N,
  fAON_RESET_CAUSE_POR, fAON_RESET_CMD_CMD, fAON_BLK_RST_RESULT, fAON_BLK_RST_KIND,
  fAON_BLK_RST_INSTANCE, fAON_BLK_RST_GO, fAON_IDLE_TIMEOUT_AC, fAON_DSTATE_REQ,
  fAON_DSTATE_STATE, fTHM_PWR_CFG_PEAK_W, fTHM_PWR_CFG_SUST_W, fTHM_PWR_STATUS_E_MJ,
  fTHM_PWR_STATUS_LOCKED, fTHM_PWR_STATUS_DUTY, fTHM_PWR_STATUS_L_W, fTHM_PWR_STATUS_P_W,
  fTHM_PWR_CNT_LOCKS, fTHM_PWR_CNT_FAST_CUTS]

/-- Every field of the device registers of chapter 14. -/
def flds_ch14 : List Fld := flds_ch14_0

def flds_ch15_0 : List Fld := [
  fTHM_STATUS_HOT_LOGIC, fTHM_STATUS_HOT_BED, fTHM_STATUS_PLOT_LOGIC, fTHM_STATUS_PLOT_BED,
  fTHM_STATUS_STOP, fTHM_STATUS_THR_BED, fTHM_STATUS_WARN_BED, fTHM_STATUS_THR_LOGIC,
  fTHM_STATUS_WARN_LOGIC, fTHM_STATUS_FC_IN_USE, fTHM_CFG_FORECAST_EN, fTHM_FORECAST_PRED_LOGIC,
  fTHM_FORECAST_PRED_BED, fTHM_LIMIT_LC_W, fTHM_LIMIT_LT_W, fTHM_LIMIT_X,
  fTHM_EMERG_ACTIVE, fTHM_EMERG_PMBUS_FAULT, fTHM_EMERG_FAST_CUT, fTHM_EMERG_FLOW_STOP,
  fTHM_EMERG_FLOW_THROTTLE, fTHM_EMERG_STOP, fTHM_EMERG_THR_BED, fTHM_EMERG_THR_LOGIC,
  fTHM_COOL_STATUS_INLET, fTHM_COOL_STATUS_OUTLET, fTHM_COOL_STATUS_FLOW, fTHM_COOL_STATUS_FLOW_1S,
  fTHM_COOL_STATUS_DUTY, fTHM_COOL_STATUS_FLOW_LOW, fTHM_COOL_STATUS_INLET_BAD, fTHM_COOL_STATUS_OUTLET_BAD,
  fTHM_COOL_STATUS_NO_PULSE, fTHM_COOL_CFG_PULSES_PER_L, fTHM_COOL_CFG_FLOW_SET, fTHM_COOL_CFG_DUTY_MIN,
  fTHM_COOL_CTRL_MODE, fTHM_COOL_CTRL_DUTY_FIXED, fTHM_WARM_WARM_EN, fTHM_WARM_REF]

def flds_ch15_1 : List Fld := [
  fTHM_WARM_FLOOR_W, fTHM_CYCLES_W_BIN45, fTHM_CYCLES_E_BIN45, fTHM_CYCLES_W_BIN30,
  fTHM_CYCLES_E_BIN30, fTHM_CYCLES_W_BIN20, fTHM_CYCLES_E_BIN20, fTHM_TRIP_LOG_TRIPS,
  fTHM_TRIP_LOG_PLOT, fTHM_TRIP_LOG_KIND, fTHM_TRIP_LOG_VALUE, fTHM_ERR_CODE_SEEN,
  fTHM_PLOT_SENSE_LOGIC, fTHM_PLOT_SENSE_BED, fTHM_PLOT_SENSE_LOGIC_ARB, fTHM_PLOT_SENSE_BED_ARB,
  fTHM_PLOT_SENSE_DIS_COUNT, fTHM_PLOT_SENSE_BED_INVALID, fTHM_PLOT_SENSE_LOGIC_INVALID, fTHM_PLOT_SENSE_STATE,
  fTHM_PLOT_ARB_MASK, fTHM_PLOT_ARB_UNDECIDED, fTHM_PLOT_ARB_EXP_OFFSET]

/-- Every field of the device registers of chapter 15. -/
def flds_ch15 : List Fld := flds_ch15_0 ++ flds_ch15_1

def flds_ch16_0 : List Fld := [
  fSED_CFG_TALLY_TIMEOUT, fSED_CFG_TALLY_PERIOD, fSED_CFG_TALLY_EN, fSED_MOVE_CODE,
  fSED_MOVE_STATE, fSED_MOVE_VERDICT, fSED_MOVE_SPARE, fSED_MOVE_RESULT,
  fSED_MOVE_LOGICAL, fSED_MOVE_MODE, fSED_MOVE_GO, fSED_MOVE_STATUS_UNCORR,
  fSED_MOVE_STATUS_UNITS, fSED_CRIT_FLIP_ARM, fSED_CRIT_FLIP_WORD, fSED_CRIT_FLIP_COPY,
  fSED_CRIT_FLIP_MASK, fSED_CNT_TRANSIENTS, fSED_CNT_PERMANENTS, fSED_CNT_MOVES,
  fSED_CNT_TALLY_MISMATCHES]

/-- Every field of the device registers of chapter 16. -/
def flds_ch16 : List Fld := flds_ch16_0

def flds_ch17_0 : List Fld := [
  fSHD_FW_VERSION, fSHD_FW_STATE, fSHD_CORE_CTRL_MSIP, fSHD_CORE_CTRL_WFI,
  fSHD_CORE_CTRL_RUN, fSHD_CORE_WDOG_STAGE, fSHD_CORE_WDOG_EN, fSHD_CORE_WDOG_PERIOD,
  fSHD_CORE_KICK_KEY, fSHD_HASH_CTRL_BUSY, fSHD_HASH_CTRL_OUT64, fSHD_HASH_CTRL_FINAL,
  fSHD_HASH_CTRL_INIT, fSHD_HASH_CTRL_GO, fSHD_HASH_SRC_ADDR, fSHD_HASH_LEN_LEN,
  fSHD_HASH_OUT_BYTES, fSHD_CRC_CTRL_BUSY, fSHD_CRC_CTRL_INIT, fSHD_CRC_CTRL_GO,
  fSHD_CRC_SRC_ADDR, fSHD_CRC_LEN_LEN, fSHD_CRC_RESULT_CRC, fSHD_SRAM_CORRECTED,
  fSHD_SRAM_FLIP_ARM, fSHD_SRAM_POS_B, fSHD_SRAM_POS_A, fSHD_SRAM_ERR_ADDR,
  fSHD_ERR_CODE_SEEN, fICU_PRIO_PRIO, fICU_PEND_PEND, fICU_PEND_SET_SET,
  fICU_PEND_CLR_CLR, fICU_LEVEL_LEVEL, fICU_ENABLE_EN, fICU_THRESHOLD_THRESHOLD,
  fICU_CLAIM_ID, fICU_COMPLETE_ID, fICU_STACK_DEPTH, fICU_STACK_RUNNING]

def flds_ch17_1 : List Fld := [
  fICU_PLOT_ROW_COLS]

/-- Every field of the device registers of chapter 17. -/
def flds_ch17 : List Fld := flds_ch17_0 ++ flds_ch17_1

def flds_ch18_0 : List Fld := [
  fTRU_STATUS_ROLLBACK, fTRU_STATUS_IDENT_READY, fTRU_STATUS_CERT_VALID, fTRU_STATUS_KEY_VALID,
  fTRU_STATUS_SLOT_ACTIVE, fTRU_STATUS_SLOT_BOOTED, fTRU_STATUS_PUSHED, fTRU_LIC_SERIAL,
  fTRU_LIC_PLOTS_EAST, fTRU_LIC_PLOTS_WEST, fTRU_LIC_PORTS, fTRU_LIC_OK4,
  fTRU_LIC_OQ4, fTRU_XMSS_NEXT_INDEX, fTRU_XMSS_RESV_END, fTRU_KEYHASH_BYTES,
  fTRU_DIE_ID_ID, fTRU_MEAS_BYTES, fTRU_UPD_CODE, fTRU_UPD_TIMER_MS,
  fTRU_UPD_STATE, fTRU_UPD_CMD, fTRU_FUSE_PROG_RESULT, fTRU_FUSE_PROG_TARGET,
  fTRU_FUSE_PROG_KEY, fTRU_SEED_BYTES, fTRU_ERR_CODE_SEEN]

/-- Every field of the device registers of chapter 18. -/
def flds_ch18 : List Fld := flds_ch18_0

def flds_bank_0 : List Fld := [
  fPMC_CFG_MATCH, fPMC_CFG_EN, fPMC_CFG_CHAIN, fPMC_CFG_RANGE_EN,
  fPMC_CFG_PRIV, fPMC_CFG_CLASSES, fPMC_CFG_EVENT, fPMC_CNT_COUNT,
  fPMC_RANGE_LO_ADDR, fPMC_RANGE_HI_ADDR, fPMC_STATUS_OVF]

/-- Every field of a counter bank (R557). -/
def flds_bank : List Fld := flds_bank_0

def flds_ch19_0 : List Fld := [
  fPMR_CTRL_GO, fPMR_ADDR_ADDR, fPMR_LIMIT_LIMIT, fPMR_STATUS_SNAP,
  fPMR_STATUS_OVF_ANY, fPMR_STATUS_BUSY, fERR_CLASS_SEEN_SEEN, fERR_IDX_PRODUCER,
  fERR_IDX_CONSUMER, fERR_STATUS_LOST, fERR_ENTRY_REPEAT, fERR_ENTRY_INSTANCE,
  fERR_ENTRY_KIND, fERR_ENTRY_CODE, fERR_ENTRY_SEQ, fTHM_MON_DROOPS,
  fTHM_MON_MIN_MV, fTHM_MON_THRESH_MV, fTHM_MON_RO_COUNT, fDBG_MUX_KIND,
  fDBG_MUX_INSTANCE, fDBG_MUX_SIGNAL, fDBG_TRIG_MATCH_CODE, fDBG_TRIG_ARM,
  fDBG_TRIG_IN_EN, fDBG_TRIG_OVF_EN, fDBG_TRIG_ACT_SNAP, fDBG_TRIG_ACT_IRQ,
  fDBG_TRIG_ACT_PIN, fDBG_FLASH_ADDR_ADDR, fDBG_FLASH_DATA_DATA]

/-- Every field of the device registers of chapter 19. -/
def flds_ch19 : List Fld := flds_ch19_0

/-- Every field of the device's own registers. -/
def fldsDevice : List Fld :=
  flds_ch07 ++ flds_ch08 ++ flds_ch09 ++ flds_ch10 ++ flds_ch11 ++ flds_ch12 ++ flds_ch13 ++ flds_ch14 ++ flds_ch15 ++ flds_ch16 ++ flds_ch17 ++ flds_ch18 ++ flds_ch19

end Sys2Proof.Machine
end

