-- ==== Sys2Proof/Machine/Ops.lean ====
section
/-! DEFINITION. The named operations over registers, memories and error records that the meanings share. -/

namespace Sys2Proof.Machine

/-! ## Register fields -/

/-- Instance `i` of a register array. -/
def Fld.at (f : Fld) (i : Nat) : Fld := { f with off := f.off + i * f.s1 }

/-- Instance `i` of a block and `j` of its register array. -/
def Fld.at2 (f : Fld) (i j : Nat) : Fld := { f with off := f.off + i * f.s1 + j * f.s2 }

/-- Bit group `b` of a register. -/
def Fld.bit (f : Fld) (b : Nat) : Fld := { f with lo := f.lo + b * f.bs }

/-- The key under which a field is stored: its register's offset and its low bit. -/
def Fld.key (f : Fld) : Nat := f.off * 64 + f.lo

/-- The value of a field: its reset value until it is written (R12). -/
def rget (m : SMap Nat) (f : Fld) : Nat := SMap.get f.reset m f.key

/-- A field with a new value, cut to its width. -/
def rset (m : SMap Nat) (f : Fld) (v : Nat) : SMap Nat := SMap.set f.reset m f.key (v % 2 ^ f.w)

/-- The value of a device register field. -/
def Dev.rg (d : Dev) (f : Fld) : Nat := rget d.regs f

/-- The device with a new value in a register field. -/
def Dev.rs (d : Dev) (f : Fld) (v : Nat) : Dev := { d with regs := rset d.regs f v }

/-- A counter field advanced by `k`, saturating (R594). -/
def Dev.count (d : Dev) (f : Fld) (k : Nat) : Dev := d.rs f (satAdd (2 ^ f.w - 1) (d.rg f) k)

/-- The value of a plot register field. -/
def Plot.rg (pl : Plot) (f : Fld) : Nat := rget pl.regs f

/-- The plot with a new value in a register field. -/
def Plot.rs (pl : Plot) (f : Fld) (v : Nat) : Plot := { pl with regs := rset pl.regs f v }

/-- A plot counter field advanced by `k`, saturating. -/
def Plot.count (pl : Plot) (f : Fld) (k : Nat) : Plot := pl.rs f (satAdd (2 ^ f.w - 1) (pl.rg f) k)

/-- Physical plot `p`. -/
def Dev.plot (d : Dev) (p : Nat) : Plot := SMap.get Plot.reset d.plots p

/-- The device with physical plot `p` replaced. -/
def Dev.setPlot (d : Dev) (p : Nat) (pl : Plot) : Dev := { d with plots := SMap.set Plot.reset d.plots p pl }

/-- The device with physical plot `p` changed. -/
def Dev.modPlot (d : Dev) (p : Nat) (f : Plot → Plot) : Dev := d.setPlot p (f (d.plot p))

/-- A bit of the telemetry's STATUS_WORD is latched (R582). -/
def Dev.latch (d : Dev) (bit : Nat) : Dev := { d with tray := { d.tray with latched := withBit d.tray.latched bit } }

/-- A message or reply at the device's boundary, or to a master. -/
def Dev.emit (d : Dev) (o : Out) : Dev := { d with outs := d.outs ++ [o] }

/-- A value that the spec leaves open: the next free value, cut to `bits` bits (log entry 2). -/
def Dev.free (d : Dev) (bits : Nat) : Dev × Nat :=
  ({ d with freeCtr := d.freeCtr + 1 }, (Config.freeValue d.freeCtr).toNat % 2 ^ bits)

/-- Whether `p` names a plot (R23, R24). -/
def isPlot (p : Nat) : Bool := decide (p < 2048) && decide (p / 32 % 32 ≤ 16)

/-- The half of physical plot `p`: 0 west, 1 east (R23). -/
def plotHalf (p : Nat) : Nat := p / 1024

/-- The physical plot that carries logical number `n`; none when it is ABSENT (R26, R28). -/
def Dev.phys (d : Dev) (n : Nat) : Option Nat := SMap.find? n d.numbering

/-- The logical number that physical plot `p` carries, if any. -/
def Dev.logical (d : Dev) (p : Nat) : Option Nat := (d.numbering.find? (fun e => e.2 = p)).map (·.1)

/-! ## Interrupts and the sticky error record -/

/-- An edge source's event sets its pending bit (R514). -/
def raiseEdge (d : Dev) (src : Nat) : Dev :=
  let f := fICU_PEND_PEND.at (src / 64)
  d.rs f (withBit (d.rg f) (src % 64))

/-- A code enters the sticky error record, unless it is full (R559, R560). Answers whether it was entered. -/
def recordPut (d : Dev) (kind inst code : Nat) : Dev × Bool :=
  let d := d.rs fERR_CLASS_SEEN_SEEN (withBit (d.rg fERR_CLASS_SEEN_SEEN) (code / 256 - 1))
  let prod := d.rg fERR_IDX_PRODUCER
  let cons := d.rg fERR_IDX_CONSUMER
  let last := (prod + 511) % 512
  if prod ≠ cons ∧ d.rg (fERR_ENTRY_CODE.at last) = code ∧ d.rg (fERR_ENTRY_KIND.at last) = kind
      ∧ d.rg (fERR_ENTRY_INSTANCE.at last) = inst then
    (d.count (fERR_ENTRY_REPEAT.at last) 1, true)
  else if (prod + 2 ^ 32 - cons) % 2 ^ 32 < 512 then
    let i := prod % 512
    let d := d.rs (fERR_ENTRY_CODE.at i) code
    let d := d.rs (fERR_ENTRY_KIND.at i) kind
    let d := d.rs (fERR_ENTRY_INSTANCE.at i) inst
    let d := d.rs (fERR_ENTRY_REPEAT.at i) 0
    let d := d.rs (fERR_ENTRY_SEQ.at i) prod
    (d.rs fERR_IDX_PRODUCER (prod + 1), true)
  else (d.count fERR_STATUS_LOST 1, false)

/-! ## Counter banks, snapshots and the trigger (R554 to R558, R569) -/

/-- A field of a counter bank that lies at `base`. -/
def Fld.inBank (f : Fld) (base : Nat) : Fld := { f with off := base + f.off }

/-- The offset of the bank of a block: KIND 1 octet, 2 scale-out port, 3 controller, 4 companion link, 5 fabric, 6 shed,
7 thermal and power (R554). -/
def bankOffset (kind inst : Nat) : Nat :=
  (if kind = 1 then 0x500000 + inst * 0x1000 else if kind = 2 then 0x700000 + inst * 0x1000
    else if kind = 3 then 0x800000 + inst * 0x4000 else if kind = 4 then 0x600000 else if kind = 5 then 0xA00000
    else if kind = 6 then 0x300000 else 0x200000) + 0xE00

/-- Whether counter `k` of a bank counts an event of its own, by its filters; a request's class and address are given where the
event has them (R555, R556). -/
def counterTakes (m : SMap Nat) (base k ev : Nat) (cls addr : Option Nat) : Bool :=
  let g (f : Fld) : Nat := rget m (f.inBank base)
  let e := g (fPMC_CFG_EVENT.at k)
  let hit := if g (fPMC_CFG_MATCH.at k) = 1 then decide (e / 256 = ev / 256) else decide (e = ev)
  let classOk := cls.all (fun c => bitOf (g (fPMC_CFG_CLASSES.at k)) c)
  let rangeOk := decide (g (fPMC_CFG_RANGE_EN.at k) = 0) ||
    addr.all (fun a => decide (g fPMC_RANGE_LO_ADDR ≤ a) && decide (a ≤ g fPMC_RANGE_HI_ADDR))
  hit && classOk && rangeOk

/-- Counter `k` of a bank takes an event counted `n` times: the registers, the carry into a chained counter, and whether an
overflow bit was set (R555). -/
def counterStep (base ev n : Nat) (cls addr : Option Nat) (s : SMap Nat × Nat × Bool) (k : Nat) : SMap Nat × Nat × Bool :=
  if rget s.1 ((fPMC_CFG_EN.at k).inBank base) = 0 then (s.1, 0, s.2.2)
  else
    let chain := rget s.1 ((fPMC_CFG_CHAIN.at k).inBank base) = 1
    let inc := if chain then s.2.1 else if counterTakes s.1 base k ev cls addr then n else 0
    let f := (fPMC_CNT_COUNT.at k).inBank base
    let v := rget s.1 f + inc
    let m := if inc = 0 then s.1 else rset s.1 f v
    let o := fPMC_STATUS_OVF.inBank base
    if v < 2 ^ 48 then (m, 0, s.2.2)
    else if chain then (m, v / 2 ^ 48, s.2.2)
    else if bitOf (rget m o) k then (m, v / 2 ^ 48, s.2.2)
    else (rset m o (withBit (rget m o) k), v / 2 ^ 48, true)

/-- An event counted `n` times in a bank: the new registers, and whether an overflow bit was set (R555). -/
def bankCount (m : SMap Nat) (base ev n : Nat) (cls addr : Option Nat) : SMap Nat × Bool :=
  let r := (List.range 8).foldl (counterStep base ev n cls addr) (m, 0, false)
  (r.1, r.2.2)

/-- The 80-byte record of a bank in a snapshot; a plot in P3 has zero counts (R558). -/
def snapRecord (m : SMap Nat) (base kind inst snap : Nat) (off : Bool) : List Byte :=
  leBytes 1 kind ++ leBytes 1 (if off then 1 else 0) ++ leBytes 2 inst ++
    leBytes 1 (if off then 0 else rget m (fPMC_STATUS_OVF.inBank base)) ++ List.replicate 3 0 ++ leBytes 8 snap ++
    (List.range 8).flatMap (fun k => leBytes 8 (if off then 0 else rget m ((fPMC_CNT_COUNT.at k).inBank base)))

/-- The banks of the device other than the plots', in the order of a snapshot (R554). -/
def deviceBanks : List (Nat × Nat) :=
  (List.range 18).map (fun i => (1, i)) ++ (List.range 16).map (fun i => (2, i)) ++ (List.range 24).map (fun i => (3, i)) ++
    [(4, 0), (5, 0), (6, 0), (7, 0)]

/-- The snapshot of all banks as latched (R558). -/
def snapshot (d : Dev) : List Byte :=
  let n := d.rg fPMR_STATUS_SNAP
  ((List.range 2048).filter isPlot).flatMap (fun p =>
    snapRecord (d.plot p).regs 0x3800 0 p n (decide ((d.plot p).rg fPLOT_PWR_STATE = 3))) ++
    deviceBanks.flatMap (fun b => snapRecord d.regs (bankOffset b.1 b.2) b.1 b.2 n false)

/-- The code that refuses a snapshot: one runs, or the range is too small or outside memory; else 0 (R558). -/
def pmrRefusal (d : Dev) : Nat :=
  let a := d.rg fPMR_ADDR_ADDR
  if d.rg fPMR_STATUS_BUSY = 1 then 0x0A12
  else if d.rg fPMR_LIMIT_LIMIT < 92000 ∨ (0x1800000000 < a + 92000 ∧ (a < 0x800000000000 ∨ 0x1000000000000 < a + 92000)) then
    0x0A10
  else 0

/-- The trigger takes a snapshot: the banks are latched, or it is refused; the trigger itself has fired already (R558,
R569). -/
def pmrStart (d : Dev) : Dev :=
  if pmrRefusal d ≠ 0 then (recordPut d 11 0 (pmrRefusal d)).1
  else { d with snap := snapshot d }.rs fPMR_STATUS_BUSY 1

/-- DBG_TRIG fires if it is armed: ARM clears, and each enabled action happens (R569). -/
def trigFire (d : Dev) : Dev :=
  if d.rg fDBG_TRIG_ARM = 0 then d
  else
    let d := d.rs fDBG_TRIG_ARM 0
    let d := if d.rg fDBG_TRIG_ACT_PIN = 1 then { d with tray := { d.tray with trigOut := true } } else d
    let d := if d.rg fDBG_TRIG_ACT_IRQ = 1 then raiseEdge d 10 else d
    if d.rg fDBG_TRIG_ACT_SNAP = 1 then pmrStart d else d

/-- A counter's overflow bit has been set: PMR_STATUS, source 9 and the trigger follow (R558, R569). -/
def overflowed (d : Dev) : Dev :=
  let d := if d.rg fPMR_STATUS_OVF_ANY = 1 then d else raiseEdge (d.rs fPMR_STATUS_OVF_ANY 1) 9
  if d.rg fDBG_TRIG_OVF_EN = 1 then trigFire d else d

/-- An event of plot `p`, counted in its bank. -/
def plotEvent (d : Dev) (p ev n : Nat) (cls addr : Option Nat) : Dev :=
  let pl := d.plot p
  let r := bankCount pl.regs 0x3800 ev n cls addr
  let d := d.setPlot p { pl with regs := r.1 }
  if r.2 then overflowed d else d

/-- An event of another block, counted in its bank. -/
def blockEvent (d : Dev) (kind inst ev n : Nat) (cls addr : Option Nat) : Dev :=
  let r := bankCount d.regs (bankOffset kind inst) ev n cls addr
  let d := { d with regs := r.1 }
  if r.2 then overflowed d else d

/-- A recorded code is an event of the block that records it, if the block has a bank (R557). -/
def codeEvent (d : Dev) (kind inst : Nat) : Dev :=
  if kind = 10 then plotEvent d inst 0x200 1 none none
  else if kind = 5 then blockEvent d 1 inst 0x200 1 none none
  else if kind = 7 then blockEvent d 2 inst 0x200 1 none none
  else if kind = 8 then blockEvent d 3 inst 0x200 1 none none
  else if kind = 6 then blockEvent d 4 0 0x200 1 none none
  else if kind = 9 then blockEvent d 5 0 0x200 1 none none
  else if kind = 3 then blockEvent d 6 0 0x200 1 none none
  else if kind = 2 then blockEvent d 7 0 0x200 1 none none
  else d

/-- A code is recorded: it enters the sticky error record, is counted, and fires the trigger that waits for it (R557, R559,
R569). -/
def recordErr (d : Dev) (kind inst code : Nat) : Dev :=
  let r := recordPut d kind inst code
  let d := codeEvent r.1 kind inst
  if r.2 ∧ d.rg fDBG_TRIG_MATCH_CODE = code ∧ code ≠ 0 then trigFire d else d

/-- GO of PMR_CTRL (R558). -/
def pmrGo (d : Dev) : Dev := if pmrRefusal d = 0 then pmrStart d else recordErr d 11 0 (pmrRefusal d)

/-- A code of the fabric: KIND 9, INSTANCE 0 (R34). -/
def recordFab (d : Dev) (code : Nat) : Dev := recordErr d 9 0 code

/-- A code of a physical plot: KIND 10 (R561). -/
def recordPlot (d : Dev) (p code : Nat) : Dev := recordErr d 10 p code

/-- Whether bit `i` of PLOT_IRQ is enabled: at the reset value of EN the bits that R521 names, else the bit of EN; the BED_CH
bits, which EN does not reach, are always enabled (log entry 36). -/
def irqEnabled (pl : Plot) (i : Nat) : Bool :=
  let en := pl.rg fPLOT_IRQ_EN
  decide (16 ≤ i) || (bitOf en i && (decide (i ≠ 1) || decide (en ≠ 0x0F07)))

/-- A plot event sets its PLOT_IRQ bit while its enable is 1 (R513). `i` is the bit position. -/
def plotIrq (d : Dev) (p i : Nat) : Dev :=
  if irqEnabled (d.plot p) i then
    d.modPlot p (fun pl =>
      if i = 0 then pl.rs fPLOT_IRQ_SEQ_STOP 1
      else if i = 1 then pl.rs fPLOT_IRQ_SEQ_DONE 1
      else if i = 8 then pl.rs fPLOT_IRQ_ARR 1
      else if i = 9 then pl.rs fPLOT_IRQ_TINE 1
      else if i = 10 then pl.rs fPLOT_IRQ_ATT 1
      else pl.rs fPLOT_IRQ_BED_CH (withBit (pl.rg fPLOT_IRQ_BED_CH) (i - 16)))
  else d

/-- Format events set their bits of PLOT_FMT_STATUS (R80, R81). -/
def fmtFlags (pl : Plot) (fl : Nat) : Plot :=
  let one (f : Fld) (b : Nat) (pl : Plot) : Plot := if bitOf fl b then pl.rs f 1 else pl
  one fPLOT_FMT_STATUS_OK4_SCALE 7 (one fPLOT_FMT_STATUS_MX_NAN 6 (one fPLOT_FMT_STATUS_INT_WRAP 5
    (one fPLOT_FMT_STATUS_SAT 4 (one fPLOT_FMT_STATUS_UNDERFLOW 3 (one fPLOT_FMT_STATUS_NAN_OUT 2
    (one fPLOT_FMT_STATUS_NAN_IN 1 (one fPLOT_FMT_STATUS_SNAN 0 pl)))))))

/-! ## Memories -/

/-- A byte of a memory; an unlisted address reads as zero. -/
def memGet (m : List Host.Cell) (a : Nat) : Byte := SMap.get 0 m a

/-- A memory with one byte written. -/
def memSet (m : List Host.Cell) (a : Nat) (b : Byte) : List Host.Cell := SMap.set 0 m a b

/-- The canonical form of a memory: addresses strictly rising, no byte listed that is zero. -/
def Memory.wf (m : List Host.Cell) : Bool := SMap.wf 0 m

/-- `n` bytes from address `a`. -/
def memRead (m : List Host.Cell) (a n : Nat) : List Byte := (List.range n).map (fun i => memGet m (a + i))

/-- A memory with bytes written from address `a` on. -/
def memWrite (m : List Host.Cell) (a : Nat) : List Byte → List Host.Cell
  | [] => m
  | b :: t => memWrite (memSet m a b) (a + 1) t

/-- `n` zero bytes. -/
def zeros (n : Nat) : List Byte := List.replicate n 0

/-- Number of ones of a mask of at most `w` bits. -/
def popCount (w m : Nat) : Nat := ((List.range w).filter (bitOf m)).length

/-- The mask that PLOT_MEM_FLIP applies to a code word of `w` bits (R497). -/
def flipMask (pl : Plot) (w : Nat) : Nat :=
  let one (x : Nat) : Nat := if x < w then 2 ^ x else 0
  (one (pl.rg fPLOT_MEM_FLIP_POS_A)) ^^^ (one (pl.rg fPLOT_MEM_FLIP_POS_B))

/-- Whether a flip of memory class `c` is armed (R497). -/
def flipArmed (pl : Plot) (c : Nat) : Bool :=
  decide (pl.rg fPLOT_MEM_FLIP_ARM = 1) && decide (pl.rg fPLOT_MEM_FLIP_CLASS = c)

/-! ### Scratch -/

/-- Base of plot `p` in the scratch memory. -/
def scrBase (p : Nat) : Nat := p * 2 ^ 20

/-- Whether a scratch word of 8 bytes is uncorrectable (R139). -/
def scrBad (pl : Plot) (w : Nat) : Bool := decide (2 ≤ popCount 72 (SMap.get 0 pl.scrErr w))

/-- The first uncorrectable word of a scratch range, if any. -/
def scrFirstBad (pl : Plot) (a n : Nat) : Option Nat :=
  if n = 0 then none
  else ((List.range ((a + n - 1) / 8 - a / 8 + 1)).map (· + a / 8)).find? (scrBad pl)

/-- Marks a unit FAILED (R140). -/
def unitFail (pl : Plot) (u : Nat) : Plot :=
  { pl with units := SMap.set UnitSt.idle pl.units u { SMap.get UnitSt.idle pl.units u with failed := true } }

/-- The check state of a unit: 0 CLOSED, 1 OPEN, 2 FAILED (R140). -/
def unitState (pl : Plot) (u : Nat) : Nat :=
  let s := SMap.get UnitSt.idle pl.units u
  if s.failed then 2 else if s.opens.isEmpty then 0 else 1

/-- The 256-byte lines a scratch range covers. -/
def linesOf (a n : Nat) : List Nat :=
  if n = 0 then [] else (List.range ((a + n - 1) / 256 - a / 256 + 1)).map (· + a / 256)

/-- Writes scratch bytes of plot `p` (R139): whole words take fresh check bits; a narrow write over an uncorrectable
word is not merged and fails its line. The code is 0 or 0x0C08. -/
def scrWrite (d : Dev) (p a : Nat) (bytes : List Byte) : Dev × Nat :=
  let n := bytes.length
  if n = 0 then (d, 0) else
  let pl := d.plot p
  let words := (List.range ((a + n - 1) / 8 - a / 8 + 1)).map (· + a / 8)
  let narrow (w : Nat) : Bool := decide (w * 8 < a) || decide (a + n < w * 8 + 8)
  let bad := words.filter (fun w => narrow w && scrBad pl w)
  let ok (i : Nat) : Bool := !bad.contains ((a + i) / 8)
  let mem := ((List.range n).zip bytes).foldl
    (fun m e => if ok e.1 then memSet m (scrBase p + a + e.1) e.2 else m) d.scr
  let errs := words.foldl (fun m w => if bad.contains w then m else SMap.set 0 m w 0) pl.scrErr
  let flip := flipArmed pl 0
  let errs := if flip && !bad.contains (a / 8) then SMap.set 0 errs (a / 8) (flipMask pl 72) else errs
  let pl := { pl with scrErr := errs }
  let pl := if flip then pl.rs fPLOT_MEM_FLIP_ARM 0 else pl
  let pl := bad.foldl (fun pl w => unitFail pl (w / 32)) pl
  let d := ({ d with scr := mem }).setPlot p pl
  if bad.isEmpty then (d, 0) else (recordPlot d p 0x0C08, 0x0C08)

/-! ### The accumulator file -/

/-- A word of the accumulator file as stored: parity-covered data (R106, R497). -/
def accWord (pl : Plot) (w : Nat) : Nat :=
  (SMap.get 0 pl.acc w) ^^^ (SMap.get 0 pl.accErr w % 2 ^ 32)

/-- Whether a word has a parity error (R110). -/
def accBad (pl : Plot) (w : Nat) : Bool := decide (popCount 33 (SMap.get 0 pl.accErr w) % 2 = 1)

/-- Writes accumulator words from index `w` on, with fresh parity; an armed flip hits the first (R497). -/
def accWrite (pl : Plot) (w : Nat) (vals : List Nat) : Plot :=
  if vals.isEmpty then pl else
  let idx := (List.range vals.length).zip vals
  let acc := idx.foldl (fun m e => SMap.set 0 m (w + e.1) (e.2 % 2 ^ 32)) pl.acc
  let errs := idx.foldl (fun m e => SMap.set 0 m (w + e.1) 0) pl.accErr
  if flipArmed pl 2 then
    ({ pl with acc := acc, accErr := SMap.set 0 errs w (flipMask pl 33) }).rs fPLOT_MEM_FLIP_ARM 0
  else { pl with acc := acc, accErr := errs }

/-! ### The bed code (R172, R173) -/

/-- A product of GF(2^8) over 0x11D. -/
def gfMul (a b : Nat) : Nat :=
  ((List.range 8).foldl (fun (s : Nat × Nat) i =>
    (if bitOf b i then s.1 ^^^ s.2 else s.1, if s.2 < 128 then 2 * s.2 else (2 * s.2) ^^^ 0x11D)) (0, a)).1

/-- A power of α = 0x02. -/
def gfPow : Nat → Nat
  | 0 => 1
  | n + 1 => gfMul 2 (gfPow n)

/-- Syndrome j of an error pattern: symbol i is the coefficient of x^(35 − i). -/
def syndrome (errs : List (Nat × Nat)) (j : Nat) : Nat :=
  errs.foldl (fun s e => s ^^^ gfMul e.2 (gfPow (j * (35 - e.1) % 255))) 0

/-- How a channel decodes a column (R173). -/
inductive ColResult where
  | clean
  | corrected (sym mask : Nat)
  | uncorrectable
deriving DecidableEq, Repr

/-- Decodes a column from its error pattern: zero syndromes, one symbol, or uncorrectable (R173). -/
def decodeCol (errs : List (Nat × Nat)) : ColResult :=
  let s0 := syndrome errs 0
  let s1 := syndrome errs 1
  let s2 := syndrome errs 2
  let s3 := syndrome errs 3
  if s0 = 0 ∧ s1 = 0 ∧ s2 = 0 ∧ s3 = 0 then .clean
  else if s0 = 0 then .uncorrectable
  else match (List.range 36).find? (fun i =>
      let x := gfPow (35 - i)
      decide (s1 = gfMul s0 x) && decide (s2 = gfMul s1 x) && decide (s3 = gfMul s2 x)) with
    | some i => .corrected i s0
    | none => .uncorrectable

/-- The mask on symbol `j` of an error pattern. -/
def symMask (errs : List (Nat × Nat)) (j : Nat) : Nat :=
  (errs.filter (fun e => e.1 = j)).foldl (fun a e => a ^^^ e.2) 0

/-- Base of plot `p` in the bed memory. -/
def bedBase (p : Nat) : Nat := p * 2 ^ 26

/-- Channel `ch` of plot `p`. -/
def Plot.chan (pl : Plot) (ch : Nat) : Channel := SMap.get Channel.reset pl.channels ch

/-- The plot with a channel replaced. -/
def Plot.setChan (pl : Plot) (ch : Nat) (c : Channel) : Plot :=
  { pl with channels := SMap.set Channel.reset pl.channels ch c }

/-- Counts an error against a row in the suspect table (R208): `full` sets the count to the threshold. Answers the
table and whether the row reached the threshold now. -/
def bumpSuspect (t : List Suspect) (thr bank row : Nat) (full : Bool) : List Suspect × Bool :=
  match t.find? (fun s => s.bank = bank && s.row = row) with
  | some s =>
    let n := if full then thr else s.count + 1
    (t.map (fun x => if x.bank = bank && x.row = row then { x with count := max x.count n } else x),
      decide (s.count < thr) && decide (thr ≤ n))
  | none =>
    let e : Suspect := ⟨bank, row, if full then thr else 1⟩
    let hit := decide (thr ≤ e.count)
    if t.length < 16 then (t ++ [e], hit)
    else
      let low := t.foldl (fun m s => min m s.count) 255
      (t.set (t.findIdx (fun s => s.count = low)) e, hit)

/-- A corrected or uncorrectable column read counts against its row: a row at the threshold waits for its remap copy,
or records 0x0D04 once when its bank has no free spare (R208, R209). -/
def rowError (d : Dev) (p ch bank row : Nat) (full : Bool) : Dev :=
  let pl := d.plot p
  let c := pl.chan ch
  let thr := pl.rg (fBED_CH_CFG_REMAP_THRESHOLD.at ch)
  let r := bumpSuspect c.suspects thr bank row full
  let d := d.setPlot p (pl.setChan ch { c with suspects := r.1 })
  if r.2 then
    if pl.rg ((fBED_CH_SPARES_USED.at ch).bit bank) < 8 then
      let mode := pl.rg (fBED_CH_STATUS_MODE.at ch)
      if mode = 0 ∨ mode = 4 then d else d.modPlot p (fun pl => pl.rs (fBED_CH_STATUS_REMAP_PENDING.at ch) 1)
    else plotIrq (recordPlot d p 0x0D04) p (16 + ch)
  else d

/-- Reads column `col` of a bed (offset / 32) under R173: the device with its counts, the 32 bytes, and whether the
column is uncorrectable. With `scrub` a corrected column is rewritten, freshly encoded (R294). -/
def bedReadCol (d : Dev) (p col : Nat) (scrub : Bool) : Dev × List Byte × Bool :=
  let pl := d.plot p
  let errs := SMap.get [] pl.bedErr col
  let ch := col / 2 ^ 19
  let bank := col / 2 ^ 16 % 8
  let row := col / 2 ^ 6 % 1024
  let stored := (List.range 32).map (fun j =>
    memGet d.bed (bedBase p + col * 32 + j) ^^^ BitVec.ofNat 8 (symMask errs j))
  match decodeCol errs with
  | .clean => (d, stored, false)
  | .corrected i m =>
    let data := stored.mapIdx (fun j b => if j = i then b ^^^ BitVec.ofNat 8 m else b)
    let d := plotEvent (d.modPlot p (fun pl => pl.count (fBED_CH_ECC_CORRECTED.at ch) 1)) p 0x201 1 none none
    let d := rowError d p ch bank row false
    if scrub then
      let d := { d with bed := memWrite d.bed (bedBase p + col * 32) data }
      (bedEncode d p col, data, false)
    else (d, data, false)
  | .uncorrectable =>
    let pl := pl.count (fBED_CH_ECC_UNCORRECTABLE.at ch) 1
    let pl := if pl.rg (fBED_CH_ERRADDR_VALID.at ch) = 1 then pl else
      (((pl.rs (fBED_CH_ERRADDR_VALID.at ch) 1).rs (fBED_CH_ERRADDR_BANK.at ch) bank).rs
        (fBED_CH_ERRADDR_ROW.at ch) row).rs (fBED_CH_ERRADDR_COLUMN.at ch) (col % 64)
    let d := plotIrq (recordPlot (d.setPlot p pl) p 0x0D01) p (16 + ch)
    (rowError d p ch bank row true, zeros 32, true)
where
  /-- The column is stored with fresh check bytes; an armed BED_CH_FLIP corrupts it (R177). -/
  bedEncode (d : Dev) (p col : Nat) : Dev :=
    let ch := col / 2 ^ 19
    d.modPlot p (fun pl =>
      let f (a b : Nat) : List (Nat × Nat) := if a < 36 ∧ b ≠ 0 then [(a, b)] else []
      if pl.rg (fBED_CH_FLIP_ARM.at ch) = 1 then
        let e := f (pl.rg (fBED_CH_FLIP_SYM_A.at ch)) (pl.rg (fBED_CH_FLIP_MASK_A.at ch)) ++
          f (pl.rg (fBED_CH_FLIP_SYM_B.at ch)) (pl.rg (fBED_CH_FLIP_MASK_B.at ch))
        ({ pl with bedErr := SMap.set [] pl.bedErr col e }).rs (fBED_CH_FLIP_ARM.at ch) 0
      else { pl with bedErr := SMap.set [] pl.bedErr col [] })

/-- The columns a bed range covers. -/
def colsOf (off n : Nat) : List Nat :=
  if n = 0 then [] else (List.range ((off + n - 1) / 32 - off / 32 + 1)).map (· + off / 32)

/-- Reads `n` bytes of a bed: all zero with code 0x0D01 when a column is uncorrectable (R174). -/
def bedRead (d : Dev) (p off n : Nat) (scrub : Bool) : Dev × List Byte × Nat :=
  let r := (colsOf off n).foldl (fun (s : Dev × List Byte × Bool) col =>
    let q := bedReadCol s.1 p col scrub
    (q.1, s.2.1 ++ q.2.1, s.2.2 || q.2.2)) (d, [], false)
  if r.2.2 then (r.1, zeros n, 0x0D01) else (r.1, (r.2.1.drop (off % 32)).take n, 0)

/-- Writes one column of a bed: whole, or merged with what it holds (R175). The code is 0 or 0x0D02. -/
def bedWriteCol (d : Dev) (p col from_ : Nat) (bytes : List Byte) : Dev × Nat :=
  if bytes.length = 32 then
    (bedReadCol.bedEncode { d with bed := memWrite d.bed (bedBase p + col * 32) bytes } p col, 0)
  else
    let q := bedReadCol d p col false
    if q.2.2 then (recordPlot q.1 p 0x0D02, 0x0D02)
    else
      let merged := q.2.1.take from_ ++ bytes ++ q.2.1.drop (from_ + bytes.length)
      (bedReadCol.bedEncode { q.1 with bed := memWrite q.1.bed (bedBase p + col * 32) merged } p col, 0)

/-- Writes bytes of a bed, column by column (R175). -/
def bedWrite (d : Dev) (p off : Nat) (bytes : List Byte) : Dev × Nat :=
  let fin := off + bytes.length
  (colsOf off bytes.length).foldl (fun (s : Dev × Nat) col =>
    let lo := max off (col * 32)
    let hi := min fin (col * 32 + 32)
    let r := bedWriteCol s.1 p col (lo - col * 32) ((bytes.drop (lo - off)).take (hi - lo))
    (r.1, if s.2 = 0 then r.2 else s.2)) (d, 0)

/-! ### GDDR7 (R278 to R287) -/

/-- The controller and local address of a GDDR7 address (R278). -/
def gddrMap (a : Nat) : Nat × Nat :=
  let g := a / 4096
  let q := g / 24
  let h := (q % 32 + q / 32 % 32 + q / 1024 % 32 + q / 32768 % 32) % 24
  ((g % 24 + h) % 24, q * 4096 + a % 4096)

/-- The GDDR7 address of local granule `q` of controller `c` (R278). -/
def gddrUnmap (c q : Nat) : Nat :=
  let h := (q % 32 + q / 32 % 32 + q / 1024 % 32 + q / 32768 % 32) % 24
  (24 * q + (c + 24 - h) % 24) * 4096

/-- The device channel, bank and row of a local address (R279). -/
def gddrRow (l : Nat) : Nat × Nat × Nat := (l / 32 % 4, l / 8192 % 16, l / 131072)

/-- Sets a controller's error flag and records its code. -/
def gdcErr (d : Dev) (c : Nat) (f : Fld) (code : Nat) : Dev := recordErr (d.rs (f.at c) 1) 8 c code

/-- Captures the address of a failing request (R283, GDC_ERRADDR). -/
def gdcErrAddr (d : Dev) (c loc : Nat) (write : Bool) : Dev :=
  if d.rg (fGDC_ERRADDR_VALID.at c) = 1 then d else
  ((d.rs (fGDC_ERRADDR_VALID.at c) 1).rs (fGDC_ERRADDR_LOCAL.at c) loc).rs (fGDC_ERRADDR_WRITE.at c)
    (if write then 1 else 0)

/-- Counts an error against a row of a GDDR7 device (R290): `full` sets the count to the threshold. -/
def gdcSuspect (d : Dev) (c loc : Nat) (full : Bool) : Dev :=
  let r := gddrRow loc
  let is (i : Nat) : Bool := decide (d.rg (fGDC_SUSPECT_VALID.at2 c i) = 1) &&
    decide (d.rg (fGDC_SUSPECT_DCH.at2 c i) = r.1) && decide (d.rg (fGDC_SUSPECT_BANK.at2 c i) = r.2.1) &&
    decide (d.rg (fGDC_SUSPECT_ROW.at2 c i) = r.2.2)
  let thr := d.rg (fGDC_CFG_SUSPECT_THRESHOLD.at c)
  let cnt (i : Nat) : Nat := if d.rg (fGDC_SUSPECT_VALID.at2 c i) = 1 then d.rg (fGDC_SUSPECT_COUNT.at2 c i) + 1 else 0
  let low := (List.range 32).foldl (fun m i => min m (cnt i)) 256
  let hit := (List.range 32).find? is
  let i := hit.getD ((List.range 32).findIdx (fun i => cnt i = low))
  let old := if hit.isSome then d.rg (fGDC_SUSPECT_COUNT.at2 c i) else 0
  if hit.isSome ∧ thr ≤ old then d else
  let n := if full then thr else old + 1
  let d := d.rs (fGDC_SUSPECT_VALID.at2 c i) 1
  let d := d.rs (fGDC_SUSPECT_DCH.at2 c i) r.1
  let d := d.rs (fGDC_SUSPECT_BANK.at2 c i) r.2.1
  let d := d.rs (fGDC_SUSPECT_ROW.at2 c i) r.2.2
  let d := d.rs (fGDC_SUSPECT_COUNT.at2 c i) n
  if thr ≤ n then gdcErr d c fGDC_ERR_ROW_SUSPECT 0x0909 else d

/-- The 32-byte sectors a GDDR7 range covers, as addresses. -/
def sectorsOf (a n : Nat) : List Nat :=
  if n = 0 then [] else (List.range ((a + n - 1) / 32 - a / 32 + 1)).map (fun i => (a / 32 + i) * 32)

/-- The reported read of one sector: its counts, and whether it is uncorrectable (R276, R281, R290). -/
def sectorReport (d : Dev) (s rep : Nat) : Dev × Bool :=
  let m := gddrMap s
  if rep = 1 then
    let d := blockEvent (d.count (fGDC_ECC_CNT_CORRECTED.at m.1) 1) 3 m.1 0x201 1 none none
    (gdcSuspect d m.1 m.2 false, false)
  else if rep = 2 then (gdcSuspect (d.count (fGDC_ECC_CNT_UNCORRECTABLE.at m.1) 1) m.1 m.2 true, true)
  else (d, false)

/-- Reads GDDR7: all zero with code 0x0901 when a sector is reported uncorrectable (R283). -/
def gddrRead (d : Dev) (a n : Nat) (report : List Nat) : Dev × List Byte × Nat :=
  let r := (sectorsOf a n).foldl (fun (s : Dev × Bool × List Nat) sec =>
    let q := sectorReport s.1 sec (s.2.2.headD 0)
    let m := gddrMap sec
    (if q.2 then gdcErrAddr (gdcErr q.1 m.1 fGDC_ERR_UNCORR 0x0901) m.1 m.2 false else q.1,
      s.2.1 || q.2, s.2.2.tail)) (d, false, report)
  if r.2.1 then (r.1, zeros n, 0x0901) else (r.1, memRead d.gddr a n, 0)

/-- Writes GDDR7, merging partial sectors; a merge over an uncorrectable sector is not made (R281). -/
def gddrWrite (d : Dev) (a : Nat) (bytes : List Byte) (report : List Nat) : Dev × Nat :=
  let fin := a + bytes.length
  let r := (sectorsOf a bytes.length).foldl (fun (s : Dev × Nat × List Nat) sec =>
    let lo := max a sec
    let hi := min fin (sec + 32)
    let part := (bytes.drop (lo - a)).take (hi - lo)
    if hi - lo = 32 then ({ s.1 with gddr := memWrite s.1.gddr lo part }, s.2.1, s.2.2)
    else
      let q := sectorReport s.1 sec (s.2.2.headD 0)
      let m := gddrMap sec
      if q.2 then (gdcErrAddr (gdcErr q.1 m.1 fGDC_ERR_RMW_UNCORR 0x0902) m.1 m.2 true, 0x0902, s.2.2.tail)
      else ({ q.1 with gddr := memWrite q.1.gddr lo part }, s.2.1, s.2.2.tail)) (d, 0, report)
  (r.1, r.2.1)

/-- The element size of a REDOP (R153). -/
def redopSize (op : Nat) : Nat := if op = 1 then 2 else if op = 3 then 8 else 4

/-- One element of a reduce-write: the old and new codes combined (R75, R77, R79, R284). -/
def redopApply (op old new : Nat) : Nat :=
  match op with
  | 0 => code32 (add32 (val32 old) (val32 new)).1
  | 1 => (encodeFp fmtBf16 .rne false (addExact (decodeFp fmtBf16 old) (decodeFp fmtBf16 new)).1).1
  | 2 => (old + new) % 2 ^ 32
  | 3 => (old + new) % 2 ^ 64
  | 4 => code32 (minExact (val32 old) (val32 new)).1
  | _ => code32 (maxExact (val32 old) (val32 new)).1

/-- Combines a run of elements. -/
def redopBytes (op : Nat) (old new : List Byte) : List Byte :=
  let k := redopSize op
  (List.range (new.length / k)).flatMap (fun i =>
    leBytes k (redopApply op (leValue ((old.drop (i * k)).take k)) (leValue ((new.drop (i * k)).take k))))

/-- A reduce-write: each sector an indivisible read-modify-write; an uncorrectable sector keeps its contents
(R284, R285). -/
def gddrReduce (d : Dev) (a op : Nat) (bytes : List Byte) (report : List Nat) : Dev × Nat :=
  let fin := a + bytes.length
  let r := (sectorsOf a bytes.length).foldl (fun (s : Dev × Nat × List Nat) sec =>
    let lo := max a sec
    let hi := min fin (sec + 32)
    let part := (bytes.drop (lo - a)).take (hi - lo)
    let q := sectorReport s.1 sec (s.2.2.headD 0)
    let m := gddrMap sec
    if q.2 then (gdcErrAddr (gdcErr q.1 m.1 fGDC_ERR_RMW_UNCORR 0x0902) m.1 m.2 true, 0x0902, s.2.2.tail)
    else
      let old := memRead q.1.gddr lo (hi - lo)
      ({ q.1 with gddr := memWrite q.1.gddr lo (redopBytes op old part) }.count (fGDC_ADD_CNT_REDUCES.at m.1) 1,
        s.2.1, s.2.2.tail)) (d, 0, report)
  (r.1, r.2.1)

/-- Whether a controller takes requests (R296): SERVING, or the states that hold them. -/
def gdcTakes (d : Dev) (c : Nat) : Bool :=
  let s := d.rg (fGDC_STATUS_STATE.at c)
  decide (2 ≤ s) && decide (s ≤ 4)

/-! ## The address map (R32) -/

/-- What a device physical address names (R32). -/
inductive Target where
  | gddr (a : Nat)
  | bed (n off : Nat)
  | scratch (n off : Nat)
  | reg (off : Nat)
  | host (a : Nat)
  | unmapped
deriving DecidableEq, Repr

/-- Decodes a device physical address (R32, R33). -/
def decodeAddr (a : Nat) : Target :=
  if a < 0x1800000000 then .gddr a
  else if 0x10000000000 ≤ a ∧ a < 0x11000000000 then
    .bed ((a - 0x10000000000) / 0x4000000) (a % 0x4000000)
  else if 0x20000000000 ≤ a ∧ a < 0x20040000000 then
    .scratch ((a - 0x20000000000) / 0x100000) (a % 0x100000)
  else if 0x30000000000 ≤ a ∧ a < 0x30004000000 then .reg (a - 0x30000000000)
  else if 0x800000000000 ≤ a ∧ a < 0x1000000000000 then .host a
  else .unmapped

/-- Start of the bed window of logical plot `n`. -/
def bedWindow (n : Nat) : Nat := 0x10000000000 + n * 0x4000000

/-- Start of the scratch window of logical plot `n`. -/
def scrWindow (n : Nat) : Nat := 0x20000000000 + n * 0x100000

/-- The logical number whose windows a plot's own extents name: its own, or that of the plot a referee was cloned
from (R151, R481). -/
def Dev.ownNumber (d : Dev) (p : Nat) : Option Nat :=
  match d.logical p with
  | some n => some n
  | none => match d.referee with
    | some r => if r.2 = p then some r.1 else none
    | none => none

/-- Whether plot `p` is in referee mode (R481). -/
def Dev.isReferee (d : Dev) (p : Nat) : Bool := d.referee.any (fun r => r.2 = p)

/-- The scratch offset that a device address names for plot `p` itself, if it lies in the plot's own window. -/
def Dev.ownScratch (d : Dev) (p a : Nat) : Option Nat :=
  match decodeAddr a with
  | .scratch n off => if d.ownNumber p = some n then some off else none
  | _ => none

/-- The bed offset that a device address names for plot `p` itself, if it lies in the plot's own window. -/
def Dev.ownBed (d : Dev) (p a : Nat) : Option Nat :=
  match decodeAddr a with
  | .bed n off => if d.ownNumber p = some n then some off else none
  | _ => none

/-- The key of a synchronisation counter: counters belong to the logical number; a plot without one has its own
(R156). -/
def Dev.syncKey (d : Dev) (p c : Nat) : Nat :=
  match d.logical p with
  | some n => n * 256 + c
  | none => (1024 + p) * 256 + c

/-- The value of a synchronisation counter of plot `p`. -/
def Dev.syncGet (d : Dev) (p c : Nat) : Nat := SMap.get 0 d.sync (d.syncKey p c)

/-- A synchronisation counter written, modulo 2^32. -/
def Dev.syncSet (d : Dev) (p c v : Nat) : Dev := { d with sync := SMap.set 0 d.sync (d.syncKey p c) (v % 2 ^ 32) }

/-- An addition to a synchronisation counter, modulo 2^32 (R156). -/
def Dev.syncAdd (d : Dev) (p c v : Nat) : Dev := d.syncSet p c (d.syncGet p c + v)

end Sys2Proof.Machine
end

