-- ==== Sys2Proof/Machine/Flags.lean ====
section
/-! DEFINITION. Check states, region marks and stops of a plot: every flag that a plot instruction sets or tests
(R110, R115 to R117, R126, R135, R140, R141, R161). -/

namespace Sys2Proof.Machine

/-! ## The sequencer's stop -/

/-- Values of PLOT_SEQ_STATUS.STATE (R170). -/
def seqUNSOWN : Nat := 0
def seqIDLE : Nat := 1
def seqRUNNING : Nat := 2
def seqSTOPPING : Nat := 3
def seqSTOPPED : Nat := 4

/-- The sequencer state of a plot. -/
def Plot.seq (pl : Plot) : Nat := pl.rg fPLOT_SEQ_STATUS_STATE

/-- A RUNNING sequencer goes to STOPPING with the code and the instruction in PLOT_SEQ_STOP (R135, R136). A later stop
keeps the first record, but for the code 0 of a referee's stop (R481). -/
def stopSeq (d : Dev) (p pc code : Nat) : Dev :=
  let pl := d.plot p
  if pl.seq = seqRUNNING then
    d.setPlot p { ((pl.rs fPLOT_SEQ_STATUS_STATE seqSTOPPING).rs fPLOT_SEQ_STOP_PC pc).rs fPLOT_SEQ_STOP_CODE code with
      wait := .none }
  else if pl.seq = seqSTOPPING ∧ pl.rg fPLOT_SEQ_STOP_CODE = 0 ∧ ¬ pl.abortPending then
    d.setPlot p ((pl.rs fPLOT_SEQ_STOP_PC pc).rs fPLOT_SEQ_STOP_CODE code)
  else d

/-- An instruction stops or a check fails: the code is recorded, and the sequencer stops (R135). -/
def stopAt (d : Dev) (p pc code : Nat) : Dev :=
  stopSeq (if code = 0 then d else recordPlot d p code) p pc code

/-- A bit of PLOT_ARR_ERR is set, which raises the plot's array interrupt (R117, R127). -/
def arrErr (d : Dev) (p : Nat) (f : Fld) : Dev := plotIrq (d.modPlot p (fun pl => pl.rs f 1)) p 8

/-! ## Units: scratch lines 0 to 4,095, accumulator segments from 4,096 (R140) -/

/-- A unit's state record. -/
def Plot.unit (pl : Plot) (u : Nat) : UnitSt := SMap.get UnitSt.idle pl.units u

/-- The plot with a unit's record replaced. -/
def Plot.setUnit (pl : Plot) (u : Nat) (s : UnitSt) : Plot := { pl with units := SMap.set UnitSt.idle pl.units u s }

/-- A check is opened over the units written; its value derives from the units read, the open checks of which it
depends on (R119, R140). Answers the check's number. -/
def openCheck (pl : Plot) (written reads extra : List Nat) (bad : Bool) : Plot × Nat :=
  let id := pl.nextCheck
  let deps := (reads.flatMap (fun u => (pl.unit u).opens) ++ extra).eraseDups
  let bad := bad || reads.any (fun u => (pl.unit u).failed)
  let pl := written.foldl (fun pl u =>
    let s := pl.unit u
    pl.setUnit u { s with opens := s.opens ++ [id] }) pl
  ({ pl with nextCheck := id + 1, deps := pl.deps ++ [⟨id, deps, bad, false⟩] }, id)

/-- A check is decided: the units it covers lose it and are FAILED if it failed; what depends on it goes on without
it, and is spoiled if it failed (R115, R119, R140). -/
def resolveCheck (pl : Plot) (id : Nat) (failed : Bool) : Plot :=
  let one (s : UnitSt) : UnitSt :=
    if s.opens.contains id then { s with opens := s.opens.erase id, failed := s.failed || failed } else s
  let tile (t : Tile) : Tile :=
    if t.deps.contains id then { t with deps := t.deps.erase id, bad := t.bad || failed } else t
  { pl with
    units := (pl.units.map (fun e => (e.1, one e.2))).filter (fun e => e.2 ≠ UnitSt.idle),
    tines := pl.tines.map (fun e => (e.1,
      if e.2.deps.contains id then { e.2 with deps := e.2.deps.erase id, bad := e.2.bad || failed } else e.2)),
    att := (if pl.att.deps.contains id then
      { pl.att with deps := pl.att.deps.erase id, bad := pl.att.bad || failed } else pl.att),
    live := pl.live.map tile,
    shadow := pl.shadow.map tile,
    waitLoad := pl.waitLoad.map (fun l => { l with tile := tile l.tile }),
    deps := (pl.deps.filter (fun x => x.id ≠ id)).map (fun x =>
      if x.deps.contains id then { x with deps := x.deps.erase id, bad := x.bad || failed } else x) }

/-- Decides, in order, every check whose own comparison has passed and that depends on no open check. -/
def settleChecks : Nat → Plot → Plot
  | 0, pl => pl
  | n + 1, pl =>
    match pl.deps.find? (fun x => x.own && x.deps.isEmpty) with
    | some x => settleChecks n (resolveCheck pl x.id x.bad)
    | none => pl

/-- The comparison of check `id` closes: a failure fails its units at once; a pass closes them when every check it
depends on has closed and passed (R115, R119). -/
def closeCheck (pl : Plot) (id : Nat) (pass : Bool) : Plot :=
  let pl :=
    if pass then { pl with deps := pl.deps.map (fun x => if x.id = id then { x with own := true } else x) }
    else resolveCheck pl id true
  settleChecks (pl.deps.length + 1) pl

/-- Whether any unit that the program wrote is not CLOSED (R150). -/
def unitsUnclosed (pl : Plot) : Bool :=
  pl.units.any (fun e => (e.2.wrote && e.2.failed) || !e.2.opens.isEmpty)

/-- Whether every unit of a list is CLOSED. -/
def unitsClosed (pl : Plot) (us : List Nat) : Bool := us.all (fun u => unitState pl u = 0)

/-- Whether any unit of a list is FAILED. -/
def unitsFailed (pl : Plot) (us : List Nat) : Bool := us.any (fun u => unitState pl u = 2)

/-- CLEAR_FAILED and REPLAY set every FAILED unit to CLOSED (R136, R165). -/
def clearFailedUnits (pl : Plot) : Plot :=
  { pl with units := (pl.units.map (fun e => (e.1, { e.2 with failed := false }))).filter (fun e => e.2 ≠ UnitSt.idle) }

/-! ## Region marks (R161) -/

/-- Units that carry region marks: all but the control area (R138). -/
def marked (u : Nat) : Bool := decide (128 ≤ u)

/-- Whether a write to `writes` after reads of `reads` meets an input of the region. -/
def regionConflict (pl : Plot) (reads writes : List Nat) : Bool :=
  writes.any (fun u => marked u && ((pl.unit u).read || (reads.contains u && !(pl.unit u).born)))

/-- A read of units that are not BORN sets READ. -/
def markRead (pl : Plot) (us : List Nat) : Plot :=
  us.foldl (fun pl u =>
    let s := pl.unit u
    if marked u && !s.born then pl.setUnit u { s with read := true } else pl) pl

/-- A write by the program; one that covers a whole unit sets BORN. -/
def markWrite (pl : Plot) (us : List Nat) (whole : Nat → Bool) : Plot :=
  us.foldl (fun pl u =>
    let s := pl.unit u
    pl.setUnit u { s with wrote := true, born := s.born || (marked u && whole u) }) pl

/-- A checkpoint clears every region mark (R161, R163). -/
def clearMarks (pl : Plot) : Plot :=
  { pl with units :=
      (pl.units.map (fun e => (e.1, { e.2 with read := false, born := false }))).filter (fun e => e.2 ≠ UnitSt.idle) }

end Sys2Proof.Machine
end

