-- ==== Sys2Proof/Machine/Operands.lean ====
section
/-! DEFINITION. The operands of plot instructions: index registers and local addresses (R133, R134), reads and writes
of scratch and accumulators, and elements in every format (R46 to R67). -/

namespace Sys2Proof.Machine

/-! ## Addresses -/

/-- Index register `n`; I0 reads 0 (R133). -/
def Plot.idx (pl : Plot) (n : Nat) : Nat := if n = 0 then 0 else pl.rg (fPLOT_SEQ_IDX_VALUE.at n)

/-- The plot with an index register written; a write to I0 has no effect (R133). -/
def Plot.setIdx (pl : Plot) (n v : Nat) : Plot := if n = 0 then pl else pl.rs (fPLOT_SEQ_IDX_VALUE.at n) v

/-- An operand address: I[n] + offset × unit modulo 2^32 (R133). -/
def Plot.opAddr (pl : Plot) (n off unit : Nat) : Nat := (pl.idx n + off * unit) % 2 ^ 32

/-- Whether a footprint lies wholly in scratch. -/
def inScratch (a n : Nat) : Bool := decide (a + n ≤ 0x100000)

/-- Whether a footprint lies wholly in the accumulator file (R134). -/
def inAcc (a n : Nat) : Bool := decide (0x100000 ≤ a) && decide (a + n ≤ 0x120000)

/-- Whether a footprint lies in one of the two local ranges (R134). -/
def inLocal (a n : Nat) : Bool := inScratch a n || inAcc a n

/-- The units a local footprint covers: lines, or segments from 4,096 on. -/
def unitsOf (a n : Nat) : List Nat :=
  if a < 0x100000 then linesOf a n
  else if n = 0 then []
  else (List.range ((a + n - 1 - 0x100000) / 128 - (a - 0x100000) / 128 + 1)).map
    (fun i => 4096 + (a - 0x100000) / 128 + i)

/-- Whether a local footprint covers the whole of a unit. -/
def coversUnit (a n u : Nat) : Bool :=
  if u < 4096 then decide (a ≤ u * 256) && decide (u * 256 + 256 ≤ a + n)
  else decide (a ≤ 0x100000 + (u - 4096) * 128) && decide (0x100000 + (u - 4096) * 128 + 128 ≤ a + n)

/-- Whether a footprint touches the control area (R138). -/
def inControl (a n : Nat) : Bool := decide (0 < n) && decide (a < 0x8000)

/-! ## Reads and writes by the plot's own engines -/

/-- The data bits of a scratch byte as its word decodes: a single-bit error is corrected (R139). -/
def scrByte (d : Dev) (p a : Nat) : Byte :=
  let e := SMap.get 0 (d.plot p).scrErr (a / 8)
  let b := memGet d.scr (scrBase p + a)
  if popCount 72 e ≤ 1 then b else b ^^^ BitVec.ofNat 8 (e / 2 ^ (8 * (a % 8)))

/-- A byte of the accumulator file as stored. -/
def accByte (pl : Plot) (o : Nat) : Byte := BitVec.ofNat 8 (accWord pl (o / 4) / 2 ^ (8 * (o % 4)))

/-- Bytes of a local range, without any check. -/
def localBytes (d : Dev) (p a n : Nat) : List Byte :=
  if a < 0x100000 then (List.range n).map (fun i => scrByte d p (a + i))
  else (List.range n).map (fun i => accByte (d.plot p) (a - 0x100000 + i))

/-- A read by the plot's own engine: an uncorrectable scratch word fails its line and stops the sequencer with 0x0C08
(R139); a parity error fails the segment and stops it with 0x0B02 (R110). -/
def plotRead (d : Dev) (p pc a n : Nat) : Dev × List Byte :=
  let bytes := localBytes d p a n
  if n = 0 then (d, []) else
  if a < 0x100000 then
    let words := (List.range ((a + n - 1) / 8 - a / 8 + 1)).map (· + a / 8)
    let bad := (words.filter (scrBad (d.plot p))).map (· / 32) |>.eraseDups
    (bad.foldl (fun d u => stopAt (d.modPlot p (fun pl => unitFail pl u)) p pc 0x0C08) d, bytes)
  else
    let o := a - 0x100000
    let words := (List.range ((o + n - 1) / 4 - o / 4 + 1)).map (· + o / 4)
    let bad := (words.filter (accBad (d.plot p))).map (fun w => 4096 + w / 32) |>.eraseDups
    (bad.foldl (fun d u =>
      stopAt (arrErr (d.modPlot p (fun pl => unitFail pl u)) p fPLOT_ARR_ERR_ACC_PARITY) p pc 0x0B02) d, bytes)

/-- A write by the plot's own engine. A narrow write over an uncorrectable scratch word is not merged and stops the
sequencer with 0x0C08 (R139). -/
def plotWrite (d : Dev) (p pc a : Nat) (bytes : List Byte) : Dev :=
  if bytes.isEmpty then d
  else if a < 0x100000 then
    let r := scrWrite d p a bytes
    if r.2 = 0 then r.1 else stopSeq r.1 p pc 0x0C08
  else
    let o := a - 0x100000
    let w0 := o / 4
    let wn := (o + bytes.length - 1) / 4 - w0 + 1
    let pl := d.plot p
    let old := (List.range (wn * 4)).map (fun i => accByte pl (w0 * 4 + i))
    let new := old.take (o - w0 * 4) ++ bytes ++ old.drop (o - w0 * 4 + bytes.length)
    d.setPlot p (accWrite pl w0 ((List.range wn).map (fun i => leValue ((new.drop (4 * i)).take 4))))

/-! ## Formats (R46 to R61) -/

/-- Element bits of a format (R46). -/
def fmtBits (f : Nat) : Nat :=
  match f with
  | 0 => 32 | 1 => 16 | 2 => 16 | 3 => 8 | 4 => 8 | 5 => 8 | 6 => 8 | 7 => 6 | 8 => 6 | 9 => 4
  | 10 => 8 | 11 => 8 | 12 => 4 | 13 => 4 | _ => 4

/-- The element layout of a floating-point format. -/
def fmtFp (f : Nat) : FpFormat :=
  match f with
  | 0 => fmtB32 | 1 => fmtB16 | 2 => fmtBf16 | 3 => fmtE4M3 | 4 => fmtE5M2 | 5 => fmtE4M3 | 6 => fmtE5M2
  | 7 => fmtE3M2 | 8 => fmtE2M3 | _ => fmtE2M1

/-- Whether a format is one of the six MX formats (R56). -/
def fmtMX (f : Nat) : Bool := decide (5 ≤ f) && decide (f ≤ 10)

/-- Element codes packed densely from bit 0 up (R55, R59, R66). -/
def unpackCodes (b n : Nat) (bytes : List Byte) : List Nat :=
  let v := leValue bytes
  (List.range n).map (fun i => v / 2 ^ (b * i) % 2 ^ b)

/-- Element codes packed into bytes, the last byte completed with zero. -/
def packCodes (b : Nat) (codes : List Nat) : List Byte :=
  leBytes ((codes.length * b + 7) / 8) (codes.foldr (fun c v => c % 2 ^ b + 2 ^ b * v) 0)

/-- The integer an integer element code stands for; MXINT8 codes as INT8 (R55, R61). -/
def intElem (f c : Nat) : Int := if f = 12 then signedOf 4 c else signedOf 8 c

/-- The exact value of an element code, without block scale (R50, R55, R61). -/
def elemVal (f c : Nat) : FVal :=
  if f = 10 then
    let z := signedOf 8 c
    .fin (decide (z < 0)) z.natAbs (-6)
  else if f = 11 ∨ f = 12 then fInt (intElem f c)
  else decodeFp (fmtFp f) c

/-- The value of an E8M0 scale byte (R57). -/
def scaleVal (x : Nat) : FVal := if x = 0xFF then .nan false else .fin false 1 ((x : Int) - 127)

/-- The flags an E8M0 scale byte sets when its block is decoded (R58). -/
def scaleFlags (x : Nat) : Nat := if x = 0xFF then flagMX_NAN else 0

/-- An exact value rounded once to binary32 with the choices of R72, as a value again. -/
def toB32 (r : Rnd) (sat : Bool) (v : FVal) : FVal × Nat :=
  let q := encodeFp fmtB32 r sat v
  (decodeFp fmtB32 q.1, q.2)

/-- The bytes of a source of `n` elements: elements, then at a 16-byte boundary the scales (R59, R66, R147). -/
def srcBytes (f n : Nat) : Nat :=
  let eb := if fmtMX f then (n + 31) / 32 * (4 * fmtBits f)
    else if f = 14 then (n + 15) / 16 * 8 else (n * fmtBits f + 7) / 8
  if fmtMX f then (eb + 15) / 16 * 16 + (n + 31) / 32
  else if f = 14 then (eb + 15) / 16 * 16 + (n + 15) / 16
  else eb

/-- The element value with its MX scale applied (R58). -/
def mxValue (f c x : Nat) : FVal :=
  if x = 0xFF then .nan false else (mulExact (elemVal f c) (scaleVal x)).1

/-- Whether an OK4 scale byte decodes its block to NaN (R67). -/
def ok4Bad (x : Nat) : Bool := decide (0xFD ≤ x)

/-- An OK4 element: v × 2^(x − 127), plus the mean for a key element (R67). -/
def ok4Value (c x : Nat) (mean : Option Nat) : FVal × Nat :=
  if ok4Bad x then (.nan false, flagOK4_SCALE)
  else
    let v := (mulExact (decodeFp fmtE2M1 c) (scaleVal x)).1
    match mean with
    | none => (v, 0)
    | some m => add32 v (decodeFp fmtBf16 m)

/-- Decodes a source of `n` elements to binary32 values (R70, R147): plain, MX or OK4 with its means. The flags are those
of the decoding. -/
def decodeElems (f n : Nat) (r : Rnd) (sat : Bool) (bytes : List Byte) (means : Option (List Nat)) :
    List FVal × Nat :=
  if fmtMX f then
    let nb := (n + 31) / 32
    let eb := nb * (4 * fmtBits f)
    let codes := unpackCodes (fmtBits f) n bytes
    let sc := (bytes.drop ((eb + 15) / 16 * 16)).map BitVec.toNat
    let vs := (List.range n).zip codes |>.map (fun e => toB32 r sat (mxValue f e.2 (sc.getD (e.1 / 32) 0)))
    (vs.map (·.1), vs.foldl (fun a v => a ||| v.2) ((sc.take nb).foldl (fun a x => a ||| scaleFlags x) 0))
  else if f = 14 then
    let nb := (n + 15) / 16
    let codes := unpackCodes 4 n bytes
    let sc := (bytes.drop ((nb * 8 + 15) / 16 * 16)).map BitVec.toNat
    let vs := (List.range n).zip codes |>.map (fun e =>
      ok4Value e.2 (sc.getD (e.1 / 16) 0) (means.map (fun m => m.getD e.1 0)))
    (vs.map (·.1), vs.foldl (fun a v => a ||| v.2) 0)
  else ((unpackCodes (fmtBits f) n bytes).map (elemVal f), 0)

/-- Rounds a value once to a destination element code (R71, R72): binary32, binary16, bfloat16, E4M3, E5M2, INT8, INT4. -/
def encodeElem (f : Nat) (r : Rnd) (sat : Bool) (v : FVal) : Nat × Nat :=
  if f = 11 then encodeInt 8 r v else if f = 12 then encodeInt 4 r v
  else encodeFp (fmtFp f) r sat v

/-! ## OQ4 (R62 to R65) -/

/-- Whether an OQ4 group header fails (R65). -/
def oq4HeaderBad (h : List Byte) : Bool :=
  let b (i : Nat) : Nat := (h.getD i 0).toNat
  let sc := leValue ((h.drop 16).take 2)
  decide (b 18 ≥ 64) || decide (b 18 % 64 > 32) || decide (b 19 > 128) ||
    (decodeFp fmtBf16 sc).nonfinite || (h.drop 20).any (fun x => x ≠ 0)

/-- The table value of an index of an OQ4 group at (k, n); 0 outside KLEN and NLEN (R64, R65). -/
def oq4Code (h : List Byte) (k n idx : Nat) : Nat :=
  if k < (h.getD 18 0).toNat % 64 ∧ n < (h.getD 19 0).toNat then (h.getD idx 0).toNat else 0

/-- The bfloat16 SCALE of an OQ4 group header (R63). -/
def oq4Scale (h : List Byte) : Nat := leValue ((h.drop 16).take 2)

/-! ## Instruction words -/

/-- The word the sequencer fetches at `pc`, and the number of bits in error (R129). -/
def fetchWord (pl : Plot) (pc : Nat) : Nat × Nat :=
  let e := SMap.get 0 pl.pmErr pc
  let w := SMap.get 0xFFFFFFFFFFFFFFFF pl.pm pc
  (if popCount 72 e ≤ 1 then w else w ^^^ (e % 2 ^ 64), popCount 72 e)

/-- The opcodes of R142. -/
def opcodeKnown (op : Nat) : Bool :=
  [0x00, 0x01, 0x02, 0x03, 0x04, 0x05, 0x06, 0x08, 0x0C, 0x0D, 0x10, 0x11, 0x12, 0x18, 0x1C, 0x20, 0x24].contains op

/-- The FUNC values of VOP (R142, the table of VOP operations). -/
def vopKnown (fn : Nat) : Bool :=
  [0x00, 0x01, 0x02, 0x03, 0x04, 0x05, 0x06, 0x07, 0x08, 0x09, 0x0A, 0x0B, 0x10, 0x11, 0x12, 0x13, 0x14, 0x18, 0x19,
    0x1A, 0x20, 0x21, 0x22, 0x28, 0x29, 0x2A, 0x2B, 0x2C, 0x2D, 0x2E].contains fn

/-- After the instruction at `pc`: the loop-back of every active body that ends there, or the next index (R131, R143). -/
def advanceLoops (pc : Nat) : List LoopSt → List LoopSt × Nat
  | [] => ([], (pc + 1) % 8192)
  | l :: t =>
    if l.last = pc then
      if 1 < l.left then ({ l with left := l.left - 1 } :: t, l.first) else advanceLoops pc t
    else (l :: t, (pc + 1) % 8192)

/-- The plot goes on after the instruction at `pc`. -/
def advance (pl : Plot) (pc : Nat) : Plot :=
  let r := advanceLoops pc pl.loops
  ({ pl with loops := r.1 }).rs fPLOT_SEQ_STATUS_PC r.2

/-- The result of an instruction at issue: it is held (a full queue, R130), it stops with a code (R135), after error bits
of its own are set if it has any, or it issues. -/
inductive Issued where
  | held
  | stop (code : Nat)
  | stopFrom (d : Dev) (code : Nat)
  | done (d : Dev)
deriving DecidableEq, Repr

/-- An issued instruction counts for the units of R482: every one for scratch and accumulators, LDS and MMUL for the array,
VOP for the vector unit, ATT for the pipeline. -/
def countIssue (pl : Plot) (op : Nat) : Plot :=
  let one (pl : Plot) (u : Nat) : Plot := pl.count (fPLOT_UNIT_ICNT_COUNT.at u) 1
  let pl := one pl 3
  if op = 0x10 ∨ op = 0x11 then one pl 0 else if op = 0x18 then one pl 1 else if op = 0x1C then one pl 2 else pl

/-- Issues the next instruction of plot `p` if it is one of the row's (R129, R130, R142): `mine` says so of a word whose
opcode is legal, `run` gives its effect from the plot, its index and its word. `hold` leaves the program counter where it
is (FENCE, WAIT, HALT, JMP set it themselves). -/
def issueWord (d : Dev) (p : Nat) (mine : Nat → Bool) (hold : Bool) (run : Dev → Nat → Nat → Issued) : Dev :=
  let pl := d.plot p
  if !isPlot p || pl.seq ≠ seqRUNNING || pl.wait ≠ .none then d
  else
    let pc := pl.rg fPLOT_SEQ_STATUS_PC
    let w := fetchWord pl pc
    if 2 ≤ w.2 then stopAt d p pc 0x0C03
    else
      let op := w.1 / 2 ^ 58
      if !opcodeKnown op || (op = 0x18 && !vopKnown (bitsOf w.1 52 6)) || (op = 0x1C && 5 ≤ bitsOf w.1 55 3)
          || (op = 0x08 && 5 ≤ bitsOf w.1 55 3) then stopAt d p pc 0x0C01
      else if !mine w.1 then d
      else
        let d := if w.2 = 1 then d.modPlot p (fun pl => pl.count fPLOT_SEQ_STATUS_PM_CORR 1) else d
        match run d pc w.1 with
        | .held => d
        | .stop code => stopAt d p pc code
        | .stopFrom d code => stopAt d p pc code
        | .done d =>
          let d := d.modPlot p (fun pl => countIssue pl (w.1 / 2 ^ 58))
          if hold then d else d.modPlot p (fun pl => advance pl pc)

/-- Whether a word has opcode `op`. -/
def isOp (op w : Nat) : Bool := decide (w / 2 ^ 58 = op)

/-- Whether the licence in force enables a format (R48). -/
def fmtLicensed (d : Dev) (f : Nat) : Bool :=
  if f = 13 then (d.licence.map (·.oq4)).getD false
  else if f = 14 then (d.licence.map (·.ok4)).getD false else true

end Sys2Proof.Machine
end

