-- ==== Sys2Proof/Machine/AttOps.lean ====
section
/-! DEFINITION. What tines and the attention pipeline share (chapter 6): page headers, visibility, page partials, merges,
their checks, and partial records. -/

namespace Sys2Proof.Machine

/-! ## The attention result (R224) -/

/-- A sum of products in ascending order, each product and each addition rounded (R224): value and flags. -/
def dot32 (xs ys : List FVal) : FVal × Nat :=
  (xs.zip ys).foldl (fun (a : FVal × Nat) e =>
    let m := mul32 e.1 e.2
    let s := add32 a.1 m.1
    (s.1, a.2 ||| m.2 ||| s.2)) (fZero, 0)

/-- A binary32 sum in ascending order from +0. -/
def sum32 (xs : List FVal) : FVal := xs.foldl (fun a x => (add32 a x).1) fZero

/-- Rounds toward +infinity, for the tolerances (R246). -/
def up32 (v : FVal) : FVal := (round32With .up (v, 0)).1

/-- A sum in ascending order, rounded toward +infinity. -/
def sumUp (xs : List FVal) : FVal := xs.foldl (fun a x => up32 (addExact a x).1) fZero

/-- A sum of products rounded toward +infinity. -/
def dotUp (xs ys : List FVal) : FVal := sumUp ((xs.zip ys).map (fun e => up32 (mulExact e.1 e.2).1))

/-- A sum by the pairwise tree (R246). -/
def treeSum : Nat → List FVal → FVal
  | 0, l => l.headD fZero
  | n + 1, l => treeSum n (pairs l)
where
  /-- One level of the tree. -/
  pairs : List FVal → List FVal
    | a :: b :: t => (add32 a b).1 :: pairs t
    | l => l

/-- One page partial of one row: its state, the flags, the code of the check that fails (0 for none), and whether a check
compared only finiteness (R224, R246). -/
structure PartialRes where
  st : AttState
  flags : Nat
  code : Nat
  nonfinite : Bool
deriving DecidableEq, Repr

/-- Whether |a − b| ≤ tol, or only finiteness is compared when a term is not finite (R114, R246). -/
def closeTo (a b tol : FVal) : Bool × Bool :=
  if a.nonfinite || b.nonfinite || tol.nonfinite then (decide (a.nonfinite = b.nonfinite), true)
  else (!ltExact tol (up32 (addExact a b.neg).1.abs), false)

/-- Entry `c` of every list. -/
def column (c : Nat) (xs : List (List FVal)) : List FVal := xs.map (fun x => x.getD c fZero)

/-- The page partial of a query row over its visible tokens, keys and values decoded, ascending (R224). -/
def pagePartial (q : List FVal) (ks vs : List (List FVal)) : PartialRes :=
  if ks.isEmpty then ⟨AttState.empty, 0, 0, false⟩
  else
    let sc := ks.map (dot32 q)
    let s := sc.map (·.1)
    let mx := s.foldl (fun (a : FVal × Nat) x => let r := maxExact a.1 x; (r.1, a.2 ||| r.2)) (.inf true, 0)
    let w := s.map (fun x =>
      let dlt := add32 x mx.1.neg
      let e := exp32 dlt.1
      (e.1, dlt.2 ||| e.2))
    let ws := w.map (·.1)
    let l := ws.foldl (fun a x => (add32 a x).1) fZero
    let chans := List.range 128
    let o := chans.map (fun c => dot32 ws (column c vs))
    let flags := (sc ++ w ++ o).foldl (fun f e => f ||| e.2) mx.2
    let n := ks.length
    -- score check
    let kb := chans.map (fun c => sum32 (column c ks))
    let ka := chans.map (fun c => sumUp ((column c ks).map FVal.abs))
    let c1 := closeTo (sum32 s) (dot32 q kb).1
      (up32 (addExact (up32 (mulExact (.fin false 194 (-22)) (dotUp (q.map FVal.abs) ka)).1) (.fin false 64 (-140))).1)
    -- weight sum
    let l' := treeSum 6 ws
    let lim := (mulExact (fInt n) (.fin false (2 ^ 20 + 1) (-20))).1
    let c2 := closeTo l l' (up32 (mulExact (.fin false 64 (-22)) l').1)
    let c2ok := if c2.2 then c2.1 else c2.1 && !ltExact l fOne && !ltExact lim l
    -- value check
    let vb := vs.map sum32
    let va := vs.map (fun v => sumUp (v.map FVal.abs))
    let c3 := closeTo (sum32 (o.map (·.1))) (dot32 ws vb).1
      (up32 (addExact (up32 (mulExact (.fin false 194 (-22)) (dotUp ws va)).1) (.fin false 128 (-140))).1)
    ⟨⟨code32 mx.1, code32 l, o.map (fun e => code32 e.1)⟩, flags,
      if !c1.1 then 0x0E08 else if !c2ok then 0x0E09 else if !c3.1 then 0x0E0A else 0,
      c1.2 || c2.2 || c3.2⟩

/-- Whether a state is empty (R224). -/
def AttState.isEmpty (s : AttState) : Bool := s.m = 0xFF800000 && s.l = 0

/-- merge of R224: the state and the flags. -/
def attMerge (a b : AttState) : AttState × Nat :=
  if a.isEmpty then (b, 0)
  else if b.isEmpty then (a, 0)
  else
    let am := val32 a.m
    let bm := val32 b.m
    let mm := maxExact am bm
    let fa := exp32 (add32 am mm.1.neg).1
    let fb := exp32 (add32 bm mm.1.neg).1
    let comb (x y : Nat) : FVal × Nat :=
      let p := mul32 (val32 x) fa.1
      let q := mul32 (val32 y) fb.1
      let s := add32 p.1 q.1
      (s.1, p.2 ||| q.2 ||| s.2)
    let l := comb a.l b.l
    let o := (a.o.zip b.o).map (fun e => comb e.1 e.2)
    (⟨code32 mm.1, code32 l.1, o.map (fun e => code32 e.1)⟩,
      o.foldl (fun f e => f ||| e.2) (mm.2 ||| fa.2 ||| fb.2 ||| l.2))

/-- The output row of a state: o[c] × reciprocal(l), all +0 for an empty state (R224). -/
def attFinal (s : AttState) : List (FVal × Nat) :=
  if s.isEmpty then List.replicate 128 (fZero, 0)
  else
    let r := recip32 (val32 s.l)
    s.o.map (fun o => let p := mul32 (val32 o) r.1; (p.1, p.2 ||| r.2))

/-! ## Visibility (R228) -/

/-- Whether a row sees the token at position `t`: mask mode, committed length, the row's ancestors mask and position. -/
def visible (mask base : Nat) (anc : Nat) (pos t : Nat) : Bool :=
  if mask = 0 then decide (t < base)
  else if mask = 1 then decide (t < base) || (decide (base ≤ t) && decide (t < base + 16) && bitOf anc (t - base))
  else decide (t ≤ pos)

/-- Row `r`'s view of position `t` from ROWINFO and ANC (R228, R231). -/
def rowSees (mask base : Nat) (anc info : List Nat) (r t : Nat) : Bool :=
  let i := info.getD r 0
  visible mask base (anc.getD (i % 16) 0) (i % 2 ^ 20) t

/-! ## Page headers (R215, R216) -/

/-- Whether a page header fails for a reader that expects SLOT, LAYER, KVHEAD and PAGE (R216). -/
def headerBad (h : List Byte) (slot layer kvhead page : Nat) : Bool :=
  let b (i : Nat) : Nat := (h.getD i 0).toNat
  b 256 ≠ slot || b 257 ≠ layer || b 258 ≠ kvhead || b 260 + 256 * b 261 ≠ page || 4 ≤ b 259 || b 263 ≠ 0 ||
    ((h.drop 268).take 20).any (fun x => x ≠ 0) || 64 < b 262 || (bitOf (b 259) 1 && b 262 < 64)

/-- The key means of a page header, as bfloat16 codes. -/
def headerMeans (h : List Byte) : List Nat := unpackCodes 16 128 (h.take 256)

/-- One token's key or value of an OK4 page: 64 element bytes and 8 scale bytes (R66, R67): values and flags. -/
def ok4Token (els scales : List Byte) (means : Option (List Nat)) : List FVal × Nat :=
  let codes := unpackCodes 4 128 els
  let r := (List.range 128).map (fun c =>
    ok4Value (codes.getD c 0) ((scales.getD (c / 16) 0).toNat) (means.map (fun m => m.getD c 0)))
  (r.map (·.1), r.foldl (fun f e => f ||| e.2) 0)

/-- A decoded page: header, keys and values by token, and the flags of each token. -/
structure Page where
  hdr : List Byte
  keys : List (List FVal)
  vals : List (List FVal)
  flags : List Nat
deriving DecidableEq, Repr

/-- `n` tokens from their areas: key elements, key scales, value elements and value scales, each in token order. -/
def ok4Page (hdr : List Byte) (n : Nat) (ke ks ve vs : List Byte) : Page :=
  let means := headerMeans hdr
  let sl (b : List Byte) (t k : Nat) : List Byte := (b.drop (t * k)).take k
  let r := (List.range n).map (fun t => (ok4Token (sl ke t 64) (sl ks t 8) (some means), ok4Token (sl ve t 64) (sl vs t 8) none))
  ⟨hdr, r.map (·.1.1), r.map (·.2.1), r.map (fun e => e.1.2 ||| e.2.2)⟩

/-- The page of an OK4 page record (R214). -/
def recordPage (b : List Byte) (n : Nat) : Page :=
  ok4Page (b.take 288) n (b.drop 288) (b.drop 4384) (b.drop 4896) (b.drop 8992)

/-- The page of a bfloat16 page record (R214). -/
def recordPageBf16 (b : List Byte) (n : Nat) : Page :=
  let row (o t : Nat) : List FVal := (unpackCodes 16 128 ((b.drop (o + 256 * t)).take 256)).map (decodeFp fmtBf16)
  ⟨b.take 288, (List.range n).map (row 288), (List.range n).map (row 16672), List.replicate n 0⟩

/-- The page partials of one page for query rows, tokens `0 … n-1` at positions PAGE × 64 + t. -/
def pageRows (pg : Page) (page n : Nat) (q : List (List FVal)) (sees : Nat → Nat → Bool) : List PartialRes :=
  (List.range q.length).map (fun r =>
    let ts := (List.range n).filter (fun t => sees r (page * 64 + t))
    let p := pagePartial (q.getD r []) (ts.map (fun t => pg.keys.getD t [])) (ts.map (fun t => pg.vals.getD t []))
    { p with flags := ts.foldl (fun f t => f ||| pg.flags.getD t 0) p.flags })

/-! ## Partial records (R240) -/

/-- The bytes of a row record. -/
def rowRecord (s : AttState) : List Byte := leBytes 4 s.m ++ leBytes 4 s.l ++ zeros 8 ++ s.o.flatMap (leBytes 4)

/-- The header of a partial record. -/
def partialHeader (tag page q kind : Nat) : List Byte :=
  leBytes 4 tag ++ leBytes 2 page ++ leBytes 1 q ++ leBytes 1 kind ++ zeros 56

/-- The state of a row record's bytes. -/
def parseRowRecord (b : List Byte) : AttState :=
  ⟨leValue (b.take 4), leValue ((b.drop 4).take 4), unpackCodes 32 128 ((b.drop 16).take 512)⟩

/-- A code of the attention class is captured in PLOT_ATT_ERR and raises the plot's interrupt (R248, R513). -/
def attErr (d : Dev) (p code page row : Nat) : Dev :=
  let pl := d.plot p
  if code / 256 ≠ 0x0E ∨ pl.rg fPLOT_ATT_ERR_VALID = 1 then d
  else plotIrq (d.setPlot p
    ((((pl.rs fPLOT_ATT_ERR_VALID 1).rs fPLOT_ATT_ERR_CODE code).rs fPLOT_ATT_ERR_PAGE page).rs fPLOT_ATT_ERR_ROW row)) p 10

/-- Row offset of a bed location of a plot (R33). -/
def bedLoc (ch bank row byte : Nat) : Nat := ch * 2 ^ 24 + bank * 2 ^ 21 + row * 2 ^ 11 + byte

/-- The bytes of `n` tokens of a bed frame, from both banks of a pair as needed (R217): the device, the pages' areas as
(header of each bank read, key elements, key scales, value elements, value scales), and the code of a failed read. -/
def frameRead (d : Dev) (p ch pair f n : Nat) :
    Dev × List (List Byte) × (List Byte × List Byte × List Byte × List Byte) × Nat :=
  let one (s : Dev × List (List Byte) × (List Byte × List Byte × List Byte × List Byte) × Nat) (b : Nat) :=
    let k := min 32 (n - 32 * b)
    let bank := 2 * pair + b
    let side := bedLoc ch bank (816 + f / 2) (f % 2 * 1024)
    let h := bedRead s.1 p side 288 false
    let ks := bedRead h.1 p (side + 288) (8 * k) false
    let vs := bedRead ks.1 p (side + 544) (8 * k) false
    let ke := bedRead vs.1 p (bedLoc ch bank (2 * f) 0) (64 * k) false
    let ve := bedRead ke.1 p (bedLoc ch bank (2 * f + 1) 0) (64 * k) false
    let a := s.2.2.1
    (ve.1, s.2.1 ++ [h.2.1],
      (a.1 ++ ke.2.1, a.2.1 ++ ks.2.1, a.2.2.1 ++ ve.2.1, a.2.2.2 ++ vs.2.1),
      [s.2.2.2, h.2.2, ks.2.2, vs.2.2, ke.2.2, ve.2.2].foldl max 0)
  let banks := if n = 0 then [] else if n ≤ 32 then [0] else [0, 1]
  banks.foldl one (d, [], ([], [], [], []), 0)

/-- The state of the lines of a partial record: 2 a line is FAILED, 1 a line is OPEN, 0 all are CLOSED. -/
def recordState (pl : Plot) (a prow q : Nat) : Nat :=
  let us := unitsOf a 64 ++ (if q = 0 then [] else unitsOf (a + 64 + prow * 528) (q * 528))
  if unitsFailed pl us then 2 else if unitsClosed pl us then 0 else 1

end Sys2Proof.Machine
end

