-- ==== Sys2Proof/Machine/Lift.lean ====
section
/-! DEFINITION. How a meaning over the device becomes a meaning over the state: the queue stays as it is, a core held in
reset takes no command, and only the meanings that say so touch the fuses. -/

namespace Sys2Proof.Machine

/-- A command that changes the device and nothing else; while the core is held in reset it has no effect (R427, log entry
4). -/
def onDev (s : State) (f : Dev → Dev) : Host.Outcome State Fault Refusal :=
  .next { s with dev := if s.dev.rst.held then s.dev else f s.dev }

/-- A command that reaches the always-on domain or what lies outside the core, whether or not the core is held in reset
(R427, R450). -/
def onAon (s : State) (f : Dev → Dev) : Host.Outcome State Fault Refusal := .next { s with dev := f s.dev }

/-- A command that changes the device as the fuses allow. -/
def onDevFused (s : State) (f : Fuses → Dev → Dev) : Host.Outcome State Fault Refusal :=
  .next { s with dev := if s.dev.rst.held then s.dev else f s.fused s.dev }

/-- A command that programs a fuse. -/
def onFuses (s : State) (f : Fuses → Dev → Fuses × Dev) : Host.Outcome State Fault Refusal :=
  let r := if s.dev.rst.held then (s.fused, s.dev) else f s.fused s.dev
  .next { s with fused := r.1, dev := r.2 }

end Sys2Proof.Machine
end

