-- ==== Sys2Proof/Machine/Links.lean ====
section
/-! DEFINITION. The link layer of the companion link and of the scale-out ports (R338 to R345, R377): flits, sequence
numbers, replay and credits. -/

namespace Sys2Proof.Machine

/-! ## Codes -/

/-- A code of the companion link: recorded under KIND 6 and seen in CPL_ERR (R373, R561). -/
def cplErr (d : Dev) (code : Nat) : Dev :=
  recordErr (d.rs fCPL_ERR_CODE_SEEN (withBit (d.rg fCPL_ERR_CODE_SEEN) (code - 0x0701))) 6 0 code

/-- A code of scale-out port `q`, with its bit of SOP_PORT_ERR (R400). -/
def sopErr (d : Dev) (q : Nat) (f : Fld) (code : Nat) : Dev := recordErr (d.rs (f.at q) 1) 7 q code

/-! ## CRC and flits -/

/-- One byte into the reflected CRC-32 of IEEE 802.3 (R339). -/
def crc32Byte (c b : Nat) : Nat :=
  (List.range 8).foldl (fun c _ => if c % 2 = 1 then c / 2 ^^^ 0xEDB88320 else c / 2) (c ^^^ b)

/-- The CRC-32 of bytes (R339). -/
def crc32 (bytes : List Byte) : Nat := bytes.foldl (fun c b => crc32Byte c b.toNat) 0xFFFFFFFF ^^^ 0xFFFFFFFF

/-- Bytes completed with zeros to `n`. -/
def padTo (n : Nat) (bytes : List Byte) : List Byte := bytes ++ zeros (n - bytes.length)

/-- A flit (R338): type, sequence number, acknowledgement if any, credits and units. -/
def mkFlit (ftype seq : Nat) (ack : Option Nat) (crd : List Nat) (units : List Byte) : List Byte :=
  let body := leBytes 1 ftype ++ zeros 1 ++ leBytes 2 (seq % 4096) ++
    leBytes 2 (match ack with | some a => 0x8000 + a % 4096 | none => 0) ++
    leBytes 6 (crd.foldr (fun c v => c % 4096 + 4096 * v) 0) ++ padTo 240 units
  body ++ leBytes 4 (crc32 body)

/-- A flit's fields: type, sequence number, whether ACK holds a value, ACK, the four credit fields, the units. -/
structure Flit where
  ftype : Nat
  seq : Nat
  ackValid : Bool
  ack : Nat
  crd : List Nat
  units : List Byte
deriving DecidableEq, Repr

/-- A flit from its bytes. -/
def parseFlit (b : List Byte) : Flit :=
  let v (i n : Nat) : Nat := leValue ((b.drop i).take n)
  ⟨v 0 1 % 4, v 2 2 % 4096, bitOf (v 4 2) 15, v 4 2 % 4096, (List.range 4).map (fun c => bitsOf (v 6 6) (12 * c) 12),
    (b.drop 12).take 240⟩

/-- Whether a received flit is good: 256 bytes with a matching CRC, none of them in an uncorrectable codeword (R339). -/
def flitGood (b : List Byte) (uncorr : Bool) : Bool :=
  b.length = 256 && !uncorr && leValue (b.drop 252) = crc32 (b.take 252)

/-! ## State of a link -/

/-- Link layer `k`: 0 the companion's, 1 + q of scale-out port q. -/
def Dev.link (d : Dev) (k : Nat) : Link := SMap.get Link.reset d.links k

/-- The device with a link layer replaced. -/
def Dev.setLink (d : Dev) (k : Nat) (l : Link) : Dev := { d with links := SMap.set Link.reset d.links k l }

/-- The device with a link layer changed. -/
def Dev.modLink (d : Dev) (k : Nat) (f : Link → Link) : Dev := d.setLink k (f (d.link k))

/-- The receive grants of the device (R340, R377). -/
def deviceGrants (k : Nat) : List Nat := if k = 0 then [1024, 256, 512, 2048] else [2048, 2048, 256, 256]

/-- The acknowledgement a link can carry: the last flit accepted in order (R341). -/
def Link.ack (l : Link) : Option Nat := if l.accepted then some ((l.rxSeq + 4095) % 4096) else none

/-- Flits that carry a message's bytes: 240 unit bytes each, completed with PAD units (R344). -/
def flitChunks : Nat → List Byte → List (List Byte)
  | 0, _ => []
  | n + 1, b => if b.isEmpty then [] else b.take 240 :: flitChunks n (b.drop 240)

/-- The bank of a link layer: the companion link's, or a port's (R554). -/
def linkEvent (d : Dev) (k ev : Nat) : Dev := blockEvent d (if k = 0 then 4 else 2) (k - 1) ev 1 none none

/-- A flit is sent (R557). -/
def flitOut (d : Dev) (k : Nat) (f : List Byte) : Dev := linkEvent (d.emit (.flit k f)) k 0x113

/-- A flit is received good (R557). -/
def flitIn (d : Dev) (k : Nat) : Dev := linkEvent d k 0x114

/-- Sends one PROTOCOL flit, which is kept; it acknowledges and returns what is owed (R341, R344). -/
def linkFlit (d : Dev) (k : Nat) (units head : List Byte) : Dev :=
  let l := d.link k
  let crd := l.owed.map (min 4095)
  let f := mkFlit 1 l.txSeq l.ack crd units
  let l := { l with
    kept := l.kept ++ [⟨l.txSeq, f, head⟩], txSeq := (l.txSeq + 1) % 4096, unacked := 0,
    owed := (l.owed.zip crd).map (fun e => e.1 - e.2) }
  flitOut (d.setLink k l) k f

/-- Units of a message. -/
def msgUnits (m : List Byte) : Nat := (m.length + 15) / 16

/-- Sends what the credits and the limit of 1,024 unacknowledged flits allow; each class keeps its order, and a class
that lacks credits does not hold back another (R341, R344). -/
def linkPump (d : Dev) (k : Nat) : Dev :=
  let l := d.link k
  if !l.up || l.lost || l.held then d
  else
    let go (s : Dev × List Nat × List (Nat × List Byte)) (m : Nat × List Byte) :
        Dev × List Nat × List (Nat × List Byte) :=
      let l := s.1.link k
      let n := msgUnits m.2
      if s.2.1.contains m.1 || l.credits.getD m.1 0 < n || 1024 < l.kept.length + (n + 14) / 15 then
        (s.1, m.1 :: s.2.1, s.2.2 ++ [m])
      else
        let d := s.1.setLink k { l with credits := l.credits.set m.1 (l.credits.getD m.1 0 - n) }
        let cs := flitChunks m.2.length m.2
        let d := ((List.range cs.length).zip cs).foldl (fun d e => linkFlit d k e.2 (if e.1 = 0 then m.2.take 32 else [])) d
        (d, s.2.1, s.2.2)
    let r := l.waiting.foldl go (d.setLink k { l with waiting := [] }, [], [])
    r.1.modLink k (fun l => { l with waiting := r.2.2 ++ l.waiting })

/-- Queues a message of class `cls` on a link and sends what can be sent; a lost link sends nothing (R343, R344). -/
def linkSend (d : Dev) (k cls : Nat) (m : List Byte) : Dev :=
  if (d.link k).lost then d
  else linkPump (d.modLink k (fun l => { l with waiting := l.waiting ++ [(cls, m)] })) k

/-- Units of a received message are freed: they are owed to the sender (R344). -/
def linkFree (d : Dev) (k cls n : Nat) : Dev :=
  d.modLink k (fun l => { l with owed := l.owed.set cls (l.owed.getD cls 0 + n) })

/-- The replay limit of a link (R343, R377). -/
def retryLimit (d : Dev) (k : Nat) : Nat :=
  if k = 0 then d.rg fCPL_CFG_RETRY_LIMIT else d.rg (fSOP_PORT_CFG_RETRY_LIMIT.at (k - 1))

/-- A RETRY_REQ for the expected flit; at the limit the link is lost and sends no more (R342, R343). The Boolean: the
link is lost now. -/
def linkRetry (d : Dev) (k : Nat) : Dev × Bool :=
  let d := if k = 0 then d.count fCPL_LINK_CNT_RETRY_SENT 1 else d.count (fSOP_PORT_CNT_RETRY_SENT.at (k - 1)) 1
  let l := d.link k
  let n := l.retries + 1
  let d := flitOut (d.setLink k { l with retries := n, unacked := 0 }) k (mkFlit 2 l.rxSeq l.ack [0, 0, 0, 0] [])
  let d := linkEvent d k 0x210
  if retryLimit d k ≤ n then
    let d := d.modLink k (fun l => { l with lost := true })
    (if k = 0 then cplErr d 0x0707 else sopErr d (k - 1) fSOP_PORT_ERR_RETRY_EXHAUSTED 0x0802, true)
  else (d, false)

/-- A flit that is not good is counted. -/
def linkBad (d : Dev) (k : Nat) : Dev :=
  if k = 0 then d.count fCPL_LINK_CNT_BAD_FLITS 1 else d.count (fSOP_PORT_CNT_BAD_FLITS.at (k - 1)) 1

/-- An acknowledgement releases the kept flits up to it (R341). -/
def linkAcked (l : Link) (f : Flit) : Link :=
  if f.ackValid && l.kept.any (fun x => x.seq = f.ack) then
    { l with kept := (l.kept.dropWhile (fun x => x.seq ≠ f.ack)).drop 1 }
  else l

/-- A flit that cannot be accepted begins or continues discarding; the first asks for a replay (R342). -/
def linkDiscard (d : Dev) (k : Nat) : Dev × Bool :=
  if (d.link k).discarding then (d, false)
  else linkRetry (d.modLink k (fun l => { l with discarding := true })) k

/-- Credits returned: never beyond the grant, with the link's code when they would be (R344). -/
def linkCredits (d : Dev) (k : Nat) (crd : List Nat) : Dev :=
  let l := d.link k
  let sum := (l.credits.zip crd).map (fun e => e.1 + e.2)
  let above := (sum.zip l.grant).any (fun e => decide (e.2 < e.1))
  let d := d.setLink k { l with credits := (sum.zip l.grant).map (fun e => min e.1 e.2) }
  if !above then d
  else if k = 0 then cplErr d 0x0709
  else sopErr d (k - 1) fSOP_PORT_ERR_CREDIT_OVERFLOW 0x0809

/-! ## Message format in the unit stream (R344, R346, R347, R377, R379) -/

/-- Class and units of a message from its peer, from its opcode and LEN; none for an opcode the peer may not send. -/
def msgShape (k : Nat) (m : List Byte) : Option (Nat × Nat) :=
  let v (i n : Nat) : Nat := leValue ((m.drop i).take n)
  let op := v 0 1
  if k = 0 then
    if op = 0x40 ∨ op = 0x41 ∨ op = 0x45 then some (3, 5)
    else if op = 0x42 ∨ op = 0x43 ∨ op = 0x44 then some (2, 1)
    else if op = 0x50 ∨ op = 0x51 then some (1, 1)
    else if op = 0x60 then some (0, 1)
    else if op = 0x61 then some (0, 1 + (v 4 2 + 15) / 16)
    else none
  else
    if op = 0x01 ∨ op = 0x03 then some (0, 2 + (v 10 2 + 15) / 16)
    else if op = 0x02 then some (0, 2)
    else if op = 0x11 then some (1, 1 + (v 12 2 + 15) / 16)
    else if op = 0x10 ∨ op = 0x12 ∨ op = 0x13 then some (1, 1)
    else if op = 0x20 then some (2, 1)
    else if op = 0x30 ∨ op = 0x31 then some (3, 1 + (v 10 2 + 15) / 16)
    else none

/-- Whether a reserved bit of a message header is set (R346, R380, R381). -/
def msgReserved (k : Nat) (m : List Byte) : Bool :=
  let v (i n : Nat) : Nat := leValue ((m.drop i).take n)
  let op := v 0 1
  let r := 32 ≤ v 1 1
  if k = 0 then
    r || 4096 ≤ v 2 2 || (v 6 1 ≠ 0) || v 7 1 ≠ 0 || v 14 2 ≠ 0 || (op < 0x60 && v 4 2 ≠ 0) || (op = 0x44 && v 10 6 ≠ 0)
  else if op ≤ 0x03 then
    r || 16 ≤ v 7 1 || (op ≠ 0x03 && v 7 1 ≠ 0) || 0x4000 ≤ v 8 2 || 512 ≤ v 10 2 || 2 ^ 18 ≤ v 12 4 || 1024 ≤ v 22 2 ||
      v 24 8 ≠ 0
  else if op < 0x20 then
    r || 64 ≤ v 6 1 || v 7 1 ≠ 0 || (op ≠ 0x12 && v 10 2 ≠ 0) || (op ≠ 0x11 && v 12 2 ≠ 0) || v 14 2 ≠ 0
  else if op = 0x20 then r || 64 ≤ v 6 1 || 0x4000 ≤ v 8 2 || 1024 ≤ v 10 2 || v 12 2 ≠ 0
  else r || 64 ≤ v 6 1 || v 7 1 ≠ 0 || v 12 4 ≠ 0

/-- A header unit of the companion link (R346). -/
def cplHeader (opc units tag len final addr : Nat) : List Byte :=
  leBytes 1 opc ++ leBytes 1 units ++ leBytes 2 (tag % 4096) ++ leBytes 2 len ++ leBytes 1 final ++ zeros 1 ++ leBytes 8 addr

/-! ## Routing of scale-out messages (R385 to R388) -/

/-- The routing entry for a destination (R385). -/
def routeEntry (d : Dev) (dst : Nat) : Nat :=
  SMap.get 0 d.routes (if dst / 64 = d.rg fSOP_DEV_DEV_ID / 64 then 1024 + dst % 64 else dst / 64)

/-- The port of a message by its key (R386); none when no slot is usable. -/
def sopRoute (d : Dev) (key dst : Nat) : Option Nat :=
  let e := routeEntry d dst
  let s0 := (key + dst) % 4
  ((List.range 4).find? (fun i =>
    let s := (s0 + i) % 4
    bitOf e (16 + s) && decide (d.rg (fSOP_PORT_STATUS_STATE.at (bitsOf e (4 * s) 4)) = 3))).map
    (fun i => bitsOf e (4 * ((s0 + i) % 4)) 4)

/-- Sends a message by its route; without one it is counted in NO_ROUTE and does not leave (R387). -/
def sopSend (d : Dev) (key dst cls : Nat) (m : List Byte) : Dev × Option Nat :=
  match sopRoute d key dst with
  | some q => (linkSend d (1 + q) cls m, some q)
  | none => (d.count fSOP_DEV_CNT_NO_ROUTE 1, none)

/-- The header unit of a response (R381). -/
def sopResponse (d : Dev) (opc units dst tag status len : Nat) : List Byte :=
  leBytes 1 opc ++ leBytes 1 units ++ leBytes 2 dst ++ leBytes 2 (d.rg fSOP_DEV_DEV_ID) ++
    leBytes 1 (d.rg fSOP_DEV_HOP_LIMIT) ++ zeros 1 ++ leBytes 2 tag ++ leBytes 2 status ++ leBytes 2 len ++ zeros 2

/-- Sends a response; without a route it is dropped (R386, R387). -/
def sopRespond (d : Dev) (opc dst tag status : Nat) (data : List Byte) : Dev :=
  let m := sopResponse d opc (1 + msgUnits data) dst tag status data.length ++ padTo (16 * msgUnits data) data
  match sopSend d tag dst 1 m with
  | (d, some _) => d
  | (d, none) => d.count fSOP_DEV_CNT_DROPPED 1

/-- A malformed message is discarded with its code; an NC_RD or a scale-out request is answered (R347, R377). -/
def msgMalformed (d : Dev) (k : Nat) (m : List Byte) : Dev :=
  let v (i n : Nat) : Nat := leValue ((m.drop i).take n)
  if k = 0 then
    let d := cplErr d 0x0704
    if v 0 1 = 0x60 then linkSend d 0 2 (cplHeader 0x21 1 (v 2 2) 0 0 0x0704) else d
  else
    let d := sopErr d (k - 1) fSOP_PORT_ERR_FORMAT 0x0808
    if v 0 1 ≤ 0x03 then sopRespond d 0x12 (v 4 2) (v 8 2) 0x0808 []
    else d

/-- Takes the messages of the unit stream apart: a PAD unit is skipped, a malformed message discarded, its units freed; a
well-formed message goes on to the protocol layer, whose commands stand for it (R344, R347; log entry 31). -/
def scanUnits : Nat → Dev → Nat → List Byte → Dev
  | 0, d, k, b => d.modLink k (fun l => { l with partialMsg := b })
  | n + 1, d, k, b =>
    match b with
    | [] => d.modLink k (fun l => { l with partialMsg := [] })
    | h :: _ =>
      if h = 0 then scanUnits n d k (b.drop 16)
      else
        let units := (b.getD 1 0).toNat % 32
        let len := 16 * max units 1
        if b.length < len then d.modLink k (fun l => { l with partialMsg := b })
        else
          let m := b.take len
          let d := match msgShape k m with
            | none => msgMalformed d k m
            | some s => if s.2 ≠ units || msgReserved k m then msgMalformed (linkFree d k s.1 units) k m else d
          scanUnits n d k (b.drop len)

/-! ## Flits received -/

/-- INIT (R340, R377): a good one before PROTOCOL flits begin sets grants and the first number expected; the device sends
INIT again and may then send PROTOCOL flits. -/
def linkInit (d : Dev) (k : Nat) (b : List Byte) (uncorr : Bool) : Dev :=
  let l := d.link k
  let f := parseFlit b
  if l.lost || l.up || (k ≠ 0 && d.rg (fSOP_PORT_STATUS_STATE.at (k - 1)) ≠ 2) then d
  else if !flitGood b uncorr then linkBad d k
  else if f.ftype ≠ 3 then d
  else
    let units := if k = 0 then [] else leBytes 2 (d.rg fSOP_DEV_DEV_ID) ++ leBytes 1 (k - 1)
    let d := flitOut (flitIn d k) k (mkFlit 3 0 none (deviceGrants k) units)
    if f.crd.any (· < 64) then
      let d := d.modLink k (fun l => { l with sentInit := true })
      if k = 0 then cplErr d 0x0705 else sopErr d (k - 1) fSOP_PORT_ERR_LINK_INIT 0x0801
    else
      let d := d.modLink k (fun l => { l with sentInit := true, up := true, rxSeq := f.seq, credits := f.crd, grant := f.crd })
      let d :=
        if k = 0 then d
        else
          let q := k - 1
          (((d.rs (fSOP_PORT_STATUS_PEER_DEV.at q) (leValue (f.units.take 2))).rs (fSOP_PORT_STATUS_PEER_PORT.at q)
            (f.units.getD 2 0).toNat).rs (fSOP_PORT_STATUS_PEER_VALID.at q) 1).rs (fSOP_PORT_STATUS_STATE.at q) 3
      linkPump d k

/-- A PROTOCOL flit: accepted in sequence, or discarded (R341, R342). The Boolean: the link is lost now. -/
def linkProtocol (d : Dev) (k : Nat) (b : List Byte) (uncorr : Bool) : Dev × Bool :=
  let l := d.link k
  let f := parseFlit b
  if l.lost || !l.up then (d, false)
  else if !flitGood b uncorr then linkDiscard (linkBad d k) k
  else if f.ftype ≠ 1 then (d, false)
  else if f.seq ≠ l.rxSeq then linkDiscard d k
  else
    let l := linkAcked { l with
      rxSeq := (l.rxSeq + 1) % 4096, discarding := false, retries := 0, accepted := true, unacked := l.unacked + 1 } f
    let d := linkCredits (flitIn (d.setLink k l) k) k f.crd
    let s := l.partialMsg ++ f.units
    let d := linkPump (scanUnits (s.length + 1) d k s) k
    let l := d.link k
    if 256 ≤ l.unacked then
      (flitOut (d.setLink k { l with unacked := 0 }) k (mkFlit 0 0 l.ack [0, 0, 0, 0] []), false)
    else (d, false)

/-- RETRY_REQ: every kept flit from the number named is sent again, in order; a number not kept is ignored (R342). -/
def linkReplay (d : Dev) (k : Nat) (b : List Byte) (uncorr : Bool) : Dev :=
  let l := d.link k
  let f := parseFlit b
  if l.lost || !l.up then d
  else if !flitGood b uncorr then linkBad d k
  else if f.ftype ≠ 2 then d
  else
    let d := flitIn (d.setLink k (linkAcked l f)) k
    let again := (d.link k).kept.dropWhile (fun x => x.seq ≠ f.seq)
    again.foldl (fun d x => flitOut d k x.flit) d

/-- NULL carries only an acknowledgement (R338). -/
def linkNull (d : Dev) (k : Nat) (b : List Byte) (uncorr : Bool) : Dev :=
  let l := d.link k
  let f := parseFlit b
  if l.lost || !l.up then d
  else if !flitGood b uncorr then linkBad d k
  else if f.ftype ≠ 0 then d
  else linkPump (flitIn (d.setLink k (linkAcked l f)) k) k

/-- An acknowledgement falls due: a PROTOCOL flit of PAD units when units are owed, else a NULL flit (R341, R344). -/
def linkAckDue (d : Dev) (k : Nat) : Dev :=
  let l := d.link k
  if l.lost || !l.up || l.held || (l.unacked = 0 && l.owed.all (· = 0)) then d
  else if l.owed.any (· ≠ 0) && l.kept.length < 1024 then linkFlit d k [] []
  else flitOut (d.setLink k { l with unacked := 0 }) k (mkFlit 0 0 l.ack [0, 0, 0, 0] [])

/-- INIT_FLIT (R340). -/
def execInitFlit (link : Nat) (flit : List Byte) (uncorr : Bool) (s : State) : Host.Outcome State Fault Refusal :=
  onDev s (fun d => if link ≤ 16 then linkInit d link flit uncorr else d)

/-- RETRY_REQ_FLIT (R342). -/
def execRetryReqFlit (link : Nat) (flit : List Byte) (uncorr : Bool) (s : State) : Host.Outcome State Fault Refusal :=
  onDev s (fun d => if link ≤ 16 then linkReplay d link flit uncorr else d)

/-- NULL_FLIT (R338). -/
def execNullFlit (link : Nat) (flit : List Byte) (uncorr : Bool) (s : State) : Host.Outcome State Fault Refusal :=
  onDev s (fun d => if link ≤ 16 then linkNull d link flit uncorr else d)

/-- ACK_DUE (R341). -/
def execAckDue (link : Nat) (s : State) : Host.Outcome State Fault Refusal :=
  onDev s (fun d => if link ≤ 16 then linkAckDue d link else d)

/-! ## Answers of the fabric -/

/-- A request is answered to its master: the companion with NC_CPL or NC_CPL_ERR (R352, R353), a scale-out requester
with WR_ACK, RD_DATA or ERR (R391); the weeder's data goes nowhere (R294). -/
def fabAnswer (d : Dev) (r : FabReq) (code : Nat) (data : List Byte) : Dev :=
  match r.master with
  | .weeder _ => d
  | .companion none => { d with cpl := { d.cpl with ncOut := d.cpl.ncOut - 1 } }
  | .companion (some tag) =>
    if code = 0 then
      linkSend d 0 3 (cplHeader 0x20 (1 + msgUnits data) tag data.length 0 0 ++ padTo (16 * msgUnits data) data)
    else linkSend d 0 2 (cplHeader 0x21 1 tag 0 0 code)
  | .scaleout _ src tag =>
    if code ≠ 0 then sopRespond d 0x12 src tag code []
    else match r.op with
      | .read _ => sopRespond d 0x11 src tag 0 data
      | _ => sopRespond d 0x10 src tag 0 []
  | _ => d.emit (.fabReply r code data)

end Sys2Proof.Machine
end

