-- ==== Sys2Proof/Machine/Sleep.lean ====
section
/-! DEFINITION. Sleep states of the plots (R435 to R437). -/

namespace Sys2Proof.Machine

/-- Every plot of both halves (R23, R24). -/
def allPlots : List Nat := (List.range 2048).filter isPlot

/-- The sleep state of a plot: 0 P0 to 3 P3. -/
def Plot.sleep (pl : Plot) : Nat := pl.rg fPLOT_PWR_STATE

/-- What a plot keeps in P3: its bed channels with the tine store, and PLOT_PWR (R435). -/
def plotCleared (pl : Plot) : Plot :=
  let keep (k : Nat) : Bool := (decide (0x2000 * 64 ≤ k) && decide (k < 0x2800 * 64)) ||
    (decide (0xF80 * 64 ≤ k) && decide (k < 0xF88 * 64))
  { Plot.reset with
    regs := pl.regs.filter (fun e => keep e.1), channels := pl.channels, bedErr := pl.bedErr }

/-- A memory with a range back at what an unlisted address reads as. -/
def memClear (m : List Host.Cell) (a n : Nat) : List Host.Cell :=
  m.filter (fun c => decide (c.1 < a) || decide (a + n ≤ c.1))

/-- Scratch, accumulators, program memory, synchronisation counters and registers of a plot are lost (R435). -/
def plotLose (d : Dev) (p : Nat) : Dev :=
  let d := { d with scr := memClear d.scr (scrBase p) (2 ^ 20) }
  let k := d.syncKey p 0
  let d := { d with sync := d.sync.filter (fun e => decide (e.1 < k) || decide (k + 256 ≤ e.1)) }
  d.modPlot p plotCleared

/-- A plot reaches a sleep state. -/
def plotReach (d : Dev) (p st : Nat) : Dev :=
  let d := if st = 3 ∧ (d.plot p).sleep ≠ 3 then plotLose d p else d
  d.modPlot p (fun pl => pl.rs fPLOT_PWR_STATE st)

/-- An access by another master wakes the plot, which stays in P0 until sleep is requested again (R437). -/
def wakePlot (d : Dev) (p : Nat) : Dev :=
  if (d.plot p).sleep = 0 then d else (plotReach d p 0).modPlot p (fun pl => pl.rs fPLOT_PWR_REQ 0)

/-- Whether a plot may be sent to sleep: its sequencer IDLE or UNSOWN, and no DMA, tine issue or stationary load
outstanding (R436). -/
def plotQuiet (pl : Plot) : Bool :=
  decide (pl.rg fPLOT_SEQ_STATUS_STATE ≤ 1) && pl.dmas.isEmpty && pl.issues.isEmpty && !pl.loading && pl.waitLoad.isNone

/-- A request of PLOT_PWR (R436). -/
def plotPwrWrite (d : Dev) (p req : Nat) : Dev :=
  if req = 0 ∨ plotQuiet (d.plot p) then d.modPlot p (fun pl => pl.rs fPLOT_PWR_REQ req) else recordPlot d p 0x0209

/-- PLOT_PWR_WRITE (R436). -/
def execPlotPwrWrite (p data : Nat) (s : State) : Host.Outcome State Fault Refusal :=
  onDev s (fun d => if isPlot p then plotPwrWrite d p (bitsOf data 4 2) else d)

/-- PLOT_STATE_CHANGE_DONE: a deeper state is entered from the present one, a lighter one through P0 (R435, R436). -/
def execPlotStateChangeDone (p : Nat) (s : State) : Host.Outcome State Fault Refusal :=
  onDev s (fun d =>
    let req := (d.plot p).rg fPLOT_PWR_REQ
    let st := (d.plot p).sleep
    if !isPlot p || req = st then d else plotReach d p (if st < req then req else 0))

end Sys2Proof.Machine
end

