-- ==== Sys2Proof/Machine/Array.lean ====
section
/-! DEFINITION. The matrix array (chapter 3): MCFG, LDS, MMUL, the shadow and its swap, row checks, injection and
repair. -/

namespace Sys2Proof.Machine

/-- Logical rows (K) of a format's arrangement (R88). -/
def arrK (f : Nat) : Nat := if f = 0 then 32 else if f = 1 ∨ f = 2 then 64 else 128

/-- Logical columns (N) of a format's arrangement (R88). -/
def arrN (f : Nat) : Nat := if f = 0 then 32 else if f = 9 ∨ f = 12 then 128 else 64

/-- Whether R84 allows a pair of stationary and streamed formats. -/
def arrPair (s x : Nat) : Bool :=
  if s = 12 then x = 12 || x = 11
  else if s = 11 ∨ s = 10 ∨ s = 13 then x = 11 || x = 10
  else if 3 ≤ s ∧ s ≤ 9 then decide (3 ≤ x) && decide (x ≤ 9)
  else if s = 1 ∨ s = 2 then x = 1 || x = 2
  else s = 0 && x = 0

/-- The integer pairs of R108. -/
def arrInt (s x : Nat) : Bool := (s = 11 || s = 12) && (x = 11 || x = 12)

/-- The pairs with scaled blocks of R108. -/
def arrBlock (s : Nat) (x : Nat) : Bool := !arrInt s x && decide (3 ≤ s)

/-- Whether the partial of a block is an exact integer sum (R108). -/
def arrIntPartial (s : Nat) : Bool := decide (10 ≤ s)

/-! ## MCFG -/

/-- The checks and effect of MCFG, in the order of R596 (R47, R48, R84, R145). -/
def mcfgRun (d : Dev) (p w : Nat) : Issued :=
  let stat := bitsOf w 54 4
  let strm := bitsOf w 50 4
  let klen := bitsOf w 42 8
  let nlen := bitsOf w 34 8
  if bitsOf w 0 25 ≠ 0 then .stop 0x0C01
  else if 14 ≤ stat ∨ 13 ≤ strm then .stop 0x0C42
  else if !fmtLicensed d stat then .stop 0x0C41
  else if !arrPair stat strm then .stop 0x0C42
  else if arrK stat < klen ∨ arrN stat < nlen then .stop 0x0C05
  else .done (d.modPlot p (fun pl =>
    { pl with mat := ⟨stat, strm, klen, nlen, bitsOf w 26 8, bitOf w 25⟩ }))

/-- MCFG (R145). -/
def execMcfg (p : Nat) (s : State) : Host.Outcome State Fault Refusal :=
  onDev s (fun d => issueWord d p (isOp 0x12) false (fun d _ w => mcfgRun d p w))

/-! ## Stationary loads -/

/-- The value of a stationary element, block and group scales included (R97). -/
def tileVal (t : Tile) (k n : Nat) : FVal :=
  let c := t.codes.getD (k * arrN t.fmt + n) 0
  if t.fmt = 13 then (round32 (mulExact (fInt (signedOf 8 c)) (decodeFp fmtBf16 (t.scales.getD (k / 32) 0)))).1
  else if fmtMX t.fmt then
    if k < t.klen ∧ n < t.nlen then
      (toB32 .rne false (mxValue t.fmt c (t.scales.getD (k / 32 * arrN t.fmt + n) 0))).1
    else fZero
  else elemVal t.fmt c

/-- The integer of a stationary element of an integer tile. -/
def tileInt (t : Tile) (k n : Nat) : Int := intElem t.fmt (t.codes.getD (k * arrN t.fmt + n) 0)

/-- The checksum column entries of a tile (R97): c[k] and a[k]. -/
def tileChecks (t : Tile) : Tile :=
  let ks := List.range (arrK t.fmt)
  let ns := List.range (arrN t.fmt)
  if t.intKind then
    { t with c := ks.map (fun k => codeOf 32 (ns.foldl (fun z n => z + tileInt t k n) 0)), a := [] }
  else
    { t with
      c := ks.map (fun k => code32 (ns.foldl (fun z n => (add32 z (tileVal t k n)).1) fZero))
      a := ks.map (fun k => code32 (ns.foldl (fun z n =>
        (round32With .up (addExact z (tileVal t k n).abs)).1) fZero)) }

/-- A tile of a format other than OQ4 from its bytes: elements K-major, then MX scales (R90, R95, R146). -/
def tilePlain (f klen nlen : Nat) (intKind : Bool) (bytes : List Byte) : Tile :=
  let k := arrK f
  let n := arrN f
  let eb := k * n * fmtBits f / 8
  let codes := (List.range (k * n)).zip (unpackCodes (fmtBits f) (k * n) bytes) |>.map
    (fun e => if e.1 / n < klen ∧ e.1 % n < nlen then e.2 else 0)
  tileChecks ⟨f, intKind, codes, if fmtMX f then (bytes.drop eb).map BitVec.toNat else [], [], [], klen, nlen, [], false⟩

/-- An OQ4 tile from its four headers and the index bytes of one half of each group (R64, R65, R90, R95, R146). -/
def tileOq4 (half klen nlen : Nat) (hdr : List Byte) (index : List Byte) : Tile :=
  let code (e : Nat) : Nat :=
    let k := e / 64
    let n := e % 64
    let h := (hdr.drop (k / 32 * 32)).take 32
    let b := (index.getD (k / 32 * 2048 + k % 32 * 64 + half * 32 + n / 2) 0).toNat
    if k < klen ∧ n < nlen then oq4Code h (k % 32) (half * 64 + n) (if n % 2 = 0 then b % 16 else b / 16) else 0
  tileChecks ⟨13, false, (List.range 8192).map code,
    (List.range 4).map (fun g => oq4Scale ((hdr.drop (g * 32)).take 32)), [], [], klen, nlen, [], false⟩

/-- Bytes that LDS reads from the data address (R146). -/
def ldsBytes (f : Nat) : Nat :=
  if f = 13 then 8192
  else arrK f * arrN f * fmtBits f / 8 + (if fmtMX f then arrK f * arrN f / 32 else 0)

/-- Reads the bytes of a stationary load from the bed or from local memory: the device, the bytes, and 0x0B03 when the
bed could not correct them (R100). -/
def ldsRead (d : Dev) (p pc a n : Nat) (scratch : Bool) : Dev × List Byte × Nat :=
  if scratch then
    let r := plotRead d p pc a n
    (r.1, r.2, 0)
  else
    let r := bedRead d p a n false
    (r.1, r.2.1, if r.2.2 = 0 then 0 else 0x0B03)

/-- The half of each OQ4 index area that a load reads (R146), read row by row. -/
def ldsIndex (d : Dev) (p pc a half : Nat) (scratch : Bool) : Dev × List Byte × Nat :=
  (List.range 128).foldl (fun (s : Dev × List Byte × Nat) k =>
    let r := ldsRead s.1 p pc (a + k * 64 + half * 32) 32 scratch
    (r.1, s.2.1 ++ zeros (half * 32) ++ r.2.1 ++ zeros (32 - half * 32), max s.2.2 r.2.2)) (d, [], 0)

/-- A load ready to go into the shadow: a tile, or the code that ends it (R95, R96). -/
def ldsTile (d : Dev) (p pc w : Nat) : Dev × Load :=
  let pl := d.plot p
  let f := bitsOf w 54 4
  let scratch := bitOf w 53
  let m := pl.mat
  let intKind := (f = 11 || f = 12) && m.strm ≠ 10
  let a := pl.opAddr (bitsOf w 48 4) (bitsOf w 23 21) 32
  if f = 13 then
    let ha := pl.opAddr (bitsOf w 44 4) (bitsOf w 2 21) 32
    let half := bitsOf w 52 1
    let kept := match pl.keptHdr with
      | some k => if k.1 = ha then some k.2 else none
      | none => none
    let h : Dev × List Byte × Nat := match kept with
      | some b => (d, b, 0)
      | none => ldsRead d p pc ha 128 scratch
    let hdr := h.2.1
    let failing := (List.range 4).any (fun g => oq4HeaderBad ((hdr.drop (g * 32)).take 32))
    let err := if h.2.2 ≠ 0 then h.2.2 else if failing then 0x0C40 else 0
    if err ≠ 0 then (h.1, ⟨⟨13, false, [], [], [], [], 0, 0, [], false⟩, err, pc⟩)
    else
      let r := ldsIndex h.1 p pc a half scratch
      let d := r.1.modPlot p (fun pl => { pl with keptHdr := some (ha, hdr) })
      (d, ⟨tileOq4 half m.klen m.nlen hdr r.2.1, r.2.2, pc⟩)
  else
    let r := ldsRead d p pc a (ldsBytes f) scratch
    (r.1, ⟨tilePlain f m.klen m.nlen intKind r.2.1, r.2.2, pc⟩)

/-- The shadow states of R100, in PLOT_ARR_STATUS.SHADOW. -/
def shEMPTY : Nat := 0
def shFILLING : Nat := 1
def shFULL : Nat := 2
def shSWAPPING : Nat := 3
def shERROR : Nat := 4

/-- The shadow state of a plot. -/
def Plot.shadowState (pl : Plot) : Nat := pl.rg fPLOT_ARR_STATUS_SHADOW

/-- A load enters the shadow (R100). -/
def beginLoad (pl : Plot) (l : Load) (state : Nat) : Plot :=
  { pl.rs fPLOT_ARR_STATUS_SHADOW state with
    shadow := some l.tile, shadowErr := l.err, shadowPc := l.pc, loading := true, waitLoad := none }

/-- The live and shadow sets become invalid, and the kept headers are dropped (R96, R100, R105, R163). -/
def dropTiles (pl : Plot) : Plot :=
  { pl.rs fPLOT_ARR_STATUS_SHADOW shEMPTY with
    live := none, shadow := none, shadowErr := 0, waitLoad := none, loading := false, swapTaken := false,
    keptHdr := none }

/-- The units an LDS reads (R161): none from the bed; the halves of the index areas and the headers it reads. -/
def ldsUnits (pl : Plot) (w : Nat) : List Nat :=
  if !bitOf w 53 then []
  else
    let f := bitsOf w 54 4
    let a := pl.opAddr (bitsOf w 48 4) (bitsOf w 23 21) 32
    let ha := pl.opAddr (bitsOf w 44 4) (bitsOf w 2 21) 32
    let kept := match pl.keptHdr with
      | some k => k.1 = ha
      | none => false
    unitsOf a (ldsBytes f) ++ (if f = 13 && !kept then unitsOf ha 128 else [])

/-- Whether the bed channels that a bed-fed load reads are in memory mode; a channel in tine mode holds its requests
(R94, R178). -/
def ldsBedReady (pl : Plot) (w : Nat) : Bool :=
  let f := bitsOf w 54 4
  let ch (x : Nat) : Bool :=
    let m := pl.rg (fBED_CH_STATUS_MODE.at (x / 2 ^ 24))
    m = 0 || m = 4
  let a := pl.opAddr (bitsOf w 48 4) (bitsOf w 23 21) 32
  let ha := pl.opAddr (bitsOf w 44 4) (bitsOf w 2 21) 32
  ch a && ch (a + ldsBytes f - 1) && (f ≠ 13 || (ch ha && ch (ha + 127)))

/-- The checks and effect of LDS, in the order of R596 (R47, R48, R133, R134, R145, R146). A load meets a FULL or
FILLING shadow by waiting for the next swap (R100). -/
def ldsRun (d : Dev) (p pc w : Nat) : Issued :=
  let pl := d.plot p
  let f := bitsOf w 54 4
  let scratch := bitOf w 53
  let a := pl.opAddr (bitsOf w 48 4) (bitsOf w 23 21) 32
  let ha := pl.opAddr (bitsOf w 44 4) (bitsOf w 2 21) 32
  let fits (x n : Nat) : Bool := if scratch then inLocal x n else decide (x + n ≤ 0x4000000)
  if bitsOf w 0 2 ≠ 0 ∨ (f ≠ 13 ∧ (bitsOf w 52 1 ≠ 0 ∨ bitsOf w 44 4 ≠ 0 ∨ bitsOf w 2 21 ≠ 0)) then .stop 0x0C01
  else if 14 ≤ f then .stop 0x0C42
  else if !fmtLicensed d f then .stop 0x0C41
  else if a % 32 ≠ 0 ∨ (f = 13 ∧ ha % 32 ≠ 0) then .stop 0x0C04
  else if !fits a (ldsBytes f) || (f = 13 && !fits ha 128) then .stop 0x0C10
  else if pl.waitLoad.isSome || (!scratch && !ldsBedReady pl w) then .held
  else
    let us := ldsUnits pl w
    let r := ldsTile d p pc w
    let pl := markRead (r.1.plot p) us
    let tile := { r.2.tile with
      deps := (us.flatMap (fun u => (pl.unit u).opens)).eraseDups, bad := us.any (fun u => (pl.unit u).failed) }
    let l := { r.2 with tile := tile }
    let st := pl.shadowState
    let pl :=
      if st = shEMPTY ∨ st = shERROR then beginLoad pl l shFILLING
      else if st = shSWAPPING ∧ pl.loading = false then beginLoad pl l shSWAPPING
      else { pl with waitLoad := some l }
    .done (r.1.setPlot p pl)

/-- LDS (R95). -/
def execLds (p : Nat) (s : State) : Host.Outcome State Fault Refusal :=
  onDev s (fun d => issueWord d p (isOp 0x10) false (fun d pc w => ldsRun d p pc w))

/-- The last row of a load is written and its checksum entries formed: FILLING becomes FULL, or ERROR, which stops the
load's instruction (R97, R100). -/
def shadowLoadDone (d : Dev) (p : Nat) : Dev :=
  let pl := d.plot p
  if pl.shadowState ≠ shFILLING then d
  else if pl.shadowErr = 0 then d.setPlot p { pl.rs fPLOT_ARR_STATUS_SHADOW shFULL with loading := false }
  else
    let d := d.setPlot p { pl.rs fPLOT_ARR_STATUS_SHADOW shERROR with loading := false, shadow := none, keptHdr := none }
    let d := if pl.shadowErr = 0x0B03 then arrErr d p fPLOT_ARR_ERR_SHADOW_DATA else d
    stopAt d p pl.shadowPc pl.shadowErr

/-- SHADOW_LOAD_DONE (R100). -/
def execShadowLoadDone (p : Nat) (s : State) : Host.Outcome State Fault Refusal :=
  onDev s (fun d => shadowLoadDone d p)

/-! ## The swap -/

/-- The shadow moves into the live set; a load that waited follows the swap (R98 to R100). -/
def beginSwap (pl : Plot) : Plot :=
  let pl := { pl.rs fPLOT_ARR_STATUS_SHADOW shSWAPPING with live := pl.shadow, shadow := none, loading := false }
  match pl.waitLoad with
  | some l => beginLoad pl l shSWAPPING
  | none => pl

/-- SWAP_DONE: row 127 is swapped; the shadow is FILLING when a load follows, else EMPTY (R100). -/
def execSwapDone (p : Nat) (s : State) : Host.Outcome State Fault Refusal :=
  onDev s (fun d =>
    let pl := d.plot p
    if pl.shadowState = shSWAPPING then
      d.setPlot p (pl.rs fPLOT_ARR_STATUS_SHADOW (if pl.loading then shFILLING else shEMPTY))
    else d)

/-! ## MMUL -/

/-- Bytes of a streamed row record (R144). -/
def rowBytes (stat strm : Nat) (rowscale : Bool) : Nat :=
  arrK stat * fmtBits strm / 8 + (if fmtMX strm then arrK stat / 32 else 0) + (if rowscale then 4 else 0)

/-- A streamed row: element codes, block scales and row scale. -/
structure StreamRow where
  codes : List Nat
  scales : List Nat
  rowscale : FVal
deriving DecidableEq, Repr

/-- A streamed row from its record (R144). -/
def parseRow (m : MatCfg) (bytes : List Byte) : StreamRow :=
  let k := arrK m.stat
  let eb := k * fmtBits m.strm / 8
  let sb := if fmtMX m.strm then k / 32 else 0
  ⟨unpackCodes (fmtBits m.strm) k bytes, ((bytes.drop eb).take sb).map BitVec.toNat,
    if m.rowscale then val32 (leValue ((bytes.drop (eb + sb)).take 4)) else fOne⟩

/-- The value of streamed element k, its block scale included; zero from KLEN on (R90). -/
def rowVal (m : MatCfg) (x : StreamRow) (k : Nat) : FVal :=
  if m.klen ≤ k then fZero
  else if fmtMX m.strm then
    (toB32 .rne false (mxValue m.strm (x.codes.getD k 0) (x.scales.getD (k / 32) 0))).1
  else elemVal m.strm (x.codes.getD k 0)

/-- The factor an operand brings to the scale product of block j (R78, R108). -/
def blockFactor (f : Nat) (scale : Nat) : FVal :=
  if f = 13 then decodeFp fmtBf16 scale
  else if f = 10 then (mulExact (scaleVal scale) (.fin false 1 (-6))).1
  else if fmtMX f then scaleVal scale
  else fOne

/-- The term t_j of output n of a block-scaled pair (R108): value and flags. -/
def blockTerm (m : MatCfg) (t : Tile) (x : StreamRow) (n j : Nat) : FVal × Nat :=
  let klen := min m.klen (arrK m.stat)
  let ks := (List.range 32).map (· + 32 * j) |>.filter (· < klen)
  if ks.isEmpty || m.nlen ≤ n then (fZero, 0)
  else
    let n' := arrN m.stat
    let part : FVal × Nat :=
      if arrIntPartial m.stat then
        (fInt (ks.foldl (fun z k =>
          z + signedOf 8 (x.codes.getD k 0) * signedOf 8 (t.codes.getD (k * n' + n) 0)) 0), 0)
      else
        ks.foldl (fun a k =>
          let q := round32 (mulExact (elemVal m.strm (x.codes.getD k 0)) (elemVal m.stat (t.codes.getD (k * n' + n) 0)))
          let r := add32 a.1 q.1
          (r.1, a.2 ||| q.2 ||| r.2)) (fZero, 0)
    let fs := if m.stat = 13 then t.scales.getD j 0
      else if 32 * j < t.klen ∧ n < t.nlen then t.scales.getD (j * n' + n) 0 else 0x7F
    let sp := round32 (mulExact (blockFactor m.stat fs) (blockFactor m.strm (x.scales.getD j 0)))
    let r := mul32 part.1 sp.1
    (r.1, part.2 ||| sp.2 ||| r.2)

/-- The new word of output n from its old word (R107, R108): code, flags. -/
def mmulWord (m : MatCfg) (mode : Nat) (t : Tile) (x : StreamRow) (n old : Nat) : Nat × Nat :=
  let klen := min m.klen (arrK m.stat)
  let n' := arrN m.stat
  if arrInt m.stat m.strm then
    let r := (List.range klen).foldl (fun (s : Int × Nat) k =>
      let w := if m.nlen ≤ n then 0 else intElem m.stat (t.codes.getD (k * n' + n) 0)
      let z := s.1 + intElem m.strm (x.codes.getD k 0) * w
      if z < -(2 ^ 31 : Int) ∨ (2 ^ 31 : Int) ≤ z then (signedOf 32 (codeOf 32 z), flagINT_WRAP) else (z, s.2))
      (signedOf 32 old, 0)
    (codeOf 32 r.1, r.2)
  else
    let sum : FVal × Nat :=
      if arrBlock m.stat m.strm then
        (List.range 4).foldl (fun a j =>
          let q := blockTerm m t x n j
          let r := add32 a.1 q.1
          (r.1, a.2 ||| q.2 ||| r.2)) (val32 old, 0)
      else
        let y := if m.nlen ≤ n then (fZero, 0) else (List.range klen).foldl (fun (a : FVal × Nat) k =>
          let q := mul32 (elemVal m.strm (x.codes.getD k 0)) (elemVal m.stat (t.codes.getD (k * n' + n) 0))
          let r := add32 a.1 q.1
          (r.1, a.2 ||| q.2 ||| r.2)) (fZero, 0)
        let r := add32 (val32 old) y.1
        (r.1, y.2 ||| r.2)
    if mode = 2 then
      let r := mul32 sum.1 x.rowscale
      (code32 r.1, sum.2 ||| r.2)
    else (code32 sum.1, sum.2)

/-- The comparison of a written row (R111 to R114): pass, whether only finiteness was compared, the prediction, the actual
sum and the tolerance, as codes. -/
def rowCheck (m : MatCfg) (mode : Nat) (t : Tile) (x : StreamRow) (old new : List Nat) : Bool × Bool × Nat × Nat × Nat :=
  let klen := min m.klen (arrK m.stat)
  if arrInt m.stat m.strm then
    let z := (List.range klen).foldl (fun (a : Int) k =>
      a + intElem m.strm (x.codes.getD k 0) * signedOf 32 (t.c.getD k 0)) 0
    let pred := codeOf 32 (old.foldl (fun (a : Int) c => a + signedOf 32 c) z)
    let act := codeOf 32 (new.foldl (fun (a : Int) c => a + signedOf 32 c) 0)
    (pred = act, false, pred, act, 0)
  else
    let up (v : FVal × Nat) : FVal := (round32With .up v).1
    let z := (List.range klen).foldl (fun a k => (add32 a (mul32 (rowVal m x k) (val32 (t.c.getD k 0))).1).1) fZero
    let aa := (List.range klen).foldl (fun a k =>
      up (addExact a (up (mulExact (rowVal m x k).abs (val32 (t.a.getD k 0)))))) fZero
    let sumOf (l : List Nat) : FVal := l.foldl (fun a c => (add32 a (val32 c)).1) fZero
    let sOld := sumOf old
    let sNew := sumOf new
    let bb := old.foldl (fun a c => up (addExact a (val32 c).abs)) fZero
    let s := if mode = 2 then x.rowscale else fOne
    let pred := (mul32 (add32 sOld z).1 s).1
    let ab := up (mulExact (up (addExact aa bb)) s.abs)
    let kn := arrK m.stat + arrN m.stat + 2
    let tau := up (addExact (up (mulExact (.fin false kn (-22)) ab)) (.fin false (arrN m.stat) (-140)))
    let pc := code32 pred
    let ac := code32 sNew
    let tc := code32 tau
    if [z, aa, bb, sOld, sNew, tau].any FVal.nonfinite then
      (decide (sNew.nonfinite = pred.nonfinite), true, pc, ac, tc)
    else
      (!ltExact tau (up ((addExact sNew pred.neg).1.abs, 0)), false, pc, ac, tc)

/-- The code that rejects an MMUL in the checks of R596 that depend on its word and the plot's state; 0 when none does. -/
def mmulStop (pl : Plot) (w : Nat) : Nat :=
  let m := pl.mat
  let rows := bitsOf w 49 9
  let base := bitsOf w 41 8
  let col := bitsOf w 34 7
  let mode := bitsOf w 32 2
  let swap := bitOf w 31
  let rec_ := rowBytes m.stat m.strm m.rowscale
  let st := pl.shadowState
  let tile := if swap && !pl.swapTaken then pl.shadow else pl.live
  let a := pl.opAddr (bitsOf w 27 4) (bitsOf w 11 16) 16
  let n := arrN m.stat
  if bitsOf w 0 11 ≠ 0 ∨ mode = 3 then 0x0C01
  else if (mode = 2 ∧ arrInt m.stat m.strm) ∨ (m.stride ≠ 0 ∧ m.stride * 16 < rec_) then 0x0C05
  else if 256 < rows then 0x0B09
  else if 256 < base + rows ∨ col % n ≠ 0 ∨ 128 < col + n then 0x0B0A
  else if swap ∧ pl.swapTaken = false ∧ st = shERROR then pl.shadowErr
  else if tile.isNone then 0x0B08
  else if tile.any (fun t => t.fmt ≠ m.stat || t.intKind ≠ arrInt m.stat m.strm) then 0x0C09
  else if rows = 0 then 0
  else if a % 16 ≠ 0 then 0x0C04
  else if !inLocal a ((rows - 1) * m.stride * 16 + rec_) then 0x0C10
  else
    let reads := (List.range rows).flatMap (fun i => unitsOf (a + i * m.stride * 16) rec_)
    let segs := (List.range rows).flatMap (fun i => unitsOf (0x100000 + (base + i) * 512 + col * 4) (n * 4))
    if regionConflict pl (reads ++ (if mode = 0 then [] else segs)) segs then 0x0C30 else 0

/-- Whether the next instruction of a running plot is an MMUL with SWAP that nothing stops and whose M is
not 0. -/
def nextSwaps (pl : Plot) : Bool :=
  let w := fetchWord pl (pl.rg fPLOT_SEQ_STATUS_PC)
  pl.seq = seqRUNNING && pl.wait = .none && w.2 ≤ 1 && isOp 0x11 w.1 && bitOf w.1 31 && bitsOf w.1 49 9 ≠ 0 &&
    mmulStop pl w.1 = 0

/-- SWAP_START: the first row of an instruction with SWAP reaches row 0 of a FULL shadow (R98, R100). -/
def execSwapStart (p : Nat) (s : State) : Host.Outcome State Fault Refusal :=
  onDev s (fun d =>
    let pl := d.plot p
    if isPlot p && pl.shadowState = shFULL && nextSwaps pl then d.setPlot p { beginSwap pl with swapTaken := true }
    else d)

/-- One streamed row: its accumulator row is computed, an armed injection applied, written, and its check opened
(R107, R108, R118). `x` is the row as read, `reads` the units of its record. -/
def mmulRow (d : Dev) (p pc w : Nat) (t : Tile) (i : Nat) (x : StreamRow) (reads : List Nat) : Dev :=
  let m := (d.plot p).mat
  let mode := bitsOf w 32 2
  let row := bitsOf w 41 8 + i
  let n := arrN m.stat
  let a := 0x100000 + row * 512 + bitsOf w 34 7 * 4
  let segs := unitsOf a (n * 4)
  let o : Dev × List Byte := if mode = 0 then (d, zeros (n * 4)) else plotRead d p pc a (n * 4)
  let d := plotEvent o.1 p 0x010 1 none none
  let old := (List.range n).map (fun c => leValue ((o.2.drop (4 * c)).take 4))
  let res := (List.range n).map (fun c => mmulWord m mode t x c (old.getD c 0))
  let pl := d.plot p
  let armed := pl.rg fPLOT_ARR_INJECT_ARM = 1
  let icol := pl.rg fPLOT_ARR_INJECT_COL
  let clean := res.map (·.1)
  let hit := armed && decide (icol < n)
  let new := if hit then clean.set icol (clean.getD icol 0 ^^^ 2 ^ pl.rg fPLOT_ARR_INJECT_BIT) else clean
  let pl := if armed then pl.rs fPLOT_ARR_INJECT_ARM 0 else pl
  let pl := fmtFlags pl (res.foldl (fun f r => f ||| r.2)
    (x.scales.foldl (fun f s => f ||| (if fmtMX m.strm then scaleFlags s else 0)) 0))
  let chk := rowCheck m mode t x old new
  let deps := reads ++ (if mode = 0 then [] else segs)
  let q := openCheck pl segs deps t.deps t.bad
  let pl := markWrite (markRead q.1 deps) segs (fun _ => true)
  let pl := { pl with rowChecks := pl.rowChecks ++
    [⟨q.2, chk.1, chk.2.1, chk.2.2.1, chk.2.2.2.1, chk.2.2.2.2, hit, m.stat, m.strm, mode, row, i, pc⟩] }
  plotWrite (d.setPlot p pl) p pc a (new.flatMap (leBytes 4))

/-- The streamed rows of an MMUL, all read before the first is written. -/
def mmulRows (d : Dev) (p pc w : Nat) (t : Tile) : Dev :=
  let pl := d.plot p
  let m := pl.mat
  let a := pl.opAddr (bitsOf w 27 4) (bitsOf w 11 16) 16
  let rec_ := rowBytes m.stat m.strm m.rowscale
  let rows := List.range (bitsOf w 49 9)
  let r := rows.foldl (fun (s : Dev × List StreamRow) i =>
    let q := plotRead s.1 p pc (a + i * m.stride * 16) rec_
    (q.1, s.2 ++ [parseRow m q.2])) (d, [])
  (rows.zip r.2).foldl (fun d e => mmulRow d p pc w t e.1 e.2 (unitsOf (a + e.1 * m.stride * 16) rec_)) r.1

/-- The checks and effect of MMUL (R90, R92, R98, R100, R101, R107, R108, R144, R145). -/
def mmulRun (d : Dev) (p pc w : Nat) : Issued :=
  let pl := d.plot p
  let swap := bitOf w 31
  let st := pl.shadowState
  if swap && !pl.swapTaken && bitsOf w 49 9 ≠ 0 && (st = shFILLING || (st = shSWAPPING && pl.loading)) then .held
  else
    let code := mmulStop pl w
    if code = 0x0B08 then .stopFrom (arrErr d p fPLOT_ARR_ERR_SWAP_EMPTY) code
    else if code ≠ 0 then .stop code
    else if bitsOf w 49 9 = 0 then .done d
    else
      let pl := if swap && !pl.swapTaken then beginSwap pl else pl
      let pl := { pl with swapTaken := false }
      match pl.live with
      | some t => .done (mmulRows (d.setPlot p pl) p pc w t)
      | none => .held

/-- MMUL (R108). -/
def execMmul (p : Nat) (s : State) : Host.Outcome State Fault Refusal :=
  onDev s (fun d => issueWord d p (isOp 0x11) false (fun d pc w => mmulRun d p pc w))

/-! ## Row checks -/

/-- A failed row check: the first since CHECK_MISMATCH was cleared captures the signature, later ones are counted; the
code is recorded, the interrupt raised, and the sequencer stops (R117, R127). -/
def arrMismatch (d : Dev) (p : Nat) (c : RowCheck) : Dev :=
  let pl := d.plot p
  let first := pl.rg fPLOT_ARR_ERR_CHECK_MISMATCH = 0
  let sig (pl : Plot) (e : Fld × Nat) : Plot := pl.rs e.1 e.2
  let pl :=
    if first then
      [(fPLOT_ARR_SIG_ROW_INJECTED, if c.injected then 1 else 0), (fPLOT_ARR_SIG_ROW_NONFINITE, if c.nonfinite then 1 else 0),
        (fPLOT_ARR_SIG_ROW_FMT_STAT, c.fmtStat), (fPLOT_ARR_SIG_ROW_FMT_STRM, c.fmtStrm),
        (fPLOT_ARR_SIG_ROW_MODE, c.mode), (fPLOT_ARR_SIG_ROW_ACC_ROW, c.accRow),
        (fPLOT_ARR_SIG_ROW_STREAM_ROW, c.streamRow), (fPLOT_ARR_SIG_ROW_INSTR, c.instr),
        (fPLOT_ARR_SIG_SUMS_ACTUAL, c.actual), (fPLOT_ARR_SIG_SUMS_PREDICTED, c.predicted),
        (fPLOT_ARR_SIG_TAU_TAU, c.tau)].foldl sig pl
    else pl.count fPLOT_ARR_EVCNT_MISMATCHES 1
  stopAt (arrErr (d.setPlot p pl) p fPLOT_ARR_ERR_CHECK_MISMATCH) p c.instr 0x0B01

/-- The oldest open row check closes (R114, R115, R117). `upset`: a fault of the array, the accumulators or the
checksum cells has made the two sums differ. -/
def arrCheckClose (d : Dev) (p : Nat) (upset : Bool) : Dev :=
  let pl := d.plot p
  match pl.rowChecks with
  | [] => d
  | c :: t =>
    let pass := c.pass && !upset
    let pl := { pl with rowChecks := t }
    let pl := if c.nonfinite then pl.count fPLOT_ARR_EVCNT_NONFINITE_ROWS 1 else pl
    let d := d.setPlot p (closeCheck pl c.id pass)
    if pass then d else arrMismatch d p c

/-- ARR_CHECK_CLOSE (R115). -/
def execArrCheckClose (p : Nat) (upset : Bool) (s : State) : Host.Outcome State Fault Refusal :=
  onDev s (fun d => arrCheckClose d p upset)

/-! ## Register writes of the array -/

/-- Whether a row or load is in the pipeline: PLOT_ARR_STATUS.BUSY (R127). -/
def arrBusy (pl : Plot) : Bool := !pl.rowChecks.isEmpty || pl.loading || pl.waitLoad.isSome

/-- A write to PLOT_ARR_INJECT: a set ARM arms the injection, a new one replaces it (R118). -/
def writeArrInject (pl : Plot) (v : Nat) : Plot :=
  ((pl.rs fPLOT_ARR_INJECT_ARM (bitsOf v 12 1)).rs fPLOT_ARR_INJECT_COL (bitsOf v 5 7)).rs fPLOT_ARR_INJECT_BIT (bitsOf v 0 5)

/-- A write to PLOT_ARR_REPAIR (R105): refused while busy or when its rows are out of order or not rows. -/
def writeArrRepair (d : Dev) (p v : Nat) : Dev :=
  let pl := d.plot p
  let r0 := bitsOf v 0 8
  let e0 := bitOf v 8
  let r1 := bitsOf v 9 8
  let e1 := bitOf v 17
  if arrBusy pl then recordPlot (arrErr d p fPLOT_ARR_ERR_REPAIR_REJECTED) p 0x0B04
  else if (e0 && e1 && decide (r1 ≤ r0)) || (e0 && decide (130 ≤ r0)) || (e1 && decide (130 ≤ r1)) then
    recordPlot (arrErr d p fPLOT_ARR_ERR_REPAIR_REJECTED) p 0x0B05
  else
    d.setPlot p (dropTiles ((((pl.rs fPLOT_ARR_REPAIR_SPARE1_EN (bitsOf v 17 1)).rs fPLOT_ARR_REPAIR_SPARE1_ROW r1).rs
      fPLOT_ARR_REPAIR_SPARE0_EN (bitsOf v 8 1)).rs fPLOT_ARR_REPAIR_SPARE0_ROW r0))

/-- PLOT_ARR_INJECT_WRITE (R118). -/
def execPlotArrInjectWrite (p data : Nat) (s : State) : Host.Outcome State Fault Refusal :=
  onDev s (fun d => if isPlot p then (wakePlot d p).modPlot p (fun pl => writeArrInject pl data) else d)

/-- PLOT_ARR_REPAIR_WRITE (R105). -/
def execPlotArrRepairWrite (p data : Nat) (s : State) : Host.Outcome State Fault Refusal :=
  onDev s (fun d => if isPlot p then writeArrRepair (wakePlot d p) p data else d)

end Sys2Proof.Machine
end

