-- ==== Sys2Proof/Machine/PlotSeq.lean ====
section
/-! DEFINITION. The plot sequencer (chapter 4): control instructions, fences, waits, the issue of DMA, SIGNAL and
TISSUE, the commands of PLOT_SEQ_CTRL, and sowing. -/

namespace Sys2Proof.Machine

/-! ## Control -/

/-- NOP: nothing but its reserved bits is checked (R130, R142). -/
def execNop (p : Nat) (s : State) : Host.Outcome State Fault Refusal :=
  onDev s (fun d => issueWord d p (isOp 0x00) false (fun d _ w => if bitsOf w 0 58 ≠ 0 then .stop 0x0C01 else .done d))

/-- HALT: waits as FENCE ALL; a referee stops there (R136, R481). -/
def execHalt (p : Nat) (s : State) : Host.Outcome State Fault Refusal :=
  onDev s (fun d => issueWord d p (isOp 0x01) true (fun d pc w =>
    if bitsOf w 0 58 ≠ 0 then .stop 0x0C01
    else if d.isReferee p then .stop 0
    else .done (d.modPlot p (fun pl => { pl.rs fPLOT_SEQ_STATUS_PC (pc + 1) with wait := .halt }))))

/-- Whether FENCE CHECK is satisfied: every unit written by earlier instructions is CLOSED (R150). -/
def fenceCheck (pl : Plot) : Bool := !unitsUnclosed pl

/-- Whether FENCE DMA is satisfied: every earlier descriptor is complete (R150). -/
def fenceDma (pl : Plot) : Bool := pl.dmas.isEmpty

/-- Whether FENCE TINE is satisfied: every earlier issue has completed and its check has closed (R150). -/
def fenceTine (pl : Plot) : Bool := pl.issues.isEmpty

/-- Whether FENCE ALL is satisfied. -/
def fenceAll (pl : Plot) : Bool := fenceCheck pl && fenceDma pl && fenceTine pl

/-- Whether every engine is idle and every outbound operation released (R150, CKPT). -/
def fenceIdle (pl : Plot) : Bool :=
  !pl.loading && pl.waitLoad.isNone && pl.outq.isEmpty && pl.rowChecks.isEmpty && pl.vecChecks.isEmpty &&
    pl.attChecks.isEmpty

/-- The condition of a HALT's wait holds: the sequencer goes IDLE and raises the completion interrupt (R136). -/
def haltWaitEnd (d : Dev) (p : Nat) : Dev :=
  let pl := d.plot p
  if pl.seq = seqRUNNING && pl.wait = .halt && fenceAll pl then
    plotIrq (d.setPlot p { pl.rs fPLOT_SEQ_STATUS_STATE seqIDLE with wait := .none }) p 1
  else d

/-- The effect of JMP (R143). -/
def jmpRun (d : Dev) (p w : Nat) : Issued :=
  let t := bitsOf w 45 13
  let ok := match (d.plot p).loops with
    | [] => true
    | l :: _ => decide (l.first ≤ t) && decide (t ≤ l.last)
  if bitsOf w 0 45 ≠ 0 then .stop 0x0C01
  else if ok then .done (d.modPlot p (fun pl => pl.rs fPLOT_SEQ_STATUS_PC t))
  else .stop 0x0C02

/-- JMP (R143). -/
def execJmp (p : Nat) (s : State) : Host.Outcome State Fault Refusal :=
  onDev s (fun d => issueWord d p (isOp 0x02) true (fun d _ w => jmpRun d p w))

/-- The effect of LOOP: a body executed COUNT times; a COUNT of 0 goes on after END (R143). -/
def loopRun (d : Dev) (p pc w : Nat) : Issued :=
  let fin := bitsOf w 45 13
  let count := bitsOf w 21 24
  let pl := d.plot p
  let nested := match pl.loops with
    | [] => true
    | l :: _ => decide (fin ≤ l.last)
  if bitsOf w 0 21 ≠ 0 then .stop 0x0C01
  else if fin ≤ pc || !nested || (count ≠ 0 && 4 ≤ pl.loops.length) then .stop 0x0C02
  else if count = 0 then .done (d.setPlot p (advance pl fin))
  else .done (d.setPlot p
    ({ pl with loops := ⟨pc + 1, fin, count⟩ :: pl.loops }.rs fPLOT_SEQ_STATUS_PC (pc + 1)))

/-- LOOP (R143). -/
def execLoop (p : Nat) (s : State) : Host.Outcome State Fault Refusal :=
  onDev s (fun d => issueWord d p (isOp 0x03) true (fun d pc w => loopRun d p pc w))

/-- SETI (R133). -/
def execSeti (p : Nat) (s : State) : Host.Outcome State Fault Refusal :=
  onDev s (fun d => issueWord d p (isOp 0x04) false (fun d _ w =>
    if bitsOf w 0 22 ≠ 0 then .stop 0x0C01
    else .done (d.modPlot p (fun pl => pl.setIdx (bitsOf w 54 4) (bitsOf w 22 32)))))

/-- ADDI: the signed immediate is added modulo 2^32 (R133). -/
def execAddi (p : Nat) (s : State) : Host.Outcome State Fault Refusal :=
  onDev s (fun d => issueWord d p (isOp 0x05) false (fun d _ w =>
    if bitsOf w 0 30 ≠ 0 then .stop 0x0C01
    else .done (d.modPlot p (fun pl =>
      let i := bitsOf w 54 4
      pl.setIdx i (codeOf 32 ((pl.idx i : Int) + signedOf 24 (bitsOf w 30 24)))))))

/-- LDI: bits [31:0] of a word of the control area (R133). -/
def execLdi (p : Nat) (s : State) : Host.Outcome State Fault Refusal :=
  onDev s (fun d => issueWord d p (isOp 0x06) false (fun d pc w =>
    if bitsOf w 0 42 ≠ 0 then .stop 0x0C01
    else
      let r := plotRead d p pc (bitsOf w 42 12 * 8) 8
      .done (r.1.modPlot p (fun pl => pl.setIdx (bitsOf w 54 4) (leValue (r.2.take 4))))))

/-! ## Fences and checkpoints -/

/-- Issues a FENCE of one kind: issue is held until its condition holds; a referee stops at CKPT (R150, R481). -/
def fenceRun (d : Dev) (p w kind : Nat) : Issued :=
  if bitsOf w 0 55 ≠ 0 then .stop 0x0C01
  else if kind = 4 ∧ d.isReferee p then .stop 0
  else .done (d.modPlot p (fun pl => { pl with wait := .fence kind }))

/-- Whether a word is the FENCE of a kind. -/
def isFence (kind w : Nat) : Bool := isOp 0x08 w && decide (bitsOf w 55 3 = kind)

/-- FENCE CHECK (R150). -/
def execFenceCheck (p : Nat) (s : State) : Host.Outcome State Fault Refusal :=
  onDev s (fun d => issueWord d p (isFence 0) true (fun d _ w => fenceRun d p w 0))

/-- FENCE DMA (R150). -/
def execFenceDma (p : Nat) (s : State) : Host.Outcome State Fault Refusal :=
  onDev s (fun d => issueWord d p (isFence 1) true (fun d _ w => fenceRun d p w 1))

/-- FENCE TINE (R150). -/
def execFenceTine (p : Nat) (s : State) : Host.Outcome State Fault Refusal :=
  onDev s (fun d => issueWord d p (isFence 2) true (fun d _ w => fenceRun d p w 2))

/-- FENCE ALL (R150). -/
def execFenceAll (p : Nat) (s : State) : Host.Outcome State Fault Refusal :=
  onDev s (fun d => issueWord d p (isFence 3) true (fun d _ w => fenceRun d p w 3))

/-- FENCE CKPT (R150, R163). -/
def execFenceCkpt (p : Nat) (s : State) : Host.Outcome State Fault Refusal :=
  onDev s (fun d => issueWord d p (isFence 4) true (fun d _ w => fenceRun d p w 4))

/-- The checkpoint actions of R163 for the next instruction index `pc`. -/
def takeCheckpoint (pl : Plot) (pc : Nat) : Plot :=
  let pl := clearMarks (dropTiles pl)
  let pl := (pl.rs fPLOT_SEQ_REPLAY_OUT_DONE 0).rs fPLOT_SEQ_REPLAY_CKPT_PC pc
  { pl with
    att := { pl.att with fresh := false, loaded := false, rows := [], deps := [], bad := false }, suppress := 0,
    ckpt := ⟨(List.range 15).map (fun i => pl.idx (i + 1)), pl.loops, pl.mat, pl.att.cfg⟩ }

/-- FENCE_SATISFIED: the fence's condition holds and issue resumes, after the checkpoint actions for CKPT (R150, R163). -/
def fenceSatisfied (d : Dev) (p : Nat) : Dev :=
  let pl := d.plot p
  let pc := pl.rg fPLOT_SEQ_STATUS_PC
  let go (pl : Plot) : Plot := advance { pl with wait := .none } pc
  if pl.seq ≠ seqRUNNING then d
  else match pl.wait with
    | .fence kind =>
      let ok :=
        if kind = 0 then fenceCheck pl else if kind = 1 then fenceDma pl else if kind = 2 then fenceTine pl
        else if kind = 3 then fenceAll pl else fenceAll pl && fenceIdle pl
      if ok then
        let pl := go pl
        d.setPlot p (if kind = 4 then takeCheckpoint pl (pl.rg fPLOT_SEQ_STATUS_PC) else pl)
      else d
    | _ => d

/-- FENCE_SATISFIED (R150). -/
def execFenceSatisfied (p : Nat) (s : State) : Host.Outcome State Fault Refusal := onDev s (fun d => fenceSatisfied d p)

/-! ## WAIT and SIGNAL -/

/-- WAIT holds issue until the counter reaches I[IDX] + TARGET (R158). -/
def execWait (p : Nat) (s : State) : Host.Outcome State Fault Refusal :=
  onDev s (fun d => issueWord d p (isOp 0x0D) true (fun d _ w =>
    if bitsOf w 0 14 ≠ 0 then .stop 0x0C01
    else .done (d.modPlot p (fun pl =>
      { pl with wait := .wait (bitsOf w 50 8) ((pl.idx (bitsOf w 14 4) + bitsOf w 18 32) % 2 ^ 32) }))))

/-- Whether a counter satisfies a WAIT: counter − target, read as a signed 32-bit value, is zero or more (R158). -/
def waitMet (counter target : Nat) : Bool := decide (0 ≤ signedOf 32 ((counter + 2 ^ 32 - target) % 2 ^ 32))

/-- WAIT_SATISFIED: a counter add has satisfied the pending WAIT and issue resumes (R158). -/
def execWaitSatisfied (p : Nat) (s : State) : Host.Outcome State Fault Refusal :=
  onDev s (fun d =>
    let pl := d.plot p
    match pl.wait with
    | .wait c t =>
      if pl.seq = seqRUNNING && waitMet (d.syncGet p c) t then
        d.setPlot p (advance { pl with wait := .none } (pl.rg fPLOT_SEQ_STATUS_PC))
      else d
    | _ => d)

/-- SYNC_TIMEOUT: the WAIT expires unsatisfied and stops with 0x0C20 (R158). -/
def execSyncTimeout (p : Nat) (s : State) : Host.Outcome State Fault Refusal :=
  onDev s (fun d =>
    let pl := d.plot p
    match pl.wait with
    | .wait c t =>
      if pl.seq = seqRUNNING && !waitMet (d.syncGet p c) t then stopAt d p (pl.rg fPLOT_SEQ_STATUS_PC) 0x0C20 else d
    | _ => d)

/-- An outbound operation is queued for release, suppressed on a replay, or cancelled in a referee (R160, R165, R481). -/
def queueOut (referee : Bool) (pl : Plot) (k : OutKind) (pc : Nat) : Plot × Bool :=
  if referee then (pl, true)
  else if pl.suppress = 0 then ({ pl with outq := pl.outq ++ [⟨k, pc⟩] }, false)
  else ({ pl with suppress := pl.suppress - 1 }, true)

/-- Whether a device identifier names another device (R376). -/
def isRemote (d : Dev) (flag : Bool) (dev : Nat) : Bool := flag && dev ≠ d.rg fSOP_DEV_DEV_ID

/-- The effect of SIGNAL at issue (R157, R376). -/
def signalRun (d : Dev) (p pc w : Nat) : Issued :=
  let remote := isRemote d (bitOf w 41) (bitsOf w 42 16)
  let n := bitsOf w 31 10
  if bitsOf w 0 7 ≠ 0 then .stop 0x0C01
  else if !remote && (d.phys n).isNone then .stopFrom (recordFab d 0x0A02) 0x0C21
  else .done (d.setPlot p (queueOut (d.isReferee p) (d.plot p) (.signal (bitsOf w 42 16) remote n (bitsOf w 23 8) (bitsOf w 7 16)) pc).1)

/-- SIGNAL (R157). -/
def execSignal (p : Nat) (s : State) : Host.Outcome State Fault Refusal :=
  onDev s (fun d => issueWord d p (isOp 0x0C) false (fun d pc w => signalRun d p pc w))

/-! ## DMA -/

/-- A descriptor from its 64 bytes, and whether a reserved byte, bit or value is in it (R152). -/
def parseDesc (b : List Byte) : Desc × Bool :=
  let v (i n : Nat) : Nat := leValue ((b.drop i).take n)
  let d : Desc :=
    { srcDev := v 6 2, srcAddr := v 0 6, dstDev := v 14 2, dstAddr := v 8 6, length := v 16 4, rows := v 20 2,
      srcStride := v 24 4, dstStride := v 28 4, dstExt := bitsOf (v 32 1) 4 4, srcExt := bitsOf (v 32 1) 0 4,
      dstRemote := bitOf (v 33 1) 7, srcRemote := bitOf (v 33 1) 6, cls := bitsOf (v 33 1) 4 2,
      dstSpace := bitsOf (v 33 1) 2 2, srcSpace := bitsOf (v 33 1) 0 2, redop := bitsOf (v 34 1) 3 4,
      kind := bitsOf (v 34 1) 0 3, stream := bitsOf (v 35 1) 0 4, dlEn := bitOf (v 36 2) 15,
      deadline := bitsOf (v 36 2) 0 12 }
  let bad := v 22 2 ≠ 0 || bitOf (v 34 1) 7 || bitsOf (v 35 1) 4 4 ≠ 0 || bitsOf (v 36 2) 12 3 ≠ 0 ||
    (b.drop 38).any (fun x => x ≠ 0) || d.cls = 3 || d.dstSpace = 1 || d.dstSpace = 3 || 2 ≤ d.srcSpace ||
    2 ≤ d.kind || (d.kind = 1 && 6 ≤ d.redop)
  (d, bad)

/-- Whether a descriptor is an empty transfer (R152). -/
def Desc.empty (x : Desc) : Bool := x.rows = 0 || x.length = 0

/-- Bytes of one side's footprint (R152). -/
def Desc.span (x : Desc) (stride : Nat) : Nat := (x.rows - 1) * stride + x.length

/-- Base and size of an extent of plot `p` (R151). -/
def extentOf (d : Dev) (p e : Nat) : Nat × Nat :=
  if e = 0 then match d.ownNumber p with
    | some n => (scrWindow n, 0x100000)
    | none => (0, 0)
  else if e = 1 then match d.ownNumber p with
    | some n => (bedWindow n, 0x4000000)
    | none => (0, 0)
  else ((d.plot p).rg (fPLOT_DMA_EXT_BASE_BASE.at e), (d.plot p).rg (fPLOT_DMA_EXT_SIZE_SIZE.at e))

/-- Whether a footprint lies wholly inside an extent. -/
def inExtent (d : Dev) (p e a n : Nat) : Bool :=
  let x := extentOf d p e
  decide (x.1 ≤ a) && decide (a + n ≤ x.1 + x.2)

/-- A descriptor with the sides that name this device made local (R376). -/
def Desc.localise (x : Desc) (d : Dev) : Desc :=
  { x with srcRemote := isRemote d x.srcRemote x.srcDev, dstRemote := isRemote d x.dstRemote x.dstDev }

/-- The scratch offset of a descriptor's destination in the plot's own scratch. -/
def Desc.dstOwn (x : Desc) (d : Dev) (p : Nat) : Option Nat :=
  if x.dstRemote || x.dstSpace ≠ 0 then none else d.ownScratch p x.dstAddr

/-- The local address of a descriptor's source in the plot's own scratch or accumulator file. -/
def Desc.srcOwn (x : Desc) (d : Dev) (p : Nat) : Option Nat :=
  if x.srcSpace = 1 then some (0x100000 + x.srcAddr)
  else if x.srcRemote then none else d.ownScratch p x.srcAddr

/-- Whether a descriptor is inbound: its destination is the own scratch data area or an attention stream (R154). -/
def Desc.inbound (x : Desc) (d : Dev) (p : Nat) : Bool :=
  x.dstSpace = 2 || match x.dstOwn d p with
    | some off => decide (0x8000 ≤ off)
    | none => false

/-- The units a strided local range covers. -/
def stridedUnits (a stride length rows : Nat) : List Nat :=
  ((List.range rows).flatMap (fun i => unitsOf (a + i * stride) length)).eraseDups

/-- The units of a descriptor's own source. -/
def Desc.srcUnits (x : Desc) (d : Dev) (p : Nat) : List Nat :=
  if x.empty then [] else match x.srcOwn d p with
    | some a => stridedUnits a x.srcStride x.length x.rows
    | none => []

/-- The units of a descriptor's own destination. -/
def Desc.dstUnits (x : Desc) (d : Dev) (p : Nat) : List Nat :=
  if x.empty then [] else match x.dstOwn d p with
    | some a => stridedUnits a x.dstStride x.length x.rows
    | none => []

/-- The code that rejects one descriptor, in the order of R152; 0 when none does (R138, R153, R161). -/
def descStop (d : Dev) (p : Nat) (x : Desc) (bad : Bool) : Nat :=
  let k := redopSize x.redop
  let sn := x.span x.srcStride
  let dn := x.span x.dstStride
  if bad then 0x0C01
  else if x.srcRemote && x.dstRemote then 0x0C05
  else if x.kind = 1 && (x.dstSpace = 2 || 0x1800000000 ≤ x.dstAddr) then 0x0C11
  else if x.empty then 0
  else if x.kind = 1 && (x.length % k ≠ 0 || x.srcAddr % k ≠ 0 || x.dstAddr % k ≠ 0 || x.srcStride % k ≠ 0 ||
      x.dstStride % k ≠ 0) then 0x0C04
  else if !(if x.srcSpace = 1 then decide (x.srcAddr + sn ≤ 0x20000) else inExtent d p x.srcExt x.srcAddr sn) then 0x0C10
  else if x.dstSpace = 0 && !inExtent d p x.dstExt x.dstAddr dn then 0x0C10
  else if (x.dstOwn d p).any (fun off => off < 0x8000) then 0x0C06
  else if regionConflict (d.plot p) (x.srcUnits d p) (x.dstUnits d p) then 0x0C30
  else 0

/-- The first failing descriptor of a DMA instruction: its index and code (R152). -/
def firstBadDesc (d : Dev) (p : Nat) : List (Nat × Desc × Bool) → Option (Nat × Nat)
  | [] => none
  | (i, x, bad) :: t =>
    let c := descStop d p x bad
    if c = 0 then firstBadDesc d p t else some (i, c)

/-- PLOT_DMA_ERR takes the first error (R170). -/
def dmaErr (pl : Plot) (desc code remote : Nat) : Plot :=
  if pl.rg fPLOT_DMA_ERR_CODE ≠ 0 then pl
  else ((pl.rs fPLOT_DMA_ERR_CODE code).rs fPLOT_DMA_ERR_DESC desc).rs fPLOT_DMA_ERR_REMOTE_CODE remote

/-- A descriptor is accepted: marks are set, and an outbound one is queued for release (R154, R160, R161). -/
def acceptDesc (d : Dev) (p pc : Nat) (ctr : Option Nat) (i : Nat) (x : Desc) : Dev :=
  let pl := d.plot p
  let inb := x.inbound d p
  let dst := x.dstUnits d p
  let a := (x.dstOwn d p).getD 0
  let pl := markRead pl (x.srcUnits d p)
  let pl := markWrite pl dst (fun u => (List.range x.rows).any (fun r => coversUnit (a + r * x.dstStride) x.length u))
  let id := pl.nextIssue
  let run : DmaRun := ⟨id, i, pc, ctr, !inb, inb, 0, 0, 0, 0, false, [], none, x⟩
  let pl := { pl with nextIssue := id + 1 }
  if inb then d.setPlot p { pl with dmas := pl.dmas ++ [run] }
  else
    let q := queueOut (d.isReferee p) pl (.desc id) pc
    d.setPlot p (if q.2 then q.1 else { q.1 with dmas := q.1.dmas ++ [run] })

/-- The effect of DMA at issue: every descriptor is read and checked before any is accepted (R152). -/
def dmaRun (d : Dev) (p pc w : Nat) : Issued :=
  let first := bitsOf w 50 8
  let count := bitsOf w 42 8
  if bitsOf w 0 33 ≠ 0 then .stop 0x0C01
  else if count = 0 then .done d
  else if 256 < first + count then .stopFrom (d.modPlot p (fun pl => dmaErr pl first 0x0C10 0)) 0x0C10
  else
    let r := plotRead d p pc (0x1000 + first * 64) (count * 64)
    if (r.1.plot p).seq ≠ seqRUNNING then .done r.1
    else
      let xs := (List.range count).map (fun i =>
        let q := parseDesc ((r.2.drop (i * 64)).take 64)
        (first + i, q.1.localise d, q.2))
      match firstBadDesc d p xs with
      | some e => .stopFrom (d.modPlot p (fun pl => dmaErr pl e.1 e.2 0)) e.2
      | none =>
        let ctr := if bitOf w 33 then some (bitsOf w 34 8) else none
        .done (xs.foldl (fun d e => acceptDesc d p pc ctr e.1 e.2.1) d)

/-- DMA (R152). -/
def execDma (p : Nat) (s : State) : Host.Outcome State Fault Refusal :=
  onDev s (fun d => issueWord d p (isOp 0x20) false (fun d pc w => dmaRun d p pc w))

/-! ## Commands of PLOT_SEQ_CTRL (R136) -/

/-- START: runs from `pc` with cleared index registers, loops and configurations, after the actions of a checkpoint
(R136, R163). -/
def seqStart (d : Dev) (p pc : Nat) : Dev :=
  let pl := d.plot p
  let pl := pl.rs fPLOT_SEQ_CTRL_PC pc
  let d := d.setPlot p pl
  if pl.seq = seqUNSOWN then recordPlot d p 0x0C3B
  else if pl.seq ≠ seqIDLE then recordPlot d p 0x0C3C
  else
    let pl := (List.range 15).foldl (fun pl i => pl.setIdx (i + 1) 0) pl
    let pl := { pl with
      loops := [], mat := MatCfg.reset, att := AttPipe.reset, wait := .none, abortPending := false,
      units := (pl.units.map (fun e => (e.1, { e.2 with wrote := false }))).filter (fun e => e.2 ≠ UnitSt.idle) }
    let pl := takeCheckpoint pl pc
    let pl := ((pl.rs fPLOT_SEQ_STOP_CODE 0).rs fPLOT_DMA_ERR_CODE 0).rs fPLOT_SEQ_STATUS_PC pc
    d.setPlot p (pl.rs fPLOT_SEQ_STATUS_STATE seqRUNNING)

/-- REPLAY: from STOPPED, the checkpoint is restored, every FAILED unit becomes CLOSED, and the first OUT_DONE outbound
operations are suppressed (R165). -/
def seqReplay (d : Dev) (p : Nat) : Dev :=
  let pl := d.plot p
  if pl.seq = seqUNSOWN then recordPlot d p 0x0C3B
  else if pl.seq ≠ seqSTOPPED then recordPlot d p 0x0C3C
  else
    let c := pl.ckpt
    let pl := ((List.range 15).zip c.idx).foldl (fun pl e => pl.setIdx (e.1 + 1) e.2) pl
    let pl := clearMarks (clearFailedUnits (dropTiles pl))
    let pl := { pl with
      loops := c.loops, mat := c.mat, wait := .none,
      att := { AttPipe.reset with cfg := c.att },
      suppress := pl.rg fPLOT_SEQ_REPLAY_OUT_DONE }
    d.setPlot p ((pl.rs fPLOT_SEQ_STATUS_PC (pl.rg fPLOT_SEQ_REPLAY_CKPT_PC)).rs fPLOT_SEQ_STATUS_STATE seqRUNNING)

/-- ABORT (R136). -/
def seqAbort (d : Dev) (p : Nat) : Dev :=
  let pl := d.plot p
  if pl.seq = seqRUNNING then
    d.setPlot p { ((pl.rs fPLOT_SEQ_STATUS_STATE seqSTOPPING).rs fPLOT_SEQ_STOP_CODE 0).rs fPLOT_SEQ_STOP_PC
      (pl.rg fPLOT_SEQ_STATUS_PC) with abortPending := true, wait := .none }
  else if pl.seq = seqSTOPPED then d.setPlot p (clearMarks (pl.rs fPLOT_SEQ_STATUS_STATE seqIDLE))
  else recordPlot d p 0x0C3C

/-- CLEAR_FAILED (R136). -/
def seqClearFailed (d : Dev) (p : Nat) : Dev :=
  let pl := d.plot p
  if pl.seq = seqIDLE ∨ pl.seq = seqSTOPPED then d.setPlot p (clearFailedUnits pl) else recordPlot d p 0x0C3C

/-- START (R136). -/
def execStart (p pc : Nat) (s : State) : Host.Outcome State Fault Refusal :=
  onDev s (fun d => if isPlot p then seqStart (wakePlot d p) p (pc % 8192) else d)

/-- REPLAY (R165). -/
def execReplay (p : Nat) (s : State) : Host.Outcome State Fault Refusal :=
  onDev s (fun d => if isPlot p then seqReplay (wakePlot d p) p else d)

/-- ABORT (R136). -/
def execAbort (p : Nat) (s : State) : Host.Outcome State Fault Refusal :=
  onDev s (fun d => if isPlot p then seqAbort (wakePlot d p) p else d)

/-- CLEAR_FAILED (R136). -/
def execClearFailed (p : Nat) (s : State) : Host.Outcome State Fault Refusal :=
  onDev s (fun d => if isPlot p then seqClearFailed (wakePlot d p) p else d)

/-- Whether the outbound operation at the head of the queue can still be released: it depends on no FAILED unit (R164). -/
def outBlocked (d : Dev) (p : Nat) (pl : Plot) : Bool :=
  match pl.outq with
  | [] => true
  | o :: _ => match o.kind with
    | .desc id => match pl.dmas.find? (fun x => x.id = id) with
      | some run => unitsFailed pl (run.d.srcUnits d p)
      | none => true
    | _ => false

/-- Whether everything issued has completed and every check closed, but for unreleased outbound operations (R136). -/
def issuedDrained (pl : Plot) : Bool :=
  pl.rowChecks.isEmpty && pl.vecChecks.isEmpty && pl.attChecks.isEmpty && !pl.loading && pl.waitLoad.isNone &&
    pl.dmas.all (fun x => !x.released) && pl.issues.all (fun x => !x.released)

/-- SEQ_DRAIN_DONE: in STOPPING, everything issued is complete. With ABORT pending the plot goes IDLE, its outbound
operations cancelled and its marks cleared; else STOPPED, the outbound operations settled, and the stop interrupt raised
(R136, R164). -/
def seqDrainDone (d : Dev) (p : Nat) : Dev :=
  let pl := d.plot p
  if pl.seq = seqSTOPPING && issuedDrained pl && (pl.abortPending || outBlocked d p pl) then
    let pl := { pl with
      outq := [], dmas := pl.dmas.filter (·.released), issues := pl.issues.filter (·.released) }
    if pl.abortPending then
      d.setPlot p (clearMarks { pl.rs fPLOT_SEQ_STATUS_STATE seqIDLE with abortPending := false })
    else plotIrq (d.setPlot p (pl.rs fPLOT_SEQ_STATUS_STATE seqSTOPPED)) p 0
  else d

/-! ## Register writes of the sequencer -/

/-- A write to PLOT_SEQ_IDX[i] (R170). -/
def writeSeqIdx (d : Dev) (p i v : Nat) : Dev :=
  let pl := d.plot p
  if pl.seq = seqRUNNING ∨ pl.seq = seqSTOPPING then recordPlot d p 0x0C3C
  else d.setPlot p (pl.setIdx i (v % 2 ^ 32))

/-- A word stored in program memory with fresh check bits; an armed flip of its class hits it (R170, R497). -/
def pmStore (pl : Plot) (i w : Nat) : Plot :=
  let pl := { pl with
    pm := SMap.set 0xFFFFFFFFFFFFFFFF pl.pm i (w % 2 ^ 64), pmErr := SMap.set 0 pl.pmErr i 0 }
  if flipArmed pl 1 then { pl with pmErr := SMap.set 0 pl.pmErr i (flipMask pl 72) }.rs fPLOT_MEM_FLIP_ARM 0 else pl

/-- A write to PLOT_PM_DATA (R170). -/
def writePmData (d : Dev) (p v : Nat) : Dev :=
  let pl := d.plot p
  if pl.seq = seqRUNNING ∨ pl.seq = seqSTOPPING then recordPlot d p 0x0C3C
  else d.setPlot p (pmStore pl (pl.rg fPLOT_PM_ADDR_INDEX) v)

/-- PLOT_SEQ_IDX_WRITE (R170). -/
def execPlotSeqIdxWrite (p i data : Nat) (s : State) : Host.Outcome State Fault Refusal :=
  onDev s (fun d => if isPlot p && i < 16 then writeSeqIdx (wakePlot d p) p i data else d)

/-- PLOT_PM_DATA_WRITE (R170). -/
def execPlotPmDataWrite (p data : Nat) (s : State) : Host.Outcome State Fault Refusal :=
  onDev s (fun d => if isPlot p then writePmData (wakePlot d p) p data else d)

/-- PLOT_SYNC_CTR_WRITE (R156). -/
def execPlotSyncCtrWrite (p c data : Nat) (s : State) : Host.Outcome State Fault Refusal :=
  onDev s (fun d => if isPlot p && c < 256 then (wakePlot d p).syncSet p c data else d)

/-- A write to an extent register: extents 0 and 1 are fixed (R151, R170). -/
def writeDmaExt (pl : Plot) (e : Nat) (size : Bool) (v : Nat) : Plot :=
  if e < 2 then pl else pl.rs ((if size then fPLOT_DMA_EXT_SIZE_SIZE else fPLOT_DMA_EXT_BASE_BASE).at e) v

/-- PLOT_DMA_EXT_WRITE (R151). -/
def execPlotDmaExtWrite (p e : Nat) (size : Bool) (data : Nat) (s : State) : Host.Outcome State Fault Refusal :=
  onDev s (fun d => if isPlot p && e < 16 then (wakePlot d p).modPlot p (fun pl => writeDmaExt pl e size data) else d)

/-! ## Sowing (R166 to R169) -/

/-- One byte into the CRC-64 of R167 (ECMA-182, no reflection). -/
def crc64Byte (c b : Nat) : Nat :=
  (List.range 8).foldl (fun c i =>
    let top := (c / 2 ^ 63 + b / 2 ^ (7 - i)) % 2
    let s := c * 2 % 2 ^ 64
    if top = 1 then s ^^^ 0x42F0E1EBA9EA3693 else s) c

/-- The CRC-64 of bytes, continued from `c` (R167, R197). -/
def crc64 (c : Nat) (bytes : List Byte) : Nat := bytes.foldl (fun c b => crc64Byte c b.toNat) c

/-- The result of a sow packet that the plot refuses (R168). -/
def sowRefuse (d : Dev) (p code : Nat) : Dev :=
  recordPlot (d.modPlot p (fun pl => pl.rs fPLOT_SOW_STATUS_RESULT code)) p code

/-- BEGIN (R136, R168). -/
def sowBegin (d : Dev) (p gen lib base count crc : Nat) : Dev :=
  let pl := d.plot p
  if pl.seq = seqRUNNING ∨ pl.seq = seqSTOPPING then sowRefuse d p 0x0C3A
  else if 8192 < base + count then sowRefuse d p 0x0C10
  else
    let pl := (((pl.rs fPLOT_SEQ_STATUS_STATE seqUNSOWN).rs fPLOT_SOW_STATUS_GEN gen).rs fPLOT_SOW_STATUS_PACKETS 0).rs
      fPLOT_SOW_STATUS_STATE 1
    d.setPlot p { pl with sow := some ⟨gen, lib, base, count, crc, 0, [], 0⟩ }

/-- DATA (R168): the words go to BASE + 32 × SEQ onward; a wrong SEQ marks the sow failed. -/
def sowData (d : Dev) (p gen seq : Nat) (words : List Nat) : Dev :=
  let pl := d.plot p
  match pl.sow with
  | none => d
  | some s =>
    if s.gen ≠ gen then d
    else
      let ws := (words.take 32).take (s.count - 32 * seq)
      let pl := ((List.range ws.length).zip ws).foldl (fun pl e => pmStore pl ((s.base + 32 * seq + e.1) % 8192) e.2) pl
      let pl := pl.rs fPLOT_SOW_STATUS_PACKETS (satAdd 256 (pl.rg fPLOT_SOW_STATUS_PACKETS) 1)
      let s := if seq = s.next then { s with next := s.next + 1, words := s.words ++ ws } else { s with fail := 0x0C39 }
      d.setPlot p { pl with sow := some s }

/-- END (R168, R169): packet count and CRC are checked, the sow ends, and the plot acknowledges. -/
def sowEnd (d : Dev) (p gen packets : Nat) : Dev :=
  let pl := d.plot p
  match pl.sow with
  | none => d
  | some s =>
    if s.gen ≠ gen then d
    else
      let crc := crc64 0 (s.words.flatMap (leBytes 8))
      let got := pl.rg fPLOT_SOW_STATUS_PACKETS
      let res :=
        if s.fail ≠ 0 then s.fail
        else if packets = got ∧ packets = (s.count + 31) / 32 ∧ crc = s.crc % 2 ^ 64 then 0 else 0x0C38
      let pl := (pl.rs fPLOT_SOW_STATUS_RESULT res).rs fPLOT_SOW_CRC_CRC crc
      let pl := { pl with sow := none }
      if res = 0 then
        let pl := ((pl.rs fPLOT_SOW_STATUS_STATE 2).rs fPLOT_SOW_LIB_LIB_ID s.lib).rs fPLOT_SEQ_STATUS_PM_CORR 0
        let d := d.setPlot p (pl.rs fPLOT_SEQ_STATUS_STATE seqIDLE)
        { d with sowRound := d.sowRound.map (fun r => { r with
          todo := r.todo.filter (fun e => e.1 ≠ p || (r.libs[e.2]?).all (fun l => l.id ≠ s.lib)) }) }
      else recordPlot (d.setPlot p (pl.rs fPLOT_SOW_STATUS_STATE 3)) p res

/-- SOW_BEGIN (R168). -/
def execSowBegin (p gen lib base count crc : Nat) (s : State) : Host.Outcome State Fault Refusal :=
  onDev s (fun d => if isPlot p then sowBegin d p gen lib base count crc else d)

/-- SOW_DATA (R168). -/
def execSowData (p gen seq : Nat) (words : List Nat) (s : State) : Host.Outcome State Fault Refusal :=
  onDev s (fun d => if isPlot p then sowData d p gen seq words else d)

/-- SOW_END (R168). -/
def execSowEnd (p gen packets : Nat) (s : State) : Host.Outcome State Fault Refusal :=
  onDev s (fun d => if isPlot p then sowEnd d p gen packets else d)

end Sys2Proof.Machine
end

