-- ==== Sys2Proof/Machine/Beds.lean ====
section
/-! DEFINITION. Bed channels (chapter 5): memory and tine mode, the hold queue, issues, refresh, spare rows. -/

namespace Sys2Proof.Machine

/-! ## Requests of fabric masters -/

/-- Values of BED_CH_STATUS.MODE (R210). -/
def chMEMORY : Nat := 0
def chTO_TINE : Nat := 1
def chTINE : Nat := 2
def chTO_MEMORY : Nat := 3
def chHELD : Nat := 4

/-- The mode of a channel (R178). -/
def Plot.chMode (pl : Plot) (ch : Nat) : Nat := pl.rg (fBED_CH_STATUS_MODE.at ch)

/-- The plot with a channel's mode changed. -/
def Plot.setMode (pl : Plot) (ch m : Nat) : Plot := pl.rs (fBED_CH_STATUS_MODE.at ch) m

/-- The offset in the bed that a request names. -/
def bedOffset (a : Nat) : Nat := a % 0x4000000

/-- A deadline request that is served late by a bed, scratch or a register block is counted (R309). -/
def lateOther (d : Dev) (r : FabReq) : Dev := if r.slack.isSome && r.late then d.count fFAB_LATE_OTHER_LATE 1 else d

/-- Whether a request is the weeder's: its bed reads carry the scrub flag (R294). -/
def reqScrub (r : FabReq) : Bool :=
  match r.master with
  | .weeder _ => true
  | _ => false

/-- A memory-mode request is performed at the bed of physical plot `p` and answered (R174, R175, R294). -/
def bedPerform (d : Dev) (p : Nat) (r : FabReq) : Dev :=
  let n := match r.op with
    | .read len => len
    | .write data => data.length
    | .reduce _ _ => 0
  let d := plotEvent (lateOther d r) p 0x110 ((n + 31) / 32) (some r.cls) (some r.addr)
  match r.op with
  | .read len =>
    let q := bedRead d p (bedOffset r.addr) len (reqScrub r)
    fabAnswer q.1 r q.2.2 q.2.1
  | .write data =>
    let q := bedWrite d p (bedOffset r.addr) data
    fabAnswer q.1 r q.2 []
  | .reduce _ _ => fabAnswer d r 0x0A01 []

/-- Entries that the router holds move into a hold queue with room (R179). -/
def holdRefill (c : Channel) : Channel :=
  let n := 32 - c.hold.length
  { c with hold := c.hold ++ c.router.take n, router := c.router.drop n }

/-- The first `n` entries of a hold queue are served in arrival order (R178, R179). -/
def holdServe : Nat → Dev → Nat → Nat → Dev
  | 0, d, _, _ => d
  | n + 1, d, p, ch =>
    let c := (d.plot p).chan ch
    match c.hold with
    | [] => d
    | r :: t => holdServe n (bedPerform (d.modPlot p (fun pl => pl.setChan ch (holdRefill { c with hold := t }))) p r) p ch

/-- The batch limit ends a batch: the channel's tines pause at the next column boundary (R178). -/
def preempt (pl : Plot) (ch : Nat) : Plot :=
  let c := pl.chan ch
  let pl := (pl.setMode ch chTO_MEMORY).count (fBED_CH_CNT_PREEMPTS.at ch) 1
  let pl := pl.setChan ch { c with suspended := true, heldAtPause := c.hold.length }
  (List.range 4).foldl (fun pl k =>
    let f := fBED_TINE_STATUS_STATE.bit (4 * ch + k)
    if pl.rg f = 1 then pl.rs f 2 else pl) pl

/-- A memory-mode request reaches a channel: performed in MEMORY and HELD, else held (R178, R179). -/
def bedRequest (d : Dev) (p : Nat) (r : FabReq) : Dev :=
  let ch := bedOffset r.addr / 2 ^ 24
  let pl := d.plot p
  let c := pl.chan ch
  let m := pl.chMode ch
  if m = chMEMORY ∨ (m = chHELD ∧ c.hold.isEmpty) then bedPerform d p r
  else if c.hold.length < 32 then
    let pl := pl.setChan ch { c with hold := c.hold ++ [r] }
    d.setPlot p (if m = chTINE ∧ c.batchOver then preempt pl ch else pl)
  else
    d.setPlot p ((pl.setChan ch { c with router := c.router ++ [r] }).count (fBED_CH_CNT_BACKPRESSURE.at ch) 1)

/-! ## Issues and modes (R178, R185, R186) -/

/-- The plot with a tine replaced. -/
def Plot.setTine (pl : Plot) (t : Nat) (x : Tine) : Plot := { pl with tines := SMap.set Tine.reset pl.tines t x }

/-- Tine `t` of a plot. -/
def Plot.tine (pl : Plot) (t : Nat) : Tine := SMap.get Tine.reset pl.tines t

/-- The next queued issue of a channel starts: its argument block is read, and its four tines start at ENTRY (R185). -/
def startIssue (d : Dev) (p ch : Nat) : Dev :=
  let pl := d.plot p
  let c := pl.chan ch
  match c.queue with
  | [] => d
  | id :: rest =>
    match pl.issues.find? (fun x => x.id = id) with
    | none => d.setPlot p (pl.setChan ch { c with queue := rest })
    | some i =>
      let r := plotRead d p i.pc (0x5000 + i.arg * 128) 128
      let args := unpackCodes 64 16 r.2
      let pl := r.1.plot p
      let pl := pl.setChan ch { (pl.chan ch) with queue := rest, cur := some id, args := args }
      let pl := (List.range 4).foldl (fun pl k =>
        (pl.setTine (4 * ch + k) { Tine.reset with pc := i.entry }).rs (fBED_TINE_STATUS_STATE.bit (4 * ch + k)) 1) pl
      r.1.setPlot p (pl.rs fBED_TINE_STOP_CODE 0)

/-- An issue reaches its channels: a channel in MEMORY goes to TO_TINE (R178). -/
def issueArrives (pl : Plot) (id chmask : Nat) : Plot :=
  (List.range 4).foldl (fun pl ch =>
    if bitOf chmask ch then
      let c := pl.chan ch
      let pl := pl.setChan ch { c with queue := c.queue ++ [id] }
      if pl.chMode ch = chMEMORY then pl.setMode ch chTO_TINE else pl
    else pl) pl

/-- The effect of TISSUE (R149, R160, R185). -/
def tissueRun (d : Dev) (p pc w : Nat) : Issued :=
  let pl := d.plot p
  let chmask := bitsOf w 54 4
  let outbound := bitOf w 33
  let ctr := if bitOf w 24 then some (bitsOf w 25 8) else none
  if bitsOf w 0 24 ≠ 0 then .stop 0x0C01
  else if chmask = 0 then .done (match ctr with
    | some c => if outbound && d.isReferee p then d else d.syncAdd p c 1
    | none => d)
  else
    let id := pl.nextIssue
    let i : Issue := ⟨id, pc, chmask, bitsOf w 48 6, bitsOf w 34 14, outbound, ctr, !outbound, [], 0, false⟩
    let pl := { pl with nextIssue := id + 1 }
    if outbound then
      let q := queueOut (d.isReferee p) pl (.tissue id) pc
      .done (d.setPlot p (if q.2 then q.1 else { q.1 with issues := q.1.issues ++ [i] }))
    else .done (d.setPlot p (issueArrives { pl with issues := pl.issues ++ [i] } id chmask))

/-- TISSUE (R185). -/
def execTissue (p : Nat) (s : State) : Host.Outcome State Fault Refusal :=
  onDev s (fun d => issueWord d p (isOp 0x24) false (fun d pc w => tissueRun d p pc w))

/-- CHANNEL_TO_TINE_DONE: each bank that owes refresh has performed one, the batch timer starts at 0, and tines start or
resume (R178). -/
def channelToTineDone (d : Dev) (p ch : Nat) : Dev :=
  let pl := d.plot p
  if pl.chMode ch ≠ chTO_TINE then d
  else
    let pl := pl.setMode ch chTINE
    let pl := (List.range 8).foldl (fun pl b =>
      let f := (fBED_CH_OWED_OWED.at ch).bit b
      pl.rs f (pl.rg f - 1)) pl
    let c := pl.chan ch
    let pl := pl.setChan ch { c with suspended := false, batchOver := false }
    match c.cur with
    | some id =>
      let stopped := (pl.issues.find? (fun x => x.id = id)).any (fun x => x.stop ≠ 0)
      d.setPlot p (if stopped then pl else (List.range 4).foldl (fun pl k =>
        let f := fBED_TINE_STATUS_STATE.bit (4 * ch + k)
        if pl.rg f = 2 then pl.rs f 1 else pl) pl)
    | none => startIssue (d.setPlot p pl) p ch

/-- CHANNEL_TO_TINE_DONE (R178). -/
def execChannelToTineDone (p ch : Nat) (s : State) : Host.Outcome State Fault Refusal :=
  onDev s (fun d => if isPlot p && ch < 4 then channelToTineDone d p ch else d)

/-- BATCH_LIMIT_EXPIRY: the batch timer reaches the limit; a hold queue that is not empty preempts the tines (R178,
R180). -/
def execBatchLimitExpiry (p ch : Nat) (s : State) : Host.Outcome State Fault Refusal :=
  onDev s (fun d =>
    let pl := d.plot p
    if isPlot p && ch < 4 && pl.chMode ch = chTINE then
      let c := pl.chan ch
      let pl := pl.setChan ch { c with batchOver := true }
      d.setPlot p (if c.hold.isEmpty then pl else preempt pl ch)
    else d)

/-- CHANNEL_TO_MEMORY_DONE: HELD when tine work is suspended, else MEMORY with the hold queue served (R178). -/
def channelToMemoryDone (d : Dev) (p ch : Nat) : Dev :=
  let pl := d.plot p
  let c := pl.chan ch
  if pl.chMode ch ≠ chTO_MEMORY then d
  else if c.suspended then d.setPlot p (pl.setMode ch chHELD)
  else
    let d := holdServe (c.hold.length + c.router.length) (d.setPlot p (pl.setMode ch chMEMORY)) p ch
    d.modPlot p (fun pl => if (pl.chan ch).queue.isEmpty then pl else pl.setMode ch chTO_TINE)

/-- CHANNEL_TO_MEMORY_DONE (R178). -/
def execChannelToMemoryDone (p ch : Nat) (s : State) : Host.Outcome State Fault Refusal :=
  onDev s (fun d => if isPlot p && ch < 4 then channelToMemoryDone d p ch else d)

/-- HELD_QUEUE_SERVED: every entry held at the pause is served, and the channel returns to its tines (R178). -/
def heldQueueServed (d : Dev) (p ch : Nat) : Dev :=
  let pl := d.plot p
  let c := pl.chan ch
  if pl.chMode ch ≠ chHELD then d
  else
    let d := holdServe c.heldAtPause d p ch
    d.modPlot p (fun pl =>
      let c := pl.chan ch
      let pl := pl.setChan ch { c with heldAtPause := 0 }
      if c.cur.isSome || !c.queue.isEmpty then pl.setMode ch chTO_TINE else pl.setMode ch chTO_MEMORY)

/-- HELD_QUEUE_SERVED (R178). -/
def execHeldQueueServed (p ch : Nat) (s : State) : Host.Outcome State Fault Refusal :=
  onDev s (fun d => if isPlot p && ch < 4 then heldQueueServed d p ch else d)

/-- The tines of the channels of an issue. -/
def issueTines (chmask : Nat) : List Nat := (List.range 16).filter (fun t => bitOf chmask (t / 4))

/-- Whether every named channel runs the issue and every tine has ended and closed its checks, or the issue has stopped
(R186, R201). -/
def issueEnded (pl : Plot) (i : Issue) : Bool :=
  i.released && (List.range 4).all (fun ch => !bitOf i.chmask ch || (pl.chan ch).cur = some i.id) &&
    (i.stop ≠ 0 || (issueTines i.chmask).all (fun t => (pl.tine t).ended && (pl.tine t).checks.isEmpty))

/-- A channel's issue is complete: the next one starts, or the channel leaves tine mode (R178). -/
def channelNext (d : Dev) (p ch : Nat) : Dev :=
  let pl := d.plot p
  let c := pl.chan ch
  let pl := pl.setChan ch { c with cur := none, suspended := false }
  let pl := (List.range 4).foldl (fun pl k =>
    let f := fBED_TINE_STATUS_STATE.bit (4 * ch + k)
    if pl.rg f = 3 then pl else pl.rs f 0) pl
  if pl.chMode ch ≠ chTINE then d.setPlot p pl
  else if c.queue.isEmpty then d.setPlot p (pl.setMode ch chTO_MEMORY)
  else startIssue (d.setPlot p pl) p ch

/-- TINE_ISSUE_COMPLETE: the first complete issue advances its counter and leaves its channels (R178, R186). -/
def tineIssueComplete (d : Dev) (p : Nat) : Dev :=
  let pl := d.plot p
  match pl.issues.find? (fun i => issueEnded pl i && (i.stop ≠ 0 || i.applied ||
      (issueTines i.chmask).all (fun t => (pl.tine t).wbuf.isEmpty))) with
  | none => d
  | some i =>
    let d := d.setPlot p { pl with issues := pl.issues.filter (fun x => x.id ≠ i.id) }
    let d := match i.stop, i.ctr with
      | 0, some c => d.syncAdd p c 1
      | _, _ => d
    (List.range 4).foldl (fun d ch => if bitOf i.chmask ch then channelNext d p ch else d) d

/-- TINE_ISSUE_COMPLETE (R186). -/
def execTineIssueComplete (p : Nat) (s : State) : Host.Outcome State Fault Refusal :=
  onDev s (fun d => tineIssueComplete d p)

/-- One buffered word applied to the bed: stored, or added under R79, as a read-modify-write of its column (R196). -/
def applyWord (d : Dev) (p : Nat) (b : BedWrite) : Dev :=
  match b.add with
  | none => (bedWrite d p b.addr (leBytes b.bytes b.value)).1
  | some ty =>
    let r := bedRead d p b.addr 4 false
    if r.2.2 ≠ 0 then recordPlot r.1 p 0x0D02
    else
      let old := leValue r.2.1
      let new := if ty = 0 then code32 (add32 (val32 old) (val32 b.value)).1 else (old + b.value) % 2 ^ 32
      (bedWrite r.1 p b.addr (leBytes 4 new)).1

/-- TINE_BUFFER_APPLY: the write buffers of the first ended issue without a stop are applied, tine by tine in instruction
order (R196). -/
def tineBufferApply (d : Dev) (p : Nat) : Dev :=
  let pl := d.plot p
  match pl.issues.find? (fun i => issueEnded pl i && i.stop = 0 && !i.applied &&
      (issueTines i.chmask).all (fun t => (pl.tine t).deps.isEmpty && !(pl.tine t).bad)) with
  | none => d
  | some i =>
    let d := (issueTines i.chmask).foldl (fun d t => (pl.tine t).wbuf.foldl (fun d b => applyWord d p b) d) d
    d.modPlot p (fun pl => { pl with
      issues := pl.issues.map (fun x => if x.id = i.id then { x with applied := true } else x) })

/-- TINE_BUFFER_APPLY (R196). -/
def execTineBufferApply (p : Nat) (s : State) : Host.Outcome State Fault Refusal := onDev s (fun d => tineBufferApply d p)

/-! ## Refresh (R202 to R206) -/

/-- REFRESH_DUE: the owed count rises, or at 4 a refresh is forced at once (R204, R206). -/
def refreshDue (d : Dev) (p ch b : Nat) : Dev :=
  d.modPlot p (fun pl =>
    let f := (fBED_CH_OWED_OWED.at ch).bit b
    if pl.rg f < 4 then pl.rs f (pl.rg f + 1)
    else
      let c := pl.chan ch
      (pl.setChan ch { c with refreshing := withBit c.refreshing b }).count (fBED_CH_CNT_FORCED_REFRESH.at ch) 1)

/-- REFRESH_DUE (R204). -/
def execRefreshDue (p ch bank : Nat) (s : State) : Host.Outcome State Fault Refusal :=
  onDev s (fun d => if isPlot p && ch < 4 && bank < 8 then refreshDue d p ch bank else d)

/-- Whether R205 lets an owed refresh of a bank start: no queued request targets it in the memory-side modes; in TINE its
partner is not refreshing. -/
def refreshMay (pl : Plot) (ch b : Nat) : Bool :=
  let c := pl.chan ch
  let m := pl.chMode ch
  0 < pl.rg ((fBED_CH_OWED_OWED.at ch).bit b) && !bitOf c.refreshing b &&
    (if m = chTINE then !bitOf c.refreshing (if b % 2 = 0 then b + 1 else b - 1)
      else if m = chTO_TINE then true
      else !(c.hold ++ c.router).any (fun r => bedOffset r.addr / 2 ^ 21 % 8 = b))

/-- REFRESH_START: an owed refresh starts (R205). -/
def execRefreshStart (p ch bank : Nat) (s : State) : Host.Outcome State Fault Refusal :=
  onDev s (fun d => d.modPlot p (fun pl =>
    if isPlot p && ch < 4 && bank < 8 && refreshMay pl ch bank then
      let f := (fBED_CH_OWED_OWED.at ch).bit bank
      let c := pl.chan ch
      (pl.setChan ch { c with refreshing := withBit c.refreshing bank }).rs f (pl.rg f - 1)
    else pl))

/-- REFRESH_DONE: the bank is available again (R202). -/
def execRefreshDone (p ch bank : Nat) (s : State) : Host.Outcome State Fault Refusal :=
  onDev s (fun d => if isPlot p && ch < 4 && bank < 8 then d.modPlot p (fun pl =>
    let c := pl.chan ch
    pl.setChan ch { c with refreshing := clearBit c.refreshing bank }) else d)

/-! ## Spare rows (R208, R209) -/

/-- REMAP_COPY_START: in MEMORY or HELD, the first suspect row at the threshold with a free spare begins its copy
(R208). -/
def remapCopyStart (d : Dev) (p ch : Nat) : Dev :=
  d.modPlot p (fun pl =>
    let c := pl.chan ch
    let thr := pl.rg (fBED_CH_CFG_REMAP_THRESHOLD.at ch)
    let used (b : Nat) : Nat := pl.rg ((fBED_CH_SPARES_USED.at ch).bit b)
    if (pl.chMode ch = chMEMORY ∨ pl.chMode ch = chHELD) ∧ c.copying.isNone then
      match c.suspects.find? (fun s => decide (thr ≤ s.count) && decide (used s.bank < 8)) with
      | some s => pl.setChan ch { c with copying := some (s.bank, s.row, used s.bank) }
      | none => pl
    else pl)

/-- REMAP_COPY_START (R208). -/
def execRemapCopyStart (p ch : Nat) (s : State) : Host.Outcome State Fault Refusal :=
  onDev s (fun d => if isPlot p && ch < 4 then remapCopyStart d p ch else d)

/-- One column of a remap copy: a correctable column is written corrected and freshly encoded, an uncorrectable one is
copied raw and recorded with 0x0D03 (R208). -/
def remapColumn (d : Dev) (p col : Nat) : Dev :=
  let pl := d.plot p
  let ch := col / 2 ^ 19
  match decodeCol (SMap.get [] pl.bedErr col) with
  | .clean => bedReadCol.bedEncode d p col
  | .corrected i m =>
    let stored := (List.range 32).map (fun j =>
      memGet d.bed (bedBase p + col * 32 + j) ^^^ BitVec.ofNat 8 (symMask (SMap.get [] pl.bedErr col) j))
    let data := stored.mapIdx (fun j b => if j = i then b ^^^ BitVec.ofNat 8 m else b)
    bedReadCol.bedEncode { d.modPlot p (fun pl => pl.count (fBED_CH_ECC_CORRECTED.at ch) 1) with
      bed := memWrite d.bed (bedBase p + col * 32) data } p col
  | .uncorrectable =>
    plotIrq (recordPlot (d.modPlot p (fun pl => pl.count (fBED_CH_ECC_UNCORRECTABLE.at ch) 1)) p 0x0D03) p (16 + ch)

/-- REMAP_COPY_DONE: the 64 columns are copied, the row decode switches to the spare, the suspect entry is freed, 0x0D05 is
recorded and the shed interrupted; Ervoec adds the remap to the repair map (R208). -/
def remapCopyDone (d : Dev) (p ch : Nat) : Dev :=
  let pl := d.plot p
  let c := pl.chan ch
  match c.copying with
  | none => d
  | some (bank, row, spare) =>
    let col := ch * 2 ^ 19 + bank * 2 ^ 16 + row * 64
    let d := (List.range 64).foldl (fun d i => remapColumn d p (col + i)) d
    let d := d.modPlot p (fun pl =>
      let c := pl.chan ch
      let pl := pl.setChan ch { c with
        copying := none, remaps := c.remaps ++ [(bank, row, spare)],
        suspects := c.suspects.filter (fun s => !(s.bank = bank && s.row = row)) }
      let f := (fBED_CH_SPARES_USED.at ch).bit bank
      let pl := pl.rs f (pl.rg f + 1)
      let thr := pl.rg (fBED_CH_CFG_REMAP_THRESHOLD.at ch)
      let more := (pl.chan ch).suspects.any (fun s => decide (thr ≤ s.count) &&
        decide (pl.rg ((fBED_CH_SPARES_USED.at ch).bit s.bank) < 8))
      if more then pl else pl.rs (fBED_CH_STATUS_REMAP_PENDING.at ch) 0)
    let d := plotIrq (recordPlot d p 0x0D05) p (16 + ch)
    { d with flash := { d.flash with
      repairs := d.flash.repairs ++ [⟨3, p, ch, bank, row⟩], repairSeq := d.flash.repairSeq + 1 } }

/-- REMAP_COPY_DONE (R208). -/
def execRemapCopyDone (p ch : Nat) (s : State) : Host.Outcome State Fault Refusal :=
  onDev s (fun d => if isPlot p && ch < 4 then remapCopyDone d p ch else d)

/-! ## Register writes -/

/-- A write to BED_CH_CFG, range-checked (R210). -/
def writeBedCfg (d : Dev) (p ch v : Nat) : Dev :=
  let thr := bitsOf v 8 8
  let lim := bitsOf v 0 7
  if thr = 0 ∨ 80 < lim then recordPlot d p 0x0D21
  else d.modPlot p (fun pl => (pl.rs (fBED_CH_CFG_REMAP_THRESHOLD.at ch) thr).rs (fBED_CH_CFG_BATCH_LIMIT.at ch) lim)

/-- BED_CH_CFG_WRITE (R210). -/
def execBedChCfgWrite (p ch data : Nat) (s : State) : Host.Outcome State Fault Refusal :=
  onDev s (fun d => if isPlot p && ch < 4 then writeBedCfg (wakePlot d p) p ch data else d)

/-- A write to BED_CH_FLIP (R177). -/
def writeBedFlip (pl : Plot) (ch v : Nat) : Plot :=
  ((((pl.rs (fBED_CH_FLIP_ARM.at ch) (bitsOf v 30 1)).rs (fBED_CH_FLIP_SYM_B.at ch) (bitsOf v 24 6)).rs
    (fBED_CH_FLIP_MASK_B.at ch) (bitsOf v 16 8)).rs (fBED_CH_FLIP_SYM_A.at ch) (bitsOf v 8 6)).rs
    (fBED_CH_FLIP_MASK_A.at ch) (bitsOf v 0 8)

/-- BED_CH_FLIP_WRITE (R177). -/
def execBedChFlipWrite (p ch data : Nat) (s : State) : Host.Outcome State Fault Refusal :=
  onDev s (fun d => if isPlot p && ch < 4 then (wakePlot d p).modPlot p (fun pl => writeBedFlip pl ch data) else d)

/-- A write to BED_TINE_PM_DATA: the word goes to every channel named, unless one of their tines is running or paused
(R184); an armed flip of the tine store hits the channel it names (R497). -/
def writeTinePm (d : Dev) (p v : Nat) : Dev :=
  let pl := d.plot p
  let mask := pl.rg fBED_TINE_PM_ADDR_CHMASK
  let i := pl.rg fBED_TINE_PM_ADDR_INDEX
  let busy := (issueTines mask).any (fun t =>
    let s := pl.rg (fBED_TINE_STATUS_STATE.bit t)
    s = 1 || s = 2)
  if busy then recordPlot d p 0x0D20
  else
    d.setPlot p ((List.range 4).foldl (fun pl ch =>
      if bitOf mask ch then
        let c := pl.chan ch
        let flip := flipArmed pl 3 && pl.rg fPLOT_MEM_FLIP_CHANNEL = ch
        let pl := pl.setChan ch { c with
          pm := SMap.set 0xFFFFFFFF c.pm i (v % 2 ^ 32),
          pmErr := SMap.set 0 c.pmErr i (if flip then flipMask pl 39 else 0) }
        if flip then pl.rs fPLOT_MEM_FLIP_ARM 0 else pl
      else pl) pl)

/-- BED_TINE_PM_DATA_WRITE (R184). -/
def execBedTinePmDataWrite (p data : Nat) (s : State) : Host.Outcome State Fault Refusal :=
  onDev s (fun d => if isPlot p then writeTinePm (wakePlot d p) p data else d)

end Sys2Proof.Machine
end

