-- ==== Sys2Proof/Machine/Tines.lean ====
section
/-! DEFINITION. Tines (chapter 5) and tine attention (chapter 6): one meaning per tine instruction. -/

namespace Sys2Proof.Machine

/-! ## Fetch and stop -/

/-- The issue a tine runs, if any. -/
def tineIssue (pl : Plot) (t : Nat) : Option Issue :=
  match (pl.chan (t / 4)).cur with
  | some id => pl.issues.find? (fun x => x.id = id)
  | none => none

/-- A tine stops, or its check fails: BED_TINE_STOP takes the first stop, the lines of the issue are FAILED, no write
buffer will be applied, the other tines pause, and the plot sequencer stops (R201). `recorded`: the channel has recorded
the code already. -/
def tineStop (d : Dev) (p t idx code : Nat) (recorded : Bool) : Dev :=
  let pl := d.plot p
  match tineIssue pl t with
  | none => d
  | some i =>
    let pl :=
      if pl.rg fBED_TINE_STOP_CODE ≠ 0 then pl
      else ((pl.rs fBED_TINE_STOP_CODE code).rs fBED_TINE_STOP_TID t).rs fBED_TINE_STOP_INDEX idx
    let pl := i.lines.foldl unitFail pl
    let pl := (issueTines i.chmask).foldl (fun pl x =>
      let f := fBED_TINE_STATUS_STATE.bit x
      let pl := if x = t then pl.rs f 3 else if pl.rg f = 1 then pl.rs f 2 else pl
      let q := pl.tine x
      let pl := (q.checks.flatMap (·.ids)).foldl (fun pl id => closeCheck pl id false) pl
      pl.setTine x { q with wbuf := [], wait := .none, checks := [] }) pl
    let pl := { pl with issues := pl.issues.map (fun x =>
      if x.id = i.id then { x with stop := if x.stop = 0 then code else x.stop } else x) }
    let d := plotIrq (d.setPlot p pl) p 9
    if recorded then stopSeq d p i.pc code else stopAt d p i.pc code

/-- The word a tine fetches and the number of its bits in error (R183, R184). -/
def tineFetch (pl : Plot) (t pc : Nat) : Nat × Nat :=
  let c := pl.chan (t / 4)
  let e := SMap.get 0 c.pmErr pc
  let w := SMap.get 0xFFFFFFFF c.pm pc
  (if popCount 39 e ≤ 1 then w else w ^^^ (e % 2 ^ 32), popCount 39 e)

/-- After the instruction at `pc`: loop-backs, or the next index (R188). -/
def tineAdvance (x : Tine) (pc : Nat) : Tine :=
  go x.loops
where
  /-- The loop-back of every body that ends at `pc`, innermost first. -/
  go : List LoopSt → Tine
    | [] => { x with loops := [], pc := (pc + 1) % 16384 }
    | l :: r =>
      if l.last = pc then
        if 1 < l.left then { x with loops := { l with left := l.left - 1 } :: r, pc := l.first } else go r
      else { x with loops := l :: r, pc := (pc + 1) % 16384 }

/-- The result of a tine instruction: it stops with a code, or it has its effect. -/
inductive TineRes where
  | stop (d : Dev) (code : Nat) (recorded : Bool)
  | done (d : Dev)
deriving DecidableEq, Repr

/-- Runs the next instruction of tine `t` of plot `p` if it is one of the row's (R185, R187). -/
def tineStep (d : Dev) (p t : Nat) (mine : Nat → Bool) (hold : Bool) (run : Dev → Nat → Nat → TineRes) : Dev :=
  let pl := d.plot p
  let x := pl.tine t
  if !isPlot p || 16 ≤ t || pl.rg (fBED_TINE_STATUS_STATE.bit t) ≠ 1 || x.wait ≠ .none || pl.chMode (t / 4) ≠ chTINE then d
  else
    let w := tineFetch pl t x.pc
    if 2 ≤ w.2 then tineStop d p t x.pc 0x0D0D false
    else if 0x0E ≤ w.1 / 2 ^ 27 then tineStop d p t x.pc 0x0D0A false
    else if !mine w.1 then d
    else match run d x.pc w.1 with
      | .stop d code recorded => tineStop d p t x.pc code recorded
      | .done d =>
        let d := d.modPlot p (fun pl => pl.count (fPLOT_UNIT_ICNT_COUNT.at (4 + t)) 1)
        if hold then d else d.modPlot p (fun pl => pl.setTine t (tineAdvance (pl.tine t) x.pc))

/-- Whether a word has tine opcode `op`. -/
def isTOp (op w : Nat) : Bool := decide (w / 2 ^ 27 = op)

/-- Address register `i`; T0 reads 0 (R182). -/
def Tine.reg (x : Tine) (i : Nat) : Nat := if i = 0 then 0 else x.regs.getD i 0

/-- A tine with an address register written; T0 stays 0. -/
def Tine.setReg (x : Tine) (i v : Nat) : Tine := if i = 0 then x else { x with regs := x.regs.set i (v % 2 ^ 32) }

/-- The device with tine `t` of plot `p` changed. -/
def Dev.modTine (d : Dev) (p t : Nat) (f : Tine → Tine) : Dev := d.modPlot p (fun pl => pl.setTine t (f (pl.tine t)))

/-- Whether a footprint lies in the scratch data area (R137, R198). -/
def inData (a n : Nat) : Bool := decide (0x8000 ≤ a) && decide (a + n ≤ 0x100000)

/-- A tine reads scratch: READ marks are set, and the tine depends on the open checks of the lines (R141, R198). -/
def tineRead (d : Dev) (p t a n : Nat) : Dev × List Byte :=
  let pl := d.plot p
  let us := unitsOf a n
  let pc := ((tineIssue pl t).map (·.pc)).getD 0
  let x := pl.tine t
  let pl := markRead (pl.setTine t { x with
    deps := (x.deps ++ us.flatMap (fun u => (pl.unit u).opens)).eraseDups, bad := x.bad || us.any (fun u => (pl.unit u).failed) }) us
  plotRead (d.setPlot p pl) p pc a n

/-- A tine writes scratch: the lines stay OPEN until every check of the tine so far has closed (R140, R193); the issue
keeps them for R201. -/
def tineWrite (d : Dev) (p t a : Nat) (bytes : List Byte) : Dev :=
  let pl := d.plot p
  let us := unitsOf a bytes.length
  let pc := ((tineIssue pl t).map (·.pc)).getD 0
  let x := pl.tine t
  let q := openCheck pl us [] x.deps x.bad
  let pl := markWrite q.1 us (coversUnit a bytes.length)
  let pl := { pl with issues := pl.issues.map (fun (i : Issue) =>
    if (pl.chan (t / 4)).cur = some i.id then { i with lines := (i.lines ++ us).eraseDups } else i) }
  let x := pl.tine t
  let pl := match x.checks.reverse with
    | [] => closeCheck pl q.2 true
    | c :: r => pl.setTine t { x with checks := ({ c with ids := c.ids ++ [q.2] } :: r).reverse }
  plotWrite (d.setPlot p pl) p pc a bytes

/-- Why a tine may not write a scratch range: beyond the data area, a scratch destination in an OUTBOUND issue (R149), or
an input of the region (R161); 0 when it may. -/
def tineWriteStop (pl : Plot) (t a n : Nat) : Nat :=
  if n = 0 then 0
  else if !inData a n then 0x0D10
  else if (tineIssue pl t).any (·.outbound) then 0x0C05
  else if regionConflict pl [] (unitsOf a n) then 0x0C30 else 0

/-- An open check of a tine. -/
def addTineCheck (d : Dev) (p t : Nat) (c : TineCheck) : Dev :=
  d.modTine p t (fun x => { x with checks := x.checks ++ [c] })

/-! ## Registers, loops, end -/

/-- TEND: the tine's program ends (R186). -/
def execTend (p t : Nat) (s : State) : Host.Outcome State Fault Refusal :=
  onDev s (fun d => tineStep d p t (isTOp 0x00) true (fun d _ w =>
    if bitsOf w 0 27 ≠ 0 then .stop d 0x0D0A false
    else .done ((d.modTine p t (fun x => { x with ended := true })).modPlot p (fun pl =>
      pl.rs (fBED_TINE_STATUS_STATE.bit t) 0))))

/-- TSET (R187). -/
def execTset (p t : Nat) (s : State) : Host.Outcome State Fault Refusal :=
  onDev s (fun d => tineStep d p t (isTOp 0x01) false (fun d _ w =>
    .done (d.modTine p t (fun x => x.setReg (bitsOf w 24 3) (bitsOf w 0 24)))))

/-- TADDI (R187). -/
def execTaddi (p t : Nat) (s : State) : Host.Outcome State Fault Refusal :=
  onDev s (fun d => tineStep d p t (isTOp 0x02) false (fun d _ w =>
    .done (d.modTine p t (fun x =>
      let i := bitsOf w 24 3
      x.setReg i (codeOf 32 ((x.reg i : Int) + signedOf 24 (bitsOf w 0 24)))))))

/-- TLDA (R187). -/
def execTlda (p t : Nat) (s : State) : Host.Outcome State Fault Refusal :=
  onDev s (fun d => tineStep d p t (isTOp 0x03) false (fun d _ w =>
    if bitsOf w 0 19 ≠ 0 then .stop d 0x0D0A false
    else
      let a := ((d.plot p).chan (t / 4)).args.getD (bitsOf w 20 4) 0
      .done (d.modTine p t (fun x => x.setReg (bitsOf w 24 3) (if bitOf w 19 then a / 2 ^ 32 else a % 2 ^ 32)))))

/-- TLOOP (R188). -/
def execTloop (p t : Nat) (s : State) : Host.Outcome State Fault Refusal :=
  onDev s (fun d => tineStep d p t (isTOp 0x04) true (fun d pc w =>
    let fin := bitsOf w 13 14
    let count := bitsOf w 0 13
    let x := (d.plot p).tine t
    let nested := match x.loops with
      | [] => true
      | l :: _ => decide (fin ≤ l.last)
    if fin ≤ pc || !nested || (count ≠ 0 && 2 ≤ x.loops.length) then .stop d 0x0D0C false
    else if count = 0 then .done (d.modTine p t (fun x => tineAdvance x fin))
    else .done (d.modTine p t (fun x => { x with loops := ⟨pc + 1, fin, count⟩ :: x.loops, pc := pc + 1 }))))

/-! ## Activations and thin products -/

/-- TACT: the tine waits for the channel's other tines (R189). -/
def execTact (p t : Nat) (s : State) : Host.Outcome State Fault Refusal :=
  onDev s (fun d => tineStep d p t (isTOp 0x05) true (fun d _ w =>
    let rows := bitsOf w 20 4
    let kb := bitsOf w 13 7
    let a := ((d.plot p).tine t).reg (bitsOf w 24 3)
    if bitsOf w 0 13 ≠ 0 then .stop d 0x0D0A false
    else if 8 < rows ∨ 64 < kb then .stop d 0x0D0B false
    else if rows ≠ 0 && kb ≠ 0 && !inData a (rows * (kb * 32 + 16)) then .stop d 0x0D10 false
    else .done (d.modTine p t (fun x => { x with wait := .act }))))

/-- TACT_LOAD: all four tines have reached TACT; the channel loads the rows once and they go on (R189). -/
def tactLoad (d : Dev) (p ch : Nat) : Dev :=
  let pl := d.plot p
  let ts := (List.range 4).map (· + 4 * ch)
  if !ts.all (fun t => (pl.tine t).wait = .act && pl.rg (fBED_TINE_STATUS_STATE.bit t) = 1) then d
  else
    let x := pl.tine (4 * ch)
    let w := (tineFetch pl (4 * ch) x.pc).1
    let rows := bitsOf w 20 4
    let kb := bitsOf w 13 7
    let a := x.reg (bitsOf w 24 3)
    let len := kb * 32 + 16
    let d :=
      if rows = 0 ∨ kb = 0 then d
      else
        let r := tineRead d p (4 * ch) a (rows * len)
        let lead := (r.1.plot p).tine (4 * ch)
        r.1.modPlot p (fun pl =>
          let c := pl.chan ch
          let row (i : Nat) : List Byte := (r.2.drop (i * len)).take len
          let act := (List.range rows).foldl (fun m i =>
            ((List.range (kb * 32)).zip (row i)).foldl (fun m e => SMap.set 0 m (i * 2048 + e.1) e.2.toNat) m) c.act
          let sc := (List.range rows).foldl (fun m i =>
            SMap.set 0 m i (leValue (((row i).drop (kb * 32)).take 4))) c.actScale
          let pl := pl.setChan ch { c with actRows := rows, actKb := kb, act := act, actScale := sc }
          ts.foldl (fun pl t =>
            let x := pl.tine t
            pl.setTine t { x with deps := (x.deps ++ lead.deps).eraseDups, bad := x.bad || lead.bad }) pl)
    ts.foldl (fun d t => d.modTine p t (fun x => { tineAdvance x x.pc with wait := .none })) d

/-- TACT_LOAD (R189). -/
def execTactLoad (p ch : Nat) (s : State) : Host.Outcome State Fault Refusal :=
  onDev s (fun d => if isPlot p && ch < 4 then tactLoad d p ch else d)

/-- Bytes of a group's side entry (R190). -/
def sideBytes (f : Nat) : Nat := if f = 13 then 32 else if f = 9 then 128 else if f = 10 then 64 else 0

/-- Outputs per bank of a tine weight format (R190). -/
def tineOutputs (f : Nat) : Nat := if f = 11 ∨ f = 10 then 64 else 128

/-- The integer weight w' of a group's row of bytes at (k, n) (R190, R191). -/
def tineWeight (f : Nat) (row side : List Byte) (k n : Nat) : Int :=
  if f = 11 ∨ f = 10 then signedOf 8 (row.getD (64 * k + n) 0).toNat
  else
    let b := (row.getD (64 * k + n / 2) 0).toNat
    let c := if n % 2 = 0 then b % 16 else b / 16
    if f = 12 then signedOf 4 c
    else if f = 9 then
      match decodeFp fmtE2M1 c with
      | .fin s m e => scaledInt s (2 * m) e (-1) / 2
      | _ => 0
    else signedOf 8 (oq4Code side k n c)

/-- The scale product of output n of a group (R78, R191). -/
def tineScale (f : Nat) (side : List Byte) (n : Nat) : FVal :=
  if f = 13 then decodeFp fmtBf16 (oq4Scale side)
  else
    let x := (side.getD n 0).toNat
    (mulExact (scaleVal x) (.fin false 1 (if f = 10 then -6 else -1))).1

/-- One bank's part of a group pair: the device, its row and side bytes, and the code of a failed read. -/
def groupRead (d : Dev) (p t b f row sideRow : Nat) (g : Nat) : Dev × List Byte × List Byte × Nat :=
  let bank := 2 * (t % 4) + b
  let r := bedRead d p (bedLoc (t / 4) bank (row + g) 0) 2048 false
  let s := sideBytes f
  let q := bedRead r.1 p (bedLoc (t / 4) bank (sideRow + g * s / 2048) (g * s % 2048)) s false
  (q.1, r.2.1, q.2.1, max r.2.2 q.2.2)

/-- One group pair: partials into ACC, the tallies, and the pair's check (R191, R197, R199, R200). -/
def tmvPair (d : Dev) (p t w g : Nat) : TineRes :=
  let pl := d.plot p
  let x := pl.tine t
  let c := pl.chan (t / 4)
  let f := bitsOf w 20 4
  let tw := x.reg (bitsOf w 24 3)
  let th := x.reg (bitsOf w 10 3)
  let tc := x.reg (bitsOf w 7 3)
  let koff := bitsOf w 0 6
  let nb := tineOutputs f
  let a := groupRead d p t 0 f tw th g
  let b := groupRead a.1 p t 1 f tw th g
  let ck := bedRead b.1 p (bedLoc (t / 4) (2 * (t % 4)) (tc + g / 32) (g % 32 * 64)) 64 false
  if a.2.2.2 ≠ 0 ∨ b.2.2.2 ≠ 0 ∨ ck.2.2 ≠ 0 then .stop ck.1 0x0D01 true
  else if f = 13 && (oq4HeaderBad a.2.2.1 || oq4HeaderBad b.2.2.1) then .stop ck.1 0x0C40 false
  else
    let wt (o k : Nat) : Int :=
      if o < nb then tineWeight f a.2.1 a.2.2.1 k o else tineWeight f b.2.1 b.2.2.1 k (o - nb)
    let act (r k : Nat) : Int := signedOf 8 (SMap.get 0 c.act (r * 2048 + (koff + g) * 32 + k))
    let ks := List.range 32
    let outs := List.range (2 * nb)
    let part (r o : Nat) : Int := ks.foldl (fun z k => z + act r k * wt o k) 0
    let word (acc : SMap Nat) (r o : Nat) : Nat × Nat :=
      let old := SMap.get 0 acc (r * 256 + o)
      if f = 11 ∨ f = 12 then
        let z := signedOf 32 old + part r o
        (codeOf 32 z, if z < -(2 ^ 31 : Int) ∨ (2 ^ 31 : Int) ≤ z then flagINT_WRAP else 0)
      else
        let sp := round32 ((if o < nb then tineScale f a.2.2.1 o else tineScale f b.2.2.1 (o - nb)), 0)
        let m := mul32 (fInt (part r o)) sp.1
        let q := add32 (val32 old) m.1
        (code32 q.1, sp.2 ||| m.2 ||| q.2)
    let res := (List.range c.actRows).foldl (fun (s : SMap Nat × Nat) r =>
      outs.foldl (fun (s : SMap Nat × Nat) o =>
        let v := word s.1 r o
        (SMap.set 0 s.1 (r * 256 + o) v.1, s.2 ||| v.2)) s) (x.acc, 0)
    let mxnan := if f = 9 ∨ f = 10 then (a.2.2.1 ++ b.2.2.1).foldl (fun m s => m ||| scaleFlags s.toNat) 0 else 0
    let cks := unpackCodes 16 32 ck.2.1
    let pass := (List.range c.actRows).all (fun r =>
      (outs.foldl (fun z o => z + part r o) 0 - ks.foldl (fun z k => z + act r k * (cks.getD k 0 : Int)) 0) % 65536 = 0)
    let d := ck.1.modPlot p (fun pl =>
      let pl := fmtFlags pl (res.2 ||| mxnan)
      let pl := if bitOf w 6 then
          let e := fBED_TINE_TALLY_EVEN_CRC.at t
          let o := fBED_TINE_TALLY_ODD_CRC.at t
          (pl.rs e (crc64 (pl.rg e) a.2.1)).rs o (crc64 (pl.rg o) b.2.1)
        else pl
      pl.setTine t { (pl.tine t) with acc := res.1, intTmv := f = 11 || f = 12 })
    .done (addTineCheck d p t ⟨if pass then 0 else 0x0D08, 0, 0, false, []⟩)

/-- The checks of TMV, then its group pairs in ascending order (R47, R48, R190, R191, R198). -/
def tmvRun (d : Dev) (p t w : Nat) : TineRes :=
  let x := (d.plot p).tine t
  let f := bitsOf w 20 4
  let g := bitsOf w 13 7
  let tw := x.reg (bitsOf w 24 3)
  let th := x.reg (bitsOf w 10 3)
  let tc := x.reg (bitsOf w 7 3)
  let s := sideBytes f
  if !([9, 10, 11, 12, 13].contains f) then .stop d 0x0C42 false
  else if !fmtLicensed d f then .stop d 0x0C41 false
  else if 64 < g ∨ 64 < bitsOf w 0 6 + g then .stop d 0x0D0B false
  else if g = 0 then .done d
  else if 1024 < tw + g ∨ 1023 < th + (if s = 0 then 0 else (g * s - 1) / 2048) ∨ 1023 < tc + (g - 1) / 32 then
    .stop d 0x0D10 false
  else (List.range g).foldl (fun r i => match r with
    | .done d => tmvPair d p t w i
    | stop => stop) (.done d)

/-- TMV (R190, R191). -/
def execTmv (p t : Nat) (s : State) : Host.Outcome State Fault Refusal :=
  onDev s (fun d => tineStep d p t (isTOp 0x06) false (fun d _ w => tmvRun d p t w))

/-- TCLR: ACC and the attention state to +0 (R187). -/
def execTclr (p t : Nat) (s : State) : Host.Outcome State Fault Refusal :=
  onDev s (fun d => tineStep d p t (isTOp 0x07) false (fun d _ w =>
    if bitsOf w 0 27 ≠ 0 then .stop d 0x0D0A false
    else .done (d.modTine p t (fun x => { x with acc := [], att := [], intTmv := false }))))

/-- TOUT of weight results (R193). -/
def toutWeights (d : Dev) (p t w : Nat) : TineRes :=
  let pl := d.plot p
  let x := pl.tine t
  let c := pl.chan (t / 4)
  let last := bitOf w 23
  let n := c.actRows
  let a := x.reg (bitsOf w 24 3) + t * n * 1024
  let stop := tineWriteStop pl t a (n * 1024)
  if last && x.intTmv then .stop d 0x0D0B false
  else if stop ≠ 0 then .stop d stop false
  else
    let words := (List.range n).flatMap (fun r => (List.range 256).map (fun o =>
      let v := SMap.get 0 x.acc (r * 256 + o)
      if last then
        let m := mul32 (val32 v) (val32 (SMap.get 0 c.actScale r))
        (code32 m.1, m.2)
      else (v, 0)))
    let d := d.modPlot p (fun pl => fmtFlags pl (words.foldl (fun f e => f ||| e.2) 0))
    .done (tineWrite d p t a (words.flatMap (fun e => leBytes 4 e.1)))

/-- TOUT of attention partials: a partial record of KIND 1, its header line last (R233, R240). -/
def toutPartials (d : Dev) (p t w : Nat) : TineRes :=
  let pl := d.plot p
  let x := pl.tine t
  let a := x.reg (bitsOf w 24 3)
  let q := x.att.length
  let stop := tineWriteStop pl t a (64 + q * 528)
  if stop ≠ 0 then .stop d stop false
  else
    let page := (pl.chan (t / 4)).args.getD 15 0 % 16
    .done (tineWrite d p t a (partialHeader x.attTag page q 1 ++ x.att.flatMap rowRecord))

/-- TOUT (R193). -/
def execTout (p t : Nat) (s : State) : Host.Outcome State Fault Refusal :=
  onDev s (fun d => tineStep d p t (isTOp 0x08) false (fun d _ w =>
    if bitsOf w 0 21 ≠ 0 ∨ 2 ≤ bitsOf w 21 2 then .stop d 0x0D0A false
    else if bitsOf w 21 2 = 0 then toutWeights d p t w else toutPartials d p t w))

/-! ## Tine attention (R231 to R235) -/

/-- A TATT list header (R231). -/
structure AttList where
  op : Nat
  rows : Nat
  mask : Nat
  base : Nat
  qaddr : Nat
  out : Nat
  tag : Nat
  prow : Nat
  slot : Nat
  layer : Nat
  kvhead : Nat
  info : List Nat
  anc : List Nat
  reserved : Bool
deriving DecidableEq, Repr

/-- A list header from its 128 bytes. -/
def parseList (b : List Byte) : AttList :=
  let v (i n : Nat) : Nat := leValue ((b.drop i).take n)
  ⟨v 0 1, v 1 1, v 2 1, v 4 4, v 8 4, v 12 4, v 16 4, v 20 1, v 21 1, v 22 1, v 23 1,
    unpackCodes 32 8 (b.drop 24 |>.take 32), unpackCodes 16 16 (b.drop 56 |>.take 32),
    v 3 1 ≠ 0 || (b.drop 88).any (fun x => x ≠ 0)⟩

/-- A page-list entry (R232). -/
structure AttEntry where
  page : Nat
  kind : Nat
  addr : Nat
  frame : Nat
  bank : Nat
  slot : Nat
  tokens : Nat
  pair : Nat
  reserved : Bool
deriving DecidableEq, Repr

/-- A page-list entry from its 16 bytes; `pipe` when the attention pipeline reads it (R232). -/
def parseEntry (pipe : Bool) (b : List Byte) : AttEntry :=
  let v (i n : Nat) : Nat := leValue ((b.drop i).take n)
  let k := v 2 1
  let rest :=
    if k = 0 then v 6 2 ≠ 0 || v 11 5 ≠ 0 || (if pipe then 16 ≤ v 10 1 else v 10 1 ≠ 0)
    else if k = 1 then v 8 8 ≠ 0
    else if k = 2 then v 8 8 ≠ 0 || 1 < v 6 1 || 3 < v 7 1
    else v 4 4 ≠ 0 || v 10 6 ≠ 0
  ⟨v 0 2, k, v 4 4, v 4 2, v 6 1, v 7 1, v 8 2, v 10 1, v 3 1 ≠ 0 || 4 ≤ k || rest⟩

/-- The entries of a list. -/
def parseEntries (pipe : Bool) (n : Nat) (b : List Byte) : List AttEntry :=
  (List.range n).map (fun i => parseEntry pipe ((b.drop (16 * i)).take 16))

/-- Whether PAGE values rise strictly (R232). -/
def pagesRise : List AttEntry → Bool
  | a :: b :: t => decide (a.page < b.page) && pagesRise (b :: t)
  | _ => true

/-- Whether a word is a TATT whose list header, as it stands in scratch, has OP `op` or, for ATTEND, any other. -/
def isTatt (d : Dev) (p t op w : Nat) : Bool :=
  let a := ((d.plot p).tine t).reg (bitsOf w 24 3)
  let o := (scrByte d p a).toNat
  isTOp 0x09 w && (if op = 1 then decide (o = 1) else decide (o ≠ 1))

/-- The code that stops a TATT before it reads any page (R198, R231, R232); 0 when none does. -/
def tattStop (w a : Nat) (h : AttList) (es : List AttEntry) : Nat :=
  let n := bitsOf w 14 10
  if bitsOf w 0 14 ≠ 0 then 0x0D0A
  else if !inData a (128 + 16 * n) then 0x0D10
  else if 1 < h.op ∨ 2 < h.mask ∨ h.reserved then 0x0D0A
  else if 8 < h.rows then 0x0E05
  else if h.op = 1 ∧ 1 < h.rows then 0x0D0A
  else if h.rows = 0 then 0
  else if es.any (·.reserved) || es.any (fun e => if h.op = 1 then e.kind ≠ 2 else 2 ≤ e.kind) then 0x0D0A
  else if !inData h.qaddr (if h.op = 1 then 512 else 256 * h.rows) then 0x0D10
  else if h.op = 1 && n ≠ 0 && !inData h.out (4 * n) then 0x0D10
  else if es.any (fun e => if e.kind = 0 then decide (407 < e.frame) || decide (64 < e.tokens)
      else if e.kind = 2 then decide (1023 < e.frame)
      else !inData e.addr (64 + (h.prow + h.rows) * 528)) then 0x0D10
  else if h.op = 0 && !pagesRise es then 0x0E04
  else 0

/-- The list of a TATT: the device after reading it, header and entries. -/
def tattList (d : Dev) (p t w : Nat) : Dev × AttList × List AttEntry :=
  let n := bitsOf w 14 10
  let a := ((d.plot p).tine t).reg (bitsOf w 24 3)
  if !inData a (128 + 16 * n) then (d, parseList [], [])
  else
    let r := tineRead d p t a (128 + 16 * n)
    (r.1, parseList (r.2.take 128), parseEntries false n (r.2.drop 128))

/-- Merges the page partials of an entry into the lane states and opens its check (R224, R246, R247). -/
def tattMerge (d : Dev) (p t page : Nat) (ps : List PartialRes) : Dev :=
  let x := (d.plot p).tine t
  let m := (x.att.zip ps).map (fun e => attMerge e.1 e.2.st)
  let bad := (List.range ps.length).find? (fun r => (ps.getD r ⟨AttState.empty, 0, 0, false⟩).code ≠ 0)
  let code := (bad.map (fun r => (ps.getD r ⟨AttState.empty, 0, 0, false⟩).code)).getD 0
  let d := d.modPlot p (fun pl => fmtFlags (pl.setTine t { x with att := m.map (·.1) })
    (m.foldl (fun f e => f ||| e.2) (ps.foldl (fun f e => f ||| e.flags) 0)))
  addTineCheck d p t ⟨code, page, bad.getD 0, ps.any (·.nonfinite), []⟩

/-- One entry of an ATTEND list: a frame is attended; a partial record is merged if its lines are CLOSED and its TAG
matches, else it must be waited for (R233). The Boolean is whether the tine waits. -/
def tattEntry (d : Dev) (p t : Nat) (h : AttList) (q : List (List FVal)) (e : AttEntry) : TineRes × Bool :=
  if e.kind = 0 then
    let r := frameRead d p (t / 4) (t % 4) e.frame e.tokens
    if r.2.2.2 ≠ 0 then (.stop r.1 0x0D01 true, false)
    else if r.2.1.any (fun b => headerBad b h.slot h.layer h.kvhead e.page) then
      (.stop (attErr r.1 p 0x0E06 e.page 0) 0x0E06 false, false)
    else
      let a := r.2.2.1
      let pg := ok4Page (r.2.1.headD []) e.tokens a.1 a.2.1 a.2.2.1 a.2.2.2
      let ps := pageRows pg e.page e.tokens q (rowSees h.mask h.base h.anc h.info)
      (.done (tattMerge r.1 p t e.page ps), false)
  else
    let st := recordState (d.plot p) e.addr h.prow h.rows
    let tag := leValue (localBytes d p e.addr 4)
    if st = 2 then (.stop (attErr d p 0x0E0C e.page 0) 0x0E0C false, false)
    else if st = 1 ∨ tag ≠ h.tag then (.done d, true)
    else
      let r := tineRead d p t (e.addr + 64 + h.prow * 528) (h.rows * 528)
      let ps := (List.range h.rows).map (fun i =>
        (⟨parseRowRecord ((r.2.drop (528 * i)).take 528), 0, 0, false⟩ : PartialRes))
      (.done (tattMerge r.1 p t e.page ps), false)

/-- Folds the entries from the one the tine has reached; a wait leaves the tine at its entry (R233). -/
def tattFold : List AttEntry → Dev → Nat → Nat → Nat → AttList → List (List FVal) → TineRes
  | [], d, p, t, pc, _, _ => .done (d.modTine p t (fun x => { tineAdvance x pc with attDone := 0, wait := .none }))
  | e :: es, d, p, t, pc, h, q =>
    match tattEntry d p t h q e with
    | (.done d, false) => tattFold es (d.modTine p t (fun x => { x with attDone := x.attDone + 1 })) p t pc h q
    | (.done d, true) => .done (d.modTine p t (fun x => { x with wait := .partialRec }))
    | (stop, _) => stop

/-- ATTEND from the tine's entry on (R233). -/
def tattAttend (d : Dev) (p t pc w : Nat) : TineRes :=
  let l := tattList d p t w
  let h := l.2.1
  let a := ((d.plot p).tine t).reg (bitsOf w 24 3)
  let code := tattStop w a h l.2.2
  if code ≠ 0 then .stop (attErr l.1 p code 0 0) code false
  else if h.rows = 0 then .done (l.1.modTine p t (fun x => tineAdvance x pc))
  else
    let r := tineRead l.1 p t h.qaddr (256 * h.rows)
    let q := (List.range h.rows).map (fun i => (unpackCodes 16 128 ((r.2.drop (256 * i)).take 256)).map (decodeFp fmtBf16))
    let x := (r.1.plot p).tine t
    let d := if x.attDone = 0 ∧ x.wait = .none then
        r.1.modTine p t (fun x => { x with att := List.replicate h.rows AttState.empty, attTag := h.tag })
      else r.1
    tattFold (l.2.2.drop x.attDone) d p t pc h q

/-- TATT with OP ATTEND (R233). -/
def execTattAttend (p t : Nat) (s : State) : Host.Outcome State Fault Refusal :=
  onDev s (fun d => tineStep d p t (isTatt d p t 0) true (fun d pc w => tattAttend d p t pc w))

/-- The score of a summary (R222): −infinity for a page without a committed key, whose summary is as opened. -/
def summaryScore (q : List FVal) (b : List Byte) : FVal × Nat :=
  let mx := unpackCodes 16 128 (b.take 256)
  let mn := unpackCodes 16 128 (b.drop 256)
  if mx.all (· = 0xFF80) && mn.all (· = 0x7F80) then (.inf true, 0)
  else (q.zip (mx.zip mn)).foldl (fun (a : FVal × Nat) e =>
    let x := mul32 e.1 (decodeFp fmtBf16 e.2.1)
    let y := mul32 e.1 (decodeFp fmtBf16 e.2.2)
    let m := maxExact x.1 y.1
    let s := add32 a.1 m.1
    (s.1, a.2 ||| x.2 ||| y.2 ||| m.2 ||| s.2)) (fZero, 0)

/-- SCORE: each summary's score is written in entry order (R234). -/
def tattScore (d : Dev) (p t w : Nat) : TineRes :=
  let l := tattList d p t w
  let h := l.2.1
  let a := ((d.plot p).tine t).reg (bitsOf w 24 3)
  let code := tattStop w a h l.2.2
  if code ≠ 0 then .stop (attErr l.1 p code 0 0) code false
  else if h.rows = 0 ∨ l.2.2.isEmpty then .done l.1
  else
    let stop := tineWriteStop (l.1.plot p) t h.out (4 * l.2.2.length)
    if stop ≠ 0 then .stop l.1 stop false
    else
      let r := tineRead l.1 p t h.qaddr 512
      let q := (unpackCodes 32 128 r.2).map val32
      let z := l.2.2.foldl (fun (s : Dev × List (FVal × Nat) × Nat) e =>
        let b := bedRead s.1 p (bedLoc (t / 4) (2 * (t % 4) + e.bank) e.frame (e.slot * 512)) 512 false
        (b.1, s.2.1 ++ [summaryScore q b.2.1], max s.2.2 b.2.2)) (r.1, [], 0)
      if z.2.2 ≠ 0 then .stop z.1 0x0D01 true
      else
        let d := z.1.modPlot p (fun pl => fmtFlags pl (z.2.1.foldl (fun f e => f ||| e.2) 0))
        let d := addTineCheck d p t ⟨0, 0, 0, false, []⟩
        .done (tineWrite d p t h.out (z.2.1.flatMap (fun e => leBytes 4 (code32 e.1))))

/-- TATT with OP SCORE (R234). -/
def execTattScore (p t : Nat) (s : State) : Host.Outcome State Fault Refusal :=
  onDev s (fun d => tineStep d p t (isTatt d p t 1) false (fun d _ w => tattScore d p t w))

/-- PARTIAL_RECORD_VALID: the record waited for has become CLOSED with the right TAG, or FAILED; the fold goes on
(R233). -/
def partialRecordValid (d : Dev) (p t : Nat) : Dev :=
  let pl := d.plot p
  let x := pl.tine t
  if x.wait ≠ .partialRec ∨ pl.rg (fBED_TINE_STATUS_STATE.bit t) ≠ 1 then d
  else match tattAttend d p t x.pc (tineFetch pl t x.pc).1 with
    | .stop d code recorded => tineStop d p t x.pc code recorded
    | .done d => d

/-- PARTIAL_RECORD_VALID (R233). -/
def execPartialRecordValid (p t : Nat) (s : State) : Host.Outcome State Fault Refusal :=
  onDev s (fun d => if isPlot p && t < 16 then partialRecordValid d p t else d)

/-- ATT_PARTIAL_TIMEOUT: a PARTIAL wait expires and stops the tine with 0x0E03 (R233). -/
def execAttPartialTimeout (p t : Nat) (s : State) : Host.Outcome State Fault Refusal :=
  onDev s (fun d =>
    let pl := d.plot p
    let x := pl.tine t
    if isPlot p && t < 16 && x.wait = .partialRec && pl.rg (fBED_TINE_STATUS_STATE.bit t) = 1 then
      tineStop (attErr d p 0x0E03 0 0) p t x.pc 0x0E03 false
    else d)

/-! ## Reductions, the write buffer, tallies -/

/-- The result of TRED over the words of its columns: 8 lanes and a tree of three levels (R195). -/
def tredWords (op : Nat) (ws : List Nat) : Nat × Nat :=
  let f (id : FVal) (g : FVal → FVal → FVal × Nat) : Nat × Nat :=
    let lane (j : Nat) : FVal × Nat :=
      ((List.range ((ws.length + 7 - j) / 8)).map (fun i => val32 (ws.getD (8 * i + j) 0))).foldl
        (fun (a : FVal × Nat) x => let r := g a.1 x; (r.1, a.2 ||| r.2)) (id, 0)
    let l (j : Nat) : FVal × Nat := lane j
    let comb (a b : FVal × Nat) : FVal × Nat := let r := g a.1 b.1; (r.1, a.2 ||| b.2 ||| r.2)
    let r := comb (comb (comb (l 0) (l 1)) (comb (l 2) (l 3))) (comb (comb (l 4) (l 5)) (comb (l 6) (l 7)))
    (code32 r.1, r.2)
  if op = 0 then f fZero add32
  else if op = 1 then f (.inf true) maxExact
  else if op = 2 then f (.inf false) minExact
  else (ws.foldl (fun z w => (z + w) % 2 ^ 32) 0, 0)

/-- TRED (R195). -/
def execTred (p t : Nat) (s : State) : Host.Outcome State Fault Refusal :=
  onDev s (fun d => tineStep d p t (isTOp 0x0A) false (fun d _ w =>
    let x := (d.plot p).tine t
    let cols := bitsOf w 12 8
    let row := x.reg (bitsOf w 24 3)
    let op := bitsOf w 21 3
    if bitOf w 11 ∨ 4 ≤ op then .stop d 0x0D0A false
    else if cols = 0 then .done d
    else if 1023 < row + (cols - 1) / 64 then .stop d 0x0D10 false
    else
      let r := bedRead d p (bedLoc (t / 4) (2 * (t % 4) + bitsOf w 20 1) row 0) (32 * cols) false
      if r.2.2 ≠ 0 then .stop r.1 0x0D01 true
      else
        let q := tredWords op (unpackCodes 32 (8 * cols) r.2.1)
        let d := r.1.modPlot p (fun pl =>
          let x := pl.tine t
          fmtFlags (pl.setTine t { x with acc := SMap.set 0 x.acc (bitsOf w 0 11) q.1 }) q.2)
        .done (addTineCheck d p t ⟨0, 0, 0, false, []⟩)))

/-- TPACK and TADD: ACC words go into the write buffer (R149, R196, R198). `add` tells TADD. -/
def bufferWords (d : Dev) (p t w : Nat) (add : Bool) : TineRes :=
  let pl := d.plot p
  let x := pl.tine t
  let ty := bitsOf w 16 1
  let n := x.reg (bitsOf w 2 3)
  let first := bitsOf w 5 11
  let row := x.reg (bitsOf w 24 3)
  let size := if !add && ty = 1 then 2 else 4
  let off := row * 2048 + bitsOf w 18 6 * 32
  let base := bedLoc (t / 4) (2 * (t % 4) + bitsOf w 17 1) 0 0
  if bitsOf w 0 2 ≠ 0 then .stop d 0x0D0A false
  else if !(tineIssue pl t).any (·.outbound) then .stop d 0x0C07 false
  else if n = 0 then .done d
  else if 1023 < row ∨ 2048 < first + n ∨ 2 ^ 21 < off + n * size then .stop d 0x0D10 false
  else if 8192 < x.wbuf.foldl (fun a b => a + b.bytes) 0 + n * size then .stop d 0x0D0B false
  else
    let ws := (List.range n).map (fun i =>
      let v := SMap.get 0 x.acc (first + i)
      let q := if size = 2 then encodeFp fmtBf16 .rne false (val32 v) else (v, 0)
      ((⟨base + off + i * size, size, q.1, if add then some ty else none⟩ : BedWrite), q.2))
    .done (d.modPlot p (fun pl =>
      fmtFlags (pl.setTine t { x with wbuf := x.wbuf ++ ws.map (·.1) }) (ws.foldl (fun f e => f ||| e.2) 0)))

/-- TPACK (R196). -/
def execTpack (p t : Nat) (s : State) : Host.Outcome State Fault Refusal :=
  onDev s (fun d => tineStep d p t (isTOp 0x0B) false (fun d _ w => bufferWords d p t w false))

/-- TADD (R196). -/
def execTadd (p t : Nat) (s : State) : Host.Outcome State Fault Refusal :=
  onDev s (fun d => tineStep d p t (isTOp 0x0C) false (fun d _ w => bufferWords d p t w true))

/-- TCRC with OP 0: both tallies clear (R197). -/
def execTcrcClear (p t : Nat) (s : State) : Host.Outcome State Fault Refusal :=
  onDev s (fun d => tineStep d p t (fun w => isTOp 0x0D w && !bitOf w 26) false (fun d _ w =>
    if bitsOf w 0 23 ≠ 0 then .stop d 0x0D0A false
    else .done (d.modPlot p (fun pl =>
      (pl.rs (fBED_TINE_TALLY_EVEN_CRC.at t) 0).rs (fBED_TINE_TALLY_ODD_CRC.at t) 0))))

/-- TCRC with OP 1: both tallies go to scratch (R197). -/
def execTcrcWrite (p t : Nat) (s : State) : Host.Outcome State Fault Refusal :=
  onDev s (fun d => tineStep d p t (fun w => isTOp 0x0D w && bitOf w 26) false (fun d _ w =>
    let pl := d.plot p
    let a := (pl.tine t).reg (bitsOf w 23 3)
    let stop := tineWriteStop pl t a 16
    if bitsOf w 0 23 ≠ 0 then .stop d 0x0D0A false
    else if stop ≠ 0 then .stop d stop false
    else .done (tineWrite d p t a
      (leBytes 8 (pl.rg (fBED_TINE_TALLY_EVEN_CRC.at t)) ++ leBytes 8 (pl.rg (fBED_TINE_TALLY_ODD_CRC.at t))))))

/-! ## Checks -/

/-- The oldest open check of a tine closes (R200, R247). `upset`: 0 as computed, 1 a fault of the tine has made its sums
differ, 2 a residue mismatch of the binary32 path. -/
def tineCheckClose (d : Dev) (p t upset : Nat) : Dev :=
  let pl := d.plot p
  let x := pl.tine t
  match x.checks with
  | [] => d
  | c :: rest =>
    let att := decide (0x0E00 ≤ c.code) || c.nonfinite || c.page ≠ 0
    let code := if upset = 0 then c.code else if upset = 1 then (if c.code ≠ 0 then c.code else if att then 0x0E08 else 0x0D08)
      else if att then 0x0E0B else 0x0D09
    let pl := if c.nonfinite then pl.count fPLOT_ATT_CNT_NONFINITE 1 else pl
    if code = 0 then
      d.setPlot p (c.ids.foldl (fun pl id => closeCheck pl id true) (pl.setTine t { x with checks := rest }))
    else tineStop (attErr (d.setPlot p pl) p code c.page c.row) p t x.pc code false

/-- TINE_CHECK_CLOSE (R200). -/
def execTineCheckClose (p t upset : Nat) (s : State) : Host.Outcome State Fault Refusal :=
  onDev s (fun d => if isPlot p && t < 16 then tineCheckClose d p t upset else d)

end Sys2Proof.Machine
end

