-- ==== Sys2Proof/Machine/Attention.lean ====
section
/-! DEFINITION. The attention pipeline of a plot (chapter 6): one meaning per sub-operation of ATT. -/

namespace Sys2Proof.Machine

/-- Whether a word is the ATT of sub-operation `sub`. -/
def isAtt (sub w : Nat) : Bool := isOp 0x1C w && decide (bitsOf w 55 3 = sub)

/-- The operand address of an ATT: 16-byte units. -/
def attAddr (pl : Plot) (w : Nat) : Nat := pl.opAddr (bitsOf w 51 4) (bitsOf w 35 16) 16

/-- COUNT of an ATT. -/
def attCount (w : Nat) : Nat := bitsOf w 26 9

/-- Marks a list of scratch ranges as read by the program. -/
def attReads (d : Dev) (p : Nat) (us : List Nat) : Dev := d.modPlot p (fun pl => markRead pl us)

/-- A configuration block from its 640 bytes, and whether a reserved byte, bit or value is in it (R236). -/
def parseAcfg (q : Nat) (b : List Byte) : AttCfg × Bool :=
  let v (i n : Nat) : Nat := leValue ((b.drop i).take n)
  (⟨v 0 1, v 1 1, v 2 1, v 4 4, v 8 4, v 12 4, v 16 4, v 20 1, v 21 1, v 22 1,
      unpackCodes 16 16 ((b.drop 32).take 32), unpackCodes 32 128 ((b.drop 64).take 512), q⟩,
    1 < v 0 1 || 2 < v 1 1 || 2 < v 2 1 || v 3 1 ≠ 0 || ((b.drop 23).take 9).any (fun x => x ≠ 0) ||
      (b.drop 576).any (fun x => x ≠ 0))

/-- ACFG reads the configuration block (R236). -/
def acfgRun (d : Dev) (p pc w : Nat) : Issued :=
  let a := attAddr (d.plot p) w
  let q := attCount w
  if bitsOf w 0 17 ≠ 0 then .stop 0x0C01
  else if 128 < q then .stop 0x0E05
  else if a % 16 ≠ 0 then .stop 0x0C04
  else if !inData a 640 then .stop 0x0E10
  else
    let r := plotRead (attReads d p (unitsOf a 640)) p pc a 640
    let c := parseAcfg q r.2
    if c.2 then .stopFrom r.1 0x0C01
    else .done (r.1.modPlot p (fun pl => { pl with att := { pl.att with cfg := some c.1, fresh := true, loaded := false } }))

/-- A stop of the attention class is captured in PLOT_ATT_ERR as the instruction stops (R248, R249). -/
def attStop (d : Dev) (p : Nat) : Issued → Issued
  | .stop code => .stopFrom (attErr d p code 0 0) code
  | .stopFrom d code => .stopFrom (attErr d p code 0 0) code
  | r => r

/-- ACFG (R236). -/
def execAcfg (p : Nat) (s : State) : Host.Outcome State Fault Refusal :=
  onDev s (fun d => issueWord d p (isAtt 0) false (fun d pc w => attStop d p (acfgRun d p pc w)))

/-- Q of the last ACFG. -/
def attQ (pl : Plot) : Nat := (pl.att.cfg.map (·.q)).getD 0

/-- QLOAD loads the query rows (R237). -/
def qloadRun (d : Dev) (p pc w : Nat) : Issued :=
  let pl := d.plot p
  let a := attAddr pl w
  let n := attCount w
  if bitsOf w 0 17 ≠ 0 then .stop 0x0C01
  else if pl.att.cfg.isNone || n ≠ attQ pl then .stop 0x0E07
  else if n = 0 then .done (d.setPlot p { pl with att := { pl.att with loaded := true, qrows := [] } })
  else if a % 16 ≠ 0 then .stop 0x0C04
  else if !inLocal a (256 * n) then .stop 0x0C10
  else
    let us := unitsOf a (256 * n)
    let deps := us.flatMap (fun u => (pl.unit u).opens)
    let r := plotRead (attReads d p us) p pc a (256 * n)
    .done (r.1.modPlot p (fun pl => { pl with att := { pl.att with
      loaded := true, qrows := (List.range n).map (fun i => unpackCodes 16 128 ((r.2.drop (256 * i)).take 256)),
      deps := (pl.att.deps ++ deps).eraseDups, bad := pl.att.bad || unitsFailed pl us } }))

/-- QLOAD (R237). -/
def execQload (p : Nat) (s : State) : Host.Outcome State Fault Refusal :=
  onDev s (fun d => issueWord d p (isAtt 1) false (fun d pc w => attStop d p (qloadRun d p pc w)))

/-! ## KVPAGES -/

/-- What one page-list entry contributes: the page partials of its rows, the scratch units read, and the record to tee. -/
structure KvPart where
  parts : List PartialRes
  reads : List Nat
  record : Option (List Byte)
deriving DecidableEq, Repr

/-- The result of one entry: the data is not there yet, the entry stops the instruction (`recorded`: the code is in the
error record already), or its contribution. -/
inductive KvRes where
  | blocked
  | stop (d : Dev) (code : Nat) (recorded : Bool)
  | done (d : Dev) (k : KvPart)
deriving DecidableEq, Repr

/-- Bytes of a page record of format `f` (R214). -/
def kvRecordLen (f : Nat) : Nat := if f = 2 then 33056 else 9504

/-- A frame of the plot's own bed; it waits while its channel is not in memory mode (R237, R238). -/
def kvFrame (d : Dev) (p : Nat) (c : AttCfg) (q : List (List FVal)) (e : AttEntry) : KvRes :=
  let m := (d.plot p).chMode (e.pair / 4)
  if m ≠ chMEMORY ∧ m ≠ chHELD then .blocked
  else
    let r := frameRead d p (e.pair / 4) (e.pair % 4) e.frame e.tokens
    if r.2.2.2 ≠ 0 then .stop r.1 0x0D01 true
    else if r.2.1.any (fun b => headerBad b c.slot c.layer c.kvhead e.page) then
      .stop (attErr r.1 p 0x0E06 e.page 0) 0x0E06 false
    else
      let a := r.2.2.1
      let pg := ok4Page (r.2.1.headD []) e.tokens a.1 a.2.1 a.2.2.1 a.2.2.2
      .done r.1 ⟨pageRows pg e.page e.tokens q (rowSees c.mask c.base c.anc c.rowinfo), [], none⟩

/-- A partial record in scratch (R237, R240). -/
def kvPartial (d : Dev) (p pc : Nat) (c : AttCfg) (e : AttEntry) : KvRes :=
  let n := 64 + c.q * 528
  let us := unitsOf e.addr n
  let r := plotRead (attReads d p us) p pc e.addr n
  .done r.1 ⟨(List.range c.q).map (fun i =>
    ⟨parseRowRecord ((r.2.drop (64 + 528 * i)).take 528), 0, 0, false⟩), us, none⟩

/-- The next record of the attention stream, which must be the entry's page (R237, R239). -/
def kvRecord (d : Dev) (p s f : Nat) (c : AttCfg) (q : List (List FVal)) (e : AttEntry) : KvRes :=
  let pl := d.plot p
  let st := SMap.get Stream.reset pl.streams s
  let n := kvRecordLen f
  if st.bytes.length < n then
    if st.err.isSome then
      .stop (attErr (d.setPlot p { pl with streams := SMap.set Stream.reset pl.streams s { st with err := none } })
        p 0x0E02 e.page 0) 0x0E02 false
    else .blocked
  else
    let b := st.bytes.take n
    let byte (i : Nat) : Nat := (b.getD i 0).toNat
    let d := d.setPlot p (({ pl with streams := SMap.set Stream.reset pl.streams s { st with bytes := st.bytes.drop n } }).count
      (fPLOT_ATT_STREAM_RECORDS.at s) 1)
    if byte 260 + 256 * byte 261 ≠ e.page ∨ byte 262 ≠ e.tokens then .stop (attErr d p 0x0E01 e.page 0) 0x0E01 false
    else if headerBad b c.slot c.layer c.kvhead e.page then .stop (attErr d p 0x0E06 e.page 0) 0x0E06 false
    else
      let pg := if f = 2 then recordPageBf16 b e.tokens else recordPage b e.tokens
      .done d ⟨pageRows pg e.page e.tokens q (rowSees c.mask c.base c.anc c.rowinfo), [], if f = 2 then none else some b⟩

/-- One entry of a KVPAGES list, by its KIND. -/
def kvEntry (d : Dev) (p pc w : Nat) (c : AttCfg) (q : List (List FVal)) (e : AttEntry) : KvRes :=
  if e.kind = 0 then kvFrame d p c q e
  else if e.kind = 1 then kvPartial d p pc c e
  else kvRecord d p (bitsOf w 17 4) (bitsOf w 22 4) c q e

/-- A record written into a frame of a bank pair, in the layout of R217, freshly encoded (R243). -/
def teeRecord (d : Dev) (p pair f : Nat) (b : List Byte) : Dev :=
  (List.range 2).foldl (fun d k =>
    let bank := 2 * (pair % 4) + k
    let loc (row byte : Nat) : Nat := bedLoc (pair / 4) bank row byte
    let part (o n : Nat) : List Byte := (b.drop (o + n * k)).take n
    let side := loc (816 + f / 2) (f % 2 * 1024)
    let d := (bedWrite d p (loc (2 * f) 0) (part 288 2048)).1
    let d := (bedWrite d p (loc (2 * f + 1) 0) (part 4896 2048)).1
    let d := (bedWrite d p side (b.take 288)).1
    let d := (bedWrite d p (side + 288) (part 4384 256)).1
    (bedWrite d p (side + 544) (part 8992 256)).1) d

/-- Where the tee list sends entry `i`: the frame, when the entry is valid (R243). -/
def teeFrame (tee : List Byte) (i : Nat) : Option Nat :=
  let v := leValue ((tee.drop (4 * i)).take 4)
  if bitOf v 31 then some (v % 512) else none

/-- The contribution of entry `i` takes effect: a partial record in scratch, or a merge into the running state; its check
opens; the record is teed into the pair of the lane, which the spec does not tell the pipeline (R236, R237, R240, R243,
log entry 24). -/
def kvApply (d : Dev) (p pc i : Nat) (c : AttCfg) (tee : List Byte) (e : AttEntry) (k : KvPart) : Dev :=
  let pl := d.plot p
  let bad := (List.range k.parts.length).find? (fun r => (k.parts.getD r ⟨AttState.empty, 0, 0, false⟩).code ≠ 0)
  let code := (bad.map (fun r => (k.parts.getD r ⟨AttState.empty, 0, 0, false⟩).code)).getD 0
  let flags := k.parts.foldl (fun f x => f ||| x.flags) 0
  let n := 64 + c.q * 528
  let a := c.out + i * n
  let us := if c.fold = 0 then unitsOf a n else []
  let o := openCheck pl us k.reads pl.att.deps pl.att.bad
  let chk : UnitCheck := ⟨o.2, pc, code, e.page, bad.getD 0, k.parts.any (·.nonfinite)⟩
  let pl := { o.1 with attChecks := o.1.attChecks ++ [chk] }
  let d :=
    if c.fold = 0 then
      let pl := fmtFlags (markWrite pl us (coversUnit a n)) flags
      plotWrite (d.setPlot p pl) p pc a (partialHeader c.tag e.page c.q 0 ++ k.parts.flatMap (fun x => rowRecord x.st))
    else
      let ms := (List.range c.q).map (fun r =>
        attMerge (SMap.get AttState.empty pl.att.rows r) (k.parts.getD r ⟨AttState.empty, 0, 0, false⟩).st)
      let rows := ((List.range c.q).zip ms).foldl (fun m x => SMap.set AttState.empty m x.1 x.2.1) pl.att.rows
      let pl := fmtFlags pl (ms.foldl (fun f x => f ||| x.2) flags)
      d.setPlot p { pl with att := { pl.att with rows := rows, deps := pl.att.deps ++ [o.2] } }
  match k.record, teeFrame tee i with
  | some b, some f =>
    let r := d.free 4
    if d.isReferee p then d else teeRecord r.1 p r.2 f b
  | _, _ => d

/-- The code that stops a KVPAGES before any entry is processed (R232, R236, R237); 0 when none does. -/
def kvStop (w : Nat) (c : AttCfg) (es : List AttEntry) : Nat :=
  let f := bitsOf w 22 4
  if es.any (fun e => e.kind = 2) then 0x0E07
  else if es.any (·.reserved) then 0x0C01
  else if es.any (fun e => (e.kind = 0 && f = 2) || (e.kind = 3 && !bitOf w 21)) then 0x0E07
  else if es.any (fun e => if e.kind = 1 then !inData e.addr (64 + c.q * 528)
      else (e.kind = 0 && 407 < e.frame) || 64 < e.tokens) then 0x0E10
  else if c.fold = 1 && !pagesRise es then 0x0E04
  else if c.fold = 0 && !inData c.out (es.length * (64 + c.q * 528)) then 0x0E10
  else if c.tee ≠ 0 && !inData c.tee (4 * es.length) then 0x0E10
  else 0

/-- Processes the entries from the one the pipeline has reached; what they write is kept until none has stopped (R135).
Answers the device, the contributions with their entries, and how the run ended. -/
def kvFold : List (Nat × AttEntry) → Dev → Nat → Nat → Nat → AttCfg → List (List FVal) →
    List (Nat × AttEntry × KvPart) → Dev × List (Nat × AttEntry × KvPart) × Option (Nat × Bool) × Bool
  | [], d, _, _, _, _, _, acc => (d, acc, none, true)
  | e :: es, d, p, pc, w, c, q, acc =>
    match kvEntry d p pc w c q e.2 with
    | .blocked => (d, acc, none, false)
    | .stop d code recorded => (d, acc, some (code, recorded), false)
    | .done d k => kvFold es d p pc w c q (acc ++ [(e.1, e.2, k)])

/-- KVPAGES from the entry it has reached: it issues when every entry is processed, and waits while data is missing
(R237 to R239). -/
def kvRun (d : Dev) (p pc w : Nat) : Issued :=
  let pl := d.plot p
  let a := attAddr pl w
  let n := attCount w
  let f := bitsOf w 22 4
  let next (d : Dev) : Issued := .done (d.modPlot p (fun pl =>
    advance { pl with att := { pl.att with done := 0, waiting := false } } pc))
  if bitsOf w 0 17 ≠ 0 then .stop 0x0C01
  else if f ≠ 2 ∧ f ≠ 14 then .stop 0x0C42
  else if !fmtLicensed d f then .stop 0x0C41
  else match pl.att.cfg with
    | none => .stop 0x0E07
    | some c =>
      if !(pl.att.fresh && pl.att.loaded) then .stop 0x0E07
      else if n = 0 then next d
      else if a % 16 ≠ 0 then .stop 0x0C04
      else if !inData a (16 * n) then .stop 0x0E10
      else
        let r := plotRead (attReads d p (unitsOf a (16 * n))) p pc a (16 * n)
        let es := parseEntries true n r.2
        let code := kvStop w c es
        let outs := if c.fold = 0 then unitsOf c.out (n * (64 + c.q * 528)) else []
        let ins := es.flatMap (fun e => if e.kind = 1 then unitsOf e.addr (64 + c.q * 528) else [])
        if code ≠ 0 then .stopFrom r.1 code
        else if pl.att.done = 0 && regionConflict pl (unitsOf a (16 * n) ++ ins) outs then .stopFrom r.1 0x0C30
        else
          let t := if c.tee = 0 then (r.1, []) else plotRead (attReads r.1 p (unitsOf c.tee (4 * n))) p pc c.tee (4 * n)
          let q := pl.att.qrows.map (fun row => row.map (decodeFp fmtBf16))
          let z := kvFold (((List.range n).zip es).drop pl.att.done) t.1 p pc w c q []
          match z.2.2.1 with
          | some (code, true) => .done (stopSeq z.1 p pc code)
          | some (code, false) => .stopFrom z.1 code
          | none =>
            let d := z.2.1.foldl (fun d e => kvApply d p pc e.1 c t.2 e.2.1 e.2.2) z.1
            if z.2.2.2 then next d
            else .done (d.modPlot p (fun pl => { pl with att := { pl.att with
              done := pl.att.done + z.2.1.length, waiting := true } }))

/-- Issues or continues the KVPAGES at the program counter. -/
def kvIssue (d : Dev) (p : Nat) : Dev :=
  issueWord d p (isAtt 2) true (fun d pc w => match kvRun d p pc w with
    | .stop code => .stopFrom (attErr d p code 0 0) code
    | .stopFrom d code => .stopFrom (attErr d p code 0 0) code
    | r => r)

/-- KVPAGES (R237). -/
def execKvpages (p : Nat) (s : State) : Host.Outcome State Fault Refusal := onDev s (fun d => kvIssue d p)

/-! ## EMIT and CLEAR -/

/-- The bytes of EMIT under OUTFMT 1 and 2: finalised outputs, with their flags (R224, R237). -/
def emitOutputs (bf16 : Bool) (rows : List AttState) : List Byte × Nat :=
  let r := rows.flatMap (fun s => (attFinal s).map (fun e =>
    if bf16 then
      let c := encodeFp fmtBf16 .rne false e.1
      (leBytes 2 c.1, e.2 ||| c.2)
    else (leBytes 4 (code32 e.1), e.2)))
  (r.flatMap (·.1), r.foldl (fun f e => f ||| e.2) 0)

/-- EMIT writes rows of the running state (R226, R237). -/
def emitRun (d : Dev) (p pc w : Nat) : Issued :=
  let pl := d.plot p
  let a := attAddr pl w
  let n := attCount w
  if bitsOf w 0 17 ≠ 0 then .stop 0x0C01
  else match pl.att.cfg with
    | none => .stop 0x0E07
    | some c =>
      let len := if c.outfmt = 0 then 64 + 528 * n else if c.outfmt = 1 then 512 * n else 256 * n
      let us := unitsOf a len
      if !(pl.att.fresh && pl.att.loaded) || c.q < n then .stop 0x0E07
      else if n = 0 then .done d
      else if a % 16 ≠ 0 then .stop 0x0C04
      else if c.outfmt = 0 && !inData a len then .stop 0x0E10
      else if !inLocal a len then .stop 0x0C10
      else if inControl a len then .stop 0x0C06
      else if regionConflict pl [] us then .stop 0x0C30
      else
        let rows := (List.range n).map (fun r => SMap.get AttState.empty pl.att.rows r)
        let fr := if c.outfmt = 0 then d.free 16 else (d, 0)
        let out := if c.outfmt = 0 then (partialHeader c.tag fr.2 n 1 ++ rows.flatMap rowRecord, 0)
          else emitOutputs (c.outfmt = 2) rows
        let pl := if c.outfmt = 0 then pl else
          pl.count fPLOT_ATT_CNT_EMPTY_ROWS (rows.filter AttState.isEmpty).length
        let o := openCheck (fmtFlags pl out.2) us [] pl.att.deps pl.att.bad
        let pl := markWrite { o.1 with attChecks := o.1.attChecks ++ [⟨o.2, pc, 0, 0, 0, false⟩] } us (coversUnit a len)
        .done (plotWrite (fr.1.setPlot p pl) p pc a out.1)

/-- EMIT (R237). -/
def execEmit (p : Nat) (s : State) : Host.Outcome State Fault Refusal :=
  onDev s (fun d => issueWord d p (isAtt 3) false (fun d pc w => attStop d p (emitRun d p pc w)))

/-- ATT CLEAR (R237). -/
def execAttClear (p : Nat) (s : State) : Host.Outcome State Fault Refusal :=
  onDev s (fun d => issueWord d p (isAtt 4) false (fun d _ w =>
    if bitsOf w 0 17 ≠ 0 then .stop 0x0C01
    else .done (d.modPlot p (fun pl => { pl with att := { pl.att with
      rows := [], fresh := false, loaded := false, deps := [], bad := false } }))))

/-! ## Checks -/

/-- The oldest check of the pipeline closes (R247): a failure fails the lines it covers and stops the sequencer as R117
does. `upset`: a residue mismatch of merge or finalise. -/
def attCheckClose (d : Dev) (p : Nat) (upset : Bool) : Dev :=
  let pl := d.plot p
  match pl.attChecks with
  | [] => d
  | c :: t =>
    let code := if c.code ≠ 0 then c.code else if upset then 0x0E0B else 0
    let pl := { pl with attChecks := t }
    let pl := if c.nonfinite then pl.count fPLOT_ATT_CNT_NONFINITE 1 else pl
    let d := d.setPlot p (closeCheck pl c.id (code = 0))
    if code = 0 then d else stopAt (attErr d p code c.page c.row) p c.pc code

/-- ATT_CHECK_CLOSE (R247). -/
def execAttCheckClose (p : Nat) (upset : Bool) (s : State) : Host.Outcome State Fault Refusal :=
  onDev s (fun d => attCheckClose d p upset)

end Sys2Proof.Machine
end

