-- ==== Sys2Proof/Machine/Journal.lean ====
section
/-! DEFINITION. Module flash as bytes, the journal in it, and the critical words (R432, R529, R563, R566). -/

namespace Sys2Proof.Machine

/-! ## Reading and writing -/

/-- `n` bytes of module flash; an unlisted byte is erased. -/
def flRead (d : Dev) (a n : Nat) : List Byte := (List.range n).map (fun i => SMap.get 0xFF d.flash.bytes (a + i))

/-- Flash bytes with others written from `a` on. -/
def flPut (m : List Host.Cell) (a : Nat) : List Byte → List Host.Cell
  | [] => m
  | b :: t => flPut (SMap.set 0xFF m a b) (a + 1) t

/-- An object is written at a sector boundary: its sectors are erased first (R529). -/
def flWrite (d : Dev) (a : Nat) (bytes : List Byte) : Dev :=
  let fin := a + (bytes.length + 4095) / 4096 * 4096
  let kept := d.flash.bytes.filter (fun c => decide (c.1 < a) || decide (fin ≤ c.1))
  { d with flash := { d.flash with bytes := flPut kept a bytes } }

/-! ## Critical words (R432, R498) -/

/-- A critical word is written, 0 to 5 as SED_CRIT_FLIP names them: all its copies agree, but for one that an armed flip
corrupts. -/
def critWrite (d : Dev) (w : Nat) : Dev :=
  let kept := d.sed.crit.filter (fun x => x ≠ w)
  let hit := d.rg fSED_CRIT_FLIP_ARM = 1 ∧ d.rg fSED_CRIT_FLIP_WORD = w
  let bad := d.rg fSED_CRIT_FLIP_COPY < 3 ∧ d.rg fSED_CRIT_FLIP_MASK ≠ 0
  let d := { d with sed := { d.sed with crit := if hit ∧ bad then w :: kept else kept } }
  if hit then d.rs fSED_CRIT_FLIP_ARM 0 else d

/-- A critical word is read: two equal copies carry the vote, the third is rewritten, and 0x0206 is recorded. -/
def critRead (d : Dev) (w : Nat) : Dev :=
  if d.sed.crit.contains w then
    recordErr { d with sed := { d.sed with crit := d.sed.crit.filter (fun x => x ≠ w) } } 1 0 0x0206
  else d

/-! ## The journal (R566) -/

/-- Ervoec writes a journal entry: type, step, code and body. -/
def journalAdd (d : Dev) (ty step code : Nat) (body : List Byte) : Dev :=
  let n := d.flash.journal
  let b := leBytes 2 ty ++ leBytes 2 (min 472 body.length) ++ zeros 4 ++ leBytes 8 n ++ leBytes 8 step ++ leBytes 2 code ++
    zeros 6 ++ padTo 472 (body.take 472)
  let a := 0x300000 + n % 16384 * 512
  let m := if n % 8 = 0 then d.flash.bytes.filter (fun c => decide (c.1 < a) || decide (a + 4096 ≤ c.1)) else d.flash.bytes
  { d with flash := { d.flash with bytes := flPut m a (b ++ leBytes 8 (crc64 0 b)), journal := n + 1 } }

end Sys2Proof.Machine
end

