-- ==== Sys2Proof/Machine/Companion.lean ====
section
/-! DEFINITION. The companion link (chapter 11): mailboxes, notifications, coherent caching of companion memory, rings and
the index line. -/

namespace Sys2Proof.Machine

/-! ## Notifications (R360) -/

/-- A notification vector is sent, unless it is disabled or its gap runs; then it is sent at the gap's end. -/
def notify (d : Dev) (vec : Nat) : Dev :=
  if vec = 0xFFFF then d
  else if d.cpl.gaps.contains vec then
    { d with cpl := { d.cpl with held := if d.cpl.held.contains vec then d.cpl.held else d.cpl.held ++ [vec] } }
  else
    let d := linkSend d 0 2 (cplHeader 0x30 1 0 0 0 vec)
    if d.rg fCPL_NOTIFY_GAP = 0 then d else { d with cpl := { d.cpl with gaps := d.cpl.gaps ++ [vec] } }

/-- NOTIFY_GAP_END (R360). -/
def execNotifyGapEnd (vec : Nat) (s : State) : Host.Outcome State Fault Refusal :=
  onDev s (fun d =>
    if d.cpl.gaps.contains vec then
      let was := d.cpl.held.contains vec
      let d := { d with cpl := { d.cpl with gaps := d.cpl.gaps.erase vec, held := d.cpl.held.erase vec } }
      if was then notify d vec else d
    else d)

/-! ## Mailboxes (R361 to R365) -/

/-- The bytes of a mailbox message: header and body. -/
def Mail.bytes (m : Mail) : List Byte :=
  leBytes 1 m.major ++ leBytes 1 m.minor ++ leBytes 2 m.type ++ leBytes 2 m.body.length ++ leBytes 1 m.flags ++ zeros 1 ++
    leBytes 4 m.seq ++ leBytes 2 m.status ++ zeros 2 ++ m.body

/-- A message goes into MBX_OUT; a reply there ends IN_BUSY (R362, R363). -/
def mailPlace (d : Dev) (m : Mail) : Dev :=
  let d := { d with cpl := { d.cpl with mboxOut := memWrite d.cpl.mboxOut 0 m.bytes } }
  let d := (d.rs fCPL_MBX_STATUS_OUT_SEQ m.seq).rs fCPL_MBX_STATUS_OUT_FULL 1
  let d := if bitOf m.flags 0 then d.rs fCPL_MBX_STATUS_IN_BUSY 0 else d
  notify d (d.rg fCPL_NOTIFY_MBX_VEC)

/-- Removes the newest unsolicited message of a queue. -/
def dropNewest (q : List Mail) : List Mail :=
  (q.reverse.eraseP (fun m => !bitOf m.flags 0)).reverse

/-- An outgoing message: into MBX_OUT, or into the queue of 16, replies ahead of unsolicited messages (R363). -/
def mailSend (d : Dev) (m : Mail) : Dev :=
  let c := d.cpl
  if d.rg fCPL_MBX_STATUS_OUT_FULL = 0 then mailPlace d m
  else if bitOf m.flags 0 then
    let over16 := decide (16 ≤ c.mailq.length)
    let q := if over16 then dropNewest c.mailq else c.mailq
    let d := { d with cpl := { c with
      mailq := q.filter (fun x => bitOf x.flags 0) ++ [m] ++ q.filter (fun x => !bitOf x.flags 0) } }
    if over16 then d.count fCPL_MBX_STATUS_LOST 1 else d
  else if 16 ≤ c.mailq.length then d.count fCPL_MBX_STATUS_LOST 1
  else { d with cpl := { c with mailq := c.mailq ++ [m] } }

/-- An unsolicited message; the spec does not number these, so SEQ is a free value (log entry 2). -/
def mailUnsolicited (d : Dev) (type : Nat) (body : List Byte) : Dev :=
  let r := d.free 32
  mailSend r.1 ⟨1, 0, type, 2, r.2, 0, body⟩

/-- The reply to the message in process (R362). -/
def mailReply (d : Dev) (status : Nat) (body : List Byte) : Dev :=
  match d.cpl.mail with
  | none => d
  | some m => mailSend { d with cpl := { d.cpl with mail := none } } ⟨1, 0, m.type, 1, m.seq, status, body⟩

/-- CPL_MBX_OUT_ACK: the SEQ of the message in MBX_OUT clears OUT_FULL and lets the next message in (R363). -/
def mboxOutAck (d : Dev) (seq : Nat) : Dev :=
  let d := raiseEdge d 17
  if d.rg fCPL_MBX_STATUS_OUT_FULL = 1 ∧ d.rg fCPL_MBX_STATUS_OUT_SEQ = seq % 2 ^ 32 then
    let d := d.rs fCPL_MBX_STATUS_OUT_FULL 0
    match d.cpl.mailq with
    | [] => d
    | m :: t => mailPlace { d with cpl := { d.cpl with mailq := t } } m
  else d

/-- CPL_MBX_OUT_ACK (R363). -/
def execCplMbxOutAck (data : Nat) (s : State) : Host.Outcome State Fault Refusal := onDev s (fun d => mboxOutAck d data)

/-- The mailbox types that the companion may send (R364, and the chapters that define the ranges). -/
def mailTypes : List Nat :=
  [0x0001, 0x0002, 0x0003, 0x0004, 0x0100, 0x0101, 0x0110, 0x0111, 0x0120, 0x0121, 0x0122, 0x0130, 0x0201, 0x0202, 0x0204,
    0x0210, 0x0211, 0x0300, 0x0301, 0x0400]

/-- The status that refuses a message before its type is looked at (R362, R365); 0 when none does. -/
def mailRefusal (d : Dev) (len : Nat) (reserved : Bool) (m : Mail) : Nat :=
  if 4080 < len then 0x0710
  else if reserved then 0x0704
  else if !mailTypes.contains m.type then 0x070D
  else if m.type = 1 then 0
  else if d.rg fCPL_STATUS_HELLO_DONE = 0 then 0x0702
  else if m.major ≠ 1 then 0x0701
  else 0

/-- A write of CPL_MBX_IN_DB: the message is copied for processing; one that breaks the header rules is answered at once
(R362). -/
def mboxInDb (d : Dev) : Dev :=
  let d := raiseEdge d 16
  if d.rg fCPL_MBX_STATUS_IN_READY = 0 then cplErr d 0x070E
  else if d.rg fCPL_MBX_STATUS_IN_BUSY = 1 then cplErr d 0x070C
  else
    let b := memRead d.cpl.mboxIn 0 4096
    let v (i n : Nat) : Nat := leValue ((b.drop i).take n)
    let m : Mail := ⟨v 0 1, v 1 1, v 2 2, v 6 1, v 8 4, v 12 2, (b.drop 16).take (v 4 2)⟩
    let d := { d with cpl := { d.cpl with mail := some m } }.rs fCPL_MBX_STATUS_IN_BUSY 1
    let code := mailRefusal d (v 4 2) (4 ≤ v 6 1 || v 7 1 ≠ 0 || v 14 2 ≠ 0) m
    if code = 0 then d else mailReply d code []

/-- CPL_MBX_IN_DB (R362). -/
def execCplMbxInDb (s : State) : Host.Outcome State Fault Refusal := onDev s mboxInDb

/-- Processes the message in the mailbox if it is of type `ty`; messages wait while Ervoec does not run (R511). -/
def onMail (d : Dev) (ty : Nat) (f : Dev → Mail → Dev) : Dev :=
  match d.cpl.mail with
  | some m => if m.type = ty ∧ d.rg fSHD_FW_STATE = 2 then f d m else d
  | none => d

/-- ECHO (R364). -/
def execEcho (s : State) : Host.Outcome State Fault Refusal :=
  onDev s (fun d => onMail d 4 (fun d m => mailReply d 0 m.body))

/-! ## Coherent caching (R349, R350) -/

/-- The base of companion memory in device physical addresses (R32, R346). -/
def hostBase : Nat := 0x800000000000

/-- The lines that a range of companion memory covers. -/
def hostLines (a n : Nat) : List Nat :=
  let o := a - hostBase
  if n = 0 then [] else (List.range ((o + n - 1) / 64 - o / 64 + 1)).map (· + o / 64)

/-- Whether a coherent request holds a line: pending, or a writeback or full write in progress. -/
def lineBusy (d : Dev) (line : Nat) : Bool := d.cpl.coh.any (fun x => x.line = line)

/-- The next TAG that no outstanding or expired request carries. -/
def freshTag (c : Companion) : Nat :=
  let used (t : Nat) : Bool := c.coh.any (fun x => x.tag = t) || c.expired.contains t
  (((List.range 4096).map (fun i => (c.nextTag + i) % 4096)).find? (fun t => !used t)).getD c.nextTag

/-- Sends a coherent request and keeps it outstanding (R350). -/
def cohSend (d : Dev) (opc line : Nat) (data : List Byte) (ring : Nat) : Dev :=
  let t := freshTag d.cpl
  let d := { d with cpl := { d.cpl with coh := d.cpl.coh ++ [⟨t, opc, line, data, ring⟩], nextTag := (t + 1) % 4096 } }
  if opc = 7 ∨ opc = 8 then linkSend d 0 3 (cplHeader opc 5 t 0 0 (line * 64) ++ data)
  else linkSend d 0 0 (cplHeader opc 1 t 0 0 (line * 64))

/-- A cache line. -/
def cacheLine (d : Dev) (line : Nat) : Option Line := SMap.find? line d.cpl.cache

/-- The cache with a line replaced, or removed; a line that leaves the cache takes its reservations with it (R349). -/
def setLine (d : Dev) (line : Nat) (l : Option Line) : Dev :=
  match l with
  | some l => { d with cpl := { d.cpl with cache := SMap.insert line l d.cpl.cache } }
  | none => { d with cpl := { d.cpl with
      cache := SMap.erase line d.cpl.cache, reserved := d.cpl.reserved.filter (fun e => e.2 ≠ line) } }

/-- A line is evicted: EVICT_CLEAN from S or E, WB_DIRTY from M (R350). -/
def evictLine (d : Dev) (line : Nat) : Dev :=
  match cacheLine d line with
  | none => d
  | some l =>
    let d := setLine d line none
    if l.st = .modified then cohSend d 7 line l.data 0
    else linkSend d 0 0 (cplHeader 6 1 d.cpl.nextTag 0 0 (line * 64))

/-- The part of a write that falls into a line: its offset there and its bytes. -/
def linePart (line a : Nat) (bytes : List Byte) : Nat × List Byte :=
  let o := a - hostBase
  let lo := max o (line * 64)
  let hi := min (o + bytes.length) (line * 64 + 64)
  (lo - line * 64, (bytes.drop (lo - o)).take (hi - lo))

/-- Bytes placed over others from `off` on. -/
def splice (old : List Byte) (off : Nat) (new : List Byte) : List Byte :=
  old.take off ++ new ++ old.drop (off + new.length)

/-- Replaces an access in the list. -/
def setReq (d : Dev) (r : HostReq) : Dev :=
  { d with cpl := { d.cpl with reqs := d.cpl.reqs.map (fun x => if x.id = r.id then r else x) } }

/-- A line of an access is served. -/
def lineDone (d : Dev) (r : HostReq) (line : Nat) (got : List Byte) : Dev :=
  setReq d { r with left := r.left.erase line, got := SMap.set [] r.got line got }

/-- The new value of an atomic operation on `w`-bit operands. -/
def amoValue (op w old x : Nat) : Nat :=
  match op with
  | 0 => x
  | 1 => (old + x) % 2 ^ w
  | 2 => old &&& x
  | 3 => old ||| x
  | 4 => old ^^^ x
  | 5 => if signedOf w x < signedOf w old then x else old
  | 6 => if signedOf w old < signedOf w x then x else old
  | 7 => min old x
  | _ => max old x

/-- A written line is M; what a store changes is no longer reserved (R349, log entry 42). -/
def lineWrite (d : Dev) (line : Nat) (bytes : List Byte) : Dev :=
  setLine { d with cpl := { d.cpl with reserved := d.cpl.reserved.filter (fun e => e.2 ≠ line) } } line
    (some ⟨.modified, bytes⟩)

/-- A line that must be owned: with it in E or M, `k` goes on; else the request that R350 names. -/
def ownLine (d : Dev) (line : Nat) (k : Line → Dev) : Dev :=
  let busy := lineBusy d line
  match cacheLine d line with
  | some x => if x.st = .shared then (if busy then d else cohSend d 3 line [] 0) else k x
  | none => if busy then d else cohSend d 2 line [] 0

/-- A load-reserved, a store-conditional or an atomic operation of a shed core on a line of companion memory (R349): it runs
with the line in M; a store-conditional without its reservation writes nothing and answers 1 (log entry 42). -/
def atomicLine (d : Dev) (r : HostReq) (line : Nat) : Dev :=
  let off := r.addr % 64
  match r.user with
  | .core c false => ownLine d line (fun x =>
      let d := setLine d line (some { x with st := .modified })
      lineDone { d with cpl := { d.cpl with reserved := d.cpl.reserved.filter (fun e => e.1 ≠ c) ++ [(c, line)] } } r line x.data)
  | .core c true =>
    if !d.cpl.reserved.contains (c, line) then
      lineDone { d with cpl := { d.cpl with reserved := d.cpl.reserved.filter (fun e => e.1 ≠ c) } } r line [1]
    else ownLine d line (fun x =>
      let d := lineWrite d line (splice x.data off (r.data.getD []))
      lineDone { d with cpl := { d.cpl with reserved := d.cpl.reserved.filter (fun e => e.1 ≠ c) } } r line [0])
  | .amo _ op _ operand => ownLine d line (fun x =>
      let n := r.len
      let old := leValue ((x.data.drop off).take n)
      lineDone (lineWrite d line (splice x.data off (leBytes n (amoValue op (8 * n) old (operand % 2 ^ (8 * n)))))) r line x.data)
  | _ => d

/-- Whether an access is one of `atomicLine`. -/
def HostReq.atomic (r : HostReq) : Bool :=
  match r.user with
  | .core _ _ => true
  | .amo _ _ _ _ => true
  | _ => false

/-- Serves one line of one access as far as the line's state allows: a hit, or the request that R350 names. -/
def serveLine (d : Dev) (id line : Nat) : Dev :=
  match d.cpl.reqs.find? (fun x => x.id = id) with
  | none => d
  | some r =>
    if !r.left.contains line then d
    else if r.atomic then atomicLine d r line
    else
      let busy := lineBusy d line
      let l := cacheLine d line
      match r.data with
      | none =>
        if r.noCopy then
          if busy then d
          else match l with
            | some _ =>
              let d := evictLine d line
              if lineBusy d line then d else cohSend d 5 line [] 0
            | none => cohSend d 5 line [] 0
        else match l with
          | some x => lineDone d r line x.data
          | none => if busy then d else cohSend d 1 line [] 0
      | some bytes =>
        let p := linePart line r.addr bytes
        if r.noCopy then
          if busy then d
          else
            let d := evictLine d line
            if lineBusy d line then d
            else lineDone (cohSend d 8 line (splice (zeros 64) p.1 p.2) 0) r line []
        else match l with
          | some x =>
            if x.st = .shared then (if busy then d else cohSend d 3 line [] 0)
            else lineDone (lineWrite d line (splice x.data p.1 p.2)) r line []
          | none => if busy then d else cohSend d (if p.2.length = 64 then 4 else 2) line [] 0

/-- Whether an access keeps its data until the command that takes it: a descriptor's or an engine's (R155, R510). -/
def HostReq.kept (r : HostReq) : Bool :=
  match r.user with
  | .dma _ _ _ => true
  | .engine _ => true
  | _ => false

/-- Accesses that are complete leave the list and are answered, but for those that are kept. -/
def takeDone (d : Dev) : Dev × List (HostReq × Nat) :=
  let go (r : HostReq) : Bool := r.left.isEmpty && !r.kept
  ({ d with cpl := { d.cpl with reqs := d.cpl.reqs.filter (fun r => !go r) } }, (d.cpl.reqs.filter go).map (fun r => (r, 0)))

/-- Serves a line for every access that waits for it, in order. -/
def serveWaiters (d : Dev) (line : Nat) : Dev × List (HostReq × Nat) :=
  takeDone (d.cpl.reqs.foldl (fun d r => serveLine d r.id line) d)

/-- A new access to companion memory: every line is tried at once (R349, R350). -/
def hostStart (d : Dev) (user : HostUser) (a len : Nat) (data : Option (List Byte)) (noCopy : Bool) :
    Dev × List (HostReq × Nat) :=
  let id := d.cpl.nextReq
  let ls := hostLines a len
  let r : HostReq := ⟨id, user, a, len, data, noCopy, ls, []⟩
  let d := { d with cpl := { d.cpl with reqs := d.cpl.reqs ++ [r], nextReq := id + 1 } }
  takeDone (ls.foldl (fun d l => serveLine d id l) d)

/-- The access of a user that keeps its data, if it has one. -/
def hostFind (d : Dev) (u : HostUser) : Option HostReq := d.cpl.reqs.find? (fun r => r.user = u)

/-- An access whose data has been taken leaves the list. -/
def hostDrop (d : Dev) (u : HostUser) : Dev :=
  { d with cpl := { d.cpl with reqs := d.cpl.reqs.filter (fun r => r.user ≠ u) } }

/-- The bytes that an access has read. -/
def HostReq.bytes (r : HostReq) : List Byte :=
  (((hostLines r.addr r.len).flatMap (fun l => padTo 64 (SMap.get [] r.got l))).drop ((r.addr - hostBase) % 64)).take r.len

/-- Every access that waits for a line fails with a code. -/
def failLine (d : Dev) (line code : Nat) : Dev × List (HostReq × Nat) :=
  let bad := d.cpl.reqs.filter (fun r => r.left.contains line)
  ({ d with cpl := { d.cpl with reqs := d.cpl.reqs.filter (fun r => !r.left.contains line) } },
    bad.map (fun r => (r, code)))

/-- The coherent request of a TAG. -/
def cohFind (d : Dev) (tag : Nat) : Option CohReq := d.cpl.coh.find? (fun x => x.tag = tag)

/-- A coherent request is no longer outstanding. -/
def cohDrop (d : Dev) (tag : Nat) : Dev :=
  { d with cpl := { d.cpl with coh := d.cpl.coh.filter (fun x => x.tag ≠ tag) } }

/-- A grant for an expired TAG is discarded and counted (R350). -/
def lateGrant (d : Dev) (tag : Nat) : Dev :=
  if d.cpl.expired.contains tag then
    { d with cpl := { d.cpl with expired := d.cpl.expired.erase tag } }.count fCPL_LINK_CNT_LATE_GRANTS 1
  else d

/-- A grant in S or E, with or without data, for a request of one of the opcodes given (R350, R351). -/
def cohGrant (d : Dev) (tag : Nat) (opcs : List Nat) (st : LineState) (data : Option (List Byte)) :
    Dev × List (HostReq × Nat) :=
  match cohFind d tag with
  | none => (lateGrant d tag, [])
  | some x =>
    let old := (cacheLine d x.line).map (·.data)
    let fits := opcs.contains x.opc && (data.isSome || x.opc = 4 || old.isSome)
    if !fits then (d, [])
    else
      let bytes := match data with
        | some b => padTo 64 (b.take 64)
        | none => old.getD (zeros 64)
      serveWaiters (setLine (cohDrop d tag) x.line (some ⟨st, bytes⟩)) x.line

/-- DATA_CUR: the value goes to the access that asked for it (R349). -/
def cohCurrent (d : Dev) (tag : Nat) (data : List Byte) : Dev × List (HostReq × Nat) :=
  match cohFind d tag with
  | none => (lateGrant d tag, [])
  | some x =>
    if x.opc ≠ 5 then (d, [])
    else
      let d := cohDrop d tag
      match d.cpl.reqs.find? (fun r => r.noCopy && r.data.isNone && r.left.contains x.line) with
      | none => (d, [])
      | some r => takeDone (lineDone d r x.line (padTo 64 (data.take 64)))

/-! ## Rings and the index line (R356 to R359) -/

/-- Entries of ring `r`. -/
def ringEntries (d : Dev) (r : Nat) : Nat := 2 ^ d.rg (fCPL_RING_CFG_LOG2.at r)

/-- Entries a ring holds. -/
def ringFill (d : Dev) (r : Nat) : Nat :=
  (d.rg (fCPL_RING_IDX_PRODUCER.at r) + 2 ^ 32 - d.rg (fCPL_RING_IDX_CONSUMER.at r)) % 2 ^ 32

/-- Free records of an enabled ring; none while it is disabled. -/
def ringFree (d : Dev) (r : Nat) : Nat :=
  if d.rg (fCPL_RING_CFG_ENABLE.at r) = 0 then 0 else ringEntries d r - ringFill d r

/-- Bytes of an entry (R356). -/
def ringSize (r : Nat) : Nat := if r = 0 then 128 else if r = 1 then 16 else 32

/-- The index line is written once every covered record line is acknowledged, and its notifications are sent (R359,
R360). -/
def indexLine (d : Dev) : Dev :=
  let a := d.rg fCPL_IDX_ADDR_ADDR
  if !d.cpl.idxDirty || a = 0 || d.cpl.coh.any (fun x => x.ring = 1) then d
  else
    let b := leBytes 4 (d.rg (fCPL_RING_IDX_CONSUMER.at 0)) ++ leBytes 4 (d.rg (fCPL_RING_IDX_PRODUCER.at 1)) ++
      leBytes 4 (d.rg (fCPL_RING_IDX_PRODUCER.at 2)) ++ zeros 52
    let line := (a - hostBase) / 64
    let out := d.cpl.idxOut
    let evt := d.cpl.idxEvt
    let d := { d with cpl := { d.cpl with idxDirty := false, idxOut := false, idxEvt := false } }
    let d := cohSend (evictLine d line) 8 line b 2
    let d := if out then notify d (d.rg fCPL_NOTIFY_OUT_VEC) else d
    if evt then notify d (d.rg fCPL_NOTIFY_EVT_VEC) else d

/-- Records of ring `r` are written, lines merged, and the producer index advances (R359). The index line follows. -/
def publish (d : Dev) (r : Nat) (recs : List (List Byte)) : Dev :=
  if recs.isEmpty then d
  else
    let base := d.rg (fCPL_RING_CFG_BASE.at r)
    let prod := d.rg (fCPL_RING_IDX_PRODUCER.at r)
    let size := ringSize r
    let addr (i : Nat) : Nat := base - hostBase + (prod + i) % ringEntries d r * size
    let q := (List.range recs.length).zip recs |>.foldl (fun (s : SMap (List Byte) × List Nat) e =>
      let a := addr e.1
      let line := a / 64
      let old := padTo 64 (SMap.get [] s.1 line)
      (SMap.set [] s.1 line (splice old (a % 64) (padTo size (e.2.take size))),
        if s.2.contains line then s.2 else s.2 ++ [line])) (d.cpl.records, [])
    let d := { d with cpl := { d.cpl with
      records := q.1, idxDirty := true, idxOut := d.cpl.idxOut || r = 1, idxEvt := d.cpl.idxEvt || r = 2 } }
    let d := d.rs (fCPL_RING_IDX_PRODUCER.at r) (prod + recs.length)
    q.2.foldl (fun d line => cohSend (evictLine d line) 8 line (padTo 64 (SMap.get [] q.1 line)) 1) d

/-- GO_WB: a writeback or full write is complete and its buffer released; the index line follows its records (R350,
R359). -/
def cohWritten (d : Dev) (tag : Nat) : Dev × List (HostReq × Nat) :=
  match cohFind d tag with
  | none => (lateGrant d tag, [])
  | some x =>
    if x.opc ≠ 7 ∧ x.opc ≠ 8 then (d, [])
    else
      let r := serveWaiters (cohDrop d tag) x.line
      (indexLine r.1, r.2)

/-- COH_ERR, or a coherent timeout: the line is I and its masters get the code (R350). -/
def cohFail (d : Dev) (tag code : Nat) (expire : Bool) : Dev × List (HostReq × Nat) :=
  match cohFind d tag with
  | none => (if expire then d else lateGrant d tag, [])
  | some x =>
    let d := cplErr (setLine (cohDrop d tag) x.line none) code
    let d := if expire then { d with cpl := { d.cpl with expired := d.cpl.expired ++ [tag] } } else d
    let r := failLine d x.line code
    (indexLine r.1, r.2)

/-- A snoop's answer (R350): 0 SNP_RSP_I, 1 SNP_RSP_S, or data with the state the device keeps. -/
def snoopAnswer (d : Dev) (tag line ans : Nat) (data : List Byte) (keep : Nat) : Dev :=
  if ans = 0 then linkSend d 0 2 (cplHeader 0x10 1 tag 0 0 (line * 64))
  else if ans = 1 then linkSend d 0 2 (cplHeader 0x11 1 tag 0 0 (line * 64))
  else linkSend d 0 3 (cplHeader 0x12 5 tag 0 keep (line * 64) ++ data)

/-- SNP_SHARED and SNP_INV (R350); a snoop that takes a line away clears its reservations (R349). -/
def snoop (d : Dev) (tag addr : Nat) (inv : Bool) : Dev :=
  let line := addr / 64
  let d := if inv then { d with cpl := { d.cpl with reserved := d.cpl.reserved.filter (fun e => e.2 ≠ line) } } else d
  match d.cpl.coh.find? (fun x => x.line = line && x.opc = 7), cacheLine d line with
  | some x, _ => snoopAnswer d tag line 2 x.data 0
  | none, none => snoopAnswer d tag line 0 [] 0
  | none, some l =>
    match l.st, inv with
    | .shared, false => snoopAnswer d tag line 1 [] 0
    | .exclusive, false => snoopAnswer (setLine d line (some { l with st := .shared })) tag line 1 [] 0
    | .modified, false => snoopAnswer (setLine d line (some { l with st := .shared })) tag line 2 l.data 1
    | .modified, true => snoopAnswer (setLine d line none) tag line 2 l.data 0
    | _, true => snoopAnswer (setLine d line none) tag line 0 [] 0

/-- SNP_SHARED (R350). -/
def execSnpShared (tag addr : Nat) (s : State) : Host.Outcome State Fault Refusal :=
  onDev s (fun d => linkFree (snoop d tag addr false) 0 1 1)

/-- SNP_INV (R350). -/
def execSnpInv (tag addr : Nat) (s : State) : Host.Outcome State Fault Refusal :=
  onDev s (fun d => linkFree (snoop d tag addr true) 0 1 1)

/-- LINK_CACHE_EVICTION: a line that the cache holds and that no request concerns is evicted (R350). -/
def execLinkCacheEviction (addr : Nat) (s : State) : Host.Outcome State Fault Refusal :=
  onDev s (fun d => if lineBusy d (addr / 64) then d else evictLine d (addr / 64))

/-! ## Registers of the link (R357, R358, R373) -/

/-- A write of CPL_RING_CFG[r] (R357, R373). -/
def ringCfgWrite (d : Dev) (r data : Nat) : Dev :=
  let en := bitsOf data 63 1
  let lg := bitsOf data 58 5
  let base := bitsOf data 0 48
  let fE := fCPL_RING_CFG_ENABLE.at r
  let fL := fCPL_RING_CFG_LOG2.at r
  let fB := fCPL_RING_CFG_BASE.at r
  if 20 < lg ∨ base % 64 ≠ 0 ∨ base < hostBase then cplErr d 0x070F
  else if d.rg fE = 1 ∧ (d.rg fL ≠ lg ∨ d.rg fB ≠ base) then cplErr d 0x070A
  else if en = 1 ∧ 2 ^ 48 < base + 2 ^ lg * ringSize r then cplErr d 0x0710
  else if en = 1 ∧ d.rg fCPL_IDX_ADDR_ADDR = 0 then cplErr d 0x070A
  else
    let d := ((d.rs fE en).rs fL lg).rs fB base
    if en = 1 then (d.rs (fCPL_RING_IDX_PRODUCER.at r) 0).rs (fCPL_RING_IDX_CONSUMER.at r) 0 else d

/-- RING_ENABLE (R357). -/
def execRingEnable (r data : Nat) (s : State) : Host.Outcome State Fault Refusal :=
  onDev s (fun d => if r < 3 then ringCfgWrite d r data else d)

/-- A write of CPL_IDX_ADDR (R373). -/
def idxAddrWrite (d : Dev) (data : Nat) : Dev :=
  let a := bitsOf data 0 48
  if (List.range 3).any (fun r => d.rg (fCPL_RING_CFG_ENABLE.at r) = 1) || a % 64 ≠ 0 || a < hostBase then cplErr d 0x070A
  else d.rs fCPL_IDX_ADDR_ADDR a

/-- CPL_IDX_ADDR_WRITE (R373). -/
def execCplIdxAddrWrite (data : Nat) (s : State) : Host.Outcome State Fault Refusal := onDev s (fun d => idxAddrWrite d data)

/-- A write of CPL_CFG, or with `hb` of CPL_HB_CFG, range-checked (R373). -/
def cplCfgWrite (d : Dev) (hb : Bool) (data : Nat) : Dev :=
  if hb then
    let m := bitsOf data 16 4
    let p := bitsOf data 0 10
    if m = 0 ∨ p = 0 ∨ 1000 < p then cplErr d 0x070F
    else ((d.rs fCPL_HB_CFG_HOLD (bitsOf data 32 16)).rs fCPL_HB_CFG_MISSES m).rs fCPL_HB_CFG_PERIOD p
  else
    let t := bitsOf data 24 16
    let l := bitsOf data 20 4
    if t = 0 ∨ l = 0 then cplErr d 0x070F else (d.rs fCPL_CFG_COH_TIMEOUT t).rs fCPL_CFG_RETRY_LIMIT l

/-- CPL_CFG_WRITE (R373). -/
def execCplCfgWrite (hb : Bool) (data : Nat) (s : State) : Host.Outcome State Fault Refusal :=
  onDev s (fun d => cplCfgWrite d hb data)

/-- A write of CPL_HEARTBEAT (R366, R367). -/
def heartbeatWrite (d : Dev) (data : Nat) : Dev :=
  let g := data % 2 ^ 32
  let d := d.rs fCPL_HEARTBEAT_GEN g
  if g = d.rg fCPL_STATUS_ATTACH_GEN then { d with cpl := { d.cpl with missed := 0 } }
  else cplErr (d.count fCPL_LINK_CNT_STALE_HB 1) 0x0712

/-- CPL_HEARTBEAT_WRITE (R366). -/
def execCplHeartbeatWrite (data : Nat) (s : State) : Host.Outcome State Fault Refusal :=
  onDev s (fun d => heartbeatWrite d data)

/-- The test of a ring doorbell (R358). -/
def doorbellOk (d : Dev) (r new : Nat) : Bool :=
  let n := ringEntries d r
  let p := d.rg (fCPL_RING_IDX_PRODUCER.at r)
  let c := d.rg (fCPL_RING_IDX_CONSUMER.at r)
  decide (d.rg (fCPL_RING_CFG_ENABLE.at r) = 1) &&
    (if r = 0 then decide ((new + 2 ^ 32 - c) % 2 ^ 32 ≤ n) && decide ((new + 2 ^ 32 - p) % 2 ^ 32 ≤ n)
      else decide ((new + 2 ^ 32 - c) % 2 ^ 32 ≤ (p + 2 ^ 32 - c) % 2 ^ 32))

end Sys2Proof.Machine
end

