-- ==== Sys2Proof/Machine/Prune.lean ====
section
/-! DEFINITION. Shoot trees and their prune (R260 to R266), and the changes a commit makes to pages (R219, R221, R230). -/

namespace Sys2Proof.Machine

/-! ## Trees -/

/-- Depth of a node: the number of its ancestors. -/
def Tree.depth (t : Tree) : Nat → Nat → Nat
  | 0, _ => 0
  | n + 1, j => if j = 0 then 0 else t.depth n (t.parents.getD j 0) + 1

/-- ANC of a node: a bit for each ancestor and for itself (R260). -/
def Tree.anc (t : Tree) : Nat → Nat → Nat
  | 0, j => 2 ^ j
  | n + 1, j => if j = 0 then 1 else withBit (t.anc n (t.parents.getD j 0)) j

/-- The children of a node, ascending. -/
def Tree.children (t : Tree) (u : Nat) : List Nat :=
  (List.range t.n).filter (fun j => decide (0 < j) && decide (t.parents.getD j 0 = u))

/-- A tree cut to its first nodes (R261). -/
def Tree.cut (t : Tree) (n : Nat) : Tree := ⟨min t.n n, t.parents.take n, t.tokens.take n⟩

/-- A draft program's shoot tree record; none when it fails R261. -/
def parseTree (b : List Byte) : Option Tree :=
  let v (i : Nat) : Nat := (b.getD i 0).toNat
  let n := v 0
  let parents := (List.range 16).map (fun j => v (16 + j))
  if n = 0 ∨ 16 < n ∨ ((b.drop 1).take 15).any (fun x => x ≠ 0) ∨ v 16 ≠ 255
      ∨ (List.range n).any (fun j => decide (0 < j) && decide (j ≤ parents.getD j 0)) then none
  else some ⟨n, parents.take n, unpackCodes 32 n (b.drop 32)⟩

/-! ## Prune -/

/-- The index of the largest logit, the lowest among equals; none with a logit that is not finite (R263, R266). -/
def argmax (z : List Nat) : Option Nat :=
  let vs := z.map val32
  if vs.any FVal.nonfinite || vs.isEmpty then none
  else some (((List.range vs.length).zip vs).foldl (fun (b : Nat × FVal) e =>
    if ltExact b.2 e.2 then e else b) (0, vs.headD fZero)).1

/-- uniform(p, d) of a seed (R265). -/
def uniform (seed p d : Nat) : FVal :=
  let m (x : Nat) : Nat := x % 2 ^ 64
  let x := m (seed + m ((p % 2 ^ 32 * 32 + d) * 0x9E3779B97F4A7C15))
  let x := m ((x ^^^ (x / 2 ^ 30)) * 0xBF58476D1CE4E5B9)
  let x := m ((x ^^^ (x / 2 ^ 27)) * 0x94D049BB133111EB)
  let x := x ^^^ (x / 2 ^ 31)
  .fin false (x / 2 ^ 40) (-24)

/-- The result of a walk: accepted nodes in order, and the new token; none when a visited node has a non-finite logit. -/
abbrev Walk := Option (List Nat × Nat)

/-- The greedy walk from node `u` (R263). -/
def greedyWalk (t : Tree) (logits : List (List Nat)) : Nat → Nat → Walk
  | 0, _ => none
  | n + 1, u =>
    match argmax (logits.getD u []) with
    | none => none
    | some x =>
      match (t.children u).find? (fun c => t.tokens.getD c 0 = x) with
      | none => some ([], x)
      | some c => (greedyWalk t logits n c).map (fun r => (c :: r.1, r.2))

/-- The weights of a node under a temperature (R264). -/
def specWeights (z : List Nat) (temp : Nat) : List FVal :=
  let vs := z.map val32
  let zmax := vs.foldl (fun a x => (maxExact a x).1) (.inf true)
  let rt := (recip32 (val32 temp)).1
  vs.map (fun x => (exp32 (mul32 (add32 x zmax.neg).1 rt).1).1)

/-- The candidates of a node in order: the accepted child, or none with the weights left (R264). -/
def specChoose (t : Tree) (seed pos : Nat) : List Nat → Nat → List FVal → Option Nat × List FVal
  | [], _, w => (none, w)
  | c :: cs, d, w =>
    let x := t.tokens.getD c 0
    let sw := sum32 w
    let px := if x < w.length then w.getD x fZero else fZero
    if ltExact (mul32 (uniform seed pos d) sw).1 px then (some c, w)
    else specChoose t seed pos cs (d + 1) (if x < w.length then w.set x fZero else w)

/-- The token sampled from the weights that are left (R264). -/
def specSample (seed pos : Nat) (w : List FVal) : Nat :=
  let th := (mul32 (uniform seed pos 16) (sum32 w)).1
  let r := ((List.range w.length).zip w).foldl (fun (s : FVal × Option Nat) e =>
    let acc := (add32 s.1 e.2).1
    (acc, match s.2 with
      | some i => some i
      | none => if ltExact th acc then some e.1 else none)) (fZero, none)
  r.2.getD ((((List.range w.length).zip w).filter (fun e => ltExact fZero e.2)).foldl (fun _ e => e.1) 0)

/-- The speculative-sampling walk from node `u` (R264). -/
def specWalk (t : Tree) (logits : List (List Nat)) (seed temp base : Nat) : Nat → Nat → Walk
  | 0, _ => none
  | n + 1, u =>
    let z := logits.getD u []
    if (z.map val32).any FVal.nonfinite || z.isEmpty then none
    else
      let pos := base + t.depth 16 u + 1
      match specChoose t seed pos (t.children u) 0 (specWeights z temp) with
      | (some c, _) => (specWalk t logits seed temp base n c).map (fun r => (c :: r.1, r.2))
      | (none, w) => some ([], specSample seed pos w)

/-! ## Items and pages (R218, R219) -/

/-- An item record (R219). -/
structure Item where
  addr : Nat
  slot : Nat
  layer : Nat
  kvhead : Nat
  spread : Nat
  pages : Nat
  table : Nat
  sumPlot : Nat
  sumCh : Nat
  sumRow : Nat
  home : List Nat
deriving DecidableEq, Repr

/-- The item record at a GDDR7 address; none when a field is out of range (R219). -/
def readItem (d : Dev) (a : Nat) : Option Item :=
  let b := memRead d.gddr a 64
  let v (i n : Nat) : Nat := leValue ((b.drop i).take n)
  if v 3 1 = 0 ∨ 16 < v 3 1 ∨ 256 < v 4 2 ∨ 16384 < v 6 2 then none
  else some ⟨a, v 0 1, v 1 1, v 2 1, v 3 1, v 6 2, v 8 8, v 16 2, v 18 1, v 20 2, unpackCodes 16 16 (b.drop 32)⟩

/-- The physical plot, channel and pair of a page's home (R218, R219). -/
def Item.homeOf (d : Dev) (it : Item) (page : Nat) : Option (Nat × Nat × Nat) :=
  let h := it.home.getD (page % it.spread) 0
  (d.phys (h / 16 % 1024)).map (fun p => (p, h / 4 % 4, h % 4))

/-- The frame of a page: from the pages opened for the step, or from a page-table entry of residence 1 (R218, R227). -/
def Item.frameOf (d : Dev) (it : Item) (opened : List OpenPage) (page : Nat) : Option Nat :=
  match opened.find? (fun o => o.item = it.addr && o.page = page) with
  | some o => some o.frame
  | none =>
    let e := leValue (memRead d.gddr (it.table + 8 * page) 8)
    if page < it.pages ∧ e / 2 ^ 62 = 1 then some (e % 512) else none

/-- The places of one token entry in a bed: offset and length of its key elements, key scales, value elements and value
scales (R217). -/
def tokenParts (ch pair f t : Nat) : List (Nat × Nat) :=
  let bank := 2 * pair + t / 32
  let side := bedLoc ch bank (816 + f / 2) (f % 2 * 1024)
  [(bedLoc ch bank (2 * f) (t % 32 * 64), 64), (side + 288 + t % 32 * 8, 8),
    (bedLoc ch bank (2 * f + 1) (t % 32 * 64), 64), (side + 544 + t % 32 * 8, 8)]

/-- Copies the entry at position `x` to position `y` unchanged (R230). -/
def copyEntry (d : Dev) (it : Item) (opened : List OpenPage) (x y : Nat) : Dev :=
  match it.homeOf d (x / 64), it.frameOf d opened (x / 64), it.homeOf d (y / 64), it.frameOf d opened (y / 64) with
  | some hx, some fx, some hy, some fy =>
    ((tokenParts hx.2.1 hx.2.2 fx (x % 64)).zip (tokenParts hy.2.1 hy.2.2 fy (y % 64))).foldl (fun d e =>
      let r := bedRead d hx.1 e.1.1 e.1.2 false
      (bedWrite r.1 hy.1 e.2.1 r.2.1).1) d
  | _, _, _, _ => d

/-- COUNT and FULL of a page in both header copies (R230). -/
def setCount (d : Dev) (it : Item) (opened : List OpenPage) (page count : Nat) : Dev :=
  match it.homeOf d page, it.frameOf d opened page with
  | some h, some f =>
    (List.range 2).foldl (fun d b =>
      let side := bedLoc h.2.1 (2 * h.2.2 + b) (816 + f / 2) (f % 2 * 1024)
      let r := bedRead d h.1 (side + 259) 1 false
      let fl := ((r.2.1.headD 0).toNat) % 2 + (if count = 64 then 2 else 0)
      let d := (bedWrite r.1 h.1 (side + 259) (leBytes 1 fl)).1
      (bedWrite d h.1 (side + 262) (leBytes 1 count)).1) d
  | _, _ => d

/-- Where the summary of a page lies (R221). -/
def Item.summaryAt (it : Item) (page : Nat) : Nat :=
  bedLoc it.sumCh (page % 8) (it.sumRow + page / 32) (page / 8 % 4 * 512)

/-- The summary of a page as opened (R221). -/
def openSummary : List Byte := (List.replicate 128 (leBytes 2 0xFF80)).flatten ++ (List.replicate 128 (leBytes 2 0x7F80)).flatten

/-- The summary takes the key at position `x` (R221). -/
def sumKey (d : Dev) (it : Item) (opened : List OpenPage) (x : Nat) : Dev :=
  match it.homeOf d (x / 64), it.frameOf d opened (x / 64), d.phys it.sumPlot with
  | some h, some f, some sp =>
    let side := bedLoc h.2.1 (2 * h.2.2) (816 + f / 2) (f % 2 * 1024)
    let m := bedRead d h.1 side 256 false
    let ps := tokenParts h.2.1 h.2.2 f (x % 64)
    let ke := bedRead m.1 h.1 (ps.getD 0 (0, 0)).1 64 false
    let ks := bedRead ke.1 h.1 (ps.getD 1 (0, 0)).1 8 false
    let key := (ok4Token ke.2.1 ks.2.1 (some (unpackCodes 16 128 m.2.1))).1
    let a := it.summaryAt (x / 64)
    let s := bedRead ks.1 sp a 512 false
    let mx := (key.zip (unpackCodes 16 128 s.2.1)).map (fun e =>
      (encodeFp fmtBf16 .rne false (maxExact (decodeFp fmtBf16 e.2)
        (decodeFp fmtBf16 (encodeFp fmtBf16 .up false e.1).1)).1).1)
    let mn := (key.zip (unpackCodes 16 128 (s.2.1.drop 256))).map (fun e =>
      (encodeFp fmtBf16 .rne false (minExact (decodeFp fmtBf16 e.2)
        (decodeFp fmtBf16 (encodeFp fmtBf16 .up false e.1.neg).1).neg).1).1)
    (bedWrite s.1 sp a (mx.flatMap (leBytes 2) ++ mn.flatMap (leBytes 2))).1
  | _, _, _ => d

/-- The page changes of one item for the entries committed: copies, counts, summaries, and the table entries of pages
opened for the step that hold accepted entries (R230). `path` are the nodes accepted, in order. -/
def commitItem (d : Dev) (it : Item) (opened : List OpenPage) (base : Nat) (path : List Nat) : Dev :=
  let n := path.length
  let d := ((List.range n).zip path).foldl (fun d e =>
    if e.1 = e.2 then d else copyEntry d it opened (base + e.2) (base + e.1)) d
  let pages := if n = 0 then [] else (List.range ((base + n - 1) / 64 - base / 64 + 1)).map (· + base / 64)
  let d := pages.foldl (fun d p => setCount d it opened p (min 64 (base + n - 64 * p))) d
  let fresh := opened.filter (fun o => o.item = it.addr && pages.contains o.page)
  let d := fresh.foldl (fun d o =>
    let d := { d with gddr := memWrite d.gddr (it.table + 8 * o.page) (leBytes 8 (2 ^ 62 + o.frame)) }
    let d := { d with gddr := memWrite d.gddr (it.addr + 6) (leBytes 2 (max (leValue (memRead d.gddr (it.addr + 6) 2)) (o.page + 1))) }
    match d.phys it.sumPlot with
    | some sp => (bedWrite d sp (it.summaryAt o.page) openSummary).1
    | none => d) d
  (List.range n).foldl (fun d a => sumKey d it opened (base + a)) d

/-- The pages of an item are freed: its page-table entries name no page (R251). -/
def freeItem (d : Dev) (a : Nat) : Dev :=
  match readItem d a with
  | none => d
  | some it => { d with gddr := memWrite d.gddr it.table (zeros (8 * it.pages)) }

/-- A page is opened tentatively: both header copies, with the mean of the preceding page, of the prefill's keys, or +0
(R68, R215, R227). -/
def openPage (d : Dev) (opened : List OpenPage) (it : Item) (gen page frame : Nat) (mean : Option (List Nat)) : Dev :=
  match it.homeOf d page with
  | none => d
  | some h =>
    let prev := match page with
      | 0 => (d, zeros 256)
      | q + 1 => match it.homeOf d q, it.frameOf d opened q with
        | some g, some f =>
          let r := bedRead d g.1 (bedLoc g.2.1 (2 * g.2.2) (816 + f / 2) (f % 2 * 1024)) 256 false
          (r.1, r.2.1)
        | _, _ => (d, zeros 256)
    let m := match mean with
      | some m => m.flatMap (leBytes 2) |> padTo 256
      | none => prev.2
    let hdr := m.take 256 ++ leBytes 1 it.slot ++ leBytes 1 it.layer ++ leBytes 1 it.kvhead ++
      leBytes 1 (if mean.isSome then 1 else 0) ++ leBytes 2 page ++ leBytes 1 0 ++ zeros 1 ++ leBytes 4 gen ++ zeros 20
    (List.range 2).foldl (fun d b =>
      (bedWrite d h.1 (bedLoc h.2.1 (2 * h.2.2 + b) (816 + frame / 2) (frame % 2 * 1024)) hdr).1) prev.1

end Sys2Proof.Machine
end

