-- ==== Sys2Proof/Machine/Steps.lean ====
section
/-! DEFINITION. Slots, jobs, events and decode steps (chapter 7): job intake, the evaluation of a step boundary, the step
block, and the commit. -/

namespace Sys2Proof.Machine

/-! ## Slots (R250) -/

/-- A slot beyond its register. -/
def Dev.slot (d : Dev) (s : Nat) : Slot := SMap.get Slot.reset d.steps.slots s

/-- The device with a slot replaced. -/
def Dev.setSlot (d : Dev) (s : Nat) (x : Slot) : Dev :=
  { d with steps := { d.steps with slots := SMap.set Slot.reset d.steps.slots s x } }

/-- STATE of a slot: 0 FREE, 1 PREFILL, 2 DECODE, 3 HELD, 4 PARKED, 5 FAILED (R274). -/
def slotSt (d : Dev) (s : Nat) : Nat := d.rg (fSTP_SLOT_STATE.at s)

/-- The device with STATE of a slot set. -/
def setSlotSt (d : Dev) (s st : Nat) : Dev := d.rs (fSTP_SLOT_STATE.at s) st

/-- GEN of a slot. -/
def slotGen (d : Dev) (s : Nat) : Nat := d.rg (fSTP_SLOT_GEN.at s)

/-- BASE of a slot. -/
def slotBase (d : Dev) (s : Nat) : Nat := d.rg (fSTP_SLOT_BASE.at s)

/-- Whether a step runs. -/
def stepRunning (d : Dev) : Bool :=
  match d.steps.run with
  | some r => !r.again
  | none => false

/-- The slots of the step that runs or is to run again. -/
def stepEntries (d : Dev) : List StepEntry :=
  match d.steps.run with
  | some r => r.entries
  | none => []

/-- Whether orphan mode has taken effect (R367). -/
def orphanEff (d : Dev) : Bool := decide (d.rg fCPL_STATUS_ORPHAN = 1) && !d.steps.orphanWait

/-! ## Events (R253, R259) -/

/-- Event entries free beyond those reserved for the slots of a step and the jobs taken. -/
def evFree (d : Dev) : Nat :=
  64 - (d.steps.events.length + 2 * (stepEntries d).length + d.steps.jobs.length)

/-- Events go to the event ring as it has room. -/
def flushEvents (d : Dev) : Dev :=
  let k := min (ringFree d 2) d.steps.events.length
  let d' := publish d 2 ((d.steps.events.take k).map (·.bytes))
  { d' with steps := { d'.steps with events := d'.steps.events.drop k } }

/-- An event record enters the queue (R259). -/
def pushEvent (d : Dev) (code kind s tag detail : Nat) : Dev :=
  let b := leBytes 2 code ++ leBytes 1 kind ++ leBytes 1 s ++ leBytes 4 tag ++ leBytes 4 (slotGen d (s % 16)) ++
    leBytes 4 (slotBase d (s % 16)) ++ leBytes 8 d.steps.lastNo ++ leBytes 8 detail
  flushEvents { d with steps := { d.steps with events := d.steps.events ++ [⟨b⟩] } }

/-! ## Transitions outside a step (R251, R253) -/

/-- The pages of a slot are freed and the slot is FREE. -/
def freeSlot (d : Dev) (s : Nat) : Dev :=
  let items := (d.slot s).items
  (setSlotSt (items.foldl freeItem d) s 0).setSlot s { Slot.reset with tag := (d.slot s).tag }

/-- The slot that a transition concerns. -/
def Trans.slot : Trans → Nat
  | .park s _ _ => s
  | .resume s => s
  | .evict s => s
  | .fail s _ => s
  | .cancel s => s
  | .empty s => s

/-- A transition takes place and raises its event. -/
def transNow (d : Dev) : Trans → Dev
  | .park s prior timer =>
    if slotSt d s = 0 ∨ 4 ≤ slotSt d s then d else
    let d := (setSlotSt d s 4).rs (fSTP_SLOT_PRIOR.at s) prior
    let d := d.setSlot s { d.slot s with hold := if timer then some (d.rg fCPL_HB_CFG_HOLD) else none }
    pushEvent d 0 5 s (d.slot s).tag 0
  | .resume s =>
    if slotSt d s ≠ 4 then d else
    let d := setSlotSt d s (d.rg (fSTP_SLOT_PRIOR.at s))
    pushEvent (d.setSlot s { d.slot s with hold := none }) 0 6 s (d.slot s).tag 0
  | .evict s =>
    if slotSt d s ≠ 4 then d else pushEvent (freeSlot d s) 0x0F31 7 s (d.slot s).tag 0
  | .fail s code =>
    if slotSt d s = 0 ∨ 4 ≤ slotSt d s then d else pushEvent (setSlotSt d s 5) 0x0F30 8 s (d.slot s).tag code
  | .cancel s =>
    if slotSt d s = 0 then d else pushEvent (freeSlot d s) 0 3 s (d.slot s).tag 3
  | .empty s =>
    if slotSt d s ≠ 1 then d else pushEvent (freeSlot d s) 0 3 s (d.slot s).tag 5

/-- A transition takes place at once if an event entry is free, else it waits with its event; a slot waits for at most
one of a kind (R253). -/
def raiseTrans (d : Dev) (t : Trans) : Dev :=
  if d.steps.waiting.contains t then d
  else if d.steps.waiting.isEmpty && 0 < evFree d then transNow d t
  else { d with steps := { d.steps with waiting := d.steps.waiting ++ [t] } }

/-- SLOT_EVENT_RAISE (R253). -/
def execSlotEventRaise (s : State) : Host.Outcome State Fault Refusal :=
  onDev s (fun d => match d.steps.waiting with
    | t :: w => if 0 < evFree d then indexLine (transNow { d with steps := { d.steps with waiting := w } } t) else d
    | [] => d)

/-! ## Jobs (R254 to R256) -/

/-- A field of a job descriptor. -/
def jobV (j : Job) (i n : Nat) : Nat := leValue ((j.bytes.drop i).take n)

/-- A flag of a job descriptor. -/
def jobFlag (j : Job) (b : Nat) : Bool := bitOf (jobV j 2 1) b

/-- The code that rejects a job on its own fields (R255); 0 when none does. -/
def jobInvalid (d : Dev) (j : Job) : Nat :=
  let op := (jobV j 0 1)
  let temp := val32 ((jobV j 48 4))
  let bad :=
    op = 0 || 4 < op || 15 < (jobV j 1 1) || 32 ≤ (jobV j 2 1) || (j.bytes.drop 88).any (fun x => x ≠ 0) ||
    (op ≤ 2 && (2 ^ 20 < (jobV j 12 4) || (jobV j 16 8) < hostBase || (jobV j 16 8) % 4 ≠ 0)) ||
    (op = 1 && ((jobV j 3 1) = 0 || 16 < (jobV j 3 1) || (jobV j 8 4) ≠ 0 || 256 < (jobV j 52 2) || 8 < (jobV j 54 1) ||
      ((jobFlag j 1) && (temp.nonfinite || !ltExact fZero temp)) ||
      ((jobFlag j 2) && (2 ^ 20 < (jobV j 28 4) || (jobV j 32 8) < hostBase || (jobV j 32 8) % 4 ≠ 0))))
  if bad then 0x0F04
  else if op = 1 ∧ (jobFlag j 3) then
    match d.steps.placement with
    | some pm => if bitOf pm.drafts ((jobV j 55 1)) then 0 else 0x0F05
    | none => 0x0F05
  else 0

/-- A rejected job raises JOB_REJECTED and changes nothing (R255). -/
def jobReject (d : Dev) (j : Job) (code : Nat) : Dev := pushEvent d code 4 ((jobV j 1 1)) ((jobV j 4 4)) ((jobV j 0 1))

/-- Tokens of 32 bits written to a staging area in GDDR7 (R256). -/
def stageTokens (d : Dev) (a : Nat) (ts : List Nat) : Dev := { d with gddr := memWrite d.gddr a (ts.flatMap (leBytes 4)) }

/-- A chunk behind the chunks queued. An empty last chunk makes the chunk before it the last. -/
def addChunk (cs : List Chunk) (c : Chunk) : List Chunk :=
  match c.left, c.last, cs.reverse with
  | 0, true, x :: t => ({ x with last := true } :: t).reverse
  | 0, false, _ => cs
  | _, _, _ => cs ++ [c]

/-- Job OPEN on a FREE slot (R251). -/
def jobOpen (d : Dev) (j : Job) : Dev :=
  let s := (jobV j 1 1)
  let n := (jobV j 12 4)
  let d := stageTokens d j.staging (j.tokens.take n)
  let d := if (jobFlag j 2) then stageTokens d j.guideStaging (j.guide.take ((jobV j 28 4))) else d
  let sieve := if (jobFlag j 4) then (jobV j 52 2) else d.rg fSTP_CFG_SIEVE_P
  let d := j.items.foldl (fun d e => { d with
    gddr := memWrite (memWrite d.gddr e.1 (padTo 64 (e.2.take 64))) (e.1 + 4) (leBytes 2 sieve) }) d
  let d := d.rs (fSTP_SLOT_GEN.at s) (slotGen d s + 1)
  let d := ((setSlotSt d s 1).rs (fSTP_SLOT_BASE.at s) 0).rs (fSTP_SLOT_N.at s) 0
  let d := d.rs (fSTP_SLOT_PRIOR.at s) 0
  let x : Slot := { Slot.reset with
    tag := (jobV j 4 4), sample := (jobFlag j 1), draftEn := (jobFlag j 3), draftId := (jobV j 55 1), maxShoots := (jobV j 3 1),
    maxNew := (jobV j 24 4), seed := (jobV j 40 8), temp := (jobV j 48 4), sieveP := sieve,
    stops := (unpackCodes 32 8 (j.bytes.drop 56)).take ((jobV j 54 1)),
    guideAddr := j.guideStaging, guideLen := if (jobFlag j 2) then (jobV j 28 4) else 0,
    chunks := addChunk [] ⟨j.staging, n, (jobFlag j 0)⟩, lastSeen := (jobFlag j 0), order := d.steps.nextOrder,
    items := j.items.map (·.1) }
  let d := d.setSlot s x
  let d := { d with steps := { d.steps with nextOrder := d.steps.nextOrder + 1 } }
  pushEvent d 0 1 s ((jobV j 4 4)) 0

/-- Tokens queued for a slot. -/
def Slot.queued (x : Slot) : Nat := x.chunks.foldl (fun a c => a + c.left) 0

/-- The code that R256 rejects a prompt with; 0 when none. -/
def promptBad (j : Job) (base : Nat) (x : Slot) : Nat :=
  if 2 ^ 20 < base + x.queued + (jobV j 12 4) then 0x0F10 else if j.readErr then 0x0F11 else 0

/-- A job takes effect (R251). -/
def jobApply (d : Dev) (j : Job) : Dev :=
  let bad := jobInvalid d j
  let op := (jobV j 0 1)
  let s := (jobV j 1 1)
  let st := slotSt d s
  let x := d.slot s
  if bad ≠ 0 then jobReject d j bad
  else if op = 1 then
    if st ≠ 0 then jobReject d j 0x0F01
    else
      let c := promptBad j 0 Slot.reset
      if c ≠ 0 then jobReject d j c else jobOpen d j
  else if st ≠ 0 ∧ slotGen d s ≠ (jobV j 8 4) then jobReject d j 0x0F03
  else if op = 2 then
    if st ≠ 1 ∨ x.lastSeen then jobReject d j 0x0F02
    else
      let c := promptBad j (slotBase d s) x
      if c ≠ 0 then jobReject d j c
      else
        let d := stageTokens d j.staging (j.tokens.take ((jobV j 12 4)))
        d.setSlot s { x with chunks := addChunk x.chunks ⟨j.staging, (jobV j 12 4), (jobFlag j 0)⟩, lastSeen := (jobFlag j 0) }
  else if op = 3 then if st = 0 then jobReject d j 0x0F02 else raiseTrans d (.cancel s)
  else if st = 4 then raiseTrans d (.resume s)
  else jobReject d j 0x0F02

/-- A job at the front of the ring is taken, if intake is open and Ervoec runs (R253, R255, R367, R511): it takes effect at the next step
boundary, which is now when no step runs. -/
def jobTake (d : Dev) (op : Nat) (j : Job) : Dev :=
  let v := (jobV j 0 1)
  let mine := decide (v = op) || (decide (op = 1) && (decide (v = 0) || decide (4 < v)))
  if !mine || d.rg (fCPL_RING_CFG_ENABLE.at 0) = 0 || ringFill d 0 = 0 || orphanEff d || evFree d < 16 ||
      d.rg fSHD_FW_STATE ≠ 2 then d
  else
    let d := d.rs (fCPL_RING_IDX_CONSUMER.at 0) (d.rg (fCPL_RING_IDX_CONSUMER.at 0) + 1)
    let d := { d with cpl := { d.cpl with idxDirty := true } }
    let j := { j with bytes := padTo 128 (j.bytes.take 128) }
    let d := if d.steps.run.isSome then { d with steps := { d.steps with jobs := d.steps.jobs ++ [j] } } else jobApply d j
    indexLine d

/-- OPEN (R251). -/
def execOpen (job : Job) (s : State) : Host.Outcome State Fault Refusal := onDev s (fun d => jobTake d 1 job)

/-- APPEND (R251). -/
def execAppend (job : Job) (s : State) : Host.Outcome State Fault Refusal := onDev s (fun d => jobTake d 2 job)

/-- CANCEL (R251, R269). -/
def execCancel (job : Job) (s : State) : Host.Outcome State Fault Refusal := onDev s (fun d => jobTake d 3 job)

/-- RESUME (R251). -/
def execResume (job : Job) (s : State) : Host.Outcome State Fault Refusal := onDev s (fun d => jobTake d 4 job)

/-! ## The boundary (R251, R253, R274, R367, R438) -/

/-- STP_CFG takes effect; a SIEVE_P above 256 has none (R274). -/
def stpCfgApply (d : Dev) (data : Nat) : Dev :=
  let d := d.rs fSTP_CFG_PREFILL_ROWS (bitsOf data 16 16)
  if 256 < bitsOf data 0 9 then d else d.rs fSTP_CFG_SIEVE_P (bitsOf data 0 9)

/-- The tree size that a slot needs room for, as last planned. -/
def planSize (d : Dev) (s : Nat) : Nat := (d.slot s).plan.n

/-- In orphan mode, slots without room and prefill slots without a chunk park with their hold timers (R251, R367). -/
def orphanPark (d : Dev) : Dev :=
  if !orphanEff d then d
  else (List.range 16).foldl (fun d s =>
    if slotSt d s = 1 ∧ (d.slot s).chunks.isEmpty then raiseTrans d (.park s 1 true)
    else if slotSt d s = 3 ∧ ringFree d 1 < planSize d s then raiseTrans d (.park s 2 true)
    else d) d

/-- Slots whose whole prompt is empty end (R252). -/
def emptyPrompts (d : Dev) : Dev :=
  (List.range 16).foldl (fun d s =>
    let x := d.slot s
    if slotSt d s = 1 ∧ x.lastSeen ∧ x.queued = 0 ∧ slotBase d s = 0 then raiseTrans d (.empty s) else d) d

/-- Without a slot in PREFILL or DECODE the device leaves D0, and idle plots are sent to P2 (R438). -/
def idleDevice (d : Dev) : Dev :=
  if d.rg fAON_DSTATE_STATE ≠ 1 || (List.range 16).any (fun s => slotSt d s = 1 || slotSt d s = 2) then d
  else
    (allPlots.filter (fun p => (d.plot p).sleep < 2 && plotQuiet (d.plot p))).foldl (fun d p =>
      d.modPlot p (fun pl => pl.rs fPLOT_PWR_REQ 2)) (d.rs fAON_DSTATE_STATE 2)

/-- A step boundary: a written STP_CFG, a waiting orphan entry and the jobs taken have their effect, in ring order. -/
def boundary (d : Dev) : Dev :=
  let d := match d.steps.cfgWait with
    | some v => stpCfgApply { d with steps := { d.steps with cfgWait := none } } v
    | none => d
  let js := d.steps.jobs
  let d := { d with steps := { d.steps with orphanWait := false, jobs := [] } }
  let d := js.foldl jobApply d
  indexLine (idleDevice (orphanPark (emptyPrompts d)))

/-- STP_CFG_WRITE (R274). -/
def stpCfgWrite (d : Dev) (data : Nat) : Dev :=
  let d := if 256 < bitsOf data 0 9 then recordErr d 12 0x7FF 0x0F04 else d
  if d.steps.run.isSome then { d with steps := { d.steps with cfgWait := some data } } else stpCfgApply d data

/-- STP_CFG_WRITE (R274). -/
def execStpCfgWrite (data : Nat) (s : State) : Host.Outcome State Fault Refusal := onDev s (fun d => stpCfgWrite d data)

/-- Entry to orphan mode: at once, or at the boundary that ends the running step (R367). -/
def orphanEnter (d : Dev) : Dev :=
  if d.rg fCPL_STATUS_ORPHAN = 1 then d
  else
    let d := raiseEdge ((cplErr d 0x0711).rs fCPL_STATUS_ORPHAN 1) 21
    if d.steps.run.isSome then { d with steps := { d.steps with orphanWait := true } } else indexLine (orphanPark d)

/-- HOLD_TIMER_EXPIRY (R251, R367). -/
def execHoldTimerExpiry (slot : Nat) (s : State) : Host.Outcome State Fault Refusal :=
  onDev s (fun d =>
    if slot < 16 ∧ slotSt d slot = 4 ∧ (d.slot slot).hold.isSome then indexLine (raiseTrans d (.evict slot)) else d)

/-! ## Trees of a step (R260 to R262) -/

/-- The chain of guide tokens (R261). -/
def guideTree (d : Dev) (x : Slot) (limit : Nat) : Tree :=
  let n := min limit (1 + (x.guideLen - x.cursor))
  ⟨n, (List.range n).map (fun j => if j = 0 then 255 else j - 1),
    0 :: unpackCodes 32 (n - 1) (memRead d.gddr (x.guideAddr + 4 * x.cursor) (4 * (n - 1)))⟩

/-- The limit of R262 on a slot's tree. -/
def treeLimit (d : Dev) (s : Nat) : Nat :=
  let x := d.slot s
  max 1 (min (min x.maxShoots (2 ^ 20 - slotBase d s)) (x.maxNew - x.emitted))

/-- The tree of a decoding slot, from its guide, its draft record or the root alone (R261). -/
def slotTree (d : Dev) (s : Nat) (drafts : List (Nat × List Byte)) : Dev × Tree :=
  let x := d.slot s
  let lim := treeLimit d s
  let root (t : Tree) : Tree := { t with tokens := x.token :: t.tokens.tail }
  if x.guideLive then (d, root (guideTree d x lim))
  else if x.draftEn then
    match drafts.find? (fun e => e.1 = s) with
    | none => (d, root Tree.root)
    | some e => match parseTree (padTo 96 (e.2.take 96)) with
      | some t => (d, root (t.cut lim))
      | none => ((recordErr d 12 s 0x0F21).count fSTP_CNT_DRAFT_BAD 1, root Tree.root)
  else (d, root Tree.root)

/-! ## STEP_START (R253, R258, R272, R273) -/

/-- The prefill rows of each PREFILL slot: in the order of their OPENs, up to the limit per step (R273). -/
def prefillRows (d : Dev) : List (Nat × Nat) :=
  let ss := ((List.range 16).filter (fun s => slotSt d s = 1)).foldl (fun l s =>
    l.takeWhile (fun x => (d.slot x).order ≤ (d.slot s).order) ++ [s] ++
      l.dropWhile (fun x => (d.slot x).order ≤ (d.slot s).order)) []
  (ss.foldl (fun (a : List (Nat × Nat) × Nat) s =>
    let k := match (d.slot s).chunks with
      | c :: _ => min c.left a.2
      | [] => 0
    (a.1 ++ [(s, k)], a.2 - k)) ([], d.rg fSTP_CFG_PREFILL_ROWS)).1

/-- One slot of the boundary evaluation: the entries so far, and the records they reserve. -/
def slotEnter (drafts : List (Nat × List Byte)) (rows : List (Nat × Nat))
    (a : Dev × List StepEntry × Nat) (s : Nat) : Dev × List StepEntry × Nat :=
  let d := a.1
  let st := slotSt d s
  let x := d.slot s
  let evOk := decide (d.steps.events.length + 2 * (a.2.1.length + 1) ≤ 64)
  if d.steps.waiting.any (fun t => t.slot = s) then a
  else if st = 2 ∨ st = 3 then
    let q := slotTree d s drafts
    let d := q.1.setSlot s { x with plan := q.2 }
    if ringFree d 1 < a.2.2 + q.2.n then
      if orphanEff d then (raiseTrans d (.park s 2 true), a.2) else (setSlotSt d s 3, a.2)
    else
      let d := setSlotSt d s 2
      if evOk then (d, a.2.1 ++ [⟨s, true, q.2, 0, 0, false⟩], a.2.2 + q.2.n) else (d, a.2)
  else if st = 1 then
    match x.chunks with
    | [] => a
    | c :: _ =>
      let k := ((rows.find? (fun e => e.1 = s)).map (·.2)).getD 0
      let fin := c.last && k = c.left
      let need := if fin && x.maxNew ≠ 0 then 1 else 0
      let lacks := decide (ringFree d 1 < a.2.2 + need)
      if lacks && orphanEff d then (raiseTrans d (.park s 1 true), a.2)
      else
        let k' := if lacks then k - 1 else k
        let fin' := fin && !lacks
        if (k' = 0 && !fin') || !evOk then a
        else (d, a.2.1 ++ [⟨s, false, Tree.root, k', c.addr, fin'⟩], if fin' then a.2.2 + need else a.2.2)
  else a

/-- Rows of an entry. -/
def StepEntry.size (e : StepEntry) : Nat := if e.decode then e.tree.n else e.rows

/-- The ENGINE word: bit L set when layer L runs on tines (R270, R271). -/
def engineBits (d : Dev) (r : Nat) : List Byte :=
  let on (l : Nat) : Bool :=
    let e := leValue (memRead d.gddr (d.rg fSTP_PHASE_ADDR + 4 * l) 4)
    let store := bitsOf e 8 2
    let from_ := bitsOf e 0 8
    if store = 0 ∧ r ≤ 8 then true else if store = 1 ∨ from_ ≤ r then false else true
  (List.range 32).map (fun i => BitVec.ofNat 8 ((List.range 8).foldl (fun a b => if on (8 * i + b) then a + 2 ^ b else a) 0))

/-- The slot record of the step block (R272). -/
def slotRecord (d : Dev) (entries : List StepEntry) (s : Nat) : List Byte :=
  match entries.find? (fun e => e.slot = s) with
  | none => zeros 128
  | some e =>
    let row0 := (entries.filter (fun x => x.slot < s)).foldl (fun a x => a + x.size) 0
    let t := if e.decode then e.tree else ⟨0, [], []⟩
    padTo 128 (leBytes 4 (slotBase d s) ++ leBytes 4 (slotGen d s) ++ zeros 2 ++ leBytes 1 (if e.decode then 1 else 2) ++
      leBytes 1 t.n ++ leBytes 4 (if e.decode then 0 else e.rows) ++ leBytes 8 (if e.decode then 0 else e.addr) ++
      leBytes 4 row0 ++ zeros 4 ++ padTo 32 ((List.range t.n).flatMap (fun j => leBytes 2 (t.anc 16 j))) ++
      padTo 64 (t.tokens.flatMap (leBytes 4)))

/-- The step block (R272). -/
def stepBlock (d : Dev) (r : StepRun) : List Byte :=
  let rows := r.entries.foldl (fun a e => a + e.size) 0
  let live := r.entries.foldl (fun a e => a + 2 ^ e.slot) 0
  padTo 4096 (leBytes 8 r.no ++ leBytes 4 rows ++ leBytes 2 live ++ zeros 18 ++ engineBits d rows ++
    (List.range 16).flatMap (slotRecord d r.entries))

/-- The physical plots of the placement. -/
def placementPlots (d : Dev) : List Nat :=
  match d.steps.placement with
  | some pm => (List.range pm.plots).filterMap d.phys
  | none => []

/-- Pages are opened tentatively: each with its item record, page, frame if one is free, and the mean of a prefill's keys
(R68, R227). Answers the pages opened and the slots that found no frame. -/
def openPages (d : Dev) (opens : List (Nat × Nat × Option Nat × Option (List Nat))) : Dev × List OpenPage × List Nat :=
  opens.foldl (fun a e =>
    match readItem a.1 e.1 with
    | none => (recordErr a.1 12 0x7FF 0x0E12, a.2)
    | some it => match e.2.2.1 with
      | none => (a.1, a.2.1, a.2.2 ++ [it.slot])
      | some f => (openPage a.1 a.2.1 it (slotGen a.1 (it.slot % 16)) e.2.1 f e.2.2.2, a.2.1 ++ [⟨e.1, e.2.1, f⟩], a.2.2))
    (d, [], [])

/-- A step starts with its slots: plots woken, pages opened, the step block written (R272, R438). -/
def stepBegin (d : Dev) (no : Nat) (entries : List StepEntry)
    (opens : List (Nat × Nat × Option Nat × Option (List Nat))) : Dev :=
  let d := (placementPlots d).foldl wakePlot (d.rs fAON_DSTATE_STATE 1)
  let q := openPages d opens
  let r : StepRun := ⟨no, entries, q.2.1, q.2.2, false⟩
  let d := { q.1 with steps := { q.1.steps with run := some r } }
  let d := entries.foldl (fun d e => d.rs (fSTP_SLOT_N.at e.slot) (if e.decode then e.tree.n else 0)) d
  let d := d.rs fSTP_STATUS_ROWS (entries.foldl (fun a e => a + e.size) 0)
  let b := stepBlock d r
  (placementPlots d).foldl (fun d p => (scrWrite d p 0 b).1) d

/-- STEP_START: the boundary evaluation in ascending slot order, and the step of the slots that enter; a step abandoned
runs again from the same inputs (R251, R253, R258, R268, R273). -/
def stepStart (d : Dev) (drafts : List (Nat × List Byte))
    (opens : List (Nat × Nat × Option Nat × Option (List Nat))) : Dev :=
  let ds := d.rg fAON_DSTATE_STATE
  if (ds ≠ 1 ∧ ds ≠ 2) ∨ d.steps.hold ≠ 0 ∨ d.steps.placement.isNone then d
  else match d.steps.run with
    | some r => if r.again then stepBegin d r.no r.entries opens else d
    | none =>
      let a := (List.range 16).foldl (slotEnter drafts (prefillRows d)) (d, [], 0)
      indexLine (if a.2.1.isEmpty then a.1 else stepBegin a.1 (a.1.steps.lastNo + 1) a.2.1 opens)

/-! ## Abandonment (R268) -/

/-- The running step is abandoned: nothing is committed, its pages are free again, and it is to run again if `again`. -/
def stepAbandon (d : Dev) (again : Bool) : Dev :=
  match d.steps.run with
  | none => d
  | some r =>
    if r.again then (if again then d else { d with steps := { d.steps with run := none } })
    else
      let d := (recordErr d 12 0x7FF 0x0F20).count fSTP_CNT_ABANDONED 1
      let d := d.rs fSTP_STATUS_ROWS 0
      { d with steps := { d.steps with
        run := if again then some { r with again := true, opened := [], noSpace := [] } else none } }

/-- STEP_ABANDON (R268). -/
def execStepAbandon (s : State) : Host.Outcome State Fault Refusal := onDev s (fun d => stepAbandon d true)

/-! ## The commit (R252, R257, R267, R269) -/

/-- Whether every check of the step has closed on this device, with no unit FAILED (R45, R245, R267). -/
def checksClosed (d : Dev) : Bool :=
  decide (d.rg fFAB_BRIDGE_STATUS_DOWN = 0) && (placementPlots d).all (fun p =>
    let pl := d.plot p
    !unitsUnclosed pl && pl.deps.isEmpty && pl.rowChecks.isEmpty && pl.vecChecks.isEmpty && pl.attChecks.isEmpty &&
      pl.tines.all (fun t => t.2.checks.isEmpty) && pl.units.all (fun u => !u.2.failed))

/-- The fixed result of an entry's prune: the accepted path without the root, and the new token (R263, R264). -/
def pruneEntry (d : Dev) (e : StepEntry) (logits : List (List Nat)) : Walk :=
  let x := d.slot e.slot
  let base := if e.decode then slotBase d e.slot else slotBase d e.slot + e.rows - 1
  let t := if e.decode then e.tree else Tree.root
  if x.sample then specWalk t logits x.seed x.temp base 17 0 else greedyWalk t logits 17 0

/-- The reason that ends a slot at its i-th token of the step (R252). -/
def endReason (x : Slot) (base0 i tok : Nat) : Option Nat :=
  if x.stops.contains tok then some 0
  else if x.emitted + i + 1 = x.maxNew then some 1
  else if base0 + i = 2 ^ 20 then some 2
  else none

/-- The tokens emitted, cut at the ending token: position, token, whether it is a shoot; and the reason that ends the slot. -/
def emitCut (x : Slot) (pos0 : Nat) (toks : List (Nat × Bool)) : List (Nat × Nat × Bool) × Option Nat :=
  ((List.range toks.length).zip toks).foldl (fun a e =>
    match a.2 with
    | some _ => a
    | none => (a.1 ++ [(pos0 + e.1, e.2.1, e.2.2)], endReason x pos0 e.1 e.2.1)) ([], none)

/-- Output records of a slot's tokens (R257). -/
def outRecords (no s tag : Nat) (toks : List (Nat × Nat × Bool)) (ended : Bool) : List (List Byte) :=
  ((List.range toks.length).zip toks).map (fun e =>
    leBytes 4 e.2.2.1 ++ leBytes 4 e.2.1 ++ leBytes 4 tag ++ leBytes 1 s ++
      leBytes 1 ((if ended && e.1 + 1 = toks.length then 1 else 0) + (if e.2.2.2 then 2 else 0)) ++ leBytes 2 no)

/-- The events and slot state that follow: code, kind, detail; and the state the slot takes. -/
abbrev SlotEnd := List (Nat × Nat × Nat) × Nat

/-- The guide after a commit that accepted `a` shoots and sampled `tok` (R261). -/
def guideAfter (d : Dev) (x : Slot) (a tok : Nat) (first : Bool) : Slot :=
  let g := if first then 0 else x.cursor + a
  let was := if first then decide (0 < x.guideLen) else x.guideLive
  let live := was && decide (g < x.guideLen) && decide (leValue (memRead d.gddr (x.guideAddr + 4 * g) 4) = tok)
  { x with guideLive := live, cursor := if live then g + 1 else g }

/-- The chunks after `k` rows of the first. -/
def chunksAfter (cs : List Chunk) (k : Nat) (fin : Bool) : List Chunk :=
  match cs with
  | [] => []
  | c :: t => if fin || (c.left ≤ k && !c.last) then t else { c with addr := c.addr + 4 * k, left := c.left - k } :: t

/-- The commit of one slot, actions 2 and 3 of R267: the device, its output records, its events and its next state. -/
def commitSlot (d : Dev) (r : StepRun) (e : StepEntry) (res : Walk) (fault : Option Nat) (cancelled : Bool) :
    Dev × List (List Byte) × SlotEnd :=
  let s := e.slot
  let x := d.slot s
  let base := slotBase d s
  let pages (d : Dev) (path : List Nat) : Dev := x.items.foldl (fun d a => match readItem d a with
    | some it => commitItem d it r.opened base path
    | none => recordErr d 12 s 0x0E12) d
  let emitted (d : Dev) (n : Nat) (toks : List (Nat × Bool)) (y : Slot) (pre : List (Nat × Nat × Nat)) :=
    let d := d.rs (fSTP_SLOT_BASE.at s) (base + n)
    let q := emitCut x (base + (if e.decode then 1 else e.rows)) toks
    let lastTok := (toks.getLast?.map (·.1)).getD 0
    let d := d.setSlot s { y with
      token := lastTok, emitted := x.emitted + q.1.length, lastPos := (q.1.getLast?.map (·.1)).or x.lastPos }
    (d, outRecords r.no s x.tag q.1 q.2.isSome, (match q.2 with
      | some why => (pre ++ [(0, 3, why)], 0)
      | none => (pre, 2) : SlotEnd))
  if cancelled then (d, [], [(0, 3, 3)], 0)
  else match fault with
  | some c => (d, [], [(0x0F30, 8, c)], 5)
  | none =>
    if r.noSpace.contains s then (d, [], [(0x0F12, 3, 4)], 0)
    else if e.decode then
      match res with
      | none => (d, [], [(0x0F30, 8, 0x0F13)], 5)
      | some w =>
        let d := pages d (0 :: w.1)
        emitted d (w.1.length + 1) (w.1.map (fun c => (e.tree.tokens.getD c 0, true)) ++ [(w.2, false)])
          (guideAfter d x w.1.length w.2 false) []
    else
      let y := { x with chunks := chunksAfter x.chunks e.rows e.final }
      if !e.final then
        ((pages d (List.range e.rows)).rs (fSTP_SLOT_BASE.at s) (base + e.rows) |>.setSlot s y, [], [], 1)
      else if x.maxNew = 0 then
        ((pages d (List.range e.rows)).rs (fSTP_SLOT_BASE.at s) (base + e.rows) |>.setSlot s y, [], [(0, 2, 0), (0, 3, 1)], 0)
      else match res with
        | none => (d, [], [(0x0F30, 8, 0x0F13)], 5)
        | some w =>
          let d := pages d (List.range e.rows)
          emitted d e.rows [(w.2, false)] (guideAfter d y 0 w.2 true) [(0, 2, 0)]

/-- Whether a CANCEL taken in the step names the slot (R269). -/
def cancelTaken (d : Dev) (s : Nat) : Bool :=
  d.steps.jobs.any (fun j => (jobV j 0 1) = 3 && (jobV j 1 1) = s && (jobV j 8 4) = slotGen d s && jobInvalid d j = 0)

/-- The commit (R267): pages and positions by slot, records and events where this device is the emitter, then the slot
transitions. -/
def stepCommit (d : Dev) (results : List (Nat × Walk)) (faults resid : List (Nat × Nat)) (emit : Bool) : Dev :=
  match d.steps.run with
  | none => d
  | some r =>
    let d := { d with steps := { d.steps with lastNo := r.no } }
    let d := resid.foldl (fun d e => { d with gddr := memWrite d.gddr e.1 (leBytes 8 e.2) }) d
    let gone := (r.entries.map (·.slot)).filter (cancelTaken d)
    let q := r.entries.foldl (fun (a : Dev × List (List Byte) × List (Nat × SlotEnd)) e =>
      let res : Walk := ((results.find? (fun x => x.1 = e.slot)).map (·.2)).getD none
      let c := commitSlot a.1 r e res ((faults.find? (fun x => x.1 = e.slot)).map (·.2)) (gone.contains e.slot)
      (c.1, a.2.1 ++ c.2.1, a.2.2 ++ [(e.slot, c.2.2)])) (d, [], [])
    let d := { q.1 with steps := { q.1.steps with
      run := none, jobs := q.1.steps.jobs.filter (fun j => !((jobV j 0 1) = 3 && gone.contains ((jobV j 1 1)))) } }
    let d := if emit then
        q.2.2.foldl (fun d e => e.2.1.foldl (fun d v => pushEvent d v.1 v.2.1 e.1 (d.slot e.1).tag v.2.2) d)
          (publish d 1 q.2.1)
      else d
    let d := q.2.2.foldl (fun d e => if e.2.2 = 0 then freeSlot d e.1 else setSlotSt d e.1 e.2.2) d
    (d.rs fSTP_STATUS_STEPS (d.rg fSTP_STATUS_STEPS + 1)).rs fSTP_STATUS_ROWS 0

/-- The prune results of the step, from the logits of each slot's nodes (R266, R267). -/
def stepResults (d : Dev) (logits : List (Nat × List (List Nat))) : List (Nat × Walk) :=
  (stepEntries d).map (fun e =>
    (e.slot, pruneEntry d e (((logits.find? (fun x => x.1 = e.slot)).map (·.2)).getD [])))

/-- The results go to the other devices of the placement (R267). -/
def sendResults (d : Dev) (others : List Nat) (results : List (Nat × Walk)) : Dev :=
  let rs := results.filterMap (fun e => e.2.map (fun w => (e.1, w.1, w.2)))
  others.foldl (fun d o => d.emit (.commitResult o rs)) d

end Sys2Proof.Machine
end

