-- ==== Sys2Proof/Machine/Capacity.lean ====
section
/-! DEFINITION. The capacity in service, as registers and the CAPACITY message give it (R419, R421). -/

namespace Sys2Proof.Machine

/-- BRW_PLOTS follows the numbering and the spare pools (R421). -/
def plotCounts (d : Dev) : Dev :=
  let d := d.rs fBRW_PLOTS_IN_SERVICE d.numbering.length
  let d := d.rs fBRW_PLOTS_ABSENT (1024 - d.numbering.length)
  let d := d.rs fBRW_PLOTS_SPARE_WEST (d.spares.filter (fun p => plotHalf p = 0)).length
  d.rs fBRW_PLOTS_SPARE_EAST (d.spares.filter (fun p => plotHalf p = 1)).length

/-- Whether the loaded placement uses an ABSENT number. -/
def placementAbsent (d : Dev) : Bool :=
  match d.steps.placement with
  | some pm => (List.range pm.plots).any (fun n => (d.phys n).isNone)
  | none => false

/-- The body of CAPACITY (R419). -/
def capacityBody (d : Dev) : List Byte :=
  let gone (c : Nat) : Bool := d.rg (fGDC_STATUS_STATE.at c) = 5 ||
    (d.rg (fGDC_STATUS_STATE.at c) = 0 && 8 ≤ d.rg fBRW_STATUS_LAST_DONE)
  let down := (List.range 24).foldl (fun a c => if gone c then a + 2 ^ c else a) 0
  let unfit := match d.steps.placement with
    | some pm => !pm.fits
    | none => false
  leBytes 2 d.numbering.length ++ leBytes 2 (1024 - d.numbering.length) ++
    leBytes 1 (d.rg fBRW_PLOTS_SPARE_WEST) ++ leBytes 1 (d.rg fBRW_PLOTS_SPARE_EAST) ++
    leBytes 1 ((if placementAbsent d then 1 else 0) + (if unfit then 2 else 0)) ++ zeros 1 ++
    leBytes 4 d.retired.length ++ leBytes 4 down ++ zeros 16

/-- Ervoec sends CAPACITY and writes a journal entry, once the device has entered RUN (R419, R566). -/
def capacityMail (d : Dev) : Dev :=
  if d.rg fAON_DSTATE_STATE = 0 then d
  else journalAdd (mailUnsolicited d 0x0310 (capacityBody d)) 6 d.steps.lastNo 0 (capacityBody d)

/-- Every slot in PREFILL, DECODE or HELD parks without a hold timer (R251, R305, R438). -/
def parkAll (d : Dev) : Dev :=
  (List.range 16).foldl (fun d s =>
    let st := slotSt d s
    if 1 ≤ st ∧ st ≤ 3 then raiseTrans d (.park s (if st = 1 then 1 else 2) false) else d) d

/-- The placement no longer fits: no further step runs until a placement is loaded again (R298, R488). -/
def placementUnfit (d : Dev) : Dev :=
  { d with steps := { d.steps with placement := d.steps.placement.map (fun pm => { pm with fits := false }) } }

end Sys2Proof.Machine
end

