-- ==== Sys2Proof/Machine/Gddr.lean ====
section
/-! DEFINITION. Regulation points and the GDDR7 controllers (chapters 8 and 9). -/

namespace Sys2Proof.Machine

/-! ## Regulation points (R309 to R314) -/

/-- A regulation point beyond its registers. -/
def Dev.point (d : Dev) (p : Nat) : RegPoint := SMap.get RegPoint.reset d.points p

/-- The device with a regulation point replaced. -/
def Dev.setPoint (d : Dev) (p : Nat) (x : RegPoint) : Dev := { d with points := SMap.set RegPoint.reset d.points p x }

/-- Bytes that a request moves. -/
def reqLen (r : FabReq) : Nat :=
  match r.op with
  | .read len => len
  | .write data => data.length
  | .reduce _ data => data.length

/-- Bytes that a grant charges: twice for reduce-writes and narrow writes (R310). -/
def reqCharge (r : FabReq) : Nat :=
  match r.op with
  | .read len => len
  | .write data => if r.addr % 32 = 0 ∧ data.length % 32 = 0 then data.length else 2 * data.length
  | .reduce _ data => 2 * data.length

/-- A point charges a request that it grants at once, and counts its deadline (R310, R315). -/
def chargeAt (d : Dev) (p : Nat) (r : FabReq) : Dev :=
  let x := d.point p
  let d := d.setPoint p { x with granted := x.granted.set r.cls (x.granted.getD r.cls 0 + reqCharge r) }
  if r.slack.isSome then d.count (fFAB_REG_LATE_DL_SERVED.at2 p r.cls) 1 else d

/-- Whether two requests touch a 32-byte sector in common. -/
def sameSector (a b : FabReq) : Bool :=
  decide (a.addr / 32 ≤ (b.addr + reqLen b - 1) / 32) && decide (b.addr / 32 ≤ (a.addr + reqLen a - 1) / 32)

/-- A request arrives at a regulation point; its slack becomes a due cycle there (R309). -/
def pointEnqueue (d : Dev) (p : Nat) (r : FabReq) : Dev :=
  let x := d.point p
  d.setPoint p { x with queue := x.queue ++ [⟨r, r.slack.map (· + r.now), false⟩] }

/-- The requests that a point may grant: at a controller those of its queue of 64 that its state lets pass (R282, R296). -/
def pointOpen (d : Dev) (p : Nat) : List Waiting :=
  let q := (d.point p).queue
  if p < 24 then
    let st := d.rg (fGDC_STATUS_STATE.at p)
    if st = 2 then q.take 64 else if st = 3 then q.takeWhile (·.early) else []
  else q

/-- The due cycle by which a waiting request is ordered: the earliest of its own and of those behind it on a sector (R312). -/
def effDue (q : List Waiting) (i : Nat) (w : Waiting) : Option Nat :=
  (q.drop (i + 1)).foldl (fun m x => if sameSector w.req x.req then
    (match m, x.due with
      | some a, some b => some (min a b)
      | none, b => b
      | a, none => a) else m) w.due

/-- The step of R312 at which a class is served: 0 below MIN, 1 below BUDGET, 2 over it. -/
def classLevel (x : RegPoint) (c : Nat) : Nat :=
  let g := x.granted.getD c 0
  if g < x.mins.getD c 0 * 256 then 0 else if g < x.budgets.getD c 0 * 256 then 1 else 2

/-- The index of the request that a point grants (R312). -/
def pointPick (x : RegPoint) (q : List Waiting) : Option Nat :=
  let idx := (List.range q.length).zip q
  let elig := idx.filter (fun e => !((q.take e.1).any (fun y => sameSector y.req e.2.req)))
  let at_ (l : Nat) : Option Nat :=
    let es := elig.filter (fun e => classLevel x e.2.req.cls = l)
    let dl := es.filterMap (fun e => (effDue q e.1 e.2).map (fun t => (t, e.2.req.cls, e.1)))
    match dl with
    | h :: t => some (t.foldl (fun b e =>
        if e.1 < b.1 ∨ (e.1 = b.1 ∧ e.2.1 < b.2.1) then e else b) h).2.2
    | [] => ((List.range 7).map (fun k => (x.rr + k) % 7)).findSome? (fun c =>
        (es.find? (fun e => e.2.req.cls = c)).map (·.1))
  (at_ 0).or ((at_ 1).or (if x.spill then at_ 2 else none))

/-- A point grants a request: it leaves the queue, is charged, and counts as late if it is (R309 to R312). -/
def pointGrant (d : Dev) (p now i : Nat) (w : Waiting) : Dev :=
  let x := d.point p
  let c := w.req.cls
  let d := d.setPoint p { x with
    queue := x.queue.eraseIdx i, rr := (c + 1) % 7, granted := x.granted.set c (x.granted.getD c 0 + reqCharge w.req) }
  match w.due with
  | none => d
  | some t =>
    let d := d.count (fFAB_REG_LATE_DL_SERVED.at2 p c) 1
    if w.req.late || decide (t < now) then
      let d := d.count (fFAB_REG_LATE_LATE.at2 p c) 1
      blockEvent d (if p < 24 then 3 else 5) (if p < 24 then p else 0) 0x112 1 (some c) (some w.req.addr)
    else d

/-- The next grant of a point, if a request may be granted. -/
def grantTake (d : Dev) (p now : Nat) : Option (Dev × Waiting) :=
  let q := pointOpen d p
  match pointPick (d.point p) q with
  | none => none
  | some i => (q[i]?).map (fun w => (pointGrant d p now i w, w))

/-- REG_WINDOW_BOUNDARY: granted bytes restart and written settings take effect (R310, R314). -/
def execRegWindowBoundary (point : Nat) (s : State) : Host.Outcome State Fault Refusal :=
  onDev s (fun d =>
    if 26 ≤ point then d else
    let x := d.point point
    d.setPoint point { x with
      window := d.rg (fFAB_REG_CFG_WINDOW.at point), spill := d.rg (fFAB_REG_CFG_SPILL.at point) = 1,
      mins := (List.range 7).map (fun c => d.rg (fFAB_REG_CLASS_MIN.at2 point c)),
      budgets := (List.range 7).map (fun c => d.rg (fFAB_REG_CLASS_BUDGET.at2 point c)),
      granted := List.replicate 7 0 })

/-- A write of FAB_REG_CFG (R316). -/
def fabRegCfgWrite (d : Dev) (point data : Nat) : Dev :=
  let w := bitsOf data 0 7
  if w = 0 ∨ 64 < w then recordFab d 0x0A04
  else (d.rs (fFAB_REG_CFG_SPILL.at point) (bitsOf data 7 1)).rs (fFAB_REG_CFG_WINDOW.at point) w

/-- FAB_REG_CFG_WRITE (R314, R316). -/
def execFabRegCfgWrite (point data : Nat) (s : State) : Host.Outcome State Fault Refusal :=
  onDev s (fun d => if point < 26 then fabRegCfgWrite d point data else d)

/-- A write of FAB_REG_CLASS (R316). -/
def fabRegClassWrite (d : Dev) (point cls data : Nat) : Dev :=
  let b := bitsOf data 24 24
  let m := bitsOf data 0 24
  if b < m then recordFab d 0x0A04
  else (d.rs (fFAB_REG_CLASS_BUDGET.at2 point cls) b).rs (fFAB_REG_CLASS_MIN.at2 point cls) m

/-- FAB_REG_CLASS_WRITE (R314, R316). -/
def execFabRegClassWrite (point cls data : Nat) (s : State) : Host.Outcome State Fault Refusal :=
  onDev s (fun d => if point < 26 ∧ cls < 7 then fabRegClassWrite d point cls data else d)

/-- A request whose slack has run out is LATE (R307). -/
def setLate (r : FabReq) : FabReq := if r.slack.isSome then { r with slack := some 0, late := true } else r

/-- SLACK_EXPIRY (R307). -/
def execSlackExpiry (place : SlackPlace) (s : State) : Host.Outcome State Fault Refusal :=
  onDev s (fun d => match place with
    | .point p pos =>
      let x := d.point p
      match x.queue[pos]? with
      | some w => d.setPoint p { x with queue := x.queue.set pos { w with req := setLate w.req } }
      | none => d
    | .hold p ch pos =>
      let c := (d.plot p).chan ch
      match c.hold[pos]? with
      | some r => d.modPlot p (fun pl => pl.setChan ch { c with hold := c.hold.set pos (setLate r) })
      | none => d)

/-! ## The bridge (R305) -/

/-- The bridge goes down: crossing requests fail, the step is abandoned, slots park and the loss is reported. -/
def bridgeDown (d : Dev) : Dev :=
  if d.rg fFAB_BRIDGE_STATUS_DOWN = 1 then d
  else
    let d := recordFab (d.rs fFAB_BRIDGE_STATUS_DOWN 1) 0x0A05
    let fail (d : Dev) (p : Nat) : Dev :=
      let x := d.point p
      x.queue.foldl (fun d w => fabAnswer d w.req 0x0A05 (zeros (match w.req.op with
        | .read n => n
        | _ => 0))) (d.setPoint p { x with queue := [] })
    indexLine (capacityMail (parkAll (stepAbandon (fail (fail d 24) 25) false)))

/-- BRIDGE_CRC_FAIL: a transfer whose CRC fails `failures` times in a row, with at most 8 replays (R305). -/
def execBridgeCrcFail (failures : Nat) (s : State) : Host.Outcome State Fault Refusal :=
  onDev s (fun d =>
    if d.rg fFAB_BRIDGE_STATUS_DOWN = 1 ∨ d.rg fFAB_BRIDGE_STATUS_PORT_UP = 0 then d
    else
      let d := d.count fFAB_BRIDGE_STATUS_REPLAYS (min failures 8)
      if 9 ≤ failures then bridgeDown d else d)

/-- BRIDGE_PORT_LOCK_LOSS (R305). -/
def execBridgePortLockLoss (row : Nat) (s : State) : Host.Outcome State Fault Refusal :=
  onDev s (fun d =>
    if bitOf (d.rg fFAB_BRIDGE_STATUS_PORT_UP) row then
      bridgeDown (d.rs fFAB_BRIDGE_STATUS_PORT_UP (clearBit (d.rg fFAB_BRIDGE_STATUS_PORT_UP) row))
    else d)

/-! ## Service at a controller (R281 to R289) -/

/-- A controller beyond its registers and point. -/
def Dev.gdc (d : Dev) (c : Nat) : Gdc := SMap.get Gdc.reset d.gdcs c

/-- The device with a controller replaced. -/
def Dev.setGdc (d : Dev) (c : Nat) (g : Gdc) : Dev := { d with gdcs := SMap.set Gdc.reset d.gdcs c g }

/-- STATE of a controller: 0 UNTRAINED, 1 TRAINING, 2 SERVING, 3 DRAIN, 4 RETRAIN, 5 DOWN (R299). -/
def gdcState (d : Dev) (c : Nat) : Nat := d.rg (fGDC_STATUS_STATE.at c)

/-- The device with STATE of a controller set. -/
def setGdcState (d : Dev) (c st : Nat) : Dev := d.rs (fGDC_STATUS_STATE.at c) st

/-- A new window of R288 starts. -/
def newWindow (d : Dev) (c : Nat) : Dev := d.setGdc c { d.gdc c with winRetries := 0, winAccesses := 0 }

/-- The controller requests retraining, once (R288, R296). -/
def requestRetrain (d : Dev) (c reason : Nat) : Dev :=
  if d.rg (fGDC_RETRAIN_REQUEST.at c) = 1 then d
  else newWindow ((d.rs (fGDC_RETRAIN_REQUEST.at c) 1).rs (fGDC_RETRAIN_REASON.at c) reason) c

/-- A successful retry counts, in all and in the window (R288). -/
def retryOk (d : Dev) (c : Nat) : Dev :=
  let d := d.count (fGDC_LINK_CNT_CRC_RETRIED.at c) 1
  let g := d.gdc c
  let d := d.setGdc c { g with winRetries := g.winRetries + 1 }
  if d.rg (fGDC_CFG_RETRAIN_AT.at c) ≤ g.winRetries + 1 then
    (if d.rg (fGDC_RETRAIN_REQUEST.at c) = 1 then newWindow d c else requestRetrain d c 1)
  else d

/-- One access of a window of 2^24 (R288). -/
def countAccess (d : Dev) (c : Nat) : Dev :=
  let g := d.gdc c
  if g.winAccesses + 1 = 2 ^ 24 then newWindow d c else d.setGdc c { g with winAccesses := g.winAccesses + 1 }

/-- An armed flip corrupts a transfer of its direction that has a sector on its device channel: one retry (R289). -/
def linkFlip (d : Dev) (c : Nat) (r : FabReq) (write : Bool) : Dev :=
  if d.rg (fGDC_FLIP_ARM.at c) = 0 ∨ (d.rg (fGDC_FLIP_DIR.at c) = 1) = (write = true) ∨
      !((sectorsOf r.addr (reqLen r)).any (fun s => s / 32 % 4 = d.rg (fGDC_FLIP_DCH.at c))) then d
  else
    let d := d.rs (fGDC_FLIP_ARM.at c) 0
    if d.rg (fGDC_FLIP_MASK.at c) = 0 then d else retryOk d c

/-- A request is performed at its controller: the code and the data read (R281 to R285, R289). -/
def gddrAccess (d : Dev) (c : Nat) (r : FabReq) : Dev × Nat × List Byte :=
  let d := countAccess d c
  match r.op with
  | .read len =>
    let q := gddrRead (linkFlip d c r false) r.addr len r.report
    (q.1, q.2.2, q.2.1)
  | .write data =>
    let q := gddrWrite (linkFlip d c r true) r.addr data r.report
    (q.1, q.2, [])
  | .reduce op data =>
    let q := gddrReduce (linkFlip (linkFlip d c r false) c r true) r.addr op data r.report
    (q.1, q.2, [])

/-- A request that a controller performs is an event of its bank, with its bytes in units of 32 (R557). -/
def gdcEvents (d : Dev) (c : Nat) (r : FabReq) : Dev :=
  let d := blockEvent d 3 c 0x100 1 (some r.cls) (some r.addr)
  blockEvent d 3 c 0x101 ((reqLen r + 31) / 32) (some r.cls) (some r.addr)

/-- A request is performed and answered. -/
def gddrPerform (d : Dev) (c : Nat) (r : FabReq) : Dev :=
  let q := gddrAccess (gdcEvents d c r) c r
  fabAnswer q.1 r q.2.1 q.2.2

/-- A request to a channel that does not serve completes with code 0x0906 (R296). -/
def gddrDown (d : Dev) (c : Nat) (r : FabReq) : Dev :=
  fabAnswer (gdcErr d c fGDC_ERR_CHANNEL_DOWN 0x0906) r 0x0906 (match r.op with
    | .read n => zeros n
    | _ => [])

/-- A request arrives at its controller (R282, R296). -/
def gddrArrive (d : Dev) (r : FabReq) : Dev :=
  let c := (gddrMap r.addr).1
  if gdcTakes d c then pointEnqueue d c r else gddrDown d c r

/-- Free bytes take the place of a sector range: its contents are unknown (R288). -/
def gddrUnknown (d : Dev) (a n : Nat) : Dev :=
  (List.range n).foldl (fun d i =>
    let q := d.free 8
    { q.1 with gddr := memSet q.1.gddr (a + i) (BitVec.ofNat 8 q.2) }) d

/-- The request served next meets `fails` CRC errors in a row: resent up to the limit, then failed (R288). -/
def crcError (d : Dev) (c now fails : Nat) (write : Bool) : Dev :=
  match grantTake d c now with
  | none => d
  | some (d', w) =>
    let isW := match w.req.op with
      | .read _ => false
      | _ => true
    if isW ≠ write ∨ fails = 0 then d
    else if fails ≤ d.rg (fGDC_CFG_CRC_RETRIES.at c) then gddrPerform (retryOk d' c) c w.req
    else
      let d := gdcErr (countAccess d' c) c fGDC_ERR_CRC_RETRY_FAIL 0x0903
      let d := if write then
          (sectorsOf w.req.addr (reqLen w.req)).foldl (fun d s =>
            gdcSuspect (gddrUnknown d s 32) c (gddrMap s).2 true) d
        else d
      fabAnswer d w.req 0x0903 (match w.req.op with
        | .read n => zeros n
        | _ => [])

/-- GDDR_WRITE_CRC_ERROR (R288). -/
def execGddrWriteCrcError (c now fails : Nat) (s : State) : Host.Outcome State Fault Refusal :=
  onDev s (fun d => if c < 24 then crcError d c now fails true else d)

/-- GDDR_READ_CRC_ERROR (R288). -/
def execGddrReadCrcError (c now fails : Nat) (s : State) : Host.Outcome State Fault Refusal :=
  onDev s (fun d => if c < 24 then crcError d c now fails false else d)

/-- GDC_CA_PARITY (R288). -/
def execGdcCaParity (c : Nat) (s : State) : Host.Outcome State Fault Refusal :=
  onDev s (fun d =>
    if 24 ≤ c ∨ !gdcTakes d c then d
    else
      let d := (gdcErr d c fGDC_ERR_CA_PARITY 0x0904).count (fGDC_LINK_CNT_CA_PARITY.at c) 1
      if gdcState d c = 2 then requestRetrain d c 2 else d)

/-! ## Retraining (R296 to R298) -/

/-- START of a retrain (R296, R299). -/
def retrainStart (d : Dev) (c : Nat) : Dev :=
  if gdcState d c ≠ 2 then d
  else
    let d := if d.rg (fGDC_RETRAIN_REQUEST.at c) = 0 then d.rs (fGDC_RETRAIN_REASON.at c) 3 else d
    let x := d.point c
    setGdcState (d.setPoint c { x with
      queue := (x.queue.take 64).map (fun w => { w with early := true }) ++ x.queue.drop 64 }) c 3

/-- GDC_RETRAIN_START (R296). -/
def execGdcRetrainStart (c : Nat) (s : State) : Host.Outcome State Fault Refusal :=
  onDev s (fun d => if c < 24 then retrainStart d c else d)

/-- GDC_DRAIN_DONE (R296). -/
def execGdcDrainDone (c : Nat) (s : State) : Host.Outcome State Fault Refusal :=
  onDev s (fun d =>
    if 24 ≤ c ∨ gdcState d c ≠ 3 ∨ (d.point c).queue.any (·.early) then d else setGdcState d c 4)

/-- Held requests are served in arrival order. -/
def serveHeld (c now : Nat) : Nat → Dev → Dev
  | 0, d => d
  | n + 1, d =>
    match (d.point c).queue with
    | [] => d
    | w :: _ => serveHeld c now n (gddrPerform (pointGrant d c now 0 w) c w.req)

/-- GDC_RETRAIN_PASS: SERVING again `ac` cycles after START (R296). -/
def execGdcRetrainPass (c ac now : Nat) (s : State) : Host.Outcome State Fault Refusal :=
  onDev s (fun d =>
    if 24 ≤ c ∨ gdcState d c ≠ 4 ∨ 50000 < ac then d
    else
      let d := ((setGdcState d c 2).rs (fGDC_RETRAIN_REQUEST.at c) 0).rs (fGDC_RETRAIN_LAST_AC.at c) ac
      let d := newWindow (d.count (fGDC_LINK_CNT_RETRAINS.at c) 1) c
      serveHeld c now (d.point c).queue.length d)

/-- GDC_RETRAIN_TIMEOUT: the channel is DOWN, and the loss is reported (R296, R298). -/
def execGdcRetrainTimeout (c : Nat) (s : State) : Host.Outcome State Fault Refusal :=
  onDev s (fun d =>
    if 24 ≤ c ∨ (gdcState d c ≠ 3 ∧ gdcState d c ≠ 4) then d
    else
      let x := d.point c
      let d := gdcErr (setGdcState (d.setPoint c { x with queue := [] }) c 5) c fGDC_ERR_RETRAIN_TIMEOUT 0x0905
      capacityMail (x.queue.foldl (fun d w => gddrDown d c w.req) d))

/-- A controller whose reference loses lock leaves service as under loss of link (R424, R296). -/
def gdcLinkLost (d : Dev) (c : Nat) : Dev := if gdcState d c = 2 then requestRetrain d c 2 else d

/-! ## Registers of a controller (R299) -/

/-- A write of GDC_CFG. -/
def gdcCfgWrite (d : Dev) (c data : Nat) : Dev :=
  let r := bitsOf data 24 8
  let t := bitsOf data 16 8
  let k := bitsOf data 12 4
  if r = 0 ∨ t = 0 ∨ k = 0 then recordErr d 8 c 0x090B
  else
    let d := ((d.rs (fGDC_CFG_RETRAIN_AT.at c) r).rs (fGDC_CFG_SUSPECT_THRESHOLD.at c) t).rs (fGDC_CFG_CRC_RETRIES.at c) k
    if gdcState d c = 0 then d.rs (fGDC_CFG_SPEED.at c) (bitsOf data 0 2) else d

/-- GDC_CFG_WRITE (R299). -/
def execGdcCfgWrite (c data : Nat) (s : State) : Host.Outcome State Fault Refusal :=
  onDev s (fun d => if c < 24 then gdcCfgWrite d c data else d)

/-- A write of GDC_WEED_CFG. -/
def gdcWeedCfgWrite (d : Dev) (c data : Nat) : Dev :=
  let b := bitsOf data 16 16
  let g := bitsOf data 0 16
  if b = 0 ∨ g = 0 then recordErr d 8 c 0x090B
  else (((d.rs (fGDC_WEED_CFG_BED_EN.at c) (bitsOf data 63 1)).rs (fGDC_WEED_CFG_GDDR_EN.at c) (bitsOf data 62 1)).rs
    (fGDC_WEED_CFG_BED_INTERVAL.at c) b).rs (fGDC_WEED_CFG_GDDR_INTERVAL.at c) g

/-- GDC_WEED_CFG_WRITE (R299). -/
def execGdcWeedCfgWrite (c data : Nat) (s : State) : Host.Outcome State Fault Refusal :=
  onDev s (fun d => if c < 24 then gdcWeedCfgWrite d c data else d)

/-- A write of GDC_FLIP (R289). -/
def gdcFlipWrite (d : Dev) (c data : Nat) : Dev :=
  ((((d.rs (fGDC_FLIP_ARM.at c) (bitsOf data 16 1)).rs (fGDC_FLIP_DIR.at c) (bitsOf data 15 1)).rs
    (fGDC_FLIP_DCH.at c) (bitsOf data 13 2)).rs (fGDC_FLIP_BYTE.at c) (bitsOf data 8 5)).rs
    (fGDC_FLIP_MASK.at c) (bitsOf data 0 8)

/-- GDC_FLIP_WRITE (R289). -/
def execGdcFlipWrite (c data : Nat) (s : State) : Host.Outcome State Fault Refusal :=
  onDev s (fun d => if c < 24 then gdcFlipWrite d c data else d)

/-! ## The weeder (R293 to R295) -/

/-- Whether a controller's weeder runs: the controller SERVING, the device not in D2 or D3 (R295). -/
def weederRuns (d : Dev) (c : Nat) : Bool :=
  decide (gdcState d c = 2) && decide (d.rg fAON_DSTATE_STATE ≠ 3) && decide (d.rg fAON_DSTATE_STATE ≠ 4)

/-- WEEDER_GDDR_READ: the next 256 bytes of the device, with corrected sectors rewritten (R293, R294). -/
def execWeederGddrRead (c : Nat) (report : List Nat) (s : State) : Host.Outcome State Fault Refusal :=
  onDev s (fun d =>
    if 24 ≤ c ∨ !weederRuns d c ∨ d.rg (fGDC_WEED_CFG_GDDR_EN.at c) = 0 then d
    else
      let g := d.gdc c
      let a := gddrUnmap c (g.gddrPos / 16) + g.gddrPos % 16 * 256
      let r : FabReq := ⟨.weeder c, 5, .read 256, a, none, false, 0, report⟩
      let x := d.point c
      let d := d.setPoint c { x with granted := x.granted.set 5 (x.granted.getD 5 0 + 256) }
      let d := (gddrAccess d c r).1
      let next := (g.gddrPos + 1) % 2 ^ 24
      let d := d.setGdc c { d.gdc c with gddrPos := next }
      let d := d.rs (fGDC_WEED_STATUS_GDDR_CURSOR.at c) (next / 16)
      if next = 0 then d.rs (fGDC_WEED_STATUS_GDDR_PASSES.at c) (d.rg (fGDC_WEED_STATUS_GDDR_PASSES.at c) + 1) else d)

/-- The logical numbers whose beds a weeder reads, from `from_` on, that are present (R293). -/
def weederPlots (d : Dev) (c from_ : Nat) : List Nat :=
  let lo := if c < 12 then c else 512 + (c - 12)
  let hi := if c < 12 then 512 else 1024
  ((List.range 43).map (fun k => lo + 12 * k)).filter (fun n => n < hi && from_ ≤ n && (d.phys n).isSome)

/-- WEEDER_BED_READ: the next 256 bytes of the bed under the cursor, with the scrub flag (R293, R294). -/
def execWeederBedRead (c : Nat) (s : State) : Host.Outcome State Fault Refusal :=
  onDev s (fun d =>
    if 24 ≤ c ∨ !weederRuns d c ∨ d.rg (fGDC_WEED_CFG_BED_EN.at c) = 0 then d
    else
      let g := d.gdc c
      let next (d : Dev) (from_ : Nat) : Dev :=
        match weederPlots d c from_ with
        | n :: _ => d.setGdc c { d.gdc c with bedPlot := n, bedPos := 0 }
        | [] => (d.setGdc c { d.gdc c with bedPlot := 0, bedPos := 0 }).rs (fGDC_WEED_STATUS_BED_PASSES.at c)
            (d.rg (fGDC_WEED_STATUS_BED_PASSES.at c) + 1)
      match weederPlots d c g.bedPlot with
      | [] => if (weederPlots d c 0).isEmpty then d else next d g.bedPlot
      | n :: _ =>
        let pos := if n = g.bedPlot then g.bedPos else 0
        match d.phys n with
        | none => d
        | some p =>
          let d := bedRequest d p ⟨.weeder c, 5, .read 256, bedWindow n + pos * 256, none, false, 0, []⟩
          if pos + 1 = 2 ^ 18 then next d (n + 1) else d.setGdc c { d.gdc c with bedPlot := n, bedPos := pos + 1 })

end Sys2Proof.Machine
end

