-- ==== Sys2Proof/Machine/ScaleOut.lean ====
section
/-! DEFINITION. Scale-out ports (chapter 12): tags, received messages, forwarding, and the loss of a port. -/

namespace Sys2Proof.Machine

/-! ## Tags (R383, R384) -/

/-- Changes the descriptor that runs under a number in plot `p`. -/
def modRun (d : Dev) (p run : Nat) (f : DmaRun → DmaRun) : Dev :=
  d.modPlot p (fun pl => { pl with dmas := pl.dmas.map (fun x => if x.id = run then f x else x) })

/-- A tag is free again. -/
def tagErase (d : Dev) (tag : Nat) : Dev := { d with tags := SMap.erase tag d.tags }

/-- A response for a free tag is discarded and counted (R383). -/
def strayRsp (d : Dev) : Dev := d.count fSOP_TAGS_STRAY_RSP 1

/-- A piece of a descriptor is answered, with its code if it failed. -/
def pieceDone (d : Dev) (p run code : Nat) : Dev :=
  modRun d p run (fun x => { x with pieces := x.pieces - 1, err := if x.err = 0 then code else x.err })

/-- A SIGNAL ends with an error status: its instruction stops (R384). -/
def signalFail (d : Dev) (p pc code : Nat) (absent : Bool) : Dev :=
  if absent then stopAt d p pc 0x0C21 else stopAt (d.modPlot p (fun pl => dmaErr pl 0 0x0C12 code)) p pc 0x0C12

/-- A request completes without error: its tag is free (R382, R384). -/
def tagOk (d : Dev) (tag : Nat) : Dev :=
  match SMap.find? tag d.tags with
  | none => strayRsp d
  | some u =>
    match u.user with
    | .piece p run => pieceDone (tagErase d tag) p run 0
    | .signal _ _ => tagErase d tag

/-- A request completes with an error status: `rsp` when by an ERR response (R383, R384). -/
def tagFail (d : Dev) (tag code : Nat) (rsp : Bool) : Dev :=
  match SMap.find? tag d.tags with
  | none => if rsp then strayRsp d else d
  | some u =>
    match u.user with
    | .piece p run => pieceDone (tagErase d tag) p run code
    | .signal p pc => signalFail (tagErase d tag) p pc code (rsp && code = 0x0A02)

/-- SOP_TAG_TIMEOUT (R383). -/
def execSopTagTimeout (tag : Nat) (s : State) : Host.Outcome State Fault Refusal :=
  onDev s (fun d => tagFail d tag 0x0805 false)

/-! ## Received messages (R378, R381, R388) -/

/-- A field of a message. -/
def msgV (m : List Byte) (i n : Nat) : Nat := leValue ((m.drop i).take n)

/-- Whether a message may be processed: well formed, of the opcode, from a port that is UP or in RETRAIN. -/
def msgTaken (d : Dev) (port : Nat) (m : List Byte) (opc : Nat) : Bool :=
  let st := d.rg (fSOP_PORT_STATUS_STATE.at port)
  decide (port < 16) && (st = 3 || st = 4) && decide (msgV m 0 1 = opc) && !msgReserved (1 + port) m &&
    (match msgShape (1 + port) m with
      | some s => decide (s.2 = msgV m 1 1) && decide (m.length = 16 * s.2)
      | none => false)

/-- Whether a message is a request or a SIG, which are answered. -/
def msgAnswered (m : List Byte) : Bool := msgV m 0 1 ≤ 3 || msgV m 0 1 = 0x20

/-- A message that cannot go on: answered with ERR, or dropped (R387, R388, R396). -/
def msgRefuse (d : Dev) (m : List Byte) (code : Nat) : Dev :=
  if msgAnswered m then sopRespond d 0x12 (msgV m 4 2) (msgV m 8 2) code [] else d.count fSOP_DEV_CNT_DROPPED 1

/-- A forwarded message: HOPS one less, and for a request with a deadline the holding time off its SLACK (R307, R388,
R390). -/
def msgForwarded (m : List Byte) (hold : Nat) : List Byte :=
  let b6 := msgV m 6 1
  let slack := msgV m 12 4
  let req := msgV m 0 1 ≤ 3 && bitOf b6 6
  let late := req && slack < hold
  let b6 := b6 - 1
  let b6 := if late then withBit b6 7 else b6
  m.take 6 ++ leBytes 1 b6 ++ (m.drop 7).take 5 ++ (if req then leBytes 4 (slack - hold) else (m.drop 12).take 4) ++ m.drop 16

/-- A message for another device is forwarded once its outbound port has credits for it (R378, R386 to R390). -/
def msgForward (d : Dev) (port : Nat) (m : List Byte) (cls hold : Nat) : Dev :=
  let n := msgUnits m
  let dst := msgV m 2 2
  let src := msgV m 4 2
  if msgV m 6 1 % 64 = 0 then msgRefuse (linkFree d (1 + port) cls n) m 0x0807
  else match sopRoute d src dst with
    | none => msgRefuse (linkFree (d.count fSOP_DEV_CNT_NO_ROUTE 1) (1 + port) cls n) m 0x0804
    | some q =>
      let l := d.link (1 + q)
      if l.credits.getD cls 0 < n || l.waiting.any (fun w => w.1 = cls) then d
      else (linkSend (linkFree d (1 + port) cls n) (1 + q) cls (msgForwarded m hold)).count (fSOP_PORT_CNT_FORWARDED.at q) 1

/-- A message of an opcode is taken: forwarded, or processed here with its units freed (R378). -/
def onMsg (d : Dev) (port : Nat) (m : List Byte) (opc cls hold : Nat) (f : Dev → Dev) : Dev :=
  if !msgTaken d port m opc then d
  else if msgV m 2 2 = d.rg fSOP_DEV_DEV_ID then f (linkFree d (1 + port) cls (msgUnits m))
  else msgForward d port m cls hold

/-- WR_ACK (R382). -/
def execWrAck (port : Nat) (msg : List Byte) (s : State) : Host.Outcome State Fault Refusal :=
  onDev s (fun d => onMsg d port msg 0x10 1 0 (fun d => tagOk d (msgV msg 8 2)))

/-- ERR (R384). -/
def execErr (port : Nat) (msg : List Byte) (s : State) : Host.Outcome State Fault Refusal :=
  onDev s (fun d => onMsg d port msg 0x12 1 0 (fun d => tagFail d (msgV msg 8 2) (msgV msg 10 2) true))

/-- SIG_ACK (R384). -/
def execSigAck (port : Nat) (msg : List Byte) (s : State) : Host.Outcome State Fault Refusal :=
  onDev s (fun d => onMsg d port msg 0x13 1 0 (fun d => tagOk d (msgV msg 8 2)))

/-- SIG: the addition to a counter of a logical plot, which it wakes (R156, R393, R437). -/
def execSig (port : Nat) (msg : List Byte) (s : State) : Host.Outcome State Fault Refusal :=
  onDev s (fun d => onMsg d port msg 0x20 2 0 (fun d =>
    match d.phys (msgV msg 10 2) with
    | none => sopRespond d 0x12 (msgV msg 4 2) (msgV msg 8 2) 0x0A02 []
    | some p => sopRespond ((wakePlot d p).syncAdd p (msgV msg 7 1) (msgV msg 14 2)) 0x13 (msgV msg 4 2) (msgV msg 8 2) 0 []))

/-- A MGMT message for this device enters the shed's receive queue; its units are freed when the shed takes it. A
reserved TYPE is discarded; with a full queue the message waits (R394). -/
def mgmtArrive (d : Dev) (port : Nat) (m : List Byte) (opc : Nat) : Dev :=
  let ty := msgV m 8 2
  if !msgTaken d port m opc then d
  else if msgV m 2 2 ≠ d.rg fSOP_DEV_DEV_ID then msgForward d port m 3 0
  else if ty = 0 ∨ 0x0300 ≤ ty then
    sopErr (linkFree d (1 + port) 3 (msgUnits m)) port fSOP_PORT_ERR_FORMAT 0x0808
  else if 64 ≤ d.mgmt.length then d
  else { d with mgmt := d.mgmt ++ [⟨opc, msgV m 4 2, ty, port, (m.drop 16).take (msgV m 10 2)⟩] }

/-- The shed takes a message of its queue, the first that fits, and its units are freed (R394). -/
def mgmtTake (d : Dev) (fits : Mgmt → Bool) : Option (Dev × Mgmt) :=
  (d.mgmt.find? fits).map (fun x =>
    (linkFree { d with mgmt := d.mgmt.eraseP fits } (1 + x.port) 3 (1 + (x.body.length + 15) / 16), x))

/-- CTRL (R394). -/
def execCtrl (port : Nat) (msg : List Byte) (s : State) : Host.Outcome State Fault Refusal :=
  onDev s (fun d => mgmtArrive d port msg 0x31)

/-! ## Loss of a port (R396, R419) -/

/-- A message that a lost port carried or was to carry. -/
def msgLost (d : Dev) (m : List Byte) : Dev :=
  if msgAnswered m && msgV m 4 2 = d.rg fSOP_DEV_DEV_ID then tagFail d (msgV m 8 2 % 0x4000) 0x0803 false
  else msgRefuse d m 0x0803

/-- Port `q` becomes LOST (R396). -/
def portLost (d : Dev) (q : Nat) : Dev :=
  let l := d.link (1 + q)
  let ms := (l.kept.map (·.head)).filter (fun h => !h.isEmpty) ++ l.waiting.map (·.2)
  let d := d.setLink (1 + q) { l with lost := true, kept := [], waiting := [] }
  let d := d.rs (fSOP_PORT_STATUS_STATE.at q) 5
  let d := ms.foldl msgLost d
  let d := (sopErr d q fSOP_PORT_ERR_PEER_LOST 0x0803).rs (fSOP_PORT_STATUS_ABSENT.at q) 1
  mailUnsolicited d 0x0311 (leBytes 1 q ++ zeros 1 ++ leBytes 2 (d.rg (fSOP_PORT_STATUS_PEER_DEV.at q)) ++
    leBytes 2 0x0803 ++ zeros 2)

/-! ## Registers (R389, R400) -/

/-- Whether the LANES step has begun at this start (R324, R375). -/
def lanesBegun (d : Dev) : Bool := decide (5 ≤ d.rg fBRW_STATUS_STEP)

/-- Ports of the licence in force (R2). -/
def licencePorts (d : Dev) : Nat := (d.licence.map (·.ports)).getD 0

/-- A write of SOP_ROUTE_DATA (R389, R400). -/
def sopRouteWrite (d : Dev) (data : Nat) : Dev :=
  let ix := d.rg fSOP_ROUTE_ADDR_INDEX
  let loc := d.rg fSOP_ROUTE_ADDR_TABLE = 1
  let badPort := (List.range 4).any (fun s => bitOf data (16 + s) && decide (licencePorts d ≤ bitsOf data (4 * s) 4))
  if (loc && 64 ≤ ix) || badPort then recordErr d 7 0 0x080A
  else { d with routes := SMap.set 0 d.routes (if loc then 1024 + ix else ix) (data % 2 ^ 20) }

/-- SOP_ROUTE_DATA_WRITE (R389). -/
def execSopRouteDataWrite (data : Nat) (s : State) : Host.Outcome State Fault Refusal :=
  onDev s (fun d => sopRouteWrite d data)

/-- A write of SOP_DEV (R375, R400). -/
def sopDevWrite (d : Dev) (data : Nat) : Dev :=
  let h := bitsOf data 16 6
  if h = 0 then recordErr d 7 0 0x080B
  else
    let d := (d.rs fSOP_DEV_INBOUND_REG (bitsOf data 23 1)).rs fSOP_DEV_HOP_LIMIT h
    if lanesBegun d then d else d.rs fSOP_DEV_DEV_ID (bitsOf data 0 16)

/-- SOP_DEV_WRITE (R400). -/
def execSopDevWrite (data : Nat) (s : State) : Host.Outcome State Fault Refusal := onDev s (fun d => sopDevWrite d data)

/-- A write of SOP_PORT_CFG (R400). -/
def sopPortCfgWrite (d : Dev) (q data : Nat) : Dev :=
  if bitsOf data 0 4 = 0 then recordErr d 7 q 0x080B else d.rs (fSOP_PORT_CFG_RETRY_LIMIT.at q) (bitsOf data 0 4)

/-- SOP_PORT_CFG_WRITE (R400). -/
def execSopPortCfgWrite (q data : Nat) (s : State) : Host.Outcome State Fault Refusal :=
  onDev s (fun d => if q < 16 then sopPortCfgWrite d q data else d)

end Sys2Proof.Machine
end

