-- ==== Sys2Proof/Machine/Lanes.lean ====
section
/-! DEFINITION. Lanes and octets (chapter 10): frames, training, retraining, the boot switch, and what the loss of an octet
does to the companion link and to a port. -/

namespace Sys2Proof.Machine

/-! ## Octets -/

/-- STATE of an octet: 0 OFF, 1 DETECT, 2 EQUALIZE, 3 ALIGN, 4 WIDTH, 5 VERIFY, 6 UP, 7 RETRAIN, 8 FAILED, 9 DOWN (R336). -/
def octetState (d : Dev) (o : Nat) : Nat := d.rg (fLNE_STATUS_STATE.at o)

/-- The device with an octet's STATE set. -/
def setOctet (d : Dev) (o st : Nat) : Dev := d.rs (fLNE_STATUS_STATE.at o) st

/-- ROLE of an octet: 0 OFF, 1 COMPANION, 2 SCALEOUT, 3 LOOPBACK (R324). -/
def octetRole (d : Dev) (o : Nat) : Nat := d.rg (fLNE_ROLE_ROLE.at o)

/-- PORT of an octet. -/
def octetPort (d : Dev) (o : Nat) : Nat := d.rg (fLNE_ROLE_PORT.at o)

/-- An octet beyond its registers. -/
def Dev.octet (d : Dev) (o : Nat) : Octet := SMap.get Octet.reset d.octets o

/-- The device with an octet replaced. -/
def Dev.setOct (d : Dev) (o : Nat) (x : Octet) : Dev := { d with octets := SMap.set Octet.reset d.octets o x }

/-- A code of an octet, with its bit of LNE_ERR; while the LANES step runs it is the step's last such code (R408). -/
def lneErr (d : Dev) (o : Nat) (f : Fld) (code : Nat) : Dev :=
  let d := recordErr (d.rs (f.at o) 1) 5 o code
  if d.rg fBRW_STATUS_STATE = 1 ∧ d.rg fBRW_STATUS_STEP = 5 then { d with boot := { d.boot with warn := code } } else d

/-- The lanes in play of an octet, as a list of lane indices (R328). -/
def inPlay (d : Dev) (o : Nat) : List Nat :=
  (List.range 8).filter (fun i => d.rg (fLNE_LANE_EXCLUDED.at2 o i) = 0)

/-- Excludes the lanes in play that are not in a mask. -/
def excludeBut (d : Dev) (o mask : Nat) : Dev :=
  (inPlay d o).foldl (fun d i => if bitOf mask i then d else d.rs (fLNE_LANE_EXCLUDED.at2 o i) 1) d

/-- SIGNAL of the octet and of its lanes. -/
def setSignal (d : Dev) (o mask : Nat) : Dev :=
  (List.range 8).foldl (fun d i => d.rs (fLNE_LANE_SIGNAL.at2 o i) (if bitOf mask i then 1 else 0))
    (d.rs (fLNE_STATUS_SIGNAL.at o) mask)

/-- ALIGNED of the octet and of its lanes. -/
def setAligned (d : Dev) (o mask : Nat) : Dev :=
  (List.range 8).foldl (fun d i => d.rs (fLNE_LANE_ALIGNED.at2 o i) (if bitOf mask i then 1 else 0))
    (d.rs (fLNE_STATUS_ALIGNED.at o) mask)

/-- Coefficients agreed on the lanes in play. -/
def setCoeffs (d : Dev) (o : Nat) (cs : List Nat) : Dev :=
  (inPlay d o).foldl (fun d i => d.rs (fLNE_LANE_COEFF.at2 o i) (cs.getD i 0)) d

/-- Positions and polarity found on the lanes in play. -/
def setPositions (d : Dev) (o : Nat) (pos : List Nat) (inverted : Nat) : Dev :=
  (inPlay d o).foldl (fun d i => (d.rs (fLNE_LANE_POS.at2 o i) (pos.getD i 0)).rs (fLNE_LANE_INVERTED.at2 o i)
    (if bitOf inverted i then 1 else 0)) d

/-- A mask of lane indices. -/
def maskOf (l : List Nat) : Nat := l.foldl (fun a i => withBit a i) 0

/-- The best width of an octet by the positions of its lanes in play: 0 none, 1 x4 on 0–3, 2 x4 on 4–7, 3 x8 (R329). -/
def bestWidth (d : Dev) (o : Nat) : Nat :=
  let ps := (inPlay d o).map (fun i => d.rg (fLNE_LANE_POS.at2 o i))
  let has (l : List Nat) : Bool := l.all (fun x => ps.contains x)
  if has (List.range 8) then 3 else if has [0, 1, 2, 3] then 1 else if has [4, 5, 6, 7] then 2 else 0

/-- The width that both sides adopt: the narrower of the two offers (R329). -/
def agreeWidth (own partner : Nat) : Nat :=
  if own = 0 ∨ partner = 0 then 0
  else if own = 3 then partner else if partner = 3 then own else if own = partner then own else 0

/-- Lanes that carry a width. -/
def widthLanes (d : Dev) (o w : Nat) : Nat :=
  maskOf ((inPlay d o).filter (fun i =>
    let p := d.rg (fLNE_LANE_POS.at2 o i)
    w = 3 || (w = 1 && p < 4) || (w = 2 && 4 ≤ p)))

/-! ## The companion link over its octets (R326, R327, R334) -/

/-- Whether a companion octet carries the link: UP at x8. -/
def cplOctetUp (d : Dev) (o : Nat) : Bool := octetState d o = 6 && d.rg (fLNE_STATUS_WIDTH.at o) = 3

/-- CPL_STATUS.LINK: 0 DOWN, 1 INIT, 2 boot lane, 3 x8, 4 x16 (R373). -/
def cplLinkState (d : Dev) : Nat :=
  let l := d.link 0
  if l.lost then 0
  else if !l.up then 1
  else if d.rg fLNE_BOOT_STATE ≠ 1 then 2
  else if cplOctetUp d 0 && cplOctetUp d 1 then 4
  else if cplOctetUp d 0 || cplOctetUp d 1 then 3
  else 0

/-- After a companion octet has changed: with no octet to carry the link its flits are held while one retrains, and the
link is lost when none does (R334). -/
def cplOctets (d : Dev) (o : Nat) : Dev :=
  if d.rg fLNE_BOOT_STATE ≠ 1 ∨ (d.link 0).lost then d
  else if cplOctetUp d 0 || cplOctetUp d 1 then
    if (d.link 0).held then
      let d := d.modLink 0 (fun l => { l with held := false })
      linkPump ((d.link 0).kept.foldl (fun d x => flitOut d 0 x.flit) d) 0
    else d
  else if octetState d 0 = 7 ∨ octetState d 1 = 7 then d.modLink 0 (fun l => { l with held := true })
  else orphanEnter (lneErr (d.modLink 0 (fun l => { l with lost := true })) o fLNE_ERR_COMPANION_FAIL 0x0602)

/-! ## Training (R328 to R331) -/

/-- An octet leaves OFF. -/
def octetDetect (d : Dev) (o : Nat) : Dev := setOctet d o 1

/-- An octet fails in training: electrically idle, with the outcome of its role (R327, R330, R395). -/
def octetFail (d : Dev) (o : Nat) (timeout : Bool) : Dev :=
  let d := (setAligned (setOctet d o 8) o 0).rs (fLNE_STATUS_WIDTH.at o) 0
  let d := if timeout then lneErr d o fLNE_ERR_TRAIN_TIMEOUT 0x0606 else d
  let r := octetRole d o
  if r = 2 then (lneErr d o fLNE_ERR_PORT_DISABLED 0x0604).rs (fSOP_PORT_STATUS_STATE.at (octetPort d o)) 6
  else if r = 3 then lneErr d o fLNE_ERR_LOOPBACK_FAIL 0x060A
  else if o = 0 then lneErr d o fLNE_ERR_COMPANION_X8 0x0603
  else lneErr d o fLNE_ERR_COMPANION_FAIL 0x0602

/-- An octet reaches UP for the first time (R326, R327, R330, R395). -/
def octetUp (d : Dev) (o : Nat) : Dev :=
  let w := d.rg (fLNE_STATUS_WIDTH.at o)
  let d := (setOctet d o 6).setOct o Octet.reset
  let r := octetRole d o
  if r = 2 then
    let q := octetPort d o
    let d := d.rs (fSOP_PORT_STATUS_STATE.at q) 2
    let d := (d.modLink (1 + q) (fun l => { l with sentInit := true })).emit
      (.flit (1 + q) (mkFlit 3 0 none (deviceGrants (1 + q)) (leBytes 2 (d.rg fSOP_DEV_DEV_ID) ++ leBytes 1 q)))
    if w = 3 then d else lneErr d o fLNE_ERR_PORT_X4 0x0605
  else if r = 3 then d
  else if w = 3 then
    (if o = 1 then { d with boot := { d.boot with switching := true } } else d)
  else if o = 0 then lneErr d o fLNE_ERR_COMPANION_X8 0x0603
  else lneErr d o fLNE_ERR_COMPANION_FAIL 0x0602

/-- Runs `f` on an octet in one state. -/
def inOctet (s : State) (o st : Nat) (f : Dev → Dev) : Host.Outcome State Fault Refusal :=
  onDev s (fun d => if o < 18 ∧ octetState d o = st then f d else d)

/-- SIGNAL_DETECTED (R328). -/
def execSignalDetected (o : Nat) (s : State) : Host.Outcome State Fault Refusal :=
  inOctet s o 1 (fun d => setOctet (setSignal d o 255) o 2)

/-- DETECT_TIMEOUT: lanes without signal are excluded, if at least four have it (R328). -/
def execDetectTimeout (o signal : Nat) (s : State) : Host.Outcome State Fault Refusal :=
  inOctet s o 1 (fun d =>
    let d := setSignal d o (signal % 256)
    if 4 ≤ popCount 8 signal then setOctet (excludeBut d o signal) o 2 else octetFail d o true)

/-- EQUALIZE_AGREED (R328). -/
def execEqualizeAgreed (o : Nat) (coeffs : List Nat) (s : State) : Host.Outcome State Fault Refusal :=
  inOctet s o 2 (fun d => setOctet (setCoeffs d o coeffs) o 3)

/-- EQUALIZE_TIMEOUT: unagreed lanes are excluded (R328). -/
def execEqualizeTimeout (o agreed : Nat) (coeffs : List Nat) (s : State) : Host.Outcome State Fault Refusal :=
  inOctet s o 2 (fun d => setOctet (setCoeffs (excludeBut d o agreed) o coeffs) o 3)

/-- ALIGN_LOCKED (R328). -/
def execAlignLocked (o : Nat) (pos : List Nat) (inverted : Nat) (s : State) : Host.Outcome State Fault Refusal :=
  inOctet s o 3 (fun d => setOctet (setAligned (setPositions d o pos inverted) o (maskOf (inPlay d o))) o 4)

/-- ALIGN_TIMEOUT: unlocked lanes are excluded (R328). -/
def execAlignTimeout (o locked : Nat) (pos : List Nat) (inverted : Nat) (s : State) : Host.Outcome State Fault Refusal :=
  inOctet s o 3 (fun d =>
    let d := excludeBut d o locked
    setOctet (setAligned (setPositions d o pos inverted) o (maskOf (inPlay d o))) o 4)

/-- WIDTH_AGREED with the partner's offer (R328, R329). -/
def execWidthAgreed (o partner : Nat) (s : State) : Host.Outcome State Fault Refusal :=
  inOctet s o 4 (fun d =>
    let w := agreeWidth (bestWidth d o) (partner % 4)
    if w = 0 then octetFail d o false
    else
      let d := setAligned (d.rs (fLNE_STATUS_WIDTH.at o) w) o (widthLanes d o w)
      setOctet ((d.rs (fLNE_FEC_CNT_CORRECTED_SYM.at o) 0).rs (fLNE_FEC_CNT_UNCORR_CW.at o) 0) o 5)

/-- WIDTH_TIMEOUT (R328). -/
def execWidthTimeout (o : Nat) (s : State) : Host.Outcome State Fault Refusal := inOctet s o 4 (fun d => octetFail d o false)

/-- VERIFY_COMPLETE: 2^20 codewords with what was corrected and uncorrectable among them (R331). -/
def execVerifyComplete (o corrected uncorr : Nat) (s : State) : Host.Outcome State Fault Refusal :=
  inOctet s o 5 (fun d =>
    let d := (d.count (fLNE_FEC_CNT_CORRECTED_SYM.at o) corrected).count (fLNE_FEC_CNT_UNCORR_CW.at o) uncorr
    if uncorr = 0 ∧ corrected ≤ 5704 then octetUp d o else octetFail d o true)

/-- VERIFY_TIMEOUT (R328). -/
def execVerifyTimeout (o : Nat) (s : State) : Host.Outcome State Fault Refusal := inOctet s o 5 (fun d => octetFail d o true)

/-! ## Service and retraining (R320, R332 to R335) -/

/-- A retrain trigger: RETRAIN from UP, and otherwise counted while one runs (R332, R334, R395). -/
def retrainEnter (d : Dev) (o reason : Nat) (full : Bool) : Dev :=
  if octetState d o = 7 then d.count (fLNE_RETRAIN_IGNORED.at o) 1
  else if octetState d o ≠ 6 then d
  else
    let d := (setOctet d o 7).rs (fLNE_RETRAIN_REASON.at o) reason
    let d := d.setOct o { d.octet o with full := full }
    let d := if full then (List.range 8).foldl (fun d i => d.rs (fLNE_LANE_EXCLUDED.at2 o i) 0) d else d
    let d := lneErr d o fLNE_ERR_RETRAIN 0x0607
    if octetRole d o = 2 then
      let q := octetPort d o
      if d.rg (fSOP_PORT_STATUS_STATE.at q) = 3 then
        (d.rs (fSOP_PORT_STATUS_STATE.at q) 4).modLink (1 + q) (fun l => { l with held := true })
      else d
    else if octetRole d o = 1 then cplOctets d o
    else d

/-- Whether the header symbols of a frame agree in FCNT and SWITCH and carry MARK (R320). -/
def headerGood (header : List Nat) : Bool :=
  match header with
  | [] => true
  | h :: _ => header.all (fun x => x / 64 % 16 = 10 && x % 8 = h % 8)

/-- A frame is received: corrected symbols and uncorrectable codewords count, a frame whose headers disagree counts as
uncorrectable, and too many uncorrectable codewords within 2^24 start a retrain (R320, R332). -/
def frameReceived (d : Dev) (o corrected uncorr : Nat) (header : List Nat) : Dev :=
  let bad := if uncorr = 0 && !headerGood header then 1 else min uncorr 4
  let d := (d.count (fLNE_FEC_CNT_CORRECTED_SYM.at o) corrected).count (fLNE_FEC_CNT_UNCORR_CW.at o) bad
  let x := d.octet o
  let cw := x.cw + 4
  let lim := d.rg (fLNE_CFG_UNCORR_LIMIT.at o)
  let recent := (x.bad ++ List.replicate bad cw).filter (fun c => cw < c + 2 ^ 24)
  let d := d.setOct o { x with cw := cw, bad := recent }
  if octetState d o = 6 ∧ d.rg (fLNE_CFG_AUTO_RETRAIN.at o) = 1 ∧ bad ≠ 0 ∧ lim ≤ recent.length then
    retrainEnter (d.setOct o { x with cw := cw, bad := [] }) o 2 false
  else d

/-- FRAME_RECEIVED (R320). -/
def execFrameReceived (o corrected uncorr : Nat) (header : List Nat) (s : State) : Host.Outcome State Fault Refusal :=
  onDev s (fun d =>
    if o < 18 ∧ 5 ≤ octetState d o ∧ octetState d o ≤ 7 then frameReceived d o corrected uncorr header else d)

/-- LANE_LOCK_LOSS (R332). -/
def execLaneLockLoss (o lane : Nat) (s : State) : Host.Outcome State Fault Refusal :=
  onDev s (fun d =>
    if o < 18 ∧ bitOf (d.rg (fLNE_STATUS_ALIGNED.at o)) lane then
      retrainEnter (if octetState d o = 6 then
        setAligned d o (clearBit (d.rg (fLNE_STATUS_ALIGNED.at o)) lane) else d) o 1 false
    else d)

/-- LNE_RETRAIN_CMD (R332, R333). -/
def execLneRetrainCmd (o : Nat) (full : Bool) (s : State) : Host.Outcome State Fault Refusal :=
  onDev s (fun d => if o < 18 then retrainEnter d o 3 full else d)

/-- An octet is UP again after a retrain (R334, R335, R395). -/
def retrainUp (d : Dev) (o w : Nat) : Dev :=
  let d := ((setOctet d o 6).rs (fLNE_STATUS_WIDTH.at o) w).setOct o Octet.reset
  if octetRole d o = 2 then
    let q := octetPort d o
    let d := if w = 3 then d else lneErr d o fLNE_ERR_PORT_X4 0x0605
    if d.rg (fSOP_PORT_STATUS_STATE.at q) = 4 then
      let d := (d.rs (fSOP_PORT_STATUS_STATE.at q) 3).modLink (1 + q) (fun l => { l with held := false })
      linkPump ((d.link (1 + q)).kept.foldl (fun d x => flitOut d (1 + q) x.flit) d) (1 + q)
    else d
  else if octetRole d o = 1 then
    cplOctets (if w = 3 then d else lneErr d o fLNE_ERR_COMPANION_X8 0x0603) o
  else d

/-- A retrain ends without the octet: DOWN, and its link or port is lost when nothing else carries it (R328, R334, R335). -/
def octetDown (d : Dev) (o : Nat) : Dev :=
  let d := (setAligned (setOctet d o 9) o 0).rs (fLNE_STATUS_WIDTH.at o) 0
  let d := lneErr d o fLNE_ERR_LINK_LOST 0x0608
  if octetRole d o = 2 then
    let q := octetPort d o
    let st := d.rg (fSOP_PORT_STATUS_STATE.at q)
    if 2 ≤ st ∧ st ≤ 4 then portLost d q else d
  else if octetRole d o = 1 then cplOctets d o
  else d

/-- RETRAIN_PASSED: the lanes locked within the bound, and the width agreed; lanes that did not lock are excluded, and
without FULL the octet does not widen (R333). -/
def execRetrainPassed (o ac locked : Nat) (pos : List Nat) (inverted : Nat) (coeffs : List Nat) (partner : Nat)
    (s : State) : Host.Outcome State Fault Refusal :=
  inOctet s o 7 (fun d =>
    let was := d.rg (fLNE_STATUS_WIDTH.at o)
    let d := setCoeffs (setPositions (excludeBut d o locked) o pos inverted) o coeffs
    let own := bestWidth d o
    let own := if (d.octet o).full then own else agreeWidth own was
    let w := agreeWidth own (partner % 4)
    if w = 0 ∨ 625000 < ac then octetDown d o
    else
      let d := (d.rs (fLNE_RETRAIN_LAST_AC.at o) ac).count (fLNE_RETRAIN_COUNT.at o) 1
      retrainUp (setAligned d o (widthLanes d o w)) o w)

/-- RETRAIN_EXPIRY (R328, R334, R335). -/
def execRetrainExpiry (o : Nat) (s : State) : Host.Outcome State Fault Refusal := inOctet s o 7 (fun d => octetDown d o)

/-! ## The boot switch (R326) -/

/-- BOOT_SWITCH_FRAME: both directions go on on octet 1, and octet 0 begins to train (R326). -/
def execBootSwitchFrame (s : State) : Host.Outcome State Fault Refusal :=
  onDev s (fun d =>
    if d.boot.switching then
      octetDetect ({ d with boot := { d.boot with switching := false } }.rs fLNE_BOOT_STATE 1) 0
    else d)

/-- BOOT_SWITCH_TIMEOUT: the link stays on the boot lane and the LANES step fails (R326). -/
def execBootSwitchTimeout (s : State) : Host.Outcome State Fault Refusal :=
  onDev s (fun d =>
    if d.boot.switching then
      let d := recordErr d 5 1 0x060C
      { d with boot := { d.boot with switching := false, outcome := some 0x060C } }
    else d)

/-- A write of LNE_CFG (R336). -/
def lneCfgWrite (d : Dev) (o data : Nat) : Dev :=
  if bitsOf data 0 16 = 0 then recordErr d 5 o 0x060B
  else (d.rs (fLNE_CFG_AUTO_RETRAIN.at o) (bitsOf data 16 1)).rs (fLNE_CFG_UNCORR_LIMIT.at o) (bitsOf data 0 16)

/-- LNE_CFG_WRITE (R336). -/
def execLneCfgWrite (o data : Nat) (s : State) : Host.Outcome State Fault Refusal :=
  onDev s (fun d => if o < 18 then lneCfgWrite d o data else d)

/-! ## The LANES step (R324, R411) -/

/-- The code that the role map fails the step with; 0 when it passes (R324). -/
def roleMapBad (d : Dev) : Nat :=
  let os := List.range 18
  let ports := (os.filter (fun o => octetRole d o = 2)).map (octetPort d)
  if octetRole d 0 ≠ 1 ∨ octetRole d 1 ≠ 1 ∨ os.any (fun o => decide (2 ≤ o) && decide (octetRole d o = 1)) then 0x0601
  else if !ports.Nodup then 0x0601
  else if ports.any (fun q => decide (licencePorts d ≤ q)) then 0x060D
  else 0

/-- The LANES step begins: the roles are checked, and every octet but octet 0 leaves OFF (R324, R326, R328, R395). -/
def lanesBegin (d : Dev) : Dev :=
  let bad := roleMapBad d
  if bad ≠ 0 then
    let d := (List.range 18).foldl (fun d o => d.rs (fLNE_ERR_ROLE_INVALID.at o) 1) (recordErr d 5 0 bad)
    { d with boot := { d.boot with outcome := some bad } }
  else
    (List.range 18).foldl (fun d o =>
      let r := octetRole d o
      if r = 0 ∨ o = 0 then d
      else
        let d := octetDetect d o
        if r = 2 then d.rs (fSOP_PORT_STATUS_STATE.at (octetPort d o)) 1 else d) d

/-- The outcome of the LANES step, once it has one (R326, R327, R330). -/
def lanesOutcome (d : Dev) : Option Nat :=
  let ended (o : Nat) : Bool := octetRole d o = 0 || decide (6 ≤ octetState d o)
  match d.boot.outcome with
  | some c => some c
  | none =>
    if !((List.range 18).all (fun o => o = 0 || ended o)) then none
    else if !cplOctetUp d 1 && octetState d 1 ≠ 7 then some 0x0602
    else if d.rg fLNE_BOOT_STATE ≠ 1 || !ended 0 then none
    else some 0

end Sys2Proof.Machine
end

