-- ==== Sys2Proof/Machine/Keccak.lean ====
section
/-! DEFINITION. SHAKE256 of FIPS 202 and the verification of XMSS^MT signatures of RFC 8391 and SP 800-208, the standards
that R508 and R523 name. -/

namespace Sys2Proof.Machine

/-! ## Keccak -/

/-- Round constants of Keccak-f[1600]. -/
def keccakRC : List W64 :=
  [0x0000000000000001, 0x0000000000008082, 0x800000000000808A, 0x8000000080008000, 0x000000000000808B, 0x0000000080000001,
    0x8000000080008081, 0x8000000000008009, 0x000000000000008A, 0x0000000000000088, 0x0000000080008009, 0x000000008000000A] ++
  [0x000000008000808B, 0x800000000000008B, 0x8000000000008089, 0x8000000000008003, 0x8000000000008002, 0x8000000000000080,
    0x000000000000800A, 0x800000008000000A, 0x8000000080008081, 0x8000000000008080, 0x0000000080000001, 0x8000000080008008]

/-- Rotation offsets, lane x + 5y. -/
def keccakRot : List Nat :=
  [0, 1, 62, 28, 27, 36, 44, 6, 55, 20, 3, 10, 43, 25, 39, 41, 45, 15, 21, 8, 18, 2, 61, 56, 14]

/-- One round of Keccak-f[1600]: theta, rho, pi, chi and iota. -/
def keccakRound (a : List W64) (rc : W64) : List W64 :=
  let g (l : List W64) (i : Nat) : W64 := l.getD i 0
  let c := (List.range 5).map (fun x => g a x ^^^ g a (x + 5) ^^^ g a (x + 10) ^^^ g a (x + 15) ^^^ g a (x + 20))
  let e := (List.range 5).map (fun x => g c ((x + 4) % 5) ^^^ (g c ((x + 1) % 5)).rotateLeft 1)
  let t := (List.range 25).map (fun i => (g a i ^^^ g e (i % 5)).rotateLeft (keccakRot.getD i 0))
  let b := (List.range 25).map (fun i =>
    let x := i % 5
    let y := i / 5
    g t ((x + 3 * y) % 5 + 5 * x))
  let k := (List.range 25).map (fun i =>
    let x := i % 5
    let y := 5 * (i / 5)
    g b i ^^^ (~~~ g b ((x + 1) % 5 + y) &&& g b ((x + 2) % 5 + y)))
  match k with
  | [] => []
  | h :: r => (h ^^^ rc) :: r

/-- Keccak-f[1600]. -/
def keccakF (a : List W64) : List W64 := keccakRC.foldl keccakRound a

/-- The rate of SHAKE256 in bytes. -/
def shakeRate : Nat := 136

/-- A block of the rate is absorbed. -/
def keccakAbsorb (a : List W64) (block : List Byte) : List W64 :=
  keccakF ((List.range 25).map (fun i => a.getD i 0 ^^^ BitVec.ofNat 64 (leValue ((block.drop (8 * i)).take 8))))

/-- Cuts bytes into blocks of the rate; `n` bounds their number. -/
def rateBlocks : Nat → List Byte → List (List Byte)
  | 0, _ => []
  | n + 1, b => if b.length < shakeRate then [] else b.take shakeRate :: rateBlocks n (b.drop shakeRate)

/-- The zero state. -/
def keccakZero : List W64 := List.replicate 25 0

/-- The last block of SHAKE256: domain bits 1111 and pad10*1. -/
def shakePad (tail : List Byte) : List Byte :=
  let z := tail ++ [0x1F] ++ List.replicate (shakeRate - 1 - tail.length) 0
  z.mapIdx (fun i b => if i = shakeRate - 1 then b ^^^ 0x80 else b)

/-- Squeezes `n` bytes in at most `k` blocks. -/
def shakeSqueeze : Nat → List W64 → Nat → List Byte
  | 0, _, _ => []
  | k + 1, a, n =>
    let b := (a.flatMap (fun w => leBytes 8 w.toNat)).take shakeRate
    if n ≤ shakeRate then b.take n else b ++ shakeSqueeze k (keccakF a) (n - shakeRate)

/-- Absorbs the whole blocks of bytes. -/
def shakeAbsorb (a : List W64) (bytes : List Byte) : List W64 :=
  (rateBlocks (bytes.length / shakeRate) bytes).foldl keccakAbsorb a

/-- The bytes after the last whole block. -/
def shakeTail (bytes : List Byte) : List Byte := bytes.drop (bytes.length / shakeRate * shakeRate)

/-- SHAKE256 with `n` bytes of output. -/
def shake256 (n : Nat) (bytes : List Byte) : List Byte :=
  shakeSqueeze (n / shakeRate + 1) (keccakAbsorb (shakeAbsorb keccakZero bytes) (shakePad (shakeTail bytes))) n

/-! ## XMSS^MT verification (R523) -/

/-- The `n` low bytes of `v`, most significant first. -/
def beBytes (n v : Nat) : List Byte := (leBytes n v).reverse

/-- Big-endian value. -/
def beValue (b : List Byte) : Nat := leValue b.reverse

/-- A hash address of RFC 8391: layer, tree, type and the three words that its type names. -/
structure XAdr where
  layer : Nat
  tree : Nat
  type : Nat
  w1 : Nat
  w2 : Nat
  w3 : Nat
deriving DecidableEq, Repr

/-- The 32 bytes of an address with keyAndMask `km`. -/
def XAdr.bytes (a : XAdr) (km : Nat) : List Byte :=
  beBytes 4 a.layer ++ beBytes 8 a.tree ++ beBytes 4 a.type ++ beBytes 4 a.w1 ++ beBytes 4 a.w2 ++ beBytes 4 a.w3 ++
    beBytes 4 km

/-- A keyed hash: its number as 32 bytes, the key, the message. -/
def xHash (k : Nat) (key m : List Byte) : List Byte := shake256 32 (beBytes 32 k ++ key ++ m)

/-- The exclusive-or of byte strings. -/
def xorBytes (a b : List Byte) : List Byte := (a.zip b).map (fun e => e.1 ^^^ e.2)

/-- `n` steps of a WOTS+ chain from position `i`. -/
def wotsChain (seed : List Byte) (a : XAdr) : Nat → Nat → List Byte → List Byte
  | 0, _, x => x
  | n + 1, i, x =>
    let a' := { a with w3 := i }
    wotsChain seed a n (i + 1) (xHash 0 (xHash 3 seed (a'.bytes 0)) (xorBytes x (xHash 3 seed (a'.bytes 1))))

/-- The randomised hash of two nodes. -/
def xNode (seed : List Byte) (a : XAdr) (l r : List Byte) : List Byte :=
  xHash 1 (xHash 3 seed (a.bytes 0)) (xorBytes l (xHash 3 seed (a.bytes 1)) ++ xorBytes r (xHash 3 seed (a.bytes 2)))

/-- The digits of base 16 of a string, high nibble first. -/
def nibbles (b : List Byte) : List Nat := b.flatMap (fun x => [x.toNat / 16, x.toNat % 16])

/-- The 67 digits that a WOTS+ signature signs: the message and its checksum. -/
def wotsDigits (m : List Byte) : List Nat :=
  let d := nibbles m
  let c := d.foldl (fun s x => s + (15 - x)) 0
  d ++ (nibbles (beBytes 2 (c * 16))).take 3

/-- Pieces of `n` bytes. -/
def piecesOf (n : Nat) : Nat → List Byte → List (List Byte)
  | 0, _ => []
  | k + 1, b => b.take n :: piecesOf n k (b.drop n)

/-- One level of an L-tree: pairs are hashed, an odd last node goes up. -/
def ltreeLevel (seed : List Byte) (a : XAdr) : Nat → List (List Byte) → List (List Byte)
  | i, x :: y :: t => xNode seed { a with w3 := i } x y :: ltreeLevel seed a (i + 1) t
  | _, l => l

/-- The root of an L-tree, in at most `n` levels of height `h` on. -/
def ltree (seed : List Byte) (a : XAdr) : Nat → Nat → List (List Byte) → List Byte
  | 0, _, l => l.headD []
  | n + 1, h, l => if l.length ≤ 1 then l.headD [] else ltree seed a n (h + 1) (ltreeLevel seed { a with w2 := h } 0 l)

/-- The node above a path of siblings, from height `k` on. -/
def authPath (seed : List Byte) (a : XAdr) (idx : Nat) : Nat → List Byte → List (List Byte) → List Byte
  | _, node, [] => node
  | k, node, s :: t =>
    let a' := { a with w2 := k, w3 := idx / 2 ^ (k + 1) }
    authPath seed a idx (k + 1) (if idx / 2 ^ k % 2 = 0 then xNode seed a' node s else xNode seed a' s node) t

/-- The root that one layer's signature gives for a message. -/
def xmssRoot (seed : List Byte) (layer tree idx h : Nat) (m sig : List Byte) : List Byte :=
  let ots := piecesOf 32 67 sig
  let pk := ((List.range 67).zip (ots.zip (wotsDigits m))).map (fun e =>
    wotsChain seed ⟨layer, tree, 0, idx, e.1, 0⟩ (15 - e.2.2) e.2.2 e.2.1)
  let leaf := ltree seed ⟨layer, tree, 1, idx, 0, 0⟩ 8 0 pk
  authPath seed ⟨layer, tree, 2, 0, 0, 0⟩ idx 0 leaf (piecesOf 32 h (sig.drop (67 * 32)))

/-- The root that the layers from `j` on give. -/
def xmssLayers (seed : List Byte) (h : Nat) : Nat → Nat → Nat → List Byte → List Byte → List Byte
  | 0, _, _, m, _ => m
  | n + 1, j, idx, m, sig =>
    xmssLayers seed h n (j + 1) (idx / 2 ^ h) (xmssRoot seed j (idx / 2 ^ h) (idx % 2 ^ h) h m sig) (sig.drop ((67 + h) * 32))

/-- Whether an XMSS^MT signature of `d` layers of height `h` over `m` verifies under a public key OID ‖ root ‖ SEED. -/
def xmssVerify (d h : Nat) (pk m sig : List Byte) : Bool :=
  let root := (pk.drop 4).take 32
  let seed := (pk.drop 36).take 32
  let idx := beValue (sig.take 5)
  let digest := xHash 2 ((sig.drop 5).take 32 ++ root ++ beBytes 32 idx) m
  decide (sig.length = 5 + 32 + d * (67 + h) * 32) && decide (xmssLayers seed h d 0 idx digest (sig.drop 37) = root)

end Sys2Proof.Machine
end

