-- ==== Sys2Proof/Machine/Flash.lean ====
section
/-! DEFINITION. Module flash and the signed records in it (chapters 13, 18 and 19): reading and writing, the records of R530,
the format checks of each object, and the checks of R525. -/

namespace Sys2Proof.Machine

/-! ## Record fields -/

/-- A little-endian field of a record. -/
def recV (b : List Byte) (i n : Nat) : Nat := leValue ((b.drop i).take n)

/-- Whether bytes `i` to `i + n - 1` are 0. -/
def recZero (b : List Byte) (i n : Nat) : Bool := ((b.drop i).take n).all (fun x => x = 0)

/-! ## Addresses (R529, R563) -/

/-- The configuration record. -/
def flCONFIG : Nat := 0x40000

/-- Aelmo's public key. -/
def flKEY : Nat := 0x50000

/-- The device certificate. -/
def flCERT : Nat := 0x51000

/-- The slot selector, copy 0. -/
def flSELECT : Nat := 0x58000

/-- The index reservation record, copy 0. -/
def flRESERVE : Nat := 0x5C000

/-- Entry `k` of the licence store. -/
def flLICENCE (k : Nat) : Nat := 0x60000 + k * 0x8000

/-- An image slot: 0 A, 1 B. -/
def flSLOT (k : Nat) : Nat := if k = 0 then 0x100000 else 0x180000

/-- Bytes of an XMSSMT-SHAKE256_40/8_256 signature (R523). -/
def sigBytes : Nat := 18469

/-- Bytes of a licence or device certificate with its signature (R541). -/
def licBytes : Nat := 18597

/-! ## The records of R530 -/

/-- One copy of a selector or reservation record. -/
def pairBytes (magic seq value : Nat) : List Byte :=
  let b := leBytes 4 magic ++ leBytes 4 seq ++ leBytes 8 value ++ zeros 40
  b ++ leBytes 8 (crc64 0 b)

/-- SEQ and VALUE of a copy, if it is good. -/
def pairGood (magic : Nat) (b : List Byte) : Option (Nat × Nat) :=
  if recV b 0 4 = magic ∧ recZero b 16 40 ∧ recV b 56 8 = crc64 0 (b.take 56) then some (recV b 4 4, recV b 8 8) else none

/-- The newest good copy of a record. -/
def pairNewest (d : Dev) (a magic : Nat) : Option (Nat × Nat) :=
  (List.range 3).foldl (fun best c =>
    match pairGood magic (flRead d (a + c * 0x1000) 64), best with
    | some x, some y => if y.1 < x.1 then some x else some y
    | some x, none => some x
    | none, y => y) none

/-- Writes the three copies of a record with SEQ `seq`. -/
def pairPut (d : Dev) (a magic seq value : Nat) : Dev :=
  (List.range 3).foldl (fun d c => flWrite d (a + c * 0x1000) (pairBytes magic seq value)) d

/-- A reader takes the newest good copy and rewrites the others with it (R530). -/
def pairRead (d : Dev) (a magic : Nat) : Dev × Option Nat :=
  match pairNewest d a magic with
  | none => (d, none)
  | some x =>
    ((List.range 3).foldl (fun d c =>
      if pairGood magic (flRead d (a + c * 0x1000) 64) = some x then d
      else flWrite d (a + c * 0x1000) (pairBytes magic x.1 x.2)) d, some x.2)

/-- A writer raises SEQ by one and writes every copy (R530). -/
def pairWrite (d : Dev) (a magic value : Nat) : Dev :=
  pairPut d a magic (((pairNewest d a magic).map (·.1)).getD 0 + 1) value

/-- MAGIC of the slot selector. -/
def magicS : Nat := 0x53325246

/-- MAGIC of the reservation record. -/
def magicR : Nat := 0x52325246

/-! ## Trust codes and signatures (R525) -/

/-- A code of the trust area is recorded, and seen in TRU_ERR (R525, R552). -/
def truErr (d : Dev) (code : Nat) : Dev :=
  recordErr (d.rs fTRU_ERR_CODE_SEEN (withBit (d.rg fTRU_ERR_CODE_SEEN) (code - 0x0501))) 4 0 code

/-- Aelmo's public key in flash. -/
def aelmoKey (d : Dev) : List Byte := flRead d flKEY 68

/-- Whether a record of `n` signed bytes carries a signature that verifies under Aelmo's key; none does while the key
record has not matched KEY_HASH (R524, R525). -/
def sigGood (d : Dev) (b : List Byte) (n : Nat) : Bool :=
  decide (d.rg fTRU_STATUS_KEY_VALID = 1) && decide (n + sigBytes ≤ b.length) &&
    xmssVerify 8 5 (aelmoKey d) (b.take n) ((b.drop n).take sigBytes)

/-- The checks of R525 after the format: signature, then the rollback field where the record has one. -/
def sigCode (f : Fuses) (d : Dev) (b : List Byte) (n : Nat) (rollback : Option Nat) : Nat :=
  if !sigGood d b n then 0x0501
  else match rollback with
    | some r => if r < f.rollback then 0x0503 else 0
    | none => 0

/-! ## The configuration record (R404 to R406) -/

/-- The walk over PARAMS from byte `i`, in at most `n` entries: the first fault met, else 0 (R405). -/
def paramWalk (b : List Byte) : Nat → Nat → Nat
  | 0, _ => 0
  | n + 1, i =>
    if 4096 < i + 4 then 0
    else
      let ty := recV b i 2
      let len := recV b (i + 2) 2
      if ty = 0 then 0
      else if 4096 < i + 4 + len then 0x0110
      else if 0x8000 ≤ ty then 0x0106
      else paramWalk b n (i + 4 + (len + 3) / 4 * 4)

/-- Whether the fixed fields of a configuration record are well formed (R404, R406). -/
def configForm (b : List Byte) : Bool :=
  decide (4096 ≤ b.length) && decide (recV b 0 4 = 0x43325246) && decide (recV b 4 1 = 1) && recZero b 6 2 &&
    decide (recV b 18 1 < 4) && decide (recV b 19 1 ≠ 0) && recZero b 38 26 &&
    (List.range 18).all (fun o => recV b (20 + o) 1 / 4 % 4 = 0)

/-- The checks of a configuration record: the code of the step and the trust code of the cause; (0, 0) when it passes
(R405, R406, R525). -/
def configCheck (f : Fuses) (d : Dev) (b : List Byte) : Nat × Nat :=
  if !configForm b then (0x0106, 0x0504)
  else
    let t := sigCode f d b 4096 (some (recV b 12 4))
    if t ≠ 0 then (0x0107, t)
    else (paramWalk b 1024 64, 0)

/-! ## Licences and the device certificate (R535, R541, R542) -/

/-- The format checks of a licence (R541). -/
def licenceForm (b : List Byte) : Bool :=
  decide (recV b 0 4 = 0x4C325246) && decide (recV b 4 1 = 1) && decide (recV b 5 1 ≤ 1) && recZero b 6 2 &&
    decide (1 ≤ recV b 8 4) && decide (1 ≤ recV b 44 2) && decide (recV b 44 2 ≤ 512) && decide (1 ≤ recV b 46 2) &&
    decide (recV b 46 2 ≤ 512) && decide (recV b 48 1 ≤ 16) && decide (recV b 49 1 < 4) && recZero b 50 78 &&
    decide (128 ≤ b.length)

/-- The checks of a licence, its binding last: the trust code of the cause, or 0 (R525, R542). -/
def licenceCheck (f : Fuses) (d : Dev) (b : List Byte) : Nat :=
  if !licenceForm b then 0x0504
  else
    let t := sigCode f d b 128 none
    if t ≠ 0 then t
    else if d.rg fTRU_STATUS_CERT_VALID = 1 ∧ (b.drop 12).take 32 = d.trust.ident then 0 else 0x0505

/-- Whether a store entry holds a record: a free one is erased (log entry 34). -/
def licenceHeld (b : List Byte) : Bool := decide (recV b 0 4 ≠ 0xFFFFFFFF)

/-- The licence that a record spells. -/
def licenceOf (b : List Byte) : Licence :=
  ⟨recV b 8 4, recV b 44 2, recV b 46 2, recV b 48 1, bitOf (recV b 49 1) 0, bitOf (recV b 49 1) 1⟩

/-- The checks of the device certificate: the code of the cause, or 0 (R535). -/
def certCheck (f : Fuses) (d : Dev) (b : List Byte) : Nat :=
  if !(decide (recV b 0 4 = 0x49325246) && decide (recV b 4 1 = 1) && decide (recV b 5 1 ≤ 1) && recZero b 6 2 &&
      recZero b 96 32) then 0x0504
  else
    let t := sigCode f d b 128 none
    if t ≠ 0 then t
    else if recV b 8 8 = f.dieId.getD 0 0 ∧ recV b 16 8 = f.dieId.getD 1 0 then 0 else 0x0507

/-! ## Images (R544) -/

/-- LEN of an image: its signed bytes. -/
def imageLen (b : List Byte) : Nat := recV b 16 4

/-- The format checks of an image. -/
def imageForm (b : List Byte) : Bool :=
  decide (128 ≤ b.length) && decide (recV b 0 4 = 0x45325246) && decide (recV b 4 1 = 1) && recZero b 6 2 &&
    decide (128 ≤ imageLen b) && decide (imageLen b ≤ 505819) && decide (recV b 20 4 < imageLen b) &&
    decide (recV b 24 4 < imageLen b) && recZero b 30 98

/-- The checks of an image: the trust code of the cause, or 0 (R525, R528). -/
def imageCheck (f : Fuses) (d : Dev) (b : List Byte) : Nat :=
  if !imageForm b then 0x0504 else sigCode f d b (imageLen b) (some (recV b 12 4))

/-- An image with its signature. -/
def imageWhole (b : List Byte) : List Byte := b.take (imageLen b + sigBytes)

/-! ## The repair map (R564) -/

/-- Adds an entry to the repair map, once. -/
def repairAdd (d : Dev) (r : Repair) : Dev :=
  let d := critRead d 0
  if d.flash.repairs.contains r then d
  else critWrite { d with flash := { d.flash with repairs := d.flash.repairs ++ [r], repairSeq := d.flash.repairSeq + 1 } } 0

/-- An entry's 16 bytes: location as R33 or R279 lays it out. -/
def Repair.bytes (r : Repair) : List Byte :=
  let loc := if r.kind = 3 then r.chan * 2 ^ 24 + r.bank * 2 ^ 21 + r.row * 2 ^ 11
    else if r.kind = 2 then r.row else r.row * 2 ^ 17 + r.bank * 2 ^ 13 + r.chan * 2 ^ 5
  leBytes 1 r.kind ++ zeros 1 ++ leBytes 2 r.unit ++ leBytes 8 loc ++ zeros 4

/-- The repair map as it stands in each of its three copies; erased until the first write (R564). -/
def repairBytes (d : Dev) : List Byte :=
  if d.flash.repairSeq = 0 then [] else
  let b := leBytes 4 0x4D325246 ++ leBytes 4 d.flash.repairSeq ++ leBytes 4 d.flash.repairs.length ++ zeros 4 ++
    d.flash.repairs.flatMap Repair.bytes
  b ++ leBytes 8 (crc64 0 b)

end Sys2Proof.Machine
end

