-- ==== Sys2Proof/Machine/Sram.lean ====
section
/-! DEFINITION. Shed SRAM and its error-correcting code, and the push window in it (R421, R505, R506). -/

namespace Sys2Proof.Machine

/-- A code of the shed is recorded, and seen in SHD_ERR (R521). -/
def shdErr (d : Dev) (core code : Nat) : Dev :=
  let i := if code = 0x0410 then 15 else code - 0x0401
  recordErr (d.rs fSHD_ERR_CODE_SEEN (withBit (d.rg fSHD_ERR_CODE_SEEN) i)) 3 core code

/-- The 8-byte words that a range of SRAM touches. -/
def sramWords (off n : Nat) : List Nat :=
  if n = 0 then [] else (List.range ((off + n - 1) / 8 - off / 8 + 1)).map (· + off / 8)

/-- The code error of a word: its flipped bits, of 72. -/
def sramFlips (d : Dev) (w : Nat) : Nat := popCount 72 (SMap.get 0 d.shed.sramErr w)

/-- Corrected words count and are rewritten (R506). -/
def sramScrub (d : Dev) (ws : List Nat) : Dev :=
  ws.foldl (fun d w =>
    if sramFlips d w = 1 then
      blockEvent ({ d with shed := { d.shed with sramErr := SMap.set 0 d.shed.sramErr w 0 } }.count fSHD_SRAM_CORRECTED 1)
        6 0 0x201 1 none none
    else d) d

/-- An uncorrectable word: 0x0405 is recorded, and the address of the first is captured (R506). -/
def sramUncorr (d : Dev) (core w : Nat) : Dev :=
  let d := if bitOf (d.rg fSHD_ERR_CODE_SEEN) 4 then d else d.rs fSHD_SRAM_ERR_ADDR w
  shdErr d core 0x0405

/-- Reads SRAM for a core; none when a word is uncorrectable. -/
def sramRead (d : Dev) (core off n : Nat) : Dev × Option (List Byte) :=
  let ws := sramWords off n
  match ws.find? (fun w => 2 ≤ sramFlips d w) with
  | some w => (sramUncorr d core w, none)
  | none => (sramScrub d ws, some (memRead d.shed.sram off n))

/-- Writes SRAM: whole words are encoded afresh, narrower ones merged; an uncorrectable word is not merged. An armed flip
corrupts the first word written (R496, R506). Answers whether every word was written. -/
def sramWrite (d : Dev) (core off : Nat) (bytes : List Byte) : Dev × Bool :=
  let n := bytes.length
  let ws := sramWords off n
  let whole (w : Nat) : Bool := decide (off ≤ w * 8) && decide (w * 8 + 8 ≤ off + n)
  match ws.find? (fun w => !whole w && decide (2 ≤ sramFlips d w)) with
  | some w => (sramUncorr d core w, false)
  | none =>
    let d := sramScrub d (ws.filter (fun w => !whole w))
    let errs := ws.foldl (fun m w => SMap.set 0 m w 0) d.shed.sramErr
    let one (x : Nat) : Nat := if x < 72 then 2 ^ x else 0
    let arm := decide (d.rg fSHD_SRAM_FLIP_ARM = 1) && decide (n ≠ 0)
    let errs := if arm then SMap.set 0 errs (off / 8) (one (d.rg fSHD_SRAM_POS_A) ^^^ one (d.rg fSHD_SRAM_POS_B)) else errs
    let d := { d with shed := { d.shed with sram := memWrite d.shed.sram off bytes, sramErr := errs } }
    (if arm then d.rs fSHD_SRAM_FLIP_ARM 0 else d, true)

/-- The staging area behind the push window, as an offset in SRAM (R505). -/
def pushBase : Nat := 0x380000

/-- Bytes of the push window (R421). -/
def pushBytes : Nat := 524288

/-- The pushed object: none when the device takes its object from flash, and the code that fails the step (R410). -/
def pushed (d : Dev) : Dev × Option (List Byte) × Nat :=
  let n := d.rg fBRW_PUSH_LEN_LENGTH
  if d.rg fBRW_STRAPS_BOOT_SRC ≠ 1 ∨ n = 0 then (d, none, 0)
  else if pushBytes < n then (d, none, 0x0110)
  else
    let r := sramRead d 0 pushBase n
    (r.1, some (r.2.getD []), 0)

/-- Offset of an image region in SRAM (R532). -/
def regionBase (r : Nat) : Nat := if r = 0 then 0 else 0x1C0000

/-- An image is loaded into a region and its running header is kept (R531, R532). -/
def imageLoad (d : Dev) (r : Nat) (img : List Byte) : Dev := (sramWrite d 0 (regionBase r) img).1

end Sys2Proof.Machine
end

