-- ==== Sys2Proof/Machine/Icu.lean ====
section
/-! DEFINITION. The interrupt controller, the shed's cores as blocks, and their watchdogs (chapter 17). -/

namespace Sys2Proof.Machine

/-! ## Sources (R512, R513) -/

/-- Whether any field of the register at an offset differs from its reset value of 0. -/
def regNonzero (d : Dev) (off : Nat) : Bool := d.regs.any (fun e => e.1 / 64 = off)

/-- Whether a plot has an enabled PLOT_IRQ bit of kind 0 SEQ, 1 CHECK or 2 BED set (R513). -/
def plotIrqKind (pl : Plot) (k : Nat) : Bool :=
  let en := irqEnabled pl
  if k = 0 then (pl.rg fPLOT_IRQ_SEQ_STOP = 1 && en 0) || (pl.rg fPLOT_IRQ_SEQ_DONE = 1 && en 1)
  else if k = 1 then (pl.rg fPLOT_IRQ_ARR = 1 && en 8) || (pl.rg fPLOT_IRQ_TINE = 1 && en 9) ||
    (pl.rg fPLOT_IRQ_ATT = 1 && en 10)
  else (List.range 4).any (fun c => bitOf (pl.rg fPLOT_IRQ_BED_CH) c && en (16 + c))

/-- ICU_PLOT_ROW[i]: bit c follows the plot in column c of the row. -/
def plotRowCols (d : Dev) (i : Nat) : Nat :=
  d.plots.foldl (fun a e =>
    if e.1 / 32 = i / 17 % 2 * 32 + i % 17 ∧ plotIrqKind e.2 (i / 34) then withBit a (e.1 % 32) else a) 0

/-- Whether a source is a level source (R512, R552). -/
def levelSource (s : Nat) : Bool :=
  decide (4 ≤ s) && decide (s ≤ 8) || decide (s = 13) || decide (s = 22) || (decide (24 ≤ s) && decide (s ≤ 58)) ||
    (decide (64 ≤ s) && decide (s ≤ 87)) || decide (s = 92) || decide (s = 93) || (decide (96 ≤ s) && decide (s ≤ 197))

/-- The condition of a level source (R512). -/
def levelHolds (d : Dev) (s : Nat) : Bool :=
  if s = 4 then d.rg fTHM_ERR_CODE_SEEN ≠ 0
  else if s = 5 then d.rg fTHM_STATUS_STOP = 1
  else if s = 6 then d.rg fTHM_EMERG_PMBUS_FAULT = 1
  else if s = 7 then d.rg fERR_IDX_PRODUCER ≠ d.rg fERR_IDX_CONSUMER
  else if s = 8 then d.rg fFAB_BRIDGE_STATUS_DOWN = 1
  else if s = 13 then d.rg fTRU_ERR_CODE_SEEN ≠ 0
  else if s = 22 then d.rg fCPL_ERR_CODE_SEEN ≠ 0
  else if s < 24 then false
  else if s ≤ 41 then regNonzero d (fLNE_ERR_RETRAIN.at (s - 24)).off
  else if s ≤ 57 then regNonzero d (fSOP_PORT_ERR_LINK_INIT.at (s - 42)).off
  else if s = 58 then !d.mgmt.isEmpty
  else if s < 64 then false
  else if s ≤ 87 then regNonzero d (fGDC_ERR_UNCORR.at (s - 64)).off || d.rg (fGDC_RETRAIN_REQUEST.at (s - 64)) = 1
  else if s = 92 then d.rg fSHD_ERR_CODE_SEEN ≠ 0
  else if s = 93 then (List.range 8).any (fun c => d.rg (fSHD_CORE_WDOG_STAGE.at c) ≠ 0)
  else decide (96 ≤ s) && decide (s ≤ 197) && decide (plotRowCols d (s - 96) ≠ 0)

/-! ## Pending, eligibility and assignment (R514 to R516) -/

/-- Claims in service on a target, newest first. -/
def icuStack (d : Dev) (t : Nat) : List (Nat × Nat) := SMap.get [] d.shed.stack t

/-- The running priority of a target. -/
def icuRunning (d : Dev) (t : Nat) : Nat :=
  match icuStack d t with
  | x :: _ => x.2
  | [] => d.rg (fICU_THRESHOLD_THRESHOLD.at t)

/-- Whether a source is in service on some target. -/
def icuInService (d : Dev) (s : Nat) : Bool := (List.range 8).any (fun t => (icuStack d t).any (fun x => x.1 = s))

/-- The pending bit of a source (R514). -/
def icuPending (d : Dev) (s : Nat) : Bool :=
  bitOf (d.rg (fICU_PEND_PEND.at (s / 64))) (s % 64) || (levelSource s && levelHolds d s && !icuInService d s)

/-- Whether a source is enabled for a target. -/
def icuEnabled (d : Dev) (s t : Nat) : Bool := bitOf (d.rg (fICU_ENABLE_EN.at2 t (s / 64))) (s % 64)

/-- Whether a pending source is eligible for a target (R515). -/
def icuEligible (d : Dev) (s t : Nat) : Bool :=
  icuEnabled d s t && decide (icuRunning d t < d.rg (fICU_PRIO_PRIO.at s))

/-- A source's assignment after a cycle (R516). -/
def icuAssign (d : Dev) (s : Nat) : Dev :=
  if !icuPending d s then { d with shed := { d.shed with assigned := SMap.erase s d.shed.assigned } }
  else
    let free (d : Dev) : Dev :=
      let p := SMap.get 0 d.shed.rr s
      match ((List.range 8).map (fun i => (p + i) % 8)).find? (icuEligible d s) with
      | none => { d with shed := { d.shed with assigned := SMap.erase s d.shed.assigned } }
      | some t => { d with shed := { d.shed with
          assigned := SMap.insert s t d.shed.assigned, rr := SMap.set 0 d.shed.rr s ((t + 1) % 8) } }
    match SMap.find? s d.shed.assigned with
    | some t => if icuEligible d s t then d else free d
    | none => free d

/-- Every source is assigned as far as it is eligible; outputs asserted are remembered until their next claim (R516, R517). -/
def icuSettle (d : Dev) : Dev :=
  let d := (List.range 512).foldl icuAssign d
  let on := (List.range 8).filter (fun t => d.shed.asserted.contains t || d.shed.assigned.any (fun e => e.2 = t))
  { d with shed := { d.shed with asserted := on } }

/-- A change of the controller: assignments follow before it and after it (R516, log entry 35). -/
def icuChange (d : Dev) (f : Dev → Dev) : Dev := icuSettle (f (icuSettle d))

/-! ## Commands -/

/-- A write of ICU_PEND_SET: each 1 sets a pending bit, but for source 0 (R514). -/
def icuPendSet (d : Dev) (w data : Nat) : Dev :=
  icuChange d (fun d =>
    let f := fICU_PEND_PEND.at w
    d.rs f ((d.rg f ||| data % 2 ^ 64) - (if w = 0 ∧ bitOf (d.rg f ||| data) 0 then 1 else 0)))

/-- ICU_PEND_SET (R514). -/
def execIcuPendSet (w data : Nat) (s : State) : Host.Outcome State Fault Refusal :=
  onDev s (fun d => if w < 8 then icuPendSet d w data else d)

/-- A write of ICU_PEND_CLR: each 1 clears a pending bit (R514). -/
def icuPendClr (d : Dev) (w data : Nat) : Dev :=
  icuChange d (fun d =>
    let f := fICU_PEND_PEND.at w
    d.rs f (d.rg f ^^^ (d.rg f &&& data)))

/-- ICU_PEND_CLR (R514). -/
def execIcuPendClr (w data : Nat) (s : State) : Host.Outcome State Fault Refusal :=
  onDev s (fun d => if w < 8 then icuPendClr d w data else d)

/-- A write of ENABLE_SET, or of ENABLE_CLR, of a target (R516, R521). -/
def icuEnable (d : Dev) (t w data : Nat) (set : Bool) : Dev :=
  icuChange d (fun d =>
    let f := fICU_ENABLE_EN.at2 t w
    d.rs f (if set then d.rg f ||| data % 2 ^ 64 else d.rg f ^^^ (d.rg f &&& data)))

/-- ICU_ENABLE_SET (R516). -/
def execIcuEnableSet (t w data : Nat) (s : State) : Host.Outcome State Fault Refusal :=
  onDev s (fun d => if t < 8 ∧ w < 8 then icuEnable d t w data true else d)

/-- ICU_ENABLE_CLR (R516). -/
def execIcuEnableClr (t w data : Nat) (s : State) : Host.Outcome State Fault Refusal :=
  onDev s (fun d => if t < 8 ∧ w < 8 then icuEnable d t w data false else d)

/-- A write of a target's THRESHOLD (R515). -/
def icuThreshold (d : Dev) (t data : Nat) : Dev :=
  icuChange d (fun d => d.rs (fICU_THRESHOLD_THRESHOLD.at t) (bitsOf data 0 4))

/-- ICU_THRESHOLD_WRITE (R515). -/
def execIcuThresholdWrite (t data : Nat) (s : State) : Host.Outcome State Fault Refusal :=
  onDev s (fun d => if t < 8 then icuThreshold d t data else d)

/-- A write of ICU_PRIO: source 0 has no priority (R516, R521). -/
def icuPrio (d : Dev) (source data : Nat) : Dev :=
  if source = 0 then d else icuChange d (fun d => d.rs (fICU_PRIO_PRIO.at source) (bitsOf data 0 4))

/-- ICU_PRIO_WRITE (R516, R521). -/
def execIcuPrioWrite (source data : Nat) (s : State) : Host.Outcome State Fault Refusal :=
  onDev s (fun d => if source < 512 then icuPrio d source data else d)

/-- The source that a claim of target `t` takes: highest priority, then lowest number (R517). -/
def icuBest (d : Dev) (t : Nat) : Option Nat :=
  ((d.shed.assigned.filter (fun e => e.2 = t)).map (·.1)).foldl (fun best s =>
    match best with
    | none => some s
    | some b => if d.rg (fICU_PRIO_PRIO.at b) < d.rg (fICU_PRIO_PRIO.at s) then some s else some b) none

/-- A claim of target `t`: the number it returns and its effect (R517). -/
def icuClaim (d : Dev) (t : Nat) : Dev × Nat :=
  let d := icuSettle d
  match icuBest d t with
  | some s =>
    let f := fICU_PEND_PEND.at (s / 64)
    let d := d.rs f (clearBit (d.rg f) (s % 64))
    let d := { d with shed := { d.shed with
      stack := SMap.set [] d.shed.stack t ((s, d.rg (fICU_PRIO_PRIO.at s)) :: icuStack d t),
      assigned := SMap.erase s d.shed.assigned, asserted := d.shed.asserted.erase t } }
    (icuSettle d, s)
  | none =>
    if d.shed.asserted.contains t then
      ({ d with shed := { d.shed with asserted := d.shed.asserted.erase t } }, 0x3FF)
    else (d, 0)

/-- ICU_CLAIM: the number goes to the core (R517). -/
def execIcuClaim (t : Nat) (s : State) : Host.Outcome State Fault Refusal :=
  onDev s (fun d => if t < 8 then
    let r := icuClaim d t
    r.1.emit (.coreData t r.2) else d)

/-- A completion of target `t` (R517). -/
def icuComplete (d : Dev) (t id : Nat) : Dev :=
  icuChange d (fun d =>
    match icuStack d t with
    | x :: r => if x.1 = id then { d with shed := { d.shed with stack := SMap.set [] d.shed.stack t r } } else shdErr d t 0x0401
    | [] => shdErr d t 0x0401)

/-- ICU_COMPLETE (R517). -/
def execIcuComplete (t data : Nat) (s : State) : Host.Outcome State Fault Refusal :=
  onDev s (fun d => if t < 8 then icuComplete d t (bitsOf data 0 10) else d)

/-- A target is cleared: its stack down to entry 0, its enables, its assignments (R515). -/
def icuClearTarget (d : Dev) (t : Nat) : Dev :=
  let d := (List.range 8).foldl (fun d w => d.rs (fICU_ENABLE_EN.at2 t w) 0) d
  icuSettle { d with shed := { d.shed with
    stack := SMap.set [] d.shed.stack t [], assigned := d.shed.assigned.filter (fun e => e.2 ≠ t) } }

/-- WFI_WAKE: a pending source that is enabled for the core, of priority 1 to 15, wakes it (R518). -/
def execWfiWake (core : Nat) (s : State) : Host.Outcome State Fault Refusal :=
  onDev s (fun d =>
    if core < 8 ∧ d.rg (fSHD_CORE_CTRL_WFI.at core) = 1 ∧ (List.range 512).any (fun i =>
      icuPending d i && icuEnabled d i core && decide (1 ≤ d.rg (fICU_PRIO_PRIO.at i)))
    then d.rs (fSHD_CORE_CTRL_WFI.at core) 0 else d)

/-- PLOT_IRQ_WRITE: ones clear the bits, and the enables are stored (R513). -/
def plotIrqWrite (d : Dev) (p data : Nat) : Dev :=
  d.modPlot p (fun pl =>
    let off (f : Fld) (b : Nat) (pl : Plot) : Plot := if bitOf data b then pl.rs f 0 else pl
    let pl := off fPLOT_IRQ_ATT 10 (off fPLOT_IRQ_TINE 9 (off fPLOT_IRQ_ARR 8 (off fPLOT_IRQ_SEQ_DONE 1
      (off fPLOT_IRQ_SEQ_STOP 0 pl))))
    let b := pl.rg fPLOT_IRQ_BED_CH
    (pl.rs fPLOT_IRQ_BED_CH (b ^^^ (b &&& bitsOf data 16 4))).rs fPLOT_IRQ_EN (bitsOf data 32 16))

/-- PLOT_IRQ_WRITE (R513). -/
def execPlotIrqWrite (p data : Nat) (s : State) : Host.Outcome State Fault Refusal :=
  onDev s (fun d => if isPlot p then plotIrqWrite (wakePlot d p) p data else d)

/-! ## Cores and watchdogs (R504, R507, R519, R520) -/

/-- Whether a core runs. -/
def coreRuns (d : Dev) (c : Nat) : Bool := decide (d.rg (fSHD_CORE_CTRL_RUN.at c) = 1)

/-- A core goes into reset: its watchdog is disabled, its timer restarts (R507, R519). -/
def coreHold (d : Dev) (c : Nat) : Dev :=
  let d := ((d.rs (fSHD_CORE_CTRL_RUN.at c) 0).rs (fSHD_CORE_CTRL_WFI.at c) 0).rs (fSHD_CORE_WDOG_EN.at c) 0
  { d.rs (fSHD_CORE_WDOG_STAGE.at c) 0 with shed := { d.shed with cores := SMap.set Core.reset d.shed.cores c Core.reset } }

/-- The block reset of a core (R507). -/
def coreBlockReset (d : Dev) (c : Nat) : Dev := icuClearTarget (coreHold d c) c

/-- Whether a block reset of core `c` runs (R521). -/
def coreResetting (d : Dev) (c : Nat) : Bool :=
  d.rg fAON_BLK_RST_RESULT = 1 && d.rg fAON_BLK_RST_KIND = 4 && d.rg fAON_BLK_RST_INSTANCE = c

/-- A write of SHD_CORE[c].CTRL (R507, R521). -/
def coreCtrlWrite (d : Dev) (c data : Nat) : Dev :=
  if coreResetting d c then shdErr d c 0x040A
  else
    let d := d.rs (fSHD_CORE_CTRL_MSIP.at c) (bitsOf data 2 1)
    if c = 0 then d
    else if bitOf data 0 then d.rs (fSHD_CORE_CTRL_RUN.at c) 1
    else if coreRuns d c then coreHold d c else d

/-- SHD_CORE_RUN_WRITE (R507). -/
def execShdCoreRunWrite (c data : Nat) (s : State) : Host.Outcome State Fault Refusal :=
  onDev s (fun d => if c < 8 then coreCtrlWrite d c data else d)

/-- A write of SHD_CORE[c].WDOG (R519, R521). -/
def coreWdogWrite (d : Dev) (c data : Nat) : Dev :=
  if bitsOf data 0 16 = 0 then shdErr d c 0x0409
  else
    let d := d.rs (fSHD_CORE_WDOG_PERIOD.at c) (bitsOf data 0 16)
    if bitOf data 17 then d.rs (fSHD_CORE_WDOG_EN.at c) 1 else d

/-- SHD_CORE_WDOG_WRITE (R519). -/
def execShdCoreWdogWrite (c data : Nat) (s : State) : Host.Outcome State Fault Refusal :=
  onDev s (fun d => if c < 8 then coreWdogWrite d c data else d)

/-- A write of SHD_CORE[c].KICK (R519). -/
def watchdogKick (d : Dev) (c data : Nat) : Dev :=
  if data % 2 ^ 16 = 0xA5C3 then d.rs (fSHD_CORE_WDOG_STAGE.at c) 0 else shdErr d c 0x0409

/-- WATCHDOG_KICK (R519). -/
def execWatchdogKick (c data : Nat) (s : State) : Host.Outcome State Fault Refusal :=
  onDev s (fun d => if c < 8 then watchdogKick d c data else d)

/-- MACHINE_TIMER_INTERRUPT: the core's mtime, `now` ac cycles after its release, has reached mtimecmp (R504, R518). -/
def execMachineTimerInterrupt (core now : Nat) (s : State) : Host.Outcome State Fault Refusal :=
  onDev s (fun d =>
    let x := SMap.get Core.reset d.shed.cores core
    if core < 8 ∧ coreRuns d core ∧ x.mtimecmp ≤ (x.mtime + now) % 2 ^ 64 then
      { d with shed := { d.shed with cores := SMap.set Core.reset d.shed.cores core { x with mtip := true } } }.rs
        (fSHD_CORE_CTRL_WFI.at core) 0
    else d)

/-- A write of SHD_SRAM: ones clear CORRECTED, and the flip is set up (R506). -/
def shdSramWrite (d : Dev) (data : Nat) : Dev :=
  let c := d.rg fSHD_SRAM_CORRECTED
  (((d.rs fSHD_SRAM_CORRECTED (c ^^^ (c &&& bitsOf data 48 16))).rs fSHD_SRAM_FLIP_ARM (bitsOf data 38 1)).rs
    fSHD_SRAM_POS_B (bitsOf data 31 7)).rs fSHD_SRAM_POS_A (bitsOf data 24 7)

/-- SHD_SRAM_FLIP_WRITE (R506). -/
def execShdSramFlipWrite (data : Nat) (s : State) : Host.Outcome State Fault Refusal := onDev s (fun d => shdSramWrite d data)

end Sys2Proof.Machine
end

