-- ==== Sys2Proof/Machine/Reset.lean ====
section
/-! DEFINITION. Resets of the device and of its blocks, and the device states (chapter 14). -/

namespace Sys2Proof.Machine

/-! ## Full and Core resets (R427 to R431) -/

/-- The register fields that a Core reset keeps: AON_RESET_CAUSE, BRW_FAILSTART.AON_COPY, and the thermal counters that
the always-on domain holds (R427, R446, R470, R472). -/
def aonKeeps (k : Nat) : Bool :=
  decide (k / 64 = fAON_RESET_CAUSE_CODE.off) || decide (k = fBRW_FAILSTART_AON_COPY.key) ||
    decide (k / 64 = fTHM_CYCLES_W_BIN20.off) || decide (k / 64 = fTHM_CYCLES_E_BIN20.off) ||
    decide (k / 64 = fTHM_TRIP_LOG_TRIPS.off)

/-- The core goes into reset: all but the always-on domains, module flash and what lies outside the device starts afresh
(R370, R372, R427, R428, R450). -/
def coreReset (d : Dev) : Dev :=
  { Dev.reset with
    regs := d.regs.filter (fun e => aonKeeps e.1), flash := d.flash, freeCtr := d.freeCtr, outs := d.outs, tray := d.tray,
    rst := { d.rst with held := true },
    boot := { Boot.reset with
      wdogFired := d.boot.wdogFired, shedFired := d.boot.shedFired, tripped := d.boot.tripped },
    therm := { Therm.reset with
      rails := d.therm.rails, faults := d.therm.faults, intervals := d.therm.intervals, flows := d.therm.flows,
      flowBack := d.therm.flowBack, flowLow := d.therm.flowLow, flowThr := d.therm.flowThr, flowStop := d.therm.flowStop,
      inletRange := d.therm.inletRange, swings := d.therm.swings } }

/-- A Full reset: the always-on domains too; of the causes only POR is set (R427, R428). -/
def fullReset (d : Dev) : Dev :=
  { Dev.reset with
    flash := d.flash, freeCtr := d.freeCtr, outs := d.outs, tray := d.tray, rst := { d.rst with held := true, trip := false },
    therm := { Therm.reset with faults := d.therm.faults } }

/-- The always-on domain counts a failed start as it records a cause, once in a start (R414). -/
def aonFail (d : Dev) : Dev :=
  if d.boot.failCounted ∨ 12 ≤ d.rg fBRW_STATUS_LAST_DONE then d
  else { d.count fBRW_FAILSTART_AON_COPY 1 with boot := { d.boot with failCounted := true } }

/-- A Core reset with its cause bit; a source that R427 marks counts a failed start first (R414, R427, R428). -/
def resetBy (d : Dev) (cause : Fld) (fails : Bool) : Dev := (coreReset (if fails then aonFail d else d)).rs cause 1

/-- A critical-state error or vote failure: its code is kept in AON_RESET_CAUSE (R432, R433). -/
def critReset (d : Dev) (cause : Fld) (code : Nat) : Dev := (resetBy d cause true).rs fAON_RESET_CAUSE_CODE code

/-- POWER_ON_RESET (R427): a rail below its power-good threshold, or input applied. -/
def execPowerOnReset (s : State) : Host.Outcome State Fault Refusal := onAon s fullReset

/-- RESET_N_ASSERT, for `ac` cycles so far: shorter than 4 is ignored (R430). -/
def execResetNAssert (ac : Nat) (s : State) : Host.Outcome State Fault Refusal :=
  onAon s (fun d =>
    if ac < 4 ∨ d.rst.pin then d
    else
      let d := if d.rst.held then d.rs fAON_RESET_CAUSE_RESET_N 1 else resetBy d fAON_RESET_CAUSE_RESET_N false
      { d with rst := { d.rst with pin := true } })

/-- Whether every logic sensor reads at or below 105 °C and every bed sensor at or below 95 °C (R429). -/
def coolEnough (d : Dev) : Bool :=
  allPlots.all (fun p =>
    decide (signedOf 12 (d.rg (fTHM_PLOT_SENSE_LOGIC.at p)) ≤ 840) &&
      decide (signedOf 12 (d.rg (fTHM_PLOT_SENSE_BED.at p)) ≤ 760))

/-- The thermal hold ends once the temperatures allow it (R429). -/
def tripRelease (d : Dev) : Dev :=
  if d.rst.trip && coolEnough d then { d with rst := { d.rst with trip := false } } else d

/-- RESET_N_RELEASE: a pulse also ends a thermal hold (R429, R430). -/
def execResetNRelease (s : State) : Host.Outcome State Fault Refusal :=
  onAon s (fun d => if d.rst.pin then tripRelease { d with rst := { d.rst with pin := false } } else d)

/-- CORE_RESET_RELEASE: 1,000 ac after the cause has ended, or 10 ms after power-on, the core is released (R428). -/
def execCoreResetRelease (s : State) : Host.Outcome State Fault Refusal :=
  onAon s (fun d =>
    if d.rst.held ∧ ¬ d.rst.pin ∧ ¬ d.rst.trip ∧ ¬ d.rst.off then { d with rst := Rst.run } else d)

/-- AON_RELEASE (R429, R431). -/
def execAonRelease (s : State) : Host.Outcome State Fault Refusal := onAon s tripRelease

/-- CRIT_PARITY (R433). -/
def execCritParity (s : State) : Host.Outcome State Fault Refusal :=
  onDev s (fun d => critReset d fAON_RESET_CAUSE_CRIT_ERR 0x0208)

/-- PLL_LOCK_LOSS of an sc or pc PLL, after the CLOCKS step (R424). -/
def execPllLockLoss (s : State) : Host.Outcome State Fault Refusal :=
  onDev s (fun d => if 4 ≤ d.rg fBRW_STATUS_LAST_DONE then critReset d fAON_RESET_CAUSE_CRIT_ERR 0x0208 else d)

/-- GDDR7_PLL_LOCK_LOSS (R288, R424). -/
def execGddr7PllLockLoss (c : Nat) (s : State) : Host.Outcome State Fault Refusal :=
  onDev s (fun d => if c < 24 then gdcLinkLost d c else d)

/-! ## Thermal codes (R471, R472, R474) -/

/-- A code of class 0x03 is recorded: its bit of THM_ERR, and a THERMAL_EVENT of Ervoec but for 0x030F. `value` is the
temperature or flow field that the code shows, where the spec names one; else it is a free value (log entry 2). While the core
is held in reset nothing is recorded (log entry 37). -/
def thmErr (d : Dev) (code plot : Nat) (value : Option Nat) : Dev :=
  if d.rst.held then d
  else
    let d := recordErr (d.rs fTHM_ERR_CODE_SEEN (withBit (d.rg fTHM_ERR_CODE_SEEN) (code - 0x0301))) 2 0 code
    if code = 0x030F ∨ d.rg fSHD_FW_STATE ≠ 2 then d
    else
      let r := match value with
        | some v => (d, v)
        | none => d.free 16
      mailUnsolicited r.1 0x0401 (leBytes 2 code ++ leBytes 2 plot ++ leBytes 2 r.2 ++ zeros 10)

/-! ## Block resets (R434) -/

/-- Whether KIND and INSTANCE name a resettable block. -/
def blkValid (kind inst : Nat) : Bool :=
  if kind = 1 then isPlot inst else if kind = 2 then decide (inst < 24) else if kind = 3 then decide (inst < 18)
  else if kind = 4 then decide (1 ≤ inst) && decide (inst ≤ 7) else decide (kind = 5) && decide (inst = 0)

/-- A write of AON_BLK_RST. -/
def blkRstWrite (d : Dev) (data : Nat) : Dev :=
  let kind := bitsOf data 12 4
  let inst := bitsOf data 1 11
  let store (d : Dev) : Dev := (d.rs fAON_BLK_RST_KIND kind).rs fAON_BLK_RST_INSTANCE inst
  if !bitOf data 0 then (if d.rg fAON_BLK_RST_RESULT = 1 then d else store d)
  else if d.rg fAON_BLK_RST_RESULT = 1 then recordErr d 1 0 0x0202
  else if !blkValid kind inst then recordErr d 1 0 0x0201
  else (store d).rs fAON_BLK_RST_RESULT 1

/-- AON_BLK_RST_GO (R434). -/
def execAonBlkRstGo (data : Nat) (s : State) : Host.Outcome State Fault Refusal := onDev s (fun d => blkRstWrite d data)

/-- The registers of a window back at their reset values. -/
def regsClear (d : Dev) (lo hi : Nat) : Dev :=
  { d with regs := d.regs.filter (fun e => decide (e.1 < lo * 64) || decide (hi * 64 ≤ e.1)) }

/-- The requests that wait at a place complete with 0x0203 when their block is forced (R434). -/
def forceAnswer (d : Dev) (rs : List FabReq) : Dev :=
  rs.foldl (fun d r => fabAnswer d r 0x0203 []) d

/-- The block reset of a plot: UNSOWN, scratch zero, bed and tine store kept (R434). -/
def plotBlockReset (d : Dev) (p : Nat) : Dev :=
  let old := d.plot p
  let d := forceAnswer d (old.channels.flatMap (fun c => c.2.hold ++ c.2.router))
  let d := plotLose d p
  d.modPlot p (fun pl =>
    let pl := (List.range 4).foldl (fun pl ch => pl.rs (fBED_CH_STATUS_MODE.at ch) 0) pl
    { pl with channels := pl.channels.map (fun e => (e.1, { Channel.reset with
        suspects := e.2.suspects, remaps := e.2.remaps, copying := e.2.copying, refreshing := e.2.refreshing,
        pm := e.2.pm, pmErr := e.2.pmErr })) })

/-- The block reset of a controller: UNTRAINED until the next start, and DOWN to what uses it (R298, R434). -/
def gdcBlockReset (d : Dev) (c : Nat) : Dev :=
  let q := (SMap.get RegPoint.reset d.points c).queue
  let d := { d with points := SMap.set RegPoint.reset d.points c { SMap.get RegPoint.reset d.points c with queue := [] } }
  let d := forceAnswer d (q.map (·.req))
  let d := regsClear d (0x800000 + c * 0x4000) (0x800000 + (c + 1) * 0x4000)
  capacityMail { d with gdcs := SMap.set Gdc.reset d.gdcs c Gdc.reset }

/-- The block reset of an octet: OFF until the next start, its port LOST or its link lost (R334, R396, R434). -/
def octetBlockReset (d : Dev) (o : Nat) : Dev :=
  let r := octetRole d o
  let q := octetPort d o
  let d := regsClear d (0x500000 + o * 0x1000) (0x500000 + (o + 1) * 0x1000)
  let d := (d.rs (fLNE_ROLE_ROLE.at o) r).rs (fLNE_ROLE_PORT.at o) q
  let d := d.setOct o Octet.reset
  if r = 2 then
    let st := d.rg (fSOP_PORT_STATUS_STATE.at q)
    if 2 ≤ st ∧ st ≤ 4 then portLost d q else d
  else if r = 1 then cplOctets d o
  else d

/-- The block reset of the THM monitors and the PMBus controller: the sensors restart (R434). -/
def thmBlockReset (d : Dev) : Dev :=
  let d := regsClear (regsClear (regsClear d 0x200E00 0x200F00) 0x202000 0x203000) 0x204000 0x20C000
  { d with therm := { d.therm with sense := [] } }

/-- A block is reset (R434). -/
def blockReset (d : Dev) (kind inst : Nat) : Dev :=
  if kind = 1 then plotBlockReset d inst
  else if kind = 2 then gdcBlockReset d inst
  else if kind = 3 then octetBlockReset d inst
  else if kind = 4 then coreBlockReset d inst
  else thmBlockReset d

/-- The block reset in progress ends: RESULT leaves BUSY (R434). -/
def blkRstEnd (d : Dev) (forced : Bool) : Dev :=
  if d.rg fAON_BLK_RST_RESULT ≠ 1 then d
  else
    let d := blockReset d (d.rg fAON_BLK_RST_KIND) (d.rg fAON_BLK_RST_INSTANCE)
    let d := raiseEdge (d.rs fAON_BLK_RST_RESULT (if forced then 3 else 2)) 2
    if forced then recordErr d 1 0 0x0203 else d

/-- BLK_IDLE_ACK (R434). -/
def execBlkIdleAck (s : State) : Host.Outcome State Fault Refusal := onDev s (fun d => blkRstEnd d false)

/-- BLK_IDLE_TIMEOUT (R434). -/
def execBlkIdleTimeout (s : State) : Host.Outcome State Fault Refusal := onDev s (fun d => blkRstEnd d true)

/-- WATCHDOG_EXPIRY of a core: stage 1 warns; stage 2 resets a core of 1 to 7 as a block, forced unless it went `idle`, and
for core 0 resets the device (R520). -/
def watchdogExpiry (d : Dev) (c : Nat) (idle : Bool) : Dev :=
  if d.rg (fSHD_CORE_WDOG_EN.at c) = 0 ∨ !coreRuns d c then d
  else if d.rg (fSHD_CORE_WDOG_STAGE.at c) = 0 then shdErr (d.rs (fSHD_CORE_WDOG_STAGE.at c) 1) c 0x0403
  else if c = 0 then
    let d := { d with boot := { d.boot with shedFired := true } }
    resetBy d fAON_RESET_CAUSE_WDOG_SHED true
  else
    let d := shdErr (coreBlockReset d c) c 0x0404
    let d := ((d.rs fAON_BLK_RST_KIND 4).rs fAON_BLK_RST_INSTANCE c).rs fAON_BLK_RST_RESULT (if idle then 2 else 3)
    if idle then d else recordErr d 1 0 0x0203

/-- WATCHDOG_EXPIRY (R520). -/
def execWatchdogExpiry (c : Nat) (idle : Bool) (s : State) : Host.Outcome State Fault Refusal :=
  onDev s (fun d => if c < 8 then watchdogExpiry d c idle else d)

/-! ## The lifetime record (R470, R482, R565) -/

/-- The lifetime instruction count of a unit: the logbook value at the start plus its counter (R482). -/
def lifeCount (d : Dev) (p u : Nat) : Nat :=
  (SMap.get 0 d.sed.base.units (p * 20 + u) + (d.plot p).rg (fPLOT_UNIT_ICNT_COUNT.at u)) % 2 ^ 48

/-- The swing counters as shown, of the west half and then of the east (R470). -/
def swingBins (d : Dev) : List Nat :=
  [fTHM_CYCLES_W_BIN20, fTHM_CYCLES_W_BIN30, fTHM_CYCLES_W_BIN45, fTHM_CYCLES_E_BIN20, fTHM_CYCLES_E_BIN30,
    fTHM_CYCLES_E_BIN45].map d.rg

/-- The newer and the older lifetime record, by place (R565). -/
def lifePlaces (d : Dev) : Nat × Nat :=
  if (d.flash.lives.getD 0 Life.reset).seq ≤ (d.flash.lives.getD 1 Life.reset).seq then (1, 0) else (0, 1)

/-- Ervoec takes the newest lifetime record at a start. -/
def lifeLoad (d : Dev) : Dev :=
  let l := d.flash.lives.getD (lifePlaces d).1 Life.reset
  { d with sed := { d.sed with base := l, binsBase := swingBins d, sig := l.sig } }

/-- Ervoec writes the older lifetime record with SEQ + 1. -/
def lifeWrite (d : Dev) : Dev :=
  let pl := lifePlaces d
  let units := allPlots.foldl (fun m p => (List.range 20).foldl (fun m u => SMap.set 0 m (p * 20 + u) (lifeCount d p u)) m) []
  let bins := (swingBins d).mapIdx (fun i b => d.sed.base.bins.getD i 0 + (b - d.sed.binsBase.getD i 0))
  let masks := allPlots.foldl (fun m p => SMap.set 0 m p (d.rg (fTHM_PLOT_ARB_MASK.at p))) []
  let new : Life := ⟨(d.flash.lives.getD pl.1 Life.reset).seq + 1, units, bins, d.sed.base.steps + d.steps.lastNo, d.sed.sig, masks⟩
  { d with flash := { d.flash with lives := d.flash.lives.set pl.2 new } }

/-- LIFETIME_RECORD_WRITE (R565). -/
def execLifetimeRecordWrite (s : State) : Host.Outcome State Fault Refusal :=
  onDev s (fun d => if d.rg fSHD_FW_STATE = 2 then lifeWrite d else d)

/-! ## Device states (R438, R439) -/

/-- The plots that a live-sparing move holds awake (R459). -/
def movePlots (d : Dev) : List Nat :=
  if d.rg fSED_MOVE_STATE = 0 then [] else
  d.rg fSED_MOVE_SPARE :: (d.phys (d.rg fSED_MOVE_LOGICAL)).toList

/-- The device enters D2: the running step is abandoned, slots park without a hold timer, every plot goes to P3 (R438, R459). -/
def enterD2 (d : Dev) : Dev :=
  let d := parkAll (stepAbandon d false)
  let busy := movePlots d
  let d := (allPlots.filter (fun p => !busy.contains p)).foldl (fun d p =>
    (plotReach d p 3).modPlot p (fun pl => pl.rs fPLOT_PWR_REQ 3)) d
  d.rs fAON_DSTATE_STATE 3

/-- REQ of AON_DSTATE: D1 from D2 unless an emergency is active, D2 from D0 or D1 (R438). -/
def dstateReq (d : Dev) (req : Nat) : Dev :=
  let st := d.rg fAON_DSTATE_STATE
  if req = 1 ∧ st = 3 then
    if d.rg fTHM_EMERG_ACTIVE = 1 then recordErr d 1 0 0x0205
    else (allPlots.foldl wakePlot d).rs fAON_DSTATE_STATE 2
  else if req = 2 ∧ (st = 1 ∨ st = 2) then enterD2 d
  else d

/-- DSTATE_REQ_D2 (R438). -/
def execDstateReqD2 (s : State) : Host.Outcome State Fault Refusal := onDev s (fun d => dstateReq d 2)

/-- ORDERLY_STOP: while STOP is set Ervoec stops the device in order, and writes the lifetime record (R459, R565). -/
def execOrderlyStop (s : State) : Host.Outcome State Fault Refusal :=
  onDev s (fun d =>
    if d.rg fTHM_STATUS_STOP = 1 ∧ (d.rg fAON_DSTATE_STATE = 1 ∨ d.rg fAON_DSTATE_STATE = 2) then lifeWrite (dstateReq d 2)
    else d)

end Sys2Proof.Machine
end

