-- ==== Sys2Proof/Machine/Trust.lean ====
section
/-! DEFINITION. Trust, licences and update after bring-up (chapter 18): the update state table, anti-rollback, attestation
and the trust mailbox types. -/

namespace Sys2Proof.Machine

/-- A little-endian field of a message body. -/
def Mail.v (m : Mail) (i n : Nat) : Nat := leValue ((m.body.drop i).take n)

/-- Whether a message body has `n` bytes and the bytes `lo` to `lo + k - 1` are 0. -/
def Mail.shape (m : Mail) (n lo k : Nat) : Bool := decide (m.body.length = n) && recZero m.body lo k

/-- Whether a range lies in GDDR7. -/
def inGddr (a n : Nat) : Bool := decide (a + n ≤ 0x1800000000)

/-- Whether a range lies in companion memory. -/
def inHost (a n : Nat) : Bool := decide (hostBase ≤ a) && decide (a + n ≤ 2 ^ 48)

/-! ## The update state table (R545 to R548) -/

/-- TRU_UPD.STATE: 0 IDLE, 1 STAGED, 2 PENDING, 3 HANDOVER; a change raises source 12 (R552). -/
def setUpd (d : Dev) (st : Nat) : Dev :=
  if d.rg fTRU_UPD_STATE = st then d else raiseEdge (d.rs fTRU_UPD_STATE st) 12

/-- Ends an update action: the code is shown and UPDATE_RESULT is sent; HELD_US is a time, and so a free value (R551). -/
def updResult (d : Dev) (code : Nat) : Dev :=
  let d := d.rs fTRU_UPD_CODE code
  let r := d.free 32
  mailUnsolicited r.1 0x0123 (leBytes 2 code ++ leBytes 1 (d.rg fTRU_UPD_STATE) ++ zeros 1 ++
    leBytes 4 (d.rg fSHD_FW_VERSION) ++ leBytes 4 r.2 ++ zeros 4)

/-- The held steps are released. -/
def releaseSteps (d : Dev) : Dev := { d with steps := { d.steps with hold := clearBit d.steps.hold 0 } }

/-- Cores 1 to 7 are held in reset. -/
def holdCores (d : Dev) : Dev := (List.range 7).foldl (fun d i => coreHold d (i + 1)) d

/-- A handover aborts: cores 1 to 7 are held, the old image resumes, the steps go on, the image stays staged (R548). -/
def handoverAbort (d : Dev) (code : Nat) : Dev :=
  if d.rg fTRU_UPD_STATE ≠ 3 then d
  else
    let d := (releaseSteps (holdCores d)).rs fSHD_FW_STATE 2
    updResult (truErr (raiseEdge (setUpd d 1) 14) code) code

/-- The pending activation ends without a handover (R546). -/
def deferEnd (d : Dev) : Dev := if d.rg fTRU_UPD_STATE ≠ 2 then d else updResult (truErr (setUpd d 1) 0x050C) 0x050C

/-- At a step boundary a pending handover begins, if no emergency is active and no move runs; otherwise the deferral is
recorded once, and a DEFER_S of 0 ends it (R546, R547). -/
def handoverCheck (d : Dev) : Dev :=
  if d.rg fTRU_UPD_STATE ≠ 2 ∨ d.steps.run.isSome then d
  else if d.rg fTHM_EMERG_ACTIVE = 0 ∧ d.rg fSED_MOVE_STATE = 0 then
    let d := { d with steps := { d.steps with hold := withBit d.steps.hold 0 } }
    (setUpd (d.rs fSHD_FW_STATE 3) 3).rs fTRU_UPD_TIMER_MS 0
  else
    let d := if d.trust.deferred then d else truErr { d with trust := { d.trust with deferred := true } } 0x050B
    if d.trust.defer = 0 then deferEnd d else d

/-- COMMIT written to TRU_UPD (R547). -/
def updCommit (d : Dev) : Dev :=
  if d.rg fTRU_UPD_STATE ≠ 3 then truErr d 0x050A
  else
    let r := 1 - d.trust.region
    let img := imageWhole (memRead d.shed.sram (regionBase r) pushBytes)
    let slot := d.trust.staged.getD 0
    let d := { d with trust := { d.trust with region := r, image := img.take 128, staged := none } }
    let d := (List.range 4).foldl (fun d i =>
      d.rs (fTRU_MEAS_BYTES.at2 1 i) (leValue (((shake256 32 img).drop (8 * i)).take 8))) d
    let d := pairWrite d flSELECT magicS slot
    let d := ((d.rs fTRU_STATUS_SLOT_ACTIVE slot).rs fTRU_STATUS_SLOT_BOOTED slot).rs fTRU_STATUS_PUSHED 0
    let d := (d.rs fSHD_FW_VERSION (recV img 8 4)).rs fSHD_FW_STATE 2
    updResult (truErr (setUpd (releaseSteps d) 0) 0x0512) 0x0512

/-- COMMIT (R547). -/
def execCommit (s : State) : Host.Outcome State Fault Refusal := onDev s updCommit

/-- REFUSE (R547). -/
def execRefuse (s : State) : Host.Outcome State Fault Refusal :=
  onDev s (fun d => if d.rg fTRU_UPD_STATE ≠ 3 then truErr d 0x050A else handoverAbort d 0x0511)

/-- HANDOVER_TIMEOUT (R547). -/
def execHandoverTimeout (s : State) : Host.Outcome State Fault Refusal := onDev s (fun d => handoverAbort d 0x050E)

/-- DEFER_TIMEOUT (R546). -/
def execDeferTimeout (s : State) : Host.Outcome State Fault Refusal := onDev s deferEnd

/-- Whether UPDATE_STAGE, ACTIVATE and ROLLBACK_ADVANCE are refused: PENDING or HANDOVER (R547). -/
def updBusy (d : Dev) : Bool := decide (2 ≤ d.rg fTRU_UPD_STATE)

/-- The slot that the selector does not name. -/
def inactiveSlot (d : Dev) : Nat := 1 - min 1 (((pairNewest d flSELECT magicS).map (·.2)).getD 0)

/-- UPDATE_STAGE: the image is verified, written to the inactive slot and read back; `ok` is whether it reads back right
(R545). -/
def updateStage (f : Fuses) (d : Dev) (m : Mail) (ok : Bool) : Dev :=
  let a := m.v 0 8
  let n := m.v 8 8
  let img := memRead d.gddr a n
  if !m.shape 16 16 0 then mailReply (truErr d 0x0504) 0x0504 []
  else if updBusy d then mailReply (truErr d 0x050A) 0x050A []
  else if n = 0 then mailReply d 0 (zeros 16)
  else if !inGddr a n || 524288 < n || n < imageLen img then mailReply (truErr d 0x0510) 0x0510 []
  else
    let t := imageCheck f d img
    if t ≠ 0 then mailReply (truErr d t) t []
    else
      let slot := inactiveSlot d
      let d := flWrite d (flSLOT slot) (imageWhole img)
      if !ok then
        mailReply (truErr (setUpd { d with trust := { d.trust with staged := none } } 0) 0x0516) 0x0516 []
      else
        let live := decide (recV img 29 1 = recV d.trust.image 28 1)
        let d := setUpd { d with trust := { d.trust with staged := some slot, live := live } } 1
        mailReply d 0 (leBytes 4 (recV img 8 4) ++ leBytes 4 (recV img 12 4) ++ leBytes 1 (if live then 1 else 0) ++
          leBytes 1 slot ++ zeros 6)

/-- UPDATE_STAGE (R545). -/
def execUpdateStage (ok : Bool) (s : State) : Host.Outcome State Fault Refusal :=
  onDevFused s (fun f d => onMail d 0x0120 (fun d m => updateStage f d m ok))

/-- UPDATE_ACTIVATE in mode 0: the selector is written, and the image runs from the next start (R546). -/
def activateNext (d : Dev) (slot : Nat) : Dev :=
  let d := (pairWrite d flSELECT magicS slot).rs fTRU_STATUS_SLOT_ACTIVE slot
  updResult (setUpd { mailReply d 0 [] with trust := { d.trust with staged := none } } 0) 0

/-- UPDATE_ACTIVATE in mode 1: the staged image is loaded into the region not in use and verified there (R546). -/
def activateLive (f : Fuses) (d : Dev) (slot defer : Nat) : Dev :=
  if !d.trust.live then mailReply (truErr d 0x050D) 0x050D []
  else
    let img := imageWhole (flRead d (flSLOT slot) 524288)
    let t := imageCheck f d img
    if t ≠ 0 then mailReply (truErr d t) t []
    else
      let d := imageLoad d (1 - d.trust.region) img
      setUpd (mailReply { d with trust := { d.trust with defer := defer, deferred := false } } 0 []) 2

/-- UPDATE_ACTIVATE (R546, R547, R551). -/
def updateActivate (f : Fuses) (d : Dev) (m : Mail) : Dev :=
  if !m.shape 8 4 4 || m.v 1 1 ≠ 0 || 1 < m.v 0 1 || 3600 < m.v 2 2 then mailReply (truErr d 0x0504) 0x0504 []
  else match d.trust.staged with
    | some slot =>
      if d.rg fTRU_UPD_STATE ≠ 1 then mailReply (truErr d 0x050A) 0x050A []
      else if m.v 0 1 = 0 then activateNext d slot else activateLive f d slot (m.v 2 2)
    | none => mailReply (truErr d 0x050A) 0x050A []

/-- Processes UPDATE_ACTIVATE of one mode. -/
def activateMode (s : State) (mode : Nat) : Host.Outcome State Fault Refusal :=
  onDevFused s (fun f d => onMail d 0x0121 (fun d m =>
    if m.v 0 1 = mode ∨ (mode = 0 ∧ 1 < m.v 0 1) then updateActivate f d m else d))

/-- UPDATE_ACTIVATE_MODE0 (R546). -/
def execUpdateActivateMode0 (s : State) : Host.Outcome State Fault Refusal := activateMode s 0

/-- UPDATE_ACTIVATE_MODE1 (R546). -/
def execUpdateActivateMode1 (s : State) : Host.Outcome State Fault Refusal := activateMode s 1

/-- UPDATE_CANCEL (R547). -/
def execUpdateCancel (s : State) : Host.Outcome State Fault Refusal :=
  onDev s (fun d => onMail d 0x0122 (fun d _ =>
    if d.rg fTRU_UPD_STATE = 2 then mailReply (setUpd d 1) 0 [] else mailReply (truErr d 0x050A) 0x050A []))

/-! ## Anti-rollback (R526, R527) -/

/-- Whether a target may be programmed (R527). -/
def targetOk (f : Fuses) (d : Dev) (t : Nat) : Bool :=
  decide (f.rollback < t) && decide (t ≤ 64) && decide (t ≤ recV d.trust.image 12 4) && decide (t ≤ d.trust.cfgRollback)

/-- Fuse programming starts. -/
def fuseStart (d : Dev) (t : Nat) (byMail : Bool) : Dev :=
  ({ d with trust := { d.trust with fuse := some t, byMail := byMail } }.rs fTRU_FUSE_PROG_TARGET t).rs
    fTRU_FUSE_PROG_RESULT 1

/-- ROLLBACK_ADVANCE (R527, R547). -/
def rollbackAdvance (f : Fuses) (d : Dev) (m : Mail) : Dev :=
  if updBusy d then mailReply (truErr d 0x050A) 0x050A []
  else if !m.shape 8 1 7 || !targetOk f d (m.v 0 1) then mailReply (truErr d 0x0504) 0x0504 []
  else if d.trust.fuse.isSome then d
  else fuseStart d (m.v 0 1) true

/-- ROLLBACK_ADVANCE (R527). -/
def execRollbackAdvance (s : State) : Host.Outcome State Fault Refusal :=
  onDevFused s (fun f d => onMail d 0x0130 (rollbackAdvance f))

/-- A write of TRU_FUSE_PROG by a shed core (R552). -/
def fuseProgWrite (f : Fuses) (d : Dev) (data : Nat) : Dev :=
  if d.trust.fuse.isSome then d
  else
    let t := bitsOf data 16 8
    if bitsOf data 0 16 ≠ 0x5AC3 then truErr d 0x0504
    else if targetOk f d t && !updBusy d then fuseStart d t false
    else truErr d 0x0504

/-- FUSE_PROG_KEY (R527, R552). -/
def execFuseProgKey (data : Nat) (s : State) : Host.Outcome State Fault Refusal :=
  onDevFused s (fun f d => fuseProgWrite f d data)

/-- Fuse programming ends with a RESULT; the message that commanded it is answered (R527, R552). -/
def fuseEnd (d : Dev) (result code value : Nat) : Dev :=
  let mail := d.trust.byMail
  let d := raiseEdge ({ d with trust := { d.trust with fuse := none, byMail := false } }.rs fTRU_FUSE_PROG_RESULT result) 15
  if mail then onMail d 0x0130 (fun d _ => mailReply d code (if code = 0 then leBytes 1 value ++ zeros 7 else [])) else d

/-- FUSE_POSITION_DONE: the next position, in ascending order, reads back blown or not (R526, R527). -/
def fusePosition (f : Fuses) (d : Dev) (ok : Bool) : Fuses × Dev :=
  match d.trust.fuse with
  | none => (f, d)
  | some t =>
    if !ok then (f, fuseEnd (truErr d 0x0513) 3 0x0513 0)
    else if f.rollback < t then
      let v := f.rollback + 1
      let d := d.rs fTRU_STATUS_ROLLBACK v
      ({ f with rollback := v }, if t ≤ v then fuseEnd d 2 0 v else d)
    else (f, fuseEnd d 2 0 f.rollback)

/-- FUSE_POSITION_DONE (R527). -/
def execFusePositionDone (ok : Bool) (s : State) : Host.Outcome State Fault Refusal :=
  onFuses s (fun f d => fusePosition f d ok)

/-! ## Licences (R543, R551) -/

/-- The store entries as they stand. -/
def licStore (d : Dev) : List (List Byte) := (List.range 8).map (fun k => flRead d (flLICENCE k) licBytes)

/-- The entry that a licence goes to: a free one, or the one of lowest SERIAL when its own is higher (R543). -/
def licEntry (d : Dev) (serial : Nat) : Option Nat :=
  let st := licStore d
  match (List.range 8).find? (fun k => !licenceHeld (st.getD k [])) with
  | some k => some k
  | none =>
    let ser (k : Nat) : Nat := recV (st.getD k []) 8 4
    let low := (List.range 8).foldl (fun b k => if ser k < ser b then k else b) 0
    if ser low < serial then some low else none

/-- A verified licence goes into the store: the status and entry (R543). -/
def licInstall (d : Dev) (b : List Byte) : Dev × Nat × Nat :=
  let st := licStore d
  match (List.range 8).find? (fun k => licenceHeld (st.getD k []) && recV (st.getD k []) 8 4 = recV b 8 4) with
  | some k => if st.getD k [] = b then (d, 0, k) else (truErr d 0x0506, 0x0506, 0)
  | none => match licEntry d (recV b 8 4) with
    | some k => (flWrite d (flLICENCE k) b, 0, k)
    | none => (truErr d 0x0506, 0x0506, 0)

/-- LICENCE_INSTALL (R543, R551). -/
def licenceInstall (f : Fuses) (d : Dev) (m : Mail) : Dev :=
  let a := m.v 0 8
  let n := m.v 8 8
  if m.body.length ≠ 16 then mailReply (truErr d 0x0504) 0x0504 []
  else if n = 0 then mailReply d 0 (zeros 8)
  else if !inGddr a n then mailReply (truErr d 0x0510) 0x0510 []
  else
    let b := memRead d.gddr a (min n licBytes)
    let t := licenceCheck f d b
    if t ≠ 0 then mailReply (truErr d t) t []
    else
      let r := licInstall d b
      if r.2.1 ≠ 0 then mailReply r.1 r.2.1 []
      else mailReply r.1 0 (leBytes 4 (recV b 8 4) ++ leBytes 1 r.2.2 ++ zeros 3)

/-- LICENCE_INSTALL (R543). -/
def execLicenceInstall (s : State) : Host.Outcome State Fault Refusal :=
  onDevFused s (fun f d => onMail d 0x0110 (licenceInstall f))

/-- One line of LICENCE_LIST. -/
def licLine (f : Fuses) (d : Dev) (b : List Byte) : List Byte :=
  if !licenceHeld b then zeros 16
  else
    let ok := decide (licenceCheck f d b = 0)
    let inForce := ok && decide (d.rg fTRU_LIC_SERIAL = recV b 8 4)
    (b.drop 8).take 4 ++ (b.drop 44).take 6 ++ leBytes 1 (if ok then 1 else 0) ++ leBytes 1 (if inForce then 1 else 0) ++
      zeros 4

/-- LICENCE_LIST (R551). -/
def execLicenceList (s : State) : Host.Outcome State Fault Refusal :=
  onDevFused s (fun f d => onMail d 0x0111 (fun d _ => mailReply d 0 ((licStore d).flatMap (licLine f d))))

/-! ## Identity and attestation (R534 to R540) -/

/-- IDENTITY_TREE_BUILD: Ervoec has built the key's trees and compares the root with PUBKEY (R535). -/
def identityBuild (f : Fuses) (d : Dev) : Dev :=
  if d.rg fBRW_STATUS_LAST_DONE < 12 ∨ d.rg fTRU_STATUS_IDENT_READY = 1 then d
  else if d.trust.resvOk && decide ((Config.identityRoot f.seed).take 32 = (d.trust.pubkey.drop 4).take 32) then
    d.rs fTRU_STATUS_IDENT_READY 1
  else truErr d 0x0507

/-- IDENTITY_TREE_BUILD (R535). -/
def execIdentityTreeBuild (s : State) : Host.Outcome State Fault Refusal := onDevFused s identityBuild

/-- Writes an object to companion memory with WR_FULL; the reply waits for every line's acknowledgement (R359, R540). -/
def hostObject (d : Dev) (a : Nat) (bytes reply : List Byte) : Dev :=
  let ls := hostLines a bytes.length
  let d := ls.foldl (fun d l =>
    let p := linePart l a bytes
    cohSend (evictLine d l) 8 l (splice (zeros 64) p.1 p.2) 0) d
  { d with cpl := { d.cpl with ackWait := some (ls, reply) } }

/-- IDENTITY_GET (R551). -/
def identityGet (d : Dev) (m : Mail) : Dev :=
  if !m.shape 16 12 4 then mailReply (truErr d 0x0504) 0x0504 []
  else if !inHost (m.v 0 8) licBytes || m.v 8 4 < licBytes then mailReply (truErr d 0x0510) 0x0510 []
  else if d.cpl.ackWait.isSome then d
  else hostObject d (m.v 0 8) (flRead d flCERT licBytes) (leBytes 4 licBytes ++ zeros 4 ++ padTo 32 d.trust.ident)

/-- IDENTITY_GET (R551). -/
def execIdentityGet (s : State) : Host.Outcome State Fault Refusal := onDev s (fun d => onMail d 0x0100 identityGet)

/-- The head of a CBOR item: its major type and value, in the shortest form (R539). -/
def cborHead (major n : Nat) : List Byte :=
  if n < 24 then beBytes 1 (major * 32 + n)
  else if n < 2 ^ 8 then beBytes 1 (major * 32 + 24) ++ beBytes 1 n
  else if n < 2 ^ 16 then beBytes 1 (major * 32 + 25) ++ beBytes 2 n
  else if n < 2 ^ 32 then beBytes 1 (major * 32 + 26) ++ beBytes 4 n
  else beBytes 1 (major * 32 + 27) ++ beBytes 8 n

/-- A CBOR unsigned integer. -/
def cborUint (n : Nat) : List Byte := cborHead 0 n

/-- A CBOR byte string. -/
def cborBytes (b : List Byte) : List Byte := cborHead 2 b.length ++ b

/-- A CBOR map of keys in ascending order. -/
def cborMap (es : List (Nat × List Byte)) : List Byte := cborHead 5 es.length ++ es.flatMap (fun e => cborUint e.1 ++ e.2)

/-- The digest of measurement `i` (R533). -/
def measBytes (d : Dev) (i : Nat) : List Byte := (List.range 4).flatMap (fun k => leBytes 8 (d.rg (fTRU_MEAS_BYTES.at2 i k)))

/-- Keys 0 to 8 of the evidence (R539). -/
def evidence (f : Fuses) (d : Dev) (nonce : List Byte) (index : Nat) : List (Nat × List Byte) :=
  [(0, cborUint 1), (1, cborBytes (padTo 32 d.trust.ident)), (2, cborBytes nonce),
    (3, cborHead 4 4 ++ (List.range 4).flatMap (fun i => cborBytes (measBytes d i))), (4, cborUint (d.rg fSHD_FW_VERSION)),
    (5, cborUint (d.rg fTRU_LIC_SERIAL)), (6, cborUint f.rollback)] ++
  (match d.trust.stamp with
    | some t => [(7, cborHead 4 2 ++ cborUint t.1 ++ cborUint t.2)]
    | none => []) ++ [(8, cborUint index)]

/-- The signature over a message at an index: the index in its first five bytes (R523, R540). -/
def identitySign (f : Fuses) (index : Nat) (m : List Byte) : List Byte :=
  beBytes 5 index ++ padTo 9888 ((Config.identitySignature f.seed index m).take 9888)

/-- ATTEST: the address, nonce and limit are checked, an index is reserved and consumed, and the evidence is written; `ok`
is whether a reservation that it needs is written (R536 to R540, R551). -/
def attest (f : Fuses) (d : Dev) (m : Mail) (ok : Bool) : Dev :=
  let n := m.v 12 1
  let nonce := (m.body.drop 16).take n
  let index := d.rg fTRU_XMSS_NEXT_INDEX
  let es := evidence f d nonce index
  let signed := cborMap es
  let whole (sig : List Byte) : List Byte := cborMap (es ++ [(9, cborBytes sig)])
  let size := (whole (zeros 9893)).length
  if m.body.length ≠ 16 + n || !recZero m.body 13 3 || n < 8 || 64 < n then mailReply (truErr d 0x0504) 0x0504 []
  else if !inHost (m.v 0 8) (min size (m.v 8 4)) then mailReply (truErr d 0x0510) 0x0510 []
  else if d.rg fTRU_STATUS_IDENT_READY = 0 then mailReply (truErr d 0x0507) 0x0507 []
  else if 2 ^ 40 ≤ index + 1 then mailReply (truErr d 0x0508) 0x0508 []
  else if m.v 8 4 < size then mailReply (truErr d 0x0510) 0x0510 []
  else if d.cpl.ackWait.isSome then d
  else
    let fresh := decide (d.rg fTRU_XMSS_RESV_END ≤ index)
    let fin := min (2 ^ 40 - 1) ((index / 1024 + 1) * 1024)
    if fresh && !ok then mailReply (truErr d 0x0509) 0x0509 []
    else
      let d := critRead (critRead d 5) 2
      let d := if fresh then (critWrite (pairWrite d flRESERVE magicR fin) 2).rs fTRU_XMSS_RESV_END fin else d
      let d := d.rs fTRU_XMSS_NEXT_INDEX (index + 1)
      hostObject d (m.v 0 8) (whole (identitySign f index signed)) (leBytes 4 size ++ zeros 4 ++ leBytes 8 index)

/-- ATTEST (R539). -/
def execAttest (ok : Bool) (s : State) : Host.Outcome State Fault Refusal :=
  onDevFused s (fun f d => onMail d 0x0101 (fun d m => attest f d m ok))

end Sys2Proof.Machine
end

