-- ==== Sys2Proof/Machine/BringUp.lean ====
section
/-! DEFINITION. Straps, the bring-up window and its steps, recovery mode (chapter 13). Step 10 stands with live sparing. -/

namespace Sys2Proof.Machine

/-- A code of the bring-up window. -/
def brwErr (d : Dev) (code : Nat) : Dev := recordErr d 0 0 code

/-- A warning or informational code of the running step: recorded, and shown when the step completes (R408). -/
def brwWarn (d : Dev) (code : Nat) : Dev := { brwErr d code with boot := { d.boot with warn := code } }

/-- The running step will end with a code; 0 for completion. -/
def brwOutcome (d : Dev) (code : Nat) : Dev := { d with boot := { d.boot with outcome := some code } }

/-- A reload of the bring-up watchdog (R409). -/
def wdogReload (d : Dev) : Dev := d.rs fBRW_WDOG_REMAIN_MS (d.rg fBRW_WDOG_SECONDS * 1000)

/-! ## Failed starts (R414) -/

/-- A failed start that the shed counts: once in a start, in flash and in the AON copy; `ok` is whether flash was written. -/
def countFailed (d : Dev) (ok : Bool) : Dev :=
  if d.boot.failCounted then d
  else
    let d := critRead (aonFail d) 4
    if ok then critWrite { d with flash := { d.flash with failStart := satAdd 255 d.flash.failStart 1 } } 4
    else brwErr d 0x0117

/-- The running step fails (R408, R414). -/
def brwFail (d : Dev) (code : Nat) (ok : Bool) : Dev :=
  let d := if code / 256 = 1 then brwErr d code else d
  countFailed ((d.rs fBRW_STATUS_STATE 3).rs fBRW_STATUS_CODE code) ok

/-! ## Straps (R402, R416) -/

/-- STRAPS_SAMPLED: the pins are sampled, the failed-start counter is read, and recovery is chosen or not (R402, R414,
R416, R526). `ok` is whether the flash record can be brought up to the AON copy. -/
def strapsSampled (f : Fuses) (d : Dev) (bootSrc clkMode west east : Nat) (ok : Bool) : Dev :=
  if d.rg fBRW_STATUS_STATE ≠ 0 then d
  else
    let d := critRead d 4
    let aon := d.rg fBRW_FAILSTART_AON_COPY
    let n := max d.flash.failStart aon
    let d := if aon ≤ d.flash.failStart then d
      else if ok then critWrite { d with flash := { d.flash with failStart := aon } } 4 else brwErr d 0x0117
    let d := ((d.rs fBRW_STRAPS_BOOT_SRC bootSrc).rs fBRW_STRAPS_CLK_MODE clkMode).rs fBRW_STRAPS_HALF_ID_WEST west
    let d := (d.rs fBRW_STRAPS_FAILSTART_RECOVERY (if 3 ≤ n then 1 else 0)).rs fBRW_FAILSTART_COUNT n
    let d := d.rs fTRU_STATUS_ROLLBACK f.rollback
    let b := d.boot
    let d := { d with boot := { d.boot with halfEast := east % 2, wdogFired := false, shedFired := false } }
    let d := if b.wdogFired then brwErr d 0x0104 else d
    let d := if b.shedFired then shdErr d 0 0x0406 else d
    if 2 ≤ bootSrc % 4 ∨ 3 ≤ n then
      let d := if bootSrc % 4 = 3 then brwErr d 0x0114 else d
      let d := (brwErr d 0x0115).rs fBRW_STATUS_CODE 0x0115
      ((d.rs fBRW_STATUS_STATE 4).rs fAON_DSTATE_STATE 4).rs fSHD_FW_STATE 4
    else wdogReload (d.rs fBRW_STATUS_STATE 2)

/-- STRAPS_SAMPLED (R402). -/
def execStrapsSampled (bootSrc clkMode west east : Nat) (ok : Bool) (s : State) : Host.Outcome State Fault Refusal :=
  onDevFused s (fun f d => strapsSampled f d bootSrc clkMode west east ok)

/-! ## Driving the steps (R408) -/

/-- A write of 1 to BRW_GO (R408). -/
def brwGo (d : Dev) : Dev :=
  let st := d.rg fBRW_STATUS_STATE
  let last := d.rg fBRW_STATUS_LAST_DONE
  let step := d.rg fBRW_STEP_STEP
  if st = 4 then brwErr d 0x0111
  else if st = 1 then brwErr d 0x0102
  else if st = 2 ∧ last < 12 ∧ step = last + 1 then
    let d := ((d.rs fBRW_STATUS_STATE 1).rs fBRW_STATUS_STEP step).rs fBRW_STATUS_CODE 0
    let d := { d with boot := { d.boot with acted := false, outcome := none, warn := 0 } }
    raiseEdge (wdogReload d) 1
  else brwErr d 0x0101

/-- Whether step `k` runs and has not done its actions. -/
def stepPending (d : Dev) (k : Nat) : Bool :=
  d.rg fBRW_STATUS_STATE = 1 && d.rg fBRW_STATUS_STEP = k && !d.boot.acted

/-- Step `k`: started by the two writes of R408 unless it runs already, and then its actions. -/
def bringStep (d : Dev) (k : Nat) (act : Dev → Dev) : Dev :=
  let d := if stepPending d k then d else brwGo (d.rs fBRW_STEP_STEP k)
  if stepPending d k then act { d with boot := { d.boot with acted := true } } else d

/-! ## Steps 1 to 4 -/

/-- A digest into TRU_MEAS (R533). -/
def setMeas (d : Dev) (m : Nat) (bytes : List Byte) : Dev :=
  let h := shake256 32 bytes
  (List.range 4).foldl (fun d i => d.rs (fTRU_MEAS_BYTES.at2 m i) (recV h (8 * i) 8)) d

/-- The fields of a configuration record that has passed (R404, R406). -/
def configApply (d : Dev) (b : List Byte) : Dev :=
  let d := d.rs fSOP_DEV_DEV_ID (recV b 16 2)
  let d := (List.range 24).foldl (fun d c => d.rs (fGDC_CFG_SPEED.at c) (recV b 18 1 % 4)) d
  let d := d.rs fBRW_WDOG_SECONDS (recV b 19 1)
  let d := (List.range 18).foldl (fun d o =>
    (d.rs (fLNE_ROLE_ROLE.at o) (recV b (20 + o) 1 % 4)).rs (fLNE_ROLE_PORT.at o) (recV b (20 + o) 1 / 16)) d
  let d := { d with trust := { d.trust with cfgRollback := recV b 12 4 } }
  setMeas (setMeas (critWrite d 5) 2 (b.take 22565)) 0 ((List.range 262144).map Config.romByte)

/-- The actions of the CONFIG step: the key record is hashed, then the record is verified and loaded; `sfdp` is whether
flash answers with its table (R404 to R406, R410, R524). -/
def configStep (f : Fuses) (d : Dev) (sfdp : Bool) : Dev :=
  let q := pushed d
  let d := q.1
  if q.2.2 ≠ 0 then brwOutcome d q.2.2
  else if !sfdp then brwOutcome d 0x0105
  else if (shake256 64 (aelmoKey d)).take 32 ≠ f.keyHash then brwOutcome (truErr d 0x0502) 0x0107
  else
    let d := d.rs fTRU_STATUS_KEY_VALID 1
    let b := q.2.1.getD (flRead d flCONFIG 22565)
    let c := configCheck f d b
    let d := if c.2 = 0 then d else truErr d c.2
    if c.1 ≠ 0 then brwOutcome d c.1 else brwOutcome (configApply d b) 0

/-- STEP_CONFIG (R406). -/
def execStepConfig (sfdp : Bool) (s : State) : Host.Outcome State Fault Refusal :=
  onDevFused s (fun f d => bringStep d 1 (fun d => configStep f d sfdp))

/-- The device certificate and the reservation record are read (R530, R535, R536). -/
def identityLoad (f : Fuses) (d : Dev) : Dev :=
  let b := flRead d flCERT licBytes
  let t := certCheck f d b
  let d := if t ≠ 0 then truErr d t
    else
      let pk := (b.drop 24).take 68
      { d.rs fTRU_STATUS_CERT_VALID 1 with trust := { d.trust with pubkey := pk, ident := shake256 32 pk } }
  let r := pairRead d flRESERVE magicR
  match r.2 with
  | some n => { (r.1.rs fTRU_XMSS_NEXT_INDEX n).rs fTRU_XMSS_RESV_END n with trust := { r.1.trust with resvOk := true } }
  | none => { r.1 with trust := { r.1.trust with resvOk := false } }

/-- A licence comes into force (R412, R542). -/
def licenceForce (d : Dev) (b : List Byte) : Dev :=
  let l := licenceOf b
  let bit (x : Bool) : Nat := if x then 1 else 0
  let d := { d with licence := some l }
  let d := ((d.rs fTRU_LIC_SERIAL l.serial).rs fTRU_LIC_PLOTS_EAST l.east).rs fTRU_LIC_PLOTS_WEST l.west
  let d := ((d.rs fTRU_LIC_PORTS l.ports).rs fTRU_LIC_OK4 (bit l.ok4)).rs fTRU_LIC_OQ4 (bit l.oq4)
  setMeas (critWrite d 3) 3 (b.take licBytes)

/-- The actions of the LICENCE step (R412, R542). -/
def licenceStep (f : Fuses) (d : Dev) : Dev :=
  let q := pushed d
  if q.2.2 ≠ 0 then brwOutcome q.1 q.2.2
  else
    let d := identityLoad f (critRead q.1 3)
    let recs := match q.2.1 with
      | some b => piecesOf licBytes ((b.length + licBytes - 1) / licBytes) b
      | none => (licStore d).filter licenceHeld
    let r := recs.foldl (fun (a : Dev × Option (List Byte)) b =>
      let t := licenceCheck f a.1 b
      if t ≠ 0 then (brwWarn (truErr a.1 t) 0x0109, a.2)
      else match a.2 with
        | some x => (a.1, some (if recV x 8 4 < recV b 8 4 then b else x))
        | none => (a.1, some b)) (d, none)
    match r.2 with
    | some b => brwOutcome (licenceForce r.1 b) 0
    | none => brwOutcome r.1 0x0108

/-- STEP_LICENCE (R412). -/
def execStepLicence (s : State) : Host.Outcome State Fault Refusal :=
  onDevFused s (fun f d => bringStep d 2 (licenceStep f))

/-- The actions of the HALVES step: the identities are compared, and the bridge is trained; `ports` has a bit for each row
port that locks (R413). -/
def halvesStep (f : Fuses) (d : Dev) (ports : Nat) : Dev :=
  let east := d.boot.halfEast
  let d := d.rs fBRW_STRAPS_HALF_ID_EAST east
  let g (l : List Nat) (i : Nat) : Nat := l.getD i 0
  if g f.dieId 1 ≠ g f.partner 0 ∨ g f.dieId 0 ≠ g f.partner 1 ∨ g f.assembled 0 ≠ d.rg fBRW_STRAPS_HALF_ID_WEST ∨
      g f.assembled 1 ≠ east ∨ g f.assembled 0 = g f.assembled 1 then brwOutcome d 0x010A
  else
    let d := d.rs fFAB_BRIDGE_STATUS_PORT_UP (ports % 2 ^ 17)
    brwOutcome d (if ports % 2 ^ 17 = 2 ^ 17 - 1 then 0 else 0x010C)

/-- STEP_HALVES (R413). -/
def execStepHalves (ports : Nat) (s : State) : Host.Outcome State Fault Refusal :=
  onDevFused s (fun f d => bringStep d 3 (fun d => halvesStep f d ports))

/-- HALVES_PARTNER_TIMEOUT: a die has received no message within 50 ms (R413). -/
def execHalvesPartnerTimeout (s : State) : Host.Outcome State Fault Refusal :=
  onDev s (fun d => bringStep d 3 (fun d => brwOutcome d 0x010B))

/-- STEP_CLOCKS: `lock` is whether every PLL locks (R411). -/
def execStepClocks (lock : Bool) (s : State) : Host.Outcome State Fault Refusal :=
  onDev s (fun d => bringStep d 4 (fun d =>
    brwOutcome d (if d.rg fBRW_STRAPS_CLK_MODE = 3 then 0x010D else if lock then 0 else 0x010E)))

/-! ## Steps 5 to 8 -/

/-- STEP_LANES (R324, R411). -/
def execStepLanes (s : State) : Host.Outcome State Fault Refusal := onDev s (fun d => bringStep d 5 lanesBegin)

/-- A plot fails a test of this start (R415). -/
def plotFails (d : Dev) (p test : Nat) : Dev :=
  if d.boot.failed.any (fun e => e.1 = p) then d
  else { d with boot := { d.boot with failed := d.boot.failed ++ [(p, test)] } }

/-- A bed row is remapped into the next spare of its bank; a bank without one fails its plot (R208, R415). -/
def bedRepair (d : Dev) (r : Repair) : Dev :=
  let f := (fBED_CH_SPARES_USED.at r.chan).bit r.bank
  let used := (d.plot r.unit).rg f
  if 8 ≤ used then plotFails d r.unit 1
  else d.modPlot r.unit (fun pl =>
    let c := pl.chan r.chan
    (pl.setChan r.chan { c with remaps := c.remaps ++ [(r.bank, r.row, used)] }).rs f (used + 1))

/-- The actions of the BEDS step: repairs are loaded, rows that fail their test are remapped, and every column is zero;
`rows` are the rows that fail: plot, channel, bank, row (R176, R415). -/
def bedsStep (d : Dev) (rows : List (Nat × Nat × Nat × Nat)) : Dev :=
  let d := (d.flash.repairs.filter (fun r => r.kind = 3)).foldl bedRepair d
  let fresh : List Repair := rows.map (fun r => ⟨3, r.1, r.2.1 % 4, r.2.2.1 % 8, r.2.2.2 % 1024⟩)
  let d := fresh.foldl bedRepair d
  let d := { d with bed := [], boot := { d.boot with fresh := d.boot.fresh ++ fresh } }
  { d with plots := d.plots.map (fun e => (e.1, { e.2 with bedErr := [] })) }

/-- STEP_BEDS (R415). -/
def execStepBeds (rows : List (Nat × Nat × Nat × Nat)) (s : State) : Host.Outcome State Fault Refusal :=
  onDev s (fun d => bringStep d 6 (fun d => brwOutcome (bedsStep d (rows.filter (fun r => isPlot r.1))) 0))

/-- The physical rows that the repair map marks faulty in a plot's array. -/
def arrayRows (d : Dev) (p : Nat) : List Nat :=
  let rows := (d.flash.repairs.filter (fun r => r.kind = 2 && r.unit = p)).map (·.row)
  ((List.range 130).filter (fun r => rows.contains r))

/-- PLOT_ARR_REPAIR is loaded from the repair map; a third row leaves the array unrepairable (R104, R105). -/
def arrayLoad (d : Dev) (p : Nat) : Dev :=
  let rows := arrayRows d p
  if 2 < rows.length then plotFails d p 2
  else d.modPlot p (fun pl =>
    (((pl.rs fPLOT_ARR_REPAIR_SPARE0_EN (min 1 rows.length)).rs fPLOT_ARR_REPAIR_SPARE0_ROW (rows.getD 0 0)).rs
      fPLOT_ARR_REPAIR_SPARE1_EN (rows.length - 1)).rs fPLOT_ARR_REPAIR_SPARE1_ROW (rows.getD 1 0))

/-- The logical numbering of one half: numbers from `base` to good plots in raster order up to the licensed count, and the
spare plots that remain (R26). -/
def numberHalf (good : List Nat) (base count : Nat) : List (Nat × Nat) × List Nat :=
  ((List.range count).zip good |>.map (fun e => (base + e.1, e.2)), good.drop count)

/-- The actions of the PLOTS step; `fails` are the plots that fail their self-test, with the test (R26 to R28, R415). -/
def plotsStep (d : Dev) (fails : List (Nat × Nat)) : Dev :=
  let units := ((d.flash.repairs.filter (fun r => r.kind = 2)).map (·.unit)).dedup
  let d := units.foldl arrayLoad d
  let d := fails.foldl (fun d e => plotFails d e.1 e.2) d
  let d := (List.range (min 64 d.boot.failed.length)).foldl (fun d i =>
    let e := d.boot.failed.getD i (0, 0)
    ((d.rs (fBRW_PLOTFAIL_VALID.at i) 1).rs (fBRW_PLOTFAIL_TEST.at i) e.2).rs (fBRW_PLOTFAIL_PLOT.at i) e.1) d
  let bad := (d.flash.repairs.filter (fun r => r.kind = 1)).map (·.unit) ++ d.boot.failed.map (·.1)
  let good (h : Nat) : List Nat := allPlots.filter (fun p => plotHalf p = h && !bad.contains p)
  let west := (d.licence.map (·.west)).getD 0
  let east := (d.licence.map (·.east)).getD 0
  let w := numberHalf (good 0) 0 west
  let e := numberHalf (good 1) 512 east
  let d := plotCounts (critWrite { d with numbering := w.1 ++ e.1, spares := w.2 ++ e.2, sed := { d.sed with qualified := w.2 ++ e.2 } } 1)
  if d.numbering.length < west + east then brwWarn d 0x010F else d

/-- STEP_PLOTS (R26, R415). -/
def execStepPlots (fails : List (Nat × Nat)) (s : State) : Host.Outcome State Fault Refusal :=
  onDev s (fun d => bringStep d 7 (fun d => brwOutcome (plotsStep d (fails.filter (fun e => isPlot e.1))) 0))

/-- Post-package repair of the rows that the repair map gives a controller: up to 16 are loaded, and each has a result
(R291). -/
def pprRun (d : Dev) (c : Nat) (results : List (Nat × Nat × Nat)) : Dev :=
  let rows := (d.flash.repairs.filter (fun r => r.kind = 4 && r.unit = c)).take 16
  ((List.range rows.length).zip rows).foldl (fun d e =>
    let i := e.1
    let res := ((results.find? (fun x => x.1 = c && x.2.1 = i)).map (fun x => x.2.2)).getD 1
    let d := ((d.rs (fGDC_PPR_LIST_VALID.at2 c i) 1).rs (fGDC_PPR_LIST_DCH.at2 c i) e.2.chan).rs
      (fGDC_PPR_LIST_BANK.at2 c i) e.2.bank
    let d := (d.rs (fGDC_PPR_LIST_ROW.at2 c i) e.2.row).rs (fGDC_PPR_LIST_RESULT.at2 c i) res
    if res = 2 then gdcErr d c fGDC_ERR_PPR_FAIL 0x0908
    else if res = 3 then gdcErr d c fGDC_ERR_PPR_EXHAUSTED 0x0907 else d) d

/-- The granules of a suspect row (R292). -/
def rowGranules (c bank row : Nat) : List Nat :=
  (List.range 2).map (fun h => gddrUnmap c ((row * 16 + bank) * 2 + h) / 4096)

/-- The actions of the GDDR step: `down` are the controllers that do not train, `results` those of post-package repair:
controller, entry, 1 REPAIRED, 2 FAILED, 3 NO_RESOURCE (R291, R296). -/
def gddrStep (d : Dev) (down : List Nat) (results : List (Nat × Nat × Nat)) : Dev :=
  let d := { d with gddr := [] }
  let d := (List.range 24).foldl (fun d c =>
    if down.contains c then recordErr (d.rs (fGDC_STATUS_STATE.at c) 5) 8 c 0x090A
    else pprRun (d.rs (fGDC_STATUS_STATE.at c) 2) c results) d
  let rows := d.flash.repairs.filter (fun r => r.kind = 4)
  let d := { d with retired := (rows.flatMap (fun r => rowGranules r.unit r.bank r.row)).dedup }
  brwOutcome d (if (List.range 24).any (down.contains ·) then 0x090A else 0)

/-- STEP_GDDR (R291, R296). -/
def execStepGddr (down : List Nat) (results : List (Nat × Nat × Nat)) (s : State) : Host.Outcome State Fault Refusal :=
  onDev s (fun d => bringStep d 8 (fun d => gddrStep d down results))

/-! ## Steps 9, 11 and 12 -/

/-- A verified image runs: it is loaded into region 0 and measured (R531 to R533). -/
def imageRun (d : Dev) (b : List Byte) (slot pushedIn : Nat) : Dev :=
  let img := imageWhole b
  let d := imageLoad d 0 img
  let d := { d with trust := { d.trust with region := 0, image := img.take 128 } }
  let d := (setMeas d 1 img).rs fSHD_FW_VERSION (recV img 8 4)
  (d.rs fTRU_STATUS_SLOT_BOOTED slot).rs fTRU_STATUS_PUSHED pushedIn

/-- The actions of the SHED step: the pushed image, or the active slot and then the other (R531). -/
def shedStep (f : Fuses) (d : Dev) : Dev :=
  let q := pushed d
  if q.2.2 ≠ 0 then brwOutcome q.1 q.2.2
  else
    let sel := pairRead q.1 flSELECT magicS
    let slot := min 1 (sel.2.getD 0)
    let d := sel.1.rs fTRU_STATUS_SLOT_ACTIVE slot
    match q.2.1 with
    | some b =>
      let t := imageCheck f d b
      if t ≠ 0 then brwOutcome (truErr d t) 0x0112 else brwOutcome (imageRun d b 0 1) 0
    | none =>
      let a := flRead d (flSLOT slot) 524288
      let ta := imageCheck f d a
      if ta = 0 then brwOutcome (imageRun d a slot 0) 0
      else
        let d := truErr d ta
        let b := flRead d (flSLOT (1 - slot)) 524288
        let tb := imageCheck f d b
        if tb = 0 then
          let d := truErr (imageRun d b (1 - slot) 0) 0x0515
          brwOutcome { d with boot := { d.boot with warn := 0x0515 } } 0
        else brwOutcome (truErr d tb) 0x0112

/-- STEP_SHED (R531). -/
def execStepShed (s : State) : Host.Outcome State Fault Refusal := onDevFused s (fun f d => bringStep d 9 (shedStep f))

/-- Core 0 enters Ervoec and cores 1 to 7 are released; Ervoec writes the failed plots and new repairs of this start into the
repair map, and rows that were repaired leave it and come back into service; a trip before this start is recorded, and the lifetime
record is read (R291, R411, R415, R460, R482, R507). -/
def ervoecEnters (d : Dev) : Dev :=
  let d := (List.range 7).foldl (fun d i => d.rs (fSHD_CORE_CTRL_RUN.at (i + 1)) 1) (lifeLoad (d.rs fSHD_FW_STATE 2))
  let d := if d.boot.tripped then
      let plot := d.rg fTHM_TRIP_LOG_PLOT
      let value := d.rg fTHM_TRIP_LOG_VALUE
      let d := thmErr { d with boot := { d.boot with tripped := false } } 0x0304 plot (some value)
      journalAdd d 5 0 0x0304 (leBytes 8 (d.rg fTHM_TRIP_LOG_TRIPS * 2 ^ 48 + plot * 2 ^ 36 +
        d.rg fTHM_TRIP_LOG_KIND * 2 ^ 35 + value * 2 ^ 16))
    else d
  let d := d.boot.failed.foldl (fun d e => repairAdd d ⟨1, e.1, 0, 0, 0⟩) d
  let d := d.boot.fresh.foldl repairAdd d
  let fixed (r : Repair) : Bool := r.kind = 4 && (List.range 16).any (fun i =>
    d.rg (fGDC_PPR_LIST_RESULT.at2 r.unit i) = 1 && d.rg (fGDC_PPR_LIST_DCH.at2 r.unit i) = r.chan &&
      d.rg (fGDC_PPR_LIST_BANK.at2 r.unit i) = r.bank && d.rg (fGDC_PPR_LIST_ROW.at2 r.unit i) = r.row)
  let done := d.flash.repairs.filter fixed
  if done.isEmpty then d
  else
    let left := d.flash.repairs.filter (fun r => r.kind = 4 && !fixed r)
    { d with
      flash := { d.flash with
        repairs := d.flash.repairs.map (fun r => if fixed r then { r with kind := 5 } else r),
        repairSeq := d.flash.repairSeq + 1 },
      retired := (left.flatMap (fun r => rowGranules r.unit r.bank r.row)).dedup }

/-- STEP_HANDSHAKE (R365, R411). -/
def execStepHandshake (s : State) : Host.Outcome State Fault Refusal :=
  onDev s (fun d => bringStep d 11 (fun d => d.rs fCPL_MBX_STATUS_IN_READY 1))

/-- STEP_RUN: heartbeat timing begins (R366, R411). -/
def execStepRun (s : State) : Host.Outcome State Fault Refusal :=
  onDev s (fun d => bringStep d 12 (fun d =>
    brwOutcome { d with cpl := { d.cpl with hbOn := true, missed := 0 } } 0))

/-- Step 12 is complete: the failed-start counter is cleared, the device enters D1, and Ervoec sends CAPACITY and writes the
start record (R411, R414, R419, R438, R566). -/
def runDone (d : Dev) : Dev :=
  let d := critWrite { d.rs fBRW_FAILSTART_AON_COPY 0 with flash := { d.flash with failStart := 0 } } 4
  let d := journalAdd d 4 0 0 (leBytes 8 (d.rg fAON_RESET_CAUSE_CODE * 2 ^ 48 + (List.range 8).foldl (fun a i =>
      a + d.rg { fAON_RESET_CAUSE_POR with lo := i, reset := if i = 0 then 1 else 0 } * 2 ^ i) 0) ++
    leBytes 8 (d.rg fBRW_FAILSTART_COUNT) ++ (List.range 4).flatMap (measBytes d))
  capacityMail (d.rs fAON_DSTATE_STATE 2)

/-- The running step is complete (R408). -/
def brwDone (d : Dev) : Dev :=
  let k := d.rg fBRW_STATUS_STEP
  let d := ((d.rs fBRW_STATUS_STATE 2).rs fBRW_STATUS_LAST_DONE k).rs fBRW_STATUS_CODE d.boot.warn
  let d := wdogReload d
  if k = 9 then ervoecEnters d else if k = 12 then runDone d else d

/-- The outcome of the running step, once it has one. -/
def stepOutcome (d : Dev) : Option Nat :=
  if !d.boot.acted then none
  else if d.rg fBRW_STATUS_STEP = 5 then lanesOutcome d
  else if d.rg fBRW_STATUS_STEP = 11 then none
  else d.boot.outcome

/-- BRW_STEP_COMPLETE: the running step ends, `ac` cycles after its GO; `ok` is whether a failed start is written to flash
(R408, R421). -/
def stepComplete (d : Dev) (ac : Nat) (ok : Bool) : Dev :=
  if d.rg fBRW_STATUS_STATE ≠ 1 ∨ (d.rg fBRW_STATUS_STEP = 10 ∧ d.sowRound.isSome) then d
  else match stepOutcome d with
    | none => d
    | some c =>
      let d := d.rs fBRW_ELAPSED_AC ac
      if c = 0 then brwDone d else brwFail d c ok

/-- BRW_STEP_COMPLETE (R408). -/
def execBrwStepComplete (ac : Nat) (ok : Bool) (s : State) : Host.Outcome State Fault Refusal :=
  onDev s (fun d => stepComplete d ac ok)

/-- The timeouts of the steps in ms; step 11 has none (R411). -/
def stepTimeouts : List Nat := [0, 500, 200, 100, 20, 500, 200, 200, 500, 2000, 100, 0, 10]

/-- BRW_STEP_TIMEOUT (R408). -/
def execBrwStepTimeout (ok : Bool) (s : State) : Host.Outcome State Fault Refusal :=
  onDev s (fun d =>
    let t := stepTimeouts.getD (d.rg fBRW_STATUS_STEP) 0
    if d.rg fBRW_STATUS_STATE = 1 ∧ t ≠ 0 then
      brwFail { d.rs fBRW_ELAPSED_AC (t * 25000) with sowRound := none } 0x0103 ok
    else d)

/-- BRW_WATCHDOG: it runs from the sampling of the straps to the completion of RUN, and neither in recovery mode nor in
FAILED (R408, R409, R427). -/
def execBrwWatchdog (s : State) : Host.Outcome State Fault Refusal :=
  onDev s (fun d =>
    let st := d.rg fBRW_STATUS_STATE
    if (st = 1 ∨ st = 2) ∧ d.rg fBRW_STATUS_LAST_DONE < 12 then
      resetBy { d with boot := { d.boot with wdogFired := true } } fAON_RESET_CAUSE_WDOG_BRW true
    else d)

/-- A write of BRW_WDOG.SECONDS (R421). -/
def brwWdogWrite (d : Dev) (data : Nat) : Dev :=
  if data % 256 = 0 then brwErr d 0x0106 else d.rs fBRW_WDOG_SECONDS (data % 256)

/-- BRW_WDOG_WRITE (R421). -/
def execBrwWdogWrite (data : Nat) (s : State) : Host.Outcome State Fault Refusal := onDev s (fun d => brwWdogWrite d data)

/-! ## Recovery mode (R416, R417) -/

/-- A recovery command is refused. -/
def recoveryRefused (d : Dev) (code : Nat) : Dev :=
  (brwErr d code |>.rs fBRW_RECOVERY_RESULT 3).rs fBRW_RECOVERY_CODE code

/-- A write of BRW_RECOVERY.CMD (R408, R417, R421). -/
def recoveryCmd (d : Dev) (cmd : Nat) : Dev :=
  if cmd = 0 then d
  else if d.rg fBRW_STATUS_STATE ≠ 4 then brwErr d 0x0101
  else if 3 < cmd then d
  else if d.rg fBRW_RECOVERY_RESULT = 1 then brwErr d 0x0102
  else
    let n := d.rg fBRW_PUSH_LEN_LENGTH
    if n = 0 then d.rs fBRW_RECOVERY_RESULT 2
    else if pushBytes < n then recoveryRefused d 0x0110
    else raiseEdge ({ d with boot := { d.boot with command := some cmd } }.rs fBRW_RECOVERY_RESULT 1) 1

/-- Whether Aelmo's key record matches KEY_HASH, as the CONFIG step checks it (R524). -/
def keyMatch (f : Fuses) (d : Dev) : Dev :=
  if (shake256 64 (aelmoKey d)).take 32 = f.keyHash then d.rs fTRU_STATUS_KEY_VALID 1 else truErr d 0x0502

/-- What a recovery command does with its object: verified as the step would, then written (R417, R531, R543, R546). Answers
whether it passed. -/
def recoveryWrite (f : Fuses) (d : Dev) (cmd : Nat) (b : List Byte) : Dev × Bool :=
  let d := keyMatch f d
  if cmd = 1 then
    let c := configCheck f d b
    if c.1 ≠ 0 then ((if c.2 = 0 then d else truErr d c.2), false) else (flWrite d flCONFIG (b.take 22565), true)
  else if cmd = 2 then
    let d := identityLoad f d
    let t := licenceCheck f d b
    if t ≠ 0 then (truErr d t, false)
    else
      let r := licInstall d (b.take licBytes)
      (r.1, r.2.1 = 0)
  else
    let t := imageCheck f d b
    if t ≠ 0 then (truErr d t, false)
    else
      let slot := inactiveSlot d
      ((pairWrite (flWrite d (flSLOT slot) (imageWhole b)) flSELECT magicS slot).rs fTRU_STATUS_SLOT_ACTIVE slot, true)

/-- A recovery command runs: as a write of CMD it is accepted or not, and RECOVERY_COMMAND_DONE ends it. -/
def recoveryRow (s : State) (cmd : Nat) : Host.Outcome State Fault Refusal := onDev s (fun d => recoveryCmd d cmd)

/-- WRITE_CONFIG (R417). -/
def execWriteConfig (s : State) : Host.Outcome State Fault Refusal := recoveryRow s 1

/-- WRITE_LICENCE (R417). -/
def execWriteLicence (s : State) : Host.Outcome State Fault Refusal := recoveryRow s 2

/-- WRITE_IMAGE (R417). -/
def execWriteImage (s : State) : Host.Outcome State Fault Refusal := recoveryRow s 3

/-- RECOVERY_COMMAND_DONE: a successful write clears the failed-start counter (R417). -/
def recoveryDone (f : Fuses) (d : Dev) : Dev :=
  match d.boot.command with
  | none => d
  | some cmd =>
    let d := { d with boot := { d.boot with command := none } }
    let q := sramRead d 0 pushBase (d.rg fBRW_PUSH_LEN_LENGTH)
    let r := recoveryWrite f q.1 cmd (q.2.getD [])
    if r.2 then
      { (r.1.rs fBRW_RECOVERY_RESULT 2).rs fBRW_FAILSTART_AON_COPY 0 with flash := { r.1.flash with failStart := 0 } }
    else recoveryRefused r.1 0x0116

/-- RECOVERY_COMMAND_DONE (R417). -/
def execRecoveryCommandDone (s : State) : Host.Outcome State Fault Refusal := onDevFused s recoveryDone

end Sys2Proof.Machine
end

