-- ==== Sys2Proof/Machine/RegWord.lean ====
section
/-! DEFINITION. A register as one 64-bit word (R12). -/

namespace Sys2Proof.Machine

/-- The instance of a field whose register lies at byte offset `off`, if there is one. -/
def Fld.inst (f : Fld) (off : Nat) : Option Fld :=
  if off < f.off then none
  else
    let r := off - f.off
    let i := if f.s1 = 0 then 0 else min (f.n1 - 1) (r / f.s1)
    let r := r - i * f.s1
    let j := if f.s2 = 0 then 0 else min (f.n2 - 1) (r / f.s2)
    if r = j * f.s2 then some (f.at2 i j) else none

/-- The fields of the register at `off`, one for each bit group. -/
def fieldsAt (fs : List Fld) (off : Nat) : List Fld :=
  (fs.filterMap (fun f => f.inst off)).flatMap (fun f => (List.range f.nb).map f.bit)

/-- The word that a read of a register's stored fields answers: a write-only field reads 0. -/
def rawWord (m : SMap Nat) (fs : List Fld) (off : Nat) : Nat :=
  (fieldsAt fs off).foldl (fun a f => a + (if f.acc = .wo then 0 else rget m f) * 2 ^ f.lo) 0

/-- A word of a plot's registers. -/
def plotWord (pl : Plot) (off : Nat) : Nat := rawWord pl.regs flds_plot off

/-- A word of the device's registers. -/
def devWord (d : Dev) (off : Nat) : Nat := rawWord d.regs fldsDevice off

end Sys2Proof.Machine
end

