-- ==== Sys2Proof/Machine/Defence.lean ====
section
/-! DEFINITION. Fault signatures and judgements of the silent-error defence (R479, R482, R483, R499, R500). -/

namespace Sys2Proof.Machine

/-- A code of the silent-error defence: KIND 12, INSTANCE a physical plot (R561). -/
def sedErr (d : Dev) (p code : Nat) : Dev := recordErr d 12 p code

/-- A code of the silent-error defence that concerns no plot. -/
def sedErrAny (d : Dev) (code : Nat) : Dev := recordErr d 12 0x7FF code

/-! ## Units (R479, R482) -/

/-- The tine that a plot's tine stop names. -/
def stopTine (pl : Plot) : Nat := pl.rg fBED_TINE_STOP_TID

/-- The unit that a stop code names: 0 array, 1 vector unit, 2 pipeline, 3 scratch and accumulators, 4 + TID; none when the
stop is no failed check (R117, R139, R201, R247). -/
def stopUnit (pl : Plot) : Option Nat :=
  let c := pl.rg fPLOT_SEQ_STOP_CODE
  if c = 0x0B01 then some 0
  else if c = 0x0B02 ∨ c = 0x0C08 then some 3
  else if c = 0x0B06 ∨ c = 0x0B07 then some 1
  else if c = 0x0D08 ∨ c = 0x0D09 then some (4 + stopTine pl)
  else if 0x0E08 ≤ c ∧ c ≤ 0x0E0B then some (if pl.rg fBED_TINE_STOP_CODE = c then 4 + stopTine pl else 2)
  else none

/-- The kind and sub-unit of a unit, as a signature names them. -/
def unitName (u : Nat) : Nat × Option Nat := if u < 4 then (u, none) else (4, some (u - 4))

/-- Transients of a unit within the last 2^24 of its instructions (R482). -/
def recentTransients (d : Dev) (p u : Nat) : Nat :=
  (d.sed.history.filter (fun h => h.1 = p && h.2.1 = u && decide (lifeCount d p u < h.2.2 + 2 ^ 24))).length

/-! ## Signatures (R499, R500) -/

/-- The registers that a signature captures. -/
def capture (pl : Plot) (kind : Nat) : List Byte :=
  let offs := if kind = 0 then [0x818, 0x820, 0x828] else if kind = 4 then [0x2418] else if kind = 2 then [0x2810] else [0x10]
  offs.flatMap (fun o => leBytes 8 (plotWord pl o))

/-- What a signature says of an event. -/
structure Sig where
  code : Nat
  kind : Nat
  plot : Option Nat
  logical : Option Nat
  sub : Option Nat
  verdict : Nat
  pc : Nat
  captured : List Byte
  action : Nat
  new : Option Nat
  earlier : Nat
deriving DecidableEq, Repr

/-- A CBOR map whose keys are small and ascending; an absent value has no key. -/
def cborSome (es : List (Nat × Option (List Byte))) : List Byte := cborMap (es.filterMap (fun e => e.2.map (fun v => (e.1, v))))

/-- A signature is sent to the companion and written to the logbook. The lifetime count of a unit that the table of counters
does not name is a free value. -/
def signature (d : Dev) (g : Sig) : Dev :=
  let r := match g.plot with
    | some p => if g.kind < 4 then (d, lifeCount d p g.kind) else if g.kind = 4 then (d, lifeCount d p (4 + g.sub.getD 0)) else d.free 48
    | none => d.free 48
  let d := r.1
  let step := match d.steps.run with
    | some x => x.no
    | none => d.steps.lastNo
  let unit := cborSome [(0, some (cborUint g.kind)), (1, g.plot.map cborUint), (2, g.logical.map cborUint), (3, g.sub.map cborUint)]
  let shown := g.verdict = 2 ∨ g.verdict = 3 ∨ g.verdict = 5 ∨ g.verdict = 8
  let b := cborSome [(0, some (cborUint 1)), (1, some (cborUint d.sed.sig)), (2, some (cborUint g.code)), (3, some unit),
    (4, some (cborUint step)), (5, some (cborUint g.verdict)), (6, some (cborUint g.pc)), (7, some (cborUint r.2)),
    (8, if shown then some (cborBytes g.captured) else none),
    (9, d.trust.stamp.map (fun t => cborHead 4 2 ++ cborUint t.1 ++ cborUint t.2)), (10, some (cborUint g.action)),
    (11, if g.action = 3 then g.new.map cborUint else none),
    (12, if g.earlier = 0 then none else some (cborUint g.earlier))]
  let d := { d with sed := { d.sed with sig := d.sed.sig + 1 } }
  journalAdd (mailUnsolicited d 0x0200 b) 1 step g.code b

/-- The signature of a failure or judgement of a unit of a plot. -/
def unitSignature (d : Dev) (p u code verdict action pc earlier : Nat) : Dev :=
  let n := unitName u
  signature d ⟨code, n.1, some p, d.logical p, n.2, verdict, pc, capture (d.plot p) n.1, action, none, earlier⟩

/-! ## Judgements (R483) -/

/-- Whether a plot's judgement waits, or its move runs. -/
def judgedAlready (d : Dev) (p : Nat) : Bool :=
  d.sed.judged.any (fun j => j.plot = p) || d.sed.moving.any (fun j => j.plot = p)

/-- A plot that carries a number is judged permanent: it waits to be spared (R483, R489). -/
def judge (d : Dev) (p verdict code kind : Nat) (sub : Option Nat) (pc : Nat) (prefer : Option Nat) : Dev :=
  if (d.logical p).isNone || judgedAlready d p then d
  else
    let j : Judged := ⟨p, verdict, code, kind, sub, pc, capture (d.plot p) kind, prefer, false, []⟩
    let d := d.count fSED_CNT_PERMANENTS 1
    { d with sed := { d.sed with
      judged := d.sed.judged ++ [j], watches := d.sed.watches.filter (fun w => w.plot ≠ p) } }

/-- A judgement of a unit: its code is recorded, and its signature carries the action taken so far. -/
def judgeUnit (d : Dev) (p u verdict code action pc earlier : Nat) (prefer : Option Nat) : Dev :=
  if (d.logical p).isNone || judgedAlready d p then d
  else
    let n := unitName u
    judge (unitSignature (sedErr d p code) p u code verdict action pc earlier) p verdict code n.1 n.2 pc prefer

end Sys2Proof.Machine
end

