-- ==== Sys2Proof/Machine/Power.lean ====
section
/-! DEFINITION. The power regulator, the module's regulators and the emergency bits (chapters 14 and 15). -/

namespace Sys2Proof.Machine

/-! ## Flow and the limits (R440, R462 to R464) -/

/-- The sum and the count of the samples of F that FLOW_1S is the mean of (R462). -/
def flowSum (d : Dev) : Nat × Nat := d.therm.flows.foldl (fun a r => (a.1 + r.1 * r.2, a.2 + r.2)) (0, 0)

/-- Whether FLOW_1S is below `pct` percent of FLOW_SET (R463). -/
def flowBelow (d : Dev) (pct : Nat) : Bool :=
  let f := flowSum d
  f.2 ≠ 0 && decide (f.1 * 100 < pct * d.rg fTHM_COOL_CFG_FLOW_SET * f.2)

/-- The coolant limit Lc in mW (R464). -/
def coolLimit (d : Dev) : Nat :=
  let sust := d.rg fTHM_PWR_CFG_SUST_W
  let f := flowSum d
  if d.therm.flowStop then 150 * sust
  else if d.therm.flowThr ∧ f.2 ≠ 0 then
    min (1000 * sust) (max (150 * sust) (2000 * sust * f.1 / (d.rg fTHM_COOL_CFG_FLOW_SET * f.2)))
  else 1000 * sust

/-- The sustained limit in force L in mW (R440). -/
def powerLimit (d : Dev) : Nat := min (1000 * d.rg fTHM_PWR_CFG_SUST_W) (min d.therm.limit (coolLimit d))

/-! ## Emergencies (R467) -/

/-- THM_EMERG follows its conditions; a handover that meets a new emergency aborts (R467, R548). -/
def emergUpdate (d : Dev) : Dev :=
  let was := d.rg fTHM_EMERG_ACTIVE
  let one (b : Bool) : Nat := if b then 1 else 0
  let d := (d.rs fTHM_EMERG_THR_LOGIC (d.rg fTHM_STATUS_THR_LOGIC)).rs fTHM_EMERG_THR_BED (d.rg fTHM_STATUS_THR_BED)
  let d := (d.rs fTHM_EMERG_STOP (d.rg fTHM_STATUS_STOP)).rs fTHM_EMERG_FLOW_THROTTLE (one d.therm.flowThr)
  let d := (d.rs fTHM_EMERG_FLOW_STOP (one d.therm.flowStop)).rs fTHM_EMERG_FAST_CUT (one d.therm.cutAge.isSome)
  let d := d.rs fTHM_EMERG_PMBUS_FAULT (one !d.therm.faults.isEmpty)
  let act := one ([fTHM_EMERG_THR_LOGIC, fTHM_EMERG_THR_BED, fTHM_EMERG_STOP, fTHM_EMERG_FLOW_THROTTLE,
    fTHM_EMERG_FLOW_STOP, fTHM_EMERG_FAST_CUT, fTHM_EMERG_PMBUS_FAULT].any (fun f => d.rg f = 1))
  let d := d.rs fTHM_EMERG_ACTIVE act
  if was = 0 ∧ act = 1 then handoverAbort d 0x050F else d

/-! ## The power regulator (R441 to R443) -/

/-- The excess E in nJ after a sample of `p` mW against a limit of `l` mW (R441). -/
def nextExcess (e p l : Nat) : Nat := min 3000000000 (e + p - l)

/-- D in 256ths after a sample of `p` mW against a target of `t` hundredths of a mW (R442). -/
def nextDuty (duty p t : Nat) : Nat :=
  if t < 100 * p then max 1 (duty - 8) else if 10000 * p < 98 * t then min 256 (duty + 1) else duty

/-- One sample of `p` mW: the fast path above 2,100 W follows the step of R442 (R440 to R443, log entry 38). -/
def powerSample (d : Dev) (p : Nat) : Dev :=
  let l := powerLimit d
  let t := d.therm
  let full := decide (l = 1000 * d.rg fTHM_PWR_CFG_SUST_W)
  let locked := decide (d.rg fTHM_PWR_STATUS_LOCKED = 1)
  let target := if locked then 95 * l else 100000 * d.rg fTHM_PWR_CFG_PEAK_W
  let e := nextExcess t.excess p l
  let y := if e = 0 then 0 else t.excursion + 1
  let lock := if locked then !(decide (e = 0) && full) else decide (e = 3000000000) || decide (10000 ≤ y) || !full
  let cut := decide (2100000 < p)
  let duty := nextDuty t.duty p target
  let duty := if cut then max 1 (duty / 2) else duty
  let age := if cut then some 0 else match t.cutAge with
    | some k => if k + 1 < 10000 then some (k + 1) else none
    | none => none
  let d := { d with therm := { t with excess := e, excursion := y, duty := duty, cutAge := age } }
  let d := if lock && !locked then d.count fTHM_PWR_CNT_LOCKS 1 else d
  let d := (d.rs fTHM_PWR_STATUS_LOCKED (if lock then 1 else 0)).rs fTHM_PWR_STATUS_E_MJ (e / 1000000)
  let d := (d.rs fTHM_PWR_STATUS_DUTY (duty - 1)).rs fTHM_PWR_STATUS_L_W (l / 1000)
  let d := d.rs fTHM_PWR_STATUS_P_W (min 4095 (p / 1000))
  let d := if cut then
      let d := raiseEdge (recordErr (d.count fTHM_PWR_CNT_FAST_CUTS 1) 1 0 0x020C) 3
      d.latch 13
    else d
  emergUpdate d

/-- POWER_SAMPLE of an input power of `mw` (R441). -/
def execPowerSample (mw : Nat) (s : State) : Host.Outcome State Fault Refusal := onDev s (fun d => powerSample d mw)

/-- A write of THM_PWR_CFG: out of range, it has no effect on either field (R447). -/
def pwrCfgWrite (d : Dev) (data : Nat) : Dev :=
  let sust := bitsOf data 0 12
  let peak := bitsOf data 16 12
  if 300 ≤ sust ∧ sust ≤ 1800 ∧ sust ≤ peak ∧ peak ≤ 2100 then
    (d.rs fTHM_PWR_CFG_SUST_W sust).rs fTHM_PWR_CFG_PEAK_W peak
  else recordErr d 1 0 0x020D

/-- THM_PWR_CFG_WRITE (R447). -/
def execThmPwrCfgWrite (data : Nat) (s : State) : Host.Outcome State Fault Refusal := onDev s (fun d => pwrCfgWrite d data)

/-! ## The module's regulators (R444, R445) -/

/-- Nominal voltages in mV: VDD_PLOT_W, VDD_PLOT_E, VDD_DRAM, VDD_GDDR, VDD_LANE, VDD_AON (R444). -/
def railNominal : List Nat := [750, 750, 1050, 1200, 900, 800]

/-- PMBUS_POLL: the regulators' fault bits as the poll reads them, bit i for rail i (R445). -/
def execPmbusPoll (faultBits : Nat) (s : State) : Host.Outcome State Fault Refusal :=
  onDev s (fun d =>
    let new := (List.range 6).filter (bitOf faultBits)
    if new.isEmpty then d
    else
      let old := d.therm.faults
      let d := { d with therm := { d.therm with faults := old ++ new.filter (fun r => !old.contains r) } }
      emergUpdate (new.foldl (fun d _ => recordErr d 1 0 0x020A) d))

/-- PMBUS_TIMEOUT of a regulator (R445). -/
def execPmbusTimeout (rail : Nat) (s : State) : Host.Outcome State Fault Refusal :=
  onDev s (fun d => if rail < 6 then recordErr d 1 0 0x020B else d)

/-- VOUT_COMMAND: a setpoint more than 3 % from nominal is refused, and so is one for VDD_AON, which is fixed (R444). -/
def execVoutCommand (rail mv : Nat) (s : State) : Host.Outcome State Fault Refusal :=
  onDev s (fun d =>
    if 6 ≤ rail then d
    else
      let nom := railNominal.getD rail 0
      if rail = 5 ∨ nom * 103 < mv * 100 ∨ mv * 100 < nom * 97 then recordErr d 1 0 0x020D
      else { d with therm := { d.therm with rails := d.therm.rails.set rail mv } })

/-- PMBUS_CLEAR_FAULTS of a regulator (R444, R467). -/
def execPmbusClearFaults (rail : Nat) (s : State) : Host.Outcome State Fault Refusal :=
  onDev s (fun d => emergUpdate { d with therm := { d.therm with faults := d.therm.faults.filter (· ≠ rail) } })

end Sys2Proof.Machine
end

