-- ==== Sys2Proof/Machine/Thermal.lean ====
section
/-! DEFINITION. Sensors, arbitration, thermal levels, coolant and the thermal counters (chapter 15). Temperatures are integers
in units of 0.125 °C (R451). -/

namespace Sys2Proof.Machine

/-! ## Arbitration (R449, R452 to R454) -/

/-- A plot's counters. -/
def Dev.sense (d : Dev) (p : Nat) : Sense := SMap.get Sense.reset d.therm.sense p

/-- A plot's counters replaced. -/
def Dev.setSense (d : Dev) (p : Nat) (x : Sense) : Dev :=
  { d with therm := { d.therm with sense := SMap.set Sense.reset d.therm.sense p x } }

/-- EXP_OFFSET of a plot. -/
def expOffset (d : Dev) (p : Nat) : Int := signedOf 12 (d.rg (fTHM_PLOT_ARB_EXP_OFFSET.at p))

/-- A reading that is valid (R449). -/
def validReading (r : Option Int) : Option Int := r.filter (fun t => decide (-160 ≤ t) && decide (t ≤ 1200))

/-- A count of consecutive events, from 0 to 8. -/
def runCount (n : Nat) (hit : Bool) : Nat := if hit then min 8 (n + 1) else 0

/-- The state of R453 after a sample, and the code that the change records (0 for none). `st` and `dis` are before and
after. -/
def arbNext (st dis : Nat) (x : Sense) (l b : Option Int) : Nat × Nat :=
  let both := decide (st = 0) || decide (st = 1) || decide (st = 4)
  if both ∧ x.badBoth = 8 then (5, 0x0309)
  else if both ∧ x.badLogic = 8 ∧ b.isSome then (2, 0x0308)
  else if both ∧ x.badBed = 8 ∧ l.isSome then (3, 0x0308)
  else if st = 0 ∧ dis = 8 then (1, 0x0305)
  else if st = 1 ∧ x.agree = 8 then (0, 0)
  else if (st = 2 ∧ x.badBed = 8) ∨ (st = 3 ∧ x.badLogic = 8) then (5, 0x0309)
  else (st, 0)

/-- The arbitrated values of a plot that is not LOST, where the readings give them (R454). -/
def arbValues (st : Nat) (l b : Option Int) (o : Int) : Option Int × Option Int :=
  let l' := l.or (b.map (· + o))
  let b' := b.or (l.map (· - o))
  if st = 0 then (l', b')
  else if st = 2 then (b.map (· + o), b)
  else if st = 3 then (l, l.map (· - o))
  else match l', b' with
    | some x, some y => (some (max x (y + o)), some (max y (x - o)))
    | _, _ => (none, none)

/-- What a sample makes of one plot: its arbitrated values in Int while the sample lasts, none while LOST. -/
structure Arb where
  plot : Nat
  lost : Bool
  logic : Int
  bed : Int
deriving DecidableEq, Repr

/-- A value that a sample leaves open: a free value (log entry 2). -/
def openTemp (d : Dev) (v : Option Int) : Dev × Int :=
  match v with
  | some t => (d, t)
  | none => let r := d.free 12; (r.1, signedOf 12 r.2)

/-- One plot's conversion: readings, counts, state and arbitrated values; the codes recorded come after. -/
def senseStep (d : Dev) (p : Nat) (l b : Option Int) : Dev × Arb × List (Nat × Nat × Option Nat) :=
  let put (d : Dev) (f : Fld) (v : Option Int) : Dev := match v with
    | some t => d.rs (f.at p) (codeOf 12 t)
    | none => d
  let d := put (put d fTHM_PLOT_SENSE_LOGIC l) fTHM_PLOT_SENSE_BED b
  let l := validReading l
  let b := validReading b
  let d := (d.rs (fTHM_PLOT_SENSE_LOGIC_INVALID.at p) (if l.isNone then 1 else 0)).rs (fTHM_PLOT_SENSE_BED_INVALID.at p)
    (if b.isNone then 1 else 0)
  let o := expOffset d p
  let x := d.sense p
  let dis := d.rg (fTHM_PLOT_SENSE_DIS_COUNT.at p)
  let j : Nat × Nat := match l, b with
    | some s, some t => if 48 < (s - t - o).natAbs then (runCount dis true, 0) else (0, runCount x.agree true)
    | _, _ => (dis, x.agree)
  let x := { x with
    agree := j.2, badLogic := runCount x.badLogic l.isNone, badBed := runCount x.badBed b.isNone,
    badBoth := runCount x.badBoth (l.isNone && b.isNone) }
  let d := d.rs (fTHM_PLOT_SENSE_DIS_COUNT.at p) j.1
  let n := arbNext (d.rg (fTHM_PLOT_SENSE_STATE.at p)) j.1 x l b
  let d := (d.rs (fTHM_PLOT_SENSE_STATE.at p) n.1).setSense p x
  let ev : List (Nat × Nat × Option Nat) := if n.2 = 0 then [] else [(n.2, p, none)]
  if n.1 = 5 then (d, ⟨p, true, 0, 0⟩, ev)
  else
    let v := arbValues n.1 l b o
    let r := openTemp d v.1
    let q := openTemp r.1 v.2
    (q.1, ⟨p, false, r.2, q.2⟩, ev)

/-- The grid neighbours of a plot: ROW ± 1 and COL ± 1 within its half (R454). -/
def isNeighbour (p q : Nat) : Bool :=
  let r := p / 32
  let c := p % 32
  plotHalf p = plotHalf q && ((q % 32 = c && (q / 32 + 1 = r || q / 32 = r + 1)) ||
    (q / 32 = r && (q % 32 + 1 = c || q % 32 = c + 1)))

/-- The greatest of a list. -/
def maxInt : List Int → Option Int
  | [] => none
  | t :: ts => some (ts.foldl max t)

/-- The arbitrated values of a LOST plot: the highest of its neighbours', else of its half's (R454). -/
def lostFill (d : Dev) (vs : List Arb) (a : Arb) : Dev × Arb :=
  if !a.lost then (d, a)
  else
    let near := vs.filter (fun v => !v.lost && isNeighbour a.plot v.plot)
    let from_ := if near.isEmpty then vs.filter (fun v => !v.lost && plotHalf v.plot = plotHalf a.plot) else near
    let r := openTemp d (maxInt (from_.map (·.logic)))
    let q := openTemp r.1 (maxInt (from_.map (·.bed)))
    (q.1, { a with logic := r.2, bed := q.2 })

/-- The refresh band after a sample (R203). -/
def nextBand (band : Nat) (t : Int) : Nat :=
  if 760 < t then 2 else if band = 2 ∧ 736 < t then 2
  else if 680 < t then 1 else if 1 ≤ band ∧ 656 < t then 1 else 0

/-- The arbitrated values in the registers, the band of the four channels, and whether the plot stood at a trip level now and at
the last sample (R203, R454, R460). -/
def arbShow (d : Dev) (a : Arb) : Dev × Bool :=
  let d := (d.rs (fTHM_PLOT_SENSE_LOGIC_ARB.at a.plot) (codeOf 12 a.logic)).rs (fTHM_PLOT_SENSE_BED_ARB.at a.plot)
    (codeOf 12 a.bed)
  let band := nextBand ((d.plot a.plot).rg fBED_CH_STATUS_BAND) a.bed
  let d := if (d.plot a.plot).rg fBED_CH_STATUS_BAND = band then d
    else d.modPlot a.plot (fun pl => (List.range 4).foldl (fun pl ch => pl.rs (fBED_CH_STATUS_BAND.at ch) band) pl)
  let x := d.sense a.plot
  let hl := decide (920 ≤ a.logic)
  let hb := decide (840 ≤ a.bed)
  (d.setSense a.plot { x with hotLogic := hl, hotBed := hb }, (x.hotLogic || x.hotBed) && (hl || hb))

/-! ## Hot spots, levels and limits (R455 to R458) -/

/-- The highest value and its plot, the lowest identifier among equals. -/
def hotSpot (f : Arb → Int) (vs : List Arb) : Int × Nat :=
  match vs with
  | [] => (0, 0)
  | v :: t => t.foldl (fun m a => if m.1 < f a then (f a, a.plot) else m) (f v, v.plot)

/-- One level after a sample: entered above it, left at or below it less its hysteresis (R455). -/
def levelNext (on : Bool) (t level hyst : Int) : Bool := if on then decide (level - hyst < t) else decide (level < t)

/-- A warning or throttle level of THM_STATUS follows the hot spot; its entry records `code`. -/
def levelStep (x : Dev × List (Nat × Nat × Option Nat)) (f : Fld) (hot : Int × Nat) (level : Int) (code : Nat) :
    Dev × List (Nat × Nat × Option Nat) :=
  let was := decide (x.1.rg f = 1)
  let now := levelNext was hot.1 level 24
  (x.1.rs f (if now then 1 else 0), if now && !was then x.2 ++ [(code, hot.2, some (codeOf 12 hot.1))] else x.2)

/-- Whether a forecast is in use (R457). -/
def forecastUsed (d : Dev) : Bool := decide (d.rg fTHM_CFG_FORECAST_EN = 1) && d.therm.fcValid

/-- The forecast hot spots. -/
def forecast (d : Dev) : Int × Int :=
  (signedOf 12 (d.rg fTHM_FORECAST_PRED_LOGIC), signedOf 12 (d.rg fTHM_FORECAST_PRED_BED))

/-- The thermal limit for an excess X in mW (R456). -/
def limitFor (sust x : Nat) : Nat := 1000 * sust * max 16 (80 - x) / 80

/-- X and Lt after a sample with hot spots `tl` and `tb` (R456). -/
def thermalLimit (d : Dev) (tl tb : Int) : Dev :=
  let t := if forecastUsed d then forecast d else (tl, tb)
  let x := (max 0 (max (t.1 - 800) (t.2 - 760))).toNat
  let sust := d.rg fTHM_PWR_CFG_SUST_W
  let lt := min (limitFor sust x) (d.therm.limit + sust)
  let d := { d with therm := { d.therm with limit := lt } }
  ((d.rs fTHM_LIMIT_X x).rs fTHM_LIMIT_LT_W (lt / 1000)).rs fTHM_LIMIT_LC_W (coolLimit d / 1000)

/-- STOP is set or clears (R458). -/
def stopStep (d : Dev) (tl tb : Int) : Dev × List (Nat × Nat × Option Nat) :=
  let fc := forecastUsed d && (decide (920 ≤ (forecast d).1) || decide (840 ≤ (forecast d).2))
  if d.rg fTHM_STATUS_STOP = 0 then
    if fc ∨ 880 ≤ tl ∨ 800 ≤ tb ∨ d.therm.flowStop then (d.rs fTHM_STATUS_STOP 1, [(0x0303, 0xFFFF, none)]) else (d, [])
  else if tl ≤ 840 ∧ tb ≤ 760 ∧ ¬ fc ∧ ¬ d.therm.flowStop then (d.rs fTHM_STATUS_STOP 0, [])
  else (d, [])

/-! ## Coolant (R461 to R466) -/

/-- An inlet or outlet conversion: its register, and 0x030D when it becomes invalid (R461). -/
def coolReading (d : Dev) (f bad : Fld) (r : Option Int) : Dev × List (Nat × Nat × Option Nat) × Option Int :=
  let d := match r with
    | some t => d.rs f (codeOf 12 t)
    | none => d
  match r.filter (fun t => decide (-80 ≤ t) && decide (t ≤ 800)) with
  | some t => (d.rs bad 0, [], some t)
  | none => (d.rs bad 1, if d.rg bad = 1 then [] else [(0x030D, 0xFFFF, none)], none)

/-- The warning of R461 over the inlet reading. -/
def inletStep (d : Dev) (t : Option Int) : Dev × List (Nat × Nat × Option Nat) :=
  match t with
  | none => (d, [])
  | some t =>
    if !d.therm.inletRange && (decide (360 < t) || decide (t < 160)) then
      ({ d with therm := { d.therm with inletRange := true } }, [(0x030E, 0xFFFF, some (codeOf 12 t))])
    else if 168 ≤ t ∧ t ≤ 352 then ({ d with therm := { d.therm with inletRange := false } }, [])
    else (d, [])

/-- The newest `n` samples of a run-length list, newest first. -/
def runsKeep {α : Type} (n : Nat) : List (α × Nat) → List (α × Nat)
  | [] => []
  | r :: t => if n = 0 then [] else if n ≤ r.2 then [(r.1, n)] else r :: runsKeep (n - r.2) t

/-- A sample enters a run-length list of the last 10,000. -/
def runsPush {α : Type} [DecidableEq α] (v : α) (rs : List (α × Nat)) : List (α × Nat) :=
  runsKeep 10000 (match rs with
    | r :: t => if r.1 = v then (v, r.2 + 1) :: t else (v, 1) :: r :: t
    | [] => [(v, 1)])

/-- `n / k` to the nearest integer. -/
def nearest (n k : Nat) : Nat := (2 * n + k) / (2 * k)

/-- The flow states after a sample (R462, R463): FLOW_1S and its levels. FLOW_STOP is entered by NO_PULSE and left after F
has stood at half the setpoint for 10,000 samples. -/
def flowStep (d : Dev) : Dev × List (Nat × Nat × Option Nat) :=
  let f := d.rg fTHM_COOL_STATUS_FLOW
  let t := { d.therm with flows := runsPush f d.therm.flows }
  let d := { d with therm := t }
  let s := flowSum d
  let mean := nearest s.1 s.2
  let d := d.rs fTHM_COOL_STATUS_FLOW_1S mean
  let low := if t.flowLow then flowBelow d 85 else flowBelow d 80
  let thr := if t.flowThr then flowBelow d 55 else flowBelow d 50
  let back := if d.rg fTHM_COOL_CFG_FLOW_SET ≤ 2 * f then t.flowBack + 1 else 0
  let stop := t.flowStop && decide (back < 10000)
  let d := { d with therm := { t with flowLow := low, flowThr := thr, flowBack := if stop then back else 0, flowStop := stop } }
  (d.rs fTHM_COOL_STATUS_FLOW_LOW (if low then 1 else 0),
    (if low && !t.flowLow then [(0x030A, 0xFFFF, some mean)] else []) ++
      (if thr && !t.flowThr then [(0x030B, 0xFFFF, some mean)] else []))

/-- Whether the coolant request stands at 100 % whatever the mode (R466). -/
def coolFull (d : Dev) : Bool :=
  d.rg fTHM_STATUS_THR_LOGIC = 1 || d.rg fTHM_STATUS_THR_BED = 1 || d.rg fTHM_STATUS_STOP = 1 || d.therm.flowLow ||
    d.therm.flowThr || d.therm.flowStop

/-- The coolant request in force (R466). -/
def coolDuty (d : Dev) : Dev :=
  d.rs fTHM_COOL_STATUS_DUTY (if coolFull d then 1000
    else if d.rg fTHM_COOL_CTRL_MODE = 1 then d.rg fTHM_COOL_CTRL_DUTY_FIXED else d.rg fTHM_COOL_STATUS_DUTY)

/-! ## Keep-warm and cycles (R469, R470) -/

/-- THM_WARM.REF follows the logic hot spot of the last second of D0 (R469). -/
def warmStep (d : Dev) (t : Int) : Dev :=
  if d.rg fAON_DSTATE_STATE ≠ 1 then d
  else
    let w := runsPush t d.therm.warm
    let s := w.foldl (fun (a : Int × Nat) r => (a.1 + r.1 * r.2, a.2 + r.2)) (0, 0)
    { d with therm := { d.therm with warm := w } }.rs fTHM_WARM_REF (codeOf 12 (s.1 / s.2))

/-- The amplitude of a finished half-swing, if the sample finishes one, and the counter after it (R470). -/
def swingNext (x : Swing) (t : Int) : Swing × Option Int :=
  if !x.begun then (⟨true, true, t, t⟩, none)
  else if x.up then
    if x.ext < t then ({ x with ext := t }, none)
    else if 160 ≤ x.ext - t then (⟨true, false, t, x.ext⟩, some (x.ext - x.start))
    else (x, none)
  else if t < x.ext then ({ x with ext := t }, none)
  else if 160 ≤ t - x.ext then (⟨true, true, t, x.ext⟩, some (x.start - x.ext))
  else (x, none)

/-- A half's half-swings are counted (R470). -/
def swingStep (d : Dev) (h : Nat) (t : Int) : Dev :=
  let r := swingNext (d.therm.swings.getD h ⟨false, true, 0, 0⟩) t
  let d := { d with therm := { d.therm with swings := d.therm.swings.set h r.1 } }
  let bin (w e : Fld) : Dev := d.count (if h = 0 then w else e) 1
  match r.2 with
  | none => d
  | some a =>
    if 360 ≤ a then bin fTHM_CYCLES_W_BIN45 fTHM_CYCLES_E_BIN45
    else if 240 ≤ a then bin fTHM_CYCLES_W_BIN30 fTHM_CYCLES_E_BIN30
    else if 160 ≤ a then bin fTHM_CYCLES_W_BIN20 fTHM_CYCLES_E_BIN20
    else d

/-! ## The sample (R449) -/

/-- The codes of one sample, in ascending order (R560). -/
def codeInsert (e : Nat × Nat × Option Nat) : List (Nat × Nat × Option Nat) → List (Nat × Nat × Option Nat)
  | [] => [e]
  | x :: t => if e.1 < x.1 then e :: x :: t else x :: codeInsert e t

/-- The trip: rails cut, THM_TRIP_LOG written, the core held until it is released (R429, R460). -/
def thermalTrip (d : Dev) (a : Arb) : Dev :=
  let logic := decide (920 ≤ a.logic)
  let d := if d.rst.held then d.rs fAON_RESET_CAUSE_THERM_TRIP 1 else resetBy d fAON_RESET_CAUSE_THERM_TRIP true
  let d := (d.count fTHM_TRIP_LOG_TRIPS 1).rs fTHM_TRIP_LOG_PLOT a.plot
  let d := (d.rs fTHM_TRIP_LOG_KIND (if logic then 0 else 1)).rs fTHM_TRIP_LOG_VALUE
    (codeOf 12 (if logic then a.logic else a.bed))
  { d with rst := { d.rst with trip := true }, boot := { d.boot with tripped := true } }

/-- The readings of a sample: those of the plots that `odd` lists, and of every other plot. -/
def readingOf (rest : Option Int × Option Int) (odd : List (Nat × Option Int × Option Int)) (p : Nat) :
    Option Int × Option Int :=
  ((odd.find? (fun e => e.1 = p)).map (·.2)).getD rest

/-- Every sensor converts (R449 to R470). -/
def sensorSample (d : Dev) (rest : Option Int × Option Int) (odd : List (Nat × Option Int × Option Int))
    (inlet outlet : Option Int) : Dev :=
  let s := allPlots.foldl (fun (s : Dev × List Arb × List (Nat × Nat × Option Nat)) p =>
    let r := readingOf rest odd p
    let q := senseStep s.1 p r.1 r.2
    (q.1, s.2.1 ++ [q.2.1], s.2.2 ++ q.2.2)) (d, [], [])
  let f := s.2.1.foldl (fun (x : Dev × List Arb) a =>
    let q := lostFill x.1 s.2.1 a
    (q.1, x.2 ++ [q.2])) (s.1, [])
  let vs := f.2
  let t := vs.foldl (fun (x : Dev × Option Arb) a =>
    let q := arbShow x.1 a
    (q.1, if q.2 && x.2.isNone then some a else x.2)) (f.1, none)
  let hl := hotSpot (·.logic) vs
  let hb := hotSpot (·.bed) vs
  let d := (t.1.rs fTHM_STATUS_HOT_LOGIC (codeOf 12 hl.1)).rs fTHM_STATUS_HOT_BED (codeOf 12 hb.1)
  let d := (d.rs fTHM_STATUS_PLOT_LOGIC hl.2).rs fTHM_STATUS_PLOT_BED hb.2
  let d := (List.range 2).foldl (fun d h => swingStep d h (hotSpot (·.logic) (vs.filter (fun a => plotHalf a.plot = h))).1) d
  let d := warmStep d hl.1
  let x := levelStep (levelStep (levelStep (levelStep (d, s.2.2) fTHM_STATUS_WARN_LOGIC hl 760 0x0301)
    fTHM_STATUS_WARN_BED hb 720 0x0301) fTHM_STATUS_THR_LOGIC hl 800 0x0302) fTHM_STATUS_THR_BED hb 760 0x0302
  let x := (if x.1.rg fTHM_STATUS_THR_LOGIC = 1 ∨ x.1.rg fTHM_STATUS_THR_BED = 1 then x.1.latch 2 else x.1, x.2)
  let i := coolReading x.1 fTHM_COOL_STATUS_INLET fTHM_COOL_STATUS_INLET_BAD inlet
  let o := coolReading i.1 fTHM_COOL_STATUS_OUTLET fTHM_COOL_STATUS_OUTLET_BAD outlet
  let n := inletStep o.1 i.2.2
  let w := flowStep n.1
  let p := stopStep w.1 hl.1 hb.1
  let d := coolDuty (thermalLimit p.1 hl.1 hb.1)
  let d := d.rs fTHM_STATUS_FC_IN_USE (if forecastUsed d then 1 else 0)
  let codes := (x.2 ++ i.2.1 ++ o.2.1 ++ n.2 ++ w.2 ++ p.2).foldl (fun l e => codeInsert e l) []
  let d := codes.foldl (fun d e =>
    let d := thmErr d e.1 e.2.1 e.2.2
    if e.1 = 0x0309 ∧ d.rg fSHD_FW_STATE = 2 then judge d e.2.1 10 0x0309 6 none 0 none else d) d
  let d := emergUpdate d
  match t.2 with
  | some a => if d.rst.trip then d else thermalTrip d a
  | none => d

/-- SENSOR_SAMPLE: the readings in 0.125 °C, none where a conversion does not complete; `odd` gives the plots whose
readings differ from those of all others (R449). -/
def execSensorSample (rest : Option Int × Option Int) (odd : List (Nat × Option Int × Option Int)) (inlet outlet : Option Int)
    (s : State) : Host.Outcome State Fault Refusal :=
  onAon s (fun d => sensorSample d rest odd inlet outlet)

/-! ## Ervoec's decisions (R452 to R454) -/

/-- The agreeing samples count afresh. -/
def agreeClear (d : Dev) (p : Nat) : Dev := d.setSense p { d.sense p with agree := 0 }

/-- A write of MASK (R453). -/
def maskWrite (d : Dev) (p mask : Nat) : Dev :=
  let st := d.rg (fTHM_PLOT_SENSE_STATE.at p)
  let badL := decide (d.rg (fTHM_PLOT_SENSE_LOGIC_INVALID.at p) = 1)
  let badB := decide (d.rg (fTHM_PLOT_SENSE_BED_INVALID.at p) = 1)
  let d := agreeClear d p
  if mask = 3 then thmErr d 0x0311 p none
  else if st = 5 ∨ (mask ≠ 2 ∧ badB) ∨ (mask ≠ 1 ∧ badL) then thmErr d 0x0312 p none
  else
    let d := d.rs (fTHM_PLOT_ARB_MASK.at p) mask
    let go (d : Dev) (n : Nat) : Dev := (d.rs (fTHM_PLOT_SENSE_STATE.at p) n).rs (fTHM_PLOT_SENSE_DIS_COUNT.at p) 0
    if mask ≠ 0 then thmErr (go d (mask + 1)) 0x0306 p none
    else if st = 2 ∨ st = 3 then go d 0
    else d

/-- A write of UNDECIDED (R453). -/
def undecidedWrite (d : Dev) (p v : Nat) : Dev :=
  let st := d.rg (fTHM_PLOT_SENSE_STATE.at p)
  let d := (agreeClear d p).rs (fTHM_PLOT_ARB_UNDECIDED.at p) v
  if v = 1 ∧ st = 1 then thmErr (d.rs (fTHM_PLOT_SENSE_STATE.at p) 4) 0x0307 p none
  else if v = 0 ∧ st = 4 then
    (d.rs (fTHM_PLOT_SENSE_STATE.at p) 1).rs (fTHM_PLOT_SENSE_DIS_COUNT.at p) 0
  else d

/-- A write of THM_PLOT_ARB: MASK and UNDECIDED act when they change, or when MASK differs from the masking in force (R453,
log entry 39). -/
def arbWrite (d : Dev) (p data : Nat) : Dev :=
  let d := d.rs (fTHM_PLOT_ARB_EXP_OFFSET.at p) (bitsOf data 0 12)
  let m := bitsOf data 16 2
  let st := d.rg (fTHM_PLOT_SENSE_STATE.at p)
  let inForce := if st = 2 then 1 else if st = 3 then 2 else d.rg (fTHM_PLOT_ARB_MASK.at p)
  let d := if m ≠ d.rg (fTHM_PLOT_ARB_MASK.at p) ∨ m ≠ inForce then maskWrite d p m else d
  if bitsOf data 12 1 ≠ d.rg (fTHM_PLOT_ARB_UNDECIDED.at p) then undecidedWrite d p (bitsOf data 12 1) else d

/-- SENSOR_MASK_WRITE (R453). -/
def execSensorMaskWrite (p mask : Nat) (s : State) : Host.Outcome State Fault Refusal :=
  onDev s (fun d => if isPlot p then maskWrite d p (mask % 4) else d)

/-- UNDECIDED_WRITE (R453). -/
def execUndecidedWrite (p v : Nat) (s : State) : Host.Outcome State Fault Refusal :=
  onDev s (fun d => if isPlot p then undecidedWrite d p (v % 2) else d)

/-- A temperature in °C as a binary32 value. -/
def tempVal (t : Int) : FVal := .fin (decide (t < 0)) t.natAbs (-3)

/-- The difference of two binary32 values. -/
def sub32 (a b : FVal) : FVal := (add32 a b.neg).1

/-- Values in ascending order. -/
def insertVal (v : FVal) : List FVal → List FVal
  | [] => [v]
  | x :: t => if ltExact v x then v :: x :: t else x :: insertVal v t

/-- The median: of an even count, the mean of its two middle values (R454). -/
def median (vs : List FVal) : FVal :=
  let o := vs.foldl (fun l v => insertVal v l) []
  let n := o.length
  if n % 2 = 1 then o.getD (n / 2) fZero
  else (mul32 (add32 (o.getD (n / 2 - 1) fZero) (o.getD (n / 2) fZero)).1 (.fin false 1 (-1))).1

/-- The verdict of R454 on a plot, with the model's values in binary32 by plot: 0 none, 1 logic, 2 bed. -/
def resolve (d : Dev) (p : Nat) (model : Nat → Nat × Nat) : Nat :=
  let res (q : Nat) : FVal × FVal :=
    (sub32 (tempVal (signedOf 12 (d.rg (fTHM_PLOT_SENSE_LOGIC.at q)))) (val32 (model q).1),
      sub32 (tempVal (signedOf 12 (d.rg (fTHM_PLOT_SENSE_BED.at q)))) (val32 (model q).2))
  let nb := allPlots.filter (fun q => isNeighbour p q && d.rg (fTHM_PLOT_SENSE_STATE.at q) = 0)
  let c := if 2 ≤ nb.length then (median (nb.map (fun q => (res q).1)), median (nb.map (fun q => (res q).2)))
    else (fZero, fZero)
  let dl := (sub32 (res p).1 c.1).abs
  let db := (sub32 (res p).2 c.2).abs
  let three := fInt 3
  let ge (a b : FVal) : Bool := !a.isNaN && !b.isNaN && !ltExact a b
  if ge dl (add32 db three).1 then 1 else if ge db (add32 dl three).1 then 2 else 0

/-- SENSOR_RESOLVE of a plot in DISAGREE or UNDECIDED; `model` lists the thermal model's logic and bed values by plot, in
binary32 (R454). -/
def execSensorResolve (p : Nat) (model : List (Nat × Nat × Nat)) (s : State) : Host.Outcome State Fault Refusal :=
  onDev s (fun d =>
    let st := d.rg (fTHM_PLOT_SENSE_STATE.at p)
    if isPlot p ∧ (st = 1 ∨ st = 4) ∧ d.rg fSHD_FW_STATE = 2 then
      let v := resolve d p (fun q => ((model.find? (fun e => e.1 = q)).map (·.2)).getD (0, 0))
      if v = 0 then undecidedWrite d p 1 else maskWrite d p v
    else d)

/-! ## The forecast (R457) -/

/-- A write of THM_FORECAST. -/
def forecastWrite (d : Dev) (data : Nat) : Dev :=
  let d := (d.rs fTHM_FORECAST_PRED_LOGIC (bitsOf data 52 12)).rs fTHM_FORECAST_PRED_BED (bitsOf data 40 12)
  let d := { d with therm := { d.therm with fcValid := true } }
  d.rs fTHM_STATUS_FC_IN_USE (d.rg fTHM_CFG_FORECAST_EN)

/-- THM_FORECAST_WRITE (R457). -/
def execThmForecastWrite (data : Nat) (s : State) : Host.Outcome State Fault Refusal := onDev s (fun d => forecastWrite d data)

/-- FORECAST_EXPIRY: 5 ms without a write (R457). -/
def execForecastExpiry (s : State) : Host.Outcome State Fault Refusal :=
  onDev s (fun d =>
    if !d.therm.fcValid then d
    else
      let used := forecastUsed d
      let d := { d with therm := { d.therm with fcValid := false } }.rs fTHM_STATUS_FC_IN_USE 0
      if used then thmErr d 0x030F 0xFFFF none else d)

/-! ## Flow pulses and the coolant registers (R462, R466, R473) -/

/-- FLOW_PULSE_EDGE, `ac` cycles after the pulse before it: F spans the last eight intervals (R462). -/
def execFlowPulseEdge (ac : Nat) (s : State) : Host.Outcome State Fault Refusal :=
  onAon s (fun d =>
    let is := (ac :: d.therm.intervals).take 8
    let k := d.rg fTHM_COOL_CFG_PULSES_PER_L * is.sum
    let f := if is.length < 8 ∨ k = 0 then 0 else min 4095 (nearest 1200000000000 k)
    ({ d with therm := { d.therm with intervals := is } }.rs fTHM_COOL_STATUS_FLOW f).rs fTHM_COOL_STATUS_NO_PULSE 0)

/-- NO_PULSE_TIMEOUT: F is 0 and FLOW_STOP is entered: Lc, the full request, and at the next sample STOP (R462, R465). -/
def execNoPulseTimeout (s : State) : Host.Outcome State Fault Refusal :=
  onAon s (fun d =>
    let was := d.therm.flowStop
    let d := { d with therm := { d.therm with flowStop := true, flowBack := 0 } }
    let d := (d.rs fTHM_COOL_STATUS_FLOW 0).rs fTHM_COOL_STATUS_NO_PULSE 1
    let d := coolDuty (d.rs fTHM_LIMIT_LC_W (coolLimit d / 1000))
    let d := if was then d else thmErr d 0x030C 0xFFFF (some 0)
    emergUpdate d)

/-- The TRACK duty after an update (R466). -/
def trackDuty (d : Dev) : Nat :=
  let f := flowSum d
  let set : Int := d.rg fTHM_COOL_CFG_FLOW_SET * f.2
  let step : Int := if set = 0 then 0 else (2 * (250 * (set - f.1)) + set) / (2 * set)
  (max (d.rg fTHM_COOL_CFG_DUTY_MIN : Int) (min 1000 (d.rg fTHM_COOL_STATUS_DUTY + step))).toNat

/-- COOL_REQ_TRACK_UPDATE (R466). -/
def execCoolReqTrackUpdate (s : State) : Host.Outcome State Fault Refusal :=
  onAon s (fun d =>
    if d.rg fTHM_COOL_CTRL_MODE = 0 ∧ ¬ coolFull d then d.rs fTHM_COOL_STATUS_DUTY (trackDuty d) else d)

/-- A write of THM_COOL_CFG (0), THM_COOL_CTRL (1) or THM_WARM (2): a value out of range has no effect on any field
(R473). -/
def coolCfgWrite (d : Dev) (reg data : Nat) : Dev :=
  let bad := thmErr d 0x0311 0xFFFF none
  if reg = 0 then
    let ppl := bitsOf data 32 16
    let set := bitsOf data 16 12
    if ppl < 3000 ∨ set < 120 ∨ 1000 < set ∨ 1000 < bitsOf data 0 10 then bad
    else ((d.rs fTHM_COOL_CFG_PULSES_PER_L ppl).rs fTHM_COOL_CFG_FLOW_SET set).rs fTHM_COOL_CFG_DUTY_MIN (bitsOf data 0 10)
  else if reg = 1 then
    if 1000 < bitsOf data 0 10 then bad
    else coolDuty ((d.rs fTHM_COOL_CTRL_MODE (bitsOf data 12 1)).rs fTHM_COOL_CTRL_DUTY_FIXED (bitsOf data 0 10))
  else if 900 < bitsOf data 0 10 then bad
  else (d.rs fTHM_WARM_WARM_EN (bitsOf data 63 1)).rs fTHM_WARM_FLOOR_W (bitsOf data 0 10)

/-- THM_COOL_CFG_WRITE (R473). -/
def execThmCoolCfgWrite (reg data : Nat) (s : State) : Host.Outcome State Fault Refusal :=
  onDev s (fun d => if reg < 3 then coolCfgWrite d reg data else d)

/-! ## Monitors (R562) -/

/-- VDD_PLOT_DROOP of a cluster, down to `mv` (R562). -/
def execVddPlotDroop (cluster mv : Nat) (s : State) : Host.Outcome State Fault Refusal :=
  onDev s (fun d =>
    if cluster < 80 ∧ mv + d.rg (fTHM_MON_THRESH_MV.at cluster) < 750 then
      (d.count (fTHM_MON_DROOPS.at cluster) 1).rs (fTHM_MON_MIN_MV.at cluster) (min mv (d.rg (fTHM_MON_MIN_MV.at cluster)))
    else d)

/-- A write of a droop monitor: ones clear DROOPS bits, ones over all of MIN_MV reset it, THRESH_MV of 0 has no effect (R562). -/
def monWrite (d : Dev) (cluster data : Nat) : Dev :=
  let n := d.rg (fTHM_MON_DROOPS.at cluster)
  let d := d.rs (fTHM_MON_DROOPS.at cluster) (n ^^^ (n &&& bitsOf data 48 16))
  let d := if bitsOf data 24 12 = 0xFFF then d.rs (fTHM_MON_MIN_MV.at cluster) 0xFFF else d
  if bitsOf data 0 6 = 0 then thmErr d 0x0311 0xFFFF none else d.rs (fTHM_MON_THRESH_MV.at cluster) (bitsOf data 0 6)

/-- THM_MON_WRITE (R562). -/
def execThmMonWrite (cluster data : Nat) (s : State) : Host.Outcome State Fault Refusal :=
  onDev s (fun d => if cluster < 80 then monWrite d cluster data else d)

/-- MONITOR_WINDOW: the edges that each cluster's oscillator gave in the window, cluster 0 first (R562). -/
def execMonitorWindow (counts : List Nat) (s : State) : Host.Outcome State Fault Refusal :=
  onDev s (fun d => (List.range 80).foldl (fun d i =>
    match counts[i]? with
    | some n => d.rs (fTHM_MON_RO_COUNT.at i) n
    | none => d) d)

/-! ## THERMAL_QUERY (R471) -/

/-- The value of a register from a list of its fields. -/
def regWord (d : Dev) (fs : List Fld) : Nat := fs.foldl (fun a f => a + d.rg f * 2 ^ f.lo) 0

/-- The 64 bytes of the reply. -/
def thermalBody (d : Dev) : List Byte :=
  leBytes 8 (regWord d [fTHM_STATUS_HOT_LOGIC, fTHM_STATUS_HOT_BED, fTHM_STATUS_PLOT_LOGIC, fTHM_STATUS_PLOT_BED,
    fTHM_STATUS_STOP, fTHM_STATUS_THR_BED, fTHM_STATUS_WARN_BED, fTHM_STATUS_THR_LOGIC, fTHM_STATUS_WARN_LOGIC,
    fTHM_STATUS_FC_IN_USE]) ++
  leBytes 8 (regWord d [fTHM_EMERG_ACTIVE, fTHM_EMERG_PMBUS_FAULT, fTHM_EMERG_FAST_CUT, fTHM_EMERG_FLOW_STOP,
    fTHM_EMERG_FLOW_THROTTLE, fTHM_EMERG_STOP, fTHM_EMERG_THR_BED, fTHM_EMERG_THR_LOGIC]) ++
  leBytes 8 (regWord d [fTHM_LIMIT_LC_W, fTHM_LIMIT_LT_W, fTHM_LIMIT_X]) ++
  leBytes 8 (regWord d [fTHM_COOL_STATUS_INLET, fTHM_COOL_STATUS_OUTLET, fTHM_COOL_STATUS_FLOW, fTHM_COOL_STATUS_FLOW_1S,
    fTHM_COOL_STATUS_DUTY, fTHM_COOL_STATUS_FLOW_LOW, fTHM_COOL_STATUS_INLET_BAD, fTHM_COOL_STATUS_OUTLET_BAD,
    fTHM_COOL_STATUS_NO_PULSE]) ++
  leBytes 8 (regWord d [fTHM_CYCLES_W_BIN45, fTHM_CYCLES_W_BIN30, fTHM_CYCLES_W_BIN20]) ++
  leBytes 8 (regWord d [fTHM_CYCLES_E_BIN45, fTHM_CYCLES_E_BIN30, fTHM_CYCLES_E_BIN20]) ++
  leBytes 8 (regWord d [fTHM_TRIP_LOG_TRIPS, fTHM_TRIP_LOG_PLOT, fTHM_TRIP_LOG_KIND, fTHM_TRIP_LOG_VALUE]) ++ zeros 8

/-- THERMAL_QUERY (R471). -/
def execThermalQuery (s : State) : Host.Outcome State Fault Refusal :=
  onDev s (fun d => onMail d 0x0400 (fun d _ => mailReply d 0 (thermalBody d)))

end Sys2Proof.Machine
end

