-- ==== Sys2Proof/Machine/Observe.lean ====
section
/-! DEFINITION. Counter banks, the central reader, the sticky error record's consumer, the debug connector and JTAG (chapter 19). -/

namespace Sys2Proof.Machine

/-! ## Counter banks (R555 to R557) -/

/-- Whether KIND and INSTANCE name a bank other than a plot's (R554). -/
def isBank (kind inst : Nat) : Bool := deviceBanks.contains (kind, inst)

/-- The events that a bank of KIND supports (R557). -/
def eventKnown (kind ev : Nat) : Bool :=
  let link : List Nat := [1, 2, 4]
  [0x000, 0x100, 0x101, 0x200, 0x201, 0x300, 0x301].contains ev ||
    (kind = 0 && [0x010, 0x011, 0x110, 0x111, 0x310, 0x311].contains ev) ||
    ((kind = 3 || kind = 5) && ev = 0x112) ||
    ((link.contains kind || kind = 3) && ev = 0x020) ||
    (link.contains kind && [0x113, 0x114, 0x210].contains ev) ||
    (kind = 6 && [0x012, 0x013].contains ev) || (kind = 7 && ev = 0x014)

/-- A write of PMC_CFG[k]: the new registers, none when it names an unsupported event or CHAIN on counter 0. With MATCH only
the event's class counts (R556, R557). -/
def pmcCfg (m : SMap Nat) (base kind k data : Nat) : Option (SMap Nat) :=
  let ev := bitsOf data 0 12
  let known := if bitOf data 24 then decide (ev / 256 ≤ 3) else eventKnown kind ev
  if !known || (k = 0 && bitOf data 22) then none
  else
    let put (f : Fld) (v : Nat) (m : SMap Nat) : SMap Nat := rset m ((f.at k).inBank base) v
    some (put fPMC_CFG_MATCH (bitsOf data 24 1) (put fPMC_CFG_EN (bitsOf data 23 1) (put fPMC_CFG_CHAIN (bitsOf data 22 1)
      (put fPMC_CFG_RANGE_EN (bitsOf data 21 1) (put fPMC_CFG_PRIV (bitsOf data 19 2) (put fPMC_CFG_CLASSES (bitsOf data 12 7)
        (put fPMC_CFG_EVENT ev m)))))))

/-- A write of a bank's PMC_CFG[k], of a plot or of another block. -/
def pmcCfgWrite (d : Dev) (kind inst k data : Nat) : Dev :=
  if kind = 0 then
    match pmcCfg (d.plot inst).regs 0x3800 0 k data with
    | some m => d.modPlot inst (fun pl => { pl with regs := m })
    | none => recordErr d 11 0 0x0A13
  else match pmcCfg d.regs (bankOffset kind inst) kind k data with
    | some m => { d with regs := m }
    | none => recordErr d 11 0 0x0A13

/-- A write of a bank's PMC_CNT[k] replaces its value (R555). -/
def pmcCntWrite (d : Dev) (kind inst k data : Nat) : Dev :=
  if kind = 0 then d.modPlot inst (fun pl => { pl with regs := rset pl.regs ((fPMC_CNT_COUNT.at k).inBank 0x3800) data })
  else { d with regs := rset d.regs ((fPMC_CNT_COUNT.at k).inBank (bankOffset kind inst)) data }

/-- A command on counter `k` of a bank that exists; an access to a plot's bank wakes the plot. -/
def onBank (s : State) (kind inst k : Nat) (f : Dev → Dev) : Host.Outcome State Fault Refusal :=
  onDev s (fun d => if 8 ≤ k then d else if kind = 0 then (if isPlot inst then f (wakePlot d inst) else d)
    else if isBank kind inst then f d else d)

/-- PMC_CFG_WRITE (R557). -/
def execPmcCfgWrite (kind inst k data : Nat) (s : State) : Host.Outcome State Fault Refusal :=
  onBank s kind inst k (fun d => pmcCfgWrite d kind inst k data)

/-- PMC_CNT_WRITE (R555). -/
def execPmcCntWrite (kind inst k data : Nat) (s : State) : Host.Outcome State Fault Refusal :=
  onBank s kind inst k (fun d => pmcCntWrite d kind inst k data)

/-- Whether some bank shows an overflow. -/
def anyOverflow (d : Dev) : Bool :=
  d.plots.any (fun e => rget e.2.regs (fPMC_STATUS_OVF.inBank 0x3800) ≠ 0) ||
    deviceBanks.any (fun b => rget d.regs (fPMC_STATUS_OVF.inBank (bankOffset b.1 b.2)) ≠ 0)

/-! ## The central reader (R558) -/

/-- PMR_GO (R558). -/
def execPmrGo (s : State) : Host.Outcome State Fault Refusal := onDev s pmrGo

/-- SNAPSHOT_DONE: the latched records are written; to companion memory they go through the link cache, and the snapshot is
complete once they have. SNAP advances, and source 9 is raised (R558). -/
def snapshotDone (d : Dev) (report : List Nat) : Dev :=
  if d.rg fPMR_STATUS_BUSY = 0 then d
  else
    let a := d.rg fPMR_ADDR_ADDR
    let end_ (d : Dev) : Dev :=
      raiseEdge (({ d with snap := [] }.rs fPMR_STATUS_BUSY 0).rs fPMR_STATUS_SNAP (d.rg fPMR_STATUS_SNAP + 1)) 9
    if a < hostBase then end_ (gddrWrite d a d.snap report).1
    else if d.snap.isEmpty then
      (if (hostFind d (.engine 2)).any (fun r => !r.left.isEmpty) then d else end_ (hostDrop d (.engine 2)))
    else { (hostStart d (.engine 2) a d.snap.length (some d.snap) false).1 with snap := [] }

/-- SNAPSHOT_DONE (R558). -/
def execSnapshotDone (report : List Nat) (s : State) : Host.Outcome State Fault Refusal :=
  onDev s (fun d => snapshotDone d report)

/-! ## The sticky error record (R561) -/

/-- A write of CONSUMER (R561). -/
def consumerWrite (d : Dev) (new : Nat) : Dev :=
  let old := d.rg fERR_IDX_CONSUMER
  let new := new % 2 ^ 32
  if (d.rg fERR_IDX_PRODUCER + 2 ^ 32 - old) % 2 ^ 32 < (new + 2 ^ 32 - old) % 2 ^ 32 then recordErr d 11 0 0x0A11
  else d.rs fERR_IDX_CONSUMER new

/-- ERR_CONSUMER_WRITE (R561). -/
def execErrConsumerWrite (data : Nat) (s : State) : Host.Outcome State Fault Refusal :=
  onDev s (fun d => consumerWrite d data)

/-- Ervoec retires the rows of a controller that stand at the suspect threshold: they enter the repair map, and their granules
the logbook and the list of those retired (R290, R292). -/
def retireRows (d : Dev) (c : Nat) : Dev :=
  let thr := d.rg (fGDC_CFG_SUSPECT_THRESHOLD.at c)
  let rows := (List.range 32).filterMap (fun i =>
    if d.rg (fGDC_SUSPECT_VALID.at2 c i) = 1 ∧ thr ≤ d.rg (fGDC_SUSPECT_COUNT.at2 c i) then
      some (Repair.mk 4 c (d.rg (fGDC_SUSPECT_DCH.at2 c i)) (d.rg (fGDC_SUSPECT_BANK.at2 c i)) (d.rg (fGDC_SUSPECT_ROW.at2 c i)))
    else none)
  rows.foldl (fun d r =>
    if d.flash.repairs.contains r then d
    else
      let new := (rowGranules r.unit r.bank r.row).filter (fun g => !d.retired.contains g)
      let d := { repairAdd d r with retired := d.retired ++ new }
      capacityMail (new.foldl (fun d g => journalAdd d 3 d.steps.lastNo 0x0909 (leBytes 8 (g * 4096))) d)) d

/-- ERR_ENTRY_CONSUME: Ervoec writes the next entry to the journal, if it can be written, and advances CONSUMER; a suspect row
is retired (R292, R561, R566). -/
def entryConsume (d : Dev) (ok : Bool) : Dev :=
  let cons := d.rg fERR_IDX_CONSUMER
  if d.rg fSHD_FW_STATE ≠ 2 ∨ cons = d.rg fERR_IDX_PRODUCER then d
  else
    let off := 0xB01000 + cons % 512 * 16
    let code := d.rg (fERR_ENTRY_CODE.at (cons % 512))
    let inst := d.rg (fERR_ENTRY_INSTANCE.at (cons % 512))
    let d := if ok then journalAdd d 2 d.steps.lastNo code (leBytes 8 (devWord d off) ++ leBytes 8 (devWord d (off + 8))) else d
    let d := d.rs fERR_IDX_CONSUMER (cons + 1)
    if code = 0x0909 then retireRows d inst else d

/-- ERR_ENTRY_CONSUME (R561). -/
def execErrEntryConsume (ok : Bool) (s : State) : Host.Outcome State Fault Refusal := onDev s (fun d => entryConsume d ok)

/-! ## Debug connector (R567 to R569) -/

/-- DBG_TRIG_IN_ASSERTED (R569). -/
def execDbgTrigInAsserted (s : State) : Host.Outcome State Fault Refusal :=
  onDev s (fun d => if d.rg fDBG_TRIG_IN_EN = 1 then trigFire d else d)

/-- DBG_TRIG_OUT_END (R569). -/
def execDbgTrigOutEnd (s : State) : Host.Outcome State Fault Refusal :=
  onDev s (fun d => { d with tray := { d.tray with trigOut := false } })

/-- A read of DBG_FLASH_DATA: 8 bytes of module flash, and ADDR advances; beyond the flash, zero and a code (R567). -/
def dbgFlashRead (d : Dev) : Dev × Nat × Nat :=
  let a := d.rg fDBG_FLASH_ADDR_ADDR
  if 0x2000000 < a + 8 then (recordErr d 11 0 0x0A10, 0x0A10, 0)
  else (d.rs fDBG_FLASH_ADDR_ADDR (a + 8), 0, leValue (flRead d a 8))

/-- DBG_FLASH_DATA_READ: in recovery mode the window is not reached (R567). -/
def execDbgFlashDataRead (s : State) : Host.Outcome State Fault Refusal :=
  onDev s (fun d =>
    if d.rg fBRW_STATUS_STATE = 4 then (brwErr d 0x0111).emit (.regData 0xC00208 0)
    else
      let r := dbgFlashRead d
      r.1.emit (.regData 0xC00208 r.2.2))

/-- Whether KIND and INSTANCE name a block (R561). -/
def blockExists (kind inst : Nat) : Bool :=
  if kind = 10 then isPlot inst
  else if kind = 5 then decide (inst < 18)
  else if kind = 7 then decide (inst < 16)
  else if kind = 8 then decide (inst < 24)
  else if kind = 3 then decide (inst < 8)
  else decide (kind ≤ 11) && decide (inst = 0)

/-- A write of DBG_MUX[j]: a selection that names no signal drives 0 and records 0x0A13. The spec gives no block's debug
list (R568, log entry 40). -/
def dbgMuxWrite (d : Dev) (j data : Nat) : Dev :=
  let kind := bitsOf data 20 4
  let inst := bitsOf data 8 11
  let sig := bitsOf data 0 8
  let d := ((d.rs (fDBG_MUX_KIND.at j) kind).rs (fDBG_MUX_INSTANCE.at j) inst).rs (fDBG_MUX_SIGNAL.at j) sig
  if sig = 0 ∨ (blockExists kind inst ∧ Config.debugSignal kind inst sig) then d else recordErr d 11 0 0x0A13

/-- DBG_MUX_WRITE (R568). -/
def execDbgMuxWrite (j data : Nat) (s : State) : Host.Outcome State Fault Refusal :=
  onDev s (fun d => if j < 32 then dbgMuxWrite d j data else d)

/-! ## JTAG (R570) -/

/-- Whether the core is held in reset (R428 to R430, R576). -/
def coreHeld (d : Dev) : Bool := d.rst.held

/-- A JTAG instruction becomes current in a die, and its data register answers. -/
def jtagSet (d : Dev) (die ir value : Nat) : Dev :=
  { d with tray := { d.tray with ir := d.tray.ir.set die ir } }.emit (.jtag die value)

/-- A JTAG command on a die: 0 west, 1 east; the chain lies outside the core. -/
def onDie (s : State) (die : Nat) (f : Dev → Dev) : Host.Outcome State Fault Refusal :=
  onAon s (fun d => if die < 2 then f d else d)

/-- BYPASS: one bit, 0 (R570). -/
def execBypass (die : Nat) (s : State) : Host.Outcome State Fault Refusal := onDie s die (fun d => jtagSet d die 1 0)

/-- The identity code of a die: version, part number, manufacturer, 1 (R570). -/
def idCode (die : Nat) : Nat := 0x1 * 2 ^ 28 + (0xF2A0 + die) * 2 ^ 12 + Config.manufacturer.toNat * 2 + 1

/-- IDCODE (R570). -/
def execIdcode (die : Nat) (s : State) : Host.Outcome State Fault Refusal := onDie s die (fun d => jtagSet d die 0 (idCode die))

/-- SAMPLE/PRELOAD: the boundary cells are preloaded; what the pins show at the sample is open (R570). -/
def execSamplePreload (die : Nat) (cells : List Byte) (s : State) : Host.Outcome State Fault Refusal :=
  onDie s die (fun d =>
    let r := d.free 64
    jtagSet { r.1 with tray := { r.1.tray with bsr := r.1.tray.bsr.set die cells } } die 2 r.2)

/-- A JTAG action outside reset acts as BYPASS and is recorded (R570). -/
def jtagRefused (d : Dev) (die : Nat) : Dev := jtagSet (recordErr d 11 0 0x0A14) die 1 0

/-- EXTEST: only while the core is held in reset (R570). -/
def execExtest (die : Nat) (s : State) : Host.Outcome State Fault Refusal :=
  onDie s die (fun d => if coreHeld d then jtagSet d die 3 0 else jtagRefused d die)

/-- The instruments behind the access instruction whose behaviour the spec gives: 0 a monitor of R562, 1 a line of the
multiplexer, 2 fuse contents; `write` carries the data written (R570). -/
def instrument (f : Fuses) (d : Dev) (die inst idx : Nat) (write : Option Nat) : Option Dev :=
  match inst, write with
  | 0, some v => if idx < 80 then some (jtagSet (monWrite d idx v) die 4 0) else none
  | 0, none => if idx < 80 then some (jtagSet d die 4 (devWord d (0x202000 + idx * 16))) else none
  | 1, some v => if idx < 32 then some (jtagSet (dbgMuxWrite d idx v) die 4 0) else none
  | 1, none => if idx < 32 then some (jtagSet d die 4 (devWord d (0xC00000 + idx * 8))) else none
  | 2, none => some (jtagSet d die 4 (if idx = 0 then leValue f.keyHash else if idx = 1 then f.dieId.getD die 0
      else if idx = 2 then f.partner.getD die 0 else if idx = 3 then f.assembled.getD die 0 else f.rollback))
  | _, _ => none

/-- IJTAG_ACCESS: a write to an instrument other than a monitor or the multiplexer is refused unless the core is held in reset.
An instrument that the spec does not describe faults (R562, R570). -/
def execIjtagAccess (die inst idx : Nat) (write : Option Nat) (s : State) : Host.Outcome State Fault Refusal :=
  if 2 ≤ die then .next s
  else if 2 ≤ inst ∧ write.isSome ∧ !coreHeld s.dev then .next { s with dev := jtagRefused s.dev die }
  else match instrument s.fused s.dev die inst idx write with
    | some d => .next { s with dev := d }
    | none => .fault .undescribedInstrument

end Sys2Proof.Machine
end

