-- ==== Sys2Proof/Machine/Placement.lean ====
section
/-! DEFINITION. Ervoec's sows and placements (R166 to R169, R270, R411, R418 to R420, R595). -/

namespace Sys2Proof.Machine

/-! ## Sowing (R168, R169) -/

/-- One library sown to one plot: BEGIN, its DATA packets and END; the plot wakes for it (R168, R437). -/
def sowPlot (d : Dev) (gen p : Nat) (l : SowLib) : Dev :=
  let d := sowBegin (wakePlot d p) p gen l.id l.base l.words.length l.crc
  let n := (l.words.length + 31) / 32
  let d := (List.range n).foldl (fun d k => sowData d p gen (k % 256) ((l.words.drop (32 * k)).take 32)) d
  sowEnd d p gen n

/-- A sow generation: a free value, but no plot's previous one (R166). -/
def sowGen (d : Dev) (ps : List Nat) : Dev × Nat :=
  let r := d.free 16
  let used := ps.map (fun p => (r.1.plot p).rg fPLOT_SOW_STATUS_GEN)
  (r.1, (((List.range 65536).map (fun i => (r.2 + i) % 65536)).find? (fun g => !used.contains g)).getD r.2)

/-- One round of sows; it ends early when every plot has acknowledged OK. -/
def sowTurn (d : Dev) (round : Nat) (libs : List SowLib) (todo : List (Nat × Nat)) : Dev :=
  let g := sowGen { d with sowRound := some ⟨round, libs, todo⟩ } (todo.map (·.1))
  let d := todo.foldl (fun d e =>
    match libs[e.2]? with
    | some l => sowPlot d g.2 e.1 l
    | none => d) g.1
  match d.sowRound with
  | some r => if r.todo.isEmpty then { d with sowRound := none } else d
  | none => d

/-- The plots that libraries are for, each with the place of its library. -/
def sowTargets (d : Dev) (libs : List SowLib) : List (Nat × Nat) :=
  ((List.range libs.length).zip libs).flatMap (fun e =>
    ((List.range e.2.plots).filterMap (fun i => d.phys (e.2.first + i))).map (fun p => (p, e.1)))

/-- Libraries are sown by broadcast. -/
def sowAll (d : Dev) (libs : List SowLib) : Dev := sowTurn d 0 libs (sowTargets d libs)

/-- STEP_SOW: the base library that the image chooses is sown to every logical plot in service (R411, R595). -/
def execStepSow (lib base : Nat) (words : List Nat) (s : State) : Host.Outcome State Fault Refusal :=
  onDev s (fun d => bringStep d 10 (fun d =>
    let l : SowLib := ⟨lib, base, words, crc64 0 (words.flatMap (leBytes 8)), 0, 1024⟩
    brwOutcome (sowAll { d with sed := { d.sed with baseLib := some l } } [l]) 0))

/-! ## A plot's libraries and tine store (R169, R183, R485) -/

/-- A tine program written to the store of one channel from index 0 on; an armed flip hits its first word (R183, R497). -/
def tineImage (pl : Plot) (ch : Nat) (ws : List Nat) : Plot :=
  if ws.isEmpty then pl else
  let c := pl.chan ch
  let flip := flipArmed pl 3 && pl.rg fPLOT_MEM_FLIP_CHANNEL = ch
  let new := ((List.range ws.length).zip ws).filter (fun e => decide (e.2 ≠ 0xFFFFFFFF))
  let errs := c.pmErr.filter (fun e => decide (ws.length ≤ e.1))
  let pl := pl.setChan ch { c with
    pm := new ++ c.pm.filter (fun e => decide (ws.length ≤ e.1)),
    pmErr := if flip then SMap.set 0 errs 0 (flipMask pl 39) else errs }
  if flip then pl.rs fPLOT_MEM_FLIP_ARM 0 else pl

/-- A tine program written to every channel of a plot. -/
def tineLoad (d : Dev) (p : Nat) (ws : List Nat) : Dev :=
  d.modPlot p (fun pl => (List.range 4).foldl (fun pl ch => tineImage pl ch ws) pl)

/-- A single re-sow of the libraries of a logical number, those of the placement or else the base library, and its tine
store (R169, R485). -/
def plotRestore (d : Dev) (n : Nat) : Dev :=
  match d.phys n with
  | none => d
  | some p =>
    let base := d.sed.baseLib.toList
    let libs := match d.steps.placement with
      | some pm =>
        let mine := pm.libs.filter (fun l => decide (l.first ≤ n) && decide (n < l.first + l.plots))
        if mine.isEmpty then base else mine
      | none => base
    let d := sowTurn d 1 libs ((List.range libs.length).map (fun i => (p, i)))
    match d.steps.placement with
    | some pm => tineLoad d p pm.tine
    | none => d

/-! ## Placement messages (R418 to R420) -/

/-- A field of `n` bytes at offset `i` of a GDDR7 range. -/
def gV (d : Dev) (a i n : Nat) : Nat := leValue (memRead d.gddr (a + i) n)

/-- The library entries of a placement image: the library, the offset of its words and the four reserved bytes. -/
def placementLibs (d : Dev) (a : Nat) : List (SowLib × Nat × Nat) :=
  (List.range (gV d a 8 4)).map (fun i =>
    let e := gV d a 12 4 + 32 * i
    let w := gV d a (e + 16) 8
    let words := (List.range (gV d a (e + 6) 2)).map (fun k => gV d a (w + 8 * k) 8)
    (⟨gV d a e 4, gV d a (e + 4) 2, words, gV d a (e + 24) 8, gV d a (e + 8) 2, gV d a (e + 10) 2⟩, w, gV d a (e + 12) 4))

/-- Whether a placement image's parts lie within its length and in GDDR7 (R420). -/
def placementExtent (d : Dev) (a len : Nat) : Bool :=
  inGddr a len && decide (64 ≤ len) && decide (gV d a 12 4 + 32 * gV d a 8 4 ≤ len) &&
    decide (gV d a 16 4 + 1024 ≤ len) && decide (gV d a 20 4 + 65536 ≤ len) && decide (gV d a 24 4 + 32 ≤ len) &&
    (placementLibs d a).all (fun l => decide (l.2.1 + 8 * l.1.words.length ≤ len))

/-- Whether its format is that of R418. -/
def placementFormat (d : Dev) (a : Nat) : Bool :=
  gV d a 0 4 = 0x50325246 && gV d a 4 1 = 1 && gV d a 28 36 = 0 &&
    (placementLibs d a).all (fun l => l.2.2 = 0 && crc64 0 (l.1.words.flatMap (leBytes 8)) = l.1.crc)

/-- Whether the logical numbers it names are in service (R420). -/
def placementPlotsOk (d : Dev) (a : Nat) : Bool :=
  decide (gV d a 6 2 ≤ d.numbering.length) &&
    (placementLibs d a).all (fun l => decide (l.1.first + l.1.plots ≤ 1024) &&
      (List.range l.1.plots).all (fun i => (d.phys (l.1.first + i)).isSome))

/-- An entry of the phase table (R270). -/
def phaseOk (e : Nat) : Bool :=
  e / 1024 = 0 && decide (bitsOf e 8 2 ≤ 1) && decide (9 ≤ e % 256) && decide (e % 256 ≤ 64)

/-- Whether slots or a placement are in the way. -/
def slotsFree (d : Dev) : Bool := (List.range 16).all (fun s => slotSt d s = 0)

/-- The code that refuses a placement image, or 0 (R420). -/
def placementCode (d : Dev) (a len : Nat) : Nat :=
  if !placementExtent d a len then 0x0110
  else if !placementFormat d a then 0x0118
  else if !placementPlotsOk d a then 0x0119
  else if !(List.range 256).all (fun i => phaseOk (gV d a (gV d a 16 4 + 4 * i) 4)) then 0x0F22
  else if !slotsFree d || d.steps.placement.isSome then 0x011A
  else 0

/-- A change of a field of CAPACITY is sent (R419). -/
def capacityChange (before d : Dev) : Dev := if capacityBody before = capacityBody d then d else capacityMail d

/-- PLACEMENT_LOAD (R270, R420): the whole image is checked, then its libraries are sown, the tine program is written to
every channel of every plot in service, and its phase table is current. -/
def placementLoad (d : Dev) (m : Mail) : Dev :=
  if !m.shape 16 16 0 then mailReply d 0x0704 []
  else
    let a := m.v 0 8
    let len := m.v 8 8
    if len = 0 then mailReply d 0 (zeros 8)
    else
      let code := placementCode d a len
      if code ≠ 0 then mailReply d code []
      else
        let libs := (placementLibs d a).map (·.1)
        let plots := gV d a 6 2
        let tine := (List.range 16384).map (fun i => gV d a (gV d a 20 4 + 4 * i) 4)
        let pm : Placement := ⟨plots, gV d a (gV d a 24 4) 32, true, libs, tine⟩
        let n := sowAll { d with steps := { d.steps with placement := some pm } } libs
        let n := (n.numbering.map (·.2)).foldl (fun d p => tineLoad d p tine) n
        let n := n.rs fSTP_PHASE_ADDR (a + gV d a 16 4)
        capacityChange d (mailReply n 0 (leBytes 2 plots ++ leBytes 2 libs.length ++ zeros 4))

/-- PLACEMENT_LOAD (R420). -/
def execPlacementLoad (s : State) : Host.Outcome State Fault Refusal := onDev s (fun d => onMail d 0x0300 placementLoad)

/-- Steps are held while a replica of this device is expelled or flagged (R495). -/
def replicaHold (d : Dev) : Dev :=
  let h := d.steps.hold
  { d with steps := { d.steps with
    hold := if d.sed.groups.any (fun g => decide (g.flagged ≠ 0)) then withBit h 1 else clearBit h 1 } }

/-- PLACEMENT_UNLOAD: an expelled replica is answered by it (R420, R495). -/
def placementUnload (d : Dev) (m : Mail) : Dev :=
  if m.body ≠ [] then mailReply d 0x0704 []
  else if !slotsFree d then mailReply d 0x011A []
  else
    let n := { d with
      steps := { d.steps with placement := none },
      sed := { d.sed with groups := d.sed.groups.map (fun g => if g.flagged = 2 then g else { g with flagged := 0 }) } }
    capacityChange d (mailReply (replicaHold n) 0 [])

/-- PLACEMENT_UNLOAD (R420). -/
def execPlacementUnload (s : State) : Host.Outcome State Fault Refusal :=
  onDev s (fun d => onMail d 0x0301 placementUnload)

end Sys2Proof.Machine
end

