-- ==== Sys2Proof/Machine/Sed.lean ====
section
/-! DEFINITION. Arbitration, the move engine and live sparing (R479 to R489, R502). -/

namespace Sys2Proof.Machine

/-! ## Qualified spares (R484, R502) -/

/-- A plot joins the qualified spares, kept in raster order. -/
def qualify (d : Dev) (p : Nat) : Dev :=
  let q := d.sed.qualified.filter (fun x => x ≠ p)
  { d with sed := { d.sed with
    qualified := q.filter (fun x => decide (x < p)) ++ [p] ++ q.filter (fun x => decide (p < x)) } }

/-- A plot leaves the qualified spares. -/
def unqualify (d : Dev) (p : Nat) : Dev :=
  { d with sed := { d.sed with qualified := d.sed.qualified.filter (fun x => x ≠ p) } }

/-- The lowest qualified spare of a half; one that is preferred comes first (R483). -/
def spareFor (d : Dev) (half : Nat) (prefer : Option Nat) : Option Nat :=
  let ok (p : Nat) : Bool := plotHalf p = half && d.sed.qualified.contains p && d.spares.contains p
  match prefer with
  | some p => if ok p then some p else d.sed.qualified.find? ok
  | none => d.sed.qualified.find? ok

/-- GO of PLOT_SELFTEST (R502). -/
def selftestGo (d : Dev) (p : Nat) : Dev :=
  if (d.logical p).isSome ∨ (d.plot p).sleep ≠ 0 then sedErr d p 0x1011
  else unqualify (d.modPlot p (fun pl => (pl.rs fPLOT_SELFTEST_RESULT 1).rs fPLOT_SELFTEST_TEST 0)) p

/-- PLOT_SELFTEST_GO (R502). -/
def execPlotSelftestGo (p : Nat) (s : State) : Host.Outcome State Fault Refusal :=
  onDev s (fun d => if isPlot p then selftestGo (wakePlot d p) p else d)

/-- Bed, scratch and accumulators of a plot are cleared (R484). -/
def plotErase (d : Dev) (p : Nat) : Dev :=
  let d := { d with scr := memClear d.scr (scrBase p) (2 ^ 20), bed := memClear d.bed (bedBase p) (2 ^ 26) }
  d.modPlot p (fun pl => { pl with scrErr := [], acc := [], accErr := [], bedErr := [], units := [] })

/-- SELFTEST_DONE: `test` is the test that failed, 0 for none (R484, R502). -/
def execSelftestDone (p test : Nat) (s : State) : Host.Outcome State Fault Refusal :=
  onDev s (fun d =>
    if !isPlot p || (d.plot p).rg fPLOT_SELFTEST_RESULT ≠ 1 then d
    else
      let d := (raiseEdge (plotErase d p) 11).modPlot p (fun pl =>
        (pl.rs fPLOT_SELFTEST_RESULT (if test = 0 then 2 else 3)).rs fPLOT_SELFTEST_TEST test)
      if test = 0 ∧ d.spares.contains p then qualify d p else d)

/-- SPARE_SELFTEST_TIMER: an hour has passed, so no earlier pass counts, and Ervoec wakes and tests every spare (R484). -/
def execSpareSelftestTimer (s : State) : Host.Outcome State Fault Refusal :=
  onDev s (fun d =>
    if d.rg fSHD_FW_STATE ≠ 2 then d
    else
      let d := { d with sed := { d.sed with qualified := [] } }
      (d.spares.filter (fun p => d.referee.all (fun r => r.2 ≠ p))).foldl (fun d p => selftestGo (wakePlot d p) p) d)

/-! ## The move engine (R486) -/

/-- A range of a memory copied to another. -/
def memCopy (m : List Host.Cell) (src dst n : Nat) : List Host.Cell :=
  let moved := (m.filter (fun c => decide (src ≤ c.1) && decide (c.1 < src + n))).map (fun c => (c.1 - src + dst, c.2))
  m.filter (fun c => decide (c.1 < dst)) ++ moved ++ m.filter (fun c => decide (dst + n ≤ c.1))

/-- Whether plot `p` may be copied onto `s` (R486). -/
def moveAllowed (d : Dev) (p s : Nat) : Bool :=
  let pl := d.plot p
  isPlot s && (d.logical s).isNone && (d.plot s).sleep = 0 && plotHalf s = plotHalf p &&
    (pl.seq = seqIDLE || pl.seq = seqUNSOWN || pl.seq = seqSTOPPED) && pl.dmas.isEmpty &&
    (List.range 4).all (fun ch => pl.chMode ch = chMEMORY)

/-- The registers of a plot that Ervoec rewrites after a move: extents 2 to 15, PLOT_SYNC_TIMEOUT, PLOT_ATT_CFG and
BED_CH_CFG (R485). -/
def plotRecord (pl : Plot) : SMap Nat :=
  let mine (k : Nat) : Bool :=
    let off := k / 64
    (decide (0x120 ≤ off) && decide (off < 0x200)) || decide (off = 0xC0) || decide (off = 0x2808) ||
      (decide (0x2000 ≤ off) && decide (off < 0x2400) && decide (off % 0x100 = 8))
  pl.regs.filter (fun e => mine e.1)

/-- A GO that its state refuses. -/
def moveRefused (d : Dev) (p : Nat) : Dev := sedErr ((d.rs fSED_MOVE_RESULT 3).rs fSED_MOVE_CODE 0x1011) p 0x1011

/-- GO of SED_MOVE, with its MODE, LOGICAL and SPARE. While the engine is outside IDLE all is unchanged. A move or retirement
that no judgement began has no signature. -/
def moveGo (d : Dev) (mode n s : Nat) : Dev :=
  if d.rg fSED_MOVE_STATE ≠ 0 then sedErr d s 0x1011
  else
    let d := ((d.rs fSED_MOVE_MODE mode).rs fSED_MOVE_LOGICAL n).rs fSED_MOVE_SPARE s
    let begin_ (d : Dev) (p : Nat) : Dev :=
      match d.sed.moving with
      | some _ => d
      | none => { d with sed := { d.sed with
        moving := some ⟨p, 0, 0, 0, none, 0, [], none, false, plotRecord (d.plot p)⟩ } }
    match mode, d.phys n with
    | 3, _ => if d.isReferee s ∧ (d.plot s).seq = seqSTOPPED then
          ((d.rs fSED_MOVE_STATE 2).rs fSED_MOVE_VERDICT 0).rs fSED_MOVE_RESULT 1
        else moveRefused d s
    | 5, _ => if d.referee.isSome then { d with referee := none }.rs fSED_MOVE_RESULT 2 else moveRefused d s
    | 4, some p => if (d.plot p).seq ≠ seqRUNNING then ((begin_ d p).rs fSED_MOVE_STATE 3).rs fSED_MOVE_RESULT 1 else moveRefused d s
    | 0, some p | 1, some p =>
      if moveAllowed d p s then ((begin_ d p).rs fSED_MOVE_STATE 1).rs fSED_MOVE_RESULT 1 else moveRefused d s
    | 2, some p => if moveAllowed d p s then (d.rs fSED_MOVE_STATE 1).rs fSED_MOVE_RESULT 1 else moveRefused d s
    | _, _ => moveRefused d s

/-- The engine goes IDLE with a RESULT other than BUSY, which raises source 11 (R486, R512). -/
def moveIdle (d : Dev) (result : Nat) : Dev := raiseEdge ((d.rs fSED_MOVE_STATE 0).rs fSED_MOVE_RESULT result) 11

/-- A row of the move engine: the write of SED_MOVE with GO. -/
def moveRow (s : State) (mode n sp : Nat) : Host.Outcome State Fault Refusal :=
  onDev s (fun d => moveGo d mode (n % 1024) (sp % 2048))

/-- MOVE (R486). -/
def execMove (n sp : Nat) (s : State) : Host.Outcome State Fault Refusal := moveRow s 0 n sp

/-- RELOAD (R486). -/
def execReload (n sp : Nat) (s : State) : Host.Outcome State Fault Refusal := moveRow s 1 n sp

/-- CLONE (R486). -/
def execClone (n sp : Nat) (s : State) : Host.Outcome State Fault Refusal := moveRow s 2 n sp

/-- COMPARE (R481). -/
def execCompare (n sp : Nat) (s : State) : Host.Outcome State Fault Refusal := moveRow s 3 n sp

/-- RETIRE (R488). -/
def execRetire (n sp : Nat) (s : State) : Host.Outcome State Fault Refusal := moveRow s 4 n sp

/-- RELEASE (R486). -/
def execRelease (n sp : Nat) (s : State) : Host.Outcome State Fault Refusal := moveRow s 5 n sp

/-- The synchronisation counters under one key written to another. -/
def syncCopy (d : Dev) (src dst : Nat) : Dev :=
  { d with sync := (List.range 256).foldl (fun m c => SMap.set 0 m (dst + c) (SMap.get 0 d.sync (src + c))) d.sync }

/-- The bed of `p` copied to `s`: correctable columns corrected, uncorrectable ones raw with their check bytes, each counted
and recorded. -/
def bedCopy (d : Dev) (p s : Nat) : Dev :=
  let cols := (d.plot p).bedErr
  let d := ({ d with bed := memCopy d.bed (bedBase p) (bedBase s) (2 ^ 26) }).modPlot s (fun pl => { pl with bedErr := [] })
  let d := (List.range 4).foldl (fun d ch => bedReadCol.bedEncode d s (ch * 2 ^ 19)) d
  cols.foldl (fun d e =>
    match decodeCol e.2 with
    | .uncorrectable =>
      let d := d.modPlot s (fun pl => { pl with bedErr := SMap.set [] pl.bedErr e.1 e.2 })
      sedErr (d.count fSED_MOVE_STATUS_UNCORR 1) p 0x1009
    | _ =>
      let r := bedReadCol d p e.1 false
      { r.1 with bed := memWrite r.1.bed (bedBase s + e.1 * 32) r.2.1 }) d

/-- Scratch of `p` copied to `s`, with the error patterns of its words. -/
def scrCopy (d : Dev) (p s : Nat) : Dev :=
  { d with scr := memCopy d.scr (scrBase p) (scrBase s) (2 ^ 20) }.modPlot s (fun pl => { pl with scrErr := (d.plot p).scrErr })

/-- What CLONE copies beyond MOVE: accumulators, program memory, tine store, region marks, OUT_DONE and the checkpoint. -/
def cloneCopy (d : Dev) (p s : Nat) : Dev :=
  let a := d.plot p
  let units : SMap UnitSt := a.units.map (fun e => (e.1, { e.2 with opens := [], failed := false }))
  d.modPlot s (fun b =>
    let b := { b with
      acc := a.acc, accErr := a.accErr, pm := a.pm, pmErr := a.pmErr, ckpt := a.ckpt,
      units := units.filter (fun e => e.2 ≠ UnitSt.idle) }
    let b := (List.range 4).foldl (fun b ch =>
      b.setChan ch { b.chan ch with pm := (a.chan ch).pm, pmErr := (a.chan ch).pmErr }) b
    ((b.rs fPLOT_SEQ_REPLAY_OUT_DONE (a.rg fPLOT_SEQ_REPLAY_OUT_DONE)).rs fPLOT_SEQ_REPLAY_CKPT_PC
      (a.rg fPLOT_SEQ_REPLAY_CKPT_PC)).rs fPLOT_SEQ_STATUS_STATE seqSTOPPED)

/-- The copy is complete: the engine switches, or goes IDLE with the clone in referee mode. -/
def moveCopied (d : Dev) : Dev :=
  let mode := d.rg fSED_MOVE_MODE
  let n := d.rg fSED_MOVE_LOGICAL
  let s := d.rg fSED_MOVE_SPARE
  match d.phys n with
  | none => d
  | some p =>
    let d := (d.rs fSED_MOVE_STATUS_UNCORR 0).rs fSED_MOVE_STATUS_UNITS (if mode = 1 then 4096 else 266240)
    let d := syncCopy (scrCopy d p s) (n * 256) ((1024 + s) * 256)
    let d := if mode = 1 then
        let d := ({ d with bed := memClear d.bed (bedBase s) (2 ^ 26) }).modPlot s (fun pl => { pl with bedErr := [] })
        (List.range 4).foldl (fun d ch => bedReadCol.bedEncode d s (ch * 2 ^ 19)) d
      else bedCopy d p s
    if mode = 2 then
      moveIdle { cloneCopy d p s with referee := some (n, s) } 2
    else d.rs fSED_MOVE_STATE 3

/-- The bytes of a scratch line, or the words of an accumulator segment: units from 4,096 on are segments (R140). -/
def unitBytes (d : Dev) (p u : Nat) : List Nat :=
  if u < 4096 then (memRead d.scr (scrBase p + u * 256) 256).map BitVec.toNat
  else (List.range 32).map (fun i => accWord (d.plot p) ((u - 4096) * 32 + i))

/-- COMPARE_DONE: every unit that carries the BORN mark in the original plot is compared bit for bit, and referee mode ends
(R481, R486). -/
def execCompareDone (s : State) : Host.Outcome State Fault Refusal :=
  onDev s (fun d =>
    if d.rg fSED_MOVE_STATE ≠ 2 then d
    else match d.referee.bind (fun r => d.phys r.1) with
      | none => d
      | some p =>
        let sp := d.rg fSED_MOVE_SPARE
        let born := ((d.plot p).units.filter (fun e => e.2.born)).map (·.1)
        let same := born.all (fun u => decide (unitBytes d p u = unitBytes d sp u))
        moveIdle ({ d with referee := none }.rs fSED_MOVE_VERDICT (if same then 1 else 2)) 2)

/-! ## Live sparing (R485, R487 to R489) -/

/-- Whether sparing waits for D1 (R489). -/
def sparingCold (d : Dev) : Bool := decide (3 ≤ d.rg fAON_DSTATE_STATE)

/-- The next judgement is carried out when the engine is free: the next step is held, a running one abandoned, the plot
aborted, and once its beds are in MEMORY its number moves to a qualified spare, or is retired for want of one. -/
def sparingNext (d : Dev) : Dev :=
  match d.sed.judged with
  | [] => if d.sed.moving.isNone ∧ d.sed.finish.isNone then
        { d with steps := { d.steps with hold := clearBit d.steps.hold 2 } } else d
  | j :: rest =>
    if d.rg fSED_MOVE_STATE ≠ 0 ∨ d.sed.moving.isSome ∨ d.sed.finish.isSome ∨ sparingCold d then d
    else match d.logical j.plot with
      | none => { d with sed := { d.sed with judged := rest } }
      | some n =>
        let d := { d with steps := { d.steps with hold := withBit d.steps.hold 2 } }
        let d := stepAbandon d true
        let d := if (d.plot j.plot).seq = seqSTOPPED then seqAbort d j.plot else d
        let pl := d.plot j.plot
        let quiet := (pl.seq = seqIDLE || pl.seq = seqUNSOWN) && pl.dmas.isEmpty &&
          (List.range 4).all (fun ch => pl.chMode ch = chMEMORY)
        if !quiet then d
        else
          let d := { d with sed := { d.sed with judged := rest, moving := some { j with record := plotRecord pl } } }
          match spareFor d (plotHalf j.plot) j.prefer with
          | some s => moveGo (wakePlot d s) (if j.reload then 1 else 0) n s
          | none => moveGo d 4 n 0

/-- Whether the loaded placement uses a logical number. -/
def placementUses (d : Dev) (n : Nat) : Bool := d.steps.placement.any (fun pm => decide (n < pm.plots))

/-- Slots in use fail with a code (R251, R488, R495). -/
def slotsFail (d : Dev) (slots : List Nat) (code : Nat) : Dev := slots.foldl (fun d s => raiseTrans d (.fail s code)) d

/-- The signature of what became of a judged plot (R500). -/
def moveSignature (d : Dev) (j : Judged) (n action : Nat) (new : Option Nat) : Dev :=
  if j.verdict = 0 then d
  else signature d ⟨j.code, j.kind, some j.plot, some n, j.sub, j.verdict, j.pc, j.captured, action, new, 0⟩

/-- The completion of a move: libraries, tine store and registers of the number are restored at its new plot, its raw
columns reloaded or their slots failed, the old plot enters the repair map, and signature and CAPACITY go out (R485). -/
def moveFinish (d : Dev) (n s : Nat) (j : Judged) (reload : List (Nat × List Byte)) (lost : List Nat) : Dev :=
  let d := plotRestore (wakePlot d s) n
  let d := d.modPlot s (fun pl => { pl with
    regs := j.record.foldl (fun m e => SMap.insert e.1 e.2 m) (pl.regs.filter (fun e => !(plotRecord pl).contains e)) })
  let d := reload.foldl (fun d e => (bedWrite d s e.1 e.2).1) d
  let d := slotsFail d lost 0x0E11
  let d := repairAdd d ⟨1, j.plot, 0, 0, 0⟩
  capacityMail (moveSignature d j n 3 (some s))

/-- The engine is IDLE after a move or a retirement: in D2 the plots go to P3 and the completion waits for D1 (R489). -/
def moveSettle (d : Dev) (n : Nat) (new : Option Nat) (reload : List (Nat × List Byte)) (lost : List Nat) : Dev :=
  match d.sed.moving with
  | none => d
  | some j =>
    if sparingCold d then
      let d := (j.plot :: new.toList).foldl (fun d p => (plotReach d p 3).modPlot p (fun pl => pl.rs fPLOT_PWR_REQ 3)) d
      { d with sed := { d.sed with finish := some (n, new) } }
    else
      let d := { d with sed := { d.sed with moving := none, finish := none } }
      let d := match new with
        | some s => moveFinish d n s j reload lost
        | none =>
          let d := sedErr d j.plot 0x1007
          let used := placementUses d n
          let d := if used then
              slotsFail (placementUnfit (sedErr d j.plot 0x1008)) ((List.range 16).filter (fun s => slotSt d s ≠ 0)) 0x1008
            else d
          capacityMail (moveSignature d j n 4 none)
      sparingNext d

/-- At an entry to D1 the completion and the judgements that wait go on (R489). -/
def sparingResume (d : Dev) : Dev :=
  match d.sed.finish with
  | some f => if sparingCold d then d else moveSettle d f.1 f.2 [] []
  | none => sparingNext d

/-- DSTATE_REQ_D1 (R438, R489). -/
def execDstateReqD1 (s : State) : Host.Outcome State Fault Refusal := onDev s (fun d => sparingResume (dstateReq d 1))

/-- One pc cycle after SWITCH: the number decodes to the spare, or is ABSENT. -/
def moveSwitch (d : Dev) (reload : List (Nat × List Byte)) (lost : List Nat) : Dev :=
  let n := d.rg fSED_MOVE_LOGICAL
  let s := d.rg fSED_MOVE_SPARE
  match d.phys n with
  | none => d
  | some p =>
    let d := critRead (syncCopy d (n * 256) ((1024 + p) * 256)) 1
    let d := (moveIdle d 2).count fSED_CNT_MOVES 1
    if d.rg fSED_MOVE_MODE = 4 then
      let d := { d with
        numbering := SMap.erase n d.numbering,
        sync := d.sync.filter (fun e => decide (e.1 < n * 256) || decide (n * 256 + 256 ≤ e.1)) }
      moveSettle (plotCounts (critWrite d 1)) n none reload lost
    else
      let d := { d with numbering := SMap.insert n s (SMap.erase n d.numbering), spares := d.spares.filter (fun x => x ≠ s) }
      let d := unqualify (plotCounts (critWrite d 1)) s
      moveSettle (sedErr { d with referee := d.referee.filter (fun r => r.2 ≠ s) } s 0x1006) n (some s) reload lost

/-- The copy exceeds 5 ms: decode is unchanged, and a judged plot's move is repeated in mode RELOAD (R486, R503). -/
def moveExpired (d : Dev) : Dev :=
  let n := d.rg fSED_MOVE_LOGICAL
  let d := (moveIdle d 3).rs fSED_MOVE_CODE 0x1012
  let d := sedErr d ((d.phys n).getD 0x7FF) 0x1012
  if d.rg fSED_MOVE_MODE = 2 then d
  else match d.sed.moving with
    | none => d
    | some j =>
      let d := { d with sed := { d.sed with moving := none } }
      if j.verdict = 0 then d
      else sparingNext { d with sed := { d.sed with judged := { j with reload := true } :: d.sed.judged } }

/-! ## Arbitration (R479, R480, R482) -/

/-- The watch of a plot. -/
def setWatch (d : Dev) (w : Watch) : Dev :=
  { d with sed := { d.sed with watches := w :: d.sed.watches.filter (fun x => x.plot ≠ w.plot) } }

/-- The watch of a plot ends. -/
def dropWatch (d : Dev) (p : Nat) : Dev :=
  { d with sed := { d.sed with watches := d.sed.watches.filter (fun x => x.plot ≠ p) } }

/-- A failure of a unit is recorded, and the region is replayed. -/
def arbReplay (d : Dev) (p u occ : Nat) : Dev :=
  let pl := d.plot p
  let code := pl.rg fPLOT_SEQ_STOP_CODE
  let pc := pl.rg fPLOT_SEQ_STOP_PC
  let d := unitSignature d p u code 0 1 pc (recentTransients d p u)
  seqReplay (setWatch d ⟨p, u, code, pc, occ, 0, 0, false, pl.ckpt, pl.rg fPLOT_SEQ_REPLAY_CKPT_PC⟩) p

/-- The replay passed: a transient, permanent by history when it is the second on its unit within 2^24 instructions. -/
def arbTransient (d : Dev) (w : Watch) : Dev :=
  let earlier := recentTransients d w.plot w.unit
  let d := (sedErr d w.plot 0x1001).count fSED_CNT_TRANSIENTS 1
  let d := unitSignature (dropWatch d w.plot) w.plot w.unit 0x1001 1 1 w.pc earlier
  let d := { d with sed := { d.sed with history := (w.plot, w.unit, lifeCount d w.plot w.unit) :: d.sed.history } }
  if earlier = 0 then d else judgeUnit d w.plot w.unit 0x1002 5 1 w.pc earlier none

/-- Whether a watched region has ended: its plot is IDLE, or has taken another checkpoint. -/
def regionLeft (d : Dev) (w : Watch) : Bool :=
  let pl := d.plot w.plot
  pl.seq = seqIDLE || pl.ckpt ≠ w.ckpt || pl.rg fPLOT_SEQ_REPLAY_CKPT_PC ≠ w.ckptPc

/-- The region is to be refereed: the plot is cloned onto a qualified spare, or judged without one. -/
def arbClone (d : Dev) (w : Watch) : Dev :=
  match spareFor d (plotHalf w.plot) none, d.logical w.plot with
  | none, _ => judgeUnit d w.plot w.unit 0x1002 8 0 w.pc (recentTransients d w.plot w.unit) none
  | some s, some n =>
    if d.rg fSED_MOVE_STATE ≠ 0 ∨ d.sed.moving.isSome ∨ sparingCold d then setWatch d { w with stage := 1 }
    else
      let d := moveGo (wakePlot d s) 2 n s
      setWatch d (if d.rg fSED_MOVE_STATE = 1 then { w with stage := 2, spare := s } else { w with stage := 1 })
  | some _, none => dropWatch d w.plot

/-- The verdict of the referee (R480). For suspect inputs, the inputs are reloaded from their copies, slots that lost one fail,
and the plot is aborted for the step to run again. -/
def arbVerdict (d : Dev) (w : Watch) (reload : List (Nat × List Byte)) (lost : List Nat) : Dev :=
  let earlier := recentTransients d w.plot w.unit
  if w.pass ∧ d.rg fSED_MOVE_VERDICT = 2 then judgeUnit d w.plot w.unit 0x1002 2 2 w.pc earlier (some w.spare)
  else if w.pass then judgeUnit d w.plot w.unit 0x1003 3 2 w.pc earlier (some w.spare)
  else
    let d := unitSignature (unqualify (sedErr d w.plot 0x1004) w.spare) w.plot w.unit 0x1004 4 7 w.pc earlier
    let d := reload.foldl (fun d e => match decodeAddr e.1 with
      | .gddr a => (gddrWrite d a e.2 []).1
      | .bed n off => match d.phys n with
        | some q => (bedWrite d q off e.2).1
        | none => d
      | _ => d) d
    let d := slotsFail d lost 0x0E11
    let d := if (d.plot w.plot).seq = seqSTOPPED then seqAbort d w.plot else d
    setWatch d { w with stage := 5 }

/-- One decision of Ervoec about plot `p`. -/
def arbitrate (d : Dev) (p : Nat) (reload : List (Nat × List Byte)) (lost : List Nat) : Dev :=
  let pl := d.plot p
  let fail := if pl.seq = seqSTOPPED then stopUnit pl else none
  match d.sed.watches.find? (fun w => w.plot = p) with
  | none =>
    if (d.logical p).isNone || judgedAlready d p then d
    else match fail with
      | some u => arbReplay d p u 0
      | none => d
  | some w =>
    match w.stage, fail with
    | 0, some u => if u = w.unit then
          arbClone (stepAbandon d true) { w with code := pl.rg fPLOT_SEQ_STOP_CODE, pc := pl.rg fPLOT_SEQ_STOP_PC }
        else arbReplay d p u (w.occ + 1)
    | 0, none => if regionLeft d w then arbTransient d w else d
    | 1, _ => arbClone d w
    | 2, _ =>
      if d.rg fSED_MOVE_STATE ≠ 0 then d
      else if d.isReferee w.spare then setWatch (seqReplay d w.spare) { w with stage := 3 }
      else setWatch d { w with stage := 1 }
    | 3, _ => match d.logical p with
      | some n => if (d.plot w.spare).seq ≠ seqSTOPPED then d else
          let pass := decide ((d.plot w.spare).rg fPLOT_SEQ_STOP_CODE = 0)
          let d := moveGo d 3 n w.spare
          if d.rg fSED_MOVE_STATE = 2 then setWatch d { w with stage := 4, pass := pass } else d
      | none => dropWatch d p
    | 4, _ => if d.rg fSED_MOVE_STATE = 0 then arbVerdict d w reload lost else d
    | _, some u =>
      if pl.rg fPLOT_SEQ_REPLAY_CKPT_PC = w.ckptPc then
        judgeUnit d p u 0x1002 2 7 (pl.rg fPLOT_SEQ_STOP_PC) (recentTransients d p u) none
      else arbReplay (dropWatch d p) p u 0
    | _, none => if pl.seq = seqRUNNING ∧ pl.rg fPLOT_SEQ_REPLAY_CKPT_PC ≠ w.ckptPc then dropWatch d p else d

/-- SED_ARBITRATE: Ervoec decides about plot `p` and then carries out judgements that wait; `reload` and `lost` are what it
reloads and the slots whose inputs have no copy (R479, R480, R483). -/
def execSedArbitrate (p : Nat) (reload : List (Nat × List Byte)) (lost : List Nat) (s : State) :
    Host.Outcome State Fault Refusal :=
  onDev s (fun d => if isPlot p && d.rg fSHD_FW_STATE = 2 then sparingNext (arbitrate d p reload lost) else d)

/-! ## Sow failures (R169) -/

/-- SOW_ACK_TIMEOUT: a further unicast round, or after three of them the plots left are judged permanent. -/
def execSowAckTimeout (s : State) : Host.Outcome State Fault Refusal :=
  onDev s (fun d =>
    match d.sowRound with
    | none => d
    | some r =>
      if r.todo.isEmpty then { d with sowRound := none }
      else if r.round < 3 then sowTurn d (r.round + 1) r.libs r.todo
      else
        let ps := (r.todo.map (·.1)).eraseDups
        let d := { d with sowRound := none }
        let d := if d.rg fBRW_STATUS_STATE = 1 ∧ d.rg fBRW_STATUS_STEP = 10 then brwWarn d 0x0113 else d
        let d := ps.foldl (fun d p => judge d p 9 0x0113 5 none 0 none) d
        sparingNext d)

end Sys2Proof.Machine
end

