-- ==== Sys2Proof/Machine/Replica.lean ====
section
/-! DEFINITION. Replica groups and their tallies, the wall-clock stamp and the registers of the silent-error defence (R493 to
R495, R497, R498, R501, R502). -/

namespace Sys2Proof.Machine

/-! ## Registers -/

/-- A write of SED_CFG (R502). -/
def sedCfgWrite (d : Dev) (data : Nat) : Dev :=
  if bitsOf data 32 16 = 0 ∨ bitsOf data 16 16 = 0 then sedErrAny d 0x100F
  else ((d.rs fSED_CFG_TALLY_TIMEOUT (bitsOf data 32 16)).rs fSED_CFG_TALLY_PERIOD (bitsOf data 16 16)).rs fSED_CFG_TALLY_EN
    (bitsOf data 0 1)

/-- SED_CFG_WRITE (R502). -/
def execSedCfgWrite (data : Nat) (s : State) : Host.Outcome State Fault Refusal := onDev s (fun d => sedCfgWrite d data)

/-- A write of SED_CRIT_FLIP (R498). -/
def sedCritFlipWrite (d : Dev) (data : Nat) : Dev :=
  (((d.rs fSED_CRIT_FLIP_ARM (bitsOf data 16 1)).rs fSED_CRIT_FLIP_WORD (bitsOf data 13 3)).rs fSED_CRIT_FLIP_COPY
    (bitsOf data 8 2)).rs fSED_CRIT_FLIP_MASK (bitsOf data 0 8)

/-- SED_CRIT_FLIP_WRITE (R498). -/
def execSedCritFlipWrite (data : Nat) (s : State) : Host.Outcome State Fault Refusal :=
  onDev s (fun d => sedCritFlipWrite d data)

/-- A write of PLOT_MEM_FLIP (R497). -/
def plotMemFlipWrite (pl : Plot) (data : Nat) : Plot :=
  ((((pl.rs fPLOT_MEM_FLIP_ARM (bitsOf data 26 1)).rs fPLOT_MEM_FLIP_CHANNEL (bitsOf data 24 2)).rs fPLOT_MEM_FLIP_CLASS
    (bitsOf data 22 2)).rs fPLOT_MEM_FLIP_POS_B (bitsOf data 15 7)).rs fPLOT_MEM_FLIP_POS_A (bitsOf data 0 8)

/-- PLOT_MEM_FLIP_WRITE (R497). -/
def execPlotMemFlipWrite (p data : Nat) (s : State) : Host.Outcome State Fault Refusal :=
  onDev s (fun d => if isPlot p then (wakePlot d p).modPlot p (fun pl => plotMemFlipWrite pl data) else d)

/-- CLOCK_STAMP: the stamp is held unchanged until the next one (R501). -/
def execClockStamp (s : State) : Host.Outcome State Fault Refusal :=
  onDev s (fun d => onMail d 0x0201 (fun d m =>
    if !m.shape 16 12 4 then mailReply d 0x0704 []
    else mailReply { d with trust := { d.trust with stamp := some (m.v 0 8, m.v 8 4) } } 0 []))

/-! ## Groups (R493, R495, R501) -/

/-- A replica of this device replaced, or added. -/
def setReplica (d : Dev) (g : Replica) : Dev :=
  let rest := d.sed.groups.filter (fun x => x.group ≠ g.group || x.self ≠ g.self)
  { d with sed := { d.sed with groups := rest ++ [g] } }

/-- REPLICA_SET (R501). -/
def replicaSet (d : Dev) (m : Mail) : Dev :=
  if !m.shape 48 40 8 then mailReply d 0x0704 []
  else if 63 < m.v 0 2 ∨ m.v 3 1 < 2 ∨ 16 < m.v 3 1 ∨ m.v 3 1 ≤ m.v 2 1 ∨ 1024 < m.v 4 2 + m.v 6 2 then mailReply d 0x100F []
  else
    let devs := (List.range 16).map (fun r => m.v (8 + 2 * r) 2)
    mailReply (replicaHold (setReplica d ⟨m.v 0 2, m.v 2 1, m.v 3 1, m.v 4 2, m.v 6 2, devs, 0, none, [], 0⟩)) 0 []

/-- REPLICA_SET (R501). -/
def execReplicaSet (s : State) : Host.Outcome State Fault Refusal := onDev s (fun d => onMail d 0x0202 replicaSet)

/-- What a replica does once it is expelled or flagged: its device records the code, fails every slot whose steps use the
group's plots, and runs no such step (R495). -/
def replicaStop (d : Dev) (g : Replica) (code flagged : Nat) : Dev :=
  let d := setReplica (sedErrAny d code) { g with flagged := flagged }
  let used := d.steps.placement.any (fun pm => decide (g.first < pm.plots) && decide (0 < g.plots))
  let d := if used then slotsFail d ((List.range 16).filter (fun s => slotSt d s ≠ 0)) code else d
  replicaHold (signature d ⟨code, 9, none, none, some g.group, 7, 0, [], if flagged = 2 then 6 else 5, none, 0⟩)

/-- REPLICA_DECIDE: steps resume when the replica is kept, or when another is expelled; an expelled replica waits for its
placement to be unloaded (R495). -/
def replicaDecide (d : Dev) (m : Mail) : Dev :=
  let gs := d.sed.groups.filter (fun g => g.group = m.v 0 2 && (g.flagged = 1 || g.flagged = 2))
  if !m.shape 8 4 4 then mailReply d 0x0704 []
  else if gs.isEmpty ∨ 1 < m.v 3 1 then mailReply d 0x100F []
  else
    let d := gs.foldl (fun d g =>
      if m.v 3 1 = 1 ∧ g.self = m.v 2 1 then
        signature (setReplica d { g with flagged := 3 }) ⟨0x100B, 9, none, none, some g.group, 7, 0, [], 5, none, 0⟩
      else setReplica d { g with flagged := 0 }) d
    mailReply (replicaHold d) 0 []

/-- REPLICA_DECIDE (R495). -/
def execReplicaDecide (s : State) : Host.Outcome State Fault Refusal := onDev s (fun d => onMail d 0x0204 replicaDecide)

/-! ## Digests (R494) -/

/-- TALLY_TIMEOUT in ac cycles. -/
def tallyWait (d : Dev) : Nat := d.rg fSED_CFG_TALLY_TIMEOUT * 25000

/-- The digest of a replica: SHAKE256 over the tallies of its scope. -/
def replicaDigest (d : Dev) (g : Replica) : List Byte :=
  shake256 32 ((List.range g.plots).flatMap (fun i =>
    let pl := match d.phys (g.first + i) with
      | some p => d.plot p
      | none => Plot.reset
    (List.range 16).flatMap (fun t =>
      leBytes 8 (pl.rg (fBED_TINE_TALLY_EVEN_CRC.at t)) ++ leBytes 8 (pl.rg (fBED_TINE_TALLY_ODD_CRC.at t)))))

/-- A digest reaches every replica of a group on this device. -/
def digestIn (d : Dev) (group replica now : Nat) (b : List Byte) : Dev :=
  { d with sed := { d.sed with groups := d.sed.groups.map (fun g =>
    if g.group = group then { g with digests := SMap.insert replica (b, now) g.digests } else g) } }

/-- The digests in hand at `now`, by replica. -/
def currentDigests (d : Dev) (g : Replica) (now : Nat) : List (Nat × List Byte) :=
  (g.digests.filter (fun e => decide (e.1 < g.count) && (e.1 = g.self || decide (now ≤ e.2.2 + tallyWait d)))).map
    (fun e => (e.1, e.2.1))

/-- The digest that a strict majority holds, if there is one. -/
def majority (ds : List (Nat × List Byte)) : Option (List Byte) :=
  (ds.find? (fun e => decide (ds.length < 2 * (ds.filter (fun x => x.2 = e.2)).length))).map (·.2)

/-- REPLICA_VERDICT (R501). -/
def verdictMail (d : Dev) (g : Replica) (replica verdict epoch code : Nat) : Dev :=
  mailUnsolicited d 0x0203 (leBytes 2 g.group ++ leBytes 1 replica ++ leBytes 1 verdict ++ leBytes 4 epoch ++ leBytes 2 code ++
    zeros 6)

/-- A replica compares the digests in hand (R495). -/
def replicaCompare (d : Dev) (g : Replica) (epoch now : Nat) : Dev :=
  let g := { g with waiting := none }
  let d := setReplica d g
  let ds := currentDigests d g now
  let own := (SMap.get ([], 0) g.digests g.self).1
  if ds.all (fun e => e.2 = own) then d
  else
    let d := d.count fSED_CNT_TALLY_MISMATCHES 1
    match (if 3 ≤ ds.length then majority ds else none) with
    | some m =>
      let d := (ds.filter (fun e => e.2 ≠ m)).foldl (fun d e => verdictMail d g e.1 1 epoch 0x100B) d
      if own = m then d else replicaStop d g 0x100B 1
    | none => replicaStop (verdictMail d g g.self 2 epoch 0x100A) g 0x100A 2

/-- A replica that waits compares as soon as every peer's digest is current. -/
def replicaCheck (d : Dev) (now : Nat) : Dev :=
  d.sed.groups.foldl (fun d g => match g.waiting with
    | some w => if (currentDigests d g now).length = g.count then replicaCompare d g w.1 now else d
    | none => d) d

/-- An epoch of a replica ends: its digest goes to every other replica of the group. -/
def epochEnd (d : Dev) (g : Replica) (epoch now : Nat) : Dev :=
  let b := replicaDigest d g
  let own := d.rg fSOP_DEV_DEV_ID
  let d := setReplica d { g with waiting := some (epoch, now) }
  let d := digestIn d g.group g.self now b
  let body := leBytes 2 g.group ++ leBytes 1 g.self ++ zeros 1 ++ leBytes 4 epoch ++ b
  let others := ((List.range g.count).filter (fun r => r ≠ g.self)).map (fun r => g.devs.getD r 0)
  (others.filter (fun o => o ≠ own)).foldl (fun d o =>
    let m := leBytes 1 0x30 ++ leBytes 1 4 ++ leBytes 2 o ++ leBytes 2 own ++ leBytes 1 (d.rg fSOP_DEV_HOP_LIMIT) ++ zeros 1 ++
      leBytes 2 0x0100 ++ leBytes 2 40 ++ zeros 4 ++ padTo 48 body
    (sopSend d 1024 o 3 m).1) d

/-- A step has committed: every replica counts it, and those whose epoch it ends form their digests (R493, R494). -/
def replicaStep (d : Dev) (now : Nat) : Dev :=
  if d.rg fSED_CFG_TALLY_EN = 0 then d
  else
    let period := d.rg fSED_CFG_TALLY_PERIOD
    let d := d.sed.groups.foldl (fun d g =>
      let g := { g with done := g.done + 1 }
      if g.done % period = 0 then epochEnd d g (g.done / period - 1) now else setReplica d g) d
    replicaCheck d now

/-- Ervoec takes the tally messages of the shed's queue. -/
def tallyTake : Nat → Dev → Nat → Dev
  | 0, d, _ => d
  | n + 1, d, now =>
    match mgmtTake d (fun m => m.type / 256 = 1) with
    | none => d
    | some r =>
      let v (i k : Nat) : Nat := leValue ((r.2.body.drop i).take k)
      tallyTake n (if r.2.type = 0x0100 ∧ r.2.body.length = 40 then
        digestIn r.1 (v 0 2) (v 2 1) now ((r.2.body.drop 8).take 32) else r.1) now

/-- TALLY: the message reaches the queue, and Ervoec takes it at `now` while it runs (R394, R494). -/
def execTally (port : Nat) (msg : List Byte) (now : Nat) (s : State) : Host.Outcome State Fault Refusal :=
  onDev s (fun d =>
    let d := mgmtArrive d port msg 0x30
    if d.rg fSHD_FW_STATE = 2 then replicaCheck (tallyTake 64 d now) now else d)

/-- TALLY_WAIT_EXPIRY: at `now`, peers without a current digest are left out, each recorded (R494). -/
def execTallyWaitExpiry (now : Nat) (s : State) : Host.Outcome State Fault Refusal :=
  onDev s (fun d =>
    d.sed.groups.foldl (fun d g => match g.waiting with
      | some w =>
        if w.2 + tallyWait d ≤ now then
          let have_ := (currentDigests d g now).map (·.1)
          let gone := (List.range g.count).filter (fun r => !have_.contains r)
          replicaCompare (gone.foldl (fun d _ => sedErrAny d 0x100C) d) g w.1 now
        else d
      | none => d) d)

end Sys2Proof.Machine
end

