-- ==== Sys2Proof/Machine/Shed.lean ====
section
/-! DEFINITION. Who is answered when an access to companion memory ends, the shed's engines, and what its cores reach in
their local spaces (R349, R504 to R510). -/

namespace Sys2Proof.Machine

/-! ## The end of an access to companion memory -/

/-- What a core's load gives: `n` bytes, sign-extended (log entry 42). -/
def coreValue (n v : Nat) : Nat := codeOf 64 (signedOf (8 * n) v)

/-- One access has ended, with a code if it failed: its user is answered. A descriptor's and an engine's data stay with the
access until they are taken (R349, R350). -/
def hostEnd (d : Dev) (e : HostReq × Nat) : Dev :=
  let r := e.1
  match r.user with
  | .fab q => fabAnswer d q e.2 (if r.data.isSome then [] else if e.2 = 0 then r.bytes else zeros r.len)
  | .dma p run _ => if e.2 = 0 then d else pieceDone d p run e.2
  | .job _ => d
  | .engine k =>
    if e.2 = 0 then d
    else if k = 0 then { d with shed := { d.shed with hash := d.shed.hash.map (fun x => { x with host := some ([], e.2) }) } }
    else { d with shed := { d.shed with crc := d.shed.crc.map (fun x => { x with host := some ([], e.2) }) } }
  | .core c sc =>
    if e.2 ≠ 0 then d.emit (.coreTrap c (if sc then 7 else 5))
    else if sc then d.emit (.coreData c ((r.got.headD (0, [])).2.headD 0).toNat)
    else d.emit (.coreData c (coreValue r.len (leValue r.bytes)))
  | .amo c _ _ _ =>
    if e.2 ≠ 0 then d.emit (.coreTrap c 7) else d.emit (.coreData c (coreValue r.len (leValue r.bytes)))

/-- The accesses that a change of the link cache has ended. -/
def hostEnds (q : Dev × List (HostReq × Nat)) : Dev := q.2.foldl hostEnd q.1

/-- Starts an access to companion memory, and answers what is complete at once. -/
def hostGo (d : Dev) (user : HostUser) (a len : Nat) (data : Option (List Byte)) (noCopy : Bool) : Dev :=
  hostEnds (hostStart d user a len data noCopy)

/-- A message of the home: its effect, with its units freed (R345). -/
def homeMsg (s : State) (cls units : Nat) (f : Dev → Dev × List (HostReq × Nat)) : Host.Outcome State Fault Refusal :=
  onDev s (fun d => linkFree (hostEnds (f d)) 0 cls units)

/-- DATA_S (R350, R351). -/
def execDataS (tag : Nat) (data : List Byte) (s : State) : Host.Outcome State Fault Refusal :=
  homeMsg s 3 5 (fun d => cohGrant d tag [1] .shared (some data))

/-- DATA_E (R350, R351). -/
def execDataE (tag : Nat) (data : List Byte) (s : State) : Host.Outcome State Fault Refusal :=
  homeMsg s 3 5 (fun d => cohGrant d tag [1, 2, 3] .exclusive (some data))

/-- GO_E (R350, R351). -/
def execGoE (tag : Nat) (s : State) : Host.Outcome State Fault Refusal :=
  homeMsg s 2 1 (fun d => cohGrant d tag [3, 4] .exclusive none)

/-- DATA_CUR (R349, R351). -/
def execDataCur (tag : Nat) (data : List Byte) (s : State) : Host.Outcome State Fault Refusal :=
  homeMsg s 3 5 (fun d => cohCurrent d tag data)

/-- A mailbox reply that waits for the home's acknowledgement of lines: it goes out with the last of them, or with the code of
one that failed (R540). -/
def ackLine (d : Dev) (line code : Nat) : Dev :=
  match d.cpl.ackWait with
  | none => d
  | some w =>
    if !w.1.contains line then d
    else
      let left := w.1.erase line
      if code ≠ 0 then mailReply { d with cpl := { d.cpl with ackWait := none } } code []
      else if left.isEmpty then mailReply { d with cpl := { d.cpl with ackWait := none } } 0 w.2
      else { d with cpl := { d.cpl with ackWait := some (left, w.2) } }

/-- The line of a coherent request that is outstanding. -/
def cohLine (d : Dev) (tag : Nat) : Option Nat := (cohFind d tag).map (·.line)

/-- GO_WB (R350, R351, R359). -/
def execGoWb (tag : Nat) (s : State) : Host.Outcome State Fault Refusal :=
  homeMsg s 2 1 (fun d =>
    let full := (cohFind d tag).any (fun x => x.opc = 8 && x.ring = 0)
    let r := cohWritten d tag
    (if full then (cohLine d tag).elim r.1 (fun l => ackLine r.1 l 0) else r.1, r.2))

/-- A coherent request ends in an error (R350). -/
def cohEnd (d : Dev) (tag code : Nat) (expire : Bool) : Dev × List (HostReq × Nat) :=
  let r := cohFail d tag code expire
  ((cohLine d tag).elim r.1 (fun l => ackLine r.1 l code), r.2)

/-- COH_ERR (R350). -/
def execCohErr (tag : Nat) (s : State) : Host.Outcome State Fault Refusal := homeMsg s 2 1 (fun d => cohEnd d tag 0x0713 false)

/-- COH_TIMEOUT (R350). -/
def execCohTimeout (tag : Nat) (s : State) : Host.Outcome State Fault Refusal :=
  onDev s (fun d => hostEnds (cohEnd d tag 0x0708 true))

/-- Whether a request goes through the link cache: a master of the device, in companion memory (R349). -/
def cacheMaster (r : FabReq) : Bool :=
  decide (hostBase ≤ r.addr) && decide (r.addr + reqLen r ≤ 0x1000000000000) && match r.master with
    | .companion _ => false
    | .scaleout _ _ _ => false
    | .weeder _ => false
    | _ => true

/-- LINK_CACHE_READ: with `lr` a core's load-reserved (R349, R350). -/
def execLinkCacheRead (r : FabReq) (lr : Bool) (s : State) : Host.Outcome State Fault Refusal :=
  onDev s (fun d =>
    match cacheMaster r, r.op, lr, r.master with
    | true, .read n, false, _ => hostGo d (.fab r) r.addr n none false
    | true, .read n, true, .shed c =>
      if n ≠ 4 ∧ n ≠ 8 then d
      else if r.addr % n ≠ 0 then d.emit (.coreTrap c 4)
      else hostGo d (.core c false) r.addr n none false
    | _, _, _, _ => d)

/-- LINK_CACHE_WRITE: with `sc` a core's store-conditional (R349, R350). -/
def execLinkCacheWrite (r : FabReq) (sc : Bool) (s : State) : Host.Outcome State Fault Refusal :=
  onDev s (fun d =>
    match cacheMaster r, r.op, sc, r.master with
    | true, .write b, false, _ => hostGo d (.fab r) r.addr b.length (some b) false
    | true, .write b, true, .shed c =>
      if b.length ≠ 4 ∧ b.length ≠ 8 then d
      else if r.addr % b.length ≠ 0 then d.emit (.coreTrap c 6)
      else hostGo d (.core c true) r.addr b.length (some b) false
    | _, _, _, _ => d)

/-! ## Atomic operations of the shed (R286, R349) -/

/-- An atomic operation at the owning controller: it crosses the bridge to the east half, waits for earlier requests to its
sector, is counted and charged as a read and a write, returns the old value, and traps where the access completes with an error
(R282, R285, R286, R305, R310, R439). -/
def amoGddr (d : Dev) (op core addr : Nat) (dbl : Bool) (operand : Nat) (report : List Nat) : Dev :=
  let n := if dbl then 8 else 4
  let c := (gddrMap addr).1
  let r : FabReq := ⟨.shed core, 6, .reduce 0 (leBytes n operand), addr, none, false, 0, report⟩
  let east := decide (12 ≤ c)
  if east && decide (d.rg fFAB_BRIDGE_STATUS_DOWN = 1) then d.emit (.coreTrap core 7)
  else if d.rg fAON_DSTATE_STATE = 3 then (recordErr d 1 0 0x0204).emit (.coreTrap core 7)
  else if !gdcTakes d c then (gdcErr d c fGDC_ERR_CHANNEL_DOWN 0x0906).emit (.coreTrap core 7)
  else if gdcState d c ≠ 2 ∨ (d.point c).queue.any (fun w => sameSector w.req r) then d
  else
    let d := gdcEvents (chargeAt (if east then chargeAt d 24 r else d) c r) c r
    let d := linkFlip (linkFlip (countAccess d c) c r false) c r true
    let q := sectorReport d (addr / 32 * 32) (report.headD 0)
    let m := gddrMap (addr / 32 * 32)
    if q.2 then (gdcErrAddr (gdcErr q.1 c fGDC_ERR_RMW_UNCORR 0x0902) c m.2 true).emit (.coreTrap core 7)
    else
      let old := leValue (memRead q.1.gddr addr n)
      let new := amoValue op (8 * n) old (operand % 2 ^ (8 * n))
      let d := { q.1 with gddr := memWrite q.1.gddr addr (leBytes n new) }.count (fGDC_ADD_CNT_AMOS.at c) 1
      d.emit (.coreData core (coreValue n old))

/-- An atomic operation: on GDDR7 at the controller, on companion memory in the link cache; elsewhere an access fault, and
misaligned a store-address-misaligned fault (R286, R349, R504, log entry 42). -/
def amoRun (d : Dev) (op core addr : Nat) (dbl : Bool) (operand : Nat) (report : List Nat) : Dev :=
  let n := if dbl then 8 else 4
  if 8 ≤ core then d
  else if addr % n ≠ 0 then d.emit (.coreTrap core 6)
  else if addr < 0x1800000000 then amoGddr d op core addr dbl operand report
  else if hostBase ≤ addr ∧ addr < 0x1000000000000 then hostGo d (.amo core op dbl operand) addr n none false
  else d.emit (.coreTrap core 7)

/-- AMOSWAP (R286). -/
def execAmoSwap (core addr : Nat) (dbl : Bool) (operand : Nat) (report : List Nat) (s : State) :
    Host.Outcome State Fault Refusal := onDev s (fun d => amoRun d 0 core addr dbl operand report)

/-- AMOADD (R286). -/
def execAmoAdd (core addr : Nat) (dbl : Bool) (operand : Nat) (report : List Nat) (s : State) :
    Host.Outcome State Fault Refusal := onDev s (fun d => amoRun d 1 core addr dbl operand report)

/-- AMOAND (R286). -/
def execAmoAnd (core addr : Nat) (dbl : Bool) (operand : Nat) (report : List Nat) (s : State) :
    Host.Outcome State Fault Refusal := onDev s (fun d => amoRun d 2 core addr dbl operand report)

/-- AMOOR (R286). -/
def execAmoOr (core addr : Nat) (dbl : Bool) (operand : Nat) (report : List Nat) (s : State) :
    Host.Outcome State Fault Refusal := onDev s (fun d => amoRun d 3 core addr dbl operand report)

/-- AMOXOR (R286). -/
def execAmoXor (core addr : Nat) (dbl : Bool) (operand : Nat) (report : List Nat) (s : State) :
    Host.Outcome State Fault Refusal := onDev s (fun d => amoRun d 4 core addr dbl operand report)

/-- AMOMIN (R286). -/
def execAmoMin (core addr : Nat) (dbl : Bool) (operand : Nat) (report : List Nat) (s : State) :
    Host.Outcome State Fault Refusal := onDev s (fun d => amoRun d 5 core addr dbl operand report)

/-- AMOMAX (R286). -/
def execAmoMax (core addr : Nat) (dbl : Bool) (operand : Nat) (report : List Nat) (s : State) :
    Host.Outcome State Fault Refusal := onDev s (fun d => amoRun d 6 core addr dbl operand report)

/-- AMOMINU (R286). -/
def execAmoMinu (core addr : Nat) (dbl : Bool) (operand : Nat) (report : List Nat) (s : State) :
    Host.Outcome State Fault Refusal := onDev s (fun d => amoRun d 7 core addr dbl operand report)

/-- AMOMAXU (R286). -/
def execAmoMaxu (core addr : Nat) (dbl : Bool) (operand : Nat) (report : List Nat) (s : State) :
    Host.Outcome State Fault Refusal := onDev s (fun d => amoRun d 8 core addr dbl operand report)

/-- LR_SC_GDDR7_FAULT: a load or store access fault on the core (R286). -/
def execLrScGddr7Fault (core addr : Nat) (sc : Bool) (s : State) : Host.Outcome State Fault Refusal :=
  onDev s (fun d => if addr < 0x1800000000 then d.emit (.coreTrap core (if sc then 7 else 5)) else d)

/-! ## Local spaces of the cores (R505) -/

/-- Base of the mask ROM (R505). -/
def romBase : Nat := 0x1000000000000

/-- Bytes of the mask ROM (R505). -/
def romBytes : Nat := 0x40000

/-- Base of shed SRAM (R505). -/
def sramBase : Nat := 0x1000010000000

/-- Bytes of shed SRAM (R505). -/
def sramBytes : Nat := 0x400000

/-- Base of the cores' timers (R505). -/
def timerBase : Nat := 0x1000020000000

/-- Whether a range lies wholly within a space. -/
def within (a n base size : Nat) : Bool := decide (base ≤ a) && decide (a + n ≤ base + size)

/-- Bytes of the mask ROM from an offset (R533). -/
def romRead (off n : Nat) : List Byte := (List.range n).map (fun i => Config.romByte (off + i))

/-- A core's timer, `now` ac cycles after its release (R504). -/
def timerRead (d : Dev) (c now : Nat) (cmp : Bool) : Nat :=
  let x := SMap.get Core.reset d.shed.cores c
  if cmp then x.mtimecmp else (x.mtime + now) % 2 ^ 64

/-- A write of a core's timer: mtimecmp ahead of mtime takes the interrupt back (R504, log entry 43). -/
def timerWrite (d : Dev) (c now : Nat) (cmp : Bool) (v : Nat) : Dev :=
  let x := SMap.get Core.reset d.shed.cores c
  let x := if cmp then { x with mtimecmp := v } else { x with mtime := (v + 2 ^ 64 - now % 2 ^ 64) % 2 ^ 64 }
  let x := { x with mtip := x.mtip && decide (x.mtimecmp ≤ (x.mtime + now) % 2 ^ 64) }
  { d with shed := { d.shed with cores := SMap.set Core.reset d.shed.cores c x } }

/-- A load (1), store (2) or fetch (0) of a core in its local spaces (R504 to R506): ROM is read and executed only, SRAM serves
any alignment, and a core's timer is two 8-byte registers. -/
def shedLocal (d : Dev) (core kind addr len data now : Nat) : Dev :=
  let fault := d.emit (.coreTrap core (if kind = 0 then 1 else if kind = 1 then 5 else 7))
  if kind = 1 ∧ ¬ within addr len sramBase sramBytes ∧ addr % len ≠ 0 then d.emit (.coreTrap core 4)
  else if kind = 2 ∧ ¬ within addr len sramBase sramBytes ∧ addr % len ≠ 0 then d.emit (.coreTrap core 6)
  else if within addr len romBase romBytes then
    if kind = 2 then fault else d.emit (.coreData core (coreValue len (leValue (romRead (addr - romBase) len))))
  else if within addr len sramBase sramBytes then
    if kind = 2 then
      let r := sramWrite d core (addr - sramBase) (leBytes len data)
      if r.2 then r.1 else r.1.emit (.coreTrap core 7)
    else
      let r := sramRead d core (addr - sramBase) len
      match r.2 with
      | some b => r.1.emit (.coreData core (coreValue len (leValue b)))
      | none => r.1.emit (.coreTrap core (if kind = 0 then 1 else 5))
  else if within addr len timerBase 0x8000 ∧ len = 8 ∧ addr % 0x1000 ≤ 8 ∧ kind ≠ 0 then
    let c := (addr - timerBase) / 0x1000
    let cmp := decide (addr % 0x1000 = 8)
    if kind = 2 then timerWrite d c now cmp (data % 2 ^ 64) else d.emit (.coreData core (timerRead d c now cmp))
  else fault

/-- SHED_LOCAL_ACCESS (R505, R506). -/
def execShedLocalAccess (core kind addr len data now : Nat) (s : State) : Host.Outcome State Fault Refusal :=
  onDev s (fun d =>
    if core < 8 ∧ coreRuns d core ∧ kind < 3 ∧ (len = 1 ∨ len = 2 ∨ len = 4 ∨ len = 8) ∧ romBase ≤ addr then
      shedLocal d core kind addr len data now
    else d)

/-! ## The engines (R508 to R510) -/

/-- Whether an engine's source breaks the rule of R510 for shed-local space. -/
def engineBad (src len : Nat) : Bool :=
  decide (romBase < src + len) && !within src len romBase romBytes && !within src len sramBase sramBytes

/-- A GO of an engine that is not busy: a length of 0 completes at once; a source in companion memory is read through the link
cache (R349, R510). `k`: 0 SHAKE256, 1 CRC-64. -/
def engineGo (d : Dev) (k ctrl src len : Nat) : Dev :=
  if len = 0 then raiseEdge d (90 + k)
  else if engineBad src len then shdErr d 0 0x0410
  else
    let x : EngRun := ⟨ctrl, src, len, none⟩
    let d := if k = 0 then { d with shed := { d.shed with hash := some x } }.rs fSHD_HASH_CTRL_BUSY 1
      else { d with shed := { d.shed with crc := some x } }.rs fSHD_CRC_CTRL_BUSY 1
    if hostBase ≤ src ∧ src < romBase then hostGo d (.engine k) src len none false else d

/-- A write of SHD_HASH_CTRL (R508, R521). -/
def hashCtrlWrite (d : Dev) (data : Nat) : Dev :=
  let go := bitOf data 0
  if go ∧ d.rg fSHD_HASH_CTRL_BUSY = 1 then shdErr d 0 0x0408
  else
    let d := ((d.rs fSHD_HASH_CTRL_OUT64 (bitsOf data 3 1)).rs fSHD_HASH_CTRL_FINAL (bitsOf data 2 1)).rs
      fSHD_HASH_CTRL_INIT (bitsOf data 1 1)
    if go then engineGo d 0 (data % 16) (d.rg fSHD_HASH_SRC_ADDR) (d.rg fSHD_HASH_LEN_LEN) else d

/-- A write of SHD_CRC_CTRL (R509, R521). -/
def crcCtrlWrite (d : Dev) (data : Nat) : Dev :=
  let go := bitOf data 0
  if go ∧ d.rg fSHD_CRC_CTRL_BUSY = 1 then shdErr d 0 0x0408
  else
    let d := d.rs fSHD_CRC_CTRL_INIT (bitsOf data 1 1)
    if go then engineGo d 1 (data % 4) (d.rg fSHD_CRC_SRC_ADDR) (d.rg fSHD_CRC_LEN_LEN) else d

/-- SHAKE256_GO: the write of SHD_HASH_CTRL with GO (R508). -/
def execShake256Go (data : Nat) (s : State) : Host.Outcome State Fault Refusal :=
  onDev s (fun d => hashCtrlWrite d (withBit data 0))

/-- CRC64_GO: the write of SHD_CRC_CTRL with GO (R509). -/
def execCrc64Go (data : Nat) (s : State) : Host.Outcome State Fault Refusal :=
  onDev s (fun d => crcCtrlWrite d (withBit data 0))

/-- The bytes absorbed into the running state of the SHAKE256 engine; with FINAL the output follows and the state is cleared
(R508). -/
def hashAbsorb (d : Dev) (ctrl : Nat) (bytes : List Byte) : Dev :=
  let a := if bitOf ctrl 1 then keccakZero else d.shed.lanes
  let b := (if bitOf ctrl 1 then [] else d.shed.tail) ++ bytes
  let a := shakeAbsorb a b
  let t := shakeTail b
  if !bitOf ctrl 2 then { d with shed := { d.shed with lanes := a, tail := t } }
  else
    let out := shakeSqueeze 1 (keccakAbsorb a (shakePad t)) (if bitOf ctrl 3 then 64 else 32)
    let d := (List.range (out.length / 8)).foldl (fun d i =>
      d.rs (fSHD_HASH_OUT_BYTES.at i) (leValue ((out.drop (8 * i)).take 8))) d
    { d with shed := { d.shed with lanes := keccakZero, tail := [] } }

/-- An engine's operation ends with the bytes of its source, or without them: then 0x0407 is recorded and the state and result
are free values (R509, R510). -/
def engineEnd (d : Dev) (k : Nat) (x : EngRun) (bytes : Option (List Byte)) : Dev :=
  let d := raiseEdge (if k = 0 then { d with shed := { d.shed with hash := none } }.rs fSHD_HASH_CTRL_BUSY 0
    else { d with shed := { d.shed with crc := none } }.rs fSHD_CRC_CTRL_BUSY 0) (90 + k)
  match bytes with
  | some b =>
    if k = 0 then hashAbsorb d x.ctrl b
    else d.rs fSHD_CRC_RESULT_CRC (crc64 (if bitOf x.ctrl 1 then 0 else d.rg fSHD_CRC_RESULT_CRC) b)
  | none =>
    let d := shdErr d 0 0x0407
    if k = 1 then
      let r := d.free 64
      r.1.rs fSHD_CRC_RESULT_CRC r.2
    else
      let d := (List.range 25).foldl (fun (d : Dev) i =>
        let r := d.free 64
        { r.1 with shed := { r.1.shed with lanes := r.1.shed.lanes.set i (BitVec.ofNat 64 r.2) } }) { d with shed := { d.shed with tail := [] } }
      (List.range 8).foldl (fun (d : Dev) i =>
        let r := d.free 64
        r.1.rs (fSHD_HASH_OUT_BYTES.at i) r.2) d

end Sys2Proof.Machine
end

