-- ==== Sys2Proof/Machine/TestPack.lean ====
section
/-! DEFINITION. Test content packs (R490, R491). -/

namespace Sys2Proof.Machine

/-! ## The store (R490, R563) -/

/-- Where pack `k` lies in module flash. -/
def flPACK (k : Nat) : Nat := 0x1000000 + k * 0x140000

/-- The fields of a pack: program words, tine words and input bytes. -/
def packLens (b : List Byte) : Nat × Nat × Nat := (recV b 16 2, recV b 18 2, recV b 20 4)

/-- Bytes of a pack before its signature. -/
def packBody (b : List Byte) : Nat := 128 + 8 * (packLens b).1 + 4 * (packLens b).2.1 + (packLens b).2.2

/-- The pack stored at place `k`, up to its signature; its MAGIC tells a stored pack from erased flash. -/
def packAt (d : Dev) (k : Nat) : Option (List Byte) :=
  let h := flRead d (flPACK k) 128
  if recV h 0 4 = 0x54325246 then some (flRead d (flPACK k) (packBody h)) else none

/-- The place of the pack with an identifier. -/
def packPlace (d : Dev) (id : Nat) : Option Nat :=
  (List.range 8).find? (fun k => match packAt d k with
    | some b => recV b 8 4 = id
    | none => false)

/-- The code that refuses a pack, or 0 (R490). -/
def packCode (f : Fuses) (d : Dev) (b : List Byte) : Nat :=
  let l := packLens b
  if b.length < 128 then 0x1010
  else if b.length < packBody b + sigBytes then 0x1010
  else if recV b 24 4 < 0x8000 ∨ 0x100000 < recV b 24 4 + recV b 28 4 then 0x1010
  else if recV b 0 4 ≠ 0x54325246 ∨ recV b 4 1 ≠ 1 ∨ recV b 6 2 ≠ 0 ∨ 8192 < l.1 ∨ 16384 < l.2.1 ∨ 1015808 < l.2.2 ∨
      recV b 64 4 = 0 ∨ 10 < recV b 68 2 ∨ !recZero b 70 58 then 0x100E
  else if sigCode f d b (packBody b) none ≠ 0 then 0x100E
  else 0

/-- TESTPACK_LOAD: a pack replaces the one of equal PACK_ID and lower VERSION, or takes a free place (R490, R501). -/
def packLoad (f : Fuses) (d : Dev) (m : Mail) : Dev :=
  if !m.shape 16 16 0 then mailReply d 0x0704 []
  else if !inGddr (m.v 0 8) (m.v 8 8) then mailReply d 0x1010 []
  else
    let b := memRead d.gddr (m.v 0 8) (min (m.v 8 8) 1310720)
    let code := packCode f d b
    if code ≠ 0 then mailReply d code []
    else
      let id := recV b 8 4
      let whole := b.take (packBody b + sigBytes)
      let reply (d : Dev) (v : Nat) : Dev := mailReply d 0 (leBytes 4 id ++ leBytes 4 v)
      match packPlace d id with
      | some k =>
        let old := recV ((packAt d k).getD []) 12 4
        if old < recV b 12 4 then reply (flWrite d (flPACK k) whole) (recV b 12 4) else reply d old
      | none => match (List.range 8).find? (fun k => (packAt d k).isNone) with
        | some k => reply (flWrite d (flPACK k) whole) (recV b 12 4)
        | none => mailReply d 0x100E []

/-- TESTPACK_LOAD (R490). -/
def execTestpackLoad (s : State) : Host.Outcome State Fault Refusal :=
  onDevFused s (fun f d => onMail d 0x0210 (packLoad f))

/-- TESTPACK_REMOVE: the sectors of the pack are erased (R501). -/
def execTestpackRemove (s : State) : Host.Outcome State Fault Refusal :=
  onDev s (fun d => onMail d 0x0211 (fun d m =>
    if !m.shape 8 4 4 then mailReply d 0x0704 []
    else match packPlace d (m.v 0 4) with
      | some k => mailReply { d with flash := { d.flash with bytes := memClear d.flash.bytes (flPACK k) 0x140000 } } 0 []
      | none => mailReply d 0 []))

/-! ## Runs (R491) -/

/-- Steps 1 and 2 of a run: the pack is sown singly, its tine store written, its input loaded, and the plot started. -/
def packStart (d : Dev) (r : PackRun) (b : List Byte) : Dev :=
  let l := packLens b
  let words := (List.range l.1).map (fun i => recV b (128 + 8 * i) 8)
  let tine := (List.range l.2.1).map (fun i => recV b (128 + 8 * l.1 + 4 * i) 4)
  let input := (b.drop (128 + 8 * l.1 + 4 * l.2.1)).take l.2.2
  let lib : SowLib := ⟨recV b 8 4, 0, words, crc64 0 (words.flatMap (leBytes 8)), 0, 0⟩
  let d := sowTurn d 1 [lib] [(r.plot, 0)]
  let d := (scrWrite (tineLoad d r.plot tine) r.plot 0x8000 input).1
  let d := { d with sed := { d.sed with packs := r :: d.sed.packs.filter (fun x => x.plot ≠ r.plot) } }
  seqStart d r.plot 0

/-- TESTPACK_RUN: pack `k` on plot `p`, which carries a number, is idle, and is in no running step (R491). -/
def execTestpackRun (p k : Nat) (s : State) : Host.Outcome State Fault Refusal :=
  onDev s (fun d =>
    let busy := d.steps.run.isSome && (placementPlots d).contains p
    match packAt d k with
    | none => d
    | some b =>
      if !isPlot p || 8 ≤ k || (d.logical p).isNone || busy || !plotQuiet (d.plot p) || d.rg fSHD_FW_STATE ≠ 2 ||
          d.sed.packs.any (fun x => x.plot = p) then d
      else packStart (wakePlot d p) ⟨p, k, false⟩ b)

/-- A run ends, and the placement's libraries and tine store are restored. -/
def packEnd (d : Dev) (p : Nat) : Dev :=
  let d := { d with sed := { d.sed with packs := d.sed.packs.filter (fun x => x.plot ≠ p) } }
  match d.logical p with
  | some n => if (d.plot p).seq = seqIDLE then plotRestore d n else d
  | none => d

/-- A run fails: it counts as a transient on the unit that the pack names, and is rerun at once; a failure of the rerun is
permanent (R482, R491). A pack of a unit that no counter counts adds no history. -/
def packFail (d : Dev) (r : PackRun) (b : List Byte) : Dev :=
  let kind := recV b 68 2
  let p := r.plot
  let sub := if kind = 4 then some 0 else none
  let pc := (d.plot p).rg fPLOT_SEQ_STOP_PC
  let earlier := if kind ≤ 4 then recentTransients d p kind else 0
  let sign (d : Dev) (verdict : Nat) : Dev :=
    signature d ⟨0x100D, kind, some p, d.logical p, sub, verdict, pc, capture (d.plot p) kind, 0, none, earlier⟩
  let d := sedErr d p 0x100D
  if r.again then packEnd (judge (sign d 6) p 6 0x100D kind sub pc none) p
  else
    let d := sign (d.count fSED_CNT_TRANSIENTS 1) 6
    let d := if kind ≤ 4 then
        { d with sed := { d.sed with history := (p, kind, lifeCount d p kind) :: d.sed.history } } else d
    if earlier ≠ 0 then packEnd (judge (sign d 5) p 5 0x1002 kind sub pc none) p
    else if (d.plot p).seq = seqIDLE then packStart d { r with again := true } b
    else { d with sed := { d.sed with packs := { r with again := true } :: d.sed.packs.filter (fun x => x.plot ≠ p) } }

/-- The run on plot `p`, with its pack. -/
def packRun (d : Dev) (p : Nat) : Option (PackRun × List Byte) :=
  match d.sed.packs.find? (fun x => x.plot = p) with
  | some r => (packAt d r.pack).map (fun b => (r, b))
  | none => none

/-- HALT_WAIT_END: the sequencer goes IDLE; a pack's result region is held against its digest (R136, R491). -/
def execHaltWaitEnd (p : Nat) (s : State) : Host.Outcome State Fault Refusal :=
  onDev s (fun d =>
    let n := haltWaitEnd d p
    if (d.plot p).seq = seqRUNNING ∧ (n.plot p).seq = seqIDLE then
      match packRun n p with
      | none => n
      | some r =>
        let res := memRead n.scr (scrBase p + recV r.2 24 4) (recV r.2 28 4)
        if shake256 32 res = (r.2.drop 32).take 32 then packEnd n p else packFail n r.1 r.2
    else n)

/-- SEQ_DRAIN_DONE: the drain of a stop ends; a pack run that a check stopped has failed, and one that was aborted at its time
limit runs again (R136, R491). -/
def execSeqDrainDone (p : Nat) (s : State) : Host.Outcome State Fault Refusal :=
  onDev s (fun d =>
    let n := seqDrainDone d p
    if (d.plot p).seq = seqSTOPPING ∧ (n.plot p).seq ≠ seqSTOPPING then
      match packRun n p with
      | none => n
      | some r => if (n.plot p).seq = seqSTOPPED then packFail (seqAbort n p) r.1 r.2 else packStart n r.1 r.2
    else n)

/-- TESTPACK_TIMEOUT: MAX_AC has passed without HALT; the plot is aborted and the run fails (R491). -/
def execTestpackTimeout (p : Nat) (s : State) : Host.Outcome State Fault Refusal :=
  onDev s (fun d =>
    match packRun d p with
    | none => d
    | some r => if (d.plot p).seq = seqRUNNING then packFail (seqAbort d p) r.1 r.2 else d)

end Sys2Proof.Machine
end

