-- ==== Sys2Proof/Machine/RegSpace.lean ====
section
/-! DEFINITION. The register space (R39): which register an offset names, what a read of it answers, and what a write of it
does. -/

namespace Sys2Proof.Machine

/-! ## Places (R39) -/

/-- What an offset of the register space names: a register of a plot, the push window of the bring-up window (R421), the
mailbox from or to the companion (R373), another register, a logical window without a plot (R35), or nothing (R34). -/
inductive RegPlace where
  | plot (p off : Nat)
  | push (off : Nat)
  | mboxIn (off : Nat)
  | mboxOut (off : Nat)
  | dev (off : Nat)
  | absent
  | unmapped
deriving DecidableEq, Repr

/-- Whether a plot register is reached through physical windows only: PLOT_SELFTEST, PLOT_IRQ, PLOT_PWR, the counts of
instructions and the counter bank (R448, R502, R521, R554). -/
def physicalOnly (off : Nat) : Bool :=
  decide (off = 0xF48) || decide (off = 0xF50) || decide (off = 0xF80) || decide (0x3000 ≤ off)

/-- Whether an offset of a plot window is a register's. -/
def plotMapped (off : Nat) : Bool :=
  if 0x3800 ≤ off then !(fieldsAt flds_bank (off - 0x3800)).isEmpty else !(fieldsAt flds_plot off).isEmpty

/-- The block whose counter bank an offset lies in, and the bank's start (R554). -/
def bankAt (off : Nat) : Option ((Nat × Nat) × Nat) :=
  (deviceBanks.find? (fun b => decide (bankOffset b.1 b.2 ≤ off) && decide (off < bankOffset b.1 b.2 + 0x100))).map
    (fun b => (b, bankOffset b.1 b.2))

/-- The target and word of an offset of ICU_TGT's ENABLE_SET or ENABLE_CLR (R521). -/
def icuEnableAt (off : Nat) (clr : Bool) : Option (Nat × Nat) :=
  let b := 0x342040 + (if clr then 0x40 else 0)
  if b ≤ off ∧ off < b + 0x800 ∧ (off - b) % 0x100 < 0x40 ∧ off % 8 = 0 then some ((off - b) / 0x100, (off - b) % 0x100 / 8)
  else none

/-- Whether an offset outside the plot windows is a register's. -/
def devMapped (off : Nat) : Bool :=
  match bankAt off with
  | some b => !(fieldsAt flds_bank (off - b.2)).isEmpty
  | none => (icuEnableAt off false).isSome || (icuEnableAt off true).isSome || !(fieldsAt fldsDevice off).isEmpty

/-- What an offset names; its low three bits lie within the 8 bytes of a register. -/
def regPlace (d : Dev) (off : Nat) : RegPlace :=
  let o := off / 8 * 8
  if 0x2000000 ≤ o then
    let p := (o - 0x2000000) / 0x4000
    if isPlot p && plotMapped (o % 0x4000) then .plot p (o % 0x4000) else .unmapped
  else if 0x1000000 ≤ o then
    match d.phys ((o - 0x1000000) / 0x4000) with
    | none => .absent
    | some p => if !physicalOnly (o % 0x4000) && plotMapped (o % 0x4000) then .plot p (o % 0x4000) else .unmapped
  else if 0x80000 ≤ o ∧ o < 0x100000 then .push (o - 0x80000)
  else if 0x601000 ≤ o ∧ o < 0x602000 then .mboxIn (o - 0x601000)
  else if 0x602000 ≤ o ∧ o < 0x603000 then .mboxOut (o - 0x602000)
  else if devMapped o then .dev o
  else .unmapped

/-- Whether an access has the width of its register: 8 bytes, 4 for PLOT_FMT_STATUS (R14, R80). -/
def regWidthOk (pl : RegPlace) (off n : Nat) : Bool :=
  decide (off % 8 = 0) && match pl with
    | .plot _ 0xF00 => decide (n = 4)
    | _ => decide (n = 8)

/-! ## Reads -/

/-- The instance of a register array whose field lies at an offset. -/
def Fld.idx (f : Fld) (off : Nat) : Option (Nat × Nat) :=
  (f.inst off).map (fun g => ((if f.s1 = 0 then 0 else min (f.n1 - 1) ((off - f.off) / f.s1)),
    if f.s2 = 0 then 0 else (g.off - f.off - (if f.s1 = 0 then 0 else min (f.n1 - 1) ((off - f.off) / f.s1)) * f.s1) / f.s2))

/-- A word with a field set. -/
def putFld (w : Nat) (f : Fld) (v : Nat) : Nat :=
  w - bitsOf w f.lo f.w * 2 ^ f.lo + v % 2 ^ f.w * 2 ^ f.lo

/-- Accumulator segments in a check state (R127). -/
def segsIn (pl : Plot) (st : Nat) : Nat :=
  (pl.units.filter (fun e => decide (4096 ≤ e.1) && decide (unitState pl e.1 = st))).length

/-- The check bits of a tine instruction as they are stored (R183). -/
def tineCheck (word err : Nat) : Nat :=
  let pos := (List.range 39).filter (fun k => 3 ≤ k && k ≠ 4 && k ≠ 8 && k ≠ 16 && k ≠ 32)
  let bits := (List.range 32).zip pos
  let c (j : Nat) : Nat := (bits.filter (fun e => bitOf word e.1 && bitOf e.2 j)).length % 2
  let six := ((List.range 6).map (fun j => c j * 2 ^ j)).sum
  let all := (popCount 32 word + popCount 6 six) % 2
  (six + 64 * all) ^^^ (err / 2 ^ 32)

/-- A read of BED_TINE_PM_DATA: the word of the lowest channel named, as stored, with its check bits (R184, R210). -/
def tinePmRead (pl : Plot) : Nat :=
  match (List.range 4).find? (bitOf (pl.rg fBED_TINE_PM_ADDR_CHMASK)) with
  | none => 0
  | some ch =>
    let i := pl.rg fBED_TINE_PM_ADDR_INDEX
    let w := SMap.get 0xFFFFFFFF (pl.chan ch).pm i
    let e := SMap.get 0 (pl.chan ch).pmErr i
    (w ^^^ (e % 2 ^ 32)) + tineCheck w e * 2 ^ 32

/-- A read of PLOT_SCR_PROBE (R170). -/
def probeRead (pl : Plot) : Nat :=
  let u := pl.rg fPLOT_SCR_PROBE_UNIT
  if 5120 ≤ u then u
  else
    let x := pl.unit u
    u + (if x.born then 2 ^ 16 else 0) + (if x.read then 2 ^ 17 else 0) + unitState pl u * 2 ^ 18

/-- WAIT_KIND of PLOT_SEQ_STATUS: a HALT that waits shows as a FENCE (R136, R170, log entry 44). -/
def waitKind (pl : Plot) : Nat :=
  match pl.wait with
  | .none => 0
  | .fence _ => 2
  | .halt => 2
  | .wait _ _ => 3

/-- The value of a plot's register: stored fields, and those that follow what the plot does (R127, R170, R210, R248). -/
def plotView (d : Dev) (p off : Nat) : Nat :=
  let pl := d.plot p
  if 0x3800 ≤ off then rawWord pl.regs (flds_bank.map (Fld.inBank · 0x3800)) off
  else
    let w := plotWord pl off
    if off = 0x800 then
      let w := putFld w fPLOT_ARR_STATUS_OPEN_SEGS (segsIn pl 1)
      let w := putFld w fPLOT_ARR_STATUS_FAILED_SEGS (min 255 (segsIn pl 2))
      let w := putFld w fPLOT_ARR_STATUS_LIVE_VALID (if pl.live.isSome then 1 else 0)
      let w := putFld w fPLOT_ARR_STATUS_INJECT_PENDING (pl.rg fPLOT_ARR_INJECT_ARM)
      let w := putFld w fPLOT_ARR_STATUS_STALLED (if pl.waitLoad.isSome then 1 else 0)
      putFld w fPLOT_ARR_STATUS_BUSY (if arrBusy pl then 1 else 0)
    else if off = 0x8 then putFld (putFld w fPLOT_SEQ_STATUS_LOOP_DEPTH pl.loops.length) fPLOT_SEQ_STATUS_WAIT_KIND (waitKind pl)
    else if off = 0xC8 then
      let w := putFld w fPLOT_DMA_STATUS_READS (min 64 (((pl.dmas.filter (·.d.srcRemote)).map (·.pieces)).sum))
      putFld (putFld w fPLOT_DMA_STATUS_UNRELEASED (min 255 pl.outq.length)) fPLOT_DMA_STATUS_QUEUED (min 255 pl.dmas.length)
    else if off = 0x100 ∨ off = 0x110 then (extentOf d p ((off - 0x100) / 16)).1
    else if off = 0x108 ∨ off = 0x118 then (extentOf d p ((off - 0x108) / 16)).2
    else if off = 0x2C8 then
      let i := pl.rg fPLOT_PM_ADDR_INDEX
      SMap.get 0xFFFFFFFFFFFFFFFF pl.pm i ^^^ (SMap.get 0 pl.pmErr i % 2 ^ 64)
    else if off = 0x300 then probeRead pl
    else if 0x1000 ≤ off ∧ off < 0x1800 then d.syncGet p ((off - 0x1000) / 8)
    else if 0x2000 ≤ off ∧ off < 0x2400 ∧ off % 0x100 = 0 then
      putFld w (fBED_CH_STATUS_HOLD_COUNT.at ((off - 0x2000) / 0x100)) (pl.chan ((off - 0x2000) / 0x100)).hold.length
    else if off = 0x2408 then tinePmRead pl
    else if off = 0x2800 then
      let busy := ((List.range 16).map (fun s => if (SMap.get Stream.reset pl.streams s).bytes.isEmpty then 0 else 2 ^ s)).sum
      let w := putFld w fPLOT_ATT_STATUS_STREAM_BUSY busy
      let w := putFld w fPLOT_ATT_STATUS_ROWS ((pl.att.cfg.map (·.q)).getD 0)
      putFld w fPLOT_ATT_STATUS_STATE (if pl.att.waiting then 2 else if pl.att.cfg.isSome then 1 else 0)
    else if 0x2840 ≤ off ∧ off < 0x28C0 then
      let s := (off - 0x2840) / 8
      putFld w (fPLOT_ATT_STREAM_FILL.at s) (SMap.get Stream.reset pl.streams s).bytes.length
    else w

/-- Bits by class of a condition on a regulation point (R315). -/
def classBits (f : Nat → Bool) : Nat := ((List.range 7).map (fun c => if f c then 2 ^ c else 0)).sum

/-- The value of FAB_REG_STATUS of a point (R315). -/
def regStatus (x : RegPoint) : Nat :=
  classBits (fun c => decide (x.granted.getD c 0 < x.mins.getD c 0 * 256)) +
    classBits (fun c => decide (x.budgets.getD c 0 * 256 ≤ x.granted.getD c 0)) * 256

/-- Eight bytes of a fuse value as a word, from byte `8 i`. -/
def fuseWord (b : List Byte) (i : Nat) : Nat := leValue ((b.drop (8 * i)).take 8)

/-- The value of a register outside the plot windows: stored fields, fuses, and fields that follow the state (R299, R315, R373,
R400, R521, R552). -/
def devView (f : Fuses) (d : Dev) (off : Nat) : Nat :=
  match bankAt off with
  | some b => rawWord d.regs (flds_bank.map (Fld.inBank · b.2)) off
  | none =>
    let w := devWord d off
    match fGDC_STATUS_QUEUE.idx off, fFAB_ATTACH_ROUTER.idx off, fFAB_REG_STATUS_OVER_BUDGET.idx off, fICU_PEND_PEND.idx off,
      fICU_LEVEL_LEVEL.idx off, fICU_STACK_DEPTH.idx off, fICU_PLOT_ROW_COLS.idx off, fTRU_KEYHASH_BYTES.idx off,
      fTRU_DIE_ID_ID.idx off with
    | some i, _, _, _, _, _, _, _, _ => putFld w fGDC_STATUS_QUEUE (min 64 (d.point i.1).queue.length)
    | _, some i, _, _, _, _, _, _, _ => (Config.attachRouter i.1).toNat
    | _, _, some i, _, _, _, _, _, _ => regStatus (d.point i.1)
    | _, _, _, some i, _, _, _, _, _ =>
      ((List.range 64).map (fun j => if icuPending d (64 * i.1 + j) then 2 ^ j else 0)).sum
    | _, _, _, _, some i, _, _, _, _ =>
      ((List.range 64).map (fun j => if levelSource (64 * i.1 + j) then 2 ^ j else 0)).sum
    | _, _, _, _, _, some i, _, _, _ => icuRunning d i.1 + (icuStack d i.1).length * 16
    | _, _, _, _, _, _, some i, _, _ => plotRowCols d i.1
    | _, _, _, _, _, _, _, some i, _ => fuseWord f.keyHash i.1
    | _, _, _, _, _, _, _, _, some i => f.dieId.getD i.1 0
    | _, _, _, _, _, _, _, _, _ =>
      if off = 0x600000 then putFld w fCPL_STATUS_LINK (cplLinkState d)
      else if off = 0x600050 then putFld w fCPL_MBX_STATUS_OUT_QUEUE d.cpl.mailq.length
      else if off = 0x700810 then
        SMap.get 0 d.routes (if d.rg fSOP_ROUTE_ADDR_TABLE = 1 then 1024 + d.rg fSOP_ROUTE_ADDR_INDEX else d.rg fSOP_ROUTE_ADDR_INDEX)
      else if off = 0x700818 then putFld w fSOP_TAGS_IN_USE d.tags.length
      else if off = 0x700828 then putFld w fSOP_DEV_CNT_MGMT_QUEUE d.mgmt.length
      else w

/-- A read of a register of 8 bytes by a master; only a shed core reads DEVICE_SEED, a read of CLAIM claims, and a read of
DBG_FLASH_DATA advances (R517, R552, R567). The value, and the code with which it completes. -/
def regRead (f : Fuses) (d : Dev) (shed : Bool) (off : Nat) : Dev × Nat × Nat :=
  match fTRU_SEED_BYTES.idx off, fICU_CLAIM_ID.idx off with
  | some i, _ => if shed then (d, fuseWord f.seed i.1, 0) else (truErr d 0x0514, 0, 0x0514)
  | none, some i =>
    let r := icuClaim d i.1
    (r.1, r.2, 0)
  | none, none =>
    if off = 0xC00208 then
      let r := dbgFlashRead d
      (r.1, r.2.2, r.2.1)
    else (d, devView f d off, 0)

/-! ## Writes -/

/-- A write of a register whose fields have no rule of their own (R12). -/
def genWrite (m : SMap Nat) (fs : List Fld) (off data : Nat) : SMap Nat :=
  (fieldsAt fs off).foldl (fun m f =>
    let x := bitsOf data f.lo f.w
    match f.acc with
    | .rw => rset m f x
    | .w1c => rset m f (rget m f ^^^ (rget m f &&& x))
    | .w1s => rset m f (rget m f ||| x)
    | _ => m) m

/-- A write of a bank's register at its own offset (R555, R556). -/
def bankWrite (d : Dev) (kind inst off data : Nat) : Dev :=
  if off < 0x40 then pmcCfgWrite d kind inst (off / 8) data
  else if off < 0x80 then pmcCntWrite d kind inst ((off - 0x40) / 8) data
  else
    let base := if kind = 0 then 0x3800 else bankOffset kind inst
    let fs := flds_bank.map (Fld.inBank · base)
    let d := if kind = 0 then d.modPlot inst (fun pl => { pl with regs := genWrite pl.regs fs (base + off) data })
      else { d with regs := genWrite d.regs fs (base + off) data }
    if off = 0x90 then d.rs fPMR_STATUS_OVF_ANY (if anyOverflow d then 1 else 0) else d

/-- A write of PLOT_SEQ_CTRL: PC is stored, and CMD is done (R136, R170). -/
def seqCtrlWrite (d : Dev) (p data : Nat) : Dev :=
  let pc := bitsOf data 3 13
  let d := d.modPlot p (fun pl => pl.rs fPLOT_SEQ_CTRL_PC pc)
  let cmd := bitsOf data 0 3
  if cmd = 1 then seqStart d p pc else if cmd = 2 then seqReplay d p else if cmd = 3 then seqAbort d p
  else if cmd = 4 then seqClearFailed d p else d

/-- A write of a plot's register; but for PLOT_PWR, the access wakes the plot (R436, R437). -/
def plotRegWrite (d : Dev) (p off data : Nat) : Dev :=
  if off = 0xF80 then plotPwrWrite d p (bitsOf data 4 2)
  else
    let d := wakePlot d p
    if 0x3800 ≤ off then bankWrite d 0 p (off - 0x3800) data
    else if off = 0 then seqCtrlWrite d p data
    else if 0x40 ≤ off ∧ off < 0xC0 then writeSeqIdx d p ((off - 0x40) / 8) data
    else if 0x100 ≤ off ∧ off < 0x200 then
      d.modPlot p (fun pl => writeDmaExt pl ((off - 0x100) / 16) (decide (off % 16 = 8)) data)
    else if off = 0x2C8 then writePmData d p data
    else if 0x1000 ≤ off ∧ off < 0x1800 then d.syncSet p ((off - 0x1000) / 8) data
    else if off = 0x808 then writeArrRepair d p data
    else if off = 0x838 then d.modPlot p (fun pl => writeArrInject pl data)
    else if 0x2000 ≤ off ∧ off < 0x2400 ∧ off % 0x100 = 8 then writeBedCfg d p ((off - 0x2000) / 0x100) data
    else if 0x2000 ≤ off ∧ off < 0x2400 ∧ off % 0x100 = 0x38 then
      d.modPlot p (fun pl => writeBedFlip pl ((off - 0x2000) / 0x100) data)
    else if off = 0x2408 then writeTinePm d p data
    else if off = 0xF40 then d.modPlot p (fun pl => plotMemFlipWrite pl data)
    else if off = 0xF48 then (if bitOf data 0 then selftestGo d p else d)
    else if off = 0xF50 then plotIrqWrite d p data
    else d.modPlot p (fun pl => { pl with regs := genWrite pl.regs flds_plot off data })

/-- A write of THM_CFG: the forecast comes into use, or leaves it, at once (R457). -/
def thmCfgWrite (d : Dev) (data : Nat) : Dev :=
  let d := d.rs fTHM_CFG_FORECAST_EN (bitsOf data 0 1)
  d.rs fTHM_STATUS_FC_IN_USE (if forecastUsed d then 1 else 0)

/-- A write of SED_MOVE (R486, R502). -/
def sedMoveWrite (d : Dev) (data : Nat) : Dev :=
  let mode := bitsOf data 1 3
  let n := bitsOf data 12 10
  let s := bitsOf data 32 11
  if bitOf data 0 then moveGo d mode n s
  else ((d.rs fSED_MOVE_MODE mode).rs fSED_MOVE_LOGICAL n).rs fSED_MOVE_SPARE s

/-- A write of TRU_UPD.CMD by a shed core: 1 COMMIT, 2 REFUSE (R547, R552). -/
def truUpdWrite (d : Dev) (data : Nat) : Dev :=
  let c := bitsOf data 0 2
  if c = 1 then updCommit d
  else if c = 2 then (if d.rg fTRU_UPD_STATE ≠ 3 then truErr d 0x050A else handoverAbort d 0x0511)
  else d

/-- A write of LNE_ROLE: locked when the LANES step begins (R324, R336). -/
def lneRoleWrite (d : Dev) (o data : Nat) : Dev :=
  if lanesBegun d then d else (d.rs (fLNE_ROLE_PORT.at o) (bitsOf data 4 4)).rs (fLNE_ROLE_ROLE.at o) (bitsOf data 0 2)

/-- A ring doorbell (R358): one that passes its test sets the index and raises source 18, or 19 for the output and event rings,
and events that wait find room (R253, R512). -/
def ringDoorbellWrite (d : Dev) (r data : Nat) : Dev :=
  let new := data % 2 ^ 32
  if !doorbellOk d r new then cplErr d 0x070B
  else if r = 0 then
    let old := d.rg (fCPL_RING_IDX_PRODUCER.at 0)
    let base := d.rg (fCPL_RING_CFG_BASE.at 0)
    (List.range ((new + 2 ^ 32 - old) % 2 ^ 32)).foldl (fun d k =>
      let i := (old + k) % 2 ^ 32
      hostGo d (.job i) (base + i % ringEntries d 0 * ringSize 0) (ringSize 0) none true)
      (raiseEdge (d.rs (fCPL_RING_IDX_PRODUCER.at 0) new) 18)
  else
    let d := raiseEdge (d.rs (fCPL_RING_IDX_CONSUMER.at r) new) 19
    if r = 2 then indexLine (flushEvents d) else d

/-- A write of the window of the companion link (R373). -/
def cplRegWrite (d : Dev) (off data : Nat) : Dev :=
  let gen := { d with regs := genWrite d.regs flds_ch11 off data }
  if off = 0x600008 then cplCfgWrite d false data
  else if off = 0x600010 then cplCfgWrite d true data
  else if off = 0x600018 then heartbeatWrite d data
  else if off = 0x600040 then mboxInDb d
  else if off = 0x600048 then mboxOutAck d data
  else if off = 0x600060 then idxAddrWrite d data
  else match fCPL_RING_CFG_BASE.idx off, fCPL_RING_DB_INDEX.idx off with
    | some i, _ => ringCfgWrite d i.1 data
    | _, some i => ringDoorbellWrite d i.1 data
    | _, _ => gen

/-- A write of the windows of the shed and the interrupt controller (R521). -/
def shdRegWrite (d : Dev) (off data : Nat) : Dev :=
  let gen := { d with regs := genWrite d.regs flds_ch17 off data }
  if off = 0x301000 then hashCtrlWrite d data
  else if off = 0x301100 then crcCtrlWrite d data
  else if off = 0x301200 then shdSramWrite d data
  else match fSHD_CORE_CTRL_RUN.idx off, fSHD_CORE_WDOG_EN.idx off, fSHD_CORE_KICK_KEY.idx off, fICU_PRIO_PRIO.idx off,
      fICU_PEND_SET_SET.idx off, fICU_PEND_CLR_CLR.idx off, icuEnableAt off false, icuEnableAt off true,
      fICU_THRESHOLD_THRESHOLD.idx off, fICU_COMPLETE_ID.idx off with
    | some i, _, _, _, _, _, _, _, _, _ => coreCtrlWrite d i.1 data
    | _, some i, _, _, _, _, _, _, _, _ => coreWdogWrite d i.1 data
    | _, _, some i, _, _, _, _, _, _, _ => watchdogKick d i.1 data
    | _, _, _, some i, _, _, _, _, _, _ => icuPrio d i.1 data
    | _, _, _, _, some i, _, _, _, _, _ => icuPendSet d i.1 data
    | _, _, _, _, _, some i, _, _, _, _ => icuPendClr d i.1 data
    | _, _, _, _, _, _, some i, _, _, _ => icuEnable d i.1 i.2 data true
    | _, _, _, _, _, _, _, some i, _, _ => icuEnable d i.1 i.2 data false
    | _, _, _, _, _, _, _, _, some i, _ => icuThreshold d i.1 data
    | _, _, _, _, _, _, _, _, _, some i => icuComplete d i.1 (bitsOf data 0 10)
    | _, _, _, _, _, _, _, _, _, _ => gen

/-- A write of a controller's window (R299). -/
def gdcRegWrite (d : Dev) (off data : Nat) : Dev :=
  let c := (off - 0x800000) / 0x4000
  let o := off % 0x4000
  if o = 0x8 then gdcCfgWrite d c data
  else if o = 0x10 then (if bitOf data 0 then retrainStart d c else d)
  else if o = 0x40 then gdcWeedCfgWrite d c data
  else if o = 0x50 then gdcFlipWrite d c data
  else { d with regs := genWrite d.regs flds_ch08 off data }

/-- A write of the thermal window (R447, R471, R562). -/
def thmRegWrite (d : Dev) (off data : Nat) : Dev :=
  let gen := { d with regs := genWrite d.regs fldsDevice off data }
  if off = 0x200008 then thmCfgWrite d data
  else if off = 0x200010 then forecastWrite d data
  else if off = 0x200048 then coolCfgWrite d 0 data
  else if off = 0x200050 then coolCfgWrite d 1 data
  else if off = 0x200060 then coolCfgWrite d 2 data
  else if off = 0x201000 then pwrCfgWrite d data
  else match fTHM_PLOT_ARB_MASK.idx off, fTHM_MON_DROOPS.idx off with
    | some i, _ => arbWrite d i.1 data
    | _, some i => monWrite d i.1 data
    | _, _ => gen

/-- A write of a register outside the plot windows, but for AON_RESET_CMD (R12, and the rule of each register). -/
def devRegWrite (f : Fuses) (d : Dev) (shed : Bool) (off data : Nat) : Dev :=
  let gen := { d with regs := genWrite d.regs fldsDevice off data }
  match bankAt off with
  | some b => bankWrite d b.1.1 b.1.2 (off - b.2) data
  | none =>
    if off = 0x8 then (if bitOf data 0 then brwGo d else d)
    else if off = 0x28 then brwWdogWrite d data
    else if off = 0x40 then recoveryCmd d (bitsOf data 0 3)
    else if off = 0x100010 then blkRstWrite d data
    else if off = 0x100020 then
      (if bitsOf data 3 2 = 1 then sparingResume (dstateReq d 1) else dstateReq d (bitsOf data 3 2))
    else if 0x200000 ≤ off ∧ off < 0x300000 then thmRegWrite d off data
    else if off = 0x380000 then stpCfgWrite d data
    else if off = 0x390000 then sedCfgWrite d data
    else if off = 0x390008 then sedMoveWrite d data
    else if off = 0x390018 then sedCritFlipWrite d data
    else if 0x300000 ≤ off ∧ off < 0x380000 then shdRegWrite d off data
    else if off = 0x400200 then (if shed then truUpdWrite d data else truErr d 0x0514)
    else if off = 0x400210 then (if shed then fuseProgWrite f d data else truErr d 0x0514)
    else if 0x500000 ≤ off ∧ off < 0x600000 then
      let o := (off - 0x500000) / 0x1000
      if off % 0x1000 = 0x8 then lneRoleWrite d o data
      else if off % 0x1000 = 0x10 then lneCfgWrite d o data
      else if off % 0x1000 = 0x18 then (if bitOf data 0 then retrainEnter d o 3 (bitOf data 1) else d)
      else gen
    else if 0x600000 ≤ off ∧ off < 0x700000 then cplRegWrite d off data
    else if off = 0x700800 then sopDevWrite d data
    else if off = 0x700810 then sopRouteWrite d data
    else if 0x700000 ≤ off ∧ off < 0x800000 ∧ off % 0x1000 = 8 then sopPortCfgWrite d ((off - 0x700000) / 0x1000) data
    else if 0x800000 ≤ off ∧ off < 0xA00000 then gdcRegWrite d off data
    else if off = 0xB00008 then consumerWrite d data
    else if off = 0xB80000 then (if bitOf data 0 then pmrGo d else d)
    else match fFAB_REG_CFG_WINDOW.idx off, fFAB_REG_CLASS_MIN.idx off, fDBG_MUX_KIND.idx off with
      | some i, _, _ => fabRegCfgWrite d i.1 data
      | _, some i, _ => fabRegClassWrite d i.1 i.2 data
      | _, _, some i => dbgMuxWrite d i.1 data
      | _, _, _ => gen

/-! ## Accesses -/

/-- A read of `n` bytes of register space: the code and the bytes (R14, R34 to R36, R353). -/
def regSpaceRead (f : Fuses) (d : Dev) (shed : Bool) (off n : Nat) : Dev × Nat × List Byte :=
  let pl := regPlace d off
  match pl with
  | .unmapped => (recordFab d 0x0A01, 0x0A01, zeros n)
  | .absent => (recordFab d 0x0A02, 0x0A02, zeros n)
  | _ =>
    if !regWidthOk pl off n then (recordFab d 0x0A03, 0, zeros n)
    else match pl with
      | .plot p o =>
        let d := if o = 0xF80 then d else wakePlot d p
        (d, 0, leBytes n (plotView d p o))
      | .push o =>
        let r := sramRead d 0 (pushBase + o) 8
        (r.1, if r.2.isSome then 0 else 0x0405, r.2.getD (zeros 8))
      | .mboxIn o => (d, 0, memRead d.cpl.mboxIn o 8)
      | .mboxOut o => (d, 0, memRead d.cpl.mboxOut o 8)
      | .dev o =>
        let r := regRead f d shed o
        (r.1, r.2.2, leBytes 8 r.2.1)
      | _ => (d, 0, zeros n)

/-- A write to register space, but for AON_RESET_CMD: its code (R14, R34 to R36, R353). -/
def regSpaceWrite (f : Fuses) (d : Dev) (shed : Bool) (off : Nat) (bytes : List Byte) : Dev × Nat :=
  let pl := regPlace d off
  match pl with
  | .unmapped => (recordFab d 0x0A01, 0x0A01)
  | .absent => (recordFab d 0x0A02, 0x0A02)
  | _ =>
    let n := bytes.length
    if !regWidthOk pl off n then (recordFab d 0x0A03, 0)
    else match pl with
      | .plot p o => (plotRegWrite d p o (leValue bytes), 0)
      | .push o => ((sramWrite d 0 (pushBase + o) bytes).1, 0)
      | .mboxIn o => ({ d with cpl := { d.cpl with mboxIn := memWrite d.cpl.mboxIn o bytes } }, 0)
      | .dev o => (devRegWrite f d shed o (leValue bytes), 0)
      | _ => (d, 0)

end Sys2Proof.Machine
end

