-- ==== Sys2Proof/Machine/Access.lean ====
section
/-! DEFINITION. A master's request on its way to its target: the bridge, the windows of a number that moves, and what each
target does with it (R34 to R38, R141, R349, R416, R439). -/

namespace Sys2Proof.Machine

/-! ## Answers -/

/-- What a request that fails carries: zeros for a read, nothing for a write (R34). -/
def zeroData (r : FabReq) : List Byte :=
  match r.op with
  | .read n => zeros n
  | _ => []

/-- A request completes with a code and without effect. -/
def failReq (d : Dev) (r : FabReq) (code : Nat) : Dev := fabAnswer d r code (zeroData r)

/-- A request fails with a code of class 0x0A, which is recorded (R34, R35). -/
def failFab (d : Dev) (r : FabReq) (code : Nat) : Dev := failReq (recordFab d code) r code

/-- Whether accesses to GDDR7 and scratch find the device in D2 (R439). -/
def inD2 (d : Dev) : Bool := decide (d.rg fAON_DSTATE_STATE = 3)

/-- An access to GDDR7 or scratch in D2 (R439). -/
def failCold (d : Dev) (r : FabReq) : Dev := failReq (recordErr d 1 0 0x0204) r 0x0204

/-! ## The orderly reset (R371, R428, R431) -/

/-- Requests of the companion among those that wait (R371). -/
def ofCompanion (r : FabReq) : Bool :=
  match r.master with
  | .companion _ => true
  | _ => false

/-- Every M line of the link cache goes back to companion memory. -/
def writeBack (d : Dev) : Dev :=
  (d.cpl.cache.filter (fun e => e.2.st = .modified)).foldl (fun d e => evictLine d e.1) d

/-! ## Where a request goes -/

/-- The half of a master: controllers 0 to 11 and octets 0 to 8 lie in the west half, and so do the shed and the companion
link (R20, R276, R318). -/
def masterHalf (d : Dev) (r : FabReq) : Nat :=
  match r.master with
  | .plot p => plotHalf p
  | .weeder c => c / 12
  | .scaleout q _ _ => if (List.range 18).any (fun o => decide (9 ≤ o) && octetRole d o = 2 && octetPort d o = q) then 1 else 0
  | _ => 0

/-- The half of a register: that of its plot, octet or controller; all other blocks are reached in the west half (R20, R39, log
entry 45). -/
def regHalf (d : Dev) (off : Nat) : Nat :=
  match regPlace d off with
  | .plot p _ => plotHalf p
  | _ =>
    if 0x509000 ≤ off ∧ off < 0x512000 then 1
    else if 0x830000 ≤ off ∧ off < 0x860000 then 1
    else 0

/-- The half of a request's target, if it has one. -/
def targetHalf (d : Dev) (a : Nat) : Option Nat :=
  match decodeAddr a with
  | .gddr x => some ((gddrMap x).1 / 12)
  | .bed n _ => (d.phys n).map plotHalf
  | .scratch n _ => (d.phys n).map plotHalf
  | .reg off => some (regHalf d off)
  | .host _ => some 0
  | .unmapped => none

/-- The direction in which a request crosses the bridge: point 24 to the east, 25 to the west (R304, R315). -/
def crossing (d : Dev) (r : FabReq) : Option Nat :=
  match targetHalf d r.addr with
  | some h => if h = masterHalf d r then none else some (if h = 1 then 24 else 25)
  | none => none

/-- The logical number whose windows an address lies in. -/
def windowNumber (a : Nat) : Option Nat :=
  match decodeAddr a with
  | .bed n _ => some n
  | .scratch n _ => some n
  | .reg off => if 0x1000000 ≤ off ∧ off < 0x2000000 then some ((off - 0x1000000) / 0x4000) else none
  | _ => none

/-- The logical number that a move holds: in states COPY and SWITCH (R38, R486). -/
def movingNumber (d : Dev) : Option Nat :=
  if d.rg fSED_MOVE_STATE = 1 ∨ d.rg fSED_MOVE_STATE = 3 then some (d.rg fSED_MOVE_LOGICAL) else none

/-- Whether two requests overlap (R37). -/
def reqOverlap (a b : FabReq) : Bool :=
  decide (a.addr < b.addr + reqLen b) && decide (b.addr < a.addr + reqLen a)

/-! ## Scratch (R139, R141) -/

/-- A read of scratch by another master: it waits while a line is OPEN; a FAILED line or an uncorrectable word gives an error
status, and the word's line fails and stops the plot. The code of a FAILED line is a free value (log entry 2). -/
def scratchRead (d : Dev) (p a n : Nat) : Option (Dev × Nat × List Byte) :=
  let pl := d.plot p
  let ls := linesOf a n
  if ls.any (fun u => unitState pl u = 1) then none
  else if ls.any (fun u => unitState pl u = 2) then
    let r := d.free 16
    some (r.1, max 1 r.2, zeros n)
  else match scrFirstBad pl a n with
    | some w =>
      let d := stopAt (d.modPlot p (fun pl => unitFail pl (w / 32))) p (pl.rg fPLOT_SEQ_STATUS_PC) 0x0C08
      some (d, 0x0C08, zeros n)
    | none => some (d, 0, localBytes d p a n)

/-- A write of scratch by another master (R139). -/
def scratchWrite (d : Dev) (p a : Nat) (bytes : List Byte) : Dev × Nat := scrWrite d p a bytes

/-- A request at the scratch of a physical plot. -/
def scratchPerform (d : Dev) (p off : Nat) (r : FabReq) : Option Dev :=
  let d := lateOther (wakePlot d p) r
  match r.op with
  | .read n => (scratchRead d p off n).map (fun x => fabAnswer x.1 r x.2.1 x.2.2)
  | .write b =>
    let x := scratchWrite d p off b
    some (fabAnswer x.1 r x.2 [])
  | .reduce _ _ => some (failFab d r 0x0A01)

/-! ## Registers -/

/-- Whether a master is a shed core (R517, R552). -/
def isShed (r : FabReq) : Bool :=
  match r.master with
  | .shed _ => true
  | _ => false

/-- A request at the register space (R14, R34, R36): the registers have no form of a reduce-write. -/
def regPerform (f : Fuses) (d : Dev) (off : Nat) (r : FabReq) : Dev :=
  let d := lateOther d r
  match r.op with
  | .read n =>
    let x := regSpaceRead f d (isShed r) off n
    fabAnswer x.1 r x.2.1 x.2.2
  | .write b =>
    let x := regSpaceWrite f d (isShed r) off b
    fabAnswer x.1 r x.2 []
  | .reduce _ _ => failFab d r 0x0A01

/-! ## Delivery -/

/-- An access to companion memory: a master of the device goes through the link cache; the companion and a peer do not reach it
that way (R349, R352, R391). -/
def hostPerform (d : Dev) (r : FabReq) : Dev :=
  match r.master, r.op with
  | .companion _, _ => failReq (cplErr d 0x0703) r 0x0703
  | .scaleout _ _ _, _ => failReq d r 0x0806
  | _, .read n => hostGo d (.fab r) r.addr n none false
  | _, .write b => hostGo d (.fab r) r.addr b.length (some b) false
  | _, .reduce _ _ => failFab d r 0x0A01

/-- A request at the bed of a physical plot; a bed has no adders (R174, R284). -/
def bedArrive (d : Dev) (p : Nat) (r : FabReq) : Dev :=
  match r.op with
  | .reduce _ _ => failFab d r 0x0A01
  | _ => bedRequest d p r

/-- A request at the target of its address, in its half: none while it must wait there. -/
def atTarget (f : Fuses) (d : Dev) (r : FabReq) : Option Dev :=
  match decodeAddr r.addr with
  | .unmapped => some (failFab d r 0x0A01)
  | .gddr _ => some (if inD2 d then failCold d r else gddrArrive d r)
  | .bed n _ => some (match d.phys n with
    | none => failFab d r 0x0A02
    | some p => bedArrive d p r)
  | .scratch n off =>
    match d.phys n with
    | none => some (failFab d r 0x0A02)
    | some p => if inD2 d then some (failCold d r) else scratchPerform d p off r
  | .reg off => some (regPerform f d off r)
  | .host _ => some (hostPerform d r)

/-- A request in the half of its target: one for the windows of a number that moves is held at the plot's router (R38), and a
recovering device serves the windows BRW and AON only (R416). -/
def deliver (f : Fuses) (d : Dev) (r : FabReq) : Option Dev :=
  if reqLen r = 0 then some (fabAnswer d r 0 [])
  else if d.rg fBRW_STATUS_STATE = 4 ∧ !isShed r ∧ ¬ (0x30000000000 ≤ r.addr ∧ r.addr < 0x30000200000) then
    some (failReq (brwErr d 0x0111) r 0x0111)
  else if (movingNumber d).isSome ∧ windowNumber r.addr = movingNumber d then
    some { d with sed := { d.sed with held := d.sed.held ++ [r] } }
  else if d.sed.held.any (reqOverlap r) then none
  else atTarget f d r

/-- The requests that a move held go on, in order; one whose line is OPEN stays, with those that overlap it (R37, R38, R141). -/
def heldRelease (f : Fuses) (d : Dev) : Dev :=
  d.sed.held.foldl (fun d r => match deliver f d r with
    | some d => d
    | none => { d with sed := { d.sed with held := d.sed.held ++ [r] } }) { d with sed := { d.sed with held := [] } }

/-- Whether a request has the form that its source gives it: at most 256 bytes, within one 256-byte block (R280, R352). -/
def reqFits (r : FabReq) : Bool := decide (r.addr % 256 + reqLen r ≤ 256)

/-- A request sets out: one for the other half waits at the bridge, or fails while the bridge is down (R302, R305, R312). -/
def request (f : Fuses) (d : Dev) (r : FabReq) : Option Dev :=
  match crossing d r with
  | none => deliver f d r
  | some pt => some (if d.rg fFAB_BRIDGE_STATUS_DOWN = 1 then failReq d r 0x0A05 else pointEnqueue d pt r)

/-! ## AON_RESET_CMD (R428, R431) -/

/-- Every request that waits at a regulation point goes on, in order of arrival (R371). -/
def drainPoint (f : Fuses) (d : Dev) (p : Nat) : Dev :=
  let x := d.point p
  x.queue.foldl (fun d w => if p < 24 then gddrPerform d p w.req else (deliver f d w.req).getD d)
    (d.setPoint p { x with queue := [] })

/-- Every request that a bed channel holds goes on, in order of arrival (R371). -/
def drainBeds (d : Dev) : Dev :=
  d.plots.foldl (fun d e => (List.range 4).foldl (fun d ch =>
    let c := (d.plot e.1).chan ch
    (c.hold ++ c.router).foldl (fun d r => bedPerform d e.1 r)
      (d.modPlot e.1 (fun pl => pl.setChan ch { c with hold := [], router := [] }))) d) d

/-- The link sends all that it has: within the time of an orderly reset the companion returns the credits (R371). -/
def linkDrain (d : Dev) : Dev :=
  linkPump (d.modLink 0 (fun l => { l with credits := l.credits.map (fun _ => 2 ^ 20), kept := [] })) 0

/-- The orderly reset: what the companion has asked for is done, M lines are written back, and the Core reset follows. -/
def orderlyReset (f : Fuses) (d : Dev) : Dev :=
  let d := drainPoint f (drainPoint f d 24) 25
  let d := d.sed.held.foldl (fun d r => (atTarget f d r).getD d) { d with sed := { d.sed with held := [] } }
  let d := (List.range 24).foldl (drainPoint f) (drainBeds d)
  resetBy (linkDrain (writeBack d)) fAON_RESET_CAUSE_COMPANION false

/-- A write of AON_RESET_CMD: 1 RESET, with no effect while a reset is asserted, 2 RELEASE (R431). -/
def resetCmd (f : Fuses) (d : Dev) (data : Nat) : Dev :=
  if bitsOf data 0 2 = 1 then (if d.rst.held then d else orderlyReset f d)
  else if bitsOf data 0 2 = 2 then tripRelease d
  else d

/-- Whether a write names AON_RESET_CMD, whole. -/
def isResetCmd (off n : Nat) : Bool := decide (off = 0x100008) && decide (n = 8)

/-- A write to register space: its code. -/
def regWrite (f : Fuses) (d : Dev) (shed : Bool) (off : Nat) (bytes : List Byte) : Dev × Nat :=
  if isResetCmd off bytes.length then (resetCmd f d (leValue bytes), 0) else regSpaceWrite f d shed off bytes

/-- A request at its target, AON_RESET_CMD among the registers: with its reset, the write is complete before the device is. -/
def arrive (f : Fuses) (d : Dev) (r : FabReq) : Option Dev :=
  match decodeAddr r.addr, r.op with
  | .reg off, .write b =>
    if isResetCmd off b.length then some (resetCmd f (fabAnswer d r 0 []) (leValue b)) else deliver f d r
  | _, _ => deliver f d r

/-- A request of a master, as far as it comes at once: none while it must wait before anything is done. -/
def perform (f : Fuses) (d : Dev) (r : FabReq) : Option Dev :=
  let d := heldRelease f d
  if (crossing d r).isSome then request f d r else arrive f d r

/-! ## Rows -/

/-- FABRIC_REQUEST (R37): a request that must wait is presented again. -/
def execFabricRequest (r : FabReq) (s : State) : Host.Outcome State Fault Refusal :=
  onDevFused s (fun f d => if reqFits r then (perform f d r).getD d else d)

/-- The slack that a request still has when a point grants it (R307, R308). -/
def slackAfter (w : Waiting) (now next : Nat) : FabReq :=
  match w.due with
  | none => { w.req with now := next }
  | some t => { w.req with slack := some (t - now), late := w.req.late || decide (t ≤ now), now := next }

/-- REGULATION_GRANT (R309 to R312): a controller performs the request granted, the bridge hands it on, and the next point
takes it at its own count `next`. -/
def execRegulationGrant (point now next : Nat) (s : State) : Host.Outcome State Fault Refusal :=
  onDevFused s (fun f d =>
    if 26 ≤ point then d
    else match grantTake d point now with
      | none => d
      | some (d', w) =>
        if point < 24 then gddrPerform d' point w.req
        else
          let r := slackAfter w now next
          let d' := heldRelease f d'
          match arrive f d' r with
          | some x => x
          | none => d)

/-- REG_WRITE: the companion's write at a register (R12); a recovering device takes the windows BRW and AON only (R416). -/
def execRegWrite (off size data : Nat) (s : State) : Host.Outcome State Fault Refusal :=
  onDevFused s (fun f d =>
    if d.rg fBRW_STATUS_STATE = 4 ∧ 0x200000 ≤ off then brwErr d 0x0111
    else (regWrite f d false off (leBytes size data)).1)

/-- RING_DOORBELL (R358). -/
def execRingDoorbell (r data : Nat) (s : State) : Host.Outcome State Fault Refusal :=
  onDev s (fun d => if r < 3 then ringDoorbellWrite d r data else d)

/-- AON_RESET (R371, R431): the write of AON_RESET_CMD. -/
def execAonReset (data : Nat) (s : State) : Host.Outcome State Fault Refusal :=
  onAon s (fun d => resetCmd s.fused d data)

/-! ## The move engine (R38, R486) -/

/-- MOVE_COPY_DONE: after a CLONE the requests held go on (R486). -/
def execMoveCopyDone (s : State) : Host.Outcome State Fault Refusal :=
  onDevFused s (fun f d => if d.rg fSED_MOVE_STATE = 1 then heldRelease f (moveCopied d) else d)

/-- MOVE_TIMEOUT (R486). -/
def execMoveTimeout (s : State) : Host.Outcome State Fault Refusal :=
  onDevFused s (fun f d => if d.rg fSED_MOVE_STATE = 1 then heldRelease f (moveExpired d) else d)

/-- SPARE_SWITCH (R38, R486): the requests held are applied at the new plot, or find the number ABSENT. -/
def execSpareSwitch (reload : List (Nat × List Byte)) (lost : List Nat) (s : State) : Host.Outcome State Fault Refusal :=
  onDevFused s (fun f d => if d.rg fSED_MOVE_STATE = 3 then heldRelease f (moveSwitch d reload lost) else d)

end Sys2Proof.Machine
end

