-- ==== Sys2Proof/Machine/Commit.lean ====
section
/-! DEFINITION. The start and the commit of a step, with what waits for a step boundary (R267, R273, R493, R547). -/

namespace Sys2Proof.Machine

/-- Plots of the placement that have lost their programs are sown again before a step uses them (R435, R438). -/
def placementSown (d : Dev) : Dev :=
  match d.steps.placement with
  | none => d
  | some pm => (List.range pm.plots).foldl (fun d n =>
    match d.phys n with
    | some p => if (d.plot p).seq = seqUNSOWN then plotRestore (wakePlot d p) n else d
    | none => d) d

/-- STEP_START: a pending handover goes first, and a placement that no longer fits takes no step (R273, R419, R547). -/
def execStepStart (drafts : List (Nat × List Byte)) (opens : List (Nat × Nat × Option Nat × Option (List Nat)))
    (s : State) : Host.Outcome State Fault Refusal :=
  onDev s (fun d =>
    let d := handoverCheck d
    if d.steps.hold = 0 ∧ d.steps.placement.any (·.fits) ∧ d.rg fSHD_FW_STATE = 2 then
      stepStart (placementSown d) drafts opens
    else d)

/-- What follows a commit: the replicas count the step, and the boundary has its effects. -/
def afterCommit (d : Dev) (now : Nat) : Dev := handoverCheck (boundary (replicaStep d now))

/-- STEP_COMMIT: with every check of the step closed here and in the other devices of the placement, the device that holds the
last layers fixes the prune results, sends them, and commits (R45, R266, R267). -/
def execStepCommit (logits : List (Nat × List (List Nat))) (faults resid : List (Nat × Nat)) (others : List Nat)
    (peers emit : Bool) (now : Nat) (s : State) : Host.Outcome State Fault Refusal :=
  onDev s (fun d =>
    if stepRunning d && checksClosed d && peers then
      let rs := stepResults d logits
      afterCommit (stepCommit (sendResults d others rs) rs faults resid emit) now
    else d)

/-- COMMIT_RESULT_MESSAGE: the shed takes the commit results of the last-layer device, and commits its own layers (R267,
R394). -/
def execCommitResultMessage (results : List (Nat × Option (List Nat × Nat))) (faults resid : List (Nat × Nat)) (emit : Bool)
    (now : Nat) (s : State) : Host.Outcome State Fault Refusal :=
  onDev s (fun d =>
    if stepRunning d && checksClosed d then
      match mgmtTake d (fun m => decide (0 < m.type) && decide (m.type < 0x100)) with
      | some (d, _) => afterCommit (stepCommit d results faults resid emit) now
      | none => d
    else d)

end Sys2Proof.Machine
end

