-- ==== Sys2Proof/Machine/Direct.lean ====
section
/-! DEFINITION. Ranges of device memory that a master of the device reads or writes in one command, request by request, and
the ends of the shed's engines (R155, R280, R510). -/

namespace Sys2Proof.Machine

/-- The pieces of a range, each within a 256-byte block: address and length (R280). -/
def ranges256 (a n : Nat) : List (Nat × Nat) :=
  if n = 0 then [] else
  (List.range ((a + n - 1) / 256 - a / 256 + 1)).map (fun k =>
    let lo := max a ((a / 256 + k) * 256)
    (lo, min (a + n) ((a / 256 + k + 1) * 256) - lo))

/-- A request at the bed of a physical plot, which serves it in memory mode only (R178, R179). -/
def bedDirect (d : Dev) (p off : Nat) (r : FabReq) : Option (Dev × Nat × List Byte) :=
  let ch := (d.plot p).chan (off / 2 ^ 24)
  let m := (d.plot p).chMode (off / 2 ^ 24)
  if m = chMEMORY ∨ (m = chHELD ∧ ch.hold.isEmpty) then
    let d := plotEvent (lateOther d r) p 0x110 ((reqLen r + 31) / 32) (some r.cls) (some r.addr)
    match r.op with
    | .read k =>
      let q := bedRead d p off k false
      some (q.1, q.2.2, q.2.1)
    | .write b =>
      let q := bedWrite d p off b
      some (q.1, q.2, [])
    | .reduce _ _ => some (recordFab d 0x0A01, 0x0A01, [])
  else none

/-- A request that its target serves at once: its code and data; none while it must wait. GDDR7 charges its point (R310). -/
def direct (f : Fuses) (d : Dev) (r : FabReq) : Option (Dev × Nat × List Byte) :=
  let fail (d : Dev) (code : Nat) : Option (Dev × Nat × List Byte) := some (d, code, zeroData r)
  let fab (code : Nat) := fail (recordFab d code) code
  if d.rg fFAB_BRIDGE_STATUS_DOWN = 1 ∧ (crossing d r).isSome then fail d 0x0A05
  else if (movingNumber d).isSome ∧ windowNumber r.addr = movingNumber d then none
  else if d.sed.held.any (reqOverlap r) then none
  else
    let d := (crossing d r).elim d (fun pt => chargeAt d pt r)
    match decodeAddr r.addr with
    | .unmapped => fab 0x0A01
    | .host _ => fab 0x0A01
    | .gddr a =>
      let c := (gddrMap a).1
      let x := d.point c
      if inD2 d then fail (recordErr d 1 0 0x0204) 0x0204
      else if !gdcTakes d c then fail (gdcErr d c fGDC_ERR_CHANNEL_DOWN 0x0906) 0x0906
      else if gdcState d c ≠ 2 ∨ x.queue.any (fun w => sameSector w.req r) then none
      else
        some (gddrAccess (gdcEvents (chargeAt d c r) c r) c r)
    | .bed n off =>
      match d.phys n with
      | none => fab 0x0A02
      | some p => bedDirect d p off r
    | .scratch n off =>
      match d.phys n with
      | none => fab 0x0A02
      | some p =>
        if inD2 d then fail (recordErr d 1 0 0x0204) 0x0204
        else
          let d := lateOther (wakePlot d p) r
          match r.op with
          | .read k => scratchRead d p off k
          | .write b =>
            let q := scratchWrite d p off b
            some (q.1, q.2, [])
          | .reduce _ _ => fab 0x0A01
    | .reg off =>
      let d := lateOther d r
      match r.op with
      | .read k => some (regSpaceRead f d (isShed r) off k)
      | .write b =>
        let q := regWrite f d (isShed r) off b
        some (q.1, q.2, [])
      | .reduce _ _ => fab 0x0A01

/-- What the GDDR7 devices report for a piece, and for the pieces after it: one report a sector of GDDR7. -/
def reportSplit (a n : Nat) (report : List Nat) : List Nat × List Nat :=
  if a < 0x1800000000 then (report.take (sectorsOf a n).length, report.drop (sectorsOf a n).length) else ([], report)

/-- Reads pieces in order up to the first failure; `mk` gives the request of a piece. -/
def directRead (f : Fuses) (mk : Nat → FabOp → List Nat → FabReq) :
    List (Nat × Nat) → Dev → List Nat → Option (Dev × Nat × List Byte)
  | [], d, _ => some (d, 0, [])
  | e :: t, d, rep =>
    let s := reportSplit e.1 e.2 rep
    match direct f d (mk e.1 (.read e.2) s.1) with
    | none => none
    | some (d, code, b) =>
      if code ≠ 0 then some (d, code, [])
      else (directRead f mk t d s.2).map (fun x => (x.1, x.2.1, b ++ x.2.2))

/-- Writes pieces in order up to the first failure. -/
def directWrite (f : Fuses) (mk : Nat → FabOp → List Nat → FabReq) (op : List Byte → FabOp) :
    List (Nat × Nat) → Dev → List Byte → List Nat → Option (Dev × Nat)
  | [], d, _, _ => some (d, 0)
  | e :: t, d, bytes, rep =>
    let s := reportSplit e.1 e.2 rep
    match direct f d (mk e.1 (op (bytes.take e.2)) s.1) with
    | none => none
    | some (d, code, _) =>
      if code ≠ 0 then some (d, code) else directWrite f mk op t d (bytes.drop e.2) s.2

/-- A request of an engine of the shed (R306, R510). -/
def engineReq (a : Nat) (op : FabOp) (report : List Nat) : FabReq := ⟨.engine, 6, op, a, none, false, 0, report⟩

/-- The source of an engine's operation: none while it is not all there; else its bytes, or that a read failed (R510). -/
def engineSource (f : Fuses) (d : Dev) (k : Nat) (x : EngRun) (report : List Nat) : Option (Dev × Option (List Byte)) :=
  if x.src < hostBase then
    (directRead f engineReq (ranges256 x.src x.len) d report).map (fun r => (r.1, if r.2.1 = 0 then some r.2.2 else none))
  else if x.src < romBase then
    match x.host, hostFind d (.engine k) with
    | some _, _ => some (hostDrop d (.engine k), none)
    | none, some r => if r.left.isEmpty then some (hostDrop d (.engine k), some r.bytes) else none
    | none, none => none
  else if within x.src x.len romBase romBytes then some (d, some (romRead (x.src - romBase) x.len))
  else some (sramRead d 0 (x.src - sramBase) x.len)

/-- An engine's operation ends once its source has been read (R508 to R510). -/
def engineDone (f : Fuses) (d : Dev) (k : Nat) (x : Option EngRun) (report : List Nat) : Dev :=
  match x with
  | none => d
  | some x =>
    match engineSource f d k x report with
    | none => d
    | some (d, b) => engineEnd d k x b

/-- SHAKE256_DONE (R508, R510). -/
def execShake256Done (report : List Nat) (s : State) : Host.Outcome State Fault Refusal :=
  onDevFused s (fun f d => engineDone f d 0 d.shed.hash report)

/-- CRC64_DONE (R509, R510). -/
def execCrc64Done (report : List Nat) (s : State) : Host.Outcome State Fault Refusal :=
  onDevFused s (fun f d => engineDone f d 1 d.shed.crc report)

end Sys2Proof.Machine
end

