-- ==== Sys2Proof/Machine/Dma.lean ====
section
/-! DEFINITION. What descriptors, attention streams and outbound operations of a plot do after their issue (R154 to R160, R239,
R376, R382 to R384). -/

namespace Sys2Proof.Machine

/-! ## Places -/

/-- Address of byte `o` of row `i` on the source side: a plot's own accumulator file lies at 0x100000 (R152). -/
def Desc.srcAt (x : Desc) (i o : Nat) : Nat := x.srcAddr + i * x.srcStride + o

/-- Address of byte `o` of row `i` on the destination side. -/
def Desc.dstAt (x : Desc) (i o : Nat) : Nat := x.dstAddr + i * x.dstStride + o

/-- Whether a descriptor's source lies in companion memory. -/
def Desc.srcHost (x : Desc) : Bool := x.srcSpace = 0 && !x.srcRemote && decide (hostBase ≤ x.srcAddr)

/-- Whether a descriptor's destination lies in companion memory. -/
def Desc.dstHost (x : Desc) : Bool := x.dstSpace = 0 && !x.dstRemote && decide (hostBase ≤ x.dstAddr)

/-- Bytes that a descriptor moves. -/
def Desc.total (x : Desc) : Nat := x.rows * x.length

/-- The pieces of a descriptor's remote side, in ascending address by row: row, offset in it, length (R380). -/
def Desc.remotePieces (x : Desc) : List (Nat × Nat × Nat) :=
  (List.range x.rows).flatMap (fun i =>
    let a := if x.srcRemote then x.srcAt i 0 else x.dstAt i 0
    (ranges256 a x.length).map (fun e => (i, e.1 - a, e.2)))

/-- A request of a plot for its descriptor (R306, R307). -/
def dmaReq (p : Nat) (x : Desc) (a : Nat) (op : FabOp) (report : List Nat) : FabReq :=
  ⟨.plot p, x.cls, op, a, if x.dlEn then some (x.deadline * 64) else none, false, 0, report⟩

/-! ## Reading the source -/

/-- How a read of a descriptor's source comes out: not yet, failed (`own`: on a FAILED unit of the plot), or the bytes with the
reports that are left. -/
inductive Fetch where
  | waits
  | failed (d : Dev) (own : Bool) (code : Nat)
  | got (d : Dev) (b : List Byte) (report : List Nat)

/-- A range of the plot's own scratch or accumulator file: every unit CLOSED (R154). -/
def fetchOwn (d : Dev) (p pc a n : Nat) (report : List Nat) : Fetch :=
  let us := unitsOf a n
  if unitsFailed (d.plot p) us then .failed d true 0
  else if !unitsClosed (d.plot p) us then .waits
  else
    let r := plotRead d p pc a n
    if unitsFailed (r.1.plot p) us then .failed r.1 true 0 else .got r.1 r.2 report

/-- The bed of the plot itself, in pieces (R151, R481). -/
def ownBedRead (p : Nat) (x : Desc) : List (Nat × Nat) → Dev → Option (Dev × Nat × List Byte)
  | [], d => some (d, 0, [])
  | e :: t, d =>
    match bedDirect d p (bedOffset e.1) (dmaReq p x e.1 (.read e.2) []) with
    | none => none
    | some (d, code, b) =>
      if code ≠ 0 then some (d, code, []) else (ownBedRead p x t d).map (fun r => (r.1, r.2.1, b ++ r.2.2))

/-- A range of a descriptor's source: `n` bytes of row `i` from `o` on (R151, R154). -/
def fetchSrc (f : Fuses) (d : Dev) (p : Nat) (run : DmaRun) (i o n : Nat) (report : List Nat) : Fetch :=
  let x := run.d
  let a := x.srcAt i o
  let fin (r : Option (Dev × Nat × List Byte)) (rest : List Nat) : Fetch := match r with
    | none => .waits
    | some (d, 0, b) => .got d b rest
    | some (d, code, _) => .failed d false code
  if x.srcSpace = 1 then fetchOwn d p run.pc (0x100000 + a) n report
  else if hostBase ≤ a then
    match hostFind d (.dma p run.id i) with
    | some r => if r.left.isEmpty then .got d ((r.bytes.drop o).take n) report else .waits
    | none => .waits
  else match d.ownScratch p a, d.ownBed p a with
    | some off, _ => fetchOwn d p run.pc off n report
    | none, some _ => fin (ownBedRead p x (ranges256 a n) d) report
    | none, none =>
      let used := ((ranges256 a n).map (fun e => (reportSplit e.1 e.2 report).1.length)).sum
      fin (directRead f (dmaReq p x) (ranges256 a n) d report) (report.drop used)

/-! ## Writing the destination -/

/-- The bed of the plot itself, in pieces. -/
def ownBedWrite (p : Nat) (x : Desc) : List (Nat × Nat) → Dev → List Byte → Option (Dev × Nat)
  | [], d, _ => some (d, 0)
  | e :: t, d, b =>
    match bedDirect d p (bedOffset e.1) (dmaReq p x e.1 (.write (b.take e.2)) []) with
    | none => none
    | some (d, code, _) => if code ≠ 0 then some (d, code) else ownBedWrite p x t d (b.drop e.2)

/-- Bytes written at an address of a local destination: the device, the code and the reports left; none while a target must be
waited for (R151, R153). -/
def storeDst (f : Fuses) (d : Dev) (p : Nat) (run : DmaRun) (a : Nat) (b : List Byte) (report : List Nat) :
    Option (Dev × Nat × List Nat) :=
  let x := run.d
  let op (b : List Byte) : FabOp := if x.kind = 1 then .reduce x.redop b else .write b
  match d.ownScratch p a, d.ownBed p a with
  | some off, _ => some (plotWrite d p run.pc off b, 0, report)
  | none, some _ => (ownBedWrite p x (ranges256 a b.length) d b).map (fun r => (r.1, r.2, report))
  | none, none =>
    let used := ((ranges256 a b.length).map (fun e => (reportSplit e.1 e.2 report).1.length)).sum
    (directWrite f (dmaReq p x) op (ranges256 a b.length) d b report).map (fun r => (r.1, r.2, report.drop used))

/-! ## The end of a descriptor -/

/-- Whether an access to companion memory belongs to a descriptor. -/
def ofRun (p run : Nat) (r : HostReq) : Bool :=
  match r.user with
  | .dma q n _ => q = p && n = run
  | _ => false

/-- Whether a descriptor still waits for companion memory. -/
def hostWaits (d : Dev) (p run : Nat) : Bool := d.cpl.reqs.any (fun r => ofRun p run r && !r.left.isEmpty)

/-- A descriptor leaves the engine, and its destination is CLOSED (R140). -/
def runEnd (d : Dev) (p : Nat) (run : DmaRun) : Dev :=
  let d := { d with cpl := { d.cpl with reqs := d.cpl.reqs.filter (fun r => !ofRun p run.id r) } }
  d.modPlot p (fun pl =>
    let pl := { pl with dmas := pl.dmas.filter (fun x => x.id ≠ run.id) }
    match run.check with
    | some c => closeCheck pl c true
    | none => pl)

/-- A descriptor completes without error status: its counter advances (R155, R557). -/
def runClean (d : Dev) (p : Nat) (run : DmaRun) : Dev :=
  let d := runEnd d p run
  let d := if run.outbound then plotEvent d p 0x111 ((run.d.total + 31) / 32) none none else d
  match run.ctr with
  | some c => d.syncAdd p c 1
  | none => d

/-- A stream takes the error status of a descriptor that fills it (R239). -/
def streamFail (d : Dev) (p : Nat) (x : Desc) (code : Nat) : Dev :=
  if x.dstSpace ≠ 2 then d
  else d.modPlot p (fun pl =>
    let st := SMap.get Stream.reset pl.streams x.stream
    { pl with streams := SMap.set Stream.reset pl.streams x.stream { st with err := some code } })

/-- A descriptor completes with an error status: its instruction stops (R155). -/
def runFail (d : Dev) (p : Nat) (run : DmaRun) (code : Nat) : Dev :=
  let d := streamFail (runEnd d p run) p run.d code
  stopAt (d.modPlot p (fun pl => dmaErr pl run.desc 0x0C12 code)) p run.pc 0x0C12

/-- A descriptor meets a FAILED unit of its own plot: while the sequencer is STOPPING it is cancelled, else its instruction
stops with REMOTE_CODE 0 (R154). -/
def runOwnFail (d : Dev) (p : Nat) (run : DmaRun) : Dev :=
  if (d.plot p).seq = seqSTOPPING then runEnd d p run else runFail d p run 0

/-! ## Remote pieces (R380 to R387) -/

/-- The lowest free tag of a sorted table, from `n` on. -/
def freeTagFrom (n : Nat) : SMap TagUse → Nat
  | [] => n
  | e :: t => if e.1 = n then freeTagFrom (n + 1) t else n

/-- The key of R386 of a plot's messages: its logical number, which is also SRC_PLOT. -/
def plotKey (d : Dev) (p : Nat) : Nat := (d.ownNumber p).getD 1023

/-- A request of a descriptor to its remote device (R380). -/
def remoteRequest (d : Dev) (p : Nat) (x : Desc) (opc tag a n : Nat) (data : List Byte) : List Byte :=
  let dev := if x.srcRemote then x.srcDev else x.dstDev
  leBytes 1 opc ++ leBytes 1 (2 + msgUnits data) ++ leBytes 2 dev ++ leBytes 2 (d.rg fSOP_DEV_DEV_ID) ++
    leBytes 1 (d.rg fSOP_DEV_HOP_LIMIT + if x.dlEn then 64 else 0) ++ leBytes 1 (if opc = 3 then x.redop else 0) ++
    leBytes 2 tag ++ leBytes 2 n ++ leBytes 4 (if x.dlEn then x.deadline * 64 else 0) ++ leBytes 6 a ++
    leBytes 2 (plotKey d p) ++ zeros 8 ++ padTo (16 * msgUnits data) data

/-- One piece is sent with a free tag, or fails for want of a route; none while no tag is free (R383, R387). -/
def sendPiece (d : Dev) (p run k : Nat) (x : Desc) (a n : Nat) (data : List Byte) : Option Dev :=
  let tag := freeTagFrom 0 d.tags
  if 16384 ≤ tag then none
  else
    let opc := if x.srcRemote then 2 else if x.kind = 1 then 3 else 1
    let r := sopSend d (plotKey d p) (if x.srcRemote then x.srcDev else x.dstDev) 0 (remoteRequest d p x opc tag a n data)
    some (match r.2 with
      | some q => modRun { r.1 with tags := SMap.insert tag ⟨.piece p run, q, k⟩ r.1.tags } p run
          (fun y => { y with sent := y.sent + 1, pieces := y.pieces + 1 })
      | none => modRun r.1 p run (fun y => { y with sent := y.sent + 1, err := 0x0804 }))

/-- A descriptor of a plot by its number. -/
def findRun (d : Dev) (p run : Nat) : Option DmaRun := (d.plot p).dmas.find? (fun x => x.id = run)

/-- Sends the pieces of a descriptor from the first one not sent, as far as tags, the 64 reads outstanding and the source allow
(R154, R155). -/
def sendPieces (f : Fuses) (p run : Nat) : List (Nat × Nat × Nat) → Dev → List Nat → Dev
  | [], d, _ => d
  | e :: t, d, rep =>
    match findRun d p run with
    | none => d
    | some x =>
      if x.err ≠ 0 ∨ (x.d.srcRemote ∧ 64 ≤ x.pieces) then d
      else if x.d.srcRemote then
        match sendPiece d p run x.sent x.d (x.d.srcAt e.1 e.2.1) e.2.2 [] with
        | none => d
        | some d => sendPieces f p run t d rep
      else match fetchSrc f d p x e.1 e.2.1 e.2.2 rep with
        | .waits => d
        | .failed d true _ => runOwnFail d p x
        | .failed d false code => modRun d p run (fun y => { y with err := code })
        | .got d b rep =>
          match sendPiece d p run x.sent x.d (x.d.dstAt e.1 e.2.1) e.2.2 b with
          | none => d
          | some d => sendPieces f p run t d rep

/-! ## The engine -/

/-- Rows of a local transfer, in order, up to the first failure; none while something must be waited for. -/
def moveRows (f : Fuses) (p : Nat) (run : DmaRun) : List Nat → Dev → List Nat → Option Dev
  | [], d, _ => some (runClean d p run)
  | i :: t, d, rep =>
    match fetchSrc f d p run i 0 run.d.length rep with
    | .waits => none
    | .failed d true _ => some (runOwnFail d p run)
    | .failed d false code => some (runFail d p run code)
    | .got d b rep =>
      match storeDst f d p run (run.d.dstAt i 0) b rep with
      | none => none
      | some (d, 0, rep) => moveRows f p run t d rep
      | some (d, code, _) => some (runFail d p run code)

/-- Rows of a transfer to companion memory: each is written through the link cache (R349). -/
def hostRows (f : Fuses) (p : Nat) (run : DmaRun) : List Nat → Dev → List Nat → Option Dev
  | [], d, _ => some (modRun d p run.id (fun x => { x with wrote := true }))
  | i :: t, d, rep =>
    match fetchSrc f d p run i 0 run.d.length rep with
    | .waits => none
    | .failed d true _ => some (runOwnFail d p run)
    | .failed d false code => some (runFail d p run code)
    | .got d b rep => hostRows f p run t (hostGo d (.dma p run.id (65536 + i)) (run.d.dstAt i 0) run.d.length (some b) false) rep

/-- Begins the reads of a source in companion memory (R349). -/
def hostReads (d : Dev) (p : Nat) (run : DmaRun) : Dev :=
  if (hostFind d (.dma p run.id 0)).isSome then d
  else (List.range run.d.rows).foldl (fun d i => hostGo d (.dma p run.id i) (run.d.srcAt i 0) run.d.length none false) d

/-- A descriptor of which everything has been sent and answered. -/
def runSettle (d : Dev) (p run : Nat) (done : DmaRun → Bool) : Dev :=
  match findRun d p run with
  | none => d
  | some x =>
    if x.pieces ≠ 0 ∨ hostWaits d p run then d
    else if x.err ≠ 0 then runFail d p x x.err
    else if done x then runClean d p x
    else d

/-- A descriptor goes on as far as it can, and completes with its last byte (R154, R155). -/
def dmaStep (f : Fuses) (d : Dev) (p : Nat) (run : DmaRun) (report : List Nat) : Dev :=
  let x := run.d
  let rows := List.range x.rows
  if run.outbound ∧ !run.released then d
  else if x.empty then runClean d p run
  else if run.err ≠ 0 then runSettle d p run.id (fun _ => false)
  else if x.srcRemote then
    let ps := x.remotePieces
    runSettle (sendPieces f p run.id (ps.drop run.sent) d report) p run.id (fun y =>
      decide (ps.length ≤ y.sent) && (x.dstSpace ≠ 2 || decide (x.total ≤ y.moved)))
  else
    let d := if x.srcHost then hostReads d p run else d
    if x.srcHost ∧ !run.wrote ∧ hostWaits d p run.id then d
    else if x.dstSpace = 2 then runSettle d p run.id (fun y => decide (x.total ≤ y.moved))
    else if x.dstRemote then
      let ps := x.remotePieces
      runSettle (sendPieces f p run.id (ps.drop run.sent) d report) p run.id (fun y => decide (ps.length ≤ y.sent))
    else if x.dstHost then
      let d := if run.wrote then d else (hostRows f p run rows d report).getD d
      runSettle d p run.id (·.wrote)
    else (moveRows f p run rows d report).getD d

/-- DMA_DESC_COMPLETE: the oldest descriptor of an index goes on (R155). -/
def execDmaDescComplete (p desc : Nat) (report : List Nat) (s : State) : Host.Outcome State Fault Refusal :=
  onDevFused s (fun f d =>
    match (d.plot p).dmas.find? (fun x => x.desc = desc) with
    | some run => dmaStep f d p run report
    | none => d)

/-! ## Read data (R382) -/

/-- The destination of a remote read is OPEN from its first byte to the descriptor's completion (R140). -/
def runOpen (d : Dev) (p : Nat) (run : DmaRun) : Dev :=
  match run.check with
  | some _ => d
  | none =>
    let us := run.d.dstUnits d p
    if us.isEmpty then d
    else
      let r := openCheck (d.plot p) us [] [] false
      modRun (d.setPlot p r.1) p run.id (fun x => { x with check := some r.2 })

/-- Read data goes to its place as the descriptor's own bytes; none while its target must be waited for. -/
def readData (f : Fuses) (d : Dev) (m : List Byte) (report : List Nat) : Option Dev :=
  let tag := msgV m 8 2
  match SMap.find? tag d.tags with
  | none => some (strayRsp d)
  | some u =>
    match u.user with
    | .signal _ _ => some (tagOk d tag)
    | .piece p id =>
      match findRun d p id with
      | none => some (tagErase d tag)
      | some run =>
        match run.d.remotePieces[u.piece]? with
        | none => some (tagOk d tag)
        | some (i, o, n) =>
          let b := padTo n (((m.drop 16).take (msgV m 12 2)).take n)
          let a := run.d.dstAt i o
          if !run.d.srcRemote then some (tagOk d tag)
          else if run.d.dstSpace = 2 then
            some (tagOk (modRun d p id (fun x => { x with got := SMap.set [] x.got u.piece b })) tag)
          else if run.d.dstHost then some (tagOk (hostGo d (.dma p id (65536 + u.piece)) a n (some b) false) tag)
          else (storeDst f d p run a b report).map (fun r =>
            if r.2.1 = 0 then tagOk (runOpen r.1 p run) tag else pieceDone (tagErase r.1 tag) p id r.2.1)

/-- RD_DATA (R382, R383). -/
def execRdData (port : Nat) (msg : List Byte) (report : List Nat) (s : State) : Host.Outcome State Fault Refusal :=
  onDevFused s (fun f d =>
    if msgV msg 2 2 = d.rg fSOP_DEV_DEV_ID ∧ (readData f d msg report).isNone then d
    else onMsg d port msg 0x11 1 0 (fun d => (readData f d msg report).getD d))

/-! ## Attention streams (R239) -/

/-- Bytes of an attention stream's buffer. -/
def streamRoom : Nat := 16384

/-- The parts of a descriptor's rows from byte `o` of its transfer on, `n` bytes in all: row, offset, length. -/
def rowParts (len : Nat) : Nat → Nat → Nat → List (Nat × Nat × Nat)
  | 0, _, _ => []
  | k + 1, o, n =>
    if n = 0 ∨ len = 0 then [] else
      let m := min n (len - o % len)
      (o / len, o % len, m) :: rowParts len k (o + m) (n - m)

/-- The parts read in order: bytes as far as they are there, and the code of a failure. -/
def fetchParts (f : Fuses) (p : Nat) (run : DmaRun) :
    List (Nat × Nat × Nat) → Dev → List Nat → Dev × List Byte × Option (Bool × Nat)
  | [], d, _ => (d, [], none)
  | e :: t, d, rep =>
    match fetchSrc f d p run e.1 e.2.1 e.2.2 rep with
    | .waits => (d, [], none)
    | .failed d own code => (d, [], some (own, code))
    | .got d b rep =>
      let r := fetchParts f p run t d rep
      (r.1, b ++ r.2.1, r.2.2)

/-- The remote bytes that have arrived without a gap. -/
def gotBytes : Nat → SMap (List Byte) → List Byte
  | _, [] => []
  | k, e :: t => if e.1 = k then e.2 ++ gotBytes (k + 1) t else []

/-- Bytes enter a stream's buffer as it has room, and a KVPAGES that waits goes on. -/
def streamArrive (f : Fuses) (d : Dev) (p : Nat) (run : DmaRun) (report : List Nat) : Dev :=
  let x := run.d
  let st := SMap.get Stream.reset (d.plot p).streams x.stream
  let room := min (streamRoom - st.bytes.length) (x.total - run.moved)
  let d := if x.srcHost then hostReads d p run else d
  let r := if x.srcRemote then (d, ((gotBytes 0 run.got).drop run.moved).take room, none)
    else fetchParts f p run (rowParts x.length (room + 1) run.moved room) d report
  let d := r.1.modPlot p (fun pl =>
    let st := SMap.get Stream.reset pl.streams x.stream
    { pl with streams := SMap.set Stream.reset pl.streams x.stream { st with bytes := st.bytes ++ r.2.1 } })
  let d := modRun d p run.id (fun y => { y with moved := y.moved + r.2.1.length })
  let d := match r.2.2 with
    | none => d
    | some (true, _) => runOwnFail d p run
    | some (false, code) => streamFail (modRun d p run.id (fun y => { y with err := code })) p x code
  if (d.plot p).att.waiting then kvIssue d p else d

/-- STREAM_RECORD_ARRIVAL: the oldest descriptor that has bytes for the stream gives them (R239). -/
def execStreamRecordArrival (p stream : Nat) (report : List Nat) (s : State) : Host.Outcome State Fault Refusal :=
  onDevFused s (fun f d =>
    match (d.plot p).dmas.find? (fun y => y.d.dstSpace = 2 && y.d.stream = stream && decide (y.moved < y.d.total) && y.err = 0) with
    | some run => streamArrive f d p run report
    | none => if (d.plot p).att.waiting then kvIssue d p else d)

/-! ## Outbound operations (R156 to R160) -/

/-- A SIGNAL of another device's counter: a SIG with a free tag; none while no tag is free (R157, R381, R383). -/
def sendSignal (d : Dev) (p pc dev n ctr add : Nat) : Option Dev :=
  let tag := freeTagFrom 0 d.tags
  if 16384 ≤ tag then none
  else
    let m := leBytes 1 0x20 ++ leBytes 1 1 ++ leBytes 2 dev ++ leBytes 2 (d.rg fSOP_DEV_DEV_ID) ++
      leBytes 1 (d.rg fSOP_DEV_HOP_LIMIT) ++ leBytes 1 ctr ++ leBytes 2 tag ++ leBytes 2 n ++ zeros 2 ++ leBytes 2 add
    let r := sopSend d (plotKey d p) dev 2 m
    some (match r.2 with
      | some q => { r.1 with tags := SMap.insert tag ⟨.signal p pc, q, 0⟩ r.1.tags }
      | none => signalFail r.1 p pc 0x0804 false)

/-- The head of the outbound queue is released: it leaves the queue and is counted; at the limit its instruction stops instead
(R160). -/
def releaseHead (d : Dev) (p : Nat) : Option Dev :=
  let pl := d.plot p
  let n := pl.rg fPLOT_SEQ_REPLAY_OUT_DONE + 1
  if 2 ^ 24 ≤ n then none
  else some (d.setPlot p ({ pl with outq := pl.outq.drop 1 }.rs fPLOT_SEQ_REPLAY_OUT_DONE n))

/-- The outbound operation at the head leaves the plot, if what it waits for has come (R154, R157, R160, R164). -/
def outboundRelease (f : Fuses) (d : Dev) (p : Nat) (report : List Nat) : Dev :=
  let pl := d.plot p
  match pl.outq with
  | [] => d
  | o :: _ =>
    let release (k : Dev → Dev) : Dev := match releaseHead d p with
      | some d => k d
      | none => stopAt d p o.pc 0x0C31
    match o.kind with
    | .desc id =>
      match findRun d p id with
      | none => d
      | some run =>
        let us := run.d.srcUnits d p
        if unitsFailed pl us then
          (if pl.seq = seqSTOPPING then d
            else stopAt (d.modPlot p (fun pl => dmaErr pl run.desc 0x0C12 0)) p o.pc 0x0C12)
        else if !unitsClosed pl us then d
        else release (fun d =>
          let d := modRun d p id (fun x => { x with released := true })
          if run.d.dstRemote then
            match findRun d p id with
            | some run => sendPieces f p id run.d.remotePieces d report
            | none => d
          else d)
    | .signal dev remote n ctr add =>
      if pl.dmas.any (fun x => x.outbound && x.released) then d
      else if remote then (if 16384 ≤ freeTagFrom 0 d.tags then d else release (fun d => (sendSignal d p o.pc dev n ctr add).getD d))
      else match d.phys n with
        | none => stopAt (recordFab d 0x0A02) p o.pc 0x0C21
        | some q => release (fun d => (wakePlot d q).syncAdd q ctr add)
    | .tissue id =>
      release (fun d => d.modPlot p (fun pl =>
        match pl.issues.find? (fun x => x.id = id) with
        | some i => issueArrives { pl with
            issues := pl.issues.map (fun x => if x.id = id then { x with released := true } else x) } id i.chmask
        | none => pl))

/-- OUTBOUND_RELEASE (R160). -/
def execOutboundRelease (p : Nat) (report : List Nat) (s : State) : Host.Outcome State Fault Refusal :=
  onDevFused s (fun f d => outboundRelease f d p report)

end Sys2Proof.Machine
end

