-- ==== Sys2Proof/Machine/Module.lean ====
section
/-! DEFINITION. The module's connectors: insertion and input power, the tray's telemetry target and the I3C sideband
(chapter 20). -/

namespace Sys2Proof.Machine

/-! ## Mating and input power (R574, R576, R580) -/

/-- A new input voltage, with VIN_UV latched below 48 V while the always-on domain runs (R582). -/
def vinSet (d : Dev) (mv : Nat) : Dev :=
  let d := { d with tray := { d.tray with vin := mv } }
  if !d.rst.off && decide (mv < 48000) then d.latch 3 else d

/-- The rails go, with a power-on reset: what the always-on domain runs on the sideband goes with them (R576). -/
def inputLost (d : Dev) (mv : Nat) : Dev :=
  let d := fullReset d
  { d with
    rst := { d.rst with off := true }
    tray := { Tray.reset with mated := d.tray.mated, vin := mv, addrSel := d.tray.addrSel } }

/-- MODULE_INSERT (R574): the contacts mate to the last, with the input at `vin` mV. -/
def execModuleInsert (vin : Nat) (s : State) : Host.Outcome State Fault Refusal :=
  onAon s (fun d => if d.tray.mated = 0 then vinSet { d with tray := { d.tray with mated := 5 } } vin else d)

/-- MODULE_REMOVE (R574): the contacts break, the input's with them. -/
def execModuleRemove (s : State) : Host.Outcome State Fault Refusal :=
  onAon s (fun d =>
    let d := if d.rst.off then vinSet d 0 else inputLost d 0
    { d with tray := { d.tray with mated := 0 } })

/-- INPUT_RISE (R576, R580): above 46.0 V the always-on domain starts and samples ADDR_SEL. -/
def execInputRise (mv sel : Nat) (s : State) : Host.Outcome State Fault Refusal :=
  onAon s (fun d =>
    if d.tray.mated < 3 then d
    else if d.rst.off ∧ 46000 ≤ mv then
      let d := fullReset d
      vinSet { d with
        rst := { d.rst with off := false }
        tray := { d.tray with addrSel := sel % 4 } } mv
    else vinSet d mv)

/-- INPUT_FALL (R576): below 44.0 V the rails are removed. -/
def execInputFall (mv : Nat) (s : State) : Host.Outcome State Fault Refusal :=
  onAon s (fun d =>
    if d.tray.mated < 3 then d
    else if mv < 44000 ∧ ¬ d.rst.off then inputLost d mv
    else vinSet d mv)

/-! ## Tray telemetry (R582) -/

/-- Whether the telemetry target answers: its contacts have mated and the input lies above the lower threshold. -/
def telemetryUp (d : Dev) : Bool := decide (4 ≤ d.tray.mated) && decide (44000 ≤ d.tray.vin)

/-- The address of the telemetry target: 0x58 + ADDR_SEL. -/
def telemetryAddress (d : Dev) : Nat := 0x58 + d.tray.addrSel

/-- PMB_ALERT_N is asserted while a bit is latched (R579). -/
def telemetryAlert (d : Dev) : Bool := decide (d.tray.latched ≠ 0)

/-- The integer nearest to num / den, a half going up. -/
def nearestInt (num : Int) (den : Nat) : Int := (2 * num + den) / (2 * den)

/-- A value num / den in LINEAR11: an 11-bit mantissa, at the nearest, and a 5-bit exponent (log entry 46). -/
def linear11 (code : Nat) (num : Int) (den : Nat) : Nat :=
  let e := Config.linearExp code num
  let y := if e.toInt < 0 then nearestInt (num * 2 ^ (-e.toInt).toNat) den else nearestInt num (den * 2 ^ e.toInt.toNat)
  let y := if 1023 < y then 1023 else if y < -1024 then -1024 else y
  e.toNat * 2 ^ 11 + codeOf 11 y

/-- TELEMETRY_REFRESH, with the input at `vin` mV and `iin` mA. -/
def execTelemetryRefresh (vin iin : Nat) (s : State) : Host.Outcome State Fault Refusal :=
  onAon s (fun d =>
    if !telemetryUp d then d
    else
      let temp (code : Nat) (f : Fld) : Nat := linear11 code (signedOf 12 (d.rg f)) 8
      let vals := [linear11 0x88 (vin : Int) 1000, linear11 0x89 (iin : Int) 1000,
        linear11 0x97 (d.rg fTHM_PWR_STATUS_P_W : Int) 1, temp 0x8D fTHM_STATUS_HOT_LOGIC, temp 0x8E fTHM_STATUS_HOT_BED,
        if d.rg fTHM_COOL_STATUS_INLET_BAD = 1 then 0x7FFF else temp 0x8F fTHM_COOL_STATUS_INLET]
      let d := { d with tray := { d.tray with iin := iin, telem := vals } }
      vinSet d vin)

/-- An answer of the telemetry target, in `n` bytes. -/
def telemetryAnswer (d : Dev) (n value : Nat) : Dev := if telemetryUp d then d.emit (.pmbus (leBytes n value)) else d

/-- The `i`-th telemetry value as last refreshed. -/
def telemetryValue (d : Dev) (i : Nat) : Dev := telemetryAnswer d 2 (d.tray.telem.getD i 0)

/-- CLEAR_FAULTS: no device state changes but the latched bits. -/
def execClearFaults (s : State) : Host.Outcome State Fault Refusal :=
  onAon s (fun d => if telemetryUp d then { d with tray := { d.tray with latched := 0 } } else d)

/-- CAPABILITY. -/
def execCapability (s : State) : Host.Outcome State Fault Refusal := onAon s (fun d => telemetryAnswer d 1 0x90)

/-- STATUS_WORD: the latched bits, and OFF live in bit 6. -/
def execStatusWord (s : State) : Host.Outcome State Fault Refusal :=
  onAon s (fun d => telemetryAnswer d 2 (if d.rst.held || d.rst.off then withBit d.tray.latched 6 else d.tray.latched))

/-- READ_VIN. -/
def execReadVin (s : State) : Host.Outcome State Fault Refusal := onAon s (telemetryValue · 0)

/-- READ_IIN. -/
def execReadIin (s : State) : Host.Outcome State Fault Refusal := onAon s (telemetryValue · 1)

/-- READ_PIN. -/
def execReadPin (s : State) : Host.Outcome State Fault Refusal := onAon s (telemetryValue · 2)

/-- READ_TEMPERATURE_1. -/
def execReadTemperature1 (s : State) : Host.Outcome State Fault Refusal := onAon s (telemetryValue · 3)

/-- READ_TEMPERATURE_2. -/
def execReadTemperature2 (s : State) : Host.Outcome State Fault Refusal := onAon s (telemetryValue · 4)

/-- READ_TEMPERATURE_3. -/
def execReadTemperature3 (s : State) : Host.Outcome State Fault Refusal := onAon s (telemetryValue · 5)

/-- PMBUS_REVISION. -/
def execPmbusRevision (s : State) : Host.Outcome State Fault Refusal := onAon s (fun d => telemetryAnswer d 1 0x33)

/-! ## The I3C sideband (R583 to R585) -/

/-- Whether the I3C target is there: its contacts have mated and the always-on domain runs. -/
def i3cUp (d : Dev) : Bool := decide (4 ≤ d.tray.mated) && !d.rst.off

/-- The static address (R583). -/
def i3cStatic (d : Dev) : Nat := 0x30 + d.tray.addrSel

/-- The provisional identifier, its part number 0xF2A0, the most significant byte first (log entry 47). -/
def i3cIdent : List Byte :=
  let p := Config.i3cPid.toNat
  (leBytes 6 (p / 2 ^ 32 * 2 ^ 32 + 0xF2A0 * 2 ^ 16 + p % 2 ^ 16)).reverse

/-- An answer of the I3C target. -/
def i3cAnswer (d : Dev) (bytes : List Byte) : Dev := if i3cUp d then d.emit (.i3c bytes) else d

/-- ENTDAA: a target without a dynamic address gives its identifier and takes the address. -/
def execEntdaa (addr : Nat) (s : State) : Host.Outcome State Fault Refusal :=
  onAon s (fun d =>
    if i3cUp d ∧ d.tray.dynAddr = none then
      i3cAnswer { d with tray := { d.tray with dynAddr := some (addr % 128) } } (i3cIdent ++ [Config.i3cBcr, Config.i3cDcr])
    else d)

/-- SETDASA, sent to the static address. -/
def execSetdasa (addr : Nat) (s : State) : Host.Outcome State Fault Refusal :=
  onAon s (fun d =>
    if i3cUp d ∧ d.tray.dynAddr = none then { d with tray := { d.tray with dynAddr := some (addr % 128) } } else d)

/-- RSTDAA. -/
def execRstdaa (s : State) : Host.Outcome State Fault Refusal :=
  onAon s (fun d => if i3cUp d then { d with tray := { d.tray with dynAddr := none } } else d)

/-- GETPID. -/
def execGetpid (s : State) : Host.Outcome State Fault Refusal := onAon s (fun d => i3cAnswer d i3cIdent)

/-- GETBCR. -/
def execGetbcr (s : State) : Host.Outcome State Fault Refusal := onAon s (fun d => i3cAnswer d [Config.i3cBcr])

/-- GETDCR. -/
def execGetdcr (s : State) : Host.Outcome State Fault Refusal := onAon s (fun d => i3cAnswer d [Config.i3cDcr])

/-- The status that an offset gives by itself: outside the two windows 0x01, in the BRW window of a core in reset 0x03
(R584, R585). -/
def i3cReach (d : Dev) (off : Nat) : Nat :=
  if 0x200000 ≤ off then 1 else if off < 0x100000 ∧ d.rst.held then 3 else 0

/-- A write to the AON window while the core is held: nothing of the core is touched and no code is recorded (R585). -/
def heldWrite (f : Fuses) (d : Dev) (off data : Nat) : Dev :=
  if off = 0x100008 then resetCmd f d data
  else if off = 0x100010 ∨ off = 0x100020 then d
  else { d with regs := genWrite d.regs flds_ch14 off data }

/-- What a private write leaves for the next READ to report. -/
def i3cStatus (d : Dev) (st : Nat) : Dev := { d with tray := { d.tray with status := st } }

/-- SET_OFFSET: 0x01 and the offset, a multiple of 8 (R584). -/
def execSetOffset (bytes : List Byte) (s : State) : Host.Outcome State Fault Refusal :=
  onAon s (fun d =>
    let off := leValue (bytes.drop 1)
    if !i3cUp d then d
    else if bytes.length = 5 ∧ bytes.head? = some 0x01 ∧ off % 8 = 0 then
      i3cStatus { d with tray := { d.tray with offset := off } } 0
    else i3cStatus d 2)

/-- I3C_WRITE: 0x02, the offset and 8 bytes (R584, R585). -/
def execI3cWrite (bytes : List Byte) (s : State) : Host.Outcome State Fault Refusal :=
  onAon s (fun d =>
    let off := leValue ((bytes.drop 1).take 4)
    let data := bytes.drop 5
    if !i3cUp d then d
    else if bytes.length = 13 ∧ bytes.head? = some 0x02 ∧ off % 8 = 0 then
      let d := i3cStatus { d with tray := { d.tray with offset := (off + 8) % 2 ^ 32 } } (i3cReach d off)
      if d.tray.status ≠ 0 then d
      else if d.rst.held then heldWrite s.fused d off (leValue data)
      else (regWrite s.fused d false off data).1
    else i3cStatus d 2)

/-- I3C_READ: the status of the write before it if that failed, else a read at the current offset. The bytes beside status
0x02 are not given (R584, R585, log entry 2). -/
def execI3cRead (s : State) : Host.Outcome State Fault Refusal :=
  onAon s (fun d =>
    let off := d.tray.offset
    if !i3cUp d then d
    else if d.tray.status = 2 then
      let r := d.free 64
      (i3cStatus r.1 0).emit (.i3c (2 :: leBytes 8 r.2))
    else if d.tray.status ≠ 0 then (i3cStatus d 0).emit (.i3c (BitVec.ofNat 8 d.tray.status :: zeros 8))
    else if i3cReach d off ≠ 0 then d.emit (.i3c (BitVec.ofNat 8 (i3cReach d off) :: zeros 8))
    else
      let r := regSpaceRead s.fused d false off 8
      let d' := if d.rst.held then { d with freeCtr := r.1.freeCtr } else r.1
      { d' with tray := { d'.tray with offset := (off + 8) % 2 ^ 32 } }.emit (.i3c (0 :: r.2.2)))

end Sys2Proof.Machine
end

