-- ==== Sys2Proof/Machine/Requests.lean ====
section
/-! DEFINITION. Requests that arrive over the links, the flits that carry them, and the companion's presence (R341 to R343, R352 to
R354, R365 to R369, R391, R392). -/

namespace Sys2Proof.Machine

/-! ## Non-coherent access by the companion (R352 to R354) -/

/-- The code that refuses a non-coherent access; 0 when none does. -/
def ncCode (addr n : Nat) : Nat := if hostBase ≤ addr then 0x0703 else if 256 < addr % 256 + n then 0x0704 else 0

/-- NC_RD: it waits until every earlier NC_WR has taken effect. -/
def execNcRd (tag addr len now : Nat) (report : List Nat) (s : State) : Host.Outcome State Fault Refusal :=
  onDevFused s (fun f d =>
    let r : FabReq := ⟨.companion (some tag), 3, .read len, addr, none, false, now, report⟩
    let code := ncCode addr len
    if d.cpl.ncOut ≠ 0 then d
    else if code ≠ 0 then failReq (cplErr (linkFree d 0 0 1) code) r code
    else (perform f (linkFree d 0 0 1) r).getD d)

/-- NC_WR: posted, in the order of arrival. -/
def execNcWr (addr : Nat) (data : List Byte) (now : Nat) (report : List Nat) (s : State) : Host.Outcome State Fault Refusal :=
  onDevFused s (fun f d =>
    let r : FabReq := ⟨.companion none, 3, .write data, addr, none, false, now, report⟩
    let code := ncCode addr data.length
    let d' := linkFree d 0 0 (1 + msgUnits data)
    if d.cpl.ncOut ≠ 0 then d
    else if code ≠ 0 then cplErr d' code
    else (perform f { d' with cpl := { d'.cpl with ncOut := 1 } } r).getD d)

/-! ## Requests of scale-out peers (R391, R392) -/

/-- The request that a message carries. -/
def inboundReq (port : Nat) (m : List Byte) (op : FabOp) (now : Nat) (report : List Nat) : FabReq :=
  let b6 := msgV m 6 1
  ⟨.scaleout port (msgV m 4 2) (msgV m 8 2), 4, op, msgV m 16 6, if bitOf b6 6 then some (msgV m 12 4) else none, bitOf b6 7,
    now, report⟩

/-- Whether an inbound request is denied (R392). -/
def inboundDenied (d : Dev) (r : FabReq) : Bool :=
  match decodeAddr r.addr, r.op with
  | .gddr _, _ => false
  | _, .reduce _ _ => true
  | .reg _, _ => decide (d.rg fSOP_DEV_INBOUND_REG = 0)
  | _, _ => decide (hostBase ≤ r.addr)

/-- An inbound request at the device: none while it must wait. One that crosses a 256-byte boundary is malformed (R380). -/
def inboundTake (f : Fuses) (d : Dev) (port : Nat) (m : List Byte) (r : FabReq) : Option Dev :=
  let answer (code : Nat) (d : Dev) : Dev := sopRespond d 0x12 (msgV m 4 2) (msgV m 8 2) code []
  if reqLen r = 0 then some (fabAnswer d r 0 [])
  else if !reqFits r then some (answer 0x0808 (sopErr d port fSOP_PORT_ERR_FORMAT 0x0808))
  else if inboundDenied d r then some (answer 0x0806 d)
  else perform f d r

/-- An inbound request: processed here, or forwarded. -/
def inbound (s : State) (port : Nat) (m : List Byte) (opc : Nat) (op : FabOp) (report : List Nat) (now hold : Nat) :
    Host.Outcome State Fault Refusal :=
  onDevFused s (fun f d =>
    let r := inboundReq port m op now report
    if msgV m 2 2 = d.rg fSOP_DEV_DEV_ID ∧ (inboundTake f d port m r).isNone then d
    else onMsg d port m opc 0 hold (fun d => (inboundTake f d port m r).getD d))

/-- The data bytes of a request. -/
def inboundData (m : List Byte) : List Byte := (m.drop 32).take (msgV m 10 2)

/-- WR (R391). -/
def execWr (port : Nat) (msg : List Byte) (report : List Nat) (now hold : Nat) (s : State) : Host.Outcome State Fault Refusal :=
  inbound s port msg 0x01 (.write (inboundData msg)) report now hold

/-- RD (R391). -/
def execRd (port : Nat) (msg : List Byte) (report : List Nat) (now hold : Nat) (s : State) : Host.Outcome State Fault Refusal :=
  inbound s port msg 0x02 (.read (msgV msg 10 2)) report now hold

/-- RED (R284, R391). -/
def execRed (port : Nat) (msg : List Byte) (report : List Nat) (now hold : Nat) (s : State) : Host.Outcome State Fault Refusal :=
  inbound s port msg 0x03 (.reduce (msgV msg 7 1 % 16) (inboundData msg)) report now hold

/-! ## Flits (R341 to R343) -/

/-- A link layer that has reached its replay limit: the companion is lost, or the port (R343, R377, R396). -/
def linkLost (r : Dev × Bool) (k : Nat) : Dev :=
  if !r.2 then r.1
  else if k = 0 then orphanEnter (lneErr r.1 0 fLNE_ERR_COMPANION_FAIL 0x0602)
  else portLost r.1 (k - 1)

/-- PROTOCOL_FLIT (R341, R342). -/
def execProtocolFlit (link : Nat) (flit : List Byte) (uncorr : Bool) (s : State) : Host.Outcome State Fault Refusal :=
  onDev s (fun d => if link ≤ 16 then linkLost (linkProtocol d link flit uncorr) link else d)

/-- RETRY_REQ_RESEND (R342). -/
def execRetryReqResend (link : Nat) (s : State) : Host.Outcome State Fault Refusal :=
  onDev s (fun d =>
    let l := d.link link
    if link ≤ 16 ∧ l.up ∧ !l.lost ∧ l.discarding then linkLost (linkRetry d link) link else d)

/-! ## The companion's presence (R365 to R369) -/

/-- HEARTBEAT_MISS: a period without a valid heartbeat (R366, R367). -/
def heartbeatMiss (d : Dev) : Dev :=
  if !d.cpl.hbOn then d
  else
    let n := d.cpl.missed + 1
    let d := raiseEdge { d with cpl := { d.cpl with missed := n } } 20
    if d.rg fCPL_HB_CFG_MISSES ≤ n then orphanEnter d else d

/-- HEARTBEAT_MISS (R367). -/
def execHeartbeatMiss (s : State) : Host.Outcome State Fault Refusal := onDev s heartbeatMiss

/-- HELLO (R364, R365): in the HANDSHAKE step each one reloads the watchdog, and an accepted one completes the step. -/
def hello (d : Dev) (m : Mail) : Dev :=
  let shaking := decide (d.rg fBRW_STATUS_STEP = 11) && decide (d.rg fBRW_STATUS_STATE = 1)
  let d := if shaking then wdogReload d else d
  if m.major ≠ 1 then
    mailReply (if shaking then d.rs fBRW_STATUS_CODE 0x0701 else d) 0x0701 []
  else
    let d := mailReply (d.rs fCPL_STATUS_HELLO_DONE 1) 0 (leBytes 2 (d.rg fBRW_PLOTS_IN_SERVICE) ++ leBytes 1 (licencePorts d) ++
      leBytes 1 16 ++ leBytes 4 (d.rg fCPL_STATUS_ATTACH_GEN))
    if shaking then brwDone d else d

/-- HELLO (R365). -/
def execHello (s : State) : Host.Outcome State Fault Refusal := onDev s (fun d => onMail d 0x0001 hello)

/-- A slot's record in the reply to ATTACH; `left` is what its hold timer showed when it stopped (R369). -/
def attachRecord (d : Dev) (s left : Nat) : List Byte :=
  let x := d.slot s
  leBytes 1 (slotSt d s) ++ leBytes 1 (d.rg (fSTP_SLOT_PRIOR.at s)) ++ zeros 2 ++ leBytes 4 (slotGen d s) ++
    leBytes 4 (slotBase d s) ++ leBytes 4 x.tag ++ leBytes 4 x.emitted ++ leBytes 4 (x.lastPos.getD 0xFFFFFFFF) ++
    leBytes 2 (match x.hold with
      | some h => if slotSt d s = 4 then min left h else 0
      | none => 0) ++ zeros 6

/-- ATTACH (R368, R369). -/
def attach (left : List Nat) (d : Dev) (m : Mail) : Dev :=
  let g := m.v 0 4
  if m.body.length ≠ 8 ∨ m.v 4 4 / 2 ≠ 0 then mailReply d 0x0704 []
  else if g = 0 ∨ g = d.rg fCPL_STATUS_ATTACH_GEN then mailReply d 0x0706 []
  else
    let body := leBytes 4 g ++ leBytes 1 (d.rg fCPL_STATUS_ORPHAN) ++ zeros 3 ++ leBytes 8 d.steps.lastNo ++
      (List.range 16).flatMap (fun s => attachRecord d s (left.getD s 0))
    let d := (d.rs fCPL_STATUS_ATTACH_GEN g).rs fCPL_STATUS_ORPHAN 0
    let d := { d with cpl := { d.cpl with missed := 0 }, steps := { d.steps with orphanWait := false } }
    let d := (List.range 16).foldl (fun d s => d.setSlot s { d.slot s with hold := none }) d
    let d := if bitOf (m.v 4 1) 0 then d else (List.range 3).foldl (fun d r => d.rs (fCPL_RING_CFG_ENABLE.at r) 0) d
    mailReply d 0 body

/-- ATTACH (R368). -/
def execAttach (left : List Nat) (s : State) : Host.Outcome State Fault Refusal := onDev s (fun d => onMail d 0x0002 (attach left))

/-- DETACH (R367). -/
def execDetach (s : State) : Host.Outcome State Fault Refusal :=
  onDev s (fun d => onMail d 0x0003 (fun d _ => mailReply (orphanEnter d) 0 []))

end Sys2Proof.Machine
end

