-- ==== Sys2Proof/Machine/Vector.lean ====
section
/-! DEFINITION. The vector unit (R86, R119 to R126, R147): one meaning per FUNC over shared operand handling. -/

namespace Sys2Proof.Machine

/-! ## Operands -/

/-- The groups of VOP operations that share their operand rules (R147). -/
inductive VGroup where
  | arith | compare | select | reduce | convert | qmx | qok4 | integer
deriving DecidableEq, Repr

/-- A VOP by its parts: group, whether B and C are operands, and the fields of its word. -/
structure Vop where
  group : VGroup
  usesB : Bool
  usesC : Bool
  fmtA : Nat
  fmtD : Nat
  rnd : Rnd
  sat : Bool
  ia : Nat
  ib : Nat
  ic : Nat
  id : Nat
  len : Nat
deriving DecidableEq, Repr

/-- The fields of a VOP word (the table of the VOP encoding). -/
def vopOf (g : VGroup) (usesB usesC : Bool) (w : Nat) : Vop :=
  ⟨g, usesB, usesC, bitsOf w 48 4, bitsOf w 44 4, if bitOf w 43 then .rtz else .rne, bitOf w 42,
    bitsOf w 38 4, bitsOf w 34 4, bitsOf w 30 4, bitsOf w 26 4, bitsOf w 10 16⟩

/-- Whether key means are read from C: an OK4 source, or QOK4, with IC not 0 (R147). -/
def Vop.means (v : Vop) : Bool := (v.fmtA = 14 && v.group ≠ .integer || v.group = .qok4) && v.ic ≠ 0

/-- Groups of an OQ4 source (R147). -/
def Vop.groups (v : Vop) : Nat := (v.len + 4095) / 4096

/-- Bytes of source A. -/
def Vop.bytesA (v : Vop) : Nat :=
  if v.group = .integer then 4 * v.len
  else if v.fmtA = 13 then v.groups * 2048 else srcBytes v.fmtA v.len

/-- Bytes of source B: the second operand, or the headers of an OQ4 source. -/
def Vop.bytesB (v : Vop) : Nat :=
  if v.group = .integer then 4 * v.len
  else if v.fmtA = 13 then v.groups * 32
  else if v.usesB then srcBytes v.fmtA v.len else 0

/-- Bytes of source C: an operand, the mask of SEL, or key means. -/
def Vop.bytesC (v : Vop) : Nat :=
  if v.group = .select then 4 * v.len
  else max (if v.usesC then srcBytes v.fmtA v.len else 0) (if v.means then 2 * v.len else 0)

/-- The destination's pieces: element area, and for QMX and QOK4 the scale area at the next 16-byte boundary. -/
def Vop.pieces (v : Vop) (d : Nat) : List (Nat × Nat) :=
  match v.group with
  | .compare | .integer => [(d, 4 * v.len)]
  | .reduce => [(d, (fmtBits v.fmtD + 7) / 8)]
  | .qmx =>
    let nb := (v.len + 31) / 32
    let eb := nb * (4 * fmtBits v.fmtD)
    [(d, eb), (d + (eb + 15) / 16 * 16, nb)]
  | .qok4 =>
    let nb := (v.len + 15) / 16
    [(d, nb * 8), (d + (nb * 8 + 15) / 16 * 16, nb)]
  | _ => [(d, (v.len * fmtBits v.fmtD + 7) / 8)]

/-- The format checks of a VOP, steps 2 and 3 of R596 (R47, R48, R147); 0 when they pass. -/
def Vop.fmtStop (v : Vop) (d : Dev) : Nat :=
  if v.group = .integer then 0
  else
    let decodeOnly := v.group = .convert || v.group = .qmx || v.group = .qok4
    if v.fmtA = 15 ∨ (v.fmtA = 13 ∧ decodeOnly = false) then 0x0C42
    else if v.group = .qmx ∧ fmtMX v.fmtD = false then 0x0C42
    else if v.group ≠ .qmx ∧ v.group ≠ .qok4 ∧ [0, 1, 2, 3, 4, 11, 12].contains v.fmtD = false then 0x0C42
    else if !fmtLicensed d v.fmtA || (v.group = .qok4 && !fmtLicensed d 14) then 0x0C41
    else 0

/-- The addresses of A, B, C and D. -/
def Vop.addrs (v : Vop) (pl : Plot) : Nat × Nat × Nat × Nat := (pl.idx v.ia, pl.idx v.ib, pl.idx v.ic, pl.idx v.id)

/-- The units a VOP reads. -/
def Vop.reads (v : Vop) (pl : Plot) : List Nat :=
  let a := v.addrs pl
  unitsOf a.1 v.bytesA ++ unitsOf a.2.1 v.bytesB ++ unitsOf a.2.2.1 v.bytesC

/-- The units a VOP writes. -/
def Vop.writes (v : Vop) (pl : Plot) : List Nat :=
  ((v.pieces (v.addrs pl).2.2.2).flatMap (fun e => unitsOf e.1 e.2)).eraseDups

/-- The code that stops a VOP at issue, in the order of R596; 0 when none does. -/
def Vop.stop (v : Vop) (d : Dev) (pl : Plot) (w : Nat) : Nat :=
  let a := v.addrs pl
  let ranges := [(a.1, v.bytesA), (a.2.1, v.bytesB), (a.2.2.1, v.bytesC)].filter (fun e => e.2 ≠ 0)
  let dst := v.pieces a.2.2.2
  let span := dst.foldl (fun n e => max n (e.1 + e.2 - a.2.2.2)) 0
  if bitsOf w 0 10 ≠ 0 then 0x0C01
  else if v.fmtStop d ≠ 0 then v.fmtStop d
  else if v.len = 0 then 0
  else if ranges.any (fun e => e.1 % 16 ≠ 0) || a.2.2.2 % 16 ≠ 0 then 0x0C04
  else if ranges.any (fun e => !inLocal e.1 e.2) || !inLocal a.2.2.2 span then 0x0C10
  else if inControl a.2.2.2 span then 0x0C06
  else if regionConflict pl (v.reads pl) (v.writes pl) then 0x0C30
  else 0

/-- The decoded sources of a VOP: values of A, B and C, the raw bytes of A, B and C, and the decoding's flags. -/
structure VSrc where
  a : List FVal
  b : List FVal
  c : List FVal
  rawA : List Byte
  rawB : List Byte
  rawC : List Byte
  means : Option (List Nat)
  flags : Nat
deriving DecidableEq, Repr

/-- The decoded weights of an OQ4 source, group by group in the nibble order of R64 (R147). -/
def oq4Elems (n : Nat) (index hdr : List Byte) : List FVal :=
  let codes := unpackCodes 4 n index
  (List.range n).zip codes |>.map (fun e =>
    let g := e.1 / 4096
    let h := (hdr.drop (g * 32)).take 32
    let c := oq4Code h (e.1 % 4096 / 128) (e.1 % 128) e.2
    if c = 0 then fZero else (round32 (mulExact (fInt (signedOf 8 c)) (decodeFp fmtBf16 (oq4Scale h)))).1)

/-- Decodes the sources to binary32 (R70, R147). -/
def vopSources (v : Vop) (rawA rawB rawC : List Byte) : VSrc :=
  let means := if v.means then some (unpackCodes 16 v.len rawC) else none
  if v.group = .integer then ⟨[], [], [], rawA, rawB, rawC, none, 0⟩
  else if v.fmtA = 13 then ⟨oq4Elems v.len rawA rawB, [], [], rawA, rawB, rawC, means, 0⟩
  else
    let src := if v.fmtA = 14 then means else none
    let a := decodeElems v.fmtA v.len v.rnd v.sat rawA src
    let b := if v.usesB then decodeElems v.fmtA v.len v.rnd v.sat rawB src else ([], 0)
    let c := if v.usesC && v.group ≠ .select then decodeElems v.fmtA v.len v.rnd v.sat rawC none else ([], 0)
    ⟨a.1, b.1, c.1, rawA, rawB, rawC, means, a.2 ||| b.2 ||| c.2⟩

/-- Issues a VOP: checks, reads, `run` gives the bytes of each destination piece and the flags, then the writes and the
opening of the vector check (R119, R126, R161). -/
def vopRun (g : VGroup) (usesB usesC : Bool) (run : Vop → VSrc → List (List Byte) × Nat)
    (d : Dev) (p pc w : Nat) : Issued :=
  let v := vopOf g usesB usesC w
  let pl := d.plot p
  let code := v.stop d pl w
  if code ≠ 0 then .stop code
  else if v.len = 0 then .done d
  else
    let a := v.addrs pl
    let ra := plotRead d p pc a.1 v.bytesA
    let rb := plotRead ra.1 p pc a.2.1 v.bytesB
    let rc := plotRead rb.1 p pc a.2.2.1 v.bytesC
    if v.group ≠ .integer ∧ v.fmtA = 13 ∧
        (List.range v.groups).any (fun i => oq4HeaderBad ((rb.2.drop (i * 32)).take 32)) then .stop 0x0C40
    else
      let src := vopSources v ra.2 rb.2 rc.2
      let out := run v src
      let reads := v.reads pl
      let writes := v.writes pl
      let pieces := v.pieces a.2.2.2
      let pl := fmtFlags (rc.1.plot p) (src.flags ||| out.2)
      let q := openCheck pl writes reads [] false
      let pl := markWrite (markRead q.1 reads) writes (fun u => pieces.any (fun e => coversUnit e.1 e.2 u))
      let pl := { pl with vecChecks := pl.vecChecks ++ [⟨q.2, pc, 0, 0, 0, false⟩] }
      .done ((pieces.zip out.1).foldl (fun d e => plotWrite d p pc e.1.1 e.2) (rc.1.setPlot p pl))

/-- Whether a word is the VOP of FUNC `fn`. -/
def isVop (fn w : Nat) : Bool := isOp 0x18 w && decide (bitsOf w 52 6 = fn)

/-! ## Results -/

/-- Destination bytes of an elementwise result, each value rounded once to FMT_D to nearest even (R71, R120). -/
def vopOut (v : Vop) (rs : List (FVal × Nat)) (r : Rnd) (sat : Bool) : List (List Byte) × Nat :=
  let q := rs.map (fun e =>
    let c := encodeElem v.fmtD r sat e.1
    (c.1, e.2 ||| c.2))
  ([packCodes (fmtBits v.fmtD) (q.map (·.1))], q.foldl (fun f e => f ||| e.2) 0)

/-- An elementwise operation on A. -/
def vop1 (op : FVal → FVal × Nat) (v : Vop) (s : VSrc) : List (List Byte) × Nat := vopOut v (s.a.map op) .rne false

/-- An elementwise operation on A and B. -/
def vop2 (op : FVal → FVal → FVal × Nat) (v : Vop) (s : VSrc) : List (List Byte) × Nat :=
  vopOut v ((s.a.zip s.b).map (fun e => op e.1 e.2)) .rne false

/-- A comparison of A and B: int32 1 or 0 (R147). -/
def vopCmp (op : FVal → FVal → Bool) (_ : Vop) (s : VSrc) : List (List Byte) × Nat :=
  let q := (s.a.zip s.b).map (fun e => (if op e.1 e.2 then 1 else 0, e.1.nanFlags ||| e.2.nanFlags))
  ([packCodes 32 (q.map (·.1))], q.foldl (fun f e => f ||| e.2) 0)

/-- A reduction in lanes (R121): `id` is the identity, `op` one combination, rounded in the lane's format. -/
def laneReduce (lanes : Nat) (id : FVal) (op : FVal → FVal → FVal × Nat) (xs : List FVal) : FVal × Nat :=
  let start := (List.range lanes).map (fun j =>
    ((List.range ((xs.length + lanes - 1) / lanes)).filterMap (fun i => xs[i * lanes + j]?)).foldl
      (fun (a : FVal × Nat) x => let r := op a.1 x; (r.1, a.2 ||| r.2)) (id, 0))
  tree (Nat.log2 lanes) start
where
  /-- The pairwise tree: at each level neighbours combine, the lower lane on the left. -/
  tree : Nat → List (FVal × Nat) → FVal × Nat
    | 0, l => l.headD (id, 0)
    | n + 1, l => tree n (pairs l)
  /-- One level of the tree. -/
  pairs : List (FVal × Nat) → List (FVal × Nat)
    | a :: b :: t => (let r := op a.1 b.1; (r.1, a.2 ||| b.2 ||| r.2)) :: pairs t
    | l => l

/-- The bfloat16 sum of R79. -/
def addBf16 (a b : FVal) : FVal × Nat :=
  let s := addExact a b
  let q := encodeFp fmtBf16 .rne false s.1
  (decodeFp fmtBf16 q.1, s.2 ||| q.2)

/-- A reduction of A into one element of FMT_D: 512 bfloat16 lanes when both formats are bfloat16, else 256 (R121). -/
def vopReduce (id : FVal) (op opBf : FVal → FVal → FVal × Nat) (v : Vop) (s : VSrc) : List (List Byte) × Nat :=
  let r := if v.fmtA = 2 ∧ v.fmtD = 2 then laneReduce 512 id opBf s.a else laneReduce 256 id op s.a
  vopOut v [r] .rne false

/-- CVT: A rounded once to FMT_D with the instruction's RTZ and SAT (R70 to R72). -/
def vopConvert (v : Vop) (s : VSrc) : List (List Byte) × Nat :=
  vopOut v (s.a.map (fun x => (x, x.nanFlags))) v.rnd v.sat

/-- A list cut into blocks of `n`, the last completed with +0 (R60, R147). -/
def blocksOf (n : Nat) (xs : List FVal) : List (List FVal) :=
  (List.range ((xs.length + n - 1) / n)).map (fun i => (List.range n).map (fun j => xs.getD (i * n + j) fZero))

/-- emax of an MX element type (R73). -/
def mxEmax (f : Nat) : Int :=
  match f with
  | 5 => 8 | 6 => 15 | 7 => 4 | 8 => 2 | 9 => 2 | _ => 0

/-- Quantises a block of 32 to an MX format (R73, R74): element codes, scale byte, flags. -/
def quantMX (f : Nat) (r : Rnd) (sat : Bool) (x : List FVal) : List Nat × Nat × Nat :=
  if x.any FVal.isNaN then (x.map (fun _ => 0), 0xFF, x.foldl (fun a v => a ||| v.nanFlags) flagMX_NAN)
  else
    let e := sharedExp (amaxOf x) (mxEmax f) (-127) 127
    let one (v : FVal) : Nat × Nat :=
      match v with
      | .inf n =>
        if f = 6 ∧ sat = false then ((if n then 128 else 0) + 0x7C, 0)
        else if f = 10 then quantInt8 r e v else quantElem (fmtFp f) r e v
      | _ => if f = 10 then quantInt8 r e v else quantElem (fmtFp f) r e v
    let q := x.map one
    (q.map (·.1), (e + 127).toNat, q.foldl (fun a c => a ||| c.2) 0)

/-- QMX (R73). -/
def vopQuantMX (v : Vop) (s : VSrc) : List (List Byte) × Nat :=
  let q := (blocksOf 32 s.a).map (quantMX v.fmtD v.rnd v.sat)
  ([packCodes (fmtBits v.fmtD) (q.flatMap (·.1)), q.map (fun b => BitVec.ofNat 8 b.2.1)],
    q.foldl (fun f b => f ||| b.2.2) 0)

/-- QOK4: the inputs less their key means, in blocks of 16 (R69). -/
def vopQuantOK4 (v : Vop) (s : VSrc) : List (List Byte) × Nat :=
  let d : List (FVal × Nat) := match s.means with
    | some m => (s.a.zip m).map (fun e => add32 e.1 (decodeFp fmtBf16 e.2).neg)
    | none => s.a.map (fun x => (x, x.nanFlags))
  let q := (blocksOf 16 (d.map (·.1))).map (quantOK4 v.rnd)
  ([packCodes 4 (q.flatMap (·.1)), q.map (fun b => BitVec.ofNat 8 b.2.1)],
    q.foldl (fun f b => f ||| b.2.2) (d.foldl (fun f e => f ||| e.2) 0))

/-- An int32 operation on A and B, modulo 2^32 (R120, R147). -/
def vopInt (op : Nat → Nat → Nat) (v : Vop) (s : VSrc) : List (List Byte) × Nat :=
  ([packCodes 32 (((unpackCodes 32 v.len s.rawA).zip (unpackCodes 32 v.len s.rawB)).map (fun e => op e.1 e.2 % 2 ^ 32))], 0)

/-! ## The operations -/

/-- ADD: A + B. -/
def execVopAdd (p : Nat) (s : State) : Host.Outcome State Fault Refusal :=
  onDev s (fun d => issueWord d p (isVop 0x00) false (fun d pc w => vopRun .arith true false (vop2 addExact) d p pc w))

/-- SUB: A − B. -/
def execVopSub (p : Nat) (s : State) : Host.Outcome State Fault Refusal :=
  onDev s (fun d => issueWord d p (isVop 0x01) false (fun d pc w =>
    vopRun .arith true false (vop2 (fun a b => addExact a b.neg)) d p pc w))

/-- MUL: A × B. -/
def execVopMul (p : Nat) (s : State) : Host.Outcome State Fault Refusal :=
  onDev s (fun d => issueWord d p (isVop 0x02) false (fun d pc w => vopRun .arith true false (vop2 mulExact) d p pc w))

/-- FMA: A × B + C, one rounding. -/
def execVopFma (p : Nat) (s : State) : Host.Outcome State Fault Refusal :=
  onDev s (fun d => issueWord d p (isVop 0x03) false (fun d pc w =>
    vopRun .arith true true (fun v s =>
      vopOut v ((s.a.zip (s.b.zip s.c)).map (fun e => fmaExact e.1 e.2.1 e.2.2)) .rne false) d p pc w))

/-- MIN (R79). -/
def execVopMin (p : Nat) (s : State) : Host.Outcome State Fault Refusal :=
  onDev s (fun d => issueWord d p (isVop 0x04) false (fun d pc w => vopRun .arith true false (vop2 minExact) d p pc w))

/-- MAX (R79). -/
def execVopMax (p : Nat) (s : State) : Host.Outcome State Fault Refusal :=
  onDev s (fun d => issueWord d p (isVop 0x05) false (fun d pc w => vopRun .arith true false (vop2 maxExact) d p pc w))

/-- ABS. -/
def execVopAbs (p : Nat) (s : State) : Host.Outcome State Fault Refusal :=
  onDev s (fun d => issueWord d p (isVop 0x06) false (fun d pc w =>
    vopRun .arith false false (vop1 (fun a => (a.abs, a.nanFlags))) d p pc w))

/-- NEG. -/
def execVopNeg (p : Nat) (s : State) : Host.Outcome State Fault Refusal :=
  onDev s (fun d => issueWord d p (isVop 0x07) false (fun d pc w =>
    vopRun .arith false false (vop1 (fun a => (a.neg, a.nanFlags))) d p pc w))

/-- CMPEQ: A = B; −0 equals +0, a NaN compares unordered. -/
def execVopCmpeq (p : Nat) (s : State) : Host.Outcome State Fault Refusal :=
  onDev s (fun d => issueWord d p (isVop 0x08) false (fun d pc w => vopRun .compare true false (vopCmp eqExact) d p pc w))

/-- CMPLT: A < B. -/
def execVopCmplt (p : Nat) (s : State) : Host.Outcome State Fault Refusal :=
  onDev s (fun d => issueWord d p (isVop 0x09) false (fun d pc w => vopRun .compare true false (vopCmp ltExact) d p pc w))

/-- CMPLE: A ≤ B. -/
def execVopCmple (p : Nat) (s : State) : Host.Outcome State Fault Refusal :=
  onDev s (fun d => issueWord d p (isVop 0x0A) false (fun d pc w =>
    vopRun .compare true false (vopCmp (fun a b => ltExact a b || eqExact a b)) d p pc w))

/-- SEL: C ≠ 0 ? A : B, with C read as int32. -/
def execVopSel (p : Nat) (s : State) : Host.Outcome State Fault Refusal :=
  onDev s (fun d => issueWord d p (isVop 0x0B) false (fun d pc w =>
    vopRun .select true true (fun v s =>
      vopOut v ((s.a.zip (s.b.zip (unpackCodes 32 v.len s.rawC))).map (fun e =>
        let x := if e.2.2 ≠ 0 then e.1 else e.2.1
        (x, x.nanFlags))) .rne false) d p pc w))

/-- EXP (R122). -/
def execVopExp (p : Nat) (s : State) : Host.Outcome State Fault Refusal :=
  onDev s (fun d => issueWord d p (isVop 0x10) false (fun d pc w => vopRun .arith false false (vop1 exp32) d p pc w))

/-- LOG (R123). -/
def execVopLog (p : Nat) (s : State) : Host.Outcome State Fault Refusal :=
  onDev s (fun d => issueWord d p (isVop 0x11) false (fun d pc w => vopRun .arith false false (vop1 log32) d p pc w))

/-- RECIP (R124). -/
def execVopRecip (p : Nat) (s : State) : Host.Outcome State Fault Refusal :=
  onDev s (fun d => issueWord d p (isVop 0x12) false (fun d pc w => vopRun .arith false false (vop1 recip32) d p pc w))

/-- RSQRT (R120). -/
def execVopRsqrt (p : Nat) (s : State) : Host.Outcome State Fault Refusal :=
  onDev s (fun d => issueWord d p (isVop 0x13) false (fun d pc w => vopRun .arith false false (vop1 rsqrt32) d p pc w))

/-- DIV (R120). -/
def execVopDiv (p : Nat) (s : State) : Host.Outcome State Fault Refusal :=
  onDev s (fun d => issueWord d p (isVop 0x14) false (fun d pc w => vopRun .arith true false (vop2 divExact) d p pc w))

/-- RSUM (R121). -/
def execVopRsum (p : Nat) (s : State) : Host.Outcome State Fault Refusal :=
  onDev s (fun d => issueWord d p (isVop 0x18) false (fun d pc w =>
    vopRun .reduce false false (vopReduce fZero add32 addBf16) d p pc w))

/-- RMAX (R121). -/
def execVopRmax (p : Nat) (s : State) : Host.Outcome State Fault Refusal :=
  onDev s (fun d => issueWord d p (isVop 0x19) false (fun d pc w =>
    vopRun .reduce false false (vopReduce (.inf true) maxExact maxExact) d p pc w))

/-- RMIN (R121). -/
def execVopRmin (p : Nat) (s : State) : Host.Outcome State Fault Refusal :=
  onDev s (fun d => issueWord d p (isVop 0x1A) false (fun d pc w =>
    vopRun .reduce false false (vopReduce (.inf false) minExact minExact) d p pc w))

/-- CVT: FMT_A to FMT_D. -/
def execVopCvt (p : Nat) (s : State) : Host.Outcome State Fault Refusal :=
  onDev s (fun d => issueWord d p (isVop 0x20) false (fun d pc w => vopRun .convert false false vopConvert d p pc w))

/-- QMX (R73). -/
def execVopQmx (p : Nat) (s : State) : Host.Outcome State Fault Refusal :=
  onDev s (fun d => issueWord d p (isVop 0x21) false (fun d pc w => vopRun .qmx false false vopQuantMX d p pc w))

/-- QOK4 (R69). -/
def execVopQok4 (p : Nat) (s : State) : Host.Outcome State Fault Refusal :=
  onDev s (fun d => issueWord d p (isVop 0x22) false (fun d pc w => vopRun .qok4 false false vopQuantOK4 d p pc w))

/-- IADD: int32, wrapping. -/
def execVopIadd (p : Nat) (s : State) : Host.Outcome State Fault Refusal :=
  onDev s (fun d => issueWord d p (isVop 0x28) false (fun d pc w =>
    vopRun .integer true false (vopInt (fun a b => a + b)) d p pc w))

/-- ISUB: int32, wrapping. -/
def execVopIsub (p : Nat) (s : State) : Host.Outcome State Fault Refusal :=
  onDev s (fun d => issueWord d p (isVop 0x29) false (fun d pc w =>
    vopRun .integer true false (vopInt (fun a b => a + 2 ^ 32 - b)) d p pc w))

/-- IAND. -/
def execVopIand (p : Nat) (s : State) : Host.Outcome State Fault Refusal :=
  onDev s (fun d => issueWord d p (isVop 0x2A) false (fun d pc w =>
    vopRun .integer true false (vopInt (fun a b => a &&& b)) d p pc w))

/-- IOR. -/
def execVopIor (p : Nat) (s : State) : Host.Outcome State Fault Refusal :=
  onDev s (fun d => issueWord d p (isVop 0x2B) false (fun d pc w =>
    vopRun .integer true false (vopInt (fun a b => a ||| b)) d p pc w))

/-- IXOR. -/
def execVopIxor (p : Nat) (s : State) : Host.Outcome State Fault Refusal :=
  onDev s (fun d => issueWord d p (isVop 0x2C) false (fun d pc w =>
    vopRun .integer true false (vopInt (fun a b => a ^^^ b)) d p pc w))

/-- ISHL: A shifted left by B mod 32. -/
def execVopIshl (p : Nat) (s : State) : Host.Outcome State Fault Refusal :=
  onDev s (fun d => issueWord d p (isVop 0x2D) false (fun d pc w =>
    vopRun .integer true false (vopInt (fun a b => a * 2 ^ (b % 32))) d p pc w))

/-- ISHR: A shifted right arithmetically by B mod 32. -/
def execVopIshr (p : Nat) (s : State) : Host.Outcome State Fault Refusal :=
  onDev s (fun d => issueWord d p (isVop 0x2E) false (fun d pc w =>
    vopRun .integer true false (vopInt (fun a b => codeOf 32 (signedOf 32 a / (2 ^ (b % 32) : Nat)))) d p pc w))

/-! ## The vector check -/

/-- The oldest vector check closes (R126). `upset`: 0 it matches, 1 a residue or second-evaluation mismatch, 2 a parity
error on a function table entry. -/
def vecCheckClose (d : Dev) (p upset : Nat) : Dev :=
  let pl := d.plot p
  match pl.vecChecks with
  | [] => d
  | c :: t =>
    let d := d.setPlot p (closeCheck { pl with vecChecks := t } c.id (upset = 0))
    if upset = 0 then d
    else if upset = 1 then stopAt (arrErr d p fPLOT_ARR_ERR_VEC_RESIDUE) p c.pc 0x0B06
    else stopAt (arrErr d p fPLOT_ARR_ERR_VEC_TABLE_PARITY) p c.pc 0x0B07

/-- VEC_CHECK_CLOSE (R126). -/
def execVecCheckClose (p upset : Nat) (s : State) : Host.Outcome State Fault Refusal :=
  onDev s (fun d => vecCheckClose d p upset)

end Sys2Proof.Machine
end

