-- ==== Sys2Proof/Machine/Dispatch.lean ====
section
/-! DEFINITION. One arm per command: its meaning, or its rejection by name. -/

namespace Sys2Proof.Machine

def exec (i : Instr) (s : State) : Host.Outcome State Fault Refusal :=
  match i with
  | .regWrite off size data => Sys2Proof.Machine.execRegWrite off size data s
  | .fabricRequest r => Sys2Proof.Machine.execFabricRequest r s
  | .regulationGrant point now next => Sys2Proof.Machine.execRegulationGrant point now next s
  | .regWindowBoundary point => Sys2Proof.Machine.execRegWindowBoundary point s
  | .slackExpiry place => Sys2Proof.Machine.execSlackExpiry place s
  | .fabRegCfgWrite point data => Sys2Proof.Machine.execFabRegCfgWrite point data s
  | .fabRegClassWrite point cls data => Sys2Proof.Machine.execFabRegClassWrite point cls data s
  | .bridgeCrcFail failures => Sys2Proof.Machine.execBridgeCrcFail failures s
  | .bridgePortLockLoss row => Sys2Proof.Machine.execBridgePortLockLoss row s
  | .mcfg p => Sys2Proof.Machine.execMcfg p s
  | .lds p => Sys2Proof.Machine.execLds p s
  | .shadowLoadDone p => Sys2Proof.Machine.execShadowLoadDone p s
  | .mmul p => Sys2Proof.Machine.execMmul p s
  | .swapStart p => Sys2Proof.Machine.execSwapStart p s
  | .swapDone p => Sys2Proof.Machine.execSwapDone p s
  | .arrCheckClose p upset => Sys2Proof.Machine.execArrCheckClose p upset s
  | .plotArrInjectWrite p data => Sys2Proof.Machine.execPlotArrInjectWrite p data s
  | .plotArrRepairWrite p data => Sys2Proof.Machine.execPlotArrRepairWrite p data s
  | .vecCheckClose p upset => Sys2Proof.Machine.execVecCheckClose p upset s
  | .vopAdd p => Sys2Proof.Machine.execVopAdd p s
  | .vopSub p => Sys2Proof.Machine.execVopSub p s
  | .vopMul p => Sys2Proof.Machine.execVopMul p s
  | .vopFma p => Sys2Proof.Machine.execVopFma p s
  | .vopMin p => Sys2Proof.Machine.execVopMin p s
  | .vopMax p => Sys2Proof.Machine.execVopMax p s
  | .vopAbs p => Sys2Proof.Machine.execVopAbs p s
  | .vopNeg p => Sys2Proof.Machine.execVopNeg p s
  | .vopCmpeq p => Sys2Proof.Machine.execVopCmpeq p s
  | .vopCmplt p => Sys2Proof.Machine.execVopCmplt p s
  | .vopCmple p => Sys2Proof.Machine.execVopCmple p s
  | .vopSel p => Sys2Proof.Machine.execVopSel p s
  | .vopExp p => Sys2Proof.Machine.execVopExp p s
  | .vopLog p => Sys2Proof.Machine.execVopLog p s
  | .vopRecip p => Sys2Proof.Machine.execVopRecip p s
  | .vopRsqrt p => Sys2Proof.Machine.execVopRsqrt p s
  | .vopDiv p => Sys2Proof.Machine.execVopDiv p s
  | .vopRsum p => Sys2Proof.Machine.execVopRsum p s
  | .vopRmax p => Sys2Proof.Machine.execVopRmax p s
  | .vopRmin p => Sys2Proof.Machine.execVopRmin p s
  | .vopCvt p => Sys2Proof.Machine.execVopCvt p s
  | .vopQmx p => Sys2Proof.Machine.execVopQmx p s
  | .vopQok4 p => Sys2Proof.Machine.execVopQok4 p s
  | .vopIadd p => Sys2Proof.Machine.execVopIadd p s
  | .vopIsub p => Sys2Proof.Machine.execVopIsub p s
  | .vopIand p => Sys2Proof.Machine.execVopIand p s
  | .vopIor p => Sys2Proof.Machine.execVopIor p s
  | .vopIxor p => Sys2Proof.Machine.execVopIxor p s
  | .vopIshl p => Sys2Proof.Machine.execVopIshl p s
  | .vopIshr p => Sys2Proof.Machine.execVopIshr p s
  | .nop p => Sys2Proof.Machine.execNop p s
  | .halt p => Sys2Proof.Machine.execHalt p s
  | .haltWaitEnd p => Sys2Proof.Machine.execHaltWaitEnd p s
  | .jmp p => Sys2Proof.Machine.execJmp p s
  | .loop p => Sys2Proof.Machine.execLoop p s
  | .seti p => Sys2Proof.Machine.execSeti p s
  | .addi p => Sys2Proof.Machine.execAddi p s
  | .ldi p => Sys2Proof.Machine.execLdi p s
  | .fenceCheck p => Sys2Proof.Machine.execFenceCheck p s
  | .fenceDma p => Sys2Proof.Machine.execFenceDma p s
  | .fenceTine p => Sys2Proof.Machine.execFenceTine p s
  | .fenceAll p => Sys2Proof.Machine.execFenceAll p s
  | .fenceCkpt p => Sys2Proof.Machine.execFenceCkpt p s
  | .fenceSatisfied p => Sys2Proof.Machine.execFenceSatisfied p s
  | .wait p => Sys2Proof.Machine.execWait p s
  | .waitSatisfied p => Sys2Proof.Machine.execWaitSatisfied p s
  | .syncTimeout p => Sys2Proof.Machine.execSyncTimeout p s
  | .signal p => Sys2Proof.Machine.execSignal p s
  | .outboundRelease p report => Sys2Proof.Machine.execOutboundRelease p report s
  | .dma p => Sys2Proof.Machine.execDma p s
  | .dmaDescComplete p desc report => Sys2Proof.Machine.execDmaDescComplete p desc report s
  | .tissue p => Sys2Proof.Machine.execTissue p s
  | .tineIssueComplete p => Sys2Proof.Machine.execTineIssueComplete p s
  | .start p pc => Sys2Proof.Machine.execStart p pc s
  | .replay p => Sys2Proof.Machine.execReplay p s
  | .abort p => Sys2Proof.Machine.execAbort p s
  | .clearFailed p => Sys2Proof.Machine.execClearFailed p s
  | .seqDrainDone p => Sys2Proof.Machine.execSeqDrainDone p s
  | .plotSeqIdxWrite p idx data => Sys2Proof.Machine.execPlotSeqIdxWrite p idx data s
  | .plotPmDataWrite p data => Sys2Proof.Machine.execPlotPmDataWrite p data s
  | .plotSyncCtrWrite p c data => Sys2Proof.Machine.execPlotSyncCtrWrite p c data s
  | .plotDmaExtWrite p e size data => Sys2Proof.Machine.execPlotDmaExtWrite p e size data s
  | .sowBegin p gen lib base count crc => Sys2Proof.Machine.execSowBegin p gen lib base count crc s
  | .sowData p gen seq words => Sys2Proof.Machine.execSowData p gen seq words s
  | .sowEnd p gen packets => Sys2Proof.Machine.execSowEnd p gen packets s
  | .sowAckTimeout => Sys2Proof.Machine.execSowAckTimeout s
  | .channelToTineDone p ch => Sys2Proof.Machine.execChannelToTineDone p ch s
  | .batchLimitExpiry p ch => Sys2Proof.Machine.execBatchLimitExpiry p ch s
  | .channelToMemoryDone p ch => Sys2Proof.Machine.execChannelToMemoryDone p ch s
  | .heldQueueServed p ch => Sys2Proof.Machine.execHeldQueueServed p ch s
  | .tend p t => Sys2Proof.Machine.execTend p t s
  | .tset p t => Sys2Proof.Machine.execTset p t s
  | .taddi p t => Sys2Proof.Machine.execTaddi p t s
  | .tlda p t => Sys2Proof.Machine.execTlda p t s
  | .tloop p t => Sys2Proof.Machine.execTloop p t s
  | .tact p t => Sys2Proof.Machine.execTact p t s
  | .tactLoad p ch => Sys2Proof.Machine.execTactLoad p ch s
  | .tmv p t => Sys2Proof.Machine.execTmv p t s
  | .tclr p t => Sys2Proof.Machine.execTclr p t s
  | .tout p t => Sys2Proof.Machine.execTout p t s
  | .tattAttend p t => Sys2Proof.Machine.execTattAttend p t s
  | .tattScore p t => Sys2Proof.Machine.execTattScore p t s
  | .tred p t => Sys2Proof.Machine.execTred p t s
  | .tpack p t => Sys2Proof.Machine.execTpack p t s
  | .tadd p t => Sys2Proof.Machine.execTadd p t s
  | .tcrcClear p t => Sys2Proof.Machine.execTcrcClear p t s
  | .tcrcWrite p t => Sys2Proof.Machine.execTcrcWrite p t s
  | .tineCheckClose p t upset => Sys2Proof.Machine.execTineCheckClose p t upset s
  | .tineBufferApply p => Sys2Proof.Machine.execTineBufferApply p s
  | .partialRecordValid p t => Sys2Proof.Machine.execPartialRecordValid p t s
  | .attPartialTimeout p t => Sys2Proof.Machine.execAttPartialTimeout p t s
  | .refreshDue p ch bank => Sys2Proof.Machine.execRefreshDue p ch bank s
  | .refreshStart p ch bank => Sys2Proof.Machine.execRefreshStart p ch bank s
  | .refreshDone p ch bank => Sys2Proof.Machine.execRefreshDone p ch bank s
  | .remapCopyStart p ch => Sys2Proof.Machine.execRemapCopyStart p ch s
  | .remapCopyDone p ch => Sys2Proof.Machine.execRemapCopyDone p ch s
  | .bedChCfgWrite p ch data => Sys2Proof.Machine.execBedChCfgWrite p ch data s
  | .bedChFlipWrite p ch data => Sys2Proof.Machine.execBedChFlipWrite p ch data s
  | .bedTinePmDataWrite p data => Sys2Proof.Machine.execBedTinePmDataWrite p data s
  | .acfg p => Sys2Proof.Machine.execAcfg p s
  | .qload p => Sys2Proof.Machine.execQload p s
  | .kvpages p => Sys2Proof.Machine.execKvpages p s
  | .emit p => Sys2Proof.Machine.execEmit p s
  | .attClear p => Sys2Proof.Machine.execAttClear p s
  | .streamRecordArrival p stream report => Sys2Proof.Machine.execStreamRecordArrival p stream report s
  | .attCheckClose p upset => Sys2Proof.Machine.execAttCheckClose p upset s
  | .open job => Sys2Proof.Machine.execOpen job s
  | .append job => Sys2Proof.Machine.execAppend job s
  | .cancel job => Sys2Proof.Machine.execCancel job s
  | .resume job => Sys2Proof.Machine.execResume job s
  | .stepStart drafts opens => Sys2Proof.Machine.execStepStart drafts opens s
  | .stepCommit logits faults resid others peers emit now => Sys2Proof.Machine.execStepCommit logits faults resid others peers emit now s
  | .commitResultMessage results faults resid emit now => Sys2Proof.Machine.execCommitResultMessage results faults resid emit now s
  | .stepAbandon => Sys2Proof.Machine.execStepAbandon s
  | .holdTimerExpiry slot => Sys2Proof.Machine.execHoldTimerExpiry slot s
  | .slotEventRaise => Sys2Proof.Machine.execSlotEventRaise s
  | .stpCfgWrite data => Sys2Proof.Machine.execStpCfgWrite data s
  | .initFlit link flit uncorr => Sys2Proof.Machine.execInitFlit link flit uncorr s
  | .protocolFlit link flit uncorr => Sys2Proof.Machine.execProtocolFlit link flit uncorr s
  | .retryReqFlit link flit uncorr => Sys2Proof.Machine.execRetryReqFlit link flit uncorr s
  | .nullFlit link flit uncorr => Sys2Proof.Machine.execNullFlit link flit uncorr s
  | .retryReqResend link => Sys2Proof.Machine.execRetryReqResend link s
  | .ackDue link => Sys2Proof.Machine.execAckDue link s
  | .notifyGapEnd vec => Sys2Proof.Machine.execNotifyGapEnd vec s
  | .cplMbxOutAck data => Sys2Proof.Machine.execCplMbxOutAck data s
  | .cplMbxInDb => Sys2Proof.Machine.execCplMbxInDb s
  | .echo => Sys2Proof.Machine.execEcho s
  | .snpShared tag addr => Sys2Proof.Machine.execSnpShared tag addr s
  | .snpInv tag addr => Sys2Proof.Machine.execSnpInv tag addr s
  | .linkCacheEviction addr => Sys2Proof.Machine.execLinkCacheEviction addr s
  | .ringEnable r data => Sys2Proof.Machine.execRingEnable r data s
  | .cplIdxAddrWrite data => Sys2Proof.Machine.execCplIdxAddrWrite data s
  | .cplCfgWrite hb data => Sys2Proof.Machine.execCplCfgWrite hb data s
  | .cplHeartbeatWrite data => Sys2Proof.Machine.execCplHeartbeatWrite data s
  | .plotPwrWrite p data => Sys2Proof.Machine.execPlotPwrWrite p data s
  | .plotStateChangeDone p => Sys2Proof.Machine.execPlotStateChangeDone p s
  | .amoSwap core addr dbl operand report => Sys2Proof.Machine.execAmoSwap core addr dbl operand report s
  | .amoAdd core addr dbl operand report => Sys2Proof.Machine.execAmoAdd core addr dbl operand report s
  | .amoAnd core addr dbl operand report => Sys2Proof.Machine.execAmoAnd core addr dbl operand report s
  | .amoOr core addr dbl operand report => Sys2Proof.Machine.execAmoOr core addr dbl operand report s
  | .amoXor core addr dbl operand report => Sys2Proof.Machine.execAmoXor core addr dbl operand report s
  | .amoMin core addr dbl operand report => Sys2Proof.Machine.execAmoMin core addr dbl operand report s
  | .amoMax core addr dbl operand report => Sys2Proof.Machine.execAmoMax core addr dbl operand report s
  | .amoMinu core addr dbl operand report => Sys2Proof.Machine.execAmoMinu core addr dbl operand report s
  | .amoMaxu core addr dbl operand report => Sys2Proof.Machine.execAmoMaxu core addr dbl operand report s
  | .lrScGddr7Fault core addr sc => Sys2Proof.Machine.execLrScGddr7Fault core addr sc s
  | .gddrWriteCrcError c now fails => Sys2Proof.Machine.execGddrWriteCrcError c now fails s
  | .gddrReadCrcError c now fails => Sys2Proof.Machine.execGddrReadCrcError c now fails s
  | .gdcCaParity c => Sys2Proof.Machine.execGdcCaParity c s
  | .gdcRetrainStart c => Sys2Proof.Machine.execGdcRetrainStart c s
  | .gdcDrainDone c => Sys2Proof.Machine.execGdcDrainDone c s
  | .gdcRetrainPass c ac now => Sys2Proof.Machine.execGdcRetrainPass c ac now s
  | .gdcRetrainTimeout c => Sys2Proof.Machine.execGdcRetrainTimeout c s
  | .gdcFlipWrite c data => Sys2Proof.Machine.execGdcFlipWrite c data s
  | .gdcCfgWrite c data => Sys2Proof.Machine.execGdcCfgWrite c data s
  | .gdcWeedCfgWrite c data => Sys2Proof.Machine.execGdcWeedCfgWrite c data s
  | .weederGddrRead c report => Sys2Proof.Machine.execWeederGddrRead c report s
  | .weederBedRead c => Sys2Proof.Machine.execWeederBedRead c s
  | .frameReceived o corrected uncorr header => Sys2Proof.Machine.execFrameReceived o corrected uncorr header s
  | .signalDetected o => Sys2Proof.Machine.execSignalDetected o s
  | .detectTimeout o signal => Sys2Proof.Machine.execDetectTimeout o signal s
  | .equalizeAgreed o coeffs => Sys2Proof.Machine.execEqualizeAgreed o coeffs s
  | .equalizeTimeout o agreed coeffs => Sys2Proof.Machine.execEqualizeTimeout o agreed coeffs s
  | .alignLocked o pos inverted => Sys2Proof.Machine.execAlignLocked o pos inverted s
  | .alignTimeout o locked pos inverted => Sys2Proof.Machine.execAlignTimeout o locked pos inverted s
  | .widthAgreed o partner => Sys2Proof.Machine.execWidthAgreed o partner s
  | .widthTimeout o => Sys2Proof.Machine.execWidthTimeout o s
  | .verifyComplete o corrected uncorr => Sys2Proof.Machine.execVerifyComplete o corrected uncorr s
  | .verifyTimeout o => Sys2Proof.Machine.execVerifyTimeout o s
  | .laneLockLoss o lane => Sys2Proof.Machine.execLaneLockLoss o lane s
  | .lneRetrainCmd o full => Sys2Proof.Machine.execLneRetrainCmd o full s
  | .retrainPassed o ac locked pos inverted coeffs partner => Sys2Proof.Machine.execRetrainPassed o ac locked pos inverted coeffs partner s
  | .retrainExpiry o => Sys2Proof.Machine.execRetrainExpiry o s
  | .bootSwitchFrame => Sys2Proof.Machine.execBootSwitchFrame s
  | .bootSwitchTimeout => Sys2Proof.Machine.execBootSwitchTimeout s
  | .lneCfgWrite o data => Sys2Proof.Machine.execLneCfgWrite o data s
  | .sopTagTimeout tag => Sys2Proof.Machine.execSopTagTimeout tag s
  | .sopRouteDataWrite data => Sys2Proof.Machine.execSopRouteDataWrite data s
  | .sopDevWrite data => Sys2Proof.Machine.execSopDevWrite data s
  | .sopPortCfgWrite q data => Sys2Proof.Machine.execSopPortCfgWrite q data s
  | .sigAck port msg => Sys2Proof.Machine.execSigAck port msg s
  | .err port msg => Sys2Proof.Machine.execErr port msg s
  | .wrAck port msg => Sys2Proof.Machine.execWrAck port msg s
  | .tally port msg now => Sys2Proof.Machine.execTally port msg now s
  | .ctrl port msg => Sys2Proof.Machine.execCtrl port msg s
  | .sig port msg => Sys2Proof.Machine.execSig port msg s
  | .wr port msg report now hold => Sys2Proof.Machine.execWr port msg report now hold s
  | .rd port msg report now hold => Sys2Proof.Machine.execRd port msg report now hold s
  | .red port msg report now hold => Sys2Proof.Machine.execRed port msg report now hold s
  | .rdData port msg report => Sys2Proof.Machine.execRdData port msg report s
  | .icuPendSet w data => Sys2Proof.Machine.execIcuPendSet w data s
  | .icuPendClr w data => Sys2Proof.Machine.execIcuPendClr w data s
  | .icuEnableSet t w data => Sys2Proof.Machine.execIcuEnableSet t w data s
  | .icuEnableClr t w data => Sys2Proof.Machine.execIcuEnableClr t w data s
  | .icuThresholdWrite t data => Sys2Proof.Machine.execIcuThresholdWrite t data s
  | .icuPrioWrite source data => Sys2Proof.Machine.execIcuPrioWrite source data s
  | .icuClaim t => Sys2Proof.Machine.execIcuClaim t s
  | .icuComplete t data => Sys2Proof.Machine.execIcuComplete t data s
  | .wfiWake core => Sys2Proof.Machine.execWfiWake core s
  | .plotIrqWrite p data => Sys2Proof.Machine.execPlotIrqWrite p data s
  | .shdCoreRunWrite c data => Sys2Proof.Machine.execShdCoreRunWrite c data s
  | .shdCoreWdogWrite c data => Sys2Proof.Machine.execShdCoreWdogWrite c data s
  | .watchdogKick c data => Sys2Proof.Machine.execWatchdogKick c data s
  | .machineTimerInterrupt core now => Sys2Proof.Machine.execMachineTimerInterrupt core now s
  | .shdSramFlipWrite data => Sys2Proof.Machine.execShdSramFlipWrite data s
  | .powerOnReset => Sys2Proof.Machine.execPowerOnReset s
  | .resetNAssert ac => Sys2Proof.Machine.execResetNAssert ac s
  | .resetNRelease => Sys2Proof.Machine.execResetNRelease s
  | .coreResetRelease => Sys2Proof.Machine.execCoreResetRelease s
  | .aonRelease => Sys2Proof.Machine.execAonRelease s
  | .critParity => Sys2Proof.Machine.execCritParity s
  | .pllLockLoss => Sys2Proof.Machine.execPllLockLoss s
  | .gddr7PllLockLoss c => Sys2Proof.Machine.execGddr7PllLockLoss c s
  | .aonBlkRstGo data => Sys2Proof.Machine.execAonBlkRstGo data s
  | .blkIdleAck => Sys2Proof.Machine.execBlkIdleAck s
  | .blkIdleTimeout => Sys2Proof.Machine.execBlkIdleTimeout s
  | .watchdogExpiry c idle => Sys2Proof.Machine.execWatchdogExpiry c idle s
  | .dstateReqD1 => Sys2Proof.Machine.execDstateReqD1 s
  | .dstateReqD2 => Sys2Proof.Machine.execDstateReqD2 s
  | .orderlyStop => Sys2Proof.Machine.execOrderlyStop s
  | .commit => Sys2Proof.Machine.execCommit s
  | .refuse => Sys2Proof.Machine.execRefuse s
  | .handoverTimeout => Sys2Proof.Machine.execHandoverTimeout s
  | .deferTimeout => Sys2Proof.Machine.execDeferTimeout s
  | .updateStage ok => Sys2Proof.Machine.execUpdateStage ok s
  | .updateActivateMode0 => Sys2Proof.Machine.execUpdateActivateMode0 s
  | .updateActivateMode1 => Sys2Proof.Machine.execUpdateActivateMode1 s
  | .updateCancel => Sys2Proof.Machine.execUpdateCancel s
  | .rollbackAdvance => Sys2Proof.Machine.execRollbackAdvance s
  | .fuseProgKey data => Sys2Proof.Machine.execFuseProgKey data s
  | .fusePositionDone ok => Sys2Proof.Machine.execFusePositionDone ok s
  | .licenceInstall => Sys2Proof.Machine.execLicenceInstall s
  | .licenceList => Sys2Proof.Machine.execLicenceList s
  | .identityTreeBuild => Sys2Proof.Machine.execIdentityTreeBuild s
  | .identityGet => Sys2Proof.Machine.execIdentityGet s
  | .attest ok => Sys2Proof.Machine.execAttest ok s
  | .strapsSampled bootSrc clkMode west east ok => Sys2Proof.Machine.execStrapsSampled bootSrc clkMode west east ok s
  | .stepConfig sfdp => Sys2Proof.Machine.execStepConfig sfdp s
  | .stepLicence => Sys2Proof.Machine.execStepLicence s
  | .stepHalves ports => Sys2Proof.Machine.execStepHalves ports s
  | .halvesPartnerTimeout => Sys2Proof.Machine.execHalvesPartnerTimeout s
  | .stepClocks lock => Sys2Proof.Machine.execStepClocks lock s
  | .stepLanes => Sys2Proof.Machine.execStepLanes s
  | .stepBeds rows => Sys2Proof.Machine.execStepBeds rows s
  | .stepPlots fails => Sys2Proof.Machine.execStepPlots fails s
  | .stepGddr down results => Sys2Proof.Machine.execStepGddr down results s
  | .stepShed => Sys2Proof.Machine.execStepShed s
  | .stepHandshake => Sys2Proof.Machine.execStepHandshake s
  | .stepRun => Sys2Proof.Machine.execStepRun s
  | .brwStepComplete ac ok => Sys2Proof.Machine.execBrwStepComplete ac ok s
  | .brwStepTimeout ok => Sys2Proof.Machine.execBrwStepTimeout ok s
  | .brwWatchdog => Sys2Proof.Machine.execBrwWatchdog s
  | .brwWdogWrite data => Sys2Proof.Machine.execBrwWdogWrite data s
  | .writeConfig => Sys2Proof.Machine.execWriteConfig s
  | .writeLicence => Sys2Proof.Machine.execWriteLicence s
  | .writeImage => Sys2Proof.Machine.execWriteImage s
  | .recoveryCommandDone => Sys2Proof.Machine.execRecoveryCommandDone s
  | .powerSample mw => Sys2Proof.Machine.execPowerSample mw s
  | .thmPwrCfgWrite data => Sys2Proof.Machine.execThmPwrCfgWrite data s
  | .pmbusPoll faultBits => Sys2Proof.Machine.execPmbusPoll faultBits s
  | .pmbusTimeout rail => Sys2Proof.Machine.execPmbusTimeout rail s
  | .voutCommand rail mv => Sys2Proof.Machine.execVoutCommand rail mv s
  | .pmbusClearFaults rail => Sys2Proof.Machine.execPmbusClearFaults rail s
  | .sensorSample rest odd inlet outlet => Sys2Proof.Machine.execSensorSample rest odd inlet outlet s
  | .sensorMaskWrite p mask => Sys2Proof.Machine.execSensorMaskWrite p mask s
  | .undecidedWrite p v => Sys2Proof.Machine.execUndecidedWrite p v s
  | .sensorResolve p model => Sys2Proof.Machine.execSensorResolve p model s
  | .thmForecastWrite data => Sys2Proof.Machine.execThmForecastWrite data s
  | .forecastExpiry => Sys2Proof.Machine.execForecastExpiry s
  | .flowPulseEdge ac => Sys2Proof.Machine.execFlowPulseEdge ac s
  | .noPulseTimeout => Sys2Proof.Machine.execNoPulseTimeout s
  | .coolReqTrackUpdate => Sys2Proof.Machine.execCoolReqTrackUpdate s
  | .thmCoolCfgWrite reg data => Sys2Proof.Machine.execThmCoolCfgWrite reg data s
  | .vddPlotDroop cluster mv => Sys2Proof.Machine.execVddPlotDroop cluster mv s
  | .thmMonWrite cluster data => Sys2Proof.Machine.execThmMonWrite cluster data s
  | .monitorWindow counts => Sys2Proof.Machine.execMonitorWindow counts s
  | .thermalQuery => Sys2Proof.Machine.execThermalQuery s
  | .stepSow lib base words => Sys2Proof.Machine.execStepSow lib base words s
  | .placementLoad => Sys2Proof.Machine.execPlacementLoad s
  | .placementUnload => Sys2Proof.Machine.execPlacementUnload s
  | .lifetimeRecordWrite => Sys2Proof.Machine.execLifetimeRecordWrite s
  | .sedArbitrate p reload lost => Sys2Proof.Machine.execSedArbitrate p reload lost s
  | .move n sp => Sys2Proof.Machine.execMove n sp s
  | .reload n sp => Sys2Proof.Machine.execReload n sp s
  | .clone n sp => Sys2Proof.Machine.execClone n sp s
  | .compare n sp => Sys2Proof.Machine.execCompare n sp s
  | .retire n sp => Sys2Proof.Machine.execRetire n sp s
  | .release n sp => Sys2Proof.Machine.execRelease n sp s
  | .moveCopyDone => Sys2Proof.Machine.execMoveCopyDone s
  | .moveTimeout => Sys2Proof.Machine.execMoveTimeout s
  | .compareDone => Sys2Proof.Machine.execCompareDone s
  | .spareSwitch reload lost => Sys2Proof.Machine.execSpareSwitch reload lost s
  | .plotSelftestGo p => Sys2Proof.Machine.execPlotSelftestGo p s
  | .selftestDone p test => Sys2Proof.Machine.execSelftestDone p test s
  | .spareSelftestTimer => Sys2Proof.Machine.execSpareSelftestTimer s
  | .tallyWaitExpiry now => Sys2Proof.Machine.execTallyWaitExpiry now s
  | .clockStamp => Sys2Proof.Machine.execClockStamp s
  | .replicaSet => Sys2Proof.Machine.execReplicaSet s
  | .replicaDecide => Sys2Proof.Machine.execReplicaDecide s
  | .testpackLoad => Sys2Proof.Machine.execTestpackLoad s
  | .testpackRemove => Sys2Proof.Machine.execTestpackRemove s
  | .testpackRun p k => Sys2Proof.Machine.execTestpackRun p k s
  | .testpackTimeout p => Sys2Proof.Machine.execTestpackTimeout p s
  | .plotMemFlipWrite p data => Sys2Proof.Machine.execPlotMemFlipWrite p data s
  | .sedCritFlipWrite data => Sys2Proof.Machine.execSedCritFlipWrite data s
  | .sedCfgWrite data => Sys2Proof.Machine.execSedCfgWrite data s
  | .pmrGo => Sys2Proof.Machine.execPmrGo s
  | .snapshotDone report => Sys2Proof.Machine.execSnapshotDone report s
  | .pmcCfgWrite kind inst k data => Sys2Proof.Machine.execPmcCfgWrite kind inst k data s
  | .pmcCntWrite kind inst k data => Sys2Proof.Machine.execPmcCntWrite kind inst k data s
  | .errConsumerWrite data => Sys2Proof.Machine.execErrConsumerWrite data s
  | .errEntryConsume ok => Sys2Proof.Machine.execErrEntryConsume ok s
  | .dbgTrigInAsserted => Sys2Proof.Machine.execDbgTrigInAsserted s
  | .dbgTrigOutEnd => Sys2Proof.Machine.execDbgTrigOutEnd s
  | .dbgFlashDataRead => Sys2Proof.Machine.execDbgFlashDataRead s
  | .dbgMuxWrite j data => Sys2Proof.Machine.execDbgMuxWrite j data s
  | .bypass die => Sys2Proof.Machine.execBypass die s
  | .idcode die => Sys2Proof.Machine.execIdcode die s
  | .samplePreload die cells => Sys2Proof.Machine.execSamplePreload die cells s
  | .extest die => Sys2Proof.Machine.execExtest die s
  | .ijtagAccess die inst idx write => Sys2Proof.Machine.execIjtagAccess die inst idx write s
  | .moduleInsert vin => Sys2Proof.Machine.execModuleInsert vin s
  | .moduleRemove => Sys2Proof.Machine.execModuleRemove s
  | .inputRise mv sel => Sys2Proof.Machine.execInputRise mv sel s
  | .inputFall mv => Sys2Proof.Machine.execInputFall mv s
  | .setOffset bytes => Sys2Proof.Machine.execSetOffset bytes s
  | .i3cWrite bytes => Sys2Proof.Machine.execI3cWrite bytes s
  | .i3cRead => Sys2Proof.Machine.execI3cRead s
  | .entdaa addr => Sys2Proof.Machine.execEntdaa addr s
  | .setdasa addr => Sys2Proof.Machine.execSetdasa addr s
  | .rstdaa => Sys2Proof.Machine.execRstdaa s
  | .getpid => Sys2Proof.Machine.execGetpid s
  | .getbcr => Sys2Proof.Machine.execGetbcr s
  | .getdcr => Sys2Proof.Machine.execGetdcr s
  | .clearFaults => Sys2Proof.Machine.execClearFaults s
  | .capability => Sys2Proof.Machine.execCapability s
  | .statusWord => Sys2Proof.Machine.execStatusWord s
  | .readVin => Sys2Proof.Machine.execReadVin s
  | .readIin => Sys2Proof.Machine.execReadIin s
  | .readPin => Sys2Proof.Machine.execReadPin s
  | .readTemperature1 => Sys2Proof.Machine.execReadTemperature1 s
  | .readTemperature2 => Sys2Proof.Machine.execReadTemperature2 s
  | .readTemperature3 => Sys2Proof.Machine.execReadTemperature3 s
  | .pmbusRevision => Sys2Proof.Machine.execPmbusRevision s
  | .telemetryRefresh vin iin => Sys2Proof.Machine.execTelemetryRefresh vin iin s
  | .linkCacheRead r lr => Sys2Proof.Machine.execLinkCacheRead r lr s
  | .linkCacheWrite r sc => Sys2Proof.Machine.execLinkCacheWrite r sc s
  | .dataS tag data => Sys2Proof.Machine.execDataS tag data s
  | .dataE tag data => Sys2Proof.Machine.execDataE tag data s
  | .goE tag => Sys2Proof.Machine.execGoE tag s
  | .goWb tag => Sys2Proof.Machine.execGoWb tag s
  | .cohErr tag => Sys2Proof.Machine.execCohErr tag s
  | .dataCur tag data => Sys2Proof.Machine.execDataCur tag data s
  | .cohTimeout tag => Sys2Proof.Machine.execCohTimeout tag s
  | .ncRd tag addr len now report => Sys2Proof.Machine.execNcRd tag addr len now report s
  | .ncWr addr data now report => Sys2Proof.Machine.execNcWr addr data now report s
  | .heartbeatMiss => Sys2Proof.Machine.execHeartbeatMiss s
  | .hello => Sys2Proof.Machine.execHello s
  | .attach left => Sys2Proof.Machine.execAttach left s
  | .detach => Sys2Proof.Machine.execDetach s
  | .ringDoorbell r data => Sys2Proof.Machine.execRingDoorbell r data s
  | .aonReset data => Sys2Proof.Machine.execAonReset data s
  | .shake256Go data => Sys2Proof.Machine.execShake256Go data s
  | .shake256Done report => Sys2Proof.Machine.execShake256Done report s
  | .crc64Go data => Sys2Proof.Machine.execCrc64Go data s
  | .crc64Done report => Sys2Proof.Machine.execCrc64Done report s
  | .shedLocalAccess core kind addr len data now => Sys2Proof.Machine.execShedLocalAccess core kind addr len data now s

end Sys2Proof.Machine
end

