-- ==== Sys2Proof/Safety.lean ====
section
/-! DEFINITION. What a safe step is, and the terms in which the statements speak of commands and of what they leave alone. -/

namespace Sys2Proof.Machine

/-- A safe step neither faults nor is refused. -/
def SafeStep (s : State) : Prop := ∃ t, step s = .next t

/-- The command is answered by a next state, and that state has the property. -/
def Completes (c : Instr) (s : State) (P : State → Prop) : Prop := ∃ t, exec c s = .next t ∧ P t

/-- The command is answered by the state with this device: the fuses and the queue are as they were. -/
def Gives (c : Instr) (s : State) (d : Dev) : Prop := exec c s = .next { s with dev := d }

/-- The core is out of reset. -/
def Live (s : State) : Prop := s.dev.rst.held = false

/-- The device with one more message or reply at its boundary. -/
def Dev.says (d : Dev) (o : Out) : Dev := { d with outs := d.outs ++ [o] }

/-- The two devices differ in these register fields at most. -/
def OnlyRegs (fs : List Fld) (d e : Dev) : Prop :=
  e = { d with regs := e.regs } ∧ ∀ g : Fld, g.key ∉ fs.map Fld.key → e.rg g = d.rg g

/-- The two devices differ in plot `p` at most. -/
def OnlyPlot (p : Nat) (d e : Dev) : Prop :=
  e = { d with plots := e.plots } ∧ ∀ q, q ≠ p → e.plot q = d.plot q

/-- The two plots differ in these register fields at most. -/
def OnlyPlotRegs (fs : List Fld) (a b : Plot) : Prop :=
  b = { a with regs := b.regs } ∧ ∀ g : Fld, g.key ∉ fs.map Fld.key → b.rg g = a.rg g

/-- The memories and what lies outside the device are as they were: scratch, beds, GDDR7, module flash and the tray. -/
def SameStores (d e : Dev) : Prop :=
  e.scr = d.scr ∧ e.bed = d.bed ∧ e.gddr = d.gddr ∧ e.flash = d.flash ∧ e.tray = d.tray

/-- The fuses are those of `f`, but for the rollback counter, which is no lower (R526, R534). -/
def FusedFrom (f : Fuses) (s : State) : Prop :=
  s.fused = { f with rollback := s.fused.rollback } ∧ f.rollback ≤ s.fused.rollback

/-! ## Plots that run -/

/-- The program counter of a plot. -/
def Plot.pc (pl : Plot) : Nat := pl.rg fPLOT_SEQ_STATUS_PC

/-- Plot `p` runs, waits for nothing, and the word at its program counter, without a bit in error, is `w`. -/
def Issues (d : Dev) (p w : Nat) : Prop :=
  isPlot p = true ∧ (d.plot p).rg fPLOT_SEQ_STATUS_STATE = 2 ∧ (d.plot p).wait = .none ∧
    fetchWord (d.plot p) (d.plot p).pc = (w, 0)

/-- Only plot `p` has changed, and of its registers at most these, its program counter and its count of instructions. -/
def Ran (p : Nat) (fs : List Fld) (s t : State) : Prop :=
  t.fused = s.fused ∧ t.pending = s.pending ∧ OnlyPlot p s.dev t.dev ∧
    ∀ g : Fld, g.key ∉ (fs ++ [fPLOT_SEQ_STATUS_PC, fPLOT_UNIT_ICNT_COUNT.at 3]).map Fld.key →
      (t.dev.plot p).rg g = (s.dev.plot p).rg g

/-- The plot has gone on after the instruction at its program counter, by its loops (R131, R143). -/
def WentOn (a b : Plot) : Prop :=
  b.loops = (advanceLoops a.pc a.loops).1 ∧ b.pc = (advanceLoops a.pc a.loops).2 % 8192

/-- No stored word of the plot is in error and no flip is armed. -/
def Sound (pl : Plot) : Prop :=
  pl.scrErr = [] ∧ pl.accErr = [] ∧ pl.rg fPLOT_MEM_FLIP_ARM = 0

/-! ## Tines that run -/

/-- Tine `k` of plot `p` runs in tine mode, waits for nothing, and the word at its program counter, without a bit in error,
is `w` (R183, R185). -/
def TineIssues (d : Dev) (p k w : Nat) : Prop :=
  isPlot p = true ∧ k < 16 ∧ (d.plot p).rg (fBED_TINE_STATUS_STATE.bit k) = 1 ∧ ((d.plot p).tine k).wait = .none ∧
    (d.plot p).chMode (k / 4) = 2 ∧ tineFetch (d.plot p) k ((d.plot p).tine k).pc = (w, 0)

/-- Only tine `k` of plot `p` has changed, as `f` says, and of the plot's registers at most these and the tine's count of
instructions. -/
def TineRan (p k : Nat) (fs : List Fld) (f : Tine → Tine) (s t : State) : Prop :=
  t.fused = s.fused ∧ t.pending = s.pending ∧ OnlyPlot p s.dev t.dev ∧
    t.dev.plot p = { s.dev.plot p with regs := (t.dev.plot p).regs, tines := (t.dev.plot p).tines } ∧
    (t.dev.plot p).tine k = f ((s.dev.plot p).tine k) ∧ (∀ j, j ≠ k → (t.dev.plot p).tine j = (s.dev.plot p).tine j) ∧
    ∀ g : Fld, g.key ∉ (fs ++ [fPLOT_UNIT_ICNT_COUNT.at (4 + k)]).map Fld.key → (t.dev.plot p).rg g = (s.dev.plot p).rg g

/-- A tine goes on after the instruction at its program counter (R188). -/
def Tine.goesOn (x : Tine) : Tine := tineAdvance x x.pc

/-- One row of the table of vector operations (R120, R147): its FUNC, its operands, its result and its command. -/
structure VectorOp where
  func : Nat
  group : VGroup
  usesB : Bool
  usesC : Bool
  result : Vop → VSrc → List (List Byte) × Nat
  command : Nat → Instr

/-- The table of vector operations. -/
def vectorOps : List VectorOp :=
  [⟨0x00, .arith, true, false, vop2 addExact, .vopAdd⟩,
   ⟨0x01, .arith, true, false, vop2 (fun a b => addExact a b.neg), .vopSub⟩,
   ⟨0x02, .arith, true, false, vop2 mulExact, .vopMul⟩,
   ⟨0x03, .arith, true, true,
    fun v s => vopOut v ((s.a.zip (s.b.zip s.c)).map (fun e => fmaExact e.1 e.2.1 e.2.2)) .rne false, .vopFma⟩,
   ⟨0x04, .arith, true, false, vop2 minExact, .vopMin⟩,
   ⟨0x05, .arith, true, false, vop2 maxExact, .vopMax⟩,
   ⟨0x06, .arith, false, false, vop1 (fun a => (a.abs, a.nanFlags)), .vopAbs⟩,
   ⟨0x07, .arith, false, false, vop1 (fun a => (a.neg, a.nanFlags)), .vopNeg⟩,
   ⟨0x08, .compare, true, false, vopCmp eqExact, .vopCmpeq⟩,
   ⟨0x09, .compare, true, false, vopCmp ltExact, .vopCmplt⟩,
   ⟨0x0A, .compare, true, false, vopCmp (fun a b => ltExact a b || eqExact a b), .vopCmple⟩,
   ⟨0x0B, .select, true, true,
    fun v s => vopOut v ((s.a.zip (s.b.zip (unpackCodes 32 v.len s.rawC))).map (fun e =>
      let x := if e.2.2 ≠ 0 then e.1 else e.2.1
      (x, x.nanFlags))) .rne false, .vopSel⟩,
   ⟨0x10, .arith, false, false, vop1 exp32, .vopExp⟩,
   ⟨0x11, .arith, false, false, vop1 log32, .vopLog⟩,
   ⟨0x12, .arith, false, false, vop1 recip32, .vopRecip⟩,
   ⟨0x13, .arith, false, false, vop1 rsqrt32, .vopRsqrt⟩,
   ⟨0x14, .arith, true, false, vop2 divExact, .vopDiv⟩,
   ⟨0x18, .reduce, false, false, vopReduce fZero add32 addBf16, .vopRsum⟩,
   ⟨0x19, .reduce, false, false, vopReduce (.inf true) maxExact maxExact, .vopRmax⟩,
   ⟨0x1A, .reduce, false, false, vopReduce (.inf false) minExact minExact, .vopRmin⟩,
   ⟨0x20, .convert, false, false, vopConvert, .vopCvt⟩,
   ⟨0x21, .qmx, false, false, vopQuantMX, .vopQmx⟩,
   ⟨0x22, .qok4, false, false, vopQuantOK4, .vopQok4⟩,
   ⟨0x28, .integer, true, false, vopInt (fun a b => a + b), .vopIadd⟩,
   ⟨0x29, .integer, true, false, vopInt (fun a b => a + 2 ^ 32 - b), .vopIsub⟩,
   ⟨0x2A, .integer, true, false, vopInt (fun a b => a &&& b), .vopIand⟩,
   ⟨0x2B, .integer, true, false, vopInt (fun a b => a ||| b), .vopIor⟩,
   ⟨0x2C, .integer, true, false, vopInt (fun a b => a ^^^ b), .vopIxor⟩,
   ⟨0x2D, .integer, true, false, vopInt (fun a b => a * 2 ^ (b % 32)), .vopIshl⟩,
   ⟨0x2E, .integer, true, false, vopInt (fun a b => codeOf 32 (signedOf 32 a / (2 ^ (b % 32) : Nat))), .vopIshr⟩]

/-- The sources of a vector operation as the plot's scratch and accumulators hold them. -/
def vectorSources (d : Dev) (p : Nat) (v : Vop) : VSrc :=
  let a := v.addrs (d.plot p)
  vopSources v (localBytes d p a.1 v.bytesA) (localBytes d p a.2.1 v.bytesB) (localBytes d p a.2.2.1 v.bytesC)

/-! ## Links and mailboxes -/

/-- Link layer `k` runs, holds nothing back, and can carry one message of class `cls` and `n` units, at most 15, at once. -/
def Ready (d : Dev) (k cls n : Nat) : Prop :=
  (d.link k).up = true ∧ (d.link k).lost = false ∧ (d.link k).held = false ∧ (d.link k).waiting = [] ∧ n ≤ 15 ∧
    n ≤ (d.link k).credits.getD cls 0 ∧ (d.link k).kept.length < 1024

/-- The flit in which a ready link carries a message: numbered, with the acknowledgement and the credits owed. -/
def carried (d : Dev) (k : Nat) (m : List Byte) : Out :=
  .flit k (mkFlit 1 (d.link k).txSeq (d.link k).ack ((d.link k).owed.map (min 4095)) m)

/-- The companion's message `m` of type `ty` is in process, Ervoec runs, and nothing waits in MBX_OUT (R362, R511). -/
def MailIn (d : Dev) (ty : Nat) (m : Mail) : Prop :=
  d.cpl.mail = some m ∧ m.type = ty ∧ d.rg fSHD_FW_STATE = 2 ∧ d.rg fCPL_MBX_STATUS_OUT_FULL = 0

/-- The message in process has been answered: its reply lies in MBX_OUT (R361 to R363). -/
def RepliedWith (m : Mail) (status : Nat) (body : List Byte) (e : Dev) : Prop :=
  e.cpl.mail = none ∧ e.rg fCPL_MBX_STATUS_OUT_FULL = 1 ∧ e.rg fCPL_MBX_STATUS_IN_BUSY = 0 ∧
    memRead e.cpl.mboxOut 0 (16 + body.length) = (Mail.mk 1 0 m.type 1 m.seq status body).bytes

/-- The atomic operations of a shed core (R286): the command and the new value, from the old value and the operand of `w` bits. -/
def atomicOps : List ((Nat → Nat → Bool → Nat → List Nat → Instr) × (Nat → Nat → Nat → Nat)) :=
  [(.amoSwap, fun _ _ x => x),
   (.amoAdd, fun w a x => (a + x) % 2 ^ w),
   (.amoAnd, fun _ a x => a &&& x),
   (.amoOr, fun _ a x => a ||| x),
   (.amoXor, fun _ a x => a ^^^ x),
   (.amoMin, fun w a x => if signedOf w a ≤ signedOf w x then a else x),
   (.amoMax, fun w a x => if signedOf w x ≤ signedOf w a then a else x),
   (.amoMinu, fun _ a x => if a ≤ x then a else x),
   (.amoMaxu, fun _ a x => if x ≤ a then a else x)]

/-- Nothing keeps a request from its target: no move of a live-sparing number runs, no request is held for one, and the device
is neither in recovery nor in D2 (R38, R416, R439). -/
def Calm (d : Dev) : Prop :=
  d.sed.held = [] ∧ d.rg fSED_MOVE_STATE = 0 ∧ d.rg fBRW_STATUS_STATE ≠ 4 ∧ d.rg fAON_DSTATE_STATE ≠ 3

/-- The bits of a word of ICU_PEND after source `src` has been raised, as the step leaves them. -/
def Raised (src : Nat) (e : Dev) : Prop := bitOf (e.rg (fICU_PEND_PEND.at (src / 64))) (src % 64) = true

/-- The bit of a code's class in ERR_CLASS_SEEN: a code of class `k` has been recorded (R559). -/
def SawClass (k : Nat) (e : Dev) : Prop := bitOf (e.rg fERR_CLASS_SEEN_SEEN) (k - 1) = true

/-- The registers that a Core reset keeps: the cause of resets, the always-on copy of the failed-start counter, and the thermal
counters of the always-on domain (R427). -/
def aonFields : List Fld :=
  [fAON_RESET_CAUSE_CODE, fAON_RESET_CAUSE_CRIT_ERR, fAON_RESET_CAUSE_VOTE, fAON_RESET_CAUSE_THERM_TRIP,
   fAON_RESET_CAUSE_COMPANION, fAON_RESET_CAUSE_WDOG_SHED, fAON_RESET_CAUSE_WDOG_BRW, fAON_RESET_CAUSE_RESET_N,
   fAON_RESET_CAUSE_POR, fBRW_FAILSTART_AON_COPY, fTHM_CYCLES_W_BIN20, fTHM_CYCLES_W_BIN30, fTHM_CYCLES_W_BIN45,
   fTHM_CYCLES_E_BIN20, fTHM_CYCLES_E_BIN30, fTHM_CYCLES_E_BIN45, fTHM_TRIP_LOG_TRIPS, fTHM_TRIP_LOG_PLOT,
   fTHM_TRIP_LOG_KIND, fTHM_TRIP_LOG_VALUE]

/-! ## Slots and steps (R250 to R272) -/

/-- An event record (R259). -/
def eventRecord (code kind slot tag gen pos step detail : Nat) : List Byte :=
  leBytes 2 code ++ leBytes 1 kind ++ leBytes 1 slot ++ leBytes 4 tag ++ leBytes 4 gen ++ leBytes 4 pos ++ leBytes 8 step ++
    leBytes 8 detail

/-- Job `j` of slot `i` is valid and is taken at once: the core and Ervoec run, the job ring holds a job, orphan mode is not in
effect, no step runs and nothing waits for an event entry. -/
def TakesJob (d : Dev) (j : Job) (i : Nat) : Prop :=
  d.rst.held = false ∧ d.rg fSHD_FW_STATE = 2 ∧ d.rg (fCPL_RING_CFG_ENABLE.at 0) ≠ 0 ∧ ringFill d 0 ≠ 0 ∧
    orphanEff d = false ∧ d.steps.run = none ∧ d.steps.events = [] ∧ d.steps.jobs = [] ∧ d.steps.waiting = [] ∧
    j.bytes.length = 128 ∧ jobV j 1 1 = i ∧ i < 16 ∧ jobInvalid d j = 0

/-- Step `no` runs with slot `i` alone, decoding the root alone; the slot holds no pages and has room for the step, and nothing
waits for the boundary. -/
def OneSlotStep (d : Dev) (i no : Nat) : Prop :=
  i < 16 ∧ d.steps.run = some ⟨no, [⟨i, true, ⟨1, [255], [(d.slot i).token]⟩, 0, 0, false⟩], [], [], false⟩ ∧
    (d.slot i).items = [] ∧ slotBase d i + 1 < 2 ^ 20 ∧ d.steps.jobs = [] ∧ d.steps.cfgWait = none ∧
    d.rg fSED_CFG_TALLY_EN = 0 ∧ d.rg fTRU_UPD_STATE ≠ 2 ∧ d.rg fCPL_STATUS_ORPHAN = 0

/-! ## Messages of scale-out peers (R380, R381) -/

/-- The two header units of a request without a deadline. -/
def sopRequest (opc units dst src hops redop tag len addr source : Nat) : List Byte :=
  leBytes 1 opc ++ leBytes 1 units ++ leBytes 2 dst ++ leBytes 2 src ++ leBytes 1 hops ++ leBytes 1 redop ++ leBytes 2 tag ++
    leBytes 2 len ++ leBytes 4 0 ++ leBytes 6 addr ++ leBytes 2 source ++ zeros 8

/-- The header unit of any other message, with its byte 7 and the words at bytes 8, 10, 12 and 14. -/
def sopHeader (opc units dst src hops b7 w8 w10 w12 w14 : Nat) : List Byte :=
  leBytes 1 opc ++ leBytes 1 units ++ leBytes 2 dst ++ leBytes 2 src ++ leBytes 1 hops ++ leBytes 1 b7 ++ leBytes 2 w8 ++
    leBytes 2 w10 ++ leBytes 2 w12 ++ leBytes 2 w14

/-- The descriptors of a plot after a piece of run `id` has been answered with a code, 0 for none (R382). -/
def answered (id code : Nat) (l : List DmaRun) : List DmaRun :=
  l.map (fun x => if x.id = id then { x with pieces := x.pieces - 1, err := if x.err = 0 then code else x.err } else x)

end Sys2Proof.Machine
end

