-- ==== Sys2Proof/Certificates/Slice0/Obligations.lean ====
section
/-! DEFINITION. The statements for the provers. -/

open Sys2Proof Sys2Proof.Machine

/-- The shadow's way from EMPTY through FILLING and FULL to the live set (R100). LDS is shown for INT8 from scratch. -/
def Obligations.StationarySet : Prop :=
  ∀ (s : State) (p : Nat), Live s →
    (∀ st x k n stride r, arrPair st x = true → st < 14 → x < 13 → fmtLicensed s.dev st = true → k ≤ arrK st →
      n ≤ arrN st → stride < 256 → r < 2 →
      Issues s.dev p (0x12 * 2 ^ 58 + st * 2 ^ 54 + x * 2 ^ 50 + k * 2 ^ 42 + n * 2 ^ 34 + stride * 2 ^ 26 + r * 2 ^ 25) →
      Completes (.mcfg p) s (fun t => Ran p [] s t ∧ WentOn (s.dev.plot p) (t.dev.plot p) ∧
        (t.dev.plot p).mat = ⟨st, x, k, n, stride, r == 1⟩)) ∧
    (∀ off, off * 32 + 8192 ≤ 2 ^ 20 → Sound (s.dev.plot p) → (s.dev.plot p).waitLoad = none →
      (s.dev.plot p).rg fPLOT_ARR_STATUS_SHADOW = 0 →
      Issues s.dev p (0x10 * 2 ^ 58 + 11 * 2 ^ 54 + 2 ^ 53 + off * 2 ^ 23) →
      Completes (.lds p) s (fun t =>
        Ran p [fPLOT_ARR_STATUS_SHADOW, fPLOT_UNIT_ICNT_COUNT.at 0] s t ∧ WentOn (s.dev.plot p) (t.dev.plot p) ∧
        (t.dev.plot p).rg fPLOT_ARR_STATUS_SHADOW = 1 ∧ (t.dev.plot p).loading = true ∧
        ∃ x : Tile, (t.dev.plot p).shadow = some x ∧ x.fmt = 11 ∧ x.codes.length = 8192)) ∧
    ((s.dev.plot p).rg fPLOT_ARR_STATUS_SHADOW = 1 →
      ((s.dev.plot p).shadowErr = 0 → Completes (.shadowLoadDone p) s (fun t => OnlyPlot p s.dev t.dev ∧
        OnlyPlotRegs [fPLOT_ARR_STATUS_SHADOW] { s.dev.plot p with loading := false } (t.dev.plot p) ∧
        (t.dev.plot p).rg fPLOT_ARR_STATUS_SHADOW = 2)) ∧
      ((s.dev.plot p).shadowErr = 0x0B03 → Completes (.shadowLoadDone p) s (fun t =>
        (t.dev.plot p).rg fPLOT_ARR_STATUS_SHADOW = 4 ∧ (t.dev.plot p).shadow = none ∧
        (t.dev.plot p).rg fPLOT_ARR_ERR_SHADOW_DATA = 1))) ∧
    (isPlot p = true → (s.dev.plot p).rg fPLOT_ARR_STATUS_SHADOW = 2 → nextSwaps (s.dev.plot p) = true →
      (s.dev.plot p).waitLoad = none → Completes (.swapStart p) s (fun t => OnlyPlot p s.dev t.dev ∧
        (t.dev.plot p).live = (s.dev.plot p).shadow ∧ (t.dev.plot p).shadow = none ∧
        (t.dev.plot p).rg fPLOT_ARR_STATUS_SHADOW = 3)) ∧
    ((s.dev.plot p).rg fPLOT_ARR_STATUS_SHADOW = 3 → Completes (.swapDone p) s (fun t => OnlyPlot p s.dev t.dev ∧
      OnlyPlotRegs [fPLOT_ARR_STATUS_SHADOW] (s.dev.plot p) (t.dev.plot p) ∧
      (t.dev.plot p).rg fPLOT_ARR_STATUS_SHADOW = if (s.dev.plot p).loading then 1 else 0))

/-- R108 for the integer pairs: what MMUL writes for one streamed row, and that it writes nothing else. -/
def Obligations.IntegerMatrixRow : Prop :=
  ∀ (s : State) (p base off klen nlen stride : Nat) (x : Tile), Live s → Sound (s.dev.plot p) →
    (s.dev.plot p).mat = ⟨11, 11, klen, nlen, stride, false⟩ → klen ≤ 128 → nlen ≤ 64 →
    (stride = 0 ∨ 128 ≤ stride * 16) → (s.dev.plot p).live = some x → x.fmt = 11 → x.intKind = true →
    (s.dev.plot p).units = [] → (s.dev.plot p).rg fPLOT_ARR_INJECT_ARM = 0 → base < 256 → off * 16 + 128 ≤ 2 ^ 20 →
    Issues s.dev p (0x11 * 2 ^ 58 + 1 * 2 ^ 49 + base * 2 ^ 41 + off * 2 ^ 11) →
    Completes (.mmul p) s (fun t =>
      WentOn (s.dev.plot p) (t.dev.plot p) ∧ SameStores { s.dev with tray := t.dev.tray } t.dev ∧
      (∀ n, n < 64 → SMap.get 0 (t.dev.plot p).acc (base * 128 + n) =
        if n < nlen then
          (((List.range klen).map (fun k =>
            signedOf 8 (memGet s.dev.scr (p * 2 ^ 20 + off * 16 + k)).toNat * signedOf 8 (x.codes.getD (k * 64 + n) 0))).sum
              % 2 ^ 32).toNat
        else 0) ∧
      (∀ w, w < base * 128 ∨ base * 128 + 64 ≤ w →
        SMap.get 0 (t.dev.plot p).acc w = SMap.get 0 (s.dev.plot p).acc w) ∧
      (t.dev.plot p).rowChecks.length = (s.dev.plot p).rowChecks.length + 1 ∧
      ∀ q, q ≠ p → (t.dev.plot q).acc = (s.dev.plot q).acc ∧ (t.dev.plot q).units = (s.dev.plot q).units)

/-- What the close of the oldest check of the array and of the vector unit does. -/
def Obligations.ChecksClose : Prop :=
  ∀ (s : State) (p : Nat), Live s →
    (∀ c l, (s.dev.plot p).rowChecks = c :: l →
      (c.pass = true → c.nonfinite = false → Completes (.arrCheckClose p false) s (fun t => OnlyPlot p s.dev t.dev ∧
        (t.dev.plot p).rowChecks = l ∧ (t.dev.plot p).regs = (s.dev.plot p).regs)) ∧
      (c.instr < 8192 → (s.dev.plot p).rg fPLOT_SEQ_STATUS_STATE = 2 →
        Completes (.arrCheckClose p true) s (fun t => (t.dev.plot p).rowChecks = l ∧
          (t.dev.plot p).rg fPLOT_ARR_ERR_CHECK_MISMATCH = 1 ∧
          ((s.dev.plot p).rg fPLOT_ARR_ERR_CHECK_MISMATCH = 0 → (t.dev.plot p).rg fPLOT_ARR_SIG_ROW_INSTR = c.instr) ∧
          (t.dev.plot p).rg fPLOT_SEQ_STATUS_STATE = 3 ∧ (t.dev.plot p).rg fPLOT_SEQ_STOP_CODE = 0x0B01 ∧
          (t.dev.plot p).rg fPLOT_SEQ_STOP_PC = c.instr))) ∧
    (∀ c l, (s.dev.plot p).vecChecks = c :: l →
      Completes (.vecCheckClose p 0) s (fun t => OnlyPlot p s.dev t.dev ∧ (t.dev.plot p).vecChecks = l ∧
        (t.dev.plot p).regs = (s.dev.plot p).regs) ∧
      ((s.dev.plot p).rg fPLOT_SEQ_STATUS_STATE = 2 → Completes (.vecCheckClose p 1) s (fun t =>
        (t.dev.plot p).vecChecks = l ∧ (t.dev.plot p).rg fPLOT_ARR_ERR_VEC_RESIDUE = 1 ∧
        (t.dev.plot p).rg fPLOT_SEQ_STATUS_STATE = 3 ∧ (t.dev.plot p).rg fPLOT_SEQ_STOP_CODE = 0x0B06)))

/-- R120 and R147: the result of each row of the table of vector operations, byte by byte, with what stays. The destination is
in scratch. -/
def Obligations.VectorOperations : Prop :=
  ∀ o ∈ vectorOps, ∀ (s : State) (p w : Nat), Live s → Issues s.dev p w → isVop o.func w = true →
    let pl := s.dev.plot p
    let v := vopOf o.group o.usesB o.usesC w
    let out := (o.result v (vectorSources s.dev p v)).1
    let pieces := v.pieces (pl.idx v.id)
    Sound pl → 0 < v.len → v.stop s.dev pl w = 0 → (v.fmtA ≠ 13 ∨ o.group = .integer) → pl.idx v.id < 2 ^ 20 →
    Completes (o.command p) s (fun t =>
      WentOn pl (t.dev.plot p) ∧ SameStores { s.dev with scr := t.dev.scr } t.dev ∧
      (∀ (j : Nat) (a : Nat × Nat) (b : List Byte), pieces[j]? = some a → out[j]? = some b →
        ∀ i, i < b.length → some (memGet t.dev.scr (p * 2 ^ 20 + a.1 + i)) = b[i]?) ∧
      (∀ c, (∀ a ∈ pieces, c < p * 2 ^ 20 + a.1 ∨ p * 2 ^ 20 + a.1 + a.2 ≤ c) →
        memGet t.dev.scr c = memGet s.dev.scr c) ∧
      (t.dev.plot p).vecChecks.length = pl.vecChecks.length + 1 ∧ ∀ q, q ≠ p → t.dev.plot q = s.dev.plot q)

/-- The index-register instructions of R133, each from its word written out field by field, with what they leave alone. -/
def Obligations.IndexInstructions : Prop :=
  ∀ (s : State) (p r : Nat), Live s → r < 16 →
    (Issues s.dev p 0 → Completes (.nop p) s (fun t => Ran p [] s t ∧ WentOn (s.dev.plot p) (t.dev.plot p))) ∧
    (∀ v, v < 2 ^ 32 → Issues s.dev p (0x04 * 2 ^ 58 + r * 2 ^ 54 + v * 2 ^ 22) →
      Completes (.seti p) s (fun t => Ran p [fPLOT_SEQ_IDX_VALUE.at r] s t ∧ WentOn (s.dev.plot p) (t.dev.plot p) ∧
        (t.dev.plot p).idx r = if r = 0 then 0 else v)) ∧
    (∀ k : Int, -(2 ^ 23) ≤ k → k < 2 ^ 23 → Issues s.dev p (0x05 * 2 ^ 58 + r * 2 ^ 54 + (k % 2 ^ 24).toNat * 2 ^ 30) →
      Completes (.addi p) s (fun t => Ran p [fPLOT_SEQ_IDX_VALUE.at r] s t ∧ WentOn (s.dev.plot p) (t.dev.plot p) ∧
        ((t.dev.plot p).idx r : Int) = if r = 0 then 0 else (((s.dev.plot p).idx r : Int) + k) % 2 ^ 32)) ∧
    (∀ n, n < 4096 → Sound (s.dev.plot p) → Issues s.dev p (0x06 * 2 ^ 58 + r * 2 ^ 54 + n * 2 ^ 42) →
      Completes (.ldi p) s (fun t => Ran p [fPLOT_SEQ_IDX_VALUE.at r] s t ∧ WentOn (s.dev.plot p) (t.dev.plot p) ∧
        (t.dev.plot p).idx r =
          if r = 0 then 0 else leValue ((List.range 4).map (fun i => memGet s.dev.scr (p * 2 ^ 20 + n * 8 + i)))))

/-- Control flow of R143: JMP, LOOP, and where a NOP at the last index of the innermost body goes. -/
def Obligations.JumpsAndLoops : Prop :=
  ∀ (s : State) (p : Nat), Live s →
    (∀ a, a < 8192 → (s.dev.plot p).loops = [] → Issues s.dev p (0x02 * 2 ^ 58 + a * 2 ^ 45) →
      Completes (.jmp p) s (fun t => Ran p [] s t ∧ (t.dev.plot p).pc = a ∧ (t.dev.plot p).loops = [])) ∧
    (∀ last n, (s.dev.plot p).pc < last → last < 8192 → 0 < n → n < 2 ^ 24 → (s.dev.plot p).loops = [] →
      Issues s.dev p (0x03 * 2 ^ 58 + last * 2 ^ 45 + n * 2 ^ 21) →
      Completes (.loop p) s (fun t => Ran p [] s t ∧ (t.dev.plot p).pc = (s.dev.plot p).pc + 1 ∧
        (t.dev.plot p).loops = [⟨(s.dev.plot p).pc + 1, last, n⟩])) ∧
    (∀ first n, first < 8192 → (s.dev.plot p).loops = [⟨first, (s.dev.plot p).pc, n⟩] → Issues s.dev p 0 →
      Completes (.nop p) s (fun t => Ran p [] s t ∧
        if 1 < n then (t.dev.plot p).pc = first ∧ (t.dev.plot p).loops = [⟨first, (s.dev.plot p).pc, n - 1⟩]
        else (t.dev.plot p).pc = ((s.dev.plot p).pc + 1) % 8192 ∧ (t.dev.plot p).loops = []))

/-- Each waiting instruction from its word, and the event that ends its wait. -/
def Obligations.FencesAndWaits : Prop :=
  ∀ (s : State) (p : Nat), Live s → s.dev.referee = none →
    (Issues s.dev p (0x08 * 2 ^ 58) → Completes (.fenceCheck p) s (fun t => Ran p [] s t ∧ (t.dev.plot p).wait = .fence 0)) ∧
    (Issues s.dev p (0x08 * 2 ^ 58 + 1 * 2 ^ 55) → Completes (.fenceDma p) s (fun t => Ran p [] s t ∧ (t.dev.plot p).wait = .fence 1)) ∧
    (Issues s.dev p (0x08 * 2 ^ 58 + 2 * 2 ^ 55) → Completes (.fenceTine p) s (fun t => Ran p [] s t ∧ (t.dev.plot p).wait = .fence 2)) ∧
    (Issues s.dev p (0x08 * 2 ^ 58 + 3 * 2 ^ 55) → Completes (.fenceAll p) s (fun t => Ran p [] s t ∧ (t.dev.plot p).wait = .fence 3)) ∧
    (Issues s.dev p (0x08 * 2 ^ 58 + 4 * 2 ^ 55) → Completes (.fenceCkpt p) s (fun t => Ran p [] s t ∧ (t.dev.plot p).wait = .fence 4)) ∧
    (Issues s.dev p (0x01 * 2 ^ 58) → Completes (.halt p) s (fun t => Ran p [] s t ∧ (t.dev.plot p).wait = .halt)) ∧
    (∀ c v i, c < 256 → v < 2 ^ 32 → i < 16 → Issues s.dev p (0x0D * 2 ^ 58 + c * 2 ^ 50 + v * 2 ^ 18 + i * 2 ^ 14) →
      Completes (.wait p) s (fun t => Ran p [] s t ∧
        (t.dev.plot p).wait = .wait c (((s.dev.plot p).idx i + v) % 2 ^ 32))) ∧
    (∀ k, k < 5 → (s.dev.plot p).rg fPLOT_SEQ_STATUS_STATE = 2 → (s.dev.plot p).wait = .fence k →
      (∀ e ∈ (s.dev.plot p).units, e.2.opens = [] ∧ e.2.failed = false) → (s.dev.plot p).dmas = [] →
      (s.dev.plot p).issues = [] → fenceIdle (s.dev.plot p) = true →
      Completes (.fenceSatisfied p) s (fun t =>
        OnlyPlot p s.dev t.dev ∧ (t.dev.plot p).wait = .none ∧ WentOn (s.dev.plot p) (t.dev.plot p) ∧
        (k = 4 → (t.dev.plot p).rg fPLOT_SEQ_REPLAY_CKPT_PC = (t.dev.plot p).pc ∧ (t.dev.plot p).suppress = 0 ∧
          (t.dev.plot p).ckpt.loops = (t.dev.plot p).loops ∧ (t.dev.plot p).live = none))) ∧
    (∀ c v, (s.dev.plot p).rg fPLOT_SEQ_STATUS_STATE = 2 → (s.dev.plot p).wait = .wait c v →
      (s.dev.syncGet p c + 2 ^ 32 - v) % 2 ^ 32 < 2 ^ 31 →
      Completes (.waitSatisfied p) s (fun t =>
        OnlyPlot p s.dev t.dev ∧ (t.dev.plot p).wait = .none ∧ WentOn (s.dev.plot p) (t.dev.plot p))) ∧
    (∀ c v, (s.dev.plot p).rg fPLOT_SEQ_STATUS_STATE = 2 → (s.dev.plot p).wait = .wait c v →
      2 ^ 31 ≤ (s.dev.syncGet p c + 2 ^ 32 - v) % 2 ^ 32 →
      Completes (.syncTimeout p) s (fun t => (t.dev.plot p).rg fPLOT_SEQ_STATUS_STATE = 3 ∧
        (t.dev.plot p).rg fPLOT_SEQ_STOP_CODE = 0x0C20 ∧ (t.dev.plot p).rg fPLOT_SEQ_STOP_PC = (s.dev.plot p).pc % 8192 ∧
        SameStores { s.dev with tray := t.dev.tray } t.dev)) ∧
    (s.dev.sed.packs = [] → (s.dev.plot p).rg fPLOT_SEQ_STATUS_STATE = 2 → (s.dev.plot p).wait = .halt → (s.dev.plot p).units = [] →
      (s.dev.plot p).dmas = [] → (s.dev.plot p).issues = [] →
      Completes (.haltWaitEnd p) s (fun t => OnlyPlot p s.dev t.dev ∧ (t.dev.plot p).rg fPLOT_SEQ_STATUS_STATE = 1 ∧
        (t.dev.plot p).wait = .none))

/-- What SIGNAL and DMA leave when they are issued: the queues of outbound operations and of descriptors. -/
def Obligations.SignalAndDma : Prop :=
  ∀ (s : State) (p : Nat), Live s → s.dev.referee = none → (s.dev.plot p).suppress = 0 →
    (∀ n c a, n < 1024 → c < 256 → a < 2 ^ 16 → (s.dev.phys n).isSome = true →
      Issues s.dev p (0x0C * 2 ^ 58 + n * 2 ^ 31 + c * 2 ^ 23 + a * 2 ^ 7) →
      Completes (.signal p) s (fun t => Ran p [] s t ∧ WentOn (s.dev.plot p) (t.dev.plot p) ∧
        (t.dev.plot p).outq = (s.dev.plot p).outq ++ [⟨.signal 0 false n c a, (s.dev.plot p).pc⟩])) ∧
    (∀ i, i < 256 → Sound (s.dev.plot p) → Issues s.dev p (0x20 * 2 ^ 58 + i * 2 ^ 50 + 1 * 2 ^ 42) →
      let x := (parseDesc (memRead s.dev.scr (p * 2 ^ 20 + 0x1000 + i * 64) 64)).1.localise s.dev
      (parseDesc (memRead s.dev.scr (p * 2 ^ 20 + 0x1000 + i * 64) 64)).2 = false → descStop s.dev p x false = 0 →
      Completes (.dma p) s (fun t => Ran p [] s t ∧ WentOn (s.dev.plot p) (t.dev.plot p) ∧
        (t.dev.plot p).dmas.length = (s.dev.plot p).dmas.length + 1 ∧
        (x.inbound s.dev p = true → (t.dev.plot p).outq = (s.dev.plot p).outq) ∧
        (x.inbound s.dev p = false → (t.dev.plot p).outq.length = (s.dev.plot p).outq.length + 1)))

/-- The commands of PLOT_SEQ_CTRL on a plot that is awake, and SEQ_DRAIN_DONE. -/
def Obligations.SequencerCommands : Prop :=
  ∀ (s : State) (p : Nat), Live s → isPlot p = true → (s.dev.plot p).rg fPLOT_PWR_STATE = 0 →
    (∀ pc, pc < 8192 → (s.dev.plot p).rg fPLOT_SEQ_STATUS_STATE = 1 →
      Completes (.start p pc) s (fun t => OnlyPlot p s.dev t.dev ∧ (t.dev.plot p).rg fPLOT_SEQ_STATUS_STATE = 2 ∧
        (t.dev.plot p).pc = pc ∧ (t.dev.plot p).rg fPLOT_SEQ_REPLAY_CKPT_PC = pc ∧ (t.dev.plot p).loops = [] ∧
        (t.dev.plot p).live = none ∧ (∀ i, i < 16 → (t.dev.plot p).idx i = 0) ∧
        (t.dev.plot p).rg fPLOT_SEQ_STOP_CODE = 0)) ∧
    ((s.dev.plot p).rg fPLOT_SEQ_STATUS_STATE = 4 →
      Completes (.replay p) s (fun t => OnlyPlot p s.dev t.dev ∧ (t.dev.plot p).rg fPLOT_SEQ_STATUS_STATE = 2 ∧
        (t.dev.plot p).pc = (s.dev.plot p).rg fPLOT_SEQ_REPLAY_CKPT_PC % 8192 ∧
        (t.dev.plot p).loops = (s.dev.plot p).ckpt.loops ∧ (t.dev.plot p).mat = (s.dev.plot p).ckpt.mat ∧
        (t.dev.plot p).suppress = (s.dev.plot p).rg fPLOT_SEQ_REPLAY_OUT_DONE ∧
        (∀ e ∈ (t.dev.plot p).units, e.2.failed = false))) ∧
    ((s.dev.plot p).rg fPLOT_SEQ_STATUS_STATE = 2 →
      Completes (.abort p) s (fun t => OnlyPlot p s.dev t.dev ∧ (t.dev.plot p).rg fPLOT_SEQ_STATUS_STATE = 3 ∧
        (t.dev.plot p).abortPending = true ∧ (t.dev.plot p).rg fPLOT_SEQ_STOP_CODE = 0)) ∧
    ((s.dev.plot p).rg fPLOT_SEQ_STATUS_STATE = 4 →
      Completes (.abort p) s (fun t => OnlyPlot p s.dev t.dev ∧ (t.dev.plot p).rg fPLOT_SEQ_STATUS_STATE = 1 ∧
        (∀ e ∈ (t.dev.plot p).units, e.2.read = false ∧ e.2.born = false))) ∧
    (((s.dev.plot p).rg fPLOT_SEQ_STATUS_STATE = 1 ∨ (s.dev.plot p).rg fPLOT_SEQ_STATUS_STATE = 4) →
      Completes (.clearFailed p) s (fun t => OnlyPlot p s.dev t.dev ∧
        (∀ e ∈ (t.dev.plot p).units, e.2.failed = false) ∧ (t.dev.plot p).regs = (s.dev.plot p).regs)) ∧
    (s.dev.sed.packs = [] → (s.dev.plot p).rg fPLOT_SEQ_STATUS_STATE = 3 → issuedDrained (s.dev.plot p) = true →
      ((s.dev.plot p).abortPending = true →
        Completes (.seqDrainDone p) s (fun t => OnlyPlot p s.dev t.dev ∧ (t.dev.plot p).rg fPLOT_SEQ_STATUS_STATE = 1 ∧
          (t.dev.plot p).outq = [] ∧ (t.dev.plot p).abortPending = false)) ∧
      ((s.dev.plot p).abortPending = false → (s.dev.plot p).outq = [] →
        Completes (.seqDrainDone p) s (fun t => OnlyPlot p s.dev t.dev ∧ (t.dev.plot p).rg fPLOT_SEQ_STATUS_STATE = 4)))

/-- One clause for each written register, the plot IDLE, awake, and with nothing in its array. -/
def Obligations.PlotRegisterWrites : Prop :=
  ∀ (s : State) (p : Nat), Live s → isPlot p = true → (s.dev.plot p).rg fPLOT_PWR_STATE = 0 →
    (s.dev.plot p).rg fPLOT_SEQ_STATUS_STATE = 1 → (s.dev.plot p).rg fPLOT_MEM_FLIP_ARM = 0 →
    (∀ i v, i < 16 → Completes (.plotSeqIdxWrite p i v) s (fun t => OnlyPlot p s.dev t.dev ∧
      OnlyPlotRegs [fPLOT_SEQ_IDX_VALUE.at i] (s.dev.plot p) (t.dev.plot p) ∧
      (t.dev.plot p).idx i = if i = 0 then 0 else v % 2 ^ 32)) ∧
    (∀ v, Completes (.plotPmDataWrite p v) s (fun t => OnlyPlot p s.dev t.dev ∧
      fetchWord (t.dev.plot p) ((s.dev.plot p).rg fPLOT_PM_ADDR_INDEX) = (v % 2 ^ 64, 0))) ∧
    (∀ c v, c < 256 → Completes (.plotSyncCtrWrite p c v) s (fun t => t.dev.syncGet p c = v % 2 ^ 32 ∧
      t.dev = { s.dev with sync := t.dev.sync } ∧
      ∀ k, k ≠ s.dev.syncKey p c → SMap.get 0 t.dev.sync k = SMap.get 0 s.dev.sync k)) ∧
    (∀ e v, e < 2 → Completes (.plotDmaExtWrite p e false v) s (fun t =>
      OnlyPlot p s.dev t.dev ∧ t.dev.plot p = s.dev.plot p)) ∧
    (∀ e v, 2 ≤ e → e < 16 → Completes (.plotDmaExtWrite p e false v) s (fun t =>
      OnlyPlot p s.dev t.dev ∧ OnlyPlotRegs [fPLOT_DMA_EXT_BASE_BASE.at e] (s.dev.plot p) (t.dev.plot p) ∧
      (t.dev.plot p).rg (fPLOT_DMA_EXT_BASE_BASE.at e) = v % 2 ^ fPLOT_DMA_EXT_BASE_BASE.w)) ∧
    (∀ col bit, col < 128 → bit < 32 → Completes (.plotArrInjectWrite p (2 ^ 12 + col * 2 ^ 5 + bit)) s (fun t =>
      OnlyPlot p s.dev t.dev ∧
      OnlyPlotRegs [fPLOT_ARR_INJECT_ARM, fPLOT_ARR_INJECT_COL, fPLOT_ARR_INJECT_BIT] (s.dev.plot p) (t.dev.plot p) ∧
      (t.dev.plot p).rg fPLOT_ARR_INJECT_ARM = 1 ∧ (t.dev.plot p).rg fPLOT_ARR_INJECT_COL = col ∧
      (t.dev.plot p).rg fPLOT_ARR_INJECT_BIT = bit)) ∧
    (∀ row, row < 130 → (s.dev.plot p).rowChecks = [] → (s.dev.plot p).loading = false → (s.dev.plot p).waitLoad = none →
      Completes (.plotArrRepairWrite p (2 ^ 8 + row)) s (fun t => OnlyPlot p s.dev t.dev ∧
        (t.dev.plot p).rg fPLOT_ARR_REPAIR_SPARE0_EN = 1 ∧ (t.dev.plot p).rg fPLOT_ARR_REPAIR_SPARE0_ROW = row ∧
        (t.dev.plot p).live = none ∧ (t.dev.plot p).shadow = none ∧ (t.dev.plot p).rg fPLOT_ARR_STATUS_SHADOW = 0)) ∧
    (∀ row, row < 130 → ((s.dev.plot p).rowChecks ≠ [] ∨ (s.dev.plot p).loading = true) →
      Completes (.plotArrRepairWrite p (2 ^ 8 + row)) s (fun t =>
        (t.dev.plot p).live = (s.dev.plot p).live ∧
        (t.dev.plot p).rg fPLOT_ARR_REPAIR_SPARE0_ROW = (s.dev.plot p).rg fPLOT_ARR_REPAIR_SPARE0_ROW)) ∧
    (∀ q, q < 4 → plotQuiet (s.dev.plot p) = true → Completes (.plotPwrWrite p (q * 2 ^ 4)) s (fun t =>
      OnlyPlot p s.dev t.dev ∧ OnlyPlotRegs [fPLOT_PWR_REQ] (s.dev.plot p) (t.dev.plot p) ∧
      (t.dev.plot p).rg fPLOT_PWR_REQ = q)) ∧
    ((s.dev.plot p).rg fPLOT_PWR_REQ = 3 → Completes (.plotStateChangeDone p) s (fun t =>
      (t.dev.plot p).rg fPLOT_PWR_STATE = 3 ∧ (t.dev.plot p).pm = [] ∧ t.dev.bed = s.dev.bed ∧
      (t.dev.plot p).channels = (s.dev.plot p).channels ∧
      ∀ a, a < 2 ^ 20 → memGet t.dev.scr (p * 2 ^ 20 + a) = 0))

/-- The three packets of a sow. -/
def Obligations.Sowing : Prop :=
  ∀ (s : State) (p gen lib base count crc : Nat), Live s → isPlot p = true → gen < 2 ^ fPLOT_SOW_STATUS_GEN.w →
    (base + count ≤ 8192 → ((s.dev.plot p).rg fPLOT_SEQ_STATUS_STATE ≤ 1) →
      Completes (.sowBegin p gen lib base count crc) s (fun t => OnlyPlot p s.dev t.dev ∧
        (t.dev.plot p).rg fPLOT_SEQ_STATUS_STATE = 0 ∧ (t.dev.plot p).rg fPLOT_SOW_STATUS_STATE = 1 ∧
        (t.dev.plot p).rg fPLOT_SOW_STATUS_GEN = gen ∧ (t.dev.plot p).rg fPLOT_SOW_STATUS_PACKETS = 0)) ∧
    (∀ w, w < 2 ^ 64 → base < 8192 → (s.dev.plot p).sow = some ⟨gen, lib, base, 1, crc, 0, [], 0⟩ →
      (s.dev.plot p).rg fPLOT_MEM_FLIP_ARM = 0 →
      Completes (.sowData p gen 0 [w]) s (fun t => OnlyPlot p s.dev t.dev ∧
        fetchWord (t.dev.plot p) base = (w, 0) ∧ (t.dev.plot p).sow = some ⟨gen, lib, base, 1, crc, 1, [w], 0⟩ ∧
        ∀ i, i ≠ base → fetchWord (t.dev.plot p) i = fetchWord (s.dev.plot p) i)) ∧
    (∀ ws, ws.length = count → 0 < count → count ≤ 32 → lib < 2 ^ fPLOT_SOW_LIB_LIB_ID.w →
      (s.dev.plot p).sow = some ⟨gen, lib, base, count, crc64 0 (ws.flatMap (leBytes 8)), 1, ws, 0⟩ →
      (s.dev.plot p).rg fPLOT_SOW_STATUS_PACKETS = 1 →
      Completes (.sowEnd p gen 1) s (fun t => (t.dev.plot p).rg fPLOT_SEQ_STATUS_STATE = 1 ∧
        (t.dev.plot p).rg fPLOT_SOW_STATUS_STATE = 2 ∧ (t.dev.plot p).rg fPLOT_SOW_STATUS_RESULT = 0 ∧
        (t.dev.plot p).rg fPLOT_SOW_LIB_LIB_ID = lib ∧ (t.dev.plot p).sow = none ∧ SameStores s.dev t.dev)) ∧
    (∀ ws, crc < 2 ^ 64 → crc64 0 (ws.flatMap (leBytes 8)) ≠ crc →
      (s.dev.plot p).sow = some ⟨gen, lib, base, count, crc, 1, ws, 0⟩ →
      (s.dev.plot p).rg fPLOT_SEQ_STATUS_STATE = 0 →
      Completes (.sowEnd p gen 1) s (fun t => (t.dev.plot p).rg fPLOT_SEQ_STATUS_STATE = 0 ∧
        (t.dev.plot p).rg fPLOT_SOW_STATUS_STATE = 3 ∧ (t.dev.plot p).rg fPLOT_SOW_STATUS_RESULT = 0x0C38))

/-- The way of an issue through a channel (R178), from TISSUE to its completion. -/
def Obligations.TineWorkOfAChannel : Prop :=
  ∀ (s : State) (p ch : Nat), Live s → isPlot p = true → ch < 4 →
    (∀ m a e, 0 < m → m < 16 → a < 64 → e < 2 ^ 14 →
      Issues s.dev p (0x24 * 2 ^ 58 + m * 2 ^ 54 + a * 2 ^ 48 + e * 2 ^ 34) →
      Completes (.tissue p) s (fun t =>
        Ran p ((List.range 4).map (fun c => fBED_CH_STATUS_MODE.at c)) s t ∧ WentOn (s.dev.plot p) (t.dev.plot p) ∧
        (t.dev.plot p).issues = (s.dev.plot p).issues ++
          [⟨(s.dev.plot p).nextIssue, (s.dev.plot p).pc, m, a, e, false, none, true, [], 0, false⟩] ∧
        ∀ c, c < 4 →
          (bitOf m c = true → ((t.dev.plot p).chan c).queue = ((s.dev.plot p).chan c).queue ++ [(s.dev.plot p).nextIssue] ∧
            (t.dev.plot p).chMode c = if (s.dev.plot p).chMode c = 0 then 1 else (s.dev.plot p).chMode c) ∧
          (bitOf m c = false → (t.dev.plot p).chan c = (s.dev.plot p).chan c ∧
            (t.dev.plot p).chMode c = (s.dev.plot p).chMode c))) ∧
    (∀ i : Issue, Sound (s.dev.plot p) → (s.dev.plot p).chMode ch = 1 → ((s.dev.plot p).chan ch).cur = none →
      ((s.dev.plot p).chan ch).queue = [i.id] → (s.dev.plot p).issues = [i] → i.arg < 64 →
      (∀ b, b < 8 → (s.dev.plot p).rg ((fBED_CH_OWED_OWED.at ch).bit b) ≤ 4) →
      Completes (.channelToTineDone p ch) s (fun t => OnlyPlot p s.dev t.dev ∧ (t.dev.plot p).chMode ch = 2 ∧
        ((t.dev.plot p).chan ch).cur = some i.id ∧ ((t.dev.plot p).chan ch).queue = [] ∧
        ((t.dev.plot p).chan ch).args = unpackCodes 64 16 (memRead s.dev.scr (p * 2 ^ 20 + 0x5000 + i.arg * 128) 128) ∧
        (∀ k, k < 4 → (t.dev.plot p).tine (4 * ch + k) = { Tine.reset with pc := i.entry } ∧
          (t.dev.plot p).rg (fBED_TINE_STATUS_STATE.bit (4 * ch + k)) = 1) ∧
        ∀ b, b < 8 → (t.dev.plot p).rg ((fBED_CH_OWED_OWED.at ch).bit b) =
          (s.dev.plot p).rg ((fBED_CH_OWED_OWED.at ch).bit b) - 1)) ∧
    ((s.dev.plot p).chMode ch = 2 → Completes (.batchLimitExpiry p ch) s (fun t => OnlyPlot p s.dev t.dev ∧
      ((t.dev.plot p).chan ch).batchOver = true ∧ ((t.dev.plot p).chan ch).hold = ((s.dev.plot p).chan ch).hold ∧
      (((s.dev.plot p).chan ch).hold = [] → (t.dev.plot p).regs = (s.dev.plot p).regs) ∧
      (((s.dev.plot p).chan ch).hold ≠ [] → (t.dev.plot p).chMode ch = 3 ∧ ((t.dev.plot p).chan ch).suspended = true ∧
        ((t.dev.plot p).chan ch).heldAtPause = ((s.dev.plot p).chan ch).hold.length ∧
        ∀ k, k < 4 → (t.dev.plot p).rg (fBED_TINE_STATUS_STATE.bit (4 * ch + k)) ≠ 1))) ∧
    ((s.dev.plot p).chMode ch = 3 →
      (((s.dev.plot p).chan ch).suspended = true → Completes (.channelToMemoryDone p ch) s (fun t => OnlyPlot p s.dev t.dev ∧
        OnlyPlotRegs [fBED_CH_STATUS_MODE.at ch] (s.dev.plot p) (t.dev.plot p) ∧ (t.dev.plot p).chMode ch = 4)) ∧
      (((s.dev.plot p).chan ch).suspended = false → ((s.dev.plot p).chan ch).hold = [] →
        ((s.dev.plot p).chan ch).router = [] → ((s.dev.plot p).chan ch).queue = [] →
        Completes (.channelToMemoryDone p ch) s (fun t => OnlyPlot p s.dev t.dev ∧
          OnlyPlotRegs [fBED_CH_STATUS_MODE.at ch] (s.dev.plot p) (t.dev.plot p) ∧ (t.dev.plot p).chMode ch = 0))) ∧
    (∀ (r : FabReq) (q i : Nat), (s.dev.plot p).chMode ch = 4 → ((s.dev.plot p).chan ch).hold = [r] →
      ((s.dev.plot p).chan ch).router = [] → ((s.dev.plot p).chan ch).heldAtPause = 1 →
      ((s.dev.plot p).chan ch).cur = some i → r.master = .plot q → r.op = .read 32 → r.addr % 32 = 0 →
      SMap.get [] (s.dev.plot p).bedErr (r.addr % 2 ^ 26 / 32) = [] →
      Completes (.heldQueueServed p ch) s (fun t =>
        t.dev.outs = s.dev.outs ++ [.fabReply r 0 (memRead s.dev.bed (p * 2 ^ 26 + r.addr % 2 ^ 26) 32)] ∧
        ((t.dev.plot p).chan ch).hold = [] ∧ (t.dev.plot p).chMode ch = 1 ∧
        SameStores { s.dev with tray := t.dev.tray } t.dev)) ∧
    (∀ (i : Issue) (c : Nat), (s.dev.plot p).issues = [i] → i.released = true → i.stop = 0 → i.ctr = some c →
      (∀ k, k < 4 → bitOf i.chmask k = true → ((s.dev.plot p).chan k).cur = some i.id ∧
        ((s.dev.plot p).chan k).queue = [] ∧ (s.dev.plot p).chMode k = 2) →
      (∀ k, k < 16 → bitOf i.chmask (k / 4) = true → ((s.dev.plot p).tine k).ended = true ∧
        ((s.dev.plot p).tine k).checks = [] ∧ ((s.dev.plot p).tine k).wbuf = []) →
      Completes (.tineIssueComplete p) s (fun t => (t.dev.plot p).issues = [] ∧
        t.dev.syncGet p c = (s.dev.syncGet p c + 1) % 2 ^ 32 ∧ SameStores s.dev t.dev ∧
        ∀ k, k < 4 → bitOf i.chmask k = true → ((t.dev.plot p).chan k).cur = none ∧ (t.dev.plot p).chMode k = 3))

/-- Buffered writes (R196), refresh (R202 to R205) and remapping (R208), with what they leave. -/
def Obligations.BedUpkeep : Prop :=
  ∀ (s : State) (p ch b : Nat), Live s → isPlot p = true → ch < 4 → b < 8 →
    (∀ (i : Issue) (k a v : Nat), (s.dev.plot p).issues = [i] → i.released = true → i.stop = 0 → i.applied = false →
      (∀ c, c < 4 → bitOf i.chmask c = true → ((s.dev.plot p).chan c).cur = some i.id) →
      (∀ j, j < 16 → bitOf i.chmask (j / 4) = true → ((s.dev.plot p).tine j).ended = true ∧
        ((s.dev.plot p).tine j).checks = [] ∧ ((s.dev.plot p).tine j).deps = [] ∧ ((s.dev.plot p).tine j).bad = false ∧
        ((s.dev.plot p).tine j).wbuf = if j = k then [⟨a, 4, v, none⟩] else []) →
      k < 16 → bitOf i.chmask (k / 4) = true → a % 4 = 0 → a < 2 ^ 26 → SMap.get [] (s.dev.plot p).bedErr (a / 32) = [] →
      Completes (.tineBufferApply p) s (fun t =>
        (∀ j, j < 4 → memGet t.dev.bed (p * 2 ^ 26 + a + j) = BitVec.ofNat 8 (v / 2 ^ (8 * j))) ∧
        (∀ c, c < p * 2 ^ 26 + a ∨ p * 2 ^ 26 + a + 4 ≤ c → memGet t.dev.bed c = memGet s.dev.bed c) ∧
        (t.dev.plot p).issues = [{ i with applied := true }] ∧ SameStores { s.dev with bed := t.dev.bed } t.dev)) ∧
    ((s.dev.plot p).rg ((fBED_CH_OWED_OWED.at ch).bit b) < 4 → Completes (.refreshDue p ch b) s (fun t =>
      OnlyPlot p s.dev t.dev ∧ OnlyPlotRegs [(fBED_CH_OWED_OWED.at ch).bit b] (s.dev.plot p) (t.dev.plot p) ∧
      (t.dev.plot p).rg ((fBED_CH_OWED_OWED.at ch).bit b) = (s.dev.plot p).rg ((fBED_CH_OWED_OWED.at ch).bit b) + 1)) ∧
    (4 ≤ (s.dev.plot p).rg ((fBED_CH_OWED_OWED.at ch).bit b) → Completes (.refreshDue p ch b) s (fun t =>
      OnlyPlot p s.dev t.dev ∧ bitOf ((t.dev.plot p).chan ch).refreshing b = true ∧
      (t.dev.plot p).rg (fBED_CH_CNT_FORCED_REFRESH.at ch) =
        min 65535 ((s.dev.plot p).rg (fBED_CH_CNT_FORCED_REFRESH.at ch) + 1))) ∧
    ((s.dev.plot p).chMode ch = 2 → 0 < (s.dev.plot p).rg ((fBED_CH_OWED_OWED.at ch).bit b) →
      (s.dev.plot p).rg ((fBED_CH_OWED_OWED.at ch).bit b) ≤ 4 → ((s.dev.plot p).chan ch).refreshing = 0 →
      Completes (.refreshStart p ch b) s (fun t => OnlyPlot p s.dev t.dev ∧
        ((t.dev.plot p).chan ch).refreshing = 2 ^ b ∧ (t.dev.plot p).rg ((fBED_CH_OWED_OWED.at ch).bit b) =
          (s.dev.plot p).rg ((fBED_CH_OWED_OWED.at ch).bit b) - 1)) ∧
    Completes (.refreshDone p ch b) s (fun t => OnlyPlot p s.dev t.dev ∧ (t.dev.plot p).regs = (s.dev.plot p).regs ∧
      ∀ k, bitOf ((t.dev.plot p).chan ch).refreshing k =
        (bitOf ((s.dev.plot p).chan ch).refreshing k && decide (k ≠ b))) ∧
    (∀ row n, ((s.dev.plot p).chMode ch = 0 ∨ (s.dev.plot p).chMode ch = 4) → ((s.dev.plot p).chan ch).copying = none →
      ((s.dev.plot p).chan ch).suspects = [⟨b, row, n⟩] → (s.dev.plot p).rg (fBED_CH_CFG_REMAP_THRESHOLD.at ch) ≤ n →
      (s.dev.plot p).rg ((fBED_CH_SPARES_USED.at ch).bit b) < 8 →
      Completes (.remapCopyStart p ch) s (fun t => OnlyPlot p s.dev t.dev ∧ (t.dev.plot p).regs = (s.dev.plot p).regs ∧
        ((t.dev.plot p).chan ch).copying = some (b, row, (s.dev.plot p).rg ((fBED_CH_SPARES_USED.at ch).bit b)))) ∧
    (∀ row sp n, ((s.dev.plot p).chan ch).copying = some (b, row, sp) → row < 1024 →
      ((s.dev.plot p).chan ch).suspects = [⟨b, row, n⟩] → (s.dev.plot p).bedErr = [] →
      (s.dev.plot p).rg ((fBED_CH_SPARES_USED.at ch).bit b) < 8 →
      Completes (.remapCopyDone p ch) s (fun t => ((t.dev.plot p).chan ch).copying = none ∧
        ((t.dev.plot p).chan ch).remaps = ((s.dev.plot p).chan ch).remaps ++ [(b, row, sp)] ∧
        ((t.dev.plot p).chan ch).suspects = [] ∧
        (t.dev.plot p).rg ((fBED_CH_SPARES_USED.at ch).bit b) = (s.dev.plot p).rg ((fBED_CH_SPARES_USED.at ch).bit b) + 1 ∧
        t.dev.bed = s.dev.bed ∧ t.dev.flash = { s.dev.flash with
          repairs := s.dev.flash.repairs ++ [⟨3, p, ch, b, row⟩], repairSeq := s.dev.flash.repairSeq + 1 }))

/-- The three registers, on a plot that is awake. -/
def Obligations.BedRegisterWrites : Prop :=
  ∀ (s : State) (p ch : Nat), Live s → isPlot p = true → ch < 4 → (s.dev.plot p).rg fPLOT_PWR_STATE = 0 →
    (∀ thr lim, 0 < thr → thr < 256 → lim ≤ 80 → Completes (.bedChCfgWrite p ch (thr * 2 ^ 8 + lim)) s (fun t =>
      OnlyPlot p s.dev t.dev ∧ OnlyPlotRegs [fBED_CH_CFG_REMAP_THRESHOLD.at ch, fBED_CH_CFG_BATCH_LIMIT.at ch]
        (s.dev.plot p) (t.dev.plot p) ∧
      (t.dev.plot p).rg (fBED_CH_CFG_REMAP_THRESHOLD.at ch) = thr ∧ (t.dev.plot p).rg (fBED_CH_CFG_BATCH_LIMIT.at ch) = lim)) ∧
    (∀ thr lim, lim < 128 → thr < 256 → (thr = 0 ∨ 80 < lim) → Completes (.bedChCfgWrite p ch (thr * 2 ^ 8 + lim)) s (fun t =>
      (t.dev.plot p).rg (fBED_CH_CFG_REMAP_THRESHOLD.at ch) = (s.dev.plot p).rg (fBED_CH_CFG_REMAP_THRESHOLD.at ch) ∧
      (t.dev.plot p).rg (fBED_CH_CFG_BATCH_LIMIT.at ch) = (s.dev.plot p).rg (fBED_CH_CFG_BATCH_LIMIT.at ch))) ∧
    (∀ arm sa ma sb mb, arm < 2 → sa < 64 → ma < 256 → sb < 64 → mb < 256 →
      Completes (.bedChFlipWrite p ch (arm * 2 ^ 30 + sb * 2 ^ 24 + mb * 2 ^ 16 + sa * 2 ^ 8 + ma)) s (fun t =>
        OnlyPlot p s.dev t.dev ∧ (t.dev.plot p).rg (fBED_CH_FLIP_ARM.at ch) = arm ∧
        (t.dev.plot p).rg (fBED_CH_FLIP_SYM_A.at ch) = sa ∧ (t.dev.plot p).rg (fBED_CH_FLIP_MASK_A.at ch) = ma ∧
        (t.dev.plot p).rg (fBED_CH_FLIP_SYM_B.at ch) = sb ∧ (t.dev.plot p).rg (fBED_CH_FLIP_MASK_B.at ch) = mb)) ∧
    (∀ v i m, v < 2 ^ 32 → (s.dev.plot p).rg fBED_TINE_PM_ADDR_INDEX = i → (s.dev.plot p).rg fBED_TINE_PM_ADDR_CHMASK = m →
      (∀ k, k < 16 → (s.dev.plot p).rg (fBED_TINE_STATUS_STATE.bit k) = 0) → (s.dev.plot p).rg fPLOT_MEM_FLIP_ARM = 0 →
      Completes (.bedTinePmDataWrite p v) s (fun t => OnlyPlot p s.dev t.dev ∧ (t.dev.plot p).regs = (s.dev.plot p).regs ∧
        ∀ c, c < 4 → (bitOf m c = true → tineFetch (t.dev.plot p) (4 * c) i = (v, 0)) ∧
          (bitOf m c = false → (t.dev.plot p).chan c = (s.dev.plot p).chan c) ∧
          ∀ j, j ≠ i → tineFetch (t.dev.plot p) (4 * c) j = tineFetch (s.dev.plot p) (4 * c) j))

/-- The tine instructions that touch the tine alone (R187), each with its frame. -/
def Obligations.TineRegistersAndLoops : Prop :=
  ∀ (s : State) (p k r : Nat), Live s → r < 8 →
    (TineIssues s.dev p k 0 → Completes (.tend p k) s (fun t =>
      TineRan p k [fBED_TINE_STATUS_STATE.bit k] (fun x => { x with ended := true }) s t ∧
      (t.dev.plot p).rg (fBED_TINE_STATUS_STATE.bit k) = 0)) ∧
    (∀ v, v < 2 ^ 24 → ((s.dev.plot p).tine k).regs.length = 8 → TineIssues s.dev p k (0x01 * 2 ^ 27 + r * 2 ^ 24 + v) →
      Completes (.tset p k) s (fun t => TineRan p k [] (fun x => (x.setReg r v).goesOn) s t ∧
        ((t.dev.plot p).tine k).reg r = if r = 0 then 0 else v)) ∧
    (∀ z : Int, -(2 ^ 23) ≤ z → z < 2 ^ 23 → ((s.dev.plot p).tine k).regs.length = 8 →
      TineIssues s.dev p k (0x02 * 2 ^ 27 + r * 2 ^ 24 + (z % 2 ^ 24).toNat) →
      Completes (.taddi p k) s (fun t =>
        TineRan p k [] (fun x => (x.setReg r (((x.reg r : Int) + z) % 2 ^ 32).toNat).goesOn) s t ∧
        (((t.dev.plot p).tine k).reg r : Int) = if r = 0 then 0 else ((((s.dev.plot p).tine k).reg r : Int) + z) % 2 ^ 32)) ∧
    (∀ j h, j < 16 → h < 2 → TineIssues s.dev p k (0x03 * 2 ^ 27 + r * 2 ^ 24 + j * 2 ^ 20 + h * 2 ^ 19) →
      Completes (.tlda p k) s (fun t => TineRan p k [] (fun x => (x.setReg r
        (((s.dev.plot p).chan (k / 4)).args.getD j 0 / 2 ^ (32 * h) % 2 ^ 32)).goesOn) s t)) ∧
    (∀ last n, ((s.dev.plot p).tine k).pc < last → last < 2 ^ 14 → 0 < n → n < 2 ^ 13 → ((s.dev.plot p).tine k).loops = [] →
      TineIssues s.dev p k (0x04 * 2 ^ 27 + last * 2 ^ 13 + n) →
      Completes (.tloop p k) s (fun t =>
        TineRan p k [] (fun x => { x with loops := [⟨x.pc + 1, last, n⟩], pc := x.pc + 1 }) s t)) ∧
    (TineIssues s.dev p k (0x07 * 2 ^ 27) → Completes (.tclr p k) s (fun t =>
      TineRan p k [] (fun x => { x with acc := [], att := [], intTmv := false }.goesOn) s t)) ∧
    (TineIssues s.dev p k (0x0D * 2 ^ 27) → Completes (.tcrcClear p k) s (fun t =>
      TineRan p k [fBED_TINE_TALLY_EVEN_CRC.at k, fBED_TINE_TALLY_ODD_CRC.at k] Tine.goesOn s t ∧
      (t.dev.plot p).rg (fBED_TINE_TALLY_EVEN_CRC.at k) = 0 ∧ (t.dev.plot p).rg (fBED_TINE_TALLY_ODD_CRC.at k) = 0))

/-- The thin product of R191 for INT8, from activations in scratch to results in scratch, word by word. -/
def Obligations.TineProducts : Prop :=
  ∀ (s : State) (p k r : Nat), Live s → r < 8 → Sound (s.dev.plot p) →
    let pl := s.dev.plot p
    let x := pl.tine k
    let a := x.reg r
    (∀ rows kb, rows ≤ 8 → kb ≤ 64 → (rows = 0 ∨ kb = 0 ∨ inData a (rows * (kb * 32 + 16)) = true) →
      TineIssues s.dev p k (0x05 * 2 ^ 27 + r * 2 ^ 24 + rows * 2 ^ 20 + kb * 2 ^ 13) →
      Completes (.tact p k) s (fun t => TineRan p k [] (fun x => { x with wait := .act }) s t)) ∧
    (∀ ch rows kb, isPlot p = true → ch < 4 → k = 4 * ch → 0 < rows → rows ≤ 8 → 0 < kb → kb ≤ 64 →
      inData a (rows * (kb * 32 + 16)) = true →
      (∀ j, j < 4 → (pl.tine (k + j)).wait = .act ∧ pl.rg (fBED_TINE_STATUS_STATE.bit (k + j)) = 1) →
      tineFetch pl k x.pc = (0x05 * 2 ^ 27 + r * 2 ^ 24 + rows * 2 ^ 20 + kb * 2 ^ 13, 0) →
      Completes (.tactLoad p ch) s (fun t => OnlyPlot p s.dev t.dev ∧ (t.dev.plot p).regs = pl.regs ∧
        ((t.dev.plot p).chan ch).actRows = rows ∧ ((t.dev.plot p).chan ch).actKb = kb ∧
        (∀ i e, i < rows → e < kb * 32 → SMap.get 0 ((t.dev.plot p).chan ch).act (i * 2048 + e) =
          (memGet s.dev.scr (p * 2 ^ 20 + a + i * (kb * 32 + 16) + e)).toNat) ∧
        (∀ i, i < rows → SMap.get 0 ((t.dev.plot p).chan ch).actScale i =
          leValue (memRead s.dev.scr (p * 2 ^ 20 + a + i * (kb * 32 + 16) + kb * 32) 4)) ∧
        ∀ j, j < 4 → ((t.dev.plot p).tine (k + j)).wait = .none ∧
          ((t.dev.plot p).tine (k + j)).pc = (pl.tine (k + j)).goesOn.pc)) ∧
    (∀ h c koff, h < 8 → c < 8 → koff < 64 → a + 1 ≤ 1024 → x.reg h ≤ 1023 → x.reg c ≤ 1023 → pl.bedErr = [] →
      (pl.chan (k / 4)).actRows ≤ 8 →
      TineIssues s.dev p k (0x06 * 2 ^ 27 + r * 2 ^ 24 + 11 * 2 ^ 20 + 1 * 2 ^ 13 + h * 2 ^ 10 + c * 2 ^ 7 + koff) →
      Completes (.tmv p k) s (fun t => SameStores s.dev t.dev ∧ ((t.dev.plot p).tine k).pc = x.goesOn.pc ∧
        ((t.dev.plot p).tine k).checks.length = x.checks.length + 1 ∧
        (∀ i o, i < (pl.chan (k / 4)).actRows → o < 128 → SMap.get 0 ((t.dev.plot p).tine k).acc (i * 256 + o) =
          ((((SMap.get 0 x.acc (i * 256 + o) : Nat) : Int) + ((List.range 32).map (fun j =>
            signedOf 8 (SMap.get 0 (pl.chan (k / 4)).act (i * 2048 + koff * 32 + j)) *
            signedOf 8 (memGet s.dev.bed (p * 2 ^ 26 + bedLoc (k / 4) (2 * (k % 4) + o / 64) a (64 * j + o % 64))).toNat)).sum)
              % 2 ^ 32).toNat) ∧
        ∀ j, j ≠ k → (t.dev.plot p).tine j = pl.tine j)) ∧
    (∀ n, (pl.chan (k / 4)).actRows = n → inData (a + k * n * 1024) (n * 1024) = true → pl.units = [] →
      (tineIssue pl k).any (·.outbound) = false → TineIssues s.dev p k (0x08 * 2 ^ 27 + r * 2 ^ 24) →
      Completes (.tout p k) s (fun t => ((t.dev.plot p).tine k).pc = x.goesOn.pc ∧
        SameStores { s.dev with scr := t.dev.scr } t.dev ∧
        (∀ i o j, i < n → o < 256 → j < 4 →
          memGet t.dev.scr (p * 2 ^ 20 + (a + k * n * 1024) + (i * 256 + o) * 4 + j) =
            BitVec.ofNat 8 (SMap.get 0 x.acc (i * 256 + o) / 2 ^ (8 * j))) ∧
        ∀ b, b < p * 2 ^ 20 + (a + k * n * 1024) ∨ p * 2 ^ 20 + (a + k * n * 1024) + n * 1024 ≤ b →
          memGet t.dev.scr b = memGet s.dev.scr b)) ∧
    (∀ b cols dst, b < 2 → 0 < cols → cols < 256 → dst < 2 ^ 11 → a + (cols - 1) / 64 ≤ 1023 → pl.bedErr = [] →
      TineIssues s.dev p k (0x0A * 2 ^ 27 + r * 2 ^ 24 + 3 * 2 ^ 21 + b * 2 ^ 20 + cols * 2 ^ 12 + dst) →
      Completes (.tred p k) s (fun t => SameStores s.dev t.dev ∧ ((t.dev.plot p).tine k).pc = x.goesOn.pc ∧
        SMap.get 0 ((t.dev.plot p).tine k).acc dst = ((List.range (8 * cols)).map (fun i =>
          leValue (memRead s.dev.bed (p * 2 ^ 26 + bedLoc (k / 4) (2 * (k % 4) + b) a (4 * i)) 4))).sum % 2 ^ 32 ∧
        ∀ w, w ≠ dst → SMap.get 0 ((t.dev.plot p).tine k).acc w = SMap.get 0 x.acc w))

/-- The write buffer (R196), the tallies' way to scratch (R197) and the close of the oldest check of a tine (R200, R201). -/
def Obligations.TineBuffersAndChecks : Prop :=
  ∀ (s : State) (p k r : Nat), Live s → r < 8 →
    let pl := s.dev.plot p
    let x := pl.tine k
    let a := x.reg r
    (∀ q first col b n, q < 8 → first < 2 ^ 11 → col < 64 → b < 2 → x.reg q = n → x.wbuf = [] → a ≤ 1023 →
      first + n ≤ 2048 → a * 2048 + col * 32 + n * 4 ≤ 2 ^ 21 → n * 4 ≤ 8192 → (tineIssue pl k).any (·.outbound) = true →
      let words (add : Option Nat) : List BedWrite := (List.range n).map (fun i =>
        ⟨bedLoc (k / 4) (2 * (k % 4) + b) 0 0 + (a * 2048 + col * 32) + i * 4, 4, SMap.get 0 x.acc (first + i), add⟩)
      (TineIssues s.dev p k (0x0B * 2 ^ 27 + r * 2 ^ 24 + col * 2 ^ 18 + b * 2 ^ 17 + first * 2 ^ 5 + q * 2 ^ 2) →
        Completes (.tpack p k) s (fun t => TineRan p k [] (fun x => { x with wbuf := words none }.goesOn) s t)) ∧
      (∀ ty, ty < 2 →
        TineIssues s.dev p k (0x0C * 2 ^ 27 + r * 2 ^ 24 + col * 2 ^ 18 + b * 2 ^ 17 + ty * 2 ^ 16 + first * 2 ^ 5 + q * 2 ^ 2) →
        Completes (.tadd p k) s (fun t => TineRan p k [] (fun x => { x with wbuf := words (some ty) }.goesOn) s t))) ∧
    (Sound pl → pl.units = [] → inData a 16 = true → (tineIssue pl k).any (·.outbound) = false →
      TineIssues s.dev p k (0x0D * 2 ^ 27 + 2 ^ 26 + r * 2 ^ 23) →
      Completes (.tcrcWrite p k) s (fun t => ((t.dev.plot p).tine k).pc = x.goesOn.pc ∧
        SameStores { s.dev with scr := t.dev.scr } t.dev ∧
        memRead t.dev.scr (p * 2 ^ 20 + a) 16 = leBytes 8 (pl.rg (fBED_TINE_TALLY_EVEN_CRC.at k)) ++
          leBytes 8 (pl.rg (fBED_TINE_TALLY_ODD_CRC.at k)) ∧
        ∀ b, b < p * 2 ^ 20 + a ∨ p * 2 ^ 20 + a + 16 ≤ b → memGet t.dev.scr b = memGet s.dev.scr b)) ∧
    (∀ c rest, isPlot p = true → k < 16 → x.checks = c :: rest → c.code = 0 → c.nonfinite = false → c.page = 0 →
      Completes (.tineCheckClose p k 0) s (fun t => OnlyPlot p s.dev t.dev ∧ (t.dev.plot p).regs = pl.regs ∧
        ((t.dev.plot p).tine k).checks = rest) ∧
      (∀ i, tineIssue pl k = some i → i.pc < 8192 → pl.rg fPLOT_SEQ_STATUS_STATE = 2 → pl.rg fBED_TINE_STOP_CODE = 0 →
        Completes (.tineCheckClose p k 1) s (fun t => (t.dev.plot p).rg fBED_TINE_STOP_CODE = 0x0D08 ∧
          (t.dev.plot p).rg fBED_TINE_STOP_TID = k ∧ (t.dev.plot p).rg fPLOT_SEQ_STATUS_STATE = 3 ∧
          (t.dev.plot p).rg fPLOT_SEQ_STOP_CODE = 0x0D08 ∧ (t.dev.plot p).rg fPLOT_SEQ_STOP_PC = i.pc ∧
          SameStores { s.dev with tray := t.dev.tray } t.dev)))

/-- Tine attention over one list entry: fold (R233), wait and time-out, and score (R222, R234). -/
def Obligations.TineAttention : Prop :=
  ∀ (s : State) (p k r : Nat), Live s → r < 8 → Sound (s.dev.plot p) →
    let pl := s.dev.plot p
    let x := pl.tine k
    let a := x.reg r
    let w := 0x09 * 2 ^ 27 + r * 2 ^ 24 + 1 * 2 ^ 14
    let rd (b n : Nat) : List Byte := memRead s.dev.scr (p * 2 ^ 20 + b) n
    (∀ i, isPlot p = true → k < 16 → x.wait = .partialRec → pl.rg (fBED_TINE_STATUS_STATE.bit k) = 1 →
      tineIssue pl k = some i → pl.rg fPLOT_SEQ_STATUS_STATE = 2 → pl.rg fBED_TINE_STOP_CODE = 0 →
      Completes (.attPartialTimeout p k) s (fun t => (t.dev.plot p).rg fBED_TINE_STOP_CODE = 0x0E03 ∧
        (t.dev.plot p).rg fPLOT_SEQ_STATUS_STATE = 3 ∧ (t.dev.plot p).rg fPLOT_SEQ_STOP_CODE = 0x0E03 ∧
        (t.dev.plot p).rg fPLOT_ATT_ERR_VALID = 1)) ∧
    (∀ (h : AttList) (e : AttEntry), pl.units = [] → parseList (rd a 128) = h → parseEntries false 1 (rd (a + 128) 16) = [e] →
      tattStop w a h [e] = 0 →
      (h.op = 0 → 0 < h.rows → e.kind = 1 → leValue (rd e.addr 4) = h.tag →
        let recs := (List.range h.rows).map (fun i => parseRowRecord (rd (e.addr + 64 + h.prow * 528 + 528 * i) 528))
        (x.attDone = 0 → TineIssues s.dev p k w → Completes (.tattAttend p k) s (fun t =>
          OnlyPlot p s.dev t.dev ∧ ((t.dev.plot p).tine k).att = recs ∧ ((t.dev.plot p).tine k).attTag = h.tag ∧
          ((t.dev.plot p).tine k).pc = x.goesOn.pc ∧ ((t.dev.plot p).tine k).wait = .none ∧
          ((t.dev.plot p).tine k).checks.length = x.checks.length + 1)) ∧
        (isPlot p = true → k < 16 → x.wait = .partialRec → x.attDone = 0 → pl.rg (fBED_TINE_STATUS_STATE.bit k) = 1 →
          tineFetch pl k x.pc = (w, 0) → Completes (.partialRecordValid p k) s (fun t =>
            OnlyPlot p s.dev t.dev ∧ ((t.dev.plot p).tine k).att = (x.att.zip recs).map (fun e => (attMerge e.1 e.2).1) ∧
            ((t.dev.plot p).tine k).pc = x.goesOn.pc ∧ ((t.dev.plot p).tine k).wait = .none))) ∧
      (h.op = 1 → h.rows = 1 → (∀ u ∈ unitsOf a 144, u ∉ unitsOf h.out 4) → pl.bedErr = [] →
        (tineIssue pl k).any (·.outbound) = false → TineIssues s.dev p k w → Completes (.tattScore p k) s (fun t =>
          memRead t.dev.scr (p * 2 ^ 20 + h.out) 4 = leBytes 4 (code32 (summaryScore
            ((unpackCodes 32 128 (rd h.qaddr 512)).map val32)
            (memRead s.dev.bed (p * 2 ^ 26 + bedLoc (k / 4) (2 * (k % 4) + e.bank) e.frame (e.slot * 512)) 512)).1) ∧
          (∀ b, b < p * 2 ^ 20 + h.out ∨ p * 2 ^ 20 + h.out + 4 ≤ b → memGet t.dev.scr b = memGet s.dev.scr b) ∧
          SameStores { s.dev with scr := t.dev.scr } t.dev ∧ ((t.dev.plot p).tine k).pc = x.goesOn.pc)))

/-- Each sub-operation of ATT from its word, for bfloat16 lists (FMT 2), with I0 as its index register. -/
def Obligations.AttentionPipeline : Prop :=
  ∀ (s : State) (p off : Nat), Live s → Sound (s.dev.plot p) → off < 2 ^ 16 →
    let pl := s.dev.plot p
    let a := off * 16
    let op (sub n : Nat) : Nat := 0x1C * 2 ^ 58 + sub * 2 ^ 55 + off * 2 ^ 35 + n * 2 ^ 26
    let rd (b n : Nat) : List Byte := memRead s.dev.scr (p * 2 ^ 20 + b) n
    (∀ q, q ≤ 128 → inData a 640 = true → (parseAcfg q (rd a 640)).2 = false → Issues s.dev p (op 0 q) →
      Completes (.acfg p) s (fun t => Ran p [fPLOT_UNIT_ICNT_COUNT.at 2] s t ∧ WentOn pl (t.dev.plot p) ∧
        (t.dev.plot p).att = { pl.att with cfg := some (parseAcfg q (rd a 640)).1, fresh := true, loaded := false })) ∧
    (∀ c n, pl.att.cfg = some c → c.q = n → 0 < n → n ≤ 128 → inScratch a (256 * n) = true → Issues s.dev p (op 1 n) →
      Completes (.qload p) s (fun t => Ran p [fPLOT_UNIT_ICNT_COUNT.at 2] s t ∧ WentOn pl (t.dev.plot p) ∧
        (t.dev.plot p).att.loaded = true ∧ (t.dev.plot p).att.rows = pl.att.rows ∧
        (t.dev.plot p).att.qrows = (List.range n).map (fun i => unpackCodes 16 128 (rd (a + 256 * i) 256)))) ∧
    (∀ c e, pl.att.cfg = some c → pl.att.fresh = true → pl.att.loaded = true → pl.att.done = 0 → c.fold = 1 → c.tee = 0 →
      pl.units = [] → inData a 16 = true → parseEntries true 1 (rd a 16) = [e] → e.kind = 1 → e.reserved = false →
      inData e.addr (64 + c.q * 528) = true → Issues s.dev p (op 2 1 + 2 * 2 ^ 22) →
      Completes (.kvpages p) s (fun t => OnlyPlot p s.dev t.dev ∧ WentOn pl (t.dev.plot p) ∧
        (∀ i, i < c.q → SMap.get AttState.empty (t.dev.plot p).att.rows i =
          (attMerge (SMap.get AttState.empty pl.att.rows i) (parseRowRecord (rd (e.addr + 64 + 528 * i) 528))).1) ∧
        (∀ i, c.q ≤ i → SMap.get AttState.empty (t.dev.plot p).att.rows i = SMap.get AttState.empty pl.att.rows i) ∧
        (t.dev.plot p).attChecks.length = pl.attChecks.length + 1)) ∧
    (∀ c n, pl.att.cfg = some c → pl.att.fresh = true → pl.att.loaded = true → c.outfmt = 1 → 0 < n → n ≤ c.q → n < 512 →
      inData a (512 * n) = true → pl.units = [] →
      (∀ i, i < n → (SMap.get AttState.empty pl.att.rows i).o.length = 128) → Issues s.dev p (op 3 n) →
      Completes (.emit p) s (fun t => WentOn pl (t.dev.plot p) ∧
        memRead t.dev.scr (p * 2 ^ 20 + a) (512 * n) = (List.range n).flatMap (fun i =>
          (attFinal (SMap.get AttState.empty pl.att.rows i)).flatMap (fun e => leBytes 4 (code32 e.1))) ∧
        (∀ b, b < p * 2 ^ 20 + a ∨ p * 2 ^ 20 + a + 512 * n ≤ b → memGet t.dev.scr b = memGet s.dev.scr b) ∧
        SameStores { s.dev with scr := t.dev.scr } t.dev ∧ (t.dev.plot p).att = pl.att)) ∧
    (Issues s.dev p (0x1C * 2 ^ 58 + 4 * 2 ^ 55) → Completes (.attClear p) s (fun t =>
      Ran p [fPLOT_UNIT_ICNT_COUNT.at 2] s t ∧ WentOn pl (t.dev.plot p) ∧ (t.dev.plot p).att =
        { pl.att with rows := [], fresh := false, loaded := false, deps := [], bad := false })) ∧
    (∀ c l, pl.attChecks = c :: l → c.nonfinite = false →
      (c.code = 0 → Completes (.attCheckClose p false) s (fun t => OnlyPlot p s.dev t.dev ∧
        (t.dev.plot p).attChecks = l ∧ (t.dev.plot p).regs = pl.regs)) ∧
      (c.code = 0 → c.pc < 8192 → pl.rg fPLOT_SEQ_STATUS_STATE = 2 → Completes (.attCheckClose p true) s (fun t =>
        (t.dev.plot p).attChecks = l ∧ (t.dev.plot p).rg fPLOT_SEQ_STATUS_STATE = 3 ∧
        (t.dev.plot p).rg fPLOT_SEQ_STOP_CODE = 0x0E0B ∧ (t.dev.plot p).rg fPLOT_SEQ_STOP_PC = c.pc)))

/-- Each job on a slot as the table of R251 says, with the event record that follows in the queue while the event ring has no
room; then SLOT_EVENT_RAISE, HOLD_TIMER_EXPIRY, STP_CFG_WRITE and STEP_ABANDON. -/
def Obligations.JobsOfASlot : Prop :=
  (∀ (s : State) (j : Job) (i : Nat), TakesJob s.dev j i →
    let taken (e : Dev) := e.rg (fCPL_RING_IDX_CONSUMER.at 0) = (s.dev.rg (fCPL_RING_IDX_CONSUMER.at 0) + 1) % 2 ^ 32
    let rejected (code : Nat) (t : State) := taken t.dev ∧ t.dev.steps.slots = s.dev.steps.slots ∧
      (∀ k, k < 16 → slotSt t.dev k = slotSt s.dev k ∧ slotGen t.dev k = slotGen s.dev k ∧ slotBase t.dev k = slotBase s.dev k) ∧
      (ringFree s.dev 2 = 0 → t.dev.steps.events =
        [⟨eventRecord code 4 i (jobV j 4 4) (slotGen s.dev i) (slotBase s.dev i) s.dev.steps.lastNo (jobV j 0 1)⟩])
    (jobV j 0 1 = 1 →
      (slotSt s.dev i = 0 → j.readErr = false → Completes (.open j) s (fun t => taken t.dev ∧ slotSt t.dev i = 1 ∧
        slotGen t.dev i = (slotGen s.dev i + 1) % 2 ^ 32 ∧ slotBase t.dev i = 0 ∧
        (t.dev.slot i).queued = jobV j 12 4 ∧ (t.dev.slot i).tag = jobV j 4 4 ∧ (t.dev.slot i).maxNew = jobV j 24 4 ∧
        (t.dev.slot i).seed = jobV j 40 8 ∧ (t.dev.slot i).emitted = 0 ∧
        (ringFree s.dev 2 = 0 → t.dev.steps.events =
          [⟨eventRecord 0 1 i (jobV j 4 4) ((slotGen s.dev i + 1) % 2 ^ 32) 0 s.dev.steps.lastNo 0⟩]))) ∧
      (slotSt s.dev i = 0 → j.readErr = true → Completes (.open j) s (rejected 0x0F11)) ∧
      (slotSt s.dev i ≠ 0 → Completes (.open j) s (rejected 0x0F01))) ∧
    (jobV j 0 1 = 2 → slotSt s.dev i = 1 → slotGen s.dev i = jobV j 8 4 →
      ((s.dev.slot i).lastSeen = false → slotBase s.dev i + (s.dev.slot i).queued + jobV j 12 4 ≤ 2 ^ 20 →
        j.readErr = false → Completes (.append j) s (fun t => taken t.dev ∧ slotSt t.dev i = 1 ∧
          slotBase t.dev i = slotBase s.dev i ∧ (t.dev.slot i).queued = (s.dev.slot i).queued + jobV j 12 4 ∧
          (t.dev.slot i).lastSeen = jobFlag j 0)) ∧
      ((s.dev.slot i).lastSeen = false → 2 ^ 20 < slotBase s.dev i + (s.dev.slot i).queued + jobV j 12 4 →
        Completes (.append j) s (rejected 0x0F10)) ∧
      ((s.dev.slot i).lastSeen = true → Completes (.append j) s (rejected 0x0F02))) ∧
    (jobV j 0 1 = 3 → slotSt s.dev i ≠ 0 → slotGen s.dev i = jobV j 8 4 → Completes (.cancel j) s (fun t => taken t.dev ∧
      slotSt t.dev i = 0 ∧ (ringFree s.dev 2 = 0 → t.dev.steps.events =
        [⟨eventRecord 0 3 i (s.dev.slot i).tag (slotGen s.dev i) (slotBase s.dev i) s.dev.steps.lastNo 3⟩]))) ∧
    (jobV j 0 1 = 4 → slotGen s.dev i = jobV j 8 4 →
      (slotSt s.dev i = 4 → s.dev.rg (fSTP_SLOT_PRIOR.at i) < 4 → Completes (.resume j) s (fun t => taken t.dev ∧
        slotSt t.dev i = s.dev.rg (fSTP_SLOT_PRIOR.at i) ∧ (t.dev.slot i).hold = none ∧
        (ringFree s.dev 2 = 0 → t.dev.steps.events =
          [⟨eventRecord 0 6 i (s.dev.slot i).tag (slotGen s.dev i) (slotBase s.dev i) s.dev.steps.lastNo 0⟩]))) ∧
      (slotSt s.dev i ≠ 4 → Completes (.resume j) s (rejected 0x0F02))) ∧
    (jobV j 0 1 = 2 → slotSt s.dev i ≠ 1 → slotGen s.dev i = jobV j 8 4 → Completes (.append j) s (rejected 0x0F02)) ∧
    (jobV j 0 1 = 3 → slotSt s.dev i = 0 → Completes (.cancel j) s (rejected 0x0F02)) ∧
    (slotSt s.dev i ≠ 0 → slotGen s.dev i ≠ jobV j 8 4 →
      (jobV j 0 1 = 2 → Completes (.append j) s (rejected 0x0F03)) ∧
      (jobV j 0 1 = 3 → Completes (.cancel j) s (rejected 0x0F03)) ∧
      (jobV j 0 1 = 4 → Completes (.resume j) s (rejected 0x0F03)))) ∧
  (∀ (s : State) (i : Nat) (w : List Trans), Live s → i < 16 → s.dev.steps.run = none → s.dev.steps.events = [] →
    s.dev.steps.jobs = [] → slotSt s.dev i = 4 →
    (s.dev.steps.waiting = .evict i :: w →
      Completes .slotEventRaise s (fun t => slotSt t.dev i = 0 ∧ t.dev.steps.waiting = w)) ∧
    (s.dev.steps.waiting = [] → (s.dev.slot i).hold.isSome = true → Completes (.holdTimerExpiry i) s (fun t =>
      slotSt t.dev i = 0 ∧ t.dev.steps.waiting = [] ∧ (ringFree s.dev 2 = 0 → t.dev.steps.events =
        [⟨eventRecord 0x0F31 7 i (s.dev.slot i).tag (slotGen s.dev i) (slotBase s.dev i) s.dev.steps.lastNo 0⟩])))) ∧
  (∀ (s : State) (data : Nat), Live s →
    (s.dev.steps.run = none → bitsOf data 0 9 ≤ 256 → Completes (.stpCfgWrite data) s (fun t =>
      t.dev.rg fSTP_CFG_SIEVE_P = bitsOf data 0 9 ∧ t.dev.rg fSTP_CFG_PREFILL_ROWS = bitsOf data 16 16 ∧
      OnlyRegs [fSTP_CFG_SIEVE_P, fSTP_CFG_PREFILL_ROWS] s.dev t.dev)) ∧
    (s.dev.steps.run = none → 256 < bitsOf data 0 9 → Completes (.stpCfgWrite data) s (fun t =>
      t.dev.rg fSTP_CFG_SIEVE_P = s.dev.rg fSTP_CFG_SIEVE_P ∧ t.dev.rg fSTP_CFG_PREFILL_ROWS = bitsOf data 16 16 ∧
      SawClass 15 t.dev)) ∧
    (s.dev.steps.run ≠ none → bitsOf data 0 9 ≤ 256 →
      Gives (.stpCfgWrite data) s { s.dev with steps := { s.dev.steps with cfgWait := some data } })) ∧
  (∀ (s : State) (r : StepRun), Live s → s.dev.steps.run = some r → r.again = false →
    Completes .stepAbandon s (fun t =>
      t.dev.steps = { s.dev.steps with run := some { r with again := true, opened := [], noSpace := [] } } ∧
      t.dev.rg fSTP_STATUS_ROWS = 0 ∧ SawClass 15 t.dev ∧
      (s.dev.rg fSTP_CNT_ABANDONED < 65535 → t.dev.rg fSTP_CNT_ABANDONED = s.dev.rg fSTP_CNT_ABANDONED + 1) ∧
      ∀ k, k < 16 → slotSt t.dev k = slotSt s.dev k ∧ slotBase t.dev k = slotBase s.dev k))

/-- A step of one decoding slot whose tree is the root alone, from its start to its commit, on the device of the last layers and
on another. -/
def Obligations.OneStep : Prop :=
  (∀ (s : State) (i : Nat) (pm : Placement) (drafts : List (Nat × List Byte)), Live s → i < 16 →
    (s.dev.rg fAON_DSTATE_STATE = 1 ∨ s.dev.rg fAON_DSTATE_STATE = 2) → s.dev.steps.hold = 0 →
    s.dev.steps.placement = some pm → pm.fits = true → s.dev.rg fSHD_FW_STATE = 2 → s.dev.rg fTRU_UPD_STATE ≠ 2 →
    s.dev.steps.run = none → s.dev.steps.waiting = [] → s.dev.steps.events = [] →
    (∀ n p, n < pm.plots → s.dev.phys n = some p → (s.dev.plot p).seq ≠ 0) →
    slotSt s.dev i = 2 → (∀ k, k < 16 → k ≠ i → slotSt s.dev k = 0) →
    (s.dev.slot i).guideLive = false → (s.dev.slot i).draftEn = false → 1 ≤ ringFree s.dev 1 →
    Completes (.stepStart drafts []) s (fun t => t.dev.rg fAON_DSTATE_STATE = 1 ∧ t.dev.rg fSTP_STATUS_ROWS = 1 ∧
      t.dev.rg (fSTP_SLOT_N.at i) = 1 ∧ slotSt t.dev i = 2 ∧ slotBase t.dev i = slotBase s.dev i ∧
      t.dev.steps.run = some ⟨s.dev.steps.lastNo + 1,
        [⟨i, true, ⟨1, [255], [(s.dev.slot i).token]⟩, 0, 0, false⟩], [], [], false⟩)) ∧
  (∀ (s : State) (drafts : List (Nat × List Byte)) (opens : List (Nat × Nat × Option Nat × Option (List Nat))), Live s →
    s.dev.steps.hold ≠ 0 → s.dev.rg fTRU_UPD_STATE ≠ 2 → Gives (.stepStart drafts opens) s s.dev) ∧
  (∀ (s : State) (i no tok now : Nat) (logits : List (List Nat)) (emit : Bool), Live s → OneSlotStep s.dev i no →
    checksClosed s.dev = true →
    pruneEntry s.dev ⟨i, true, ⟨1, [255], [(s.dev.slot i).token]⟩, 0, 0, false⟩ logits = some ([], tok) →
    let committed (t : State) := slotBase t.dev i = slotBase s.dev i + 1 ∧ t.dev.steps.run = none ∧
      t.dev.steps.lastNo = no ∧ t.dev.rg fSTP_STATUS_STEPS = (s.dev.rg fSTP_STATUS_STEPS + 1) % 2 ^ 32 ∧
      slotSt t.dev i = 2 ∧ (t.dev.slot i).token = tok ∧ (t.dev.slot i).emitted = (s.dev.slot i).emitted + 1
    (tok ∉ (s.dev.slot i).stops → (s.dev.slot i).emitted + 1 ≠ (s.dev.slot i).maxNew →
      (∀ others, Completes (.stepCommit [(i, logits)] [] [] others true emit now) s (fun t => committed t ∧
        ∀ o, o ∈ others → .commitResult o [(i, [], tok)] ∈ t.dev.outs)) ∧
      (∀ m : Mgmt, s.dev.mgmt = [m] → 0 < m.type → m.type < 0x100 →
        Completes (.commitResultMessage [(i, some ([], tok))] [] [] emit now) s (fun t =>
          committed t ∧ t.dev.mgmt = []))) ∧
    (tok ∈ (s.dev.slot i).stops → Completes (.stepCommit [(i, logits)] [] [] [] true emit now) s (fun t =>
      slotSt t.dev i = 0 ∧ t.dev.steps.run = none)) ∧
    (∀ c, Completes (.stepCommit [(i, logits)] [(i, c)] [] [] true emit now) s (fun t =>
      slotSt t.dev i = 5 ∧ slotBase t.dev i = slotBase s.dev i ∧ t.dev.steps.run = none))) ∧
  (∀ (s : State) (logits : List (Nat × List (List Nat))) (results : List (Nat × Option (List Nat × Nat)))
    (faults resid : List (Nat × Nat)) (others : List Nat) (emit : Bool) (now : Nat), Live s →
    (checksClosed s.dev = false → Gives (.stepCommit logits faults resid others true emit now) s s.dev ∧
      Gives (.commitResultMessage results faults resid emit now) s s.dev) ∧
    Gives (.stepCommit logits faults resid others false emit now) s s.dev ∧
    (s.dev.mgmt = [] → Gives (.commitResultMessage results faults resid emit now) s s.dev))

/-- Regulation (R309 to R316): the two registers, the window, arrival, the slack's end and the grant. -/
def Obligations.Regulation : Prop :=
  ∀ (s : State) (pt c : Nat), Live s → pt < 26 → c < 7 →
    (∀ sp w, sp < 2 → 0 < w → w ≤ 64 → Completes (.fabRegCfgWrite pt (sp * 2 ^ 7 + w)) s (fun t =>
      OnlyRegs [fFAB_REG_CFG_SPILL.at pt, fFAB_REG_CFG_WINDOW.at pt] s.dev t.dev ∧
      t.dev.rg (fFAB_REG_CFG_SPILL.at pt) = sp ∧ t.dev.rg (fFAB_REG_CFG_WINDOW.at pt) = w)) ∧
    (∀ w, w < 128 → (w = 0 ∨ 64 < w) → Completes (.fabRegCfgWrite pt w) s (fun t =>
      t.dev.rg (fFAB_REG_CFG_SPILL.at pt) = s.dev.rg (fFAB_REG_CFG_SPILL.at pt) ∧
      t.dev.rg (fFAB_REG_CFG_WINDOW.at pt) = s.dev.rg (fFAB_REG_CFG_WINDOW.at pt))) ∧
    (∀ m b, m ≤ b → b < 2 ^ 24 → Completes (.fabRegClassWrite pt c (b * 2 ^ 24 + m)) s (fun t =>
      OnlyRegs [fFAB_REG_CLASS_BUDGET.at2 pt c, fFAB_REG_CLASS_MIN.at2 pt c] s.dev t.dev ∧
      t.dev.rg (fFAB_REG_CLASS_BUDGET.at2 pt c) = b ∧ t.dev.rg (fFAB_REG_CLASS_MIN.at2 pt c) = m)) ∧
    (∀ m b, b < m → m < 2 ^ 24 → Completes (.fabRegClassWrite pt c (b * 2 ^ 24 + m)) s (fun t =>
      t.dev.rg (fFAB_REG_CLASS_BUDGET.at2 pt c) = s.dev.rg (fFAB_REG_CLASS_BUDGET.at2 pt c) ∧
      t.dev.rg (fFAB_REG_CLASS_MIN.at2 pt c) = s.dev.rg (fFAB_REG_CLASS_MIN.at2 pt c))) ∧
    Completes (.regWindowBoundary pt) s (fun t => t.dev = { s.dev with points := t.dev.points } ∧
      (t.dev.point pt).window = s.dev.rg (fFAB_REG_CFG_WINDOW.at pt) ∧
      (t.dev.point pt).granted = List.replicate 7 0 ∧ (t.dev.point pt).queue = (s.dev.point pt).queue ∧
      (t.dev.point pt).mins.getD c 0 = s.dev.rg (fFAB_REG_CLASS_MIN.at2 pt c) ∧
      (t.dev.point pt).budgets.getD c 0 = s.dev.rg (fFAB_REG_CLASS_BUDGET.at2 pt c) ∧
      ∀ q, q ≠ pt → t.dev.point q = s.dev.point q) ∧
    (∀ pos w k, (s.dev.point pt).queue[pos]? = some w → w.req.slack = some k →
      Completes (.slackExpiry (.point pt pos)) s (fun t => t.dev = { s.dev with points := t.dev.points } ∧
        (t.dev.point pt).queue = (s.dev.point pt).queue.set pos
          { w with req := { w.req with slack := some 0, late := true } } ∧
        ∀ q, q ≠ pt → t.dev.point q = s.dev.point q)) ∧
    (∀ p ch pos r k, ((s.dev.plot p).chan ch).hold[pos]? = some r → r.slack = some k →
      Completes (.slackExpiry (.hold p ch pos)) s (fun t => OnlyPlot p s.dev t.dev ∧
        ((t.dev.plot p).chan ch).hold = ((s.dev.plot p).chan ch).hold.set pos { r with slack := some 0, late := true })) ∧
    (∀ (r : FabReq) (q g : Nat), r.master = .plot q → q < 2048 → r.addr < 0x1800000000 → (gddrMap r.addr).1 = g →
      reqLen r ≠ 0 → reqFits r = true → s.dev.sed.held = [] → s.dev.rg fBRW_STATUS_STATE ≠ 4 →
      s.dev.rg fAON_DSTATE_STATE ≠ 3 →
      (g / 12 = q / 1024 → s.dev.rg (fGDC_STATUS_STATE.at g) = 2 → Gives (.fabricRequest r) s (s.dev.setPoint g
        { s.dev.point g with queue := (s.dev.point g).queue ++ [⟨r, r.slack.map (· + r.now), false⟩] })) ∧
      (g / 12 ≠ q / 1024 → s.dev.rg fFAB_BRIDGE_STATUS_DOWN = 0 →
        let x := if g / 12 = 1 then 24 else 25
        Gives (.fabricRequest r) s (s.dev.setPoint x
          { s.dev.point x with queue := (s.dev.point x).queue ++ [⟨r, r.slack.map (· + r.now), false⟩] }))) ∧
    (∀ (w : Waiting) (q now next : Nat) (b : List Byte), pt < 24 → s.dev.rg (fGDC_STATUS_STATE.at pt) = 2 →
      (s.dev.point pt).queue = [w] → (s.dev.point pt).spill = true → w.req.cls = c → w.req.master = .plot q →
      w.req.op = .write b → b.length = 32 → w.req.addr % 32 = 0 → s.dev.rg (fGDC_FLIP_ARM.at pt) = 0 →
      Completes (.regulationGrant pt now next) s (fun t => memRead t.dev.gddr w.req.addr 32 = b ∧
        (∀ a, a < w.req.addr ∨ w.req.addr + 32 ≤ a → memGet t.dev.gddr a = memGet s.dev.gddr a) ∧
        t.dev.outs = s.dev.outs ++ [.fabReply w.req 0 []] ∧ (t.dev.point pt).queue = [] ∧
        (t.dev.point pt).granted = (s.dev.point pt).granted.set c ((s.dev.point pt).granted.getD c 0 + 32) ∧
        t.dev.plots = s.dev.plots ∧ t.dev.scr = s.dev.scr ∧ t.dev.bed = s.dev.bed))

/-- R288 and R296 for a controller with one waiting request of a plot. -/
def Obligations.GddrErrors : Prop :=
  ∀ (s : State) (c now : Nat), Live s → c < 24 →
    (∀ (w : Waiting) (q k : Nat), s.dev.rg (fGDC_STATUS_STATE.at c) = 2 → (s.dev.point c).queue = [w] →
      (s.dev.point c).spill = true → w.req.cls < 7 → w.req.master = .plot q → w.req.report = [] →
      s.dev.rg (fGDC_FLIP_ARM.at c) = 0 → 0 < k →
      (∀ n, w.req.op = .read n → k ≤ s.dev.rg (fGDC_CFG_CRC_RETRIES.at c) →
        Completes (.gddrReadCrcError c now k) s (fun t =>
          t.dev.outs = s.dev.outs ++ [.fabReply w.req 0 (memRead s.dev.gddr w.req.addr n)] ∧ t.dev.gddr = s.dev.gddr ∧
          t.dev.rg (fGDC_LINK_CNT_CRC_RETRIED.at c) =
            min (2 ^ 32 - 1) (s.dev.rg (fGDC_LINK_CNT_CRC_RETRIED.at c) + 1))) ∧
      (∀ n, w.req.op = .read n → s.dev.rg (fGDC_CFG_CRC_RETRIES.at c) < k →
        Completes (.gddrReadCrcError c now k) s (fun t =>
          t.dev.outs = s.dev.outs ++ [.fabReply w.req 0x0903 (zeros n)] ∧ t.dev.gddr = s.dev.gddr ∧
          t.dev.rg (fGDC_ERR_CRC_RETRY_FAIL.at c) = 1)) ∧
      (∀ b, w.req.op = .write b → b.length = 32 → w.req.addr % 32 = 0 → k ≤ s.dev.rg (fGDC_CFG_CRC_RETRIES.at c) →
        Completes (.gddrWriteCrcError c now k) s (fun t => t.dev.outs = s.dev.outs ++ [.fabReply w.req 0 []] ∧
          memRead t.dev.gddr w.req.addr 32 = b ∧ t.dev.rg (fGDC_LINK_CNT_CRC_RETRIED.at c) =
            min (2 ^ 32 - 1) (s.dev.rg (fGDC_LINK_CNT_CRC_RETRIED.at c) + 1))) ∧
      (∀ b, w.req.op = .write b → b.length = 32 → w.req.addr % 32 = 0 → s.dev.rg (fGDC_CFG_CRC_RETRIES.at c) < k →
        Completes (.gddrWriteCrcError c now k) s (fun t => t.dev.outs = s.dev.outs ++ [.fabReply w.req 0x0903 []] ∧
          t.dev.rg (fGDC_ERR_CRC_RETRY_FAIL.at c) = 1 ∧
          ∀ a, a < w.req.addr ∨ w.req.addr + 32 ≤ a → memGet t.dev.gddr a = memGet s.dev.gddr a))) ∧
    (s.dev.rg (fGDC_STATUS_STATE.at c) = 2 → s.dev.rg (fGDC_RETRAIN_REQUEST.at c) = 0 →
      Completes (.gdcCaParity c) s (fun t => t.dev.rg (fGDC_ERR_CA_PARITY.at c) = 1 ∧
        t.dev.rg (fGDC_LINK_CNT_CA_PARITY.at c) = min 65535 (s.dev.rg (fGDC_LINK_CNT_CA_PARITY.at c) + 1) ∧
        t.dev.rg (fGDC_RETRAIN_REQUEST.at c) = 1 ∧ t.dev.rg (fGDC_RETRAIN_REASON.at c) = 2)) ∧
    (s.dev.rg (fGDC_STATUS_STATE.at c) = 2 → Completes (.gdcRetrainStart c) s (fun t =>
      OnlyRegs [fGDC_STATUS_STATE.at c, fGDC_RETRAIN_REASON.at c] { s.dev with points := t.dev.points } t.dev ∧
      t.dev.rg (fGDC_STATUS_STATE.at c) = 3 ∧
      (t.dev.point c).queue.map (·.req) = (s.dev.point c).queue.map (·.req) ∧
      ∀ w ∈ (t.dev.point c).queue.take 64, w.early = true)) ∧
    (s.dev.rg (fGDC_STATUS_STATE.at c) = 3 → (∀ w ∈ (s.dev.point c).queue, w.early = false) →
      Gives (.gdcDrainDone c) s (s.dev.rs (fGDC_STATUS_STATE.at c) 4)) ∧
    (∀ ac, s.dev.rg (fGDC_STATUS_STATE.at c) = 4 → (s.dev.point c).queue = [] → ac ≤ 50000 →
      Completes (.gdcRetrainPass c ac now) s (fun t => t.dev.rg (fGDC_STATUS_STATE.at c) = 2 ∧
        t.dev.rg (fGDC_RETRAIN_REQUEST.at c) = 0 ∧ t.dev.rg (fGDC_RETRAIN_LAST_AC.at c) = ac ∧
        t.dev.rg (fGDC_LINK_CNT_RETRAINS.at c) = min 65535 (s.dev.rg (fGDC_LINK_CNT_RETRAINS.at c) + 1) ∧
        t.dev.plots = s.dev.plots ∧ SameStores s.dev t.dev)) ∧
    (∀ (w : Waiting) (q n : Nat), (s.dev.rg (fGDC_STATUS_STATE.at c) = 3 ∨ s.dev.rg (fGDC_STATUS_STATE.at c) = 4) →
      (s.dev.point c).queue = [w] → w.req.master = .plot q → w.req.op = .read n →
      Completes (.gdcRetrainTimeout c) s (fun t => t.dev.rg (fGDC_STATUS_STATE.at c) = 5 ∧
        t.dev.rg (fGDC_ERR_RETRAIN_TIMEOUT.at c) = 1 ∧ (t.dev.point c).queue = [] ∧
        .fabReply w.req 0x0906 (zeros n) ∈ t.dev.outs))

/-- The registers of R299, the weeder of R293 and the bridge of R305. -/
def Obligations.GddrRegistersAndBridge : Prop :=
  ∀ (s : State) (c : Nat), Live s → c < 24 →
    (∀ r t k v, 0 < r → r < 256 → 0 < t → t < 256 → 0 < k → k < 16 → v < 4 →
      Completes (.gdcCfgWrite c (r * 2 ^ 24 + t * 2 ^ 16 + k * 2 ^ 12 + v)) s (fun u =>
        OnlyRegs [fGDC_CFG_RETRAIN_AT.at c, fGDC_CFG_SUSPECT_THRESHOLD.at c, fGDC_CFG_CRC_RETRIES.at c, fGDC_CFG_SPEED.at c]
          s.dev u.dev ∧
        u.dev.rg (fGDC_CFG_RETRAIN_AT.at c) = r ∧ u.dev.rg (fGDC_CFG_SUSPECT_THRESHOLD.at c) = t ∧
        u.dev.rg (fGDC_CFG_CRC_RETRIES.at c) = k ∧ u.dev.rg (fGDC_CFG_SPEED.at c) =
          if s.dev.rg (fGDC_STATUS_STATE.at c) = 0 then v else s.dev.rg (fGDC_CFG_SPEED.at c))) ∧
    (∀ v, v < 4096 → Completes (.gdcCfgWrite c v) s (fun u =>
      ∀ f ∈ [fGDC_CFG_RETRAIN_AT, fGDC_CFG_SUSPECT_THRESHOLD, fGDC_CFG_CRC_RETRIES, fGDC_CFG_SPEED],
        u.dev.rg (f.at c) = s.dev.rg (f.at c))) ∧
    (∀ be ge b g, be < 2 → ge < 2 → 0 < b → b < 2 ^ 16 → 0 < g → g < 2 ^ 16 →
      Completes (.gdcWeedCfgWrite c (be * 2 ^ 63 + ge * 2 ^ 62 + b * 2 ^ 16 + g)) s (fun u =>
        OnlyRegs [fGDC_WEED_CFG_BED_EN.at c, fGDC_WEED_CFG_GDDR_EN.at c, fGDC_WEED_CFG_BED_INTERVAL.at c,
          fGDC_WEED_CFG_GDDR_INTERVAL.at c] s.dev u.dev ∧
        u.dev.rg (fGDC_WEED_CFG_BED_EN.at c) = be ∧ u.dev.rg (fGDC_WEED_CFG_GDDR_EN.at c) = ge ∧
        u.dev.rg (fGDC_WEED_CFG_BED_INTERVAL.at c) = b ∧ u.dev.rg (fGDC_WEED_CFG_GDDR_INTERVAL.at c) = g)) ∧
    (∀ arm dir dch byte m, arm < 2 → dir < 2 → dch < 4 → byte < 32 → m < 256 →
      Completes (.gdcFlipWrite c (arm * 2 ^ 16 + dir * 2 ^ 15 + dch * 2 ^ 13 + byte * 2 ^ 8 + m)) s (fun u =>
        OnlyRegs [fGDC_FLIP_ARM.at c, fGDC_FLIP_DIR.at c, fGDC_FLIP_DCH.at c, fGDC_FLIP_BYTE.at c, fGDC_FLIP_MASK.at c]
          s.dev u.dev ∧
        u.dev.rg (fGDC_FLIP_ARM.at c) = arm ∧ u.dev.rg (fGDC_FLIP_DIR.at c) = dir ∧ u.dev.rg (fGDC_FLIP_DCH.at c) = dch ∧
        u.dev.rg (fGDC_FLIP_BYTE.at c) = byte ∧ u.dev.rg (fGDC_FLIP_MASK.at c) = m)) ∧
    (∀ rep, weederRuns s.dev c = true → s.dev.rg (fGDC_WEED_CFG_GDDR_EN.at c) = 1 →
      Completes (.weederGddrRead c rep) s (fun u => u.dev.gddr = s.dev.gddr ∧ u.dev.outs = s.dev.outs ∧
        (u.dev.gdc c).gddrPos = ((s.dev.gdc c).gddrPos + 1) % 2 ^ 24 ∧
        u.dev.rg (fGDC_WEED_STATUS_GDDR_CURSOR.at c) = ((s.dev.gdc c).gddrPos + 1) % 2 ^ 24 / 16)) ∧
    (∀ k p, c < 12 → c + 12 * k < 512 → s.dev.phys (c + 12 * k) = some p → weederRuns s.dev c = true →
      s.dev.rg (fGDC_WEED_CFG_BED_EN.at c) = 1 → (s.dev.gdc c).bedPlot = c + 12 * k → (s.dev.gdc c).bedPos + 1 < 2 ^ 18 →
      Completes (.weederBedRead c) s (fun u => u.dev.outs = s.dev.outs ∧ u.dev.gddr = s.dev.gddr ∧
        u.dev.gdc c = { s.dev.gdc c with bedPos := (s.dev.gdc c).bedPos + 1 })) ∧
    (∀ n, s.dev.rg fFAB_BRIDGE_STATUS_DOWN = 0 → s.dev.rg fFAB_BRIDGE_STATUS_PORT_UP ≠ 0 →
      (n ≤ 8 → Completes (.bridgeCrcFail n) s (fun u => OnlyRegs [fFAB_BRIDGE_STATUS_REPLAYS] s.dev u.dev ∧
        u.dev.rg fFAB_BRIDGE_STATUS_REPLAYS = min 65535 (s.dev.rg fFAB_BRIDGE_STATUS_REPLAYS + n))) ∧
      (∀ (w : Waiting) (q m : Nat), 9 ≤ n → (s.dev.point 24).queue = [w] → (s.dev.point 25).queue = [] →
        w.req.master = .plot q → w.req.op = .read m →
        Completes (.bridgeCrcFail n) s (fun u => u.dev.rg fFAB_BRIDGE_STATUS_DOWN = 1 ∧ (u.dev.point 24).queue = [] ∧
          .fabReply w.req 0x0A05 (zeros m) ∈ u.dev.outs))) ∧
    (∀ row, s.dev.rg fFAB_BRIDGE_STATUS_DOWN = 0 → row < 17 → bitOf (s.dev.rg fFAB_BRIDGE_STATUS_PORT_UP) row = true →
      Completes (.bridgePortLockLoss row) s (fun u => u.dev.rg fFAB_BRIDGE_STATUS_DOWN = 1 ∧
        bitOf (u.dev.rg fFAB_BRIDGE_STATUS_PORT_UP) row = false ∧ (u.dev.point 24).queue = [] ∧
        (u.dev.point 25).queue = []))

/-- Each mode of SED_MOVE from its GO to its end, for a device whose router holds no request for the number and that has no
other judgement waiting. -/
def Obligations.MoveEngine : Prop :=
  (∀ (s : State) (n sp p : Nat), Live s → n < 1024 → sp < 2048 → s.dev.rg fSED_MOVE_STATE = 0 → s.dev.phys n = some p →
    let asked (mode : Nat) (e : Dev) := e.rg fSED_MOVE_MODE = mode ∧ e.rg fSED_MOVE_LOGICAL = n ∧
      e.rg fSED_MOVE_SPARE = sp ∧ e = { s.dev with regs := e.regs, sed := e.sed, referee := e.referee }
    let refused (t : State) := t.dev.rg fSED_MOVE_STATE = 0 ∧ t.dev.rg fSED_MOVE_RESULT = 3 ∧
      t.dev.rg fSED_MOVE_CODE = 0x1011 ∧ SawClass 16 t.dev ∧ t.dev.numbering = s.dev.numbering ∧
      t.dev.referee = s.dev.referee
    (moveAllowed s.dev p sp = true → ∀ c, c ∈ [(Instr.move n sp, 0), (Instr.reload n sp, 1), (Instr.clone n sp, 2)] →
      Completes c.1 s (fun t => asked c.2 t.dev ∧ t.dev.referee = s.dev.referee ∧
        t.dev.rg fSED_MOVE_STATE = 1 ∧ t.dev.rg fSED_MOVE_RESULT = 1)) ∧
    (moveAllowed s.dev p sp = false → ∀ c, c ∈ [Instr.move n sp, Instr.reload n sp, Instr.clone n sp] →
      Completes c s refused) ∧
    (s.dev.isReferee sp = true → (s.dev.plot sp).seq = 4 → Completes (.compare n sp) s (fun t => asked 3 t.dev ∧
      t.dev.rg fSED_MOVE_STATE = 2 ∧ t.dev.rg fSED_MOVE_VERDICT = 0 ∧ t.dev.rg fSED_MOVE_RESULT = 1)) ∧
    (s.dev.isReferee sp = false → Completes (.compare n sp) s refused) ∧
    ((s.dev.plot p).seq ≠ 2 → Completes (.retire n sp) s (fun t => asked 4 t.dev ∧
      t.dev.rg fSED_MOVE_STATE = 3 ∧ t.dev.rg fSED_MOVE_RESULT = 1)) ∧
    ((s.dev.plot p).seq = 2 → Completes (.retire n sp) s refused) ∧
    (s.dev.referee ≠ none → Completes (.release n sp) s (fun t => asked 5 t.dev ∧ t.dev.referee = none ∧
      t.dev.rg fSED_MOVE_STATE = 0 ∧ t.dev.rg fSED_MOVE_RESULT = 2)) ∧
    (s.dev.referee = none → Completes (.release n sp) s refused)) ∧
  (∀ (s : State) (n sp : Nat), Live s → s.dev.rg fSED_MOVE_STATE ≠ 0 →
    ∀ c, c ∈ [Instr.move n sp, Instr.reload n sp, Instr.clone n sp, Instr.compare n sp, Instr.retire n sp,
      Instr.release n sp] → Completes c s (fun t => SawClass 16 t.dev ∧ t.dev.numbering = s.dev.numbering ∧
        t.dev.referee = s.dev.referee ∧ t.dev.sed = s.dev.sed ∧
        ∀ f, f ∈ [fSED_MOVE_STATE, fSED_MOVE_MODE, fSED_MOVE_LOGICAL, fSED_MOVE_SPARE, fSED_MOVE_RESULT, fSED_MOVE_CODE] →
          t.dev.rg f = s.dev.rg f)) ∧
  (∀ (s : State) (n sp p : Nat), Live s → s.dev.rg fSED_MOVE_LOGICAL = n → s.dev.rg fSED_MOVE_SPARE = sp →
    s.dev.phys n = some p → sp ≠ p → s.dev.sed.held = [] →
    (s.dev.rg fSED_MOVE_STATE = 1 → Memory.wf s.dev.scr = true →
      (s.dev.rg fSED_MOVE_MODE ≤ 1 → Completes .moveCopyDone s (fun t => t.dev.rg fSED_MOVE_STATE = 3 ∧
        t.dev.numbering = s.dev.numbering ∧
        (∀ o, o < 2 ^ 20 → memGet t.dev.scr (scrBase sp + o) = memGet s.dev.scr (scrBase p + o)) ∧
        (∀ a, a < scrBase sp ∨ scrBase sp + 2 ^ 20 ≤ a → memGet t.dev.scr a = memGet s.dev.scr a))) ∧
      (s.dev.rg fSED_MOVE_MODE = 2 → Completes .moveCopyDone s (fun t => t.dev.rg fSED_MOVE_STATE = 0 ∧
        t.dev.rg fSED_MOVE_RESULT = 2 ∧ t.dev.referee = some (n, sp) ∧ (t.dev.plot sp).seq = 4 ∧ Raised 11 t.dev ∧
        (∀ o, o < 2 ^ 20 → memGet t.dev.scr (scrBase sp + o) = memGet s.dev.scr (scrBase p + o))))) ∧
    (s.dev.rg fSED_MOVE_STATE = 1 → s.dev.rg fSED_MOVE_MODE = 2 ∨ s.dev.sed.moving = none →
      Completes .moveTimeout s (fun t => t.dev.rg fSED_MOVE_STATE = 0 ∧ t.dev.rg fSED_MOVE_RESULT = 3 ∧
        t.dev.rg fSED_MOVE_CODE = 0x1012 ∧ SawClass 16 t.dev ∧ Raised 11 t.dev ∧
        t.dev.numbering = s.dev.numbering)) ∧
    (s.dev.rg fSED_MOVE_STATE = 3 → s.dev.sed.judged = [] → ∀ reload lost,
      (s.dev.rg fSED_MOVE_MODE ≤ 1 → Completes (.spareSwitch reload lost) s (fun t => t.dev.phys n = some sp ∧
        t.dev.rg fSED_MOVE_STATE = 0 ∧ t.dev.rg fSED_MOVE_RESULT = 2 ∧ sp ∉ t.dev.spares ∧
        (s.dev.rg fSED_CNT_MOVES < 65535 → t.dev.rg fSED_CNT_MOVES = s.dev.rg fSED_CNT_MOVES + 1))) ∧
      (s.dev.rg fSED_MOVE_MODE = 4 → Completes (.spareSwitch reload lost) s (fun t => t.dev.phys n = none ∧
        t.dev.rg fSED_MOVE_STATE = 0 ∧ t.dev.rg fSED_MOVE_RESULT = 2 ∧ t.dev.spares = s.dev.spares)))) ∧
  (∀ (s : State) (n sp r p : Nat), Live s → s.dev.rg fSED_MOVE_STATE = 2 → s.dev.referee = some (n, r) →
    s.dev.phys n = some p → s.dev.rg fSED_MOVE_SPARE = sp →
    Completes .compareDone s (fun t => t.dev.rg fSED_MOVE_STATE = 0 ∧ t.dev.rg fSED_MOVE_RESULT = 2 ∧
      t.dev.referee = none ∧ Raised 11 t.dev ∧
      ((∀ e, e ∈ (s.dev.plot p).units → e.2.born = true → unitBytes s.dev p e.1 = unitBytes s.dev sp e.1) →
        t.dev.rg fSED_MOVE_VERDICT = 1) ∧
      ((∃ e, e ∈ (s.dev.plot p).units ∧ e.2.born = true ∧ unitBytes s.dev p e.1 ≠ unitBytes s.dev sp e.1) →
        t.dev.rg fSED_MOVE_VERDICT = 2)))

/-- What Ervoec does about plots that may be at fault. -/
def Obligations.SparesAndArbitration : Prop :=
  (∀ (s : State) (p : Nat), Live s → isPlot p = true →
    (s.dev.logical p = none → Completes (.plotSelftestGo p) s (fun t =>
      (t.dev.plot p).rg fPLOT_SELFTEST_RESULT = 1 ∧ (t.dev.plot p).rg fPLOT_SELFTEST_TEST = 0 ∧
      p ∉ t.dev.sed.qualified)) ∧
    (s.dev.logical p ≠ none → (s.dev.plot p).sleep = 0 → Completes (.plotSelftestGo p) s (fun t =>
      SawClass 16 t.dev ∧ t.dev.plot p = s.dev.plot p ∧ t.dev.sed = s.dev.sed)) ∧
    (∀ test, test < 16 → (s.dev.plot p).rg fPLOT_SELFTEST_RESULT = 1 → Completes (.selftestDone p test) s (fun t =>
      (t.dev.plot p).rg fPLOT_SELFTEST_RESULT = (if test = 0 then 2 else 3) ∧
      (t.dev.plot p).rg fPLOT_SELFTEST_TEST = test ∧ Raised 11 t.dev ∧
      (∀ o, o < 2 ^ 20 → memGet t.dev.scr (scrBase p + o) = 0) ∧
      (test = 0 → p ∈ s.dev.spares → p ∈ t.dev.sed.qualified) ∧
      (test ≠ 0 → t.dev.sed.qualified = s.dev.sed.qualified)))) ∧
  (∀ s : State, Live s → s.dev.rg fSHD_FW_STATE = 2 → Completes .spareSelftestTimer s (fun t =>
    t.dev.sed.qualified = [] ∧ ∀ p, p ∈ s.dev.spares → s.dev.referee = none → s.dev.logical p = none →
      (t.dev.plot p).rg fPLOT_SELFTEST_RESULT = 1)) ∧
  (∀ (s : State) (p n u : Nat) reload lost, Live s → isPlot p = true → s.dev.rg fSHD_FW_STATE = 2 → s.dev.sed.judged = [] →
    s.dev.logical p = some n →
    (s.dev.sed.watches = [] → judgedAlready s.dev p = false → (s.dev.plot p).seq = 4 → stopUnit (s.dev.plot p) = some u →
      Completes (.sedArbitrate p reload lost) s (fun t => (t.dev.plot p).seq = 2 ∧
        (t.dev.plot p).pc = (s.dev.plot p).rg fPLOT_SEQ_REPLAY_CKPT_PC % 8192 ∧
        ∃ w, w ∈ t.dev.sed.watches ∧ w.plot = p ∧ w.unit = u ∧ w.code = (s.dev.plot p).rg fPLOT_SEQ_STOP_CODE)) ∧
    (∀ w, s.dev.sed.watches = [w] → w.plot = p → w.unit = u → w.stage = 0 → (s.dev.plot p).seq = 1 →
      recentTransients s.dev p u = 0 →
      Completes (.sedArbitrate p reload lost) s (fun t => t.dev.sed.watches = [] ∧ SawClass 16 t.dev ∧
        t.dev.sed.history = (p, u, lifeCount s.dev p u) :: s.dev.sed.history ∧
        (s.dev.rg fSED_CNT_TRANSIENTS < 65535 →
          t.dev.rg fSED_CNT_TRANSIENTS = s.dev.rg fSED_CNT_TRANSIENTS + 1)))) ∧
  (∀ (s : State) (round p n : Nat) (l : SowLib), Live s → s.dev.sowRound = some ⟨round, [l], [(p, 0)]⟩ →
    s.dev.logical p = some n →
    (round < 3 → Completes .sowAckTimeout s (fun t => t.dev.sowRound = none ∨
      ∃ r, t.dev.sowRound = some r ∧ r.round = round + 1 ∧ r.libs = [l])) ∧
    (3 ≤ round → judgedAlready s.dev p = false → Completes .sowAckTimeout s (fun t => t.dev.sowRound = none ∧
      (s.dev.rg fSED_CNT_PERMANENTS < 65535 →
        t.dev.rg fSED_CNT_PERMANENTS = s.dev.rg fSED_CNT_PERMANENTS + 1)))) ∧
  (∀ (s : State) (p n k : Nat) (b : List Byte), Live s → isPlot p = true → s.dev.logical p = some n →
    packAt s.dev k = some b →
    (k < 8 → s.dev.rg fSHD_FW_STATE = 2 → s.dev.steps.run = none → plotQuiet (s.dev.plot p) = true →
      (s.dev.plot p).sleep = 0 → s.dev.sed.packs = [] →
      Completes (.testpackRun p k) s (fun t => t.dev.sed.packs = [⟨p, k, false⟩])) ∧
    (s.dev.sed.packs = [⟨p, k, false⟩] → (s.dev.plot p).seq = 2 → recV b 68 2 ≤ 4 →
      recentTransients s.dev p (recV b 68 2) = 0 → Completes (.testpackTimeout p) s (fun t =>
        t.dev.sed.packs = [⟨p, k, true⟩] ∧ (t.dev.plot p).seq = 3 ∧ SawClass 16 t.dev ∧
        (s.dev.rg fSED_CNT_TRANSIENTS < 65535 →
          t.dev.rg fSED_CNT_TRANSIENTS = s.dev.rg fSED_CNT_TRANSIENTS + 1))))

/-- The flits of R338 to R344 on each of the 17 link layers, written and read with the flit layout of R338 and the CRC of
R339. -/
def Obligations.LinkLayer : Prop :=
  ∀ (s : State) (k : Nat), Live s → k ≤ 16 → (s.dev.link k).lost = false →
    (∀ seq a b c e dev port, (s.dev.link k).up = false → (s.dev.link k).waiting = [] → seq < 4096 →
      64 ≤ a → a < 4096 → 64 ≤ b → b < 4096 → 64 ≤ c → c < 4096 → 64 ≤ e → e < 4096 → dev < 2 ^ 16 → port < 16 →
      (k ≠ 0 → s.dev.rg (fSOP_PORT_STATUS_STATE.at (k - 1)) = 2) →
      Completes (.initFlit k (mkFlit 3 seq none [a, b, c, e] (leBytes 2 dev ++ leBytes 1 port)) false) s (fun t =>
        t.dev.link k = { s.dev.link k with sentInit := true, up := true, rxSeq := seq, credits := [a, b, c, e], grant := [a, b, c, e] } ∧
        t.dev.outs = s.dev.outs ++ [.flit k (mkFlit 3 0 none (deviceGrants k)
          (if k = 0 then [] else leBytes 2 (s.dev.rg fSOP_DEV_DEV_ID) ++ leBytes 1 (k - 1)))] ∧
        (k ≠ 0 → t.dev.rg (fSOP_PORT_STATUS_STATE.at (k - 1)) = 3 ∧ t.dev.rg (fSOP_PORT_STATUS_PEER_DEV.at (k - 1)) = dev ∧
          t.dev.rg (fSOP_PORT_STATUS_PEER_PORT.at (k - 1)) = port ∧ t.dev.rg (fSOP_PORT_STATUS_PEER_VALID.at (k - 1)) = 1))) ∧
    ((s.dev.link k).up = true →
      (∀ c0 c1 c2 c3 r0 r1 r2 r3, (s.dev.link k).rxSeq < 4096 → (s.dev.link k).waiting = [] → (s.dev.link k).partialMsg = [] →
        (s.dev.link k).credits = [c0, c1, c2, c3] → (s.dev.link k).grant.length = 4 → (s.dev.link k).unacked < 255 →
        r0 < 4096 → r1 < 4096 → r2 < 4096 → r3 < 4096 →
        c0 + r0 ≤ (s.dev.link k).grant.getD 0 0 → c1 + r1 ≤ (s.dev.link k).grant.getD 1 0 →
        c2 + r2 ≤ (s.dev.link k).grant.getD 2 0 → c3 + r3 ≤ (s.dev.link k).grant.getD 3 0 →
        Completes (.protocolFlit k (mkFlit 1 (s.dev.link k).rxSeq none [r0, r1, r2, r3] []) false) s (fun t =>
          t.dev.link k = { s.dev.link k with
            rxSeq := ((s.dev.link k).rxSeq + 1) % 4096, discarding := false, retries := 0, accepted := true,
            unacked := (s.dev.link k).unacked + 1, credits := [c0 + r0, c1 + r1, c2 + r2, c3 + r3] } ∧
          t.dev.outs = s.dev.outs)) ∧
      (∀ flit : List Byte, (s.dev.link k).discarding = false → (s.dev.link k).retries + 1 < retryLimit s.dev k →
        (flit.length ≠ 256 ∨ leValue (flit.drop 252) ≠ crc32 (flit.take 252) ∨
          ∃ seq units, flit = mkFlit 1 seq none [0, 0, 0, 0] units ∧ seq < 4096 ∧ units.length ≤ 240 ∧ seq ≠ (s.dev.link k).rxSeq) →
        Completes (.protocolFlit k flit false) s (fun t =>
          t.dev.link k = { s.dev.link k with
            discarding := true, retries := (s.dev.link k).retries + 1, unacked := 0 } ∧
          t.dev.outs = s.dev.outs ++ [.flit k (mkFlit 2 (s.dev.link k).rxSeq (s.dev.link k).ack [0, 0, 0, 0] [])])) ∧
      ((s.dev.link k).discarding = true → (s.dev.link k).retries + 1 < retryLimit s.dev k →
        Completes (.retryReqResend k) s (fun t =>
          t.dev.link k = { s.dev.link k with retries := (s.dev.link k).retries + 1, unacked := 0 } ∧
          t.dev.outs = s.dev.outs ++ [.flit k (mkFlit 2 (s.dev.link k).rxSeq (s.dev.link k).ack [0, 0, 0, 0] [])])) ∧
      (∀ pre x post, (s.dev.link k).kept = pre ++ x :: post → (∀ y ∈ pre, y.seq ≠ x.seq) → x.seq < 4096 →
        Completes (.retryReqFlit k (mkFlit 2 x.seq none [0, 0, 0, 0] []) false) s (fun t =>
          t.dev.link k = s.dev.link k ∧ t.dev.outs = s.dev.outs ++ (x :: post).map (fun y => Out.flit k y.flit)) ∧
        ((s.dev.link k).waiting = [] →
          Completes (.nullFlit k (mkFlit 0 0 (some x.seq) [0, 0, 0, 0] []) false) s (fun t =>
            t.dev.link k = { s.dev.link k with kept := post } ∧ t.dev.outs = s.dev.outs))) ∧
      ((s.dev.link k).held = false → (s.dev.link k).unacked ≠ 0 → (∀ n ∈ (s.dev.link k).owed, n = 0) →
        Completes (.ackDue k) s (fun t => t.dev.link k = { s.dev.link k with unacked := 0 } ∧
          t.dev.outs = s.dev.outs ++ [.flit k (mkFlit 0 0 (s.dev.link k).ack [0, 0, 0, 0] [])])) ∧
      ((s.dev.link k).held = false → (s.dev.link k).kept.length < 1024 → (∃ n ∈ (s.dev.link k).owed, n ≠ 0) →
        Completes (.ackDue k) s (fun t => t.dev.outs = s.dev.outs ++ [carried s.dev k []] ∧
          (t.dev.link k).txSeq = ((s.dev.link k).txSeq + 1) % 4096 ∧ (t.dev.link k).unacked = 0 ∧
          (t.dev.link k).kept.length = (s.dev.link k).kept.length + 1)))

/-- The state table of R350 for one access, within one line, of a plot to companion memory. -/
def Obligations.LinkCache : Prop :=
  ∀ (s : State) (r : FabReq) (p line off n : Nat), Live s → r.master = .plot p → r.addr = hostBase + line * 64 + off → 0 < n →
    off + n ≤ 64 → line < 2 ^ 41 → s.dev.cpl.idxDirty = false → s.dev.cpl.ackWait = none → s.dev.cpl.expired = [] →
    s.dev.cpl.nextTag < 4096 → Ready s.dev 0 0 1 → Ready s.dev 0 2 1 → Ready s.dev 0 3 5 →
    let tag := s.dev.cpl.nextTag
    let asked (c : Companion) (op : Nat) (data : Option (List Byte)) : Companion :=
      { c with
        reqs := [⟨c.nextReq, .fab r, r.addr, n, data, false, [line], []⟩], coh := [⟨tag, op, line, [], 0⟩],
        nextTag := (tag + 1) % 4096, nextReq := c.nextReq + 1 }
    let owed (t : State) (cls k : Nat) : Prop :=
      (t.dev.link 0).owed = (s.dev.link 0).owed.set cls ((s.dev.link 0).owed.getD cls 0 + k)
    (s.dev.cpl.reqs = [] → s.dev.cpl.coh = [] →
      (r.op = .read n →
        (∀ x, cacheLine s.dev line = some x → x.data.length = 64 → Gives (.linkCacheRead r false) s
          ({ s.dev with cpl := { s.dev.cpl with nextReq := s.dev.cpl.nextReq + 1 } }.says
            (.fabReply r 0 ((x.data.drop off).take n)))) ∧
        (cacheLine s.dev line = none → Completes (.linkCacheRead r false) s (fun t =>
          t.dev.cpl = asked s.dev.cpl 1 none ∧
          t.dev.outs = s.dev.outs ++ [carried s.dev 0 (cplHeader 0x01 1 tag 0 0 (line * 64))]))) ∧
      (∀ b, r.op = .write b → b.length = n →
        (∀ x, cacheLine s.dev line = some x → x.st ≠ .shared → Completes (.linkCacheWrite r false) s (fun t =>
          cacheLine t.dev line = some ⟨.modified, splice x.data off b⟩ ∧ t.dev.outs = s.dev.outs ++ [.fabReply r 0 []] ∧
          t.dev.cpl.reqs = [] ∧ t.dev.cpl.coh = [] ∧ t.dev.regs = s.dev.regs)) ∧
        (∀ x, cacheLine s.dev line = some x → x.st = .shared → Completes (.linkCacheWrite r false) s (fun t =>
          t.dev.cpl = asked s.dev.cpl 3 (some b) ∧
          t.dev.outs = s.dev.outs ++ [carried s.dev 0 (cplHeader 0x03 1 tag 0 0 (line * 64))])) ∧
        (cacheLine s.dev line = none → Completes (.linkCacheWrite r false) s (fun t =>
          let op := if n = 64 then 4 else 2
          t.dev.cpl = asked s.dev.cpl op (some b) ∧
          t.dev.outs = s.dev.outs ++ [carried s.dev 0 (cplHeader op 1 tag 0 0 (line * 64))]))) ∧
      (∀ x, cacheLine s.dev line = some x →
        (x.st ≠ .modified → Completes (.linkCacheEviction (line * 64)) s (fun t => cacheLine t.dev line = none ∧
          t.dev.cpl.coh = [] ∧ t.dev.outs = s.dev.outs ++ [carried s.dev 0 (cplHeader 0x06 1 tag 0 0 (line * 64))])) ∧
        (x.st = .modified → x.data.length = 64 → Completes (.linkCacheEviction (line * 64)) s (fun t =>
          cacheLine t.dev line = none ∧ t.dev.cpl.coh = [⟨tag, 7, line, x.data, 0⟩] ∧
          t.dev.outs = s.dev.outs ++ [carried s.dev 0 (cplHeader 0x07 5 tag 0 0 (line * 64) ++ x.data)])) ∧
        (∀ g, x.st ≠ .modified → Completes (.snpShared g (line * 64)) s (fun t => cacheLine t.dev line = some ⟨.shared, x.data⟩ ∧
          t.dev.outs = s.dev.outs ++ [carried s.dev 0 (cplHeader 0x11 1 g 0 0 (line * 64))])) ∧
        (∀ g, x.st ≠ .modified → Completes (.snpInv g (line * 64)) s (fun t => cacheLine t.dev line = none ∧
          t.dev.outs = s.dev.outs ++ [carried s.dev 0 (cplHeader 0x10 1 g 0 0 (line * 64))])) ∧
        (∀ g, x.st = .modified → x.data.length = 64 →
          Completes (.snpShared g (line * 64)) s (fun t => cacheLine t.dev line = some ⟨.shared, x.data⟩ ∧
            t.dev.outs = s.dev.outs ++ [carried s.dev 0 (cplHeader 0x12 5 g 0 1 (line * 64) ++ x.data)]) ∧
          Completes (.snpInv g (line * 64)) s (fun t => cacheLine t.dev line = none ∧
            t.dev.outs = s.dev.outs ++ [carried s.dev 0 (cplHeader 0x12 5 g 0 0 (line * 64) ++ x.data)])))) ∧
    (∀ (g op : Nat) (x : HostReq) (data : List Byte), s.dev.cpl.coh = [⟨g, op, line, [], 0⟩] → s.dev.cpl.reqs = [x] →
      x = ⟨x.id, .fab r, r.addr, n, x.data, false, [line], []⟩ → data.length = 64 →
      (op = 1 → x.data = none → r.op = .read n →
        Completes (.dataS g data) s (fun t => cacheLine t.dev line = some ⟨.shared, data⟩ ∧ t.dev.cpl.reqs = [] ∧
          t.dev.cpl.coh = [] ∧ t.dev.outs = s.dev.outs ++ [.fabReply r 0 ((data.drop off).take n)] ∧ owed t 3 5) ∧
        (cacheLine s.dev line = none → Completes (.cohErr g) s (fun t => cacheLine t.dev line = none ∧ t.dev.cpl.reqs = [] ∧
          t.dev.cpl.coh = [] ∧ t.dev.outs = s.dev.outs ++ [.fabReply r 0x0713 (zeros n)] ∧
          bitOf (t.dev.rg fCPL_ERR_CODE_SEEN) 18 = true) ∧
        Completes (.cohTimeout g) s (fun t => cacheLine t.dev line = none ∧ t.dev.cpl.reqs = [] ∧ t.dev.cpl.coh = [] ∧
          t.dev.cpl.expired = [g] ∧ t.dev.outs = s.dev.outs ++ [.fabReply r 0x0708 (zeros n)] ∧
          bitOf (t.dev.rg fCPL_ERR_CODE_SEEN) 7 = true))) ∧
      (∀ b, op = 2 → x.data = some b → b.length = n →
        Completes (.dataE g data) s (fun t => cacheLine t.dev line = some ⟨.modified, splice data off b⟩ ∧
          t.dev.cpl.reqs = [] ∧ t.dev.outs = s.dev.outs ++ [.fabReply r 0 []] ∧ owed t 3 5)) ∧
      (∀ b old, op = 3 → x.data = some b → b.length = n → cacheLine s.dev line = some old → old.data.length = 64 →
        Completes (.goE g) s (fun t => cacheLine t.dev line = some ⟨.modified, splice old.data off b⟩ ∧
          t.dev.cpl.reqs = [] ∧ t.dev.outs = s.dev.outs ++ [.fabReply r 0 []] ∧ owed t 2 1))) ∧
    (∀ (g : Nat) (x : HostReq) (data : List Byte) (run row : Nat), s.dev.cpl.coh = [⟨g, 5, line, [], 0⟩] →
      s.dev.cpl.reqs = [x] → x = ⟨x.id, .dma p run row, r.addr, n, none, true, [line], []⟩ → data.length = 64 →
      Completes (.dataCur g data) s (fun t => t.dev.cpl.cache = s.dev.cpl.cache ∧ t.dev.cpl.coh = [] ∧
        t.dev.cpl.reqs = [{ x with left := [], got := [(line, data)] }] ∧ t.dev.outs = s.dev.outs ∧ owed t 3 5)) ∧
    (∀ (g : Nat) (data : List Byte), s.dev.cpl.coh = [⟨g, 7, line, data, 0⟩] → s.dev.cpl.reqs = [] →
      Gives (.goWb g) s (linkFree { s.dev with cpl := { s.dev.cpl with coh := [] } } 0 2 1))

/-- FABRIC_REQUEST, NC_RD, NC_WR, REG_WRITE and AON_RESET. Byte `i` of plot `p`'s scratch is byte `scrBase p + i` of the
model's scratch memory. -/
def Obligations.FabricTargets : Prop :=
  ∀ s : State, Live s → Calm s.dev →
    (∀ (r : FabReq) (p q n off : Nat), r.master = .plot q → plotHalf q = plotHalf p → r.late = false → s.dev.phys n = some p →
      n < 1024 → off < 2 ^ 20 → r.addr = scrWindow n + off → (s.dev.plot p).sleep = 0 → Sound (s.dev.plot p) → reqFits r = true →
      (∀ k, r.op = .read k → 0 < k → (∀ u ∈ linesOf off k, unitState (s.dev.plot p) u = 0) →
        Gives (.fabricRequest r) s (s.dev.says (.fabReply r 0 (memRead s.dev.scr (scrBase p + off) k)))) ∧
      (∀ b, r.op = .write b → b ≠ [] → Completes (.fabricRequest r) s (fun t =>
        memRead t.dev.scr (scrBase p + off) b.length = b ∧
        (∀ a, a < scrBase p + off ∨ scrBase p + off + b.length ≤ a → memGet t.dev.scr a = memGet s.dev.scr a) ∧
        t.dev.outs = s.dev.outs ++ [.fabReply r 0 []] ∧ (∀ x, t.dev.plot x = s.dev.plot x) ∧ t.dev.regs = s.dev.regs ∧
        t.dev.bed = s.dev.bed ∧ t.dev.gddr = s.dev.gddr))) ∧
    (∀ (r : FabReq) (q k : Nat), r.master = .plot q → r.op = .read k → 0 < k → reqFits r = true →
      (decodeAddr r.addr = .unmapped → Completes (.fabricRequest r) s (fun t =>
        t.dev.outs = s.dev.outs ++ [.fabReply r 0x0A01 (zeros k)] ∧ SawClass 10 t.dev ∧ t.dev.scr = s.dev.scr ∧
        t.dev.bed = s.dev.bed ∧ t.dev.gddr = s.dev.gddr ∧ t.dev.plots = s.dev.plots)) ∧
      (∀ n off, decodeAddr r.addr = .scratch n off → s.dev.phys n = none → Completes (.fabricRequest r) s (fun t =>
        t.dev.outs = s.dev.outs ++ [.fabReply r 0x0A02 (zeros k)] ∧ SawClass 10 t.dev ∧ t.dev.scr = s.dev.scr ∧
        t.dev.bed = s.dev.bed ∧ t.dev.gddr = s.dev.gddr ∧ t.dev.plots = s.dev.plots))) ∧
    (∀ p n off, s.dev.cpl.ncOut = 0 → s.dev.phys n = some p → p < 1024 → n < 1024 → off < 2 ^ 20 → (s.dev.plot p).sleep = 0 →
      Sound (s.dev.plot p) →
      (∀ tag k now rep, 0 < k → off % 256 + k ≤ 256 → k ≤ 224 → (∀ u ∈ linesOf off k, unitState (s.dev.plot p) u = 0) →
        Ready s.dev 0 3 (1 + (k + 15) / 16) → Completes (.ncRd tag (scrWindow n + off) k now rep) s (fun t =>
          t.dev.outs = s.dev.outs ++ [carried (linkFree s.dev 0 0 1) 0 (cplHeader 0x20 (1 + (k + 15) / 16) tag k 0 0 ++
            padTo (16 * ((k + 15) / 16)) (memRead s.dev.scr (scrBase p + off) k))] ∧ t.dev.scr = s.dev.scr)) ∧
      (∀ (b : List Byte) now rep, b ≠ [] → off % 256 + b.length ≤ 256 → Completes (.ncWr (scrWindow n + off) b now rep) s (fun t =>
        memRead t.dev.scr (scrBase p + off) b.length = b ∧
        (∀ a, a < scrBase p + off ∨ scrBase p + off + b.length ≤ a → memGet t.dev.scr a = memGet s.dev.scr a) ∧
        t.dev.outs = s.dev.outs ∧ t.dev.cpl = s.dev.cpl ∧ t.dev.regs = s.dev.regs))) ∧
    (∀ tag a k now rep, s.dev.cpl.ncOut = 0 → hostBase ≤ a → Ready s.dev 0 2 1 → Completes (.ncRd tag a k now rep) s (fun t =>
      t.dev.outs = s.dev.outs ++ [carried (linkFree s.dev 0 0 1) 0 (cplHeader 0x21 1 tag 0 0 0x0703)] ∧
      bitOf (t.dev.rg fCPL_ERR_CODE_SEEN) 2 = true)) ∧
    (∀ gap mbx evt out, gap < 2 ^ 16 → mbx < 2 ^ 16 → evt < 2 ^ 16 → out < 2 ^ 16 →
      Completes (.regWrite 0x600068 8 (gap * 2 ^ 48 + mbx * 2 ^ 32 + evt * 2 ^ 16 + out)) s (fun t =>
        OnlyRegs [fCPL_NOTIFY_GAP, fCPL_NOTIFY_MBX_VEC, fCPL_NOTIFY_EVT_VEC, fCPL_NOTIFY_OUT_VEC] s.dev t.dev ∧
        t.dev.rg fCPL_NOTIFY_GAP = gap ∧ t.dev.rg fCPL_NOTIFY_MBX_VEC = mbx ∧ t.dev.rg fCPL_NOTIFY_EVT_VEC = evt ∧
        t.dev.rg fCPL_NOTIFY_OUT_VEC = out)) ∧
    (∀ v size, size ≠ 8 → Completes (.regWrite 0x600068 size v) s (fun t => SawClass 10 t.dev ∧
      ∀ f ∈ [fCPL_NOTIFY_GAP, fCPL_NOTIFY_MBX_VEC, fCPL_NOTIFY_EVT_VEC, fCPL_NOTIFY_OUT_VEC], t.dev.rg f = s.dev.rg f)) ∧
    Completes (.aonReset 1) s (fun t => t.dev.rst.held = true ∧ t.dev.rg fAON_RESET_CAUSE_COMPANION = 1 ∧ t.dev.plots = [] ∧
      t.dev.gddr = [] ∧ t.dev.scr = [] ∧ t.dev.bed = [] ∧ t.dev.steps = Steps.reset ∧ t.dev.cpl = Companion.reset ∧
      t.dev.links = [] ∧ t.fused = s.fused)

/-- The registers of R373 and R400 that have a rule of their own. -/
def Obligations.LinkRegisters : Prop :=
  ∀ s : State, Live s →
    (∀ r en lg base, r < 3 → en < 2 → lg ≤ 20 → base % 64 = 0 → hostBase ≤ base → base + 2 ^ lg * ringSize r ≤ 2 ^ 48 →
      s.dev.rg fCPL_IDX_ADDR_ADDR ≠ 0 → s.dev.rg (fCPL_RING_CFG_ENABLE.at r) = 0 →
      Completes (.ringEnable r (en * 2 ^ 63 + lg * 2 ^ 58 + base)) s (fun t =>
        OnlyRegs [fCPL_RING_CFG_ENABLE.at r, fCPL_RING_CFG_LOG2.at r, fCPL_RING_CFG_BASE.at r, fCPL_RING_IDX_PRODUCER.at r,
          fCPL_RING_IDX_CONSUMER.at r] s.dev t.dev ∧
        t.dev.rg (fCPL_RING_CFG_ENABLE.at r) = en ∧ t.dev.rg (fCPL_RING_CFG_LOG2.at r) = lg ∧
        t.dev.rg (fCPL_RING_CFG_BASE.at r) = base ∧
        (en = 1 → t.dev.rg (fCPL_RING_IDX_PRODUCER.at r) = 0 ∧ t.dev.rg (fCPL_RING_IDX_CONSUMER.at r) = 0))) ∧
    (∀ new, new < 2 ^ 32 → s.dev.rg (fCPL_RING_CFG_ENABLE.at 1) = 1 →
      let p := s.dev.rg (fCPL_RING_IDX_PRODUCER.at 1)
      let c := s.dev.rg (fCPL_RING_IDX_CONSUMER.at 1)
      ((new + 2 ^ 32 - c) % 2 ^ 32 ≤ (p + 2 ^ 32 - c) % 2 ^ 32 → Completes (.ringDoorbell 1 new) s (fun t =>
        OnlyRegs [fCPL_RING_IDX_CONSUMER.at 1, fICU_PEND_PEND.at 0] s.dev t.dev ∧
        t.dev.rg (fCPL_RING_IDX_CONSUMER.at 1) = new ∧ Raised 19 t.dev)) ∧
      ((p + 2 ^ 32 - c) % 2 ^ 32 < (new + 2 ^ 32 - c) % 2 ^ 32 → Completes (.ringDoorbell 1 new) s (fun t =>
        t.dev.rg (fCPL_RING_IDX_CONSUMER.at 1) = c ∧ bitOf (t.dev.rg fCPL_ERR_CODE_SEEN) 10 = true))) ∧
    (s.dev.rg (fCPL_RING_CFG_ENABLE.at 0) = 1 → s.dev.cpl.reqs = [] → s.dev.rg (fCPL_RING_IDX_PRODUCER.at 0) < 2 ^ 32 →
      s.dev.rg (fCPL_RING_IDX_CONSUMER.at 0) < 2 ^ 32 →
      let p := s.dev.rg (fCPL_RING_IDX_PRODUCER.at 0)
      let c := s.dev.rg (fCPL_RING_IDX_CONSUMER.at 0)
      (p + 1 + 2 ^ 32 - c) % 2 ^ 32 ≤ 2 ^ s.dev.rg (fCPL_RING_CFG_LOG2.at 0) → 
      Completes (.ringDoorbell 0 ((p + 1) % 2 ^ 32)) s (fun t =>
        t.dev.rg (fCPL_RING_IDX_PRODUCER.at 0) = (p + 1) % 2 ^ 32 ∧ Raised 18 t.dev ∧
        t.dev.cpl.reqs.map (·.user) = [.job p])) ∧
    (∀ a, (∀ r, r < 3 → s.dev.rg (fCPL_RING_CFG_ENABLE.at r) = 0) → a % 64 = 0 → hostBase ≤ a → a < 2 ^ 48 →
      Gives (.cplIdxAddrWrite a) s (s.dev.rs fCPL_IDX_ADDR_ADDR a)) ∧
    (∀ t l, 0 < t → t < 2 ^ 16 → 0 < l → l < 16 →
      Gives (.cplCfgWrite false (t * 2 ^ 24 + l * 2 ^ 20)) s ((s.dev.rs fCPL_CFG_COH_TIMEOUT t).rs fCPL_CFG_RETRY_LIMIT l)) ∧
    (∀ h m p, h < 2 ^ 16 → 0 < m → m < 16 → 0 < p → p ≤ 1000 →
      Gives (.cplCfgWrite true (h * 2 ^ 32 + m * 2 ^ 16 + p)) s
        (((s.dev.rs fCPL_HB_CFG_HOLD h).rs fCPL_HB_CFG_MISSES m).rs fCPL_HB_CFG_PERIOD p)) ∧
    (∀ h m, h < 2 ^ 16 → m < 16 → Completes (.cplCfgWrite true (h * 2 ^ 32 + m * 2 ^ 16)) s (fun t =>
      (∀ f ∈ [fCPL_HB_CFG_HOLD, fCPL_HB_CFG_MISSES, fCPL_HB_CFG_PERIOD], t.dev.rg f = s.dev.rg f) ∧
      bitOf (t.dev.rg fCPL_ERR_CODE_SEEN) 14 = true)) ∧
    (∀ g, g < 2 ^ 32 →
      (g = s.dev.rg fCPL_STATUS_ATTACH_GEN → Gives (.cplHeartbeatWrite g) s
        { s.dev.rs fCPL_HEARTBEAT_GEN g with cpl := { s.dev.cpl with missed := 0 } }) ∧
      (g ≠ s.dev.rg fCPL_STATUS_ATTACH_GEN → Completes (.cplHeartbeatWrite g) s (fun t => t.dev.cpl = s.dev.cpl ∧
        t.dev.rg fCPL_HEARTBEAT_GEN = g ∧
        t.dev.rg fCPL_LINK_CNT_STALE_HB = min 65535 (s.dev.rg fCPL_LINK_CNT_STALE_HB + 1) ∧
        bitOf (t.dev.rg fCPL_ERR_CODE_SEEN) 17 = true))) ∧
    (∀ ir h dev, ir < 2 → 0 < h → h < 64 → dev < 2 ^ 16 → Completes (.sopDevWrite (ir * 2 ^ 23 + h * 2 ^ 16 + dev)) s (fun t =>
      OnlyRegs [fSOP_DEV_INBOUND_REG, fSOP_DEV_HOP_LIMIT, fSOP_DEV_DEV_ID] s.dev t.dev ∧ t.dev.rg fSOP_DEV_INBOUND_REG = ir ∧
      t.dev.rg fSOP_DEV_HOP_LIMIT = h ∧
      t.dev.rg fSOP_DEV_DEV_ID = if 5 ≤ s.dev.rg fBRW_STATUS_STEP then s.dev.rg fSOP_DEV_DEV_ID else dev)) ∧
    (∀ q l, q < 16 → 0 < l → l < 16 → Gives (.sopPortCfgWrite q l) s (s.dev.rs (fSOP_PORT_CFG_RETRY_LIMIT.at q) l)) ∧
    (∀ q, q < 16 → Completes (.sopPortCfgWrite q 0) s (fun t => SawClass 8 t.dev ∧
      t.dev.rg (fSOP_PORT_CFG_RETRY_LIMIT.at q) = s.dev.rg (fSOP_PORT_CFG_RETRY_LIMIT.at q))) ∧
    (∀ v, v < 2 ^ 20 → let ix := s.dev.rg fSOP_ROUTE_ADDR_INDEX
      let table := s.dev.rg fSOP_ROUTE_ADDR_TABLE
      ((table = 1 → ix < 64) → (∀ i, i < 4 → bitOf v (16 + i) = true → bitsOf v (4 * i) 4 < licencePorts s.dev) →
        Gives (.sopRouteDataWrite v) s
          { s.dev with routes := SMap.set 0 s.dev.routes (if table = 1 then 1024 + ix else ix) v }) ∧
      ((table = 1 ∧ 64 ≤ ix) ∨ (∃ i, i < 4 ∧ bitOf v (16 + i) = true ∧ licencePorts s.dev ≤ bitsOf v (4 * i) 4) →
        Completes (.sopRouteDataWrite v) s (fun t => t.dev.routes = s.dev.routes ∧ SawClass 8 t.dev)))

/-- The mailbox and presence commands where each has its effect. Ervoec runs (SHD_FW.STATE 2). -/
def Obligations.CompanionPresence : Prop :=
  ∀ s : State, Live s →
    (∀ minor ty flags seq status (body : List Byte), minor < 256 → ty ∈ mailTypes → flags < 4 → seq < 2 ^ 32 → status < 2 ^ 16 →
      body.length ≤ 4080 → s.dev.rg fCPL_MBX_STATUS_IN_READY = 1 → s.dev.rg fCPL_MBX_STATUS_IN_BUSY = 0 →
      (ty = 1 ∨ s.dev.rg fCPL_STATUS_HELLO_DONE = 1) →
      let m : Mail := ⟨1, minor, ty, flags, seq, status, body⟩
      memRead s.dev.cpl.mboxIn 0 (16 + body.length) = m.bytes →
      Completes .cplMbxInDb s (fun t => t.dev.cpl = { s.dev.cpl with mail := some m } ∧ Raised 16 t.dev ∧
        t.dev.rg fCPL_MBX_STATUS_IN_BUSY = 1 ∧
        OnlyRegs [fCPL_MBX_STATUS_IN_BUSY, fICU_PEND_PEND.at 0] { s.dev with cpl := t.dev.cpl } t.dev)) ∧
    (∀ m : Mail, m.body.length ≤ 4080 →
      (MailIn s.dev 4 m → Completes .echo s (RepliedWith m 0 m.body ∘ State.dev)) ∧
      (MailIn s.dev 1 m → m.major = 1 → s.dev.rg fBRW_STATUS_STEP ≠ 11 → Completes .hello s (fun t =>
        t.dev.rg fCPL_STATUS_HELLO_DONE = 1 ∧ RepliedWith m 0 (leBytes 2 (s.dev.rg fBRW_PLOTS_IN_SERVICE) ++
          leBytes 1 (licencePorts s.dev) ++ leBytes 1 16 ++ leBytes 4 (s.dev.rg fCPL_STATUS_ATTACH_GEN)) t.dev)) ∧
      (MailIn s.dev 1 m → m.major ≠ 1 → s.dev.rg fBRW_STATUS_STEP ≠ 11 →
        Completes .hello s (RepliedWith m 0x0701 [] ∘ State.dev)) ∧
      (MailIn s.dev 3 m → Completes .detach s (fun t => t.dev.rg fCPL_STATUS_ORPHAN = 1 ∧ RepliedWith m 0 [] t.dev)) ∧
      (∀ g keep left, MailIn s.dev 2 m → g < 2 ^ 32 → keep < 2 → m.body = leBytes 4 g ++ leBytes 4 keep →
        (g ≠ 0 → g ≠ s.dev.rg fCPL_STATUS_ATTACH_GEN → Completes (.attach left) s (fun t =>
          t.dev.rg fCPL_STATUS_ATTACH_GEN = g ∧ t.dev.rg fCPL_STATUS_ORPHAN = 0 ∧ t.dev.cpl.missed = 0 ∧
          t.dev.steps.orphanWait = false ∧ (∀ i, i < 16 → (t.dev.slot i).hold = none) ∧
          (∀ r, r < 3 → t.dev.rg (fCPL_RING_CFG_ENABLE.at r) =
            if keep = 1 then s.dev.rg (fCPL_RING_CFG_ENABLE.at r) else 0) ∧
          ∃ rest : List Byte, rest.length = 523 ∧
            RepliedWith m 0 (leBytes 4 g ++ leBytes 1 (s.dev.rg fCPL_STATUS_ORPHAN) ++ rest) t.dev)) ∧
        (g = 0 ∨ g = s.dev.rg fCPL_STATUS_ATTACH_GEN → Completes (.attach left) s (RepliedWith m 0x0706 [] ∘ State.dev)))) ∧
    (∀ seq, seq < 2 ^ 32 → s.dev.rg fCPL_MBX_STATUS_OUT_FULL = 1 → s.dev.rg fCPL_MBX_STATUS_OUT_SEQ = seq →
      (s.dev.cpl.mailq = [] → Completes (.cplMbxOutAck seq) s (fun t => t.dev.rg fCPL_MBX_STATUS_OUT_FULL = 0 ∧ Raised 17 t.dev ∧
        OnlyRegs [fCPL_MBX_STATUS_OUT_FULL, fICU_PEND_PEND.at 0] s.dev t.dev)) ∧
      (∀ m q, s.dev.cpl.mailq = m :: q → Completes (.cplMbxOutAck seq) s (fun t =>
        t.dev.rg fCPL_MBX_STATUS_OUT_FULL = 1 ∧ t.dev.cpl.mailq = q ∧ t.dev.rg fCPL_MBX_STATUS_OUT_SEQ = m.seq % 2 ^ 32 ∧
        memRead t.dev.cpl.mboxOut 0 (16 + m.body.length) = m.bytes))) ∧
    (∀ vec, vec < 0xFFFF → s.dev.cpl.gaps = [vec] →
      (s.dev.cpl.held = [] → Gives (.notifyGapEnd vec) s { s.dev with cpl := { s.dev.cpl with gaps := [] } }) ∧
      (s.dev.cpl.held = [vec] → s.dev.rg fCPL_NOTIFY_GAP ≠ 0 → Ready s.dev 0 2 1 → Completes (.notifyGapEnd vec) s (fun t =>
        t.dev.cpl = { s.dev.cpl with held := [] } ∧
        t.dev.outs = s.dev.outs ++ [carried s.dev 0 (cplHeader 0x30 1 0 0 0 vec)]))) ∧
    (s.dev.cpl.hbOn = true →
      (s.dev.cpl.missed + 1 < s.dev.rg fCPL_HB_CFG_MISSES → Completes .heartbeatMiss s (fun t =>
        t.dev.cpl = { s.dev.cpl with missed := s.dev.cpl.missed + 1 } ∧ Raised 20 t.dev ∧
        OnlyRegs [fICU_PEND_PEND.at 0] { s.dev with cpl := t.dev.cpl } t.dev)) ∧
      (s.dev.rg fCPL_HB_CFG_MISSES ≤ s.dev.cpl.missed + 1 → Completes .heartbeatMiss s (fun t =>
        t.dev.rg fCPL_STATUS_ORPHAN = 1)))

/-- Messages for this device at a port that is UP, with a route back to the sender. -/
def Obligations.ScaleOutRequests : Prop :=
  ∀ (s : State) (port src hops tag q now hold source : Nat) (rep : List Nat), Live s → Calm s.dev → port < 16 →
    s.dev.rg (fSOP_PORT_STATUS_STATE.at port) = 3 → src < 2 ^ 16 → hops < 64 → tag < 2 ^ 14 → source < 2 ^ 10 →
    s.dev.rg fSOP_DEV_DEV_ID < 2 ^ 16 → (∀ o, 9 ≤ o → o < 18 → octetRole s.dev o ≠ 2 ∨ octetPort s.dev o ≠ port) →
    sopRoute s.dev tag src = some q →
    let me := s.dev.rg fSOP_DEV_DEV_ID
    let back (cls units : Nat) (m : List Byte) : Out := carried (linkFree s.dev (1 + port) cls units) (1 + q) m
    (∀ p n off, s.dev.phys n = some p → p < 1024 → n < 1024 → off < 2 ^ 20 → (s.dev.plot p).sleep = 0 → Sound (s.dev.plot p) →
      (∀ b : List Byte, b ≠ [] → off % 256 + b.length ≤ 256 → Ready s.dev (1 + q) 1 1 →
        let u := 2 + (b.length + 15) / 16
        Completes (.wr port (sopRequest 1 u me src hops 0 tag b.length (scrWindow n + off) source ++
          padTo (16 * ((b.length + 15) / 16)) b) rep now hold) s (fun t =>
            memRead t.dev.scr (scrBase p + off) b.length = b ∧
            (∀ a, a < scrBase p + off ∨ scrBase p + off + b.length ≤ a → memGet t.dev.scr a = memGet s.dev.scr a) ∧
            t.dev.outs = s.dev.outs ++ [back 0 u (sopHeader 0x10 1 src me (s.dev.rg fSOP_DEV_HOP_LIMIT) 0 tag 0 0 0)])) ∧
      (∀ k, 0 < k → k ≤ 224 → off % 256 + k ≤ 256 → (∀ u ∈ linesOf off k, unitState (s.dev.plot p) u = 0) →
        Ready s.dev (1 + q) 1 (1 + (k + 15) / 16) →
        Completes (.rd port (sopRequest 2 2 me src hops 0 tag k (scrWindow n + off) source) rep now hold) s (fun t =>
          t.dev.scr = s.dev.scr ∧ t.dev.outs = s.dev.outs ++ [back 0 2
            (sopHeader 0x11 (1 + (k + 15) / 16) src me (s.dev.rg fSOP_DEV_HOP_LIMIT) 0 tag 0 k 0 ++
              padTo (16 * ((k + 15) / 16)) (memRead s.dev.scr (scrBase p + off) k))])) ∧
      (∀ ctr add, ctr < 256 → add < 2 ^ 16 → Ready s.dev (1 + q) 1 1 →
        Completes (.sig port (sopHeader 0x20 1 me src hops ctr tag n 0 add)) s (fun t =>
          t.dev.syncGet p ctr = (s.dev.syncGet p ctr + add) % 2 ^ 32 ∧ t.dev.plots = s.dev.plots ∧
          t.dev.outs = s.dev.outs ++ [back 2 1 (sopHeader 0x13 1 src me (s.dev.rg fSOP_DEV_HOP_LIMIT) 0 tag 0 0 0)]))) ∧
    (∀ op addr (b : List Byte), op < 6 → b ≠ [] → addr % 256 + b.length ≤ 256 → addr < 0x1800000000 → (gddrMap addr).1 < 12 →
      s.dev.rg (fGDC_STATUS_STATE.at (gddrMap addr).1) = 2 →
      let u := 2 + (b.length + 15) / 16
      let g := (gddrMap addr).1
      let r : FabReq := ⟨.scaleout port src tag, 4, .reduce op b, addr, none, false, now, rep⟩
      Gives (.red port (sopRequest 3 u me src hops op tag b.length addr source ++ padTo (16 * ((b.length + 15) / 16)) b)
        rep now hold) s ((linkFree s.dev (1 + port) 0 u).setPoint g
          { s.dev.point g with queue := (s.dev.point g).queue ++ [⟨r, none, false⟩] })) ∧
    (∀ j, j < 2 ^ 20 → s.dev.rg fSOP_DEV_INBOUND_REG = 0 → Ready s.dev (1 + q) 1 1 →
      Completes (.rd port (sopRequest 2 2 me src hops 0 tag 8 (0x30000000000 + 8 * j) source) rep now hold) s (fun t =>
        t.dev.scr = s.dev.scr ∧ t.dev.outs = s.dev.outs ++
          [back 0 2 (sopHeader 0x12 1 src me (s.dev.rg fSOP_DEV_HOP_LIMIT) 0 tag 0x0806 0 0)])) ∧
    (∀ n ctr add, n < 1024 → ctr < 256 → add < 2 ^ 16 → s.dev.phys n = none → Ready s.dev (1 + q) 1 1 →
      Completes (.sig port (sopHeader 0x20 1 me src hops ctr tag n 0 add)) s (fun t => t.dev.sync = s.dev.sync ∧
        t.dev.outs = s.dev.outs ++ [back 2 1 (sopHeader 0x12 1 src me (s.dev.rg fSOP_DEV_HOP_LIMIT) 0 tag 0x0A02 0 0)])) ∧
    (∀ ty (b : List Byte), 0 < ty → ty < 0x300 → b.length ≤ 256 → s.dev.mgmt.length < 64 →
      Gives (.ctrl port (sopHeader 0x31 (1 + (b.length + 15) / 16) me src hops 0 ty b.length 0 0 ++
        padTo (16 * ((b.length + 15) / 16)) b)) s
        { s.dev with mgmt := s.dev.mgmt ++ [⟨0x31, src, ty, port, b⟩] })

/-- Responses at a port that is UP. -/
def Obligations.ScaleOutResponses : Prop :=
  ∀ (s : State) (port src hops tag p id q k : Nat), Live s → port < 16 → s.dev.rg (fSOP_PORT_STATUS_STATE.at port) = 3 →
    src < 2 ^ 16 → hops < 64 → tag < 2 ^ 14 → s.dev.rg fSOP_DEV_DEV_ID < 2 ^ 16 →
    let me := s.dev.rg fSOP_DEV_DEV_ID
    let done (code : Nat) (t : State) : Prop := SMap.find? tag t.dev.tags = none ∧
      t.dev.plot p = { s.dev.plot p with dmas := answered id code (s.dev.plot p).dmas } ∧ t.dev.regs = s.dev.regs ∧
      t.dev.outs = s.dev.outs
    (SMap.find? tag s.dev.tags = some ⟨.piece p id, q, k⟩ →
      Completes (.wrAck port (sopHeader 0x10 1 me src hops 0 tag 0 0 0)) s (done 0) ∧
      (∀ code, code < 2 ^ 16 → Completes (.err port (sopHeader 0x12 1 me src hops 0 tag code 0 0)) s (done code)) ∧
      Completes (.sopTagTimeout tag) s (done 0x0805) ∧
      (∀ run i o (b : List Byte) off rep, findRun s.dev p id = some run → run.d.srcRemote = true → run.d.dstSpace = 0 →
        run.d.remotePieces[k]? = some (i, o, b.length) → b ≠ [] → b.length ≤ 256 →
        s.dev.ownScratch p (run.d.dstAt i o) = some off → Sound (s.dev.plot p) →
        Completes (.rdData port (sopHeader 0x11 (1 + (b.length + 15) / 16) me src hops 0 tag 0 b.length 0 ++
          padTo (16 * ((b.length + 15) / 16)) b) rep) s (fun t =>
            SMap.find? tag t.dev.tags = none ∧ memRead t.dev.scr (scrBase p + off) b.length = b ∧
            (∀ a, a < scrBase p + off ∨ scrBase p + off + b.length ≤ a → memGet t.dev.scr a = memGet s.dev.scr a) ∧
            t.dev.outs = s.dev.outs))) ∧
    (SMap.find? tag s.dev.tags = some ⟨.signal p id, q, k⟩ → Completes (.sigAck port (sopHeader 0x13 1 me src hops 0 tag 0 0 0)) s
      (fun t => SMap.find? tag t.dev.tags = none ∧ t.dev.plots = s.dev.plots ∧ t.dev.regs = s.dev.regs)) ∧
    (SMap.find? tag s.dev.tags = none → ∀ c ∈ [(0x10, Instr.wrAck), (0x12, .err), (0x13, .sigAck)],
      Completes (c.2 port (sopHeader c.1 1 me src hops 0 tag 0 0 0)) s (fun t => OnlyRegs [fSOP_TAGS_STRAY_RSP]
        { s.dev with links := t.dev.links } t.dev ∧
        t.dev.rg fSOP_TAGS_STRAY_RSP = min (2 ^ fSOP_TAGS_STRAY_RSP.w - 1) (s.dev.rg fSOP_TAGS_STRAY_RSP + 1))) ∧
    (∀ dst x, dst < 2 ^ 16 → dst ≠ me → 0 < hops → sopRoute s.dev src dst = some x → Ready s.dev (1 + x) 1 1 →
      Completes (.wrAck port (sopHeader 0x10 1 dst src hops 0 tag 0 0 0)) s (fun t => t.dev.tags = s.dev.tags ∧
        t.dev.outs = s.dev.outs ++
          [carried (linkFree s.dev (1 + port) 1 1) (1 + x) (sopHeader 0x10 1 dst src (hops - 1) 0 tag 0 0 0)]))

/-- DMA_DESC_COMPLETE, STREAM_RECORD_ARRIVAL and OUTBOUND_RELEASE for transfers within a plot and its SIGNAL of a local
counter. -/
def Obligations.PlotTransfers : Prop :=
  ∀ (s : State) (p n a k pc id : Nat) (rep : List Nat), Live s → s.dev.ownNumber p = some n → n < 1024 → 0 < k → a + k ≤ 2 ^ 20 →
    Sound (s.dev.plot p) →
    (∀ (run : DmaRun) (b c : Nat) (others : List DmaRun), b + k ≤ 2 ^ 20 → (s.dev.plot p).dmas = run :: others →
      run.id = id → (∀ x ∈ others, x.id ≠ id) → run.outbound = false → run.err = 0 → run.check = none → run.ctr = some c →
      run.d = { run.d with
        srcAddr := scrWindow n + a, dstAddr := scrWindow n + b, length := k, rows := 1, dstRemote := false, srcRemote := false,
        srcSpace := 0, dstSpace := 0, kind := 0 } →
      (∀ u ∈ linesOf a k, unitState (s.dev.plot p) u = 0) →
      Completes (.dmaDescComplete p run.desc rep) s (fun t =>
        memRead t.dev.scr (scrBase p + b) k = memRead s.dev.scr (scrBase p + a) k ∧
        (∀ x, x < scrBase p + b ∨ scrBase p + b + k ≤ x → memGet t.dev.scr x = memGet s.dev.scr x) ∧
        t.dev.plot p = { s.dev.plot p with dmas := others } ∧ (∀ y, y ≠ p → t.dev.plot y = s.dev.plot y) ∧
        t.dev.syncGet p c = (s.dev.syncGet p c + 1) % 2 ^ 32 ∧ t.dev.outs = s.dev.outs)) ∧
    (∀ (run : DmaRun) (others : List DmaRun), (s.dev.plot p).dmas = run :: others → run.id = id → run.err = 0 → run.moved = 0 →
      (∀ x ∈ others, x.id ≠ id) →
      run.d = { run.d with
        srcAddr := scrWindow n + a, length := k, rows := 1, srcRemote := false, srcSpace := 0, dstSpace := 2 } →
      (s.dev.plot p).att.waiting = false → (∀ u ∈ linesOf a k, unitState (s.dev.plot p) u = 0) →
      let st := SMap.get Stream.reset (s.dev.plot p).streams run.d.stream
      st.bytes.length + k ≤ 16384 →
      Completes (.streamRecordArrival p run.d.stream rep) s (fun t =>
        SMap.get Stream.reset (t.dev.plot p).streams run.d.stream =
          { st with bytes := st.bytes ++ memRead s.dev.scr (scrBase p + a) k } ∧
        (t.dev.plot p).dmas = { run with moved := k } :: others ∧ t.dev.scr = s.dev.scr ∧ t.dev.regs = s.dev.regs)) ∧
    (∀ dev dst ctr add q rest, (s.dev.plot p).outq = ⟨.signal dev false dst ctr add, pc⟩ :: rest →
      (∀ x ∈ (s.dev.plot p).dmas, x.outbound = false ∨ x.released = false) → s.dev.phys dst = some q → (s.dev.plot q).sleep = 0 →
      (s.dev.plot p).rg fPLOT_SEQ_REPLAY_OUT_DONE + 1 < 2 ^ 24 →
      Completes (.outboundRelease p rep) s (fun t =>
        t.dev.syncGet q ctr = (s.dev.syncGet q ctr + add) % 2 ^ 32 ∧ (t.dev.plot p).outq = rest ∧
        (t.dev.plot p).rg fPLOT_SEQ_REPLAY_OUT_DONE = (s.dev.plot p).rg fPLOT_SEQ_REPLAY_OUT_DONE + 1 ∧
        OnlyPlot p { s.dev with sync := t.dev.sync } t.dev ∧ OnlyPlotRegs [fPLOT_SEQ_REPLAY_OUT_DONE]
          { s.dev.plot p with outq := rest } (t.dev.plot p)))

/-- The A-extension operations at a controller that serves, with nothing waiting there. The trap causes and the sign extension
are RISC-V's (log entry 42). -/
def Obligations.AtomicOperations : Prop :=
  ∀ (s : State) (core addr operand : Nat) (dbl : Bool), Live s → core < 8 → addr < 0x1800000000 →
    let n := if dbl then 8 else 4
    let g := (gddrMap addr).1
    (∀ e ∈ atomicOps, addr % n = 0 → s.dev.rg (fGDC_STATUS_STATE.at g) = 2 → (s.dev.point g).queue = [] →
      s.dev.rg (fGDC_FLIP_ARM.at g) = 0 → s.dev.rg fAON_DSTATE_STATE ≠ 3 → s.dev.rg fFAB_BRIDGE_STATUS_DOWN = 0 →
      Completes (e.1 core addr dbl operand []) s (fun t =>
        let old := leValue (memRead s.dev.gddr addr n)
        leValue (memRead t.dev.gddr addr n) = e.2 (8 * n) old (operand % 2 ^ (8 * n)) ∧
        (∀ a, a < addr ∨ addr + n ≤ a → memGet t.dev.gddr a = memGet s.dev.gddr a) ∧
        t.dev.outs = s.dev.outs ++ [.coreData core (codeOf 64 (signedOf (8 * n) old))] ∧ t.dev.plots = s.dev.plots ∧
        t.dev.scr = s.dev.scr ∧ t.dev.bed = s.dev.bed)) ∧
    (∀ e ∈ atomicOps, addr % n ≠ 0 → Gives (e.1 core addr dbl operand []) s (s.dev.says (.coreTrap core 6))) ∧
    (∀ e ∈ atomicOps, addr % n = 0 → s.dev.rg (fGDC_STATUS_STATE.at g) = 5 → s.dev.rg fAON_DSTATE_STATE ≠ 3 →
      s.dev.rg fFAB_BRIDGE_STATUS_DOWN = 0 → Completes (e.1 core addr dbl operand []) s (fun t => t.dev.gddr = s.dev.gddr ∧
        t.dev.outs = s.dev.outs ++ [.coreTrap core 7] ∧ t.dev.rg (fGDC_ERR_CHANNEL_DOWN.at g) = 1)) ∧
    (∀ sc, Gives (.lrScGddr7Fault core addr sc) s (s.dev.says (.coreTrap core (if sc then 7 else 5))))

/-- SHED_LOCAL_ACCESS, and the engines with a source in shed SRAM that has no word in error. -/
def Obligations.ShedMemoryAndEngines : Prop :=
  ∀ (s : State) (off len : Nat), Live s → s.dev.shed.sramErr = [] → off + len ≤ 0x400000 → 0 < len →
    (∀ core data now, core < 8 → s.dev.rg (fSHD_CORE_CTRL_RUN.at core) = 1 →
      (len = 1 ∨ len = 2 ∨ len = 4 ∨ len = 8 →
        Gives (.shedLocalAccess core 1 (sramBase + off) len data now) s
          (s.dev.says (.coreData core (codeOf 64 (signedOf (8 * len) (leValue (memRead s.dev.shed.sram off len)))))) ∧
        (s.dev.rg fSHD_SRAM_FLIP_ARM = 0 → Gives (.shedLocalAccess core 2 (sramBase + off) len data now) s
          { s.dev with shed := { s.dev.shed with sram := memWrite s.dev.shed.sram off (leBytes len data) } }) ∧
        (off % len = 0 → off + len ≤ 0x40000 →
          Gives (.shedLocalAccess core 2 (romBase + off) len data now) s (s.dev.says (.coreTrap core 7)))) ∧
      (∀ c, c < 8 → let x := SMap.get Core.reset s.dev.shed.cores c
        Gives (.shedLocalAccess core 1 (timerBase + c * 0x1000) 8 data now) s
          (s.dev.says (.coreData core ((x.mtime + now) % 2 ^ 64))) ∧
        (data < 2 ^ 64 → Completes (.shedLocalAccess core 2 (timerBase + c * 0x1000 + 8) 8 data now) s (fun t =>
          (SMap.get Core.reset t.dev.shed.cores c).mtimecmp = data ∧ (SMap.get Core.reset t.dev.shed.cores c).mtime = x.mtime ∧
          t.dev.regs = s.dev.regs ∧ t.dev.outs = s.dev.outs)))) ∧
    (∀ out64, out64 < 2 → s.dev.rg fSHD_HASH_SRC_ADDR = sramBase + off → s.dev.rg fSHD_HASH_LEN_LEN = len →
      s.dev.rg fSHD_HASH_CTRL_BUSY = 0 → Completes (.shake256Go (out64 * 8 + 7)) s (fun t =>
        t.dev.shed = { s.dev.shed with hash := some ⟨out64 * 8 + 7, sramBase + off, len, none⟩ } ∧
        t.dev.rg fSHD_HASH_CTRL_BUSY = 1 ∧ OnlyRegs [fSHD_HASH_CTRL_OUT64, fSHD_HASH_CTRL_FINAL, fSHD_HASH_CTRL_INIT,
          fSHD_HASH_CTRL_BUSY] { s.dev with shed := t.dev.shed } t.dev)) ∧
    (∀ out64 rep, out64 < 2 → s.dev.shed.hash = some ⟨out64 * 8 + 7, sramBase + off, len, none⟩ →
      let h := shake256 (if out64 = 1 then 64 else 32) (memRead s.dev.shed.sram off len)
      Completes (.shake256Done rep) s (fun t => t.dev.shed.hash = none ∧ t.dev.rg fSHD_HASH_CTRL_BUSY = 0 ∧ Raised 90 t.dev ∧
        (∀ i, 8 * i < h.length → t.dev.rg (fSHD_HASH_OUT_BYTES.at i) = leValue ((h.drop (8 * i)).take 8)) ∧
        t.dev.shed.sram = s.dev.shed.sram)) ∧
    (∀ init, init < 2 → s.dev.rg fSHD_CRC_SRC_ADDR = sramBase + off → s.dev.rg fSHD_CRC_LEN_LEN = len →
      s.dev.rg fSHD_CRC_CTRL_BUSY = 0 → Completes (.crc64Go (init * 2 + 1)) s (fun t =>
        t.dev.shed = { s.dev.shed with crc := some ⟨init * 2 + 1, sramBase + off, len, none⟩ } ∧
        t.dev.rg fSHD_CRC_CTRL_BUSY = 1 ∧
        OnlyRegs [fSHD_CRC_CTRL_INIT, fSHD_CRC_CTRL_BUSY] { s.dev with shed := t.dev.shed } t.dev)) ∧
    (∀ init rep, init < 2 → s.dev.shed.crc = some ⟨init * 2 + 1, sramBase + off, len, none⟩ → Completes (.crc64Done rep) s (fun t =>
      t.dev.rg fSHD_CRC_RESULT_CRC = crc64 (if init = 1 then 0 else s.dev.rg fSHD_CRC_RESULT_CRC)
        (memRead s.dev.shed.sram off len) % 2 ^ 64 ∧
      t.dev.shed = { s.dev.shed with crc := none } ∧ t.dev.rg fSHD_CRC_CTRL_BUSY = 0 ∧ Raised 91 t.dev ∧
      OnlyRegs [fSHD_CRC_RESULT_CRC, fSHD_CRC_CTRL_BUSY, fICU_PEND_PEND.at 1] { s.dev with shed := t.dev.shed } t.dev))

/-- The states of R328 for octet `o`, each from the state that it begins in. -/
def Obligations.LaneTraining : Prop :=
  ∀ (s : State) (o : Nat), Live s → o < 18 →
    let st (t : State) : Nat := t.dev.rg (fLNE_STATUS_STATE.at o)
    let excluded (t : State) (i : Nat) : Nat := t.dev.rg (fLNE_LANE_EXCLUDED.at2 o i)
    (st s = 1 → Completes (.signalDetected o) s (fun t => st t = 2 ∧ t.dev.rg (fLNE_STATUS_SIGNAL.at o) = 255 ∧
        (∀ i, i < 8 → t.dev.rg (fLNE_LANE_SIGNAL.at2 o i) = 1) ∧
        OnlyRegs ([fLNE_STATUS_STATE.at o, fLNE_STATUS_SIGNAL.at o] ++ (List.range 8).map (fLNE_LANE_SIGNAL.at2 o)) s.dev t.dev) ∧
      ∀ m, m < 256 →
        (4 ≤ popCount 8 m → Completes (.detectTimeout o m) s (fun t => st t = 2 ∧ t.dev.rg (fLNE_STATUS_SIGNAL.at o) = m ∧
          ∀ i, i < 8 → excluded t i = if excluded s i = 0 ∧ bitOf m i = false then 1 else excluded s i)) ∧
        (popCount 8 m < 4 → Completes (.detectTimeout o m) s (fun t => st t = 8 ∧ t.dev.rg (fLNE_STATUS_WIDTH.at o) = 0 ∧
          t.dev.rg (fLNE_ERR_TRAIN_TIMEOUT.at o) = 1))) ∧
    (st s = 2 → ∀ cs : List Nat,
      Completes (.equalizeAgreed o cs) s (fun t => st t = 3 ∧ t.dev = { s.dev with regs := t.dev.regs } ∧
        ∀ i, i < 8 → excluded t i = excluded s i ∧
          (excluded s i = 0 → t.dev.rg (fLNE_LANE_COEFF.at2 o i) = cs.getD i 0 % 2 ^ 32)) ∧
      ∀ m, Completes (.equalizeTimeout o m cs) s (fun t => st t = 3 ∧
        ∀ i, i < 8 → excluded t i = (if excluded s i = 0 ∧ bitOf m i = false then 1 else excluded s i) ∧
          (excluded t i = 0 → t.dev.rg (fLNE_LANE_COEFF.at2 o i) = cs.getD i 0 % 2 ^ 32))) ∧
    (st s = 3 → ∀ (pos : List Nat) (inv : Nat),
      Completes (.alignLocked o pos inv) s (fun t => st t = 4 ∧
        ∀ i, i < 8 → excluded s i = 0 → t.dev.rg (fLNE_LANE_POS.at2 o i) = pos.getD i 0 % 8 ∧
          t.dev.rg (fLNE_LANE_INVERTED.at2 o i) = (if bitOf inv i then 1 else 0) ∧ t.dev.rg (fLNE_LANE_ALIGNED.at2 o i) = 1) ∧
      ∀ m, Completes (.alignTimeout o m pos inv) s (fun t => st t = 4 ∧
        ∀ i, i < 8 → excluded t i = (if excluded s i = 0 ∧ bitOf m i = false then 1 else excluded s i) ∧
          t.dev.rg (fLNE_LANE_ALIGNED.at2 o i) = if excluded t i = 0 then 1 else 0)) ∧
    (st s = 4 →
      ((∀ i, i < 8 → excluded s i = 0 ∧ s.dev.rg (fLNE_LANE_POS.at2 o i) = i) → ∀ w, w = 1 ∨ w = 2 ∨ w = 3 →
        Completes (.widthAgreed o w) s (fun t => st t = 5 ∧ t.dev.rg (fLNE_STATUS_WIDTH.at o) = w ∧
          t.dev.rg (fLNE_STATUS_ALIGNED.at o) = (if w = 3 then 255 else if w = 1 then 15 else 240) ∧
          t.dev.rg (fLNE_FEC_CNT_CORRECTED_SYM.at o) = 0 ∧ t.dev.rg (fLNE_FEC_CNT_UNCORR_CW.at o) = 0)) ∧
      Completes (.widthAgreed o 0) s (fun t => st t = 8 ∧ t.dev.rg (fLNE_STATUS_WIDTH.at o) = 0) ∧
      Completes (.widthTimeout o) s (fun t => st t = 8 ∧ t.dev.rg (fLNE_STATUS_WIDTH.at o) = 0 ∧
        t.dev.rg (fLNE_STATUS_ALIGNED.at o) = 0)) ∧
    (st s = 5 →
      (∀ c, c ≤ 5704 → octetRole s.dev o = 3 → Completes (.verifyComplete o c 0) s (fun t => st t = 6 ∧
        t.dev.outs = s.dev.outs ∧ t.dev.rg (fLNE_STATUS_WIDTH.at o) = s.dev.rg (fLNE_STATUS_WIDTH.at o))) ∧
      (∀ c, c ≤ 5704 → octetRole s.dev o = 2 → s.dev.rg (fLNE_STATUS_WIDTH.at o) = 3 → octetPort s.dev o < 16 →
        Completes (.verifyComplete o c 0) s (fun t => st t = 6 ∧
          let q := octetPort s.dev o
          t.dev.rg (fSOP_PORT_STATUS_STATE.at q) = 2 ∧ t.dev.outs = s.dev.outs ++ [.flit (1 + q)
            (mkFlit 3 0 none [2048, 2048, 256, 256] (leBytes 2 (s.dev.rg fSOP_DEV_DEV_ID) ++ leBytes 1 q))])) ∧
      (∀ c u, 5704 < c ∨ 0 < u → Completes (.verifyComplete o c u) s (fun t => st t = 8 ∧
        t.dev.rg (fLNE_ERR_TRAIN_TIMEOUT.at o) = 1)) ∧
      Completes (.verifyTimeout o) s (fun t => st t = 8 ∧ t.dev.rg (fLNE_ERR_TRAIN_TIMEOUT.at o) = 1)) ∧
    (s.dev.boot.switching = true →
      Gives .bootSwitchFrame s (({ s.dev with boot := { s.dev.boot with switching := false } }.rs fLNE_BOOT_STATE 1).rs
        (fLNE_STATUS_STATE.at 0) 1) ∧
      Completes .bootSwitchTimeout s (fun t => t.dev.boot = { s.dev.boot with switching := false, outcome := some 0x060C } ∧
        SawClass 6 t.dev ∧ t.dev.rg fLNE_BOOT_STATE = s.dev.rg fLNE_BOOT_STATE)) ∧
    (∀ a l, a < 2 → 0 < l → l < 2 ^ 16 → Gives (.lneCfgWrite o (a * 2 ^ 16 + l)) s
      ((s.dev.rs (fLNE_CFG_AUTO_RETRAIN.at o) a).rs (fLNE_CFG_UNCORR_LIMIT.at o) l)) ∧
    (∀ a, Completes (.lneCfgWrite o (a * 2 ^ 16)) s (fun t => SawClass 6 t.dev ∧
      ∀ f ∈ [fLNE_CFG_AUTO_RETRAIN, fLNE_CFG_UNCORR_LIMIT], t.dev.rg (f.at o) = s.dev.rg (f.at o)))

/-- Octet `o` in service. -/
def Obligations.LaneService : Prop :=
  ∀ (s : State) (o : Nat), Live s → o < 18 →
    let st (t : State) : Nat := t.dev.rg (fLNE_STATUS_STATE.at o)
    let q := octetPort s.dev o
    (5 ≤ st s → st s ≤ 7 → ∀ c h, h % 64 / 8 = 0 → h / 64 = 10 → Completes (.frameReceived o c 0 [h, h, h, h]) s (fun t => st t = st s ∧
      t.dev.rg (fLNE_FEC_CNT_CORRECTED_SYM.at o) = min (2 ^ 40 - 1) (s.dev.rg (fLNE_FEC_CNT_CORRECTED_SYM.at o) + c) ∧
      t.dev.rg (fLNE_FEC_CNT_UNCORR_CW.at o) = min (2 ^ 24 - 1) (s.dev.rg (fLNE_FEC_CNT_UNCORR_CW.at o)) ∧
      OnlyRegs [fLNE_FEC_CNT_CORRECTED_SYM.at o, fLNE_FEC_CNT_UNCORR_CW.at o] { s.dev with octets := t.dev.octets } t.dev)) ∧
    (st s = 6 → s.dev.rg (fLNE_CFG_AUTO_RETRAIN.at o) = 0 → ∀ u, u ≤ 4 → Completes (.frameReceived o 0 u []) s (fun t =>
      st t = 6 ∧ t.dev.rg (fLNE_FEC_CNT_UNCORR_CW.at o) = min (2 ^ 24 - 1) (s.dev.rg (fLNE_FEC_CNT_UNCORR_CW.at o) + u))) ∧
    (st s = 6 → octetRole s.dev o = 3 →
      (∀ lane, lane < 8 → bitOf (s.dev.rg (fLNE_STATUS_ALIGNED.at o)) lane = true → Completes (.laneLockLoss o lane) s (fun t =>
        st t = 7 ∧ t.dev.rg (fLNE_RETRAIN_REASON.at o) = 1 ∧ t.dev.rg (fLNE_ERR_RETRAIN.at o) = 1 ∧
        t.dev.rg (fLNE_LANE_ALIGNED.at2 o lane) = 0)) ∧
      (∀ full, Completes (.lneRetrainCmd o full) s (fun t => st t = 7 ∧ t.dev.rg (fLNE_RETRAIN_REASON.at o) = 3 ∧
        t.dev.rg (fLNE_ERR_RETRAIN.at o) = 1 ∧ (t.dev.octet o).full = full ∧
        ∀ i, i < 8 → t.dev.rg (fLNE_LANE_EXCLUDED.at2 o i) = if full then 0 else s.dev.rg (fLNE_LANE_EXCLUDED.at2 o i)))) ∧
    (st s = 6 → octetRole s.dev o = 2 → q < 16 → s.dev.rg (fSOP_PORT_STATUS_STATE.at q) = 3 →
      Completes (.lneRetrainCmd o false) s (fun t => st t = 7 ∧ t.dev.rg (fSOP_PORT_STATUS_STATE.at q) = 4 ∧
        t.dev.link (1 + q) = { s.dev.link (1 + q) with held := true })) ∧
    (st s = 7 →
      (∀ full, Gives (.lneRetrainCmd o full) s (s.dev.count (fLNE_RETRAIN_IGNORED.at o) 1)) ∧
      (∀ (ac inv : Nat) (cs : List Nat), ac ≤ 625000 → octetRole s.dev o = 3 → s.dev.rg (fLNE_STATUS_WIDTH.at o) = 3 →
        (∀ i, i < 8 → s.dev.rg (fLNE_LANE_EXCLUDED.at2 o i) = 0) →
        Completes (.retrainPassed o ac 255 [0, 1, 2, 3, 4, 5, 6, 7] inv cs 3) s (fun t => st t = 6 ∧
          t.dev.rg (fLNE_STATUS_WIDTH.at o) = 3 ∧ t.dev.rg (fLNE_RETRAIN_LAST_AC.at o) = ac ∧
          t.dev.rg (fLNE_RETRAIN_COUNT.at o) = min 65535 (s.dev.rg (fLNE_RETRAIN_COUNT.at o) + 1) ∧
          t.dev.octet o = Octet.reset ∧ ∀ i, i < 8 → t.dev.rg (fLNE_LANE_POS.at2 o i) = i)) ∧
      (octetRole s.dev o = 3 → Completes (.retrainExpiry o) s (fun t => st t = 9 ∧ t.dev.rg (fLNE_STATUS_WIDTH.at o) = 0 ∧
        t.dev.rg (fLNE_ERR_LINK_LOST.at o) = 1)) ∧
      (octetRole s.dev o = 2 → q < 16 → s.dev.rg (fSOP_PORT_STATUS_STATE.at q) = 4 → (s.dev.link (1 + q)).kept = [] →
        (s.dev.link (1 + q)).waiting = [] → Completes (.retrainExpiry o) s (fun t => st t = 9 ∧
          t.dev.rg (fSOP_PORT_STATUS_STATE.at q) = 5 ∧ t.dev.rg (fSOP_PORT_STATUS_ABSENT.at q) = 1 ∧
          (t.dev.link (1 + q)).lost = true ∧ t.dev.rg (fSOP_PORT_ERR_PEER_LOST.at q) = 1)))

/-- The controller of R514 to R518. The assignments in force at a command are those that its cycle settles (log entry 35). -/
def Obligations.InterruptController : Prop :=
  ∀ (s : State) (t w : Nat), Live s → t < 8 → w < 8 →
    let d := icuSettle s.dev
    (∀ x, Completes (.icuPendSet w x) s (fun u => OnlyRegs [fICU_PEND_PEND.at w] { s.dev with shed := u.dev.shed } u.dev ∧
      ∀ b, b < 64 → bitOf (u.dev.rg (fICU_PEND_PEND.at w)) b =
        if w = 0 ∧ b = 0 then false else bitOf (s.dev.rg (fICU_PEND_PEND.at w)) b || bitOf x b)) ∧
    (∀ x, Completes (.icuPendClr w x) s (fun u => OnlyRegs [fICU_PEND_PEND.at w] { s.dev with shed := u.dev.shed } u.dev ∧
      ∀ b, b < 64 → bitOf (u.dev.rg (fICU_PEND_PEND.at w)) b = (bitOf (s.dev.rg (fICU_PEND_PEND.at w)) b && !bitOf x b))) ∧
    (∀ x, Completes (.icuEnableSet t w x) s (fun u => OnlyRegs [fICU_ENABLE_EN.at2 t w] { s.dev with shed := u.dev.shed } u.dev ∧
      ∀ b, b < 64 → bitOf (u.dev.rg (fICU_ENABLE_EN.at2 t w)) b = (bitOf (s.dev.rg (fICU_ENABLE_EN.at2 t w)) b || bitOf x b))) ∧
    (∀ x, Completes (.icuEnableClr t w x) s (fun u => OnlyRegs [fICU_ENABLE_EN.at2 t w] { s.dev with shed := u.dev.shed } u.dev ∧
      ∀ b, b < 64 → bitOf (u.dev.rg (fICU_ENABLE_EN.at2 t w)) b = (bitOf (s.dev.rg (fICU_ENABLE_EN.at2 t w)) b && !bitOf x b))) ∧
    (∀ x, x < 16 → Completes (.icuThresholdWrite t x) s (fun u => u.dev.rg (fICU_THRESHOLD_THRESHOLD.at t) = x ∧
      OnlyRegs [fICU_THRESHOLD_THRESHOLD.at t] { s.dev with shed := u.dev.shed } u.dev)) ∧
    (∀ src x, 0 < src → src < 512 → x < 16 → Completes (.icuPrioWrite src x) s (fun u => u.dev.rg (fICU_PRIO_PRIO.at src) = x ∧
      OnlyRegs [fICU_PRIO_PRIO.at src] { s.dev with shed := u.dev.shed } u.dev)) ∧
    (∀ x, Gives (.icuPrioWrite 0 x) s s.dev) ∧
    ((∃ y, (y, t) ∈ d.shed.assigned) → Completes (.icuClaim t) s (fun u => ∃ x, (x, t) ∈ d.shed.assigned ∧
      (∀ y, (y, t) ∈ d.shed.assigned → s.dev.rg (fICU_PRIO_PRIO.at y) ≤ s.dev.rg (fICU_PRIO_PRIO.at x)) ∧
      u.dev.outs = s.dev.outs ++ [.coreData t x] ∧
      icuStack u.dev t = (x, s.dev.rg (fICU_PRIO_PRIO.at x)) :: icuStack s.dev t ∧
      bitOf (u.dev.rg (fICU_PEND_PEND.at (x / 64))) (x % 64) = false)) ∧
    ((∀ y, (y, t) ∉ d.shed.assigned) → Completes (.icuClaim t) s (fun u => icuStack u.dev t = icuStack s.dev t ∧
      u.dev.outs = s.dev.outs ++ [.coreData t (if t ∈ d.shed.asserted then 0x3FF else 0)] ∧ u.dev.regs = s.dev.regs)) ∧
    (∀ x pr r, icuStack s.dev t = (x, pr) :: r →
      (x < 1024 → Completes (.icuComplete t x) s (fun u => icuStack u.dev t = r ∧ u.dev.regs = s.dev.regs)) ∧
      (∀ y, y < 1024 → y ≠ x → Completes (.icuComplete t y) s (fun u => icuStack u.dev t = (x, pr) :: r ∧
        bitOf (u.dev.rg fSHD_ERR_CODE_SEEN) 0 = true))) ∧
    (s.dev.rg (fSHD_CORE_CTRL_WFI.at t) = 1 →
      ((∃ i, i < 512 ∧ icuPending s.dev i = true ∧ bitOf (s.dev.rg (fICU_ENABLE_EN.at2 t (i / 64))) (i % 64) = true ∧
          1 ≤ s.dev.rg (fICU_PRIO_PRIO.at i)) → Gives (.wfiWake t) s (s.dev.rs (fSHD_CORE_CTRL_WFI.at t) 0)) ∧
      ((∀ i, i < 512 → icuPending s.dev i = false) → Gives (.wfiWake t) s s.dev))

/-- The cores as blocks (R507, R519, R520), their timers (R504), SHD_SRAM (R506) and PLOT_IRQ (R513). -/
def Obligations.ShedCores : Prop :=
  ∀ (s : State) (c : Nat), Live s → c < 8 →
    (coreResetting s.dev c = false → 0 < c →
      (∀ msip, msip < 2 → Completes (.shdCoreRunWrite c (msip * 4 + 1)) s (fun t => t.dev.rg (fSHD_CORE_CTRL_RUN.at c) = 1 ∧
        t.dev.rg (fSHD_CORE_CTRL_MSIP.at c) = msip ∧
        OnlyRegs [fSHD_CORE_CTRL_RUN.at c, fSHD_CORE_CTRL_MSIP.at c] s.dev t.dev)) ∧
      (s.dev.rg (fSHD_CORE_CTRL_RUN.at c) = 1 → Completes (.shdCoreRunWrite c 0) s (fun t =>
        t.dev.rg (fSHD_CORE_CTRL_RUN.at c) = 0 ∧ t.dev.rg (fSHD_CORE_WDOG_EN.at c) = 0 ∧
        t.dev.rg (fSHD_CORE_WDOG_STAGE.at c) = 0 ∧ SMap.get Core.reset t.dev.shed.cores c = Core.reset))) ∧
    (coreResetting s.dev c = true → ∀ x, Completes (.shdCoreRunWrite c x) s (fun t =>
      t.dev.rg (fSHD_CORE_CTRL_RUN.at c) = s.dev.rg (fSHD_CORE_CTRL_RUN.at c) ∧ bitOf (t.dev.rg fSHD_ERR_CODE_SEEN) 9 = true)) ∧
    (∀ n, 0 < n → n < 2 ^ 16 →
      Gives (.shdCoreWdogWrite c n) s (s.dev.rs (fSHD_CORE_WDOG_PERIOD.at c) n) ∧
      Gives (.shdCoreWdogWrite c (2 ^ 17 + n)) s ((s.dev.rs (fSHD_CORE_WDOG_PERIOD.at c) n).rs (fSHD_CORE_WDOG_EN.at c) 1)) ∧
    Completes (.shdCoreWdogWrite c (2 ^ 17)) s (fun t => bitOf (t.dev.rg fSHD_ERR_CODE_SEEN) 8 = true ∧
      t.dev.rg (fSHD_CORE_WDOG_EN.at c) = s.dev.rg (fSHD_CORE_WDOG_EN.at c)) ∧
    Gives (.watchdogKick c 0xA5C3) s (s.dev.rs (fSHD_CORE_WDOG_STAGE.at c) 0) ∧
    (∀ x, x < 2 ^ 16 → x ≠ 0xA5C3 → Completes (.watchdogKick c x) s (fun t => bitOf (t.dev.rg fSHD_ERR_CODE_SEEN) 8 = true ∧
      t.dev.rg (fSHD_CORE_WDOG_STAGE.at c) = s.dev.rg (fSHD_CORE_WDOG_STAGE.at c))) ∧
    (s.dev.rg (fSHD_CORE_WDOG_EN.at c) = 1 → s.dev.rg (fSHD_CORE_CTRL_RUN.at c) = 1 → ∀ idle,
      (s.dev.rg (fSHD_CORE_WDOG_STAGE.at c) = 0 → Completes (.watchdogExpiry c idle) s (fun t =>
        t.dev.rg (fSHD_CORE_WDOG_STAGE.at c) = 1 ∧ bitOf (t.dev.rg fSHD_ERR_CODE_SEEN) 2 = true ∧
        t.dev.rg (fSHD_CORE_CTRL_RUN.at c) = 1)) ∧
      (s.dev.rg (fSHD_CORE_WDOG_STAGE.at c) = 1 → 0 < c → Completes (.watchdogExpiry c idle) s (fun t =>
        t.dev.rg (fSHD_CORE_CTRL_RUN.at c) = 0 ∧ bitOf (t.dev.rg fSHD_ERR_CODE_SEEN) 3 = true ∧
        t.dev.rg (fSHD_CORE_WDOG_STAGE.at c) = 0 ∧ t.dev.rg fAON_BLK_RST_KIND = 4 ∧ t.dev.rg fAON_BLK_RST_INSTANCE = c ∧
        t.dev.rg fAON_BLK_RST_RESULT = (if idle then 2 else 3) ∧ icuStack t.dev c = [])) ∧
      (s.dev.rg (fSHD_CORE_WDOG_STAGE.at c) = 1 → c = 0 → Completes (.watchdogExpiry c idle) s (fun t =>
        t.dev.rst.held = true ∧ t.dev.rg fAON_RESET_CAUSE_WDOG_SHED = 1 ∧ t.dev.boot.shedFired = true))) ∧
    (∀ now, let x := SMap.get Core.reset s.dev.shed.cores c
      s.dev.rg (fSHD_CORE_CTRL_RUN.at c) = 1 → x.mtimecmp ≤ (x.mtime + now) % 2 ^ 64 →
      Completes (.machineTimerInterrupt c now) s (fun t => SMap.get Core.reset t.dev.shed.cores c = { x with mtip := true } ∧
        t.dev.rg (fSHD_CORE_CTRL_WFI.at c) = 0 ∧
        OnlyRegs [fSHD_CORE_CTRL_WFI.at c] { s.dev with shed := t.dev.shed } t.dev)) ∧
    (∀ arm a b, arm < 2 → a < 128 → b < 128 → s.dev.rg fSHD_SRAM_CORRECTED < 2 ^ 16 →
      Completes (.shdSramFlipWrite (arm * 2 ^ 38 + b * 2 ^ 31 + a * 2 ^ 24)) s (fun t =>
        OnlyRegs [fSHD_SRAM_CORRECTED, fSHD_SRAM_FLIP_ARM, fSHD_SRAM_POS_A, fSHD_SRAM_POS_B] s.dev t.dev ∧
        t.dev.rg fSHD_SRAM_FLIP_ARM = arm ∧ t.dev.rg fSHD_SRAM_POS_A = a ∧ t.dev.rg fSHD_SRAM_POS_B = b ∧
        t.dev.rg fSHD_SRAM_CORRECTED = s.dev.rg fSHD_SRAM_CORRECTED)) ∧
    (∀ p en bits, isPlot p = true → (s.dev.plot p).sleep = 0 → en < 2 ^ 16 → bits < 2 ^ 20 →
      Completes (.plotIrqWrite p (en * 2 ^ 32 + bits)) s (fun t => OnlyPlot p s.dev t.dev ∧
        OnlyPlotRegs [fPLOT_IRQ_ATT, fPLOT_IRQ_TINE, fPLOT_IRQ_ARR, fPLOT_IRQ_SEQ_DONE, fPLOT_IRQ_SEQ_STOP, fPLOT_IRQ_BED_CH,
          fPLOT_IRQ_EN] (s.dev.plot p) (t.dev.plot p) ∧
        (t.dev.plot p).rg fPLOT_IRQ_EN = en ∧
        (∀ e ∈ [(fPLOT_IRQ_SEQ_STOP, 0), (fPLOT_IRQ_SEQ_DONE, 1), (fPLOT_IRQ_ARR, 8), (fPLOT_IRQ_TINE, 9), (fPLOT_IRQ_ATT, 10)],
          (t.dev.plot p).rg e.1 = if bitOf bits e.2 then 0 else (s.dev.plot p).rg e.1) ∧
        (∀ b, b < 4 → bitOf ((t.dev.plot p).rg fPLOT_IRQ_BED_CH) b =
          (bitOf ((s.dev.plot p).rg fPLOT_IRQ_BED_CH) b && !bitOf bits (16 + b)))))

/-- The resets of R427 to R433: what each one keeps, and when the core is held no longer. -/
def Obligations.Resets : Prop :=
  ∀ s : State,
    let r := s.dev.rst
    let fresh (t : State) : Prop := t.fused = s.fused ∧ t.pending = s.pending ∧ t.dev.rst.held = true ∧
      t.dev.flash = s.dev.flash ∧ t.dev.tray = s.dev.tray ∧ t.dev.outs = s.dev.outs ∧ t.dev.plots = [] ∧ t.dev.scr = [] ∧
      t.dev.bed = [] ∧ t.dev.gddr = [] ∧ t.dev.numbering = [] ∧ t.dev.licence = none
    let core (fs : List Fld) (t : State) : Prop := fresh t ∧
      (∀ g ∈ aonFields, g ∉ fs → t.dev.rg g = s.dev.rg g) ∧
      ∀ g : Fld, g.key / 64 ∉ [0x100000, 0x200070, 0x200078, 0x200080] → g.key ≠ fBRW_FAILSTART_AON_COPY.key →
        t.dev.rg g = g.reset
    let critical (t : State) : Prop :=
      core [fAON_RESET_CAUSE_CRIT_ERR, fAON_RESET_CAUSE_CODE, fBRW_FAILSTART_AON_COPY] t ∧
        t.dev.rg fAON_RESET_CAUSE_CRIT_ERR = 1 ∧ t.dev.rg fAON_RESET_CAUSE_CODE = 0x0208 ∧
        t.dev.rg fBRW_FAILSTART_AON_COPY =
          if s.dev.boot.failCounted = false ∧ s.dev.rg fBRW_STATUS_LAST_DONE < 12 then
            min 255 (s.dev.rg fBRW_FAILSTART_AON_COPY + 1)
          else s.dev.rg fBRW_FAILSTART_AON_COPY
    let cool : Prop := ∀ p, isPlot p = true → signedOf 12 (s.dev.rg (fTHM_PLOT_SENSE_LOGIC.at p)) ≤ 105 * 8 ∧
      signedOf 12 (s.dev.rg (fTHM_PLOT_SENSE_BED.at p)) ≤ 95 * 8
    Completes .powerOnReset s (fun t => fresh t ∧ ∀ g : Fld, t.dev.rg g = g.reset) ∧
    (∀ ac, ac < 4 ∨ r.pin = true → exec (.resetNAssert ac) s = .next s) ∧
    (∀ ac, 4 ≤ ac → r.pin = false → r.held = false → Completes (.resetNAssert ac) s (fun t =>
      core [fAON_RESET_CAUSE_RESET_N] t ∧ t.dev.rst.pin = true ∧ t.dev.rg fAON_RESET_CAUSE_RESET_N = 1)) ∧
    (∀ ac, 4 ≤ ac → r.pin = false → r.held = true →
      Gives (.resetNAssert ac) s { s.dev.rs fAON_RESET_CAUSE_RESET_N 1 with rst := { r with pin := true } }) ∧
    (r.pin = true → r.trip = false ∨ ¬ cool → Gives .resetNRelease s { s.dev with rst := { r with pin := false } }) ∧
    (r.pin = true → r.trip = true → cool →
      Gives .resetNRelease s { s.dev with rst := { r with pin := false, trip := false } }) ∧
    (r.trip = true → cool → Gives .aonRelease s { s.dev with rst := { r with trip := false } }) ∧
    (r.trip = false ∨ ¬ cool → exec .aonRelease s = .next s) ∧
    (r.held = true → r.pin = false → r.trip = false → r.off = false →
      Gives .coreResetRelease s { s.dev with rst := Rst.run }) ∧
    (r.pin = true ∨ r.trip = true ∨ r.off = true → exec .coreResetRelease s = .next s) ∧
    (Live s → Completes .critParity s critical ∧
      (4 ≤ s.dev.rg fBRW_STATUS_LAST_DONE → Completes .pllLockLoss s critical) ∧
      (s.dev.rg fBRW_STATUS_LAST_DONE < 4 → exec .pllLockLoss s = .next s) ∧
      ∀ c, c < 24 →
        (s.dev.rg (fGDC_STATUS_STATE.at c) = 2 → s.dev.rg (fGDC_RETRAIN_REQUEST.at c) = 0 →
          Completes (.gddr7PllLockLoss c) s (fun t => t.dev.rg (fGDC_RETRAIN_REQUEST.at c) = 1 ∧
            t.dev.rg (fGDC_RETRAIN_REASON.at c) = 2 ∧ SameStores s.dev t.dev)) ∧
        (s.dev.rg (fGDC_STATUS_STATE.at c) ≠ 2 → exec (.gddr7PllLockLoss c) s = .next s))

/-- R434 by the kind of block, and the transitions of R438 that a write of AON_DSTATE or an orderly stop makes. -/
def Obligations.BlockResets : Prop :=
  ∀ s : State, Live s →
    let d := s.dev
    let busy := d.rg fAON_BLK_RST_RESULT = 1
    let kind := d.rg fAON_BLK_RST_KIND
    let inst := d.rg fAON_BLK_RST_INSTANCE
    let idle (t : State) : Prop := t.dev.rg fAON_BLK_RST_RESULT = 2 ∧ Raised 2 t.dev
    let lifetime (t : State) : Prop :=
      let old := if (d.flash.lives.getD 0 Life.reset).seq ≤ (d.flash.lives.getD 1 Life.reset).seq then 0 else 1
      (t.dev.flash.lives.getD old Life.reset).seq = (d.flash.lives.getD (1 - old) Life.reset).seq + 1 ∧
        t.dev.flash.lives.getD (1 - old) Life.reset = d.flash.lives.getD (1 - old) Life.reset
    (∀ k i, k < 16 → i < 2048 → ¬ busy →
      ((k = 1 ∧ isPlot i = true ∨ k = 2 ∧ i < 24 ∨ k = 3 ∧ i < 18 ∨ k = 4 ∧ 1 ≤ i ∧ i ≤ 7 ∨ k = 5 ∧ i = 0) →
        Gives (.aonBlkRstGo (k * 2 ^ 12 + i * 2 + 1)) s
          (((d.rs fAON_BLK_RST_KIND k).rs fAON_BLK_RST_INSTANCE i).rs fAON_BLK_RST_RESULT 1)) ∧
      (¬ (k = 1 ∧ isPlot i = true ∨ k = 2 ∧ i < 24 ∨ k = 3 ∧ i < 18 ∨ k = 4 ∧ 1 ≤ i ∧ i ≤ 7 ∨ k = 5 ∧ i = 0) →
        Completes (.aonBlkRstGo (k * 2 ^ 12 + i * 2 + 1)) s (fun t => SawClass 2 t.dev ∧
          t.dev.rg fAON_BLK_RST_RESULT = d.rg fAON_BLK_RST_RESULT ∧ t.dev.rg fAON_BLK_RST_KIND = kind ∧
          t.dev.rg fAON_BLK_RST_INSTANCE = inst))) ∧
    (∀ data, busy → data % 2 = 1 → Completes (.aonBlkRstGo data) s (fun t => SawClass 2 t.dev ∧
      t.dev.rg fAON_BLK_RST_RESULT = 1 ∧ t.dev.rg fAON_BLK_RST_KIND = kind ∧ t.dev.rg fAON_BLK_RST_INSTANCE = inst)) ∧
    (busy → kind = 1 → isPlot inst = true → (∀ e ∈ (d.plot inst).channels, e.2.hold = [] ∧ e.2.router = []) →
      Completes .blkIdleAck s (fun t => idle t ∧ (t.dev.plot inst).rg fPLOT_SEQ_STATUS_STATE = 0 ∧
        (t.dev.plot inst).rg fPLOT_ARR_STATUS_SHADOW = 0 ∧ (t.dev.plot inst).dmas = [] ∧
        (∀ a, a < 2 ^ 20 → memGet t.dev.scr (scrBase inst + a) = 0) ∧
        (∀ a, a < scrBase inst ∨ scrBase inst + 2 ^ 20 ≤ a → memGet t.dev.scr a = memGet d.scr a) ∧
        t.dev.bed = d.bed ∧ (∀ ch, ((t.dev.plot inst).chan ch).pm = ((d.plot inst).chan ch).pm) ∧
        t.dev.numbering = d.numbering ∧ ∀ q, q ≠ inst → t.dev.plot q = d.plot q)) ∧
    (busy → kind = 2 → inst < 24 → (d.point inst).queue = [] → Completes .blkIdleAck s (fun t => idle t ∧
      t.dev.rg (fGDC_STATUS_STATE.at inst) = 0 ∧ (t.dev.point inst).queue = [] ∧ t.dev.gddr = d.gddr)) ∧
    (busy → kind = 3 → inst < 18 → octetRole d inst = 3 → Completes .blkIdleAck s (fun t => idle t ∧
      t.dev.rg (fLNE_STATUS_STATE.at inst) = 0 ∧ octetRole t.dev inst = 3 ∧
      octetPort t.dev inst = octetPort d inst % 2 ^ fLNE_ROLE_PORT.w)) ∧
    (busy → kind = 3 → inst < 18 → octetRole d inst = 2 → octetPort d inst < 16 →
      d.rg (fSOP_PORT_STATUS_STATE.at (octetPort d inst)) = 3 → (d.link (1 + octetPort d inst)).kept = [] →
      (d.link (1 + octetPort d inst)).waiting = [] → Completes .blkIdleAck s (fun t => idle t ∧
        t.dev.rg (fLNE_STATUS_STATE.at inst) = 0 ∧ t.dev.rg (fSOP_PORT_STATUS_STATE.at (octetPort d inst)) = 5)) ∧
    (busy → kind = 4 → 1 ≤ inst → inst ≤ 7 → Completes .blkIdleAck s (fun t => idle t ∧
      t.dev.rg (fSHD_CORE_CTRL_RUN.at inst) = 0 ∧ t.dev.rg (fSHD_CORE_WDOG_EN.at inst) = 0 ∧
      ∀ w, w < 8 → t.dev.rg (fICU_ENABLE_EN.at2 inst w) = 0)) ∧
    (busy → kind = 5 → inst = 0 → Completes .blkIdleAck s (fun t => idle t ∧ t.dev.therm.sense = [] ∧
      t.dev.plots = d.plots ∧ SameStores d t.dev)) ∧
    (∀ (w : Waiting) (q : Nat), busy → kind = 2 → inst < 24 → (d.point inst).queue = [w] → w.req.master = .plot q →
      Completes .blkIdleTimeout s (fun t => t.dev.rg fAON_BLK_RST_RESULT = 3 ∧ Raised 2 t.dev ∧ SawClass 2 t.dev ∧
        t.dev.rg (fGDC_STATUS_STATE.at inst) = 0 ∧ .fabReply w.req 0x0203 [] ∈ t.dev.outs)) ∧
    (¬ busy → exec .blkIdleAck s = .next s ∧ exec .blkIdleTimeout s = .next s) ∧
    (d.rg fAON_DSTATE_STATE = 1 ∨ d.rg fAON_DSTATE_STATE = 2 → d.steps.run = none → d.rg fSED_MOVE_STATE = 0 →
      Completes .dstateReqD2 s (fun t => t.dev.rg fAON_DSTATE_STATE = 3 ∧ t.dev.bed = d.bed ∧ t.dev.gddr = d.gddr ∧
        (∀ p, isPlot p = true → (t.dev.plot p).rg fPLOT_PWR_STATE = 3 ∧ (t.dev.plot p).rg fPLOT_PWR_REQ = 3) ∧
        ∀ i, i < 16 → d.steps.waiting = [] → d.steps.events = [] → d.steps.jobs = [] → d.rg (fSTP_SLOT_STATE.at i) = 2 →
          t.dev.rg (fSTP_SLOT_STATE.at i) = 4 ∧ t.dev.rg (fSTP_SLOT_PRIOR.at i) = 2) ∧
      (d.rg fTHM_STATUS_STOP = 1 → Completes .orderlyStop s (fun t => t.dev.rg fAON_DSTATE_STATE = 3 ∧
        (∀ p, isPlot p = true → (t.dev.plot p).rg fPLOT_PWR_STATE = 3) ∧ (d.flash.lives.length = 2 → lifetime t)))) ∧
    (d.rg fAON_DSTATE_STATE = 0 ∨ d.rg fAON_DSTATE_STATE = 3 → exec .dstateReqD2 s = .next s) ∧
    (d.sed.finish = none → d.sed.judged = [] → bitOf d.steps.hold 2 = false →
      (d.rg fAON_DSTATE_STATE = 3 → d.rg fTHM_EMERG_ACTIVE ≠ 1 → Completes .dstateReqD1 s (fun t =>
        t.dev.rg fAON_DSTATE_STATE = 2 ∧ t.dev.bed = d.bed ∧
        ∀ p, isPlot p = true → (t.dev.plot p).rg fPLOT_PWR_STATE = 0 ∧
          ((d.plot p).rg fPLOT_PWR_STATE ≠ 0 → (t.dev.plot p).rg fPLOT_PWR_REQ = 0))) ∧
      (d.rg fAON_DSTATE_STATE = 3 → d.rg fTHM_EMERG_ACTIVE = 1 → Completes .dstateReqD1 s (fun t =>
        t.dev.rg fAON_DSTATE_STATE = 3 ∧ SawClass 2 t.dev)) ∧
      (d.rg fAON_DSTATE_STATE ≠ 3 → exec .dstateReqD1 s = .next s)) ∧
    (d.rg fSHD_FW_STATE = 2 → d.flash.lives.length = 2 → Completes .lifetimeRecordWrite s (fun t => lifetime t ∧
      t.dev.regs = d.regs ∧ t.dev.plots = d.plots ∧ t.dev.flash.bytes = d.flash.bytes))

/-- Power in mW, energy in nJ, D in 256ths; `l` is the limit in force (R440). -/
def Obligations.PowerRegulation : Prop :=
  ∀ s : State, Live s →
    let d := s.dev
    let l := min (1000 * d.rg fTHM_PWR_CFG_SUST_W) (min d.therm.limit (coolLimit d))
    let full := l = 1000 * d.rg fTHM_PWR_CFG_SUST_W
    let locked := d.rg fTHM_PWR_STATUS_LOCKED = 1
    (d.rg fTHM_PWR_CFG_SUST_W ≤ 1800 → 1 ≤ d.therm.duty → d.therm.duty ≤ 256 → ∀ mw,
      let e := min 3000000000 (d.therm.excess + mw - l)
      let y := if e = 0 then 0 else d.therm.excursion + 1
      let target100 := if locked then 95 * l else 100 * (1000 * d.rg fTHM_PWR_CFG_PEAK_W)
      let duty := if target100 < 100 * mw then max 1 (d.therm.duty - 8)
        else if 100 * (100 * mw) < 98 * target100 then min 256 (d.therm.duty + 1) else d.therm.duty
      let lock := if locked then ¬ (e = 0 ∧ full) else e = 3000000000 ∨ 10000 ≤ y ∨ ¬ full
      Completes (.powerSample mw) s (fun t =>
        t.dev.therm.excess = e ∧ t.dev.therm.excursion = y ∧
        (mw ≤ 2100000 → t.dev.therm.duty = duty ∧
          t.dev.rg fTHM_PWR_CNT_FAST_CUTS = d.rg fTHM_PWR_CNT_FAST_CUTS) ∧
        (2100000 < mw → t.dev.therm.duty = max 1 (duty / 2) ∧ t.dev.therm.cutAge = some 0 ∧
          t.dev.rg fTHM_PWR_CNT_FAST_CUTS = min (2 ^ 32 - 1) (d.rg fTHM_PWR_CNT_FAST_CUTS + 1) ∧ Raised 3 t.dev ∧
          SawClass 2 t.dev ∧ t.dev.rg fTHM_EMERG_FAST_CUT = 1 ∧ t.dev.rg fTHM_EMERG_ACTIVE = 1) ∧
        t.dev.rg fTHM_PWR_STATUS_DUTY = t.dev.therm.duty - 1 ∧ t.dev.rg fTHM_PWR_STATUS_E_MJ = e / 1000000 ∧
        t.dev.rg fTHM_PWR_STATUS_L_W = l / 1000 ∧ t.dev.rg fTHM_PWR_STATUS_P_W = min 4095 (mw / 1000) ∧
        (t.dev.rg fTHM_PWR_STATUS_LOCKED = 1 ↔ lock) ∧
        (lock → ¬ locked → t.dev.rg fTHM_PWR_CNT_LOCKS = min (2 ^ 32 - 1) (d.rg fTHM_PWR_CNT_LOCKS + 1)) ∧
        t.dev.plots = d.plots ∧ t.dev.scr = d.scr ∧ t.dev.bed = d.bed ∧ t.dev.gddr = d.gddr)) ∧
    (∀ sust peak, sust < 4096 → peak < 4096 →
      (300 ≤ sust → sust ≤ 1800 → sust ≤ peak → peak ≤ 2100 → Gives (.thmPwrCfgWrite (peak * 2 ^ 16 + sust)) s
        ((d.rs fTHM_PWR_CFG_SUST_W sust).rs fTHM_PWR_CFG_PEAK_W peak)) ∧
      (sust < 300 ∨ 1800 < sust ∨ peak < sust ∨ 2100 < peak → Completes (.thmPwrCfgWrite (peak * 2 ^ 16 + sust)) s (fun t =>
        SawClass 2 t.dev ∧ t.dev.rg fTHM_PWR_CFG_SUST_W = d.rg fTHM_PWR_CFG_SUST_W ∧
        t.dev.rg fTHM_PWR_CFG_PEAK_W = d.rg fTHM_PWR_CFG_PEAK_W))) ∧
    (∀ bits, (∀ i, i < 6 → bitOf bits i = false) → exec (.pmbusPoll bits) s = .next s) ∧
    (∀ bits r, r < 6 → bitOf bits r = true → Completes (.pmbusPoll bits) s (fun t => SawClass 2 t.dev ∧
      r ∈ t.dev.therm.faults ∧ (∀ x ∈ d.therm.faults, x ∈ t.dev.therm.faults) ∧ t.dev.rg fTHM_EMERG_PMBUS_FAULT = 1 ∧
      t.dev.rg fTHM_EMERG_ACTIVE = 1)) ∧
    (∀ r, r < 6 → Completes (.pmbusTimeout r) s (fun t => SawClass 2 t.dev ∧ t.dev.therm = d.therm ∧ SameStores d { t.dev with tray := d.tray })) ∧
    (∀ r mv nominal, (r, nominal) ∈ [(0, 750), (1, 750), (2, 1050), (3, 1200), (4, 900)] →
      (97 * nominal ≤ 100 * mv → 100 * mv ≤ 103 * nominal →
        Gives (.voutCommand r mv) s { d with therm := { d.therm with rails := d.therm.rails.set r mv } }) ∧
      (100 * mv < 97 * nominal ∨ 103 * nominal < 100 * mv →
        Completes (.voutCommand r mv) s (fun t => SawClass 2 t.dev ∧ t.dev.therm = d.therm))) ∧
    (∀ mv, Completes (.voutCommand 5 mv) s (fun t => SawClass 2 t.dev ∧ t.dev.therm = d.therm)) ∧
    (∀ r, r < 6 → Completes (.pmbusClearFaults r) s (fun t => r ∉ t.dev.therm.faults ∧
      (∀ x, x ≠ r → (x ∈ t.dev.therm.faults ↔ x ∈ d.therm.faults)) ∧
      ((∀ x ∈ d.therm.faults, x = r) → t.dev.rg fTHM_EMERG_PMBUS_FAULT = 0)))

/-- Readings in units of 0.125 °C; every plot is in state AGREE and gives the readings `l` and `b`, but for plot `p` where
one is named. -/
def Obligations.ThermalSensors : Prop :=
  ∀ s : State,
    let d := s.dev
    let off (p : Nat) : Int := signedOf 12 (d.rg (fTHM_PLOT_ARB_EXP_OFFSET.at p))
    let st (p : Nat) (t : State) : Nat := t.dev.rg (fTHM_PLOT_SENSE_STATE.at p)
    let level (on now : Nat) (x lim : Int) : Prop := now = if (if on = 1 then lim - 24 < x else lim < x) then 1 else 0
    (∀ l b inlet outlet : Int, -160 ≤ l → l ≤ 1200 → -160 ≤ b → b ≤ 1200 → d.therm.fcValid = false → d.therm.flowStop = false →
      (∀ p, isPlot p = true → st p s = 0) → (∀ p, isPlot p = true → (l - b - off p).natAbs ≤ 48) →
      let x := (max 0 (max (l - 800) (b - 760))).toNat
      let sust := d.rg fTHM_PWR_CFG_SUST_W
      (l < 920 → b < 840 → Completes (.sensorSample (some l, some b) [] (some inlet) (some outlet)) s (fun t =>
        t.dev.rg fTHM_STATUS_HOT_LOGIC = codeOf 12 l ∧ t.dev.rg fTHM_STATUS_HOT_BED = codeOf 12 b ∧
        t.dev.rg fTHM_STATUS_PLOT_LOGIC = 0 ∧ t.dev.rst = d.rst ∧
        (∀ p, isPlot p = true → st p t = 0 ∧ t.dev.rg (fTHM_PLOT_SENSE_LOGIC.at p) = codeOf 12 l ∧
          t.dev.rg (fTHM_PLOT_SENSE_BED.at p) = codeOf 12 b ∧ t.dev.rg (fTHM_PLOT_SENSE_LOGIC_ARB.at p) = codeOf 12 l ∧
          t.dev.rg (fTHM_PLOT_SENSE_BED_ARB.at p) = codeOf 12 b) ∧
        level (d.rg fTHM_STATUS_WARN_LOGIC) (t.dev.rg fTHM_STATUS_WARN_LOGIC) l 760 ∧
        level (d.rg fTHM_STATUS_WARN_BED) (t.dev.rg fTHM_STATUS_WARN_BED) b 720 ∧
        level (d.rg fTHM_STATUS_THR_LOGIC) (t.dev.rg fTHM_STATUS_THR_LOGIC) l 800 ∧
        level (d.rg fTHM_STATUS_THR_BED) (t.dev.rg fTHM_STATUS_THR_BED) b 760 ∧
        t.dev.therm.limit = min (1000 * sust * max 16 (80 - x) / 80) (d.therm.limit + sust) ∧
        (d.rg fTHM_STATUS_STOP = 0 → t.dev.rg fTHM_STATUS_STOP = if 880 ≤ l ∨ 800 ≤ b then 1 else 0) ∧
        (d.rg fTHM_STATUS_STOP = 1 → t.dev.rg fTHM_STATUS_STOP = if l ≤ 840 ∧ b ≤ 760 then 0 else 1))) ∧
      (920 ≤ l → (d.sense 0).hotLogic = true → d.rst.trip = false →
        Completes (.sensorSample (some l, some b) [] (some inlet) (some outlet)) s (fun t =>
          t.dev.rst.held = true ∧ t.dev.rst.trip = true ∧ t.dev.rg fAON_RESET_CAUSE_THERM_TRIP = 1 ∧
          t.dev.rg fTHM_TRIP_LOG_TRIPS = min 65535 (d.rg fTHM_TRIP_LOG_TRIPS + 1) ∧ t.dev.rg fTHM_TRIP_LOG_PLOT = 0 ∧
          t.dev.rg fTHM_TRIP_LOG_KIND = 0 ∧ t.dev.rg fTHM_TRIP_LOG_VALUE = codeOf 12 l)) ∧
      (Live s → l < 872 → b < 792 → ∀ p, isPlot p = true →
        ((d.sense p).badLogic = 7 → (d.sense p).badBoth < 7 → Completes (.sensorSample (some l, some b) [(p, none, some b)] (some inlet) (some outlet))
          s (fun t => st p t = 2 ∧ SawClass 3 t.dev ∧ t.dev.rg (fTHM_PLOT_SENSE_LOGIC_INVALID.at p) = 1 ∧
            t.dev.rg (fTHM_PLOT_SENSE_LOGIC_ARB.at p) = codeOf 12 (b + off p) ∧
            t.dev.rg (fTHM_PLOT_SENSE_BED_ARB.at p) = codeOf 12 b)) ∧
        (d.rg (fTHM_PLOT_SENSE_DIS_COUNT.at p) = 7 → ∀ l' b' : Int, -160 ≤ l' → l' < 872 → -160 ≤ b' → b' < 792 → b' + off p < 872 →
          l' - off p < 792 → 48 < (l' - b' - off p).natAbs →
          Completes (.sensorSample (some l, some b) [(p, some l', some b')] (some inlet) (some outlet)) s (fun t =>
            st p t = 1 ∧ SawClass 3 t.dev ∧ t.dev.rg (fTHM_PLOT_SENSE_DIS_COUNT.at p) = 8 ∧
            t.dev.rg (fTHM_PLOT_SENSE_LOGIC_ARB.at p) = codeOf 12 (max l' (b' + off p)) ∧
            t.dev.rg (fTHM_PLOT_SENSE_BED_ARB.at p) = codeOf 12 (max b' (l' - off p)))))) ∧
    (Live s → ∀ p, isPlot p = true →
      let badL := d.rg (fTHM_PLOT_SENSE_LOGIC_INVALID.at p) = 1
      let badB := d.rg (fTHM_PLOT_SENSE_BED_INVALID.at p) = 1
      let mask (t : State) : Nat := t.dev.rg (fTHM_PLOT_ARB_MASK.at p)
      let masked (k : Nat) (t : State) : Prop :=
        mask t = k ∧ st p t = k + 1 ∧ t.dev.rg (fTHM_PLOT_SENSE_DIS_COUNT.at p) = 0 ∧ SawClass 3 t.dev
      (∀ k, (k = 1 ∧ ¬ badB ∨ k = 2 ∧ ¬ badL) → st p s ≠ 5 → Completes (.sensorMaskWrite p k) s (masked k)) ∧
      (∀ k, k < 3 → (st p s = 5 ∨ k = 1 ∧ badB ∨ k = 2 ∧ badL) → Completes (.sensorMaskWrite p k) s (fun t => SawClass 3 t.dev ∧
        mask t = mask s ∧ st p t = st p s)) ∧
      Completes (.sensorMaskWrite p 3) s (fun t => SawClass 3 t.dev ∧ mask t = mask s ∧ st p t = st p s) ∧
      (st p s = 2 ∨ st p s = 3 → ¬ badL → ¬ badB → Completes (.sensorMaskWrite p 0) s (fun t => mask t = 0 ∧ st p t = 0 ∧
        t.dev.rg (fTHM_PLOT_SENSE_DIS_COUNT.at p) = 0)) ∧
      (st p s = 1 → Completes (.undecidedWrite p 1) s (fun t => st p t = 4 ∧ SawClass 3 t.dev ∧
        t.dev.rg (fTHM_PLOT_ARB_UNDECIDED.at p) = 1)) ∧
      (st p s = 4 → Completes (.undecidedWrite p 0) s (fun t => st p t = 1 ∧
        t.dev.rg (fTHM_PLOT_SENSE_DIS_COUNT.at p) = 0 ∧ t.dev.rg (fTHM_PLOT_ARB_UNDECIDED.at p) = 0)) ∧
      (st p s = 1 ∨ st p s = 4 → d.rg fSHD_FW_STATE = 2 → ¬ badL → ¬ badB → ∀ model : List (Nat × Nat × Nat),
        let v := resolve d p (fun q => ((model.find? (fun e => e.1 = q)).map (·.2)).getD (0, 0))
        Completes (.sensorResolve p model) s (fun t => if v = 0 then st p t = 4 else masked v t)))

/-- Flow in units of 0.01 L/min, duty in 0.1 %. -/
def Obligations.CoolantAndMonitors : Prop :=
  ∀ s : State,
    let d := s.dev
    let kept (fs : List Fld) (t : State) : Prop := ∀ f ∈ fs, t.dev.rg f = d.rg f
    (∀ ac, 7 ≤ d.therm.intervals.length → 0 < d.rg fTHM_COOL_CFG_PULSES_PER_L → 0 < ac →
      let is := ac :: d.therm.intervals.take 7
      let k := d.rg fTHM_COOL_CFG_PULSES_PER_L * is.sum
      Gives (.flowPulseEdge ac) s (({ d with therm := { d.therm with intervals := is } }.rs fTHM_COOL_STATUS_FLOW
        (min 4095 ((2 * (480 * 100 * 25000000) + k) / (2 * k)))).rs fTHM_COOL_STATUS_NO_PULSE 0)) ∧
    (d.rg fTHM_PWR_CFG_SUST_W ≤ 1800 → Completes .noPulseTimeout s (fun t => t.dev.therm.flowStop = true ∧
      t.dev.rg fTHM_COOL_STATUS_FLOW = 0 ∧ t.dev.rg fTHM_COOL_STATUS_NO_PULSE = 1 ∧ t.dev.rg fTHM_COOL_STATUS_DUTY = 1000 ∧
      t.dev.rg fTHM_LIMIT_LC_W = 150 * d.rg fTHM_PWR_CFG_SUST_W / 1000 ∧ t.dev.rg fTHM_EMERG_FLOW_STOP = 1 ∧
      t.dev.rg fTHM_EMERG_ACTIVE = 1 ∧ (d.therm.flowStop = false → Live s → SawClass 3 t.dev))) ∧
    (d.rg fTHM_COOL_CTRL_MODE = 0 →
      (∀ f ∈ [fTHM_STATUS_THR_LOGIC, fTHM_STATUS_THR_BED, fTHM_STATUS_STOP], d.rg f = 0) →
      d.therm.flowLow = false → d.therm.flowThr = false → d.therm.flowStop = false → ∀ flow n, 0 < n →
      d.therm.flows = [(flow, n)] → 0 < d.rg fTHM_COOL_CFG_FLOW_SET → d.rg fTHM_COOL_CFG_DUTY_MIN ≤ 1000 →
      let set : Int := d.rg fTHM_COOL_CFG_FLOW_SET
      let duty : Int := d.rg fTHM_COOL_STATUS_DUTY + (2 * (250 * (set - flow)) + set) / (2 * set)
      Gives .coolReqTrackUpdate s (d.rs fTHM_COOL_STATUS_DUTY
        (max (d.rg fTHM_COOL_CFG_DUTY_MIN : Int) (min 1000 duty)).toNat)) ∧
    (d.rg fTHM_COOL_CTRL_MODE = 1 → exec .coolReqTrackUpdate s = .next s) ∧
    (Live s →
      (∀ x y, x < 4096 → y < 4096 → Completes (.thmForecastWrite (x * 2 ^ 52 + y * 2 ^ 40)) s (fun t =>
        t.dev.rg fTHM_FORECAST_PRED_LOGIC = x ∧ t.dev.rg fTHM_FORECAST_PRED_BED = y ∧ t.dev.therm.fcValid = true ∧
        t.dev.rg fTHM_STATUS_FC_IN_USE = d.rg fTHM_CFG_FORECAST_EN % 2)) ∧
      (d.therm.fcValid = true → Completes .forecastExpiry s (fun t => t.dev.therm.fcValid = false ∧
        t.dev.rg fTHM_STATUS_FC_IN_USE = 0 ∧ (d.rg fTHM_CFG_FORECAST_EN = 1 → SawClass 3 t.dev))) ∧
      (d.therm.fcValid = false → exec .forecastExpiry s = .next s) ∧
      (∀ ppl set lo, 3000 ≤ ppl → ppl < 65536 → 120 ≤ set → set ≤ 1000 → lo ≤ 1000 →
        Gives (.thmCoolCfgWrite 0 (ppl * 2 ^ 32 + set * 2 ^ 16 + lo)) s
          (((d.rs fTHM_COOL_CFG_PULSES_PER_L ppl).rs fTHM_COOL_CFG_FLOW_SET set).rs fTHM_COOL_CFG_DUTY_MIN lo)) ∧
      (∀ ppl set lo, ppl < 65536 → set < 4096 → lo < 1024 → (ppl < 3000 ∨ set < 120 ∨ 1000 < set ∨ 1000 < lo) →
        Completes (.thmCoolCfgWrite 0 (ppl * 2 ^ 32 + set * 2 ^ 16 + lo)) s (fun t => SawClass 3 t.dev ∧
          kept [fTHM_COOL_CFG_PULSES_PER_L, fTHM_COOL_CFG_FLOW_SET, fTHM_COOL_CFG_DUTY_MIN] t)) ∧
      (∀ mode duty, mode < 2 → duty ≤ 1000 → Completes (.thmCoolCfgWrite 1 (mode * 2 ^ 12 + duty)) s (fun t =>
        t.dev.rg fTHM_COOL_CTRL_MODE = mode ∧ t.dev.rg fTHM_COOL_CTRL_DUTY_FIXED = duty ∧
        (coolFull d = false → mode = 1 → t.dev.rg fTHM_COOL_STATUS_DUTY = duty))) ∧
      (∀ en w, en < 2 → w ≤ 900 → Gives (.thmCoolCfgWrite 2 (en * 2 ^ 63 + w)) s
        ((d.rs fTHM_WARM_WARM_EN en).rs fTHM_WARM_FLOOR_W w)) ∧
      (∀ c mv, c < 80 →
        (mv + d.rg (fTHM_MON_THRESH_MV.at c) < 750 → Gives (.vddPlotDroop c mv) s ((d.count (fTHM_MON_DROOPS.at c) 1).rs
          (fTHM_MON_MIN_MV.at c) (min mv (d.rg (fTHM_MON_MIN_MV.at c))))) ∧
        (750 ≤ mv + d.rg (fTHM_MON_THRESH_MV.at c) → exec (.vddPlotDroop c mv) s = .next s)) ∧
      (∀ c clear th, c < 80 → clear < 65536 → 0 < th → th < 64 → d.rg (fTHM_MON_DROOPS.at c) < 65536 →
        Completes (.thmMonWrite c (clear * 2 ^ 48 + 0xFFF * 2 ^ 24 + th)) s (fun t => t.dev.rg (fTHM_MON_THRESH_MV.at c) = th ∧
          t.dev.rg (fTHM_MON_MIN_MV.at c) = 0xFFF ∧
          (∀ i, bitOf (t.dev.rg (fTHM_MON_DROOPS.at c)) i = (bitOf (d.rg (fTHM_MON_DROOPS.at c)) i && !bitOf clear i)))) ∧
      (∀ c, c < 80 → Completes (.thmMonWrite c 0) s (fun t => SawClass 3 t.dev ∧
        t.dev.rg (fTHM_MON_THRESH_MV.at c) = d.rg (fTHM_MON_THRESH_MV.at c))) ∧
      (∀ counts : List Nat, Completes (.monitorWindow counts) s (fun t =>
        OnlyRegs ((List.range 80).map fTHM_MON_RO_COUNT.at) d t.dev ∧
        ∀ i, i < 80 → t.dev.rg (fTHM_MON_RO_COUNT.at i) =
          (counts[i]?.map (· % 2 ^ 20)).getD (d.rg (fTHM_MON_RO_COUNT.at i)))) ∧
      ∀ m, MailIn d 0x0400 m → Completes .thermalQuery s (RepliedWith m 0 (thermalBody d) ∘ State.dev))

/-- The table of R408: `k` is a step, `c` its command. -/
def Obligations.BringUpWindow : Prop :=
  ∀ s : State, Live s →
    let d := s.dev
    let st (t : State) : Nat := t.dev.rg fBRW_STATUS_STATE
    let last (t : State) : Nat := t.dev.rg fBRW_STATUS_LAST_DONE
    let step (t : State) : Nat := t.dev.rg fBRW_STATUS_STEP
    let code (t : State) : Nat := t.dev.rg fBRW_STATUS_CODE
    let aon (t : State) : Nat := t.dev.rg fBRW_FAILSTART_AON_COPY
    let counted (t : State) : Prop := d.boot.failCounted = false → last s < 12 →
      t.dev.boot.failCounted = true ∧ aon t = min 255 (aon s + 1) ∧ t.dev.flash.failStart = min 255 (d.flash.failStart + 1)
    let n := max d.flash.failStart (aon s)
    (st s = 0 → ∀ src clk west east, src < 4 → clk < 4 → west < 2 → east < 2 →
      Completes (.strapsSampled src clk west east true) s (fun t =>
        t.dev.rg fBRW_STRAPS_BOOT_SRC = src ∧ t.dev.rg fBRW_STRAPS_CLK_MODE = clk ∧
        t.dev.rg fBRW_STRAPS_HALF_ID_WEST = west ∧ t.dev.boot.halfEast = east ∧ t.dev.flash.failStart = n ∧
        (src < 2 → n < 3 → st t = 2 ∧ last t = last s) ∧
        (2 ≤ src ∨ 3 ≤ n → st t = 4 ∧ code t = 0x0115 ∧ SawClass 1 t.dev ∧ t.dev.rg fAON_DSTATE_STATE = 4 ∧
          t.dev.rg fSHD_FW_STATE = 4))) ∧
    (st s ≠ 0 → ∀ src clk west east ok, exec (.strapsSampled src clk west east ok) s = .next s) ∧
    (∀ (sfdp lock : Bool) (ports lib base : Nat) (words down : List Nat) (rows : List (Nat × Nat × Nat × Nat))
      (fails : List (Nat × Nat)) (results : List (Nat × Nat × Nat)),
      ∀ e ∈ [(1, Instr.stepConfig sfdp), (2, .stepLicence), (3, .stepHalves ports), (3, .halvesPartnerTimeout),
        (4, .stepClocks lock), (5, .stepLanes), (6, .stepBeds rows), (7, .stepPlots fails), (8, .stepGddr down results),
        (9, .stepShed), (10, .stepSow lib base words), (11, .stepHandshake), (12, .stepRun)],
      let k := e.1
      let c := e.2
      (st s = 2 ∧ last s + 1 ≠ k ∨ st s ≠ 2 ∧ ¬ (st s = 1 ∧ step s = k ∧ d.boot.acted = false) →
        Completes c s (fun t => SawClass 1 t.dev ∧ st t = st s ∧ last t = last s ∧ step t = step s ∧ code t = code s ∧
          t.dev.boot = d.boot ∧ t.dev.plots = d.plots ∧ t.dev.flash = d.flash)) ∧
      (st s = 2 → last s + 1 = k → Completes c s (fun t => st t = 1 ∧ step t = k ∧ last t = last s ∧
        t.dev.boot.acted = true ∧ Raised 1 t.dev))) ∧
    (∀ (k ac : Nat), st s = 1 → step s = k → d.boot.acted = true → k ∈ [1, 2, 3, 4, 6, 7, 8, 9, 12] → ac < 2 ^ 32 →
      (d.boot.outcome = none → ∀ ok, exec (.brwStepComplete ac ok) s = .next s) ∧
      (d.boot.outcome = some 0 → ∀ ok, Completes (.brwStepComplete ac ok) s (fun t => st t = 2 ∧ last t = k ∧
        code t = d.boot.warn % 2 ^ 16 ∧ t.dev.rg fBRW_ELAPSED_AC = ac ∧
        (k = 9 → t.dev.rg fSHD_FW_STATE = 2 ∧ ∀ i, 1 ≤ i → i < 8 → t.dev.rg (fSHD_CORE_CTRL_RUN.at i) = 1) ∧
        (k = 12 → t.dev.rg fAON_DSTATE_STATE = 2 ∧ aon t = 0 ∧ t.dev.flash.failStart = 0))) ∧
      (∀ x, d.boot.outcome = some x → x / 256 = 1 → Completes (.brwStepComplete ac true) s (fun t => st t = 3 ∧ code t = x ∧
        last t = last s ∧ SawClass 1 t.dev ∧ counted t))) ∧
    (∀ e ∈ [(1, 500), (2, 200), (3, 100), (4, 20), (5, 500), (6, 200), (7, 200), (8, 500), (9, 2000), (10, 100), (12, 10)],
      st s = 1 → step s = e.1 → Completes (.brwStepTimeout true) s (fun t => st t = 3 ∧ code t = 0x0103 ∧ last t = last s ∧
        t.dev.rg fBRW_ELAPSED_AC = e.2 * 25000 ∧ SawClass 1 t.dev ∧ counted t)) ∧
    (st s ≠ 1 ∨ step s = 11 → ∀ ok, exec (.brwStepTimeout ok) s = .next s) ∧
    (st s = 1 ∨ st s = 2 → last s < 12 → Completes .brwWatchdog s (fun t => t.dev.rst.held = true ∧
      t.dev.rg fAON_RESET_CAUSE_WDOG_BRW = 1 ∧ t.dev.boot.wdogFired = true ∧ t.dev.scr = [] ∧
      (d.boot.failCounted = false → aon t = min 255 (aon s + 1)))) ∧
    (12 ≤ last s ∨ st s = 3 ∨ st s = 4 → exec .brwWatchdog s = .next s) ∧
    (∀ v, v < 256 → 0 < v → Gives (.brwWdogWrite v) s (d.rs fBRW_WDOG_SECONDS v)) ∧
    Completes (.brwWdogWrite 0) s (fun t => SawClass 1 t.dev ∧ t.dev.rg fBRW_WDOG_SECONDS = d.rg fBRW_WDOG_SECONDS) ∧
    (∀ e ∈ [(1, Instr.writeConfig), (2, .writeLicence), (3, .writeImage)],
      let len := d.rg fBRW_PUSH_LEN_LENGTH
      let result (t : State) : Nat := t.dev.rg fBRW_RECOVERY_RESULT
      (st s ≠ 4 ∨ result s = 1 → Completes e.2 s (fun t => SawClass 1 t.dev ∧ result t = result s ∧ t.dev.boot = d.boot)) ∧
      (st s = 4 → result s ≠ 1 → len = 0 → Gives e.2 s (d.rs fBRW_RECOVERY_RESULT 2)) ∧
      (st s = 4 → result s ≠ 1 → 524288 < len → Completes e.2 s (fun t => result t = 3 ∧
        t.dev.rg fBRW_RECOVERY_CODE = 0x0110 ∧ t.dev.boot = d.boot)) ∧
      (st s = 4 → result s ≠ 1 → 0 < len → len ≤ 524288 → Completes e.2 s (fun t => result t = 1 ∧
        t.dev.boot = { d.boot with command := some e.1 } ∧ Raised 1 t.dev))) ∧
    (d.boot.command = none → exec .recoveryCommandDone s = .next s) ∧
    (d.boot.command = some 1 → d.shed.sramErr = [] → d.rg fBRW_PUSH_LEN_LENGTH = 22565 →
      (shake256 64 (aelmoKey d)).take 32 = s.fused.keyHash →
      let b := memRead d.shed.sram pushBase 22565
      let ok := configCheck s.fused (d.rs fTRU_STATUS_KEY_VALID 1) b = (0, 0)
      (ok → Completes .recoveryCommandDone s (fun t => t.dev.rg fBRW_RECOVERY_RESULT = 2 ∧ t.dev.boot.command = none ∧
        flRead t.dev flCONFIG 22565 = b ∧ aon t = 0 ∧ t.dev.flash.failStart = 0)) ∧
      ((configCheck s.fused (d.rs fTRU_STATUS_KEY_VALID 1) b).1 ≠ 0 → Completes .recoveryCommandDone s (fun t =>
        t.dev.rg fBRW_RECOVERY_RESULT = 3 ∧ t.dev.rg fBRW_RECOVERY_CODE = 0x0116 ∧ t.dev.boot.command = none ∧
        t.dev.flash = d.flash)))

/-- Steps 1 to 9, 11 and 12, started from DONE with their objects in flash. -/
def Obligations.BringUpSteps : Prop :=
  ∀ s : State, Live s → s.dev.rg fBRW_STATUS_STATE = 2 → s.dev.rg fBRW_STRAPS_BOOT_SRC = 0 →
    let d := s.dev
    let f := s.fused
    let next (k : Nat) : Prop := d.rg fBRW_STATUS_LAST_DONE + 1 = k
    let ends (x : Nat) (t : State) : Prop := t.dev.boot.outcome = some x
    let rec1 := flRead d flCONFIG 22565
    let key := (shake256 64 (aelmoKey d)).take 32
    (next 1 →
      Completes (.stepConfig false) s (ends 0x0105) ∧
      (key ≠ f.keyHash → Completes (.stepConfig true) s (fun t => ends 0x0107 t ∧ SawClass 5 t.dev)) ∧
      (key = f.keyHash → configForm rec1 = false → Completes (.stepConfig true) s (fun t => ends 0x0106 t ∧
        t.dev.rg fSOP_DEV_DEV_ID = d.rg fSOP_DEV_DEV_ID ∧ SawClass 5 t.dev)) ∧
      (key = f.keyHash → configCheck f (d.rs fTRU_STATUS_KEY_VALID 1) rec1 = (0, 0) →
        Completes (.stepConfig true) s (fun t => ends 0 t ∧ t.dev.rg fTRU_STATUS_KEY_VALID = 1 ∧
          t.dev.rg fSOP_DEV_DEV_ID = recV rec1 16 2 % 2 ^ fSOP_DEV_DEV_ID.w ∧
          (∀ c, c < 24 → t.dev.rg (fGDC_CFG_SPEED.at c) = recV rec1 18 1 % 4) ∧ t.dev.rg fBRW_WDOG_SECONDS = recV rec1 19 1 ∧
          (∀ o, o < 18 → t.dev.rg (fLNE_ROLE_ROLE.at o) = recV rec1 (20 + o) 1 % 4 ∧
            t.dev.rg (fLNE_ROLE_PORT.at o) = recV rec1 (20 + o) 1 / 16) ∧
          t.dev.trust.cfgRollback = recV rec1 12 4))) ∧
    (next 2 → ∀ seq index, d.rg fTRU_STATUS_KEY_VALID = 1 → certCheck f d (flRead d flCERT licBytes) = 0 →
      (∀ c, c < 3 → pairGood magicR (flRead d (flRESERVE + c * 0x1000) 64) = some (seq, index)) →
      let pk := ((flRead d flCERT licBytes).drop 24).take 68
      let b := flRead d (flLICENCE 0) licBytes
      ((∀ k, k < 8 → licenceHeld (flRead d (flLICENCE k) licBytes) = false) → Completes .stepLicence s (fun t =>
        ends 0x0108 t ∧ t.dev.licence = d.licence)) ∧
      ((∀ k, k < 8 → licenceHeld (flRead d (flLICENCE k) licBytes) = decide (k = 0)) → licenceForm b = true →
        sigCode f d b 128 none = 0 → (b.drop 12).take 32 = shake256 32 pk → Completes .stepLicence s (fun t => ends 0 t ∧
          t.dev.licence = some (licenceOf b) ∧ t.dev.rg fTRU_LIC_SERIAL = recV b 8 4 ∧ t.dev.rg fTRU_LIC_PORTS = recV b 48 1 ∧
          t.dev.rg fTRU_STATUS_CERT_VALID = 1 ∧ t.dev.trust.ident = shake256 32 pk ∧ t.dev.trust.resvOk = true ∧
          t.dev.rg fTRU_XMSS_NEXT_INDEX = index % 2 ^ fTRU_XMSS_NEXT_INDEX.w ∧
          t.dev.rg fTRU_XMSS_RESV_END = index % 2 ^ fTRU_XMSS_RESV_END.w))) ∧
    (next 3 → Completes .halvesPartnerTimeout s (ends 0x010B) ∧ ∀ ports, ports < 2 ^ 17 → ∀ a b x y u,
      f.dieId = [a, b] → f.partner = [x, y] → f.assembled = [u, 1 - u] → u < 2 →
      let same := x = b ∧ y = a ∧ d.rg fBRW_STRAPS_HALF_ID_WEST = u ∧ d.boot.halfEast = 1 - u
      (same → Completes (.stepHalves ports) s (fun t => ends (if ports = 2 ^ 17 - 1 then 0 else 0x010C) t ∧
        t.dev.rg fFAB_BRIDGE_STATUS_PORT_UP = ports)) ∧
      (¬ same → Completes (.stepHalves ports) s (fun t => ends 0x010A t ∧
        t.dev.rg fFAB_BRIDGE_STATUS_PORT_UP = d.rg fFAB_BRIDGE_STATUS_PORT_UP))) ∧
    (next 4 → ∀ lock, Completes (.stepClocks lock) s
      (ends (if d.rg fBRW_STRAPS_CLK_MODE = 3 then 0x010D else if lock then 0 else 0x010E))) ∧
    (next 5 → roleMapBad d = 0 → Completes .stepLanes s (fun t => ∀ o, 1 ≤ o → o < 18 →
      t.dev.rg (fLNE_STATUS_STATE.at o) = if octetRole d o = 0 then d.rg (fLNE_STATUS_STATE.at o) else 1)) ∧
    (next 6 → (∀ r ∈ d.flash.repairs, r.kind ≠ 3) →
      Completes (.stepBeds []) s (fun t => ends 0 t ∧ t.dev.bed = [] ∧ ∀ p, (t.dev.plot p).bedErr = []) ∧
      ∀ p ch bank row, isPlot p = true → ch < 4 → bank < 8 → row < 1024 →
        let used := (d.plot p).rg ((fBED_CH_SPARES_USED.at ch).bit bank)
        used < 8 → Completes (.stepBeds [(p, ch, bank, row)]) s (fun t => ends 0 t ∧ t.dev.bed = [] ∧
          (t.dev.plot p).rg ((fBED_CH_SPARES_USED.at ch).bit bank) = used + 1 ∧
          ((t.dev.plot p).chan ch).remaps = ((d.plot p).chan ch).remaps ++ [(bank, row, used)])) ∧
    (next 7 → d.boot.failed = [] → (∀ r ∈ d.flash.repairs, r.kind ≠ 1 ∧ r.kind ≠ 2) → ∀ l, d.licence = some l →
      l.west ≤ 512 → l.east ≤ 512 → ∀ x : Option (Nat × Nat), (∀ e ∈ x, isPlot e.1 = true) →
      let good (h : Nat) : List Nat := (List.range 2048).filter (fun p => isPlot p && decide (p / 1024 = h) && x.all (fun e => decide (e.1 ≠ p)))
      Completes (.stepPlots x.toList) s (fun t => ends 0 t ∧ (∀ n, n < l.west → t.dev.phys n = (good 0)[n]?) ∧
        (∀ n, n < l.east → t.dev.phys (512 + n) = (good 1)[n]?) ∧ t.dev.rg fBRW_PLOTS_IN_SERVICE = l.west + l.east ∧
        ∀ e ∈ x, t.dev.rg (fBRW_PLOTFAIL_VALID.at 0) = 1 ∧ t.dev.rg (fBRW_PLOTFAIL_PLOT.at 0) = e.1 ∧
          t.dev.rg (fBRW_PLOTFAIL_TEST.at 0) = e.2 % 16)) ∧
    (next 8 → (∀ r ∈ d.flash.repairs, r.kind ≠ 4) → ∀ down : List Nat, (∀ c ∈ down, c < 24) →
      Completes (.stepGddr down []) s (fun t => ends (if down = [] then 0 else 0x090A) t ∧ t.dev.gddr = [] ∧
        (∀ c, c < 24 → t.dev.rg (fGDC_STATUS_STATE.at c) = if c ∈ down then 5 else 2) ∧ (down ≠ [] → SawClass 9 t.dev))) ∧
    (next 9 → ∀ seq slot, slot < 2 → d.shed.sramErr = [] →
      (∀ c, c < 3 → pairGood magicS (flRead d (flSELECT + c * 0x1000) 64) = some (seq, slot)) →
      let img (k : Nat) : List Byte := flRead d (flSLOT k) 524288
      let runs (k : Nat) (t : State) : Prop := ends 0 t ∧ t.dev.rg fSHD_FW_VERSION = recV (img k) 8 4 ∧
        t.dev.rg fTRU_STATUS_SLOT_BOOTED = k ∧ t.dev.trust.region = 0 ∧ t.dev.trust.image = (img k).take 128 ∧
        memRead t.dev.shed.sram 0 (imageLen (img k) + sigBytes) = imageWhole (img k)
      (imageCheck f d (img slot) = 0 → Completes .stepShed s (runs slot)) ∧
      (imageCheck f d (img slot) ≠ 0 → imageCheck f d (img (1 - slot)) = 0 → Completes .stepShed s (fun t =>
        runs (1 - slot) t ∧ t.dev.boot.warn = 0x0515 ∧ SawClass 5 t.dev)) ∧
      (imageCheck f d (img slot) ≠ 0 → imageCheck f d (img (1 - slot)) ≠ 0 → Completes .stepShed s (fun t =>
        ends 0x0112 t ∧ SawClass 5 t.dev ∧ t.dev.shed.sram = d.shed.sram))) ∧
    (next 11 → Completes .stepHandshake s (fun t => t.dev.rg fCPL_MBX_STATUS_IN_READY = 1)) ∧
    (next 12 → Completes .stepRun s (fun t => ends 0 t ∧ t.dev.cpl.hbOn = true ∧ t.dev.cpl.missed = 0))

/-- The states of TRU_UPD are 0 IDLE, 1 STAGED, 2 PENDING, 3 HANDOVER; `up` is the state. -/
def Obligations.FirmwareUpdate : Prop :=
  ∀ s : State, Live s →
    let d := s.dev
    let f := s.fused
    let up (t : State) : Nat := t.dev.rg fTRU_UPD_STATE
    let shown (t : State) : Nat := t.dev.rg fTRU_UPD_CODE
    let selects (slot : Nat) (t : State) : Prop :=
      (pairNewest t.dev flSELECT magicS).map (·.2) = some slot ∧ t.dev.rg fTRU_STATUS_SLOT_ACTIVE = slot
    let refused (c : Instr) (m : Mail) (code : Nat) : Prop := Completes c s (fun t => RepliedWith m code [] t.dev ∧
      SawClass 5 t.dev ∧ up t = up s ∧ t.dev.trust = d.trust ∧ t.dev.flash = d.flash)
    let slot := inactiveSlot d
    (∀ m a n ok, MailIn d 0x0120 m → m.body = leBytes 8 a ++ leBytes 8 n → a < 2 ^ 64 → n < 2 ^ 64 →
      let img := memRead d.gddr a n
      (2 ≤ up s → refused (.updateStage ok) m 0x050A) ∧
      (up s < 2 → n = 0 → Completes (.updateStage ok) s (fun t => RepliedWith m 0 (zeros 16) t.dev ∧ up t = up s ∧
        t.dev.trust = d.trust ∧ t.dev.flash = d.flash)) ∧
      (up s < 2 → 0 < n → (0x1800000000 < a + n ∨ 524288 < n) → refused (.updateStage ok) m 0x0510) ∧
      (up s < 2 → 0 < n → a + n ≤ 0x1800000000 → n ≤ 524288 → imageLen img ≤ n → imageCheck f d img ≠ 0 →
        refused (.updateStage ok) m (imageCheck f d img)) ∧
      (up s < 2 → a + n ≤ 0x1800000000 → n ≤ 524288 → imageCheck f d img = 0 →
        let live := decide (recV img 29 1 = recV d.trust.image 28 1)
        Completes (.updateStage true) s (fun t => up t = 1 ∧ t.dev.trust = { d.trust with staged := some slot, live := live } ∧
          flRead t.dev (flSLOT slot) (imageLen img + sigBytes) = imageWhole img ∧
          RepliedWith m 0 (leBytes 4 (recV img 8 4) ++ leBytes 4 (recV img 12 4) ++ leBytes 1 (if live then 1 else 0) ++
            leBytes 1 slot ++ zeros 6) t.dev) ∧
        Completes (.updateStage false) s (fun t => up t = 0 ∧ t.dev.trust = { d.trust with staged := none } ∧
          RepliedWith m 0x0516 [] t.dev ∧ SawClass 5 t.dev))) ∧
    (∀ m defer, MailIn d 0x0121 m → defer ≤ 3600 → ∀ k, k < 2 → d.trust.staged = some k → up s = 1 →
      (m.body = [0, 0] ++ leBytes 2 defer ++ zeros 4 → Completes .updateActivateMode0 s (fun t => up t = 0 ∧
        t.dev.trust = { d.trust with staged := none } ∧ selects k t ∧ shown t = 0 ∧ RepliedWith m 0 [] t.dev)) ∧
      (m.body = [1, 0] ++ leBytes 2 defer ++ zeros 4 →
        let img := imageWhole (flRead d (flSLOT k) 524288)
        (d.trust.live = false → refused .updateActivateMode1 m 0x050D) ∧
        (d.trust.live = true → imageCheck f d img = 0 → d.shed.sramErr = [] → Completes .updateActivateMode1 s (fun t =>
          up t = 2 ∧ t.dev.trust = { d.trust with defer := defer, deferred := false } ∧ RepliedWith m 0 [] t.dev ∧
          memRead t.dev.shed.sram (regionBase (1 - d.trust.region)) img.length = img)))) ∧
    (∀ m, MailIn d 0x0121 m → m.body = [1, 0, 0, 0] ++ zeros 4 → up s ≠ 1 ∨ d.trust.staged = none →
      refused .updateActivateMode1 m 0x050A) ∧
    (∀ m, MailIn d 0x0122 m →
      (up s = 2 → Completes .updateCancel s (fun t => up t = 1 ∧ Raised 12 t.dev ∧ RepliedWith m 0 [] t.dev ∧
        t.dev.trust = d.trust)) ∧
      (up s ≠ 2 → refused .updateCancel m 0x050A)) ∧
    (∀ k, up s = 3 → d.trust.staged = some k → k < 2 →
      let r := 1 - d.trust.region
      let img := imageWhole (memRead d.shed.sram (regionBase r) 524288)
      Completes .commit s (fun t => up t = 0 ∧ shown t = 0x0512 ∧ SawClass 5 t.dev ∧ Raised 12 t.dev ∧ selects k t ∧
        t.dev.trust = { d.trust with region := r, image := img.take 128, staged := none } ∧
        t.dev.rg fTRU_STATUS_SLOT_BOOTED = k ∧ t.dev.rg fSHD_FW_VERSION = recV img 8 4 ∧ t.dev.rg fSHD_FW_STATE = 2 ∧
        t.dev.steps.hold = clearBit d.steps.hold 0)) ∧
    (up s = 3 → ∀ e ∈ [(Instr.refuse, 0x0511), (Instr.handoverTimeout, 0x050E)], Completes e.1 s (fun t =>
      up t = 1 ∧ shown t = e.2 ∧ SawClass 5 t.dev ∧ Raised 12 t.dev ∧ Raised 14 t.dev ∧ t.dev.trust = d.trust ∧
      t.dev.rg fSHD_FW_STATE = 2 ∧ t.dev.steps.hold = clearBit d.steps.hold 0 ∧
      ∀ i, 1 ≤ i → i < 8 → t.dev.rg (fSHD_CORE_CTRL_RUN.at i) = 0)) ∧
    (up s ≠ 3 → (∀ c ∈ [Instr.commit, Instr.refuse], Completes c s (fun t => SawClass 5 t.dev ∧ up t = up s ∧
      t.dev.trust = d.trust ∧ t.dev.flash = d.flash)) ∧ exec .handoverTimeout s = .next s) ∧
    (up s = 2 → Completes .deferTimeout s (fun t => up t = 1 ∧ shown t = 0x050C ∧ SawClass 5 t.dev ∧ t.dev.trust = d.trust)) ∧
    (up s ≠ 2 → exec .deferTimeout s = .next s)

/-- The fuses change by FUSE_POSITION_DONE alone. -/
def Obligations.FusesLicencesIdentity : Prop :=
  ∀ s : State, Live s →
    let d := s.dev
    let f := s.fused
    let busy := 2 ≤ d.rg fTRU_UPD_STATE
    let refused (c : Instr) (m : Mail) (code : Nat) : Prop := Completes c s (fun t => t.fused = f ∧ t.dev.trust = d.trust ∧
      t.dev.flash = d.flash ∧ SawClass 5 t.dev ∧ RepliedWith m code [] t.dev)
    let target (x : Nat) : Prop := f.rollback < x ∧ x ≤ 64 ∧ x ≤ recV d.trust.image 12 4 ∧ x ≤ d.trust.cfgRollback
    let starts (byMail : Bool) (x : Nat) (c : Instr) : Prop := Gives c s
      (({ d with trust := { d.trust with fuse := some x, byMail := byMail } }.rs fTRU_FUSE_PROG_TARGET x).rs
        fTRU_FUSE_PROG_RESULT 1)
    (∀ m x, x < 256 → MailIn d 0x0130 m → m.body = leBytes 1 x ++ zeros 7 →
      (busy → refused .rollbackAdvance m 0x050A) ∧
      (¬ busy → ¬ target x → refused .rollbackAdvance m 0x0504) ∧
      (¬ busy → target x → d.trust.fuse = none → starts true x .rollbackAdvance)) ∧
    (∀ key x, key < 2 ^ 16 → x < 256 →
      (d.trust.fuse ≠ none → exec (.fuseProgKey (x * 2 ^ 16 + key)) s = .next s) ∧
      (d.trust.fuse = none → key = 0x5AC3 → target x → ¬ busy → starts false x (.fuseProgKey (x * 2 ^ 16 + key))) ∧
      (d.trust.fuse = none → (key ≠ 0x5AC3 ∨ ¬ target x ∨ busy) → Completes (.fuseProgKey (x * 2 ^ 16 + key)) s (fun t =>
        SawClass 5 t.dev ∧ t.dev.trust = d.trust ∧ t.fused = f))) ∧
    (d.trust.fuse = none → ∀ ok, exec (.fusePositionDone ok) s = .next s) ∧
    (∀ x, d.trust.fuse = some x →
      (f.rollback < x → x ≤ 64 → Completes (.fusePositionDone true) s (fun t => t.fused = { f with rollback := f.rollback + 1 } ∧
        t.dev.rg fTRU_STATUS_ROLLBACK = f.rollback + 1 ∧
        (f.rollback + 1 < x → t.dev.trust = d.trust ∧ t.dev.cpl = d.cpl) ∧
        (f.rollback + 1 = x → t.dev.trust = { d.trust with fuse := none, byMail := false } ∧ Raised 15 t.dev ∧
          t.dev.rg fTRU_FUSE_PROG_RESULT = 2 ∧
          ∀ m, d.trust.byMail = true → MailIn d 0x0130 m → RepliedWith m 0 (leBytes 1 x ++ zeros 7) t.dev))) ∧
      Completes (.fusePositionDone false) s (fun t => t.fused = f ∧ SawClass 5 t.dev ∧ Raised 15 t.dev ∧
        t.dev.rg fTRU_FUSE_PROG_RESULT = 3 ∧ t.dev.trust = { d.trust with fuse := none, byMail := false } ∧
        ∀ m, d.trust.byMail = true → MailIn d 0x0130 m → RepliedWith m 0x0513 [] t.dev)) ∧
    (∀ m a n, MailIn d 0x0110 m → m.body = leBytes 8 a ++ leBytes 8 n → a < 2 ^ 64 → n < 2 ^ 64 →
      let b := memRead d.gddr a licBytes
      let store (k : Nat) : List Byte := flRead d (flLICENCE k) licBytes
      (n = 0 → Completes .licenceInstall s (fun t => RepliedWith m 0 (zeros 8) t.dev ∧ t.dev.flash = d.flash)) ∧
      (0 < n → 0x1800000000 < a + n → refused .licenceInstall m 0x0510) ∧
      (licBytes ≤ n → a + n ≤ 0x1800000000 → licenceCheck f d b ≠ 0 → refused .licenceInstall m (licenceCheck f d b)) ∧
      (licBytes ≤ n → a + n ≤ 0x1800000000 → licenceCheck f d b = 0 → ∀ k, k < 8 →
        (∀ j, j < k → licenceHeld (store j) = true) → (∀ j, k ≤ j → j < 8 → licenceHeld (store j) = false) →
        (∀ j, j < k → recV (store j) 8 4 ≠ recV b 8 4) → Completes .licenceInstall s (fun t =>
          flRead t.dev (flLICENCE k) licBytes = b ∧ (∀ j, j < 8 → j ≠ k → flRead t.dev (flLICENCE j) licBytes = store j) ∧
          RepliedWith m 0 (leBytes 4 (recV b 8 4) ++ leBytes 1 k ++ zeros 3) t.dev)) ∧
      (licBytes ≤ n → a + n ≤ 0x1800000000 → licenceCheck f d b = 0 → licenceHeld (store 0) = true →
        recV (store 0) 8 4 = recV b 8 4 → store 0 ≠ b → refused .licenceInstall m 0x0506)) ∧
    (∀ m, MailIn d 0x0111 m → (∀ k, k < 8 → licenceHeld (flRead d (flLICENCE k) licBytes) = false) →
      Completes .licenceList s (RepliedWith m 0 (zeros 128) ∘ State.dev)) ∧
    (12 ≤ d.rg fBRW_STATUS_LAST_DONE → d.rg fTRU_STATUS_IDENT_READY = 0 →
      let good := d.trust.resvOk = true ∧ (Config.identityRoot f.seed).take 32 = (d.trust.pubkey.drop 4).take 32
      (good → Gives .identityTreeBuild s (d.rs fTRU_STATUS_IDENT_READY 1)) ∧
      (¬ good → Completes .identityTreeBuild s (fun t => SawClass 5 t.dev ∧ t.dev.rg fTRU_STATUS_IDENT_READY = 0))) ∧
    (∀ m a lim, MailIn d 0x0100 m → m.body = leBytes 8 a ++ leBytes 4 lim ++ zeros 4 → a < 2 ^ 48 → lim < 2 ^ 32 →
      (hostBase ≤ a → a + licBytes ≤ 2 ^ 48 → licBytes ≤ lim → d.cpl.ackWait = none → Completes .identityGet s (fun t =>
        t.dev.cpl.mail = some m ∧ t.dev.flash = d.flash ∧ t.dev.cpl.ackWait = some (hostLines a licBytes,
          leBytes 4 licBytes ++ zeros 4 ++ padTo 32 d.trust.ident))) ∧
      (a < hostBase ∨ lim < licBytes → refused .identityGet m 0x0510)) ∧
    (∀ m a nonce, MailIn d 0x0101 m → m.body = leBytes 8 a ++ leBytes 4 16384 ++ leBytes 1 nonce.length ++ zeros 3 ++ nonce →
      hostBase ≤ a → a + 16384 ≤ 2 ^ 48 → nonce.length < 256 → d.trust.ident.length ≤ 32 →
      let i := d.rg fTRU_XMSS_NEXT_INDEX
      let e := d.rg fTRU_XMSS_RESV_END
      let ready := d.rg fTRU_STATUS_IDENT_READY ≠ 0
      (nonce.length < 8 ∨ 64 < nonce.length → ∀ ok, refused (.attest ok) m 0x0504) ∧
      (8 ≤ nonce.length → nonce.length ≤ 64 →
        (¬ ready → ∀ ok, refused (.attest ok) m 0x0507) ∧
        (ready → 2 ^ 40 ≤ i + 1 → ∀ ok, refused (.attest ok) m 0x0508) ∧
        (ready → i + 1 < 2 ^ 40 → d.cpl.ackWait = none → e ≤ i → refused (.attest false) m 0x0509) ∧
        (ready → i + 1 < 2 ^ 40 → d.cpl.ackWait = none → ∀ ok, (i < e ∨ ok = true) → Completes (.attest ok) s (fun t =>
          t.dev.rg fTRU_XMSS_NEXT_INDEX = i + 1 ∧ t.dev.cpl.mail = some m ∧ t.fused = f ∧
          (i < e → t.dev.rg fTRU_XMSS_RESV_END = e) ∧
          (e ≤ i → t.dev.rg fTRU_XMSS_RESV_END = min (2 ^ 40 - 1) ((i / 1024 + 1) * 1024)) ∧
          ∃ lines size, t.dev.cpl.ackWait = some (lines, leBytes 4 size ++ zeros 4 ++ leBytes 8 i)))))

/-- The banks of R554: a plot's by its physical identifier, another block's by KIND and INSTANCE. -/
def Obligations.CountersAndRecord : Prop :=
  ∀ s : State, Live s →
    let d := s.dev
    let word (ev cls priv range chain en : Nat) : Nat :=
      ev + cls * 2 ^ 12 + priv * 2 ^ 19 + range * 2 ^ 21 + chain * 2 ^ 22 + en * 2 ^ 23
    (∀ ev cls priv range chain en k, ev < 4096 → cls < 128 → priv < 4 → range < 2 → chain < 2 → en < 2 → k < 8 →
      let data := word ev cls priv range chain en
      let holds (get : Fld → Nat) : Prop := get (fPMC_CFG_EVENT.at k) = ev ∧ get (fPMC_CFG_CLASSES.at k) = cls ∧
        get (fPMC_CFG_PRIV.at k) = priv ∧ get (fPMC_CFG_RANGE_EN.at k) = range ∧ get (fPMC_CFG_CHAIN.at k) = chain ∧
        get (fPMC_CFG_EN.at k) = en ∧ get (fPMC_CFG_MATCH.at k) = 0
      (∀ p, isPlot p = true →
        (eventKnown 0 ev = true → (k = 0 → chain = 0) → Completes (.pmcCfgWrite 0 p k data) s (fun t =>
          holds (fun f => (t.dev.plot p).rg (f.inBank 0x3800)) ∧ SameStores { d with scr := t.dev.scr } t.dev)) ∧
        (eventKnown 0 ev = false ∨ k = 0 ∧ chain = 1 → Completes (.pmcCfgWrite 0 p k data) s (fun t => SawClass 10 t.dev))) ∧
      (∀ kind inst, (kind, inst) ∈ deviceBanks →
        (eventKnown kind ev = true → (k = 0 → chain = 0) → Completes (.pmcCfgWrite kind inst k data) s (fun t =>
          holds (fun f => t.dev.rg (f.inBank (bankOffset kind inst))) ∧ t.dev = { d with regs := t.dev.regs })) ∧
        (eventKnown kind ev = false ∨ k = 0 ∧ chain = 1 → Completes (.pmcCfgWrite kind inst k data) s (fun t =>
          SawClass 10 t.dev ∧ t.dev.rg ((fPMC_CFG_EVENT.at k).inBank (bankOffset kind inst)) =
            d.rg ((fPMC_CFG_EVENT.at k).inBank (bankOffset kind inst)))))) ∧
    (∀ data k, k < 8 →
      (∀ p, isPlot p = true → Completes (.pmcCntWrite 0 p k data) s (fun t =>
        (t.dev.plot p).rg ((fPMC_CNT_COUNT.at k).inBank 0x3800) = data % 2 ^ 48)) ∧
      (∀ kind inst, (kind, inst) ∈ deviceBanks → Completes (.pmcCntWrite kind inst k data) s (fun t =>
        OnlyRegs [(fPMC_CNT_COUNT.at k).inBank (bankOffset kind inst)] d t.dev ∧
        t.dev.rg ((fPMC_CNT_COUNT.at k).inBank (bankOffset kind inst)) = data % 2 ^ 48))) ∧
    (let a := d.rg fPMR_ADDR_ADDR
     let inside := a + 92000 ≤ 0x1800000000 ∨ 0x800000000000 ≤ a ∧ a + 92000 ≤ 0x1000000000000
     let busy := d.rg fPMR_STATUS_BUSY = 1
     (¬ busy → 92000 ≤ d.rg fPMR_LIMIT_LIMIT → inside → Completes .pmrGo s (fun t => t.dev.snap.length = 92000 ∧
       t.dev.rg fPMR_STATUS_BUSY = 1 ∧ t.dev = { d.rs fPMR_STATUS_BUSY 1 with snap := t.dev.snap })) ∧
     (busy ∨ d.rg fPMR_LIMIT_LIMIT < 92000 ∨ ¬ inside → d.rg fDBG_TRIG_ARM = 0 → Completes .pmrGo s (fun t =>
       SawClass 10 t.dev ∧ t.dev.snap = d.snap ∧ t.dev.rg fPMR_STATUS_BUSY = d.rg fPMR_STATUS_BUSY)) ∧
     (d.rg fPMR_STATUS_BUSY = 0 → ∀ report, exec (.snapshotDone report) s = .next s) ∧
     (busy → a % 32 = 0 → a + 92000 ≤ 0x1800000000 → d.snap.length = 92000 → ∀ report, Completes (.snapshotDone report) s
       (fun t => memRead t.dev.gddr a 92000 = d.snap ∧ (∀ x, x < a ∨ a + 92000 ≤ x → memGet t.dev.gddr x = memGet d.gddr x) ∧
         t.dev.rg fPMR_STATUS_BUSY = 0 ∧ t.dev.rg fPMR_STATUS_SNAP = (d.rg fPMR_STATUS_SNAP + 1) % 2 ^ 32 ∧ Raised 9 t.dev ∧
         t.dev.plots = d.plots))) ∧
    (let old := d.rg fERR_IDX_CONSUMER
     let made := d.rg fERR_IDX_PRODUCER
     let ahead (x : Nat) : Nat := (x + 2 ^ 32 - old) % 2 ^ 32
     old < 2 ^ 32 → made < 2 ^ 32 →
     (∀ new, new < 2 ^ 32 →
       (ahead new ≤ ahead made → Gives (.errConsumerWrite new) s (d.rs fERR_IDX_CONSUMER new)) ∧
       (ahead made < ahead new → Completes (.errConsumerWrite new) s (fun t => SawClass 10 t.dev ∧
         t.dev.rg fERR_IDX_CONSUMER = old))) ∧
     (d.rg fSHD_FW_STATE ≠ 2 ∨ old = made → ∀ ok, exec (.errEntryConsume ok) s = .next s) ∧
     (d.rg fSHD_FW_STATE = 2 → old ≠ made → d.rg (fERR_ENTRY_CODE.at (old % 512)) ≠ 0x0909 →
       let a := 0x300000 + d.flash.journal % 16384 * 512
       Completes (.errEntryConsume true) s (fun t => t.dev.rg fERR_IDX_CONSUMER = (old + 1) % 2 ^ 32 ∧
         t.dev.flash.journal = d.flash.journal + 1 ∧ flRead t.dev a 2 = [2, 0] ∧
         flRead t.dev (a + 8) 8 = leBytes 8 d.flash.journal ∧
         flRead t.dev (a + 24) 2 = leBytes 2 (d.rg (fERR_ENTRY_CODE.at (old % 512))) ∧
         (∀ x, x < a / 4096 * 4096 ∨ a / 4096 * 4096 + 4096 ≤ x → flRead t.dev x 1 = flRead d x 1)) ∧
       Gives (.errEntryConsume false) s (d.rs fERR_IDX_CONSUMER (old + 1))))

/-- R567 to R570, with the fault that stands for an instrument the spec leaves undescribed. -/
def Obligations.DebugConnector : Prop :=
  ∀ s : State,
    let d := s.dev
    let shift (die ir value : Nat) (e : Dev) : Dev :=
      { e with tray := { e.tray with ir := e.tray.ir.set die ir }, outs := e.outs ++ [.jtag die value] }
    let refused (die : Nat) (t : State) : Prop := SawClass 10 t.dev ∧ t.dev.tray.ir = d.tray.ir.set die 1 ∧
      t.dev.outs = d.outs ++ [.jtag die 0] ∧ t.fused = s.fused ∧ t.dev.plots = d.plots
    (Live s →
      (d.rg fDBG_TRIG_IN_EN ≠ 1 ∨ d.rg fDBG_TRIG_ARM = 0 → exec .dbgTrigInAsserted s = .next s) ∧
      (d.rg fDBG_TRIG_IN_EN = 1 → d.rg fDBG_TRIG_ARM = 1 → d.rg fDBG_TRIG_ACT_SNAP = 0 →
        Completes .dbgTrigInAsserted s (fun t => t.dev.rg fDBG_TRIG_ARM = 0 ∧
          (d.rg fDBG_TRIG_ACT_PIN = 1 → t.dev.tray = { d.tray with trigOut := true }) ∧
          (d.rg fDBG_TRIG_ACT_IRQ = 1 → Raised 10 t.dev) ∧ t.dev.snap = d.snap)) ∧
      Gives .dbgTrigOutEnd s { d with tray := { d.tray with trigOut := false } } ∧
      (let a := d.rg fDBG_FLASH_ADDR_ADDR
       let reads (v : Nat) (t : State) : Prop := t.dev.outs = d.outs ++ [.regData 0xC00208 v]
       (d.rg fBRW_STATUS_STATE ≠ 4 → a + 8 ≤ 0x2000000 →
         Gives .dbgFlashDataRead s ((d.rs fDBG_FLASH_ADDR_ADDR (a + 8)).says (.regData 0xC00208 (leValue (flRead d a 8))))) ∧
       (d.rg fBRW_STATUS_STATE ≠ 4 → 0x2000000 < a + 8 → Completes .dbgFlashDataRead s (fun t => reads 0 t ∧
         SawClass 10 t.dev ∧ t.dev.rg fDBG_FLASH_ADDR_ADDR = a)) ∧
       (d.rg fBRW_STATUS_STATE = 4 → Completes .dbgFlashDataRead s (fun t => reads 0 t ∧ SawClass 1 t.dev ∧
         t.dev.rg fDBG_FLASH_ADDR_ADDR = a))) ∧
      ∀ j kind inst sig, j < 32 → kind < 16 → inst < 2048 → sig < 256 →
        let set := ((d.rs (fDBG_MUX_KIND.at j) kind).rs (fDBG_MUX_INSTANCE.at j) inst).rs (fDBG_MUX_SIGNAL.at j) sig
        let named := sig = 0 ∨ blockExists kind inst = true ∧ Config.debugSignal kind inst sig = true
        (named → Gives (.dbgMuxWrite j (kind * 2 ^ 20 + inst * 2 ^ 8 + sig)) s set) ∧
        (¬ named → Completes (.dbgMuxWrite j (kind * 2 ^ 20 + inst * 2 ^ 8 + sig)) s (fun t => SawClass 10 t.dev ∧
          t.dev.rg (fDBG_MUX_KIND.at j) = kind ∧ t.dev.rg (fDBG_MUX_INSTANCE.at j) = inst ∧
          t.dev.rg (fDBG_MUX_SIGNAL.at j) = sig))) ∧
    ∀ die, die < 2 →
      Gives (.bypass die) s (shift die 1 0 d) ∧
      Gives (.idcode die) s (shift die 0 (2 ^ 28 + (0xF2A0 + die) * 2 ^ 12 + Config.manufacturer.toNat * 2 + 1) d) ∧
      (∀ cells, Completes (.samplePreload die cells) s (fun t => t.dev.tray.bsr = d.tray.bsr.set die cells ∧
        t.dev.tray.ir = d.tray.ir.set die 2 ∧ ∃ v, v < 2 ^ 64 ∧ t.dev.outs = d.outs ++ [.jtag die v])) ∧
      (d.rst.held = true → Gives (.extest die) s (shift die 3 0 d)) ∧
      (Live s → d.rg fDBG_TRIG_ARM = 0 → Completes (.extest die) s (refused die)) ∧
      (∀ idx, idx < 80 → Completes (.ijtagAccess die 0 idx none) s (fun t =>
          ∃ v, t.dev = shift die 4 v d ∧ t.fused = s.fused ∧ t.pending = s.pending) ∧
        ∀ th, 0 < th → th < 64 → Completes (.ijtagAccess die 0 idx (some th)) s (fun t =>
          t.dev.rg (fTHM_MON_THRESH_MV.at idx) = th ∧ t.dev.tray.ir = d.tray.ir.set die 4)) ∧
      (∀ idx, idx < 32 → Completes (.ijtagAccess die 1 idx (some 0)) s (fun t => t.dev.rg (fDBG_MUX_SIGNAL.at idx) = 0 ∧
        t.dev.rg (fDBG_MUX_KIND.at idx) = 0 ∧ t.dev.outs = d.outs ++ [.jtag die 0])) ∧
      Gives (.ijtagAccess die 2 0 none) s (shift die 4 (leValue s.fused.keyHash) d) ∧
      Gives (.ijtagAccess die 2 4 none) s (shift die 4 s.fused.rollback d) ∧
      (∀ inst idx v, 2 ≤ inst → Live s → d.rg fDBG_TRIG_ARM = 0 → Completes (.ijtagAccess die inst idx (some v)) s (refused die)) ∧
      ∀ inst idx, 3 ≤ inst → exec (.ijtagAccess die inst idx none) s = .fault .undescribedInstrument

/-- The telemetry commands of R582 (the byte order is PMBus's, log entry 46), and MODULE_INSERT, INPUT_RISE, INPUT_FALL and
MODULE_REMOVE where each has its effect. -/
def Obligations.TrayInterface : Prop :=
  (∀ s : State, 4 ≤ s.dev.tray.mated → 44000 ≤ s.dev.tray.vin →
     Gives .capability s (s.dev.says (.pmbus [0x90])) ∧
     Gives .pmbusRevision s (s.dev.says (.pmbus [0x33])) ∧
     Gives .statusWord s (s.dev.says (.pmbus (leBytes 2
       (if s.dev.rst.held || s.dev.rst.off then withBit s.dev.tray.latched 6 else s.dev.tray.latched)))) ∧
     (∀ vin iin pin t1 t2 t3, s.dev.tray.telem = [vin, iin, pin, t1, t2, t3] →
       Gives .readVin s (s.dev.says (.pmbus [BitVec.ofNat 8 vin, BitVec.ofNat 8 (vin / 256)])) ∧
       Gives .readIin s (s.dev.says (.pmbus [BitVec.ofNat 8 iin, BitVec.ofNat 8 (iin / 256)])) ∧
       Gives .readPin s (s.dev.says (.pmbus [BitVec.ofNat 8 pin, BitVec.ofNat 8 (pin / 256)])) ∧
       Gives .readTemperature1 s (s.dev.says (.pmbus [BitVec.ofNat 8 t1, BitVec.ofNat 8 (t1 / 256)])) ∧
       Gives .readTemperature2 s (s.dev.says (.pmbus [BitVec.ofNat 8 t2, BitVec.ofNat 8 (t2 / 256)])) ∧
       Gives .readTemperature3 s (s.dev.says (.pmbus [BitVec.ofNat 8 t3, BitVec.ofNat 8 (t3 / 256)]))) ∧
     Gives .clearFaults s { s.dev with tray := { s.dev.tray with latched := 0 } } ∧
     (∀ vin iin, Completes (.telemetryRefresh vin iin) s (fun t =>
       t = { s with dev := { s.dev with tray := t.dev.tray } } ∧ t.dev.tray.vin = vin ∧ t.dev.tray.iin = iin ∧
       t.dev.tray.telem.length = 6 ∧
       (s.dev.rg fTHM_COOL_STATUS_INLET_BAD = 1 → t.dev.tray.telem[5]? = some 0x7FFF) ∧
       (vin < 48000 → s.dev.rst.off = false → bitOf t.dev.tray.latched 3 = true)))) ∧
  (∀ (s : State) (mv : Nat), s.dev.tray.mated = 0 → s.dev.rst.off = true →
    Gives (.moduleInsert mv) s { s.dev with tray := { s.dev.tray with mated := 5, vin := mv } }) ∧
  (∀ (s : State) (mv sel : Nat), 3 ≤ s.dev.tray.mated → s.dev.rst.off = true → 46000 ≤ mv →
    Completes (.inputRise mv sel) s (fun t =>
      t.dev.rst.off = false ∧ t.dev.rst.held = true ∧ t.dev.tray.vin = mv ∧ t.dev.tray.addrSel = sel % 4 ∧
      t.dev.rg fAON_RESET_CAUSE_POR = 1 ∧ t.dev.rg fAON_RESET_CAUSE_RESET_N = 0 ∧
      t.dev.rg fAON_RESET_CAUSE_THERM_TRIP = 0 ∧ t.dev.flash = s.dev.flash ∧ t.fused = s.fused)) ∧
  (∀ (s : State) (mv : Nat), 3 ≤ s.dev.tray.mated → s.dev.rst.off = false → mv < 44000 →
    Completes (.inputFall mv) s (fun t =>
      t.dev.rst.off = true ∧ t.dev.rst.held = true ∧ t.dev.tray.vin = mv ∧ t.dev.tray.dynAddr = none ∧
      t.dev.plots = [] ∧ t.dev.gddr = [] ∧ t.dev.scr = [] ∧ t.dev.bed = [] ∧ t.dev.regs = [] ∧
      t.dev.flash = s.dev.flash ∧ t.fused = s.fused)) ∧
  (∀ s : State, Completes .moduleRemove s (fun t =>
    t.dev.tray.mated = 0 ∧ t.dev.tray.vin = 0 ∧ (s.dev.rst.off = false → t.dev.rst.off = true ∧ t.dev.rst.held = true) ∧
    t.dev.flash = s.dev.flash ∧ t.fused = s.fused))

/-- The common commands of R583 and the private transfers of R584 over the windows of R585. The values of the characteristics
and the rest of the identifier are the model's free constants, and the place of the part number in the identifier is the
family's (log entry 47). -/
def Obligations.I3cTarget : Prop :=
  (∀ s : State, 4 ≤ s.dev.tray.mated → s.dev.rst.off = false →
     (∀ a, s.dev.tray.dynAddr = none →
       Gives (.entdaa a) s ({ s.dev with tray := { s.dev.tray with dynAddr := some (a % 128) } }.says
         (.i3c (i3cIdent ++ [Config.i3cBcr, Config.i3cDcr]))) ∧
       Gives (.setdasa a) s { s.dev with tray := { s.dev.tray with dynAddr := some (a % 128) } }) ∧
     Gives .rstdaa s { s.dev with tray := { s.dev.tray with dynAddr := none } } ∧
     Gives .getpid s (s.dev.says (.i3c i3cIdent)) ∧
     Gives .getbcr s (s.dev.says (.i3c [Config.i3cBcr])) ∧
     Gives .getdcr s (s.dev.says (.i3c [Config.i3cDcr])) ∧
     i3cIdent[2]? = some 0xF2 ∧ i3cIdent[3]? = some 0xA0) ∧
  ∀ s : State, 4 ≤ s.dev.tray.mated → s.dev.rst.off = false →
    (∀ k, k < 2 ^ 29 → Gives (.setOffset (0x01 :: leBytes 4 (8 * k))) s
      { s.dev with tray := { s.dev.tray with offset := 8 * k, status := 0 } }) ∧
    (∀ v, v < 2 ^ 64 → Completes (.i3cWrite (0x02 :: leBytes 4 0x100018 ++ leBytes 8 v)) s (fun t =>
      t.dev.rg fAON_IDLE_TIMEOUT_AC = v % 2 ^ 24 ∧ t.dev.tray.offset = 0x100020 ∧ t.dev.tray.status = 0 ∧
      OnlyRegs [fAON_IDLE_TIMEOUT_AC] { s.dev with tray := t.dev.tray } t.dev)) ∧
    (s.dev.tray.status = 0 → s.dev.tray.offset = 0x100018 →
      Gives .i3cRead s ({ s.dev with tray := { s.dev.tray with offset := 0x100020 } }.says
        (.i3c (0 :: leBytes 8 (s.dev.rg fAON_IDLE_TIMEOUT_AC))))) ∧
    (s.dev.tray.status = 0 → 0x200000 ≤ s.dev.tray.offset →
      Gives .i3cRead s (s.dev.says (.i3c (0x01 :: zeros 8)))) ∧
    (s.dev.tray.status = 0 → s.dev.rst.held = true → s.dev.tray.offset < 0x100000 →
      Gives .i3cRead s (s.dev.says (.i3c (0x03 :: zeros 8)))) ∧
    (∀ bs : List Byte, bs.length ≠ 5 → Gives (.setOffset bs) s { s.dev with tray := { s.dev.tray with status := 2 } }) ∧
    (∀ bs : List Byte, bs.length ≠ 13 → Gives (.i3cWrite bs) s { s.dev with tray := { s.dev.tray with status := 2 } }) ∧
    (s.dev.tray.status = 2 → Completes .i3cRead s (fun t =>
      t.dev.tray = { s.dev.tray with status := 0 } ∧
      ∃ b : List Byte, b.length = 8 ∧ t.dev.outs = s.dev.outs ++ [.i3c (0x02 :: b)]))

/-- The commands of R493 to R502. The message of TALLY is that of R501 at a port that is UP. -/
def Obligations.ReplicasAndInjection : Prop :=
  (∀ (s : State) (data : Nat), Live s →
    (bitsOf data 32 16 ≠ 0 → bitsOf data 16 16 ≠ 0 → Completes (.sedCfgWrite data) s (fun t =>
      t.dev.rg fSED_CFG_TALLY_TIMEOUT = bitsOf data 32 16 ∧ t.dev.rg fSED_CFG_TALLY_PERIOD = bitsOf data 16 16 ∧
      t.dev.rg fSED_CFG_TALLY_EN = bitsOf data 0 1 ∧
      OnlyRegs [fSED_CFG_TALLY_TIMEOUT, fSED_CFG_TALLY_PERIOD, fSED_CFG_TALLY_EN] s.dev t.dev)) ∧
    (bitsOf data 32 16 = 0 ∨ bitsOf data 16 16 = 0 → Completes (.sedCfgWrite data) s (fun t => SawClass 16 t.dev ∧
      ∀ f, f ∈ [fSED_CFG_TALLY_TIMEOUT, fSED_CFG_TALLY_PERIOD, fSED_CFG_TALLY_EN] → t.dev.rg f = s.dev.rg f)) ∧
    Completes (.sedCritFlipWrite data) s (fun t => t.dev.rg fSED_CRIT_FLIP_ARM = bitsOf data 16 1 ∧
      t.dev.rg fSED_CRIT_FLIP_WORD = bitsOf data 13 3 ∧ t.dev.rg fSED_CRIT_FLIP_COPY = bitsOf data 8 2 ∧
      t.dev.rg fSED_CRIT_FLIP_MASK = bitsOf data 0 8 ∧
      OnlyRegs [fSED_CRIT_FLIP_ARM, fSED_CRIT_FLIP_WORD, fSED_CRIT_FLIP_COPY, fSED_CRIT_FLIP_MASK] s.dev t.dev) ∧
    (∀ p, isPlot p = true → (s.dev.plot p).sleep = 0 → Completes (.plotMemFlipWrite p data) s (fun t =>
      (t.dev.plot p).rg fPLOT_MEM_FLIP_ARM = bitsOf data 26 1 ∧ (t.dev.plot p).rg fPLOT_MEM_FLIP_CHANNEL = bitsOf data 24 2 ∧
      (t.dev.plot p).rg fPLOT_MEM_FLIP_CLASS = bitsOf data 22 2 ∧ (t.dev.plot p).rg fPLOT_MEM_FLIP_POS_B = bitsOf data 15 7 ∧
      (t.dev.plot p).rg fPLOT_MEM_FLIP_POS_A = bitsOf data 0 8 ∧ OnlyPlot p s.dev t.dev ∧
      OnlyPlotRegs [fPLOT_MEM_FLIP_ARM, fPLOT_MEM_FLIP_CHANNEL, fPLOT_MEM_FLIP_CLASS, fPLOT_MEM_FLIP_POS_B,
        fPLOT_MEM_FLIP_POS_A] (s.dev.plot p) (t.dev.plot p)))) ∧
  (∀ (s : State) (m : Mail), Live s →
    (MailIn s.dev 0x0201 m →
      (m.shape 16 12 4 = true → Completes .clockStamp s (fun t => t.dev.trust.stamp = some (m.v 0 8, m.v 8 4) ∧
        RepliedWith m 0 [] t.dev)) ∧
      (m.shape 16 12 4 = false → Completes .clockStamp s (fun t => t.dev.trust.stamp = s.dev.trust.stamp ∧
        RepliedWith m 0x0704 [] t.dev))) ∧
    (MailIn s.dev 0x0202 m → m.shape 48 40 8 = true →
      (m.v 0 2 ≤ 63 → 2 ≤ m.v 3 1 → m.v 3 1 ≤ 16 → m.v 2 1 < m.v 3 1 → m.v 4 2 + m.v 6 2 ≤ 1024 →
        Completes .replicaSet s (fun t => RepliedWith m 0 [] t.dev ∧
          ⟨m.v 0 2, m.v 2 1, m.v 3 1, m.v 4 2, m.v 6 2, (List.range 16).map (fun r => m.v (8 + 2 * r) 2), 0, none, [], 0⟩ ∈
            t.dev.sed.groups)) ∧
      (63 < m.v 0 2 ∨ m.v 3 1 < 2 ∨ 16 < m.v 3 1 ∨ m.v 3 1 ≤ m.v 2 1 ∨ 1024 < m.v 4 2 + m.v 6 2 →
        Completes .replicaSet s (fun t => RepliedWith m 0x100F [] t.dev ∧ t.dev.sed = s.dev.sed))) ∧
    (MailIn s.dev 0x0204 m → m.shape 8 4 4 = true →
      (∀ g, s.dev.sed.groups = [g] → g.group = m.v 0 2 → g.flagged = 1 ∨ g.flagged = 2 →
        (m.v 3 1 = 0 → Completes .replicaDecide s (fun t => RepliedWith m 0 [] t.dev ∧
          t.dev.sed.groups = [{ g with flagged := 0 }] ∧ bitOf t.dev.steps.hold 1 = false)) ∧
        (m.v 3 1 = 1 → g.self = m.v 2 1 → Completes .replicaDecide s (fun t => t.dev.cpl.mail = none ∧
          t.dev.sed.groups = [{ g with flagged := 3 }] ∧ bitOf t.dev.steps.hold 1 = true))) ∧
      ((∀ g, g ∈ s.dev.sed.groups → g.flagged = 0) → Completes .replicaDecide s (fun t =>
        RepliedWith m 0x100F [] t.dev ∧ t.dev.sed = s.dev.sed ∧ t.dev.steps = s.dev.steps)))) ∧
  (∀ (s : State) (g : Replica) (port src hops now rep epoch : Nat) (dig : List Byte), Live s → port < 16 →
    s.dev.rg (fSOP_PORT_STATUS_STATE.at port) = 3 → src < 2 ^ 16 → hops < 64 → s.dev.rg fSOP_DEV_DEV_ID < 2 ^ 16 →
    s.dev.rg fSHD_FW_STATE = 2 → s.dev.mgmt = [] → s.dev.sed.groups = [g] → g.waiting = none → g.group < 2 ^ 16 →
    rep < 256 → dig.length = 32 →
    Completes (.tally port (sopHeader 0x30 4 (s.dev.rg fSOP_DEV_DEV_ID) src hops 0 0x0100 40 0 0 ++ leBytes 2 g.group ++
      leBytes 1 rep ++ zeros 1 ++ leBytes 4 epoch ++ dig ++ zeros 8) now) s (fun t => t.dev.mgmt = [] ∧
        t.dev.sed.groups = [{ g with digests := SMap.insert rep (dig, now) g.digests }])) ∧
  (∀ (s : State) (g : Replica) (now epoch w t0 t1 : Nat) (a b : List Byte), Live s → s.dev.sed.groups = [g] →
    g.count = 2 → g.self = 0 → g.waiting = some (epoch, w) →
    (now < w + tallyWait s.dev → Gives (.tallyWaitExpiry now) s s.dev) ∧
    (w + tallyWait s.dev ≤ now → g.digests = [(0, (a, t0))] → Completes (.tallyWaitExpiry now) s (fun t =>
      SawClass 16 t.dev ∧ t.dev.sed.groups = [{ g with waiting := none }] ∧ t.dev.steps = s.dev.steps)) ∧
    (w + tallyWait s.dev ≤ now → g.digests = [(0, (a, t0)), (1, (b, t1))] → now ≤ t1 + tallyWait s.dev → a ≠ b →
      Completes (.tallyWaitExpiry now) s (fun t => SawClass 16 t.dev ∧
        t.dev.sed.groups = [{ g with waiting := none, flagged := 2 }] ∧ bitOf t.dev.steps.hold 1 = true ∧
        (s.dev.rg fSED_CNT_TALLY_MISMATCHES < 65535 →
          t.dev.rg fSED_CNT_TALLY_MISMATCHES = s.dev.rg fSED_CNT_TALLY_MISMATCHES + 1))))

/-- The four messages about placements and packs, over their checks `placementCode` and `packCode`. -/
def Obligations.PlacementsAndPackStore : Prop :=
  (∀ (s : State) (m : Mail), Live s → MailIn s.dev 0x0300 m →
    (m.body.length ≠ 16 → Completes .placementLoad s (fun t => RepliedWith m 0x0704 [] t.dev ∧ t.dev.steps = s.dev.steps)) ∧
    (m.body.length = 16 → m.v 8 8 = 0 → Completes .placementLoad s (fun t => RepliedWith m 0 (zeros 8) t.dev ∧
      t.dev.steps = s.dev.steps)) ∧
    (m.body.length = 16 → m.v 8 8 ≠ 0 →
      (placementCode s.dev (m.v 0 8) (m.v 8 8) ≠ 0 → Completes .placementLoad s (fun t =>
        RepliedWith m (placementCode s.dev (m.v 0 8) (m.v 8 8)) [] t.dev ∧ t.dev.steps = s.dev.steps ∧
        t.dev.plots = s.dev.plots)) ∧
      (placementCode s.dev (m.v 0 8) (m.v 8 8) = 0 → Completes .placementLoad s (fun t => t.dev.cpl.mail = none ∧
        t.dev.rg fSTP_PHASE_ADDR = m.v 0 8 + gV s.dev (m.v 0 8) 16 4 ∧
        ∃ pm, t.dev.steps.placement = some pm ∧ pm.plots = gV s.dev (m.v 0 8) 6 2 ∧ pm.fits = true ∧
          pm.drafts = gV s.dev (m.v 0 8) (gV s.dev (m.v 0 8) 24 4) 32)))) ∧
  (∀ (s : State) (m : Mail), Live s → MailIn s.dev 0x0301 m →
    (m.body ≠ [] → Completes .placementUnload s (fun t => RepliedWith m 0x0704 [] t.dev ∧ t.dev.steps = s.dev.steps)) ∧
    (m.body = [] → slotsFree s.dev = false → Completes .placementUnload s (fun t => RepliedWith m 0x011A [] t.dev ∧
      t.dev.steps = s.dev.steps)) ∧
    (m.body = [] → slotsFree s.dev = true → Completes .placementUnload s (fun t => RepliedWith m 0 [] t.dev ∧
      t.dev.steps.placement = none))) ∧
  (∀ (s : State) (m : Mail), Live s → MailIn s.dev 0x0210 m → m.body.length = 16 →
    (inGddr (m.v 0 8) (m.v 8 8) = false → Completes .testpackLoad s (fun t => RepliedWith m 0x1010 [] t.dev ∧
      t.dev.flash = s.dev.flash)) ∧
    (inGddr (m.v 0 8) (m.v 8 8) = true →
      let b := memRead s.dev.gddr (m.v 0 8) (min (m.v 8 8) 1310720)
      let stored (k : Nat) (t : State) := flRead t.dev (flPACK k) (packBody b + sigBytes) = b.take (packBody b + sigBytes) ∧
        RepliedWith m 0 (leBytes 4 (recV b 8 4) ++ leBytes 4 (recV b 12 4)) t.dev
      (packCode s.fused s.dev b ≠ 0 → Completes .testpackLoad s (fun t =>
        RepliedWith m (packCode s.fused s.dev b) [] t.dev ∧ t.dev.flash = s.dev.flash)) ∧
      (∀ k, packCode s.fused s.dev b = 0 → packPlace s.dev (recV b 8 4) = none → k < 8 → packAt s.dev k = none →
        (∀ j, j < k → packAt s.dev j ≠ none) → Completes .testpackLoad s (stored k)) ∧
      (∀ k old, packCode s.fused s.dev b = 0 → packPlace s.dev (recV b 8 4) = some k → packAt s.dev k = some old →
        (recV old 12 4 < recV b 12 4 → Completes .testpackLoad s (stored k)) ∧
        (recV b 12 4 ≤ recV old 12 4 → Completes .testpackLoad s (fun t => t.dev.flash = s.dev.flash ∧
          RepliedWith m 0 (leBytes 4 (recV b 8 4) ++ leBytes 4 (recV old 12 4)) t.dev))))) ∧
  (∀ (s : State) (m : Mail), Live s → MailIn s.dev 0x0211 m → m.shape 8 4 4 = true →
    (packPlace s.dev (m.v 0 4) = none → Completes .testpackRemove s (fun t => RepliedWith m 0 [] t.dev ∧
      t.dev.flash = s.dev.flash)) ∧
    (∀ k, packPlace s.dev (m.v 0 4) = some k → Completes .testpackRemove s (fun t => RepliedWith m 0 [] t.dev ∧
      packAt t.dev k = none)))

/-- R112: S_new and S_old are the sums over the words of the row as they are written and as they were, and z[m] the prediction
of R111 over the valid extent. -/
def Obligations.IntegerRowCheck : Prop :=
  ∀ (m : MatCfg) (mode : Nat) (t : Tile) (x : StreamRow) (old new : List Nat),
    m.stat = 11 ∨ m.stat = 12 → m.strm = 11 ∨ m.strm = 12 →
    let z := ((List.range (min m.klen (arrK m.stat))).map (fun k =>
      intElem m.strm (x.codes.getD k 0) * signedOf 32 (t.c.getD k 0))).sum
    let total (l : List Nat) : Int := (l.map (signedOf 32)).sum
    ((rowCheck m mode t x old new).1 = true ↔ ∃ q : Int, total new = total old + z + 2 ^ 32 * q)

/-- R473 for its three registers, with the ranges of R472: PULSES_PER_L 3,000 to 65,535, FLOW_SET 120 to 1,000, DUTY_MIN and
DUTY_FIXED at most 1,000, FLOOR_W at most 900. Bit 16 of THM_ERR.CODE_SEEN is that of 0x0311. -/
def Obligations.CoolantRange : Prop :=
  ∀ (s : State) (data : Nat), Live s →
    let refused (fs : List Fld) (t : State) := (∀ f, f ∈ fs → t.dev.rg f = s.dev.rg f) ∧ SawClass 3 t.dev ∧
      bitOf (t.dev.rg fTHM_ERR_CODE_SEEN) (0x0311 - 0x0301) = true
    ((bitsOf data 32 16 < 3000 ∨ bitsOf data 16 12 < 120 ∨ 1000 < bitsOf data 16 12 ∨ 1000 < bitsOf data 0 10) →
      Completes (.thmCoolCfgWrite 0 data) s (refused
        [fTHM_COOL_CFG_PULSES_PER_L, fTHM_COOL_CFG_FLOW_SET, fTHM_COOL_CFG_DUTY_MIN])) ∧
    (1000 < bitsOf data 0 10 →
      Completes (.thmCoolCfgWrite 1 data) s (refused [fTHM_COOL_CTRL_MODE, fTHM_COOL_CTRL_DUTY_FIXED])) ∧
    (900 < bitsOf data 0 10 →
      Completes (.thmCoolCfgWrite 2 data) s (refused [fTHM_WARM_WARM_EN, fTHM_WARM_REF, fTHM_WARM_FLOOR_W]))

/-- The step of a block. That it idles on an empty queue is the model's choice (log entry 1). -/
def Obligations.FrontOfTheQueue : Prop :=
  (∀ (s : State) (c : Instr) (rest : List Instr), s.pending = c :: rest → step s = exec c { s with pending := rest }) ∧
  (∀ s : State, s.pending = [] → step s = .next s) ∧
  (∀ (s : State) (nbits w : Nat), s.withFetchWord nbits w = s)

/-- State.reset, with some of the values that the register tables give. The unstated contents are the model's (log entry 3). -/
def Obligations.AfterReset : Prop :=
  (∀ f : Fld, State.reset.dev.rg f = f.reset) ∧ (∀ (p : Nat) (f : Fld), (State.reset.dev.plot p).rg f = f.reset) ∧
  fSTP_CFG_SIEVE_P.reset = 0x0C0 ∧ fSTP_CFG_PREFILL_ROWS.reset = 0x1000 ∧ fTHM_COOL_CFG_PULSES_PER_L.reset = 3000 ∧
  fTHM_COOL_CTRL_MODE.reset = 1 ∧ fSED_CFG_TALLY_TIMEOUT.reset = 100 ∧ fPLOT_SEQ_STATUS_STATE.reset = 0 ∧
  (∀ n, State.reset.dev.phys n = none) ∧ (∀ i, i < 16 → slotSt State.reset.dev i = 0) ∧
  State.reset.dev.steps.run = none ∧ State.reset.dev.steps.placement = none ∧ State.reset.fused.rollback = 0 ∧
  State.reset.pending = [] ∧ Memory.wf State.reset.dev.scr = true ∧ Memory.wf State.reset.dev.bed = true ∧
  Memory.wf State.reset.dev.gddr = true ∧ (∀ f, f = State.reset.fused → FusedFrom f State.reset)

/-- The fuses through every step of every state: KEY_HASH, the die identities and DEVICE_SEED are as they were, and positions are
blown one at a time, in ascending order, by FUSE_POSITION_DONE alone. -/
def Obligations.FusesOnlyRise : Prop :=
  (∀ (f : Fuses) (s t : State), FusedFrom f s → step s = .next t → FusedFrom f t) ∧
  (∀ (s t : State) (c : Instr) (rest : List Instr), s.pending = c :: rest → step s = .next t →
    t.pending = rest ∧ t.fused.rollback ≤ s.fused.rollback + 1 ∧
    (t.fused ≠ s.fused → c = .fusePositionDone true ∧
      ∃ target, s.dev.trust.fuse = some target ∧ s.fused.rollback < target ∧ s.dev.rst.held = false))
end

