-- ==== Sys2Proof/Laws/SMap.lean ====
section
/-! SUPPORT. What reading a sparse map gives after each change, and that the changes keep its canonical form. -/

namespace Sys2Proof.Machine

variable {α : Type}

theorem SMap.find?_insert_same (k : Nat) (v : α) (m : SMap α) : SMap.find? k (SMap.insert k v m) = some v := by
  induction m with
  | nil => simp [SMap.insert, SMap.find?]
  | cons e t ih =>
    obtain ⟨j, w⟩ := e
    by_cases h₁ : k < j
    · simp [SMap.insert, SMap.find?, h₁]
    · by_cases h₂ : j = k
      · simp [SMap.insert, SMap.find?, h₂]
      · simp [SMap.insert, SMap.find?, h₁, h₂, ih]

theorem SMap.find?_insert_ne {k l : Nat} (h : l ≠ k) (v : α) (m : SMap α) :
    SMap.find? l (SMap.insert k v m) = SMap.find? l m := by
  induction m with
  | nil => simp [SMap.insert, SMap.find?, Ne.symm h]
  | cons e t ih =>
    obtain ⟨j, w⟩ := e
    by_cases h₁ : k < j
    · simp [SMap.insert, SMap.find?, h₁, Ne.symm h]
    · by_cases h₂ : j = k
      · subst h₂; simp [SMap.insert, SMap.find?, Ne.symm h]
      · simp [SMap.insert, SMap.find?, h₁, h₂, ih]

theorem SMap.find?_erase_same (k : Nat) (m : SMap α) : SMap.find? k (SMap.erase k m) = none := by
  induction m with
  | nil => rfl
  | cons e t ih =>
    obtain ⟨j, w⟩ := e
    by_cases h : j = k
    · simp [SMap.erase, h, ih]
    · simp [SMap.erase, SMap.find?, h, ih]

theorem SMap.find?_erase_ne {k l : Nat} (h : l ≠ k) (m : SMap α) :
    SMap.find? l (SMap.erase k m) = SMap.find? l m := by
  induction m with
  | nil => rfl
  | cons e t ih =>
    obtain ⟨j, w⟩ := e
    by_cases h₁ : j = k
    · subst h₁; simp [SMap.erase, SMap.find?, Ne.symm h, ih]
    · simp [SMap.erase, SMap.find?, h₁, ih]

/-- A read after a write to the same key gives the value written. -/
@[simp] theorem SMap.get_set_same [DecidableEq α] (d : α) (m : SMap α) (k : Nat) (v : α) :
    SMap.get d (SMap.set d m k v) k = v := by
  unfold SMap.get SMap.set
  split
  · rename_i h; simp [SMap.find?_erase_same, h]
  · simp [SMap.find?_insert_same]

/-- A write leaves every other key alone. -/
theorem SMap.get_set_ne [DecidableEq α] (d e : α) (m : SMap α) {k l : Nat} (h : l ≠ k) (v : α) :
    SMap.get e (SMap.set d m k v) l = SMap.get e m l := by
  unfold SMap.get SMap.set
  split
  · rw [SMap.find?_erase_ne h]
  · rw [SMap.find?_insert_ne h]

theorem SMap.sortedFrom_mono {a b : Nat} (h : a ≤ b) (m : SMap α) :
    SMap.sortedFrom b m = true → SMap.sortedFrom a m = true := by
  cases m with
  | nil => simp [SMap.sortedFrom]
  | cons e t =>
    simp only [SMap.sortedFrom, Bool.and_eq_true, decide_eq_true_eq]
    exact fun ⟨p, q⟩ => ⟨le_trans h p, q⟩

theorem SMap.sortedFrom_insert (k : Nat) (v : α) (m : SMap α) (a : Nat) (ha : a ≤ k)
    (h : SMap.sortedFrom a m = true) : SMap.sortedFrom a (SMap.insert k v m) = true := by
  induction m generalizing a with
  | nil => simp [SMap.insert, SMap.sortedFrom, ha]
  | cons e t ih =>
    obtain ⟨j, w⟩ := e
    simp only [SMap.sortedFrom, Bool.and_eq_true, decide_eq_true_eq] at h
    by_cases h₁ : k < j
    · simp [SMap.insert, SMap.sortedFrom, h₁, ha, h.2, Nat.succ_le_of_lt h₁]
    · by_cases h₂ : j = k
      · subst h₂; simp [SMap.insert, SMap.sortedFrom, ha, h.2]
      · simp only [SMap.insert, h₁, h₂, if_false, SMap.sortedFrom, Bool.and_eq_true, decide_eq_true_eq]
        exact ⟨h.1, ih _ (by omega) h.2⟩

theorem SMap.sortedFrom_erase (k : Nat) (m : SMap α) (a : Nat)
    (h : SMap.sortedFrom a m = true) : SMap.sortedFrom a (SMap.erase k m) = true := by
  induction m generalizing a with
  | nil => simp [SMap.erase, SMap.sortedFrom]
  | cons e t ih =>
    obtain ⟨j, w⟩ := e
    simp only [SMap.sortedFrom, Bool.and_eq_true, decide_eq_true_eq] at h
    by_cases h₁ : j = k
    · simp only [SMap.erase, h₁, if_true]
      exact ih a (SMap.sortedFrom_mono (by omega) t h.2)
    · simp only [SMap.erase, h₁, if_false, SMap.sortedFrom, Bool.and_eq_true, decide_eq_true_eq]
      exact ⟨h.1, ih _ h.2⟩

theorem SMap.all_insert (p : Nat × α → Bool) (k : Nat) (v : α) (m : SMap α) (hv : p (k, v) = true)
    (h : m.all p = true) : (SMap.insert k v m).all p = true := by
  induction m with
  | nil => simp [SMap.insert, hv]
  | cons e t ih =>
    obtain ⟨j, w⟩ := e
    simp only [List.all_cons, Bool.and_eq_true] at h
    unfold SMap.insert
    split
    · simp [hv, h.1, h.2]
    · split
      · simp [hv, h.2]
      · simp [h.1, ih h.2]

theorem SMap.all_erase (p : Nat × α → Bool) (k : Nat) (m : SMap α)
    (h : m.all p = true) : (SMap.erase k m).all p = true := by
  induction m with
  | nil => rfl
  | cons e t ih =>
    obtain ⟨j, w⟩ := e
    simp only [List.all_cons, Bool.and_eq_true] at h
    unfold SMap.erase
    split
    · exact ih h.2
    · simp [h.1, ih h.2]

/-- A write keeps the canonical form. -/
theorem SMap.wf_set [DecidableEq α] (d : α) (m : SMap α) (k : Nat) (v : α) (h : SMap.wf d m = true) :
    SMap.wf d (SMap.set d m k v) = true := by
  simp only [SMap.wf, Bool.and_eq_true] at h ⊢
  unfold SMap.set
  split
  · exact ⟨SMap.sortedFrom_erase k m 0 h.1, SMap.all_erase _ k m h.2⟩
  · rename_i hv
    exact ⟨SMap.sortedFrom_insert k v m 0 (Nat.zero_le k) h.1, SMap.all_insert _ k v m (by simp [hv]) h.2⟩

/-- A key below the first is not listed. -/
theorem SMap.find?_lt_sortedFrom (m : SMap α) (a k : Nat) (h : SMap.sortedFrom a m = true) (hk : k < a) :
    SMap.find? k m = none := by
  induction m generalizing a with
  | nil => rfl
  | cons e t ih =>
    obtain ⟨j, w⟩ := e
    simp only [SMap.sortedFrom, Bool.and_eq_true, decide_eq_true_eq] at h
    have : j ≠ k := by omega
    simp [SMap.find?, this, ih _ h.2 (by omega)]

end Sys2Proof.Machine
end

