-- ==== Sys2Proof/Laws/State.lean ====
section
/-! SUPPORT. What each elementary update of the state leaves in each field: one lemma per field per update. -/

namespace Sys2Proof.Machine

/-! ## The device -/

@[simp] theorem Dev.rs_plots (d : Dev) (f : Fld) (v : Nat) : (d.rs f v).plots = d.plots := rfl
@[simp] theorem Dev.rs_scr (d : Dev) (f : Fld) (v : Nat) : (d.rs f v).scr = d.scr := rfl
@[simp] theorem Dev.rs_bed (d : Dev) (f : Fld) (v : Nat) : (d.rs f v).bed = d.bed := rfl
@[simp] theorem Dev.rs_flash (d : Dev) (f : Fld) (v : Nat) : (d.rs f v).flash = d.flash := rfl
@[simp] theorem Dev.rs_gddr (d : Dev) (f : Fld) (v : Nat) : (d.rs f v).gddr = d.gddr := rfl
@[simp] theorem Dev.rs_sync (d : Dev) (f : Fld) (v : Nat) : (d.rs f v).sync = d.sync := rfl
@[simp] theorem Dev.rs_numbering (d : Dev) (f : Fld) (v : Nat) : (d.rs f v).numbering = d.numbering := rfl
@[simp] theorem Dev.rs_referee (d : Dev) (f : Fld) (v : Nat) : (d.rs f v).referee = d.referee := rfl
@[simp] theorem Dev.rs_points (d : Dev) (f : Fld) (v : Nat) : (d.rs f v).points = d.points := rfl
@[simp] theorem Dev.rs_gdcs (d : Dev) (f : Fld) (v : Nat) : (d.rs f v).gdcs = d.gdcs := rfl
@[simp] theorem Dev.rs_sowRound (d : Dev) (f : Fld) (v : Nat) : (d.rs f v).sowRound = d.sowRound := rfl
@[simp] theorem Dev.rs_licence (d : Dev) (f : Fld) (v : Nat) : (d.rs f v).licence = d.licence := rfl
@[simp] theorem Dev.rs_freeCtr (d : Dev) (f : Fld) (v : Nat) : (d.rs f v).freeCtr = d.freeCtr := rfl
@[simp] theorem Dev.rs_outs (d : Dev) (f : Fld) (v : Nat) : (d.rs f v).outs = d.outs := rfl
@[simp] theorem Dev.rs_links (d : Dev) (f : Fld) (v : Nat) : (d.rs f v).links = d.links := rfl
@[simp] theorem Dev.rs_cpl (d : Dev) (f : Fld) (v : Nat) : (d.rs f v).cpl = d.cpl := rfl
@[simp] theorem Dev.rs_tags (d : Dev) (f : Fld) (v : Nat) : (d.rs f v).tags = d.tags := rfl
@[simp] theorem Dev.rs_routes (d : Dev) (f : Fld) (v : Nat) : (d.rs f v).routes = d.routes := rfl
@[simp] theorem Dev.rs_mgmt (d : Dev) (f : Fld) (v : Nat) : (d.rs f v).mgmt = d.mgmt := rfl
@[simp] theorem Dev.rs_steps (d : Dev) (f : Fld) (v : Nat) : (d.rs f v).steps = d.steps := rfl
@[simp] theorem Dev.rs_spares (d : Dev) (f : Fld) (v : Nat) : (d.rs f v).spares = d.spares := rfl
@[simp] theorem Dev.rs_retired (d : Dev) (f : Fld) (v : Nat) : (d.rs f v).retired = d.retired := rfl
@[simp] theorem Dev.rs_octets (d : Dev) (f : Fld) (v : Nat) : (d.rs f v).octets = d.octets := rfl
@[simp] theorem Dev.rs_boot (d : Dev) (f : Fld) (v : Nat) : (d.rs f v).boot = d.boot := rfl
@[simp] theorem Dev.rs_rst (d : Dev) (f : Fld) (v : Nat) : (d.rs f v).rst = d.rst := rfl
@[simp] theorem Dev.rs_trust (d : Dev) (f : Fld) (v : Nat) : (d.rs f v).trust = d.trust := rfl
@[simp] theorem Dev.rs_shed (d : Dev) (f : Fld) (v : Nat) : (d.rs f v).shed = d.shed := rfl
@[simp] theorem Dev.rs_therm (d : Dev) (f : Fld) (v : Nat) : (d.rs f v).therm = d.therm := rfl
@[simp] theorem Dev.rs_tray (d : Dev) (f : Fld) (v : Nat) : (d.rs f v).tray = d.tray := rfl
@[simp] theorem Dev.rs_sed (d : Dev) (f : Fld) (v : Nat) : (d.rs f v).sed = d.sed := rfl
@[simp] theorem Dev.rs_snap (d : Dev) (f : Fld) (v : Nat) : (d.rs f v).snap = d.snap := rfl

@[simp] theorem Dev.count_plots (d : Dev) (f : Fld) (k : Nat) : (d.count f k).plots = d.plots := rfl
@[simp] theorem Dev.count_scr (d : Dev) (f : Fld) (k : Nat) : (d.count f k).scr = d.scr := rfl
@[simp] theorem Dev.count_bed (d : Dev) (f : Fld) (k : Nat) : (d.count f k).bed = d.bed := rfl
@[simp] theorem Dev.count_flash (d : Dev) (f : Fld) (k : Nat) : (d.count f k).flash = d.flash := rfl
@[simp] theorem Dev.count_gddr (d : Dev) (f : Fld) (k : Nat) : (d.count f k).gddr = d.gddr := rfl
@[simp] theorem Dev.count_sync (d : Dev) (f : Fld) (k : Nat) : (d.count f k).sync = d.sync := rfl
@[simp] theorem Dev.count_numbering (d : Dev) (f : Fld) (k : Nat) : (d.count f k).numbering = d.numbering := rfl
@[simp] theorem Dev.count_referee (d : Dev) (f : Fld) (k : Nat) : (d.count f k).referee = d.referee := rfl
@[simp] theorem Dev.count_points (d : Dev) (f : Fld) (k : Nat) : (d.count f k).points = d.points := rfl
@[simp] theorem Dev.count_gdcs (d : Dev) (f : Fld) (k : Nat) : (d.count f k).gdcs = d.gdcs := rfl
@[simp] theorem Dev.count_sowRound (d : Dev) (f : Fld) (k : Nat) : (d.count f k).sowRound = d.sowRound := rfl
@[simp] theorem Dev.count_licence (d : Dev) (f : Fld) (k : Nat) : (d.count f k).licence = d.licence := rfl
@[simp] theorem Dev.count_freeCtr (d : Dev) (f : Fld) (k : Nat) : (d.count f k).freeCtr = d.freeCtr := rfl
@[simp] theorem Dev.count_outs (d : Dev) (f : Fld) (k : Nat) : (d.count f k).outs = d.outs := rfl
@[simp] theorem Dev.count_links (d : Dev) (f : Fld) (k : Nat) : (d.count f k).links = d.links := rfl
@[simp] theorem Dev.count_cpl (d : Dev) (f : Fld) (k : Nat) : (d.count f k).cpl = d.cpl := rfl
@[simp] theorem Dev.count_tags (d : Dev) (f : Fld) (k : Nat) : (d.count f k).tags = d.tags := rfl
@[simp] theorem Dev.count_routes (d : Dev) (f : Fld) (k : Nat) : (d.count f k).routes = d.routes := rfl
@[simp] theorem Dev.count_mgmt (d : Dev) (f : Fld) (k : Nat) : (d.count f k).mgmt = d.mgmt := rfl
@[simp] theorem Dev.count_steps (d : Dev) (f : Fld) (k : Nat) : (d.count f k).steps = d.steps := rfl
@[simp] theorem Dev.count_spares (d : Dev) (f : Fld) (k : Nat) : (d.count f k).spares = d.spares := rfl
@[simp] theorem Dev.count_retired (d : Dev) (f : Fld) (k : Nat) : (d.count f k).retired = d.retired := rfl
@[simp] theorem Dev.count_octets (d : Dev) (f : Fld) (k : Nat) : (d.count f k).octets = d.octets := rfl
@[simp] theorem Dev.count_boot (d : Dev) (f : Fld) (k : Nat) : (d.count f k).boot = d.boot := rfl
@[simp] theorem Dev.count_rst (d : Dev) (f : Fld) (k : Nat) : (d.count f k).rst = d.rst := rfl
@[simp] theorem Dev.count_trust (d : Dev) (f : Fld) (k : Nat) : (d.count f k).trust = d.trust := rfl
@[simp] theorem Dev.count_shed (d : Dev) (f : Fld) (k : Nat) : (d.count f k).shed = d.shed := rfl
@[simp] theorem Dev.count_therm (d : Dev) (f : Fld) (k : Nat) : (d.count f k).therm = d.therm := rfl
@[simp] theorem Dev.count_tray (d : Dev) (f : Fld) (k : Nat) : (d.count f k).tray = d.tray := rfl
@[simp] theorem Dev.count_sed (d : Dev) (f : Fld) (k : Nat) : (d.count f k).sed = d.sed := rfl
@[simp] theorem Dev.count_snap (d : Dev) (f : Fld) (k : Nat) : (d.count f k).snap = d.snap := rfl

@[simp] theorem Dev.setPlot_regs (d : Dev) (p : Nat) (pl : Plot) : (d.setPlot p pl).regs = d.regs := rfl
@[simp] theorem Dev.setPlot_scr (d : Dev) (p : Nat) (pl : Plot) : (d.setPlot p pl).scr = d.scr := rfl
@[simp] theorem Dev.setPlot_bed (d : Dev) (p : Nat) (pl : Plot) : (d.setPlot p pl).bed = d.bed := rfl
@[simp] theorem Dev.setPlot_flash (d : Dev) (p : Nat) (pl : Plot) : (d.setPlot p pl).flash = d.flash := rfl
@[simp] theorem Dev.setPlot_gddr (d : Dev) (p : Nat) (pl : Plot) : (d.setPlot p pl).gddr = d.gddr := rfl
@[simp] theorem Dev.setPlot_sync (d : Dev) (p : Nat) (pl : Plot) : (d.setPlot p pl).sync = d.sync := rfl
@[simp] theorem Dev.setPlot_numbering (d : Dev) (p : Nat) (pl : Plot) : (d.setPlot p pl).numbering = d.numbering := rfl
@[simp] theorem Dev.setPlot_referee (d : Dev) (p : Nat) (pl : Plot) : (d.setPlot p pl).referee = d.referee := rfl
@[simp] theorem Dev.setPlot_points (d : Dev) (p : Nat) (pl : Plot) : (d.setPlot p pl).points = d.points := rfl
@[simp] theorem Dev.setPlot_gdcs (d : Dev) (p : Nat) (pl : Plot) : (d.setPlot p pl).gdcs = d.gdcs := rfl
@[simp] theorem Dev.setPlot_sowRound (d : Dev) (p : Nat) (pl : Plot) : (d.setPlot p pl).sowRound = d.sowRound := rfl
@[simp] theorem Dev.setPlot_licence (d : Dev) (p : Nat) (pl : Plot) : (d.setPlot p pl).licence = d.licence := rfl
@[simp] theorem Dev.setPlot_freeCtr (d : Dev) (p : Nat) (pl : Plot) : (d.setPlot p pl).freeCtr = d.freeCtr := rfl
@[simp] theorem Dev.setPlot_outs (d : Dev) (p : Nat) (pl : Plot) : (d.setPlot p pl).outs = d.outs := rfl
@[simp] theorem Dev.setPlot_links (d : Dev) (p : Nat) (pl : Plot) : (d.setPlot p pl).links = d.links := rfl
@[simp] theorem Dev.setPlot_cpl (d : Dev) (p : Nat) (pl : Plot) : (d.setPlot p pl).cpl = d.cpl := rfl
@[simp] theorem Dev.setPlot_tags (d : Dev) (p : Nat) (pl : Plot) : (d.setPlot p pl).tags = d.tags := rfl
@[simp] theorem Dev.setPlot_routes (d : Dev) (p : Nat) (pl : Plot) : (d.setPlot p pl).routes = d.routes := rfl
@[simp] theorem Dev.setPlot_mgmt (d : Dev) (p : Nat) (pl : Plot) : (d.setPlot p pl).mgmt = d.mgmt := rfl
@[simp] theorem Dev.setPlot_steps (d : Dev) (p : Nat) (pl : Plot) : (d.setPlot p pl).steps = d.steps := rfl
@[simp] theorem Dev.setPlot_spares (d : Dev) (p : Nat) (pl : Plot) : (d.setPlot p pl).spares = d.spares := rfl
@[simp] theorem Dev.setPlot_retired (d : Dev) (p : Nat) (pl : Plot) : (d.setPlot p pl).retired = d.retired := rfl
@[simp] theorem Dev.setPlot_octets (d : Dev) (p : Nat) (pl : Plot) : (d.setPlot p pl).octets = d.octets := rfl
@[simp] theorem Dev.setPlot_boot (d : Dev) (p : Nat) (pl : Plot) : (d.setPlot p pl).boot = d.boot := rfl
@[simp] theorem Dev.setPlot_rst (d : Dev) (p : Nat) (pl : Plot) : (d.setPlot p pl).rst = d.rst := rfl
@[simp] theorem Dev.setPlot_trust (d : Dev) (p : Nat) (pl : Plot) : (d.setPlot p pl).trust = d.trust := rfl
@[simp] theorem Dev.setPlot_shed (d : Dev) (p : Nat) (pl : Plot) : (d.setPlot p pl).shed = d.shed := rfl
@[simp] theorem Dev.setPlot_therm (d : Dev) (p : Nat) (pl : Plot) : (d.setPlot p pl).therm = d.therm := rfl
@[simp] theorem Dev.setPlot_tray (d : Dev) (p : Nat) (pl : Plot) : (d.setPlot p pl).tray = d.tray := rfl
@[simp] theorem Dev.setPlot_sed (d : Dev) (p : Nat) (pl : Plot) : (d.setPlot p pl).sed = d.sed := rfl
@[simp] theorem Dev.setPlot_snap (d : Dev) (p : Nat) (pl : Plot) : (d.setPlot p pl).snap = d.snap := rfl

@[simp] theorem Dev.modPlot_regs (d : Dev) (p : Nat) (f : Plot → Plot) : (d.modPlot p f).regs = d.regs := rfl
@[simp] theorem Dev.modPlot_scr (d : Dev) (p : Nat) (f : Plot → Plot) : (d.modPlot p f).scr = d.scr := rfl
@[simp] theorem Dev.modPlot_bed (d : Dev) (p : Nat) (f : Plot → Plot) : (d.modPlot p f).bed = d.bed := rfl
@[simp] theorem Dev.modPlot_flash (d : Dev) (p : Nat) (f : Plot → Plot) : (d.modPlot p f).flash = d.flash := rfl
@[simp] theorem Dev.modPlot_gddr (d : Dev) (p : Nat) (f : Plot → Plot) : (d.modPlot p f).gddr = d.gddr := rfl
@[simp] theorem Dev.modPlot_sync (d : Dev) (p : Nat) (f : Plot → Plot) : (d.modPlot p f).sync = d.sync := rfl
@[simp] theorem Dev.modPlot_numbering (d : Dev) (p : Nat) (f : Plot → Plot) : (d.modPlot p f).numbering = d.numbering := rfl
@[simp] theorem Dev.modPlot_referee (d : Dev) (p : Nat) (f : Plot → Plot) : (d.modPlot p f).referee = d.referee := rfl
@[simp] theorem Dev.modPlot_points (d : Dev) (p : Nat) (f : Plot → Plot) : (d.modPlot p f).points = d.points := rfl
@[simp] theorem Dev.modPlot_gdcs (d : Dev) (p : Nat) (f : Plot → Plot) : (d.modPlot p f).gdcs = d.gdcs := rfl
@[simp] theorem Dev.modPlot_sowRound (d : Dev) (p : Nat) (f : Plot → Plot) : (d.modPlot p f).sowRound = d.sowRound := rfl
@[simp] theorem Dev.modPlot_licence (d : Dev) (p : Nat) (f : Plot → Plot) : (d.modPlot p f).licence = d.licence := rfl
@[simp] theorem Dev.modPlot_freeCtr (d : Dev) (p : Nat) (f : Plot → Plot) : (d.modPlot p f).freeCtr = d.freeCtr := rfl
@[simp] theorem Dev.modPlot_outs (d : Dev) (p : Nat) (f : Plot → Plot) : (d.modPlot p f).outs = d.outs := rfl
@[simp] theorem Dev.modPlot_links (d : Dev) (p : Nat) (f : Plot → Plot) : (d.modPlot p f).links = d.links := rfl
@[simp] theorem Dev.modPlot_cpl (d : Dev) (p : Nat) (f : Plot → Plot) : (d.modPlot p f).cpl = d.cpl := rfl
@[simp] theorem Dev.modPlot_tags (d : Dev) (p : Nat) (f : Plot → Plot) : (d.modPlot p f).tags = d.tags := rfl
@[simp] theorem Dev.modPlot_routes (d : Dev) (p : Nat) (f : Plot → Plot) : (d.modPlot p f).routes = d.routes := rfl
@[simp] theorem Dev.modPlot_mgmt (d : Dev) (p : Nat) (f : Plot → Plot) : (d.modPlot p f).mgmt = d.mgmt := rfl
@[simp] theorem Dev.modPlot_steps (d : Dev) (p : Nat) (f : Plot → Plot) : (d.modPlot p f).steps = d.steps := rfl
@[simp] theorem Dev.modPlot_spares (d : Dev) (p : Nat) (f : Plot → Plot) : (d.modPlot p f).spares = d.spares := rfl
@[simp] theorem Dev.modPlot_retired (d : Dev) (p : Nat) (f : Plot → Plot) : (d.modPlot p f).retired = d.retired := rfl
@[simp] theorem Dev.modPlot_octets (d : Dev) (p : Nat) (f : Plot → Plot) : (d.modPlot p f).octets = d.octets := rfl
@[simp] theorem Dev.modPlot_boot (d : Dev) (p : Nat) (f : Plot → Plot) : (d.modPlot p f).boot = d.boot := rfl
@[simp] theorem Dev.modPlot_rst (d : Dev) (p : Nat) (f : Plot → Plot) : (d.modPlot p f).rst = d.rst := rfl
@[simp] theorem Dev.modPlot_trust (d : Dev) (p : Nat) (f : Plot → Plot) : (d.modPlot p f).trust = d.trust := rfl
@[simp] theorem Dev.modPlot_shed (d : Dev) (p : Nat) (f : Plot → Plot) : (d.modPlot p f).shed = d.shed := rfl
@[simp] theorem Dev.modPlot_therm (d : Dev) (p : Nat) (f : Plot → Plot) : (d.modPlot p f).therm = d.therm := rfl
@[simp] theorem Dev.modPlot_tray (d : Dev) (p : Nat) (f : Plot → Plot) : (d.modPlot p f).tray = d.tray := rfl
@[simp] theorem Dev.modPlot_sed (d : Dev) (p : Nat) (f : Plot → Plot) : (d.modPlot p f).sed = d.sed := rfl
@[simp] theorem Dev.modPlot_snap (d : Dev) (p : Nat) (f : Plot → Plot) : (d.modPlot p f).snap = d.snap := rfl

@[simp] theorem Dev.emit_regs (d : Dev) (o : Out) : (d.emit o).regs = d.regs := rfl
@[simp] theorem Dev.emit_plots (d : Dev) (o : Out) : (d.emit o).plots = d.plots := rfl
@[simp] theorem Dev.emit_scr (d : Dev) (o : Out) : (d.emit o).scr = d.scr := rfl
@[simp] theorem Dev.emit_bed (d : Dev) (o : Out) : (d.emit o).bed = d.bed := rfl
@[simp] theorem Dev.emit_flash (d : Dev) (o : Out) : (d.emit o).flash = d.flash := rfl
@[simp] theorem Dev.emit_gddr (d : Dev) (o : Out) : (d.emit o).gddr = d.gddr := rfl
@[simp] theorem Dev.emit_sync (d : Dev) (o : Out) : (d.emit o).sync = d.sync := rfl
@[simp] theorem Dev.emit_numbering (d : Dev) (o : Out) : (d.emit o).numbering = d.numbering := rfl
@[simp] theorem Dev.emit_referee (d : Dev) (o : Out) : (d.emit o).referee = d.referee := rfl
@[simp] theorem Dev.emit_points (d : Dev) (o : Out) : (d.emit o).points = d.points := rfl
@[simp] theorem Dev.emit_gdcs (d : Dev) (o : Out) : (d.emit o).gdcs = d.gdcs := rfl
@[simp] theorem Dev.emit_sowRound (d : Dev) (o : Out) : (d.emit o).sowRound = d.sowRound := rfl
@[simp] theorem Dev.emit_licence (d : Dev) (o : Out) : (d.emit o).licence = d.licence := rfl
@[simp] theorem Dev.emit_freeCtr (d : Dev) (o : Out) : (d.emit o).freeCtr = d.freeCtr := rfl
@[simp] theorem Dev.emit_links (d : Dev) (o : Out) : (d.emit o).links = d.links := rfl
@[simp] theorem Dev.emit_cpl (d : Dev) (o : Out) : (d.emit o).cpl = d.cpl := rfl
@[simp] theorem Dev.emit_tags (d : Dev) (o : Out) : (d.emit o).tags = d.tags := rfl
@[simp] theorem Dev.emit_routes (d : Dev) (o : Out) : (d.emit o).routes = d.routes := rfl
@[simp] theorem Dev.emit_mgmt (d : Dev) (o : Out) : (d.emit o).mgmt = d.mgmt := rfl
@[simp] theorem Dev.emit_steps (d : Dev) (o : Out) : (d.emit o).steps = d.steps := rfl
@[simp] theorem Dev.emit_spares (d : Dev) (o : Out) : (d.emit o).spares = d.spares := rfl
@[simp] theorem Dev.emit_retired (d : Dev) (o : Out) : (d.emit o).retired = d.retired := rfl
@[simp] theorem Dev.emit_octets (d : Dev) (o : Out) : (d.emit o).octets = d.octets := rfl
@[simp] theorem Dev.emit_boot (d : Dev) (o : Out) : (d.emit o).boot = d.boot := rfl
@[simp] theorem Dev.emit_rst (d : Dev) (o : Out) : (d.emit o).rst = d.rst := rfl
@[simp] theorem Dev.emit_trust (d : Dev) (o : Out) : (d.emit o).trust = d.trust := rfl
@[simp] theorem Dev.emit_shed (d : Dev) (o : Out) : (d.emit o).shed = d.shed := rfl
@[simp] theorem Dev.emit_therm (d : Dev) (o : Out) : (d.emit o).therm = d.therm := rfl
@[simp] theorem Dev.emit_tray (d : Dev) (o : Out) : (d.emit o).tray = d.tray := rfl
@[simp] theorem Dev.emit_sed (d : Dev) (o : Out) : (d.emit o).sed = d.sed := rfl
@[simp] theorem Dev.emit_snap (d : Dev) (o : Out) : (d.emit o).snap = d.snap := rfl

@[simp] theorem Dev.latch_regs (d : Dev) (b : Nat) : (d.latch b).regs = d.regs := rfl
@[simp] theorem Dev.latch_plots (d : Dev) (b : Nat) : (d.latch b).plots = d.plots := rfl
@[simp] theorem Dev.latch_scr (d : Dev) (b : Nat) : (d.latch b).scr = d.scr := rfl
@[simp] theorem Dev.latch_bed (d : Dev) (b : Nat) : (d.latch b).bed = d.bed := rfl
@[simp] theorem Dev.latch_flash (d : Dev) (b : Nat) : (d.latch b).flash = d.flash := rfl
@[simp] theorem Dev.latch_gddr (d : Dev) (b : Nat) : (d.latch b).gddr = d.gddr := rfl
@[simp] theorem Dev.latch_sync (d : Dev) (b : Nat) : (d.latch b).sync = d.sync := rfl
@[simp] theorem Dev.latch_numbering (d : Dev) (b : Nat) : (d.latch b).numbering = d.numbering := rfl
@[simp] theorem Dev.latch_referee (d : Dev) (b : Nat) : (d.latch b).referee = d.referee := rfl
@[simp] theorem Dev.latch_points (d : Dev) (b : Nat) : (d.latch b).points = d.points := rfl
@[simp] theorem Dev.latch_gdcs (d : Dev) (b : Nat) : (d.latch b).gdcs = d.gdcs := rfl
@[simp] theorem Dev.latch_sowRound (d : Dev) (b : Nat) : (d.latch b).sowRound = d.sowRound := rfl
@[simp] theorem Dev.latch_licence (d : Dev) (b : Nat) : (d.latch b).licence = d.licence := rfl
@[simp] theorem Dev.latch_freeCtr (d : Dev) (b : Nat) : (d.latch b).freeCtr = d.freeCtr := rfl
@[simp] theorem Dev.latch_outs (d : Dev) (b : Nat) : (d.latch b).outs = d.outs := rfl
@[simp] theorem Dev.latch_links (d : Dev) (b : Nat) : (d.latch b).links = d.links := rfl
@[simp] theorem Dev.latch_cpl (d : Dev) (b : Nat) : (d.latch b).cpl = d.cpl := rfl
@[simp] theorem Dev.latch_tags (d : Dev) (b : Nat) : (d.latch b).tags = d.tags := rfl
@[simp] theorem Dev.latch_routes (d : Dev) (b : Nat) : (d.latch b).routes = d.routes := rfl
@[simp] theorem Dev.latch_mgmt (d : Dev) (b : Nat) : (d.latch b).mgmt = d.mgmt := rfl
@[simp] theorem Dev.latch_steps (d : Dev) (b : Nat) : (d.latch b).steps = d.steps := rfl
@[simp] theorem Dev.latch_spares (d : Dev) (b : Nat) : (d.latch b).spares = d.spares := rfl
@[simp] theorem Dev.latch_retired (d : Dev) (b : Nat) : (d.latch b).retired = d.retired := rfl
@[simp] theorem Dev.latch_octets (d : Dev) (b : Nat) : (d.latch b).octets = d.octets := rfl
@[simp] theorem Dev.latch_boot (d : Dev) (b : Nat) : (d.latch b).boot = d.boot := rfl
@[simp] theorem Dev.latch_rst (d : Dev) (b : Nat) : (d.latch b).rst = d.rst := rfl
@[simp] theorem Dev.latch_trust (d : Dev) (b : Nat) : (d.latch b).trust = d.trust := rfl
@[simp] theorem Dev.latch_shed (d : Dev) (b : Nat) : (d.latch b).shed = d.shed := rfl
@[simp] theorem Dev.latch_therm (d : Dev) (b : Nat) : (d.latch b).therm = d.therm := rfl
@[simp] theorem Dev.latch_sed (d : Dev) (b : Nat) : (d.latch b).sed = d.sed := rfl
@[simp] theorem Dev.latch_snap (d : Dev) (b : Nat) : (d.latch b).snap = d.snap := rfl

@[simp] theorem Dev.free_regs (d : Dev) (n : Nat) : (d.free n).1.regs = d.regs := rfl
@[simp] theorem Dev.free_plots (d : Dev) (n : Nat) : (d.free n).1.plots = d.plots := rfl
@[simp] theorem Dev.free_scr (d : Dev) (n : Nat) : (d.free n).1.scr = d.scr := rfl
@[simp] theorem Dev.free_bed (d : Dev) (n : Nat) : (d.free n).1.bed = d.bed := rfl
@[simp] theorem Dev.free_flash (d : Dev) (n : Nat) : (d.free n).1.flash = d.flash := rfl
@[simp] theorem Dev.free_gddr (d : Dev) (n : Nat) : (d.free n).1.gddr = d.gddr := rfl
@[simp] theorem Dev.free_sync (d : Dev) (n : Nat) : (d.free n).1.sync = d.sync := rfl
@[simp] theorem Dev.free_numbering (d : Dev) (n : Nat) : (d.free n).1.numbering = d.numbering := rfl
@[simp] theorem Dev.free_referee (d : Dev) (n : Nat) : (d.free n).1.referee = d.referee := rfl
@[simp] theorem Dev.free_points (d : Dev) (n : Nat) : (d.free n).1.points = d.points := rfl
@[simp] theorem Dev.free_gdcs (d : Dev) (n : Nat) : (d.free n).1.gdcs = d.gdcs := rfl
@[simp] theorem Dev.free_sowRound (d : Dev) (n : Nat) : (d.free n).1.sowRound = d.sowRound := rfl
@[simp] theorem Dev.free_licence (d : Dev) (n : Nat) : (d.free n).1.licence = d.licence := rfl
@[simp] theorem Dev.free_outs (d : Dev) (n : Nat) : (d.free n).1.outs = d.outs := rfl
@[simp] theorem Dev.free_links (d : Dev) (n : Nat) : (d.free n).1.links = d.links := rfl
@[simp] theorem Dev.free_cpl (d : Dev) (n : Nat) : (d.free n).1.cpl = d.cpl := rfl
@[simp] theorem Dev.free_tags (d : Dev) (n : Nat) : (d.free n).1.tags = d.tags := rfl
@[simp] theorem Dev.free_routes (d : Dev) (n : Nat) : (d.free n).1.routes = d.routes := rfl
@[simp] theorem Dev.free_mgmt (d : Dev) (n : Nat) : (d.free n).1.mgmt = d.mgmt := rfl
@[simp] theorem Dev.free_steps (d : Dev) (n : Nat) : (d.free n).1.steps = d.steps := rfl
@[simp] theorem Dev.free_spares (d : Dev) (n : Nat) : (d.free n).1.spares = d.spares := rfl
@[simp] theorem Dev.free_retired (d : Dev) (n : Nat) : (d.free n).1.retired = d.retired := rfl
@[simp] theorem Dev.free_octets (d : Dev) (n : Nat) : (d.free n).1.octets = d.octets := rfl
@[simp] theorem Dev.free_boot (d : Dev) (n : Nat) : (d.free n).1.boot = d.boot := rfl
@[simp] theorem Dev.free_rst (d : Dev) (n : Nat) : (d.free n).1.rst = d.rst := rfl
@[simp] theorem Dev.free_trust (d : Dev) (n : Nat) : (d.free n).1.trust = d.trust := rfl
@[simp] theorem Dev.free_shed (d : Dev) (n : Nat) : (d.free n).1.shed = d.shed := rfl
@[simp] theorem Dev.free_therm (d : Dev) (n : Nat) : (d.free n).1.therm = d.therm := rfl
@[simp] theorem Dev.free_tray (d : Dev) (n : Nat) : (d.free n).1.tray = d.tray := rfl
@[simp] theorem Dev.free_sed (d : Dev) (n : Nat) : (d.free n).1.sed = d.sed := rfl
@[simp] theorem Dev.free_snap (d : Dev) (n : Nat) : (d.free n).1.snap = d.snap := rfl

@[simp] theorem Dev.syncSet_regs (d : Dev) (p c v : Nat) : (d.syncSet p c v).regs = d.regs := rfl
@[simp] theorem Dev.syncSet_plots (d : Dev) (p c v : Nat) : (d.syncSet p c v).plots = d.plots := rfl
@[simp] theorem Dev.syncSet_scr (d : Dev) (p c v : Nat) : (d.syncSet p c v).scr = d.scr := rfl
@[simp] theorem Dev.syncSet_bed (d : Dev) (p c v : Nat) : (d.syncSet p c v).bed = d.bed := rfl
@[simp] theorem Dev.syncSet_flash (d : Dev) (p c v : Nat) : (d.syncSet p c v).flash = d.flash := rfl
@[simp] theorem Dev.syncSet_gddr (d : Dev) (p c v : Nat) : (d.syncSet p c v).gddr = d.gddr := rfl
@[simp] theorem Dev.syncSet_numbering (d : Dev) (p c v : Nat) : (d.syncSet p c v).numbering = d.numbering := rfl
@[simp] theorem Dev.syncSet_referee (d : Dev) (p c v : Nat) : (d.syncSet p c v).referee = d.referee := rfl
@[simp] theorem Dev.syncSet_points (d : Dev) (p c v : Nat) : (d.syncSet p c v).points = d.points := rfl
@[simp] theorem Dev.syncSet_gdcs (d : Dev) (p c v : Nat) : (d.syncSet p c v).gdcs = d.gdcs := rfl
@[simp] theorem Dev.syncSet_sowRound (d : Dev) (p c v : Nat) : (d.syncSet p c v).sowRound = d.sowRound := rfl
@[simp] theorem Dev.syncSet_licence (d : Dev) (p c v : Nat) : (d.syncSet p c v).licence = d.licence := rfl
@[simp] theorem Dev.syncSet_freeCtr (d : Dev) (p c v : Nat) : (d.syncSet p c v).freeCtr = d.freeCtr := rfl
@[simp] theorem Dev.syncSet_outs (d : Dev) (p c v : Nat) : (d.syncSet p c v).outs = d.outs := rfl
@[simp] theorem Dev.syncSet_links (d : Dev) (p c v : Nat) : (d.syncSet p c v).links = d.links := rfl
@[simp] theorem Dev.syncSet_cpl (d : Dev) (p c v : Nat) : (d.syncSet p c v).cpl = d.cpl := rfl
@[simp] theorem Dev.syncSet_tags (d : Dev) (p c v : Nat) : (d.syncSet p c v).tags = d.tags := rfl
@[simp] theorem Dev.syncSet_routes (d : Dev) (p c v : Nat) : (d.syncSet p c v).routes = d.routes := rfl
@[simp] theorem Dev.syncSet_mgmt (d : Dev) (p c v : Nat) : (d.syncSet p c v).mgmt = d.mgmt := rfl
@[simp] theorem Dev.syncSet_steps (d : Dev) (p c v : Nat) : (d.syncSet p c v).steps = d.steps := rfl
@[simp] theorem Dev.syncSet_spares (d : Dev) (p c v : Nat) : (d.syncSet p c v).spares = d.spares := rfl
@[simp] theorem Dev.syncSet_retired (d : Dev) (p c v : Nat) : (d.syncSet p c v).retired = d.retired := rfl
@[simp] theorem Dev.syncSet_octets (d : Dev) (p c v : Nat) : (d.syncSet p c v).octets = d.octets := rfl
@[simp] theorem Dev.syncSet_boot (d : Dev) (p c v : Nat) : (d.syncSet p c v).boot = d.boot := rfl
@[simp] theorem Dev.syncSet_rst (d : Dev) (p c v : Nat) : (d.syncSet p c v).rst = d.rst := rfl
@[simp] theorem Dev.syncSet_trust (d : Dev) (p c v : Nat) : (d.syncSet p c v).trust = d.trust := rfl
@[simp] theorem Dev.syncSet_shed (d : Dev) (p c v : Nat) : (d.syncSet p c v).shed = d.shed := rfl
@[simp] theorem Dev.syncSet_therm (d : Dev) (p c v : Nat) : (d.syncSet p c v).therm = d.therm := rfl
@[simp] theorem Dev.syncSet_tray (d : Dev) (p c v : Nat) : (d.syncSet p c v).tray = d.tray := rfl
@[simp] theorem Dev.syncSet_sed (d : Dev) (p c v : Nat) : (d.syncSet p c v).sed = d.sed := rfl
@[simp] theorem Dev.syncSet_snap (d : Dev) (p c v : Nat) : (d.syncSet p c v).snap = d.snap := rfl

@[simp] theorem Dev.emit_outs (d : Dev) (o : Out) : (d.emit o).outs = d.outs ++ [o] := rfl
@[simp] theorem Dev.free_freeCtr (d : Dev) (n : Nat) : (d.free n).1.freeCtr = d.freeCtr + 1 := rfl
@[simp] theorem Dev.rs_regs (d : Dev) (f : Fld) (v : Nat) : (d.rs f v).regs = rset d.regs f v := rfl
@[simp] theorem Dev.setPlot_plots (d : Dev) (p : Nat) (pl : Plot) :
    (d.setPlot p pl).plots = SMap.set Plot.reset d.plots p pl := rfl

/-! ## A plot -/

@[simp] theorem Plot.rs_pm (pl : Plot) (f : Fld) (v : Nat) : (pl.rs f v).pm = pl.pm := rfl
@[simp] theorem Plot.rs_pmErr (pl : Plot) (f : Fld) (v : Nat) : (pl.rs f v).pmErr = pl.pmErr := rfl
@[simp] theorem Plot.rs_scrErr (pl : Plot) (f : Fld) (v : Nat) : (pl.rs f v).scrErr = pl.scrErr := rfl
@[simp] theorem Plot.rs_acc (pl : Plot) (f : Fld) (v : Nat) : (pl.rs f v).acc = pl.acc := rfl
@[simp] theorem Plot.rs_accErr (pl : Plot) (f : Fld) (v : Nat) : (pl.rs f v).accErr = pl.accErr := rfl
@[simp] theorem Plot.rs_units (pl : Plot) (f : Fld) (v : Nat) : (pl.rs f v).units = pl.units := rfl
@[simp] theorem Plot.rs_abortPending (pl : Plot) (f : Fld) (v : Nat) : (pl.rs f v).abortPending = pl.abortPending := rfl
@[simp] theorem Plot.rs_loops (pl : Plot) (f : Fld) (v : Nat) : (pl.rs f v).loops = pl.loops := rfl
@[simp] theorem Plot.rs_wait (pl : Plot) (f : Fld) (v : Nat) : (pl.rs f v).wait = pl.wait := rfl
@[simp] theorem Plot.rs_ckpt (pl : Plot) (f : Fld) (v : Nat) : (pl.rs f v).ckpt = pl.ckpt := rfl
@[simp] theorem Plot.rs_mat (pl : Plot) (f : Fld) (v : Nat) : (pl.rs f v).mat = pl.mat := rfl
@[simp] theorem Plot.rs_live (pl : Plot) (f : Fld) (v : Nat) : (pl.rs f v).live = pl.live := rfl
@[simp] theorem Plot.rs_shadow (pl : Plot) (f : Fld) (v : Nat) : (pl.rs f v).shadow = pl.shadow := rfl
@[simp] theorem Plot.rs_shadowErr (pl : Plot) (f : Fld) (v : Nat) : (pl.rs f v).shadowErr = pl.shadowErr := rfl
@[simp] theorem Plot.rs_shadowPc (pl : Plot) (f : Fld) (v : Nat) : (pl.rs f v).shadowPc = pl.shadowPc := rfl
@[simp] theorem Plot.rs_waitLoad (pl : Plot) (f : Fld) (v : Nat) : (pl.rs f v).waitLoad = pl.waitLoad := rfl
@[simp] theorem Plot.rs_loading (pl : Plot) (f : Fld) (v : Nat) : (pl.rs f v).loading = pl.loading := rfl
@[simp] theorem Plot.rs_swapTaken (pl : Plot) (f : Fld) (v : Nat) : (pl.rs f v).swapTaken = pl.swapTaken := rfl
@[simp] theorem Plot.rs_keptHdr (pl : Plot) (f : Fld) (v : Nat) : (pl.rs f v).keptHdr = pl.keptHdr := rfl
@[simp] theorem Plot.rs_deps (pl : Plot) (f : Fld) (v : Nat) : (pl.rs f v).deps = pl.deps := rfl
@[simp] theorem Plot.rs_nextCheck (pl : Plot) (f : Fld) (v : Nat) : (pl.rs f v).nextCheck = pl.nextCheck := rfl
@[simp] theorem Plot.rs_rowChecks (pl : Plot) (f : Fld) (v : Nat) : (pl.rs f v).rowChecks = pl.rowChecks := rfl
@[simp] theorem Plot.rs_vecChecks (pl : Plot) (f : Fld) (v : Nat) : (pl.rs f v).vecChecks = pl.vecChecks := rfl
@[simp] theorem Plot.rs_attChecks (pl : Plot) (f : Fld) (v : Nat) : (pl.rs f v).attChecks = pl.attChecks := rfl
@[simp] theorem Plot.rs_outq (pl : Plot) (f : Fld) (v : Nat) : (pl.rs f v).outq = pl.outq := rfl
@[simp] theorem Plot.rs_suppress (pl : Plot) (f : Fld) (v : Nat) : (pl.rs f v).suppress = pl.suppress := rfl
@[simp] theorem Plot.rs_dmas (pl : Plot) (f : Fld) (v : Nat) : (pl.rs f v).dmas = pl.dmas := rfl
@[simp] theorem Plot.rs_issues (pl : Plot) (f : Fld) (v : Nat) : (pl.rs f v).issues = pl.issues := rfl
@[simp] theorem Plot.rs_nextIssue (pl : Plot) (f : Fld) (v : Nat) : (pl.rs f v).nextIssue = pl.nextIssue := rfl
@[simp] theorem Plot.rs_tines (pl : Plot) (f : Fld) (v : Nat) : (pl.rs f v).tines = pl.tines := rfl
@[simp] theorem Plot.rs_channels (pl : Plot) (f : Fld) (v : Nat) : (pl.rs f v).channels = pl.channels := rfl
@[simp] theorem Plot.rs_bedErr (pl : Plot) (f : Fld) (v : Nat) : (pl.rs f v).bedErr = pl.bedErr := rfl
@[simp] theorem Plot.rs_att (pl : Plot) (f : Fld) (v : Nat) : (pl.rs f v).att = pl.att := rfl
@[simp] theorem Plot.rs_streams (pl : Plot) (f : Fld) (v : Nat) : (pl.rs f v).streams = pl.streams := rfl
@[simp] theorem Plot.rs_sow (pl : Plot) (f : Fld) (v : Nat) : (pl.rs f v).sow = pl.sow := rfl

@[simp] theorem Plot.count_pm (pl : Plot) (f : Fld) (k : Nat) : (pl.count f k).pm = pl.pm := rfl
@[simp] theorem Plot.count_pmErr (pl : Plot) (f : Fld) (k : Nat) : (pl.count f k).pmErr = pl.pmErr := rfl
@[simp] theorem Plot.count_scrErr (pl : Plot) (f : Fld) (k : Nat) : (pl.count f k).scrErr = pl.scrErr := rfl
@[simp] theorem Plot.count_acc (pl : Plot) (f : Fld) (k : Nat) : (pl.count f k).acc = pl.acc := rfl
@[simp] theorem Plot.count_accErr (pl : Plot) (f : Fld) (k : Nat) : (pl.count f k).accErr = pl.accErr := rfl
@[simp] theorem Plot.count_units (pl : Plot) (f : Fld) (k : Nat) : (pl.count f k).units = pl.units := rfl
@[simp] theorem Plot.count_abortPending (pl : Plot) (f : Fld) (k : Nat) : (pl.count f k).abortPending = pl.abortPending := rfl
@[simp] theorem Plot.count_loops (pl : Plot) (f : Fld) (k : Nat) : (pl.count f k).loops = pl.loops := rfl
@[simp] theorem Plot.count_wait (pl : Plot) (f : Fld) (k : Nat) : (pl.count f k).wait = pl.wait := rfl
@[simp] theorem Plot.count_ckpt (pl : Plot) (f : Fld) (k : Nat) : (pl.count f k).ckpt = pl.ckpt := rfl
@[simp] theorem Plot.count_mat (pl : Plot) (f : Fld) (k : Nat) : (pl.count f k).mat = pl.mat := rfl
@[simp] theorem Plot.count_live (pl : Plot) (f : Fld) (k : Nat) : (pl.count f k).live = pl.live := rfl
@[simp] theorem Plot.count_shadow (pl : Plot) (f : Fld) (k : Nat) : (pl.count f k).shadow = pl.shadow := rfl
@[simp] theorem Plot.count_shadowErr (pl : Plot) (f : Fld) (k : Nat) : (pl.count f k).shadowErr = pl.shadowErr := rfl
@[simp] theorem Plot.count_shadowPc (pl : Plot) (f : Fld) (k : Nat) : (pl.count f k).shadowPc = pl.shadowPc := rfl
@[simp] theorem Plot.count_waitLoad (pl : Plot) (f : Fld) (k : Nat) : (pl.count f k).waitLoad = pl.waitLoad := rfl
@[simp] theorem Plot.count_loading (pl : Plot) (f : Fld) (k : Nat) : (pl.count f k).loading = pl.loading := rfl
@[simp] theorem Plot.count_swapTaken (pl : Plot) (f : Fld) (k : Nat) : (pl.count f k).swapTaken = pl.swapTaken := rfl
@[simp] theorem Plot.count_keptHdr (pl : Plot) (f : Fld) (k : Nat) : (pl.count f k).keptHdr = pl.keptHdr := rfl
@[simp] theorem Plot.count_deps (pl : Plot) (f : Fld) (k : Nat) : (pl.count f k).deps = pl.deps := rfl
@[simp] theorem Plot.count_nextCheck (pl : Plot) (f : Fld) (k : Nat) : (pl.count f k).nextCheck = pl.nextCheck := rfl
@[simp] theorem Plot.count_rowChecks (pl : Plot) (f : Fld) (k : Nat) : (pl.count f k).rowChecks = pl.rowChecks := rfl
@[simp] theorem Plot.count_vecChecks (pl : Plot) (f : Fld) (k : Nat) : (pl.count f k).vecChecks = pl.vecChecks := rfl
@[simp] theorem Plot.count_attChecks (pl : Plot) (f : Fld) (k : Nat) : (pl.count f k).attChecks = pl.attChecks := rfl
@[simp] theorem Plot.count_outq (pl : Plot) (f : Fld) (k : Nat) : (pl.count f k).outq = pl.outq := rfl
@[simp] theorem Plot.count_suppress (pl : Plot) (f : Fld) (k : Nat) : (pl.count f k).suppress = pl.suppress := rfl
@[simp] theorem Plot.count_dmas (pl : Plot) (f : Fld) (k : Nat) : (pl.count f k).dmas = pl.dmas := rfl
@[simp] theorem Plot.count_issues (pl : Plot) (f : Fld) (k : Nat) : (pl.count f k).issues = pl.issues := rfl
@[simp] theorem Plot.count_nextIssue (pl : Plot) (f : Fld) (k : Nat) : (pl.count f k).nextIssue = pl.nextIssue := rfl
@[simp] theorem Plot.count_tines (pl : Plot) (f : Fld) (k : Nat) : (pl.count f k).tines = pl.tines := rfl
@[simp] theorem Plot.count_channels (pl : Plot) (f : Fld) (k : Nat) : (pl.count f k).channels = pl.channels := rfl
@[simp] theorem Plot.count_bedErr (pl : Plot) (f : Fld) (k : Nat) : (pl.count f k).bedErr = pl.bedErr := rfl
@[simp] theorem Plot.count_att (pl : Plot) (f : Fld) (k : Nat) : (pl.count f k).att = pl.att := rfl
@[simp] theorem Plot.count_streams (pl : Plot) (f : Fld) (k : Nat) : (pl.count f k).streams = pl.streams := rfl
@[simp] theorem Plot.count_sow (pl : Plot) (f : Fld) (k : Nat) : (pl.count f k).sow = pl.sow := rfl

@[simp] theorem Plot.setChan_regs (pl : Plot) (ch : Nat) (c : Channel) : (pl.setChan ch c).regs = pl.regs := rfl
@[simp] theorem Plot.setChan_pm (pl : Plot) (ch : Nat) (c : Channel) : (pl.setChan ch c).pm = pl.pm := rfl
@[simp] theorem Plot.setChan_pmErr (pl : Plot) (ch : Nat) (c : Channel) : (pl.setChan ch c).pmErr = pl.pmErr := rfl
@[simp] theorem Plot.setChan_scrErr (pl : Plot) (ch : Nat) (c : Channel) : (pl.setChan ch c).scrErr = pl.scrErr := rfl
@[simp] theorem Plot.setChan_acc (pl : Plot) (ch : Nat) (c : Channel) : (pl.setChan ch c).acc = pl.acc := rfl
@[simp] theorem Plot.setChan_accErr (pl : Plot) (ch : Nat) (c : Channel) : (pl.setChan ch c).accErr = pl.accErr := rfl
@[simp] theorem Plot.setChan_units (pl : Plot) (ch : Nat) (c : Channel) : (pl.setChan ch c).units = pl.units := rfl
@[simp] theorem Plot.setChan_abortPending (pl : Plot) (ch : Nat) (c : Channel) : (pl.setChan ch c).abortPending = pl.abortPending := rfl
@[simp] theorem Plot.setChan_loops (pl : Plot) (ch : Nat) (c : Channel) : (pl.setChan ch c).loops = pl.loops := rfl
@[simp] theorem Plot.setChan_wait (pl : Plot) (ch : Nat) (c : Channel) : (pl.setChan ch c).wait = pl.wait := rfl
@[simp] theorem Plot.setChan_ckpt (pl : Plot) (ch : Nat) (c : Channel) : (pl.setChan ch c).ckpt = pl.ckpt := rfl
@[simp] theorem Plot.setChan_mat (pl : Plot) (ch : Nat) (c : Channel) : (pl.setChan ch c).mat = pl.mat := rfl
@[simp] theorem Plot.setChan_live (pl : Plot) (ch : Nat) (c : Channel) : (pl.setChan ch c).live = pl.live := rfl
@[simp] theorem Plot.setChan_shadow (pl : Plot) (ch : Nat) (c : Channel) : (pl.setChan ch c).shadow = pl.shadow := rfl
@[simp] theorem Plot.setChan_shadowErr (pl : Plot) (ch : Nat) (c : Channel) : (pl.setChan ch c).shadowErr = pl.shadowErr := rfl
@[simp] theorem Plot.setChan_shadowPc (pl : Plot) (ch : Nat) (c : Channel) : (pl.setChan ch c).shadowPc = pl.shadowPc := rfl
@[simp] theorem Plot.setChan_waitLoad (pl : Plot) (ch : Nat) (c : Channel) : (pl.setChan ch c).waitLoad = pl.waitLoad := rfl
@[simp] theorem Plot.setChan_loading (pl : Plot) (ch : Nat) (c : Channel) : (pl.setChan ch c).loading = pl.loading := rfl
@[simp] theorem Plot.setChan_swapTaken (pl : Plot) (ch : Nat) (c : Channel) : (pl.setChan ch c).swapTaken = pl.swapTaken := rfl
@[simp] theorem Plot.setChan_keptHdr (pl : Plot) (ch : Nat) (c : Channel) : (pl.setChan ch c).keptHdr = pl.keptHdr := rfl
@[simp] theorem Plot.setChan_deps (pl : Plot) (ch : Nat) (c : Channel) : (pl.setChan ch c).deps = pl.deps := rfl
@[simp] theorem Plot.setChan_nextCheck (pl : Plot) (ch : Nat) (c : Channel) : (pl.setChan ch c).nextCheck = pl.nextCheck := rfl
@[simp] theorem Plot.setChan_rowChecks (pl : Plot) (ch : Nat) (c : Channel) : (pl.setChan ch c).rowChecks = pl.rowChecks := rfl
@[simp] theorem Plot.setChan_vecChecks (pl : Plot) (ch : Nat) (c : Channel) : (pl.setChan ch c).vecChecks = pl.vecChecks := rfl
@[simp] theorem Plot.setChan_attChecks (pl : Plot) (ch : Nat) (c : Channel) : (pl.setChan ch c).attChecks = pl.attChecks := rfl
@[simp] theorem Plot.setChan_outq (pl : Plot) (ch : Nat) (c : Channel) : (pl.setChan ch c).outq = pl.outq := rfl
@[simp] theorem Plot.setChan_suppress (pl : Plot) (ch : Nat) (c : Channel) : (pl.setChan ch c).suppress = pl.suppress := rfl
@[simp] theorem Plot.setChan_dmas (pl : Plot) (ch : Nat) (c : Channel) : (pl.setChan ch c).dmas = pl.dmas := rfl
@[simp] theorem Plot.setChan_issues (pl : Plot) (ch : Nat) (c : Channel) : (pl.setChan ch c).issues = pl.issues := rfl
@[simp] theorem Plot.setChan_nextIssue (pl : Plot) (ch : Nat) (c : Channel) : (pl.setChan ch c).nextIssue = pl.nextIssue := rfl
@[simp] theorem Plot.setChan_tines (pl : Plot) (ch : Nat) (c : Channel) : (pl.setChan ch c).tines = pl.tines := rfl
@[simp] theorem Plot.setChan_bedErr (pl : Plot) (ch : Nat) (c : Channel) : (pl.setChan ch c).bedErr = pl.bedErr := rfl
@[simp] theorem Plot.setChan_att (pl : Plot) (ch : Nat) (c : Channel) : (pl.setChan ch c).att = pl.att := rfl
@[simp] theorem Plot.setChan_streams (pl : Plot) (ch : Nat) (c : Channel) : (pl.setChan ch c).streams = pl.streams := rfl
@[simp] theorem Plot.setChan_sow (pl : Plot) (ch : Nat) (c : Channel) : (pl.setChan ch c).sow = pl.sow := rfl

end Sys2Proof.Machine
end

