-- ==== Sys2Proof/Laws/Ops.lean ====
section
/-! SUPPORT. What the shared operations over registers, plots and memories do, once each. -/

namespace Sys2Proof.Machine

/-! ## Register fields -/

theorem rget_rset_same (m : SMap Nat) (f : Fld) (v : Nat) : rget (rset m f v) f = v % 2 ^ f.w :=
  SMap.get_set_same _ _ _ _

theorem rget_rset_ne (m : SMap Nat) {f g : Fld} (h : g.key ≠ f.key) (v : Nat) : rget (rset m f v) g = rget m g :=
  SMap.get_set_ne _ _ _ h _

theorem Dev.rg_rs_same (d : Dev) (f : Fld) (v : Nat) : (d.rs f v).rg f = v % 2 ^ f.w := rget_rset_same _ _ _

theorem Dev.rg_rs_ne (d : Dev) {f g : Fld} (h : g.key ≠ f.key) (v : Nat) : (d.rs f v).rg g = d.rg g :=
  rget_rset_ne _ h _

@[simp] theorem Dev.rg_setPlot (d : Dev) (p : Nat) (pl : Plot) (f : Fld) : (d.setPlot p pl).rg f = d.rg f := rfl

@[simp] theorem Dev.rg_modPlot (d : Dev) (p : Nat) (g : Plot → Plot) (f : Fld) : (d.modPlot p g).rg f = d.rg f := rfl

@[simp] theorem Dev.rg_emit (d : Dev) (o : Out) (f : Fld) : (d.emit o).rg f = d.rg f := rfl

@[simp] theorem Dev.rg_free (d : Dev) (n : Nat) (f : Fld) : (d.free n).1.rg f = d.rg f := rfl

theorem Plot.rg_rs_same (pl : Plot) (f : Fld) (v : Nat) : (pl.rs f v).rg f = v % 2 ^ f.w := rget_rset_same _ _ _

theorem Plot.rg_rs_ne (pl : Plot) {f g : Fld} (h : g.key ≠ f.key) (v : Nat) : (pl.rs f v).rg g = pl.rg g :=
  rget_rset_ne _ h _

/-- A free value fits its width (log entry 2). -/
theorem Dev.free_lt (d : Dev) (n : Nat) : (d.free n).2 < 2 ^ n := Nat.mod_lt _ (Nat.two_pow_pos n)

/-! ## Plots -/

@[simp] theorem Dev.plot_setPlot_same (d : Dev) (p : Nat) (pl : Plot) : (d.setPlot p pl).plot p = pl :=
  SMap.get_set_same _ _ _ _

theorem Dev.plot_setPlot_ne (d : Dev) {p q : Nat} (h : q ≠ p) (pl : Plot) : (d.setPlot p pl).plot q = d.plot q :=
  SMap.get_set_ne _ _ _ h _

@[simp] theorem Dev.plot_modPlot_same (d : Dev) (p : Nat) (f : Plot → Plot) : (d.modPlot p f).plot p = f (d.plot p) :=
  SMap.get_set_same _ _ _ _

theorem Dev.plot_modPlot_ne (d : Dev) {p q : Nat} (h : q ≠ p) (f : Plot → Plot) : (d.modPlot p f).plot q = d.plot q :=
  SMap.get_set_ne _ _ _ h _

@[simp] theorem Dev.plot_rs (d : Dev) (f : Fld) (v p : Nat) : (d.rs f v).plot p = d.plot p := rfl

@[simp] theorem Dev.plot_emit (d : Dev) (o : Out) (p : Nat) : (d.emit o).plot p = d.plot p := rfl

@[simp] theorem Plot.chan_setChan_same (pl : Plot) (ch : Nat) (c : Channel) : (pl.setChan ch c).chan ch = c :=
  SMap.get_set_same _ _ _ _

theorem Plot.chan_setChan_ne (pl : Plot) {ch k : Nat} (h : k ≠ ch) (c : Channel) :
    (pl.setChan ch c).chan k = pl.chan k := SMap.get_set_ne _ _ _ h _

/-! ## Memories -/

@[simp] theorem memGet_memSet_same (m : List Host.Cell) (a : Nat) (b : Byte) : memGet (memSet m a b) a = b :=
  SMap.get_set_same _ _ _ _

theorem memGet_memSet_ne (m : List Host.Cell) {a c : Nat} (h : c ≠ a) (b : Byte) :
    memGet (memSet m a b) c = memGet m c := SMap.get_set_ne _ _ _ h _

/-- A write of a run of bytes leaves every address outside the run alone. -/
theorem memGet_memWrite_out (bytes : List Byte) (m : List Host.Cell) (a c : Nat) (h : c < a ∨ a + bytes.length ≤ c) :
    memGet (memWrite m a bytes) c = memGet m c := by
  induction bytes generalizing m a with
  | nil => rfl
  | cons b t ih =>
    simp only [List.length_cons] at h
    rw [memWrite, ih _ _ (by omega), memGet_memSet_ne _ (by omega)]

/-- A byte of the run reads as written. -/
theorem memGet_memWrite_in (bytes : List Byte) (m : List Host.Cell) (a i : Nat) (h : i < bytes.length) :
    memGet (memWrite m a bytes) (a + i) = bytes[i] := by
  induction bytes generalizing m a i with
  | nil => simp at h
  | cons b t ih =>
    cases i with
    | zero => rw [memWrite, memGet_memWrite_out _ _ _ _ (by omega)]; simp
    | succ i =>
      rw [memWrite, show a + (i + 1) = a + 1 + i by omega, ih _ _ _ (by simpa using h)]
      simp

/-- A read of the run gives what was written. -/
theorem memRead_memWrite (bytes : List Byte) (m : List Host.Cell) (a : Nat) :
    memRead (memWrite m a bytes) a bytes.length = bytes := by
  apply List.ext_getElem
  · simp [memRead]
  · intro i h₁ h₂
    simp [memRead, memGet_memWrite_in _ _ _ _ h₂]

theorem Memory.wf_memSet (m : List Host.Cell) (a : Nat) (b : Byte) (h : Memory.wf m = true) :
    Memory.wf (memSet m a b) = true := SMap.wf_set _ _ _ _ h

/-- A write keeps the canonical form. -/
theorem Memory.wf_memWrite (bytes : List Byte) (m : List Host.Cell) (a : Nat) (h : Memory.wf m = true) :
    Memory.wf (memWrite m a bytes) = true := by
  induction bytes generalizing m a with
  | nil => exact h
  | cons b t ih => exact ih _ _ (Memory.wf_memSet _ _ _ h)

end Sys2Proof.Machine
end

