-- ==== Sys2Proof/Laws/Record.lean ====
section
/-! SUPPORT. What recording a code can change: registers and counters, the pin and the snapshot of the trigger, and nothing
else. -/

namespace Sys2Proof.Machine

/-- Two devices that differ at most in registers, in plots' registers, in the tray and in the snapshot. -/
def RegsOnly (d e : Dev) : Prop :=
  e = { d with regs := e.regs, plots := e.plots, tray := e.tray, snap := e.snap } ∧
    ∀ q, e.plot q = { d.plot q with regs := (e.plot q).regs }

theorem RegsOnly.refl (d : Dev) : RegsOnly d d := ⟨rfl, fun _ => rfl⟩

theorem RegsOnly.trans {d e f : Dev} (h : RegsOnly d e) (k : RegsOnly e f) : RegsOnly d f := by
  refine ⟨?_, fun q => ?_⟩
  · rw [k.1, h.1]
  · rw [k.2 q, h.2 q]

theorem RegsOnly.rs (d : Dev) (f : Fld) (v : Nat) : RegsOnly d (d.rs f v) := ⟨rfl, fun _ => rfl⟩

theorem RegsOnly.regs (d : Dev) (m : SMap Nat) : RegsOnly d { d with regs := m } := ⟨rfl, fun _ => rfl⟩

theorem RegsOnly.count (d : Dev) (f : Fld) (k : Nat) : RegsOnly d (d.count f k) := RegsOnly.rs _ _ _

theorem RegsOnly.plotRegs (d : Dev) (p : Nat) (m : SMap Nat) : RegsOnly d (d.setPlot p { d.plot p with regs := m }) := by
  refine ⟨rfl, fun q => ?_⟩
  by_cases h : q = p
  · subst h; simp
  · rw [Dev.plot_setPlot_ne _ h]

theorem RegsOnly.raiseEdge (d : Dev) (n : Nat) : RegsOnly d (raiseEdge d n) := RegsOnly.rs _ _ _

theorem RegsOnly.recordPut (d : Dev) (k i c : Nat) : RegsOnly d (recordPut d k i c).1 := by
  unfold Machine.recordPut
  dsimp only
  split
  · exact (RegsOnly.rs _ _ _).trans (RegsOnly.count _ _ _)
  · split
    · exact (RegsOnly.rs _ _ _).trans ((RegsOnly.rs _ _ _).trans ((RegsOnly.rs _ _ _).trans
        ((RegsOnly.rs _ _ _).trans ((RegsOnly.rs _ _ _).trans ((RegsOnly.rs _ _ _).trans (RegsOnly.rs _ _ _))))))
    · exact (RegsOnly.rs _ _ _).trans (RegsOnly.count _ _ _)

theorem RegsOnly.pmrStart (d : Dev) : RegsOnly d (pmrStart d) := by
  unfold Machine.pmrStart
  split
  · exact RegsOnly.recordPut _ _ _ _
  · exact ⟨rfl, fun _ => rfl⟩

theorem RegsOnly.ite {d e f : Dev} (c : Prop) [Decidable c] (h : RegsOnly d e) (k : RegsOnly d f) :
    RegsOnly d (if c then e else f) := by split <;> assumption

theorem RegsOnly.trigFire (d : Dev) : RegsOnly d (trigFire d) := by
  unfold Machine.trigFire
  split
  · exact RegsOnly.refl d
  · have h₁ : ∀ a : Dev, RegsOnly a (if a.rg fDBG_TRIG_ACT_PIN = 1 then
        { a with tray := { a.tray with trigOut := true } } else a) :=
      fun a => RegsOnly.ite _ ⟨rfl, fun _ => rfl⟩ (RegsOnly.refl _)
    have h₂ : ∀ a : Dev, RegsOnly a (if a.rg fDBG_TRIG_ACT_IRQ = 1 then Machine.raiseEdge a 10 else a) :=
      fun a => RegsOnly.ite _ (RegsOnly.raiseEdge _ _) (RegsOnly.refl _)
    have h₃ : ∀ a : Dev, RegsOnly a (if a.rg fDBG_TRIG_ACT_SNAP = 1 then Machine.pmrStart a else a) :=
      fun a => RegsOnly.ite _ (RegsOnly.pmrStart _) (RegsOnly.refl _)
    exact (RegsOnly.rs d fDBG_TRIG_ARM 0).trans ((h₁ _).trans ((h₂ _).trans (h₃ _)))

theorem RegsOnly.overflowed (d : Dev) : RegsOnly d (overflowed d) := by
  unfold Machine.overflowed
  refine RegsOnly.trans (e := if d.rg fPMR_STATUS_OVF_ANY = 1 then d else Machine.raiseEdge (d.rs fPMR_STATUS_OVF_ANY 1) 9)
    (RegsOnly.ite _ (RegsOnly.refl _) ((RegsOnly.rs _ _ _).trans (RegsOnly.raiseEdge _ _))) ?_
  exact RegsOnly.ite _ (RegsOnly.trigFire _) (RegsOnly.refl _)

theorem RegsOnly.plotEvent (d : Dev) (p ev n : Nat) (cls addr : Option Nat) : RegsOnly d (plotEvent d p ev n cls addr) := by
  unfold Machine.plotEvent
  simp only
  split
  · exact (RegsOnly.plotRegs d p _).trans (RegsOnly.overflowed _)
  · exact RegsOnly.plotRegs d p _

theorem RegsOnly.blockEvent (d : Dev) (k i ev n : Nat) (cls addr : Option Nat) :
    RegsOnly d (blockEvent d k i ev n cls addr) := by
  unfold Machine.blockEvent
  simp only
  split
  · exact (RegsOnly.regs d _).trans (RegsOnly.overflowed _)
  · exact RegsOnly.regs d _

theorem RegsOnly.codeEvent (d : Dev) (k i : Nat) : RegsOnly d (codeEvent d k i) := by
  unfold Machine.codeEvent
  exact RegsOnly.ite _ (RegsOnly.plotEvent _ _ _ _ _ _)
    (RegsOnly.ite _ (RegsOnly.blockEvent _ _ _ _ _ _ _)
    (RegsOnly.ite _ (RegsOnly.blockEvent _ _ _ _ _ _ _)
    (RegsOnly.ite _ (RegsOnly.blockEvent _ _ _ _ _ _ _)
    (RegsOnly.ite _ (RegsOnly.blockEvent _ _ _ _ _ _ _)
    (RegsOnly.ite _ (RegsOnly.blockEvent _ _ _ _ _ _ _)
    (RegsOnly.ite _ (RegsOnly.blockEvent _ _ _ _ _ _ _)
    (RegsOnly.ite _ (RegsOnly.blockEvent _ _ _ _ _ _ _)
    (RegsOnly.refl _))))))))

/-- Recording a code changes registers, plots' registers, the trigger's pin and the snapshot, and nothing else. -/
theorem RegsOnly.recordErr (d : Dev) (k i c : Nat) : RegsOnly d (recordErr d k i c) := by
  unfold Machine.recordErr
  refine ((RegsOnly.recordPut d k i c).trans (RegsOnly.codeEvent _ k i)).trans ?_
  exact RegsOnly.ite _ (RegsOnly.trigFire _) (RegsOnly.refl _)

theorem RegsOnly.recordPlot (d : Dev) (p c : Nat) : RegsOnly d (recordPlot d p c) := RegsOnly.recordErr _ _ _ _

theorem RegsOnly.recordFab (d : Dev) (c : Nat) : RegsOnly d (recordFab d c) := RegsOnly.recordErr _ _ _ _

/-! ## Registers that recording leaves alone -/

/-- A register key that is not the bank's at `base`. -/
def outsideBank (base k : Nat) : Prop := k < (base + 0x40) * 64 ∨ (base + 0x98) * 64 ≤ k

theorem rget_counterStep (base ev n : Nat) (cls addr : Option Nat) (s : SMap Nat × Nat × Bool) (k : Nat) (hk : k < 8)
    (g : Fld) (h : outsideBank base g.key) : rget (counterStep base ev n cls addr s k).1 g = rget s.1 g := by
  have hc : g.key ≠ ((fPMC_CNT_COUNT.at k).inBank base).key := by
    simp only [Fld.at, Fld.inBank, Fld.key, fPMC_CNT_COUNT, outsideBank] at h ⊢; omega
  have ho : g.key ≠ (fPMC_STATUS_OVF.inBank base).key := by
    simp only [Fld.inBank, Fld.key, fPMC_STATUS_OVF, outsideBank] at h ⊢; omega
  have rc : ∀ (i v : Nat), rget (if i = 0 then s.1 else rset s.1 ((fPMC_CNT_COUNT.at k).inBank base) v) g = rget s.1 g := by
    intro i v; split
    · rfl
    · exact rget_rset_ne _ hc _
  unfold counterStep
  split
  · rfl
  · dsimp only
    generalize (if rget s.1 ((fPMC_CFG_CHAIN.at k).inBank base) = 1 then s.2.1
      else if counterTakes s.1 base k ev cls addr = true then n else 0) = i
    have r := rc i (rget s.1 ((fPMC_CNT_COUNT.at k).inBank base) + i)
    revert r
    generalize (if i = 0 then s.1 else rset s.1 ((fPMC_CNT_COUNT.at k).inBank base)
      (rget s.1 ((fPMC_CNT_COUNT.at k).inBank base) + i)) = m
    intro r
    split
    · exact r
    · split
      · exact r
      · split
        · exact r
        · rw [rget_rset_ne _ ho]; exact r

theorem rget_bankCount (m : SMap Nat) (base ev n : Nat) (cls addr : Option Nat) (g : Fld) (h : outsideBank base g.key) :
    rget (bankCount m base ev n cls addr).1 g = rget m g := by
  have key : ∀ (l : List Nat) (s : SMap Nat × Nat × Bool), (∀ k ∈ l, k < 8) →
      rget (l.foldl (counterStep base ev n cls addr) s).1 g = rget s.1 g := by
    intro l
    induction l with
    | nil => intro s _; rfl
    | cons k t ih =>
      intro s hk
      rw [List.foldl_cons, ih _ (fun j hj => hk j (List.mem_cons_of_mem _ hj)),
        rget_counterStep _ _ _ _ _ _ _ (hk k List.mem_cons_self) _ h]
  have e := key (List.range 8) (m, 0, false) (fun k hk => List.mem_range.mp hk)
  unfold bankCount
  dsimp only
  rw [e]

/-- The registers of the sticky error record, the trigger, the snapshot state and the pending bits. -/
def outsideRecord (k : Nat) : Prop :=
  (k < 0x341000 * 64 ∨ 0x341040 * 64 ≤ k) ∧ (k < 0xb00000 * 64 ∨ 0xb03000 * 64 ≤ k) ∧
    (k < 0xb80018 * 64 ∨ 0xb80020 * 64 ≤ k) ∧ (k < 0xc00100 * 64 ∨ 0xc00108 * 64 ≤ k)

theorem Dev.rg_rs_out (d : Dev) (f g : Fld) (v : Nat) (hf : ¬ outsideRecord f.key) (h : outsideRecord g.key) :
    (d.rs f v).rg g = d.rg g := Dev.rg_rs_ne d (fun e => hf (e ▸ h)) v

theorem raiseEdge_rg (d : Dev) (n : Nat) (hn : n < 512) (g : Fld) (h : outsideRecord g.key) :
    (raiseEdge d n).rg g = d.rg g := by
  refine Dev.rg_rs_out _ _ _ _ ?_ h
  simp only [outsideRecord, Fld.at, Fld.key, fICU_PEND_PEND]; omega

theorem recordPut_rg (d : Dev) (k i c : Nat) (g : Fld) (h : outsideRecord g.key) :
    (recordPut d k i c).1.rg g = d.rg g := by
  have n : ∀ (d : Dev) (f : Fld) (v : Nat), ¬ outsideRecord f.key → (d.rs f v).rg g = d.rg g :=
    fun d f v hf => Dev.rg_rs_out d f g v hf h
  have a : ∀ (f : Fld) (j : Nat), f.off = 0xb01000 ∨ f.off = 0xb01008 → f.s1 = 16 → f.lo < 64 → j < 512 →
      ¬ outsideRecord (f.at j).key := by
    intro f j ho hs hl hj
    simp only [outsideRecord, Fld.at, Fld.key, hs]
    rcases ho with ho | ho <;> rw [ho] <;> omega
  have s : ¬ outsideRecord fERR_CLASS_SEEN_SEEN.key := by simp [outsideRecord, Fld.key, fERR_CLASS_SEEN_SEEN]
  have p : ¬ outsideRecord fERR_IDX_PRODUCER.key := by simp [outsideRecord, Fld.key, fERR_IDX_PRODUCER]
  have l : ¬ outsideRecord fERR_STATUS_LOST.key := by simp [outsideRecord, Fld.key, fERR_STATUS_LOST]
  unfold recordPut
  dsimp only
  split
  · rw [Dev.count, n _ _ _ (a _ _ (.inl rfl) rfl (by decide) (Nat.mod_lt _ (by decide))), n _ _ _ s]
  · split
    · have b : ∀ (f : Fld) (x : Nat), f.off = 0xb01000 ∨ f.off = 0xb01008 → f.s1 = 16 → f.lo < 64 →
          ¬ outsideRecord (f.at (x % 512)).key := fun f x ho hs hl => a f _ ho hs hl (Nat.mod_lt _ (by decide))
      rw [n _ _ _ p, n _ _ _ (b _ _ (.inr rfl) rfl (by decide)), n _ _ _ (b _ _ (.inl rfl) rfl (by decide)),
        n _ _ _ (b _ _ (.inl rfl) rfl (by decide)), n _ _ _ (b _ _ (.inl rfl) rfl (by decide)),
        n _ _ _ (b _ _ (.inl rfl) rfl (by decide)), n _ _ _ s]
    · rw [Dev.count, n _ _ _ l, n _ _ _ s]

theorem pmrStart_rg (d : Dev) (g : Fld) (h : outsideRecord g.key) : (pmrStart d).rg g = d.rg g := by
  unfold pmrStart
  split
  · exact recordPut_rg _ _ _ _ _ h
  · have o : ¬ outsideRecord fPMR_STATUS_BUSY.key := by simp [outsideRecord, Fld.key, fPMR_STATUS_BUSY]
    generalize hx : ({ d with snap := snapshot d } : Dev) = x
    rw [Dev.rg_rs_out x _ _ _ o h, ← hx]; simp only [Dev.rg]

theorem trigFire_rg (d : Dev) (g : Fld) (h : outsideRecord g.key) : (trigFire d).rg g = d.rg g := by
  unfold trigFire
  split
  · rfl
  · have h₁ : ∀ a : Dev, (if a.rg fDBG_TRIG_ACT_PIN = 1 then
        { a with tray := { a.tray with trigOut := true } } else a).rg g = a.rg g := by intro a; split <;> rfl
    have h₂ : ∀ a : Dev, (if a.rg fDBG_TRIG_ACT_IRQ = 1 then raiseEdge a 10 else a).rg g = a.rg g := by
      intro a; split
      · exact raiseEdge_rg _ _ (by decide) _ h
      · rfl
    have h₃ : ∀ a : Dev, (if a.rg fDBG_TRIG_ACT_SNAP = 1 then pmrStart a else a).rg g = a.rg g := by
      intro a; split
      · exact pmrStart_rg _ _ h
      · rfl
    exact (h₃ _).trans ((h₂ _).trans ((h₁ _).trans
      (Dev.rg_rs_out d fDBG_TRIG_ARM g 0 (by simp [outsideRecord, Fld.key, fDBG_TRIG_ARM]) h)))

theorem overflowed_rg (d : Dev) (g : Fld) (h : outsideRecord g.key) : (overflowed d).rg g = d.rg g := by
  have o : ¬ outsideRecord fPMR_STATUS_OVF_ANY.key := by simp [outsideRecord, Fld.key, fPMR_STATUS_OVF_ANY]
  have h₁ : (if d.rg fPMR_STATUS_OVF_ANY = 1 then d else raiseEdge (d.rs fPMR_STATUS_OVF_ANY 1) 9).rg g = d.rg g := by
    split
    · rfl
    · rw [raiseEdge_rg _ _ (by decide) _ h, Dev.rg_rs_out _ _ _ _ o h]
  have h₂ : ∀ a : Dev, (if a.rg fDBG_TRIG_OVF_EN = 1 then trigFire a else a).rg g = a.rg g := by
    intro a; split
    · exact trigFire_rg _ _ h
    · rfl
  exact (h₂ _).trans h₁

theorem recordPut_plots (d : Dev) (k i c : Nat) : (recordPut d k i c).1.plots = d.plots := by
  unfold recordPut; dsimp only; split <;> [rfl; (split <;> rfl)]

theorem pmrStart_plots (d : Dev) : (pmrStart d).plots = d.plots := by
  unfold pmrStart
  split
  · exact recordPut_plots _ _ _ _
  · rfl

theorem trigFire_plots (d : Dev) : (trigFire d).plots = d.plots := by
  unfold trigFire
  split
  · rfl
  · have h₁ : ∀ a : Dev, (if a.rg fDBG_TRIG_ACT_PIN = 1 then
        { a with tray := { a.tray with trigOut := true } } else a).plots = a.plots := by intro a; split <;> rfl
    have h₂ : ∀ a : Dev, (if a.rg fDBG_TRIG_ACT_IRQ = 1 then raiseEdge a 10 else a).plots = a.plots := by
      intro a; split <;> rfl
    have h₃ : ∀ a : Dev, (if a.rg fDBG_TRIG_ACT_SNAP = 1 then pmrStart a else a).plots = a.plots := by
      intro a; split
      · exact pmrStart_plots a
      · rfl
    exact (h₃ _).trans ((h₂ _).trans (h₁ _))

theorem overflowed_plots (d : Dev) : (overflowed d).plots = d.plots := by
  have h₁ : (if d.rg fPMR_STATUS_OVF_ANY = 1 then d else raiseEdge (d.rs fPMR_STATUS_OVF_ANY 1) 9).plots = d.plots := by
    split <;> rfl
  have h₂ : ∀ a : Dev, (if a.rg fDBG_TRIG_OVF_EN = 1 then trigFire a else a).plots = a.plots := by
    intro a; split
    · exact trigFire_plots a
    · rfl
  exact (h₂ _).trans h₁

theorem blockEvent_plots (d : Dev) (k i ev n : Nat) (cls addr : Option Nat) :
    (blockEvent d k i ev n cls addr).plots = d.plots := by
  unfold blockEvent; dsimp only
  split
  · rw [overflowed_plots]
  · rfl

/-- What a plot's registers outside its bank hold is not touched by an event of any plot. -/
theorem plotEvent_plot_rg (d : Dev) (p ev n : Nat) (cls addr : Option Nat) (q : Nat) (g : Fld)
    (h : outsideBank 0x3800 g.key) : ((plotEvent d p ev n cls addr).plot q).rg g = (d.plot q).rg g := by
  have m : (({ d.plot p with regs := (bankCount (d.plot p).regs 0x3800 ev n cls addr).1 } : Plot)).rg g = (d.plot p).rg g := by
    simp only [Plot.rg]
    exact rget_bankCount _ _ _ _ _ _ _ h
  have r : ((d.setPlot p { d.plot p with regs := (bankCount (d.plot p).regs 0x3800 ev n cls addr).1 }).plot q).rg g =
      (d.plot q).rg g := by
    by_cases hq : q = p
    · subst hq; rw [Dev.plot_setPlot_same]; exact m
    · rw [Dev.plot_setPlot_ne _ hq]
  unfold plotEvent
  dsimp only
  split
  · unfold Dev.plot; rw [overflowed_plots]; exact r
  · exact r

theorem plot_congr {d e : Dev} (h : e.plots = d.plots) (q : Nat) : e.plot q = d.plot q := by unfold Dev.plot; rw [h]

theorem codeEvent_plot_rg (d : Dev) (k i q : Nat) (g : Fld) (h : outsideBank 0x3800 g.key) :
    ((codeEvent d k i).plot q).rg g = (d.plot q).rg g := by
  have b : ∀ k i, (blockEvent d k i 0x200 1 none none).plot q = d.plot q := fun _ _ => plot_congr (blockEvent_plots _ _ _ _ _ _ _) q
  unfold codeEvent
  split
  · exact plotEvent_plot_rg _ _ _ _ _ _ _ _ h
  · iterate 7 (split; · rw [b])
    rfl

/-- Recording a code leaves the plots' registers outside their counter banks as they are. -/
theorem recordErr_plot_rg (d : Dev) (k i c q : Nat) (g : Fld) (h : outsideBank 0x3800 g.key) :
    ((recordErr d k i c).plot q).rg g = (d.plot q).rg g := by
  have e : ((codeEvent (recordPut d k i c).1 k i).plot q).rg g = (d.plot q).rg g := by
    rw [codeEvent_plot_rg _ _ _ _ _ h, plot_congr (recordPut_plots d k i c) q]
  unfold recordErr
  dsimp only
  split
  · rw [plot_congr (trigFire_plots _) q]; exact e
  · exact e

theorem plotEvent_rg (d : Dev) (p ev n : Nat) (cls addr : Option Nat) (g : Fld) (h : outsideRecord g.key) :
    (plotEvent d p ev n cls addr).rg g = d.rg g := by
  unfold plotEvent
  dsimp only
  split
  · rw [overflowed_rg _ _ h]; simp only [Dev.rg, Dev.setPlot_regs]
  · simp only [Dev.rg, Dev.setPlot_regs]

theorem blockEvent_rg (d : Dev) (k i ev n : Nat) (cls addr : Option Nat) (g : Fld) (h : outsideRecord g.key)
    (hb : outsideBank (bankOffset k i) g.key) : (blockEvent d k i ev n cls addr).rg g = d.rg g := by
  have m : ({ d with regs := (bankCount d.regs (bankOffset k i) ev n cls addr).1 } : Dev).rg g = d.rg g := by
    simp only [Dev.rg]
    exact rget_bankCount _ _ _ _ _ _ _ hb
  unfold blockEvent
  dsimp only
  split
  · rw [overflowed_rg _ _ h]; exact m
  · exact m

/-- Recording a code leaves alone every register but the error record, the trigger, the snapshot state, the pending bits and
the counter banks. -/
theorem recordErr_rg (d : Dev) (k i c : Nat) (g : Fld) (h : outsideRecord g.key)
    (hb : ∀ b, outsideBank (bankOffset b (if b ≤ 3 then i else 0)) g.key) : (recordErr d k i c).rg g = d.rg g := by
  have hp : (recordPut d k i c).1.rg g = d.rg g := recordPut_rg _ _ _ _ _ h
  have e : (codeEvent (recordPut d k i c).1 k i).rg g = d.rg g := by
    unfold codeEvent
    split
    · rw [plotEvent_rg _ _ _ _ _ _ _ h, hp]
    · split
      · rw [blockEvent_rg _ _ _ _ _ _ _ _ h (by simpa using hb 1), hp]
      · split
        · rw [blockEvent_rg _ _ _ _ _ _ _ _ h (by simpa using hb 2), hp]
        · split
          · rw [blockEvent_rg _ _ _ _ _ _ _ _ h (by simpa using hb 3), hp]
          · split
            · rw [blockEvent_rg _ _ _ _ _ _ _ _ h (by simpa using hb 4), hp]
            · split
              · rw [blockEvent_rg _ _ _ _ _ _ _ _ h (by simpa using hb 5), hp]
              · split
                · rw [blockEvent_rg _ _ _ _ _ _ _ _ h (by simpa using hb 6), hp]
                · split
                  · rw [blockEvent_rg _ _ _ _ _ _ _ _ h (by simpa using hb 7), hp]
                  · exact hp
  unfold recordErr
  dsimp only
  split
  · rw [trigFire_rg _ _ h]; exact e
  · exact e

theorem RegsOnly.scr {d e : Dev} (h : RegsOnly d e) : e.scr = d.scr := by rw [h.1]
theorem RegsOnly.bed {d e : Dev} (h : RegsOnly d e) : e.bed = d.bed := by rw [h.1]
theorem RegsOnly.gddr {d e : Dev} (h : RegsOnly d e) : e.gddr = d.gddr := by rw [h.1]
theorem RegsOnly.flash {d e : Dev} (h : RegsOnly d e) : e.flash = d.flash := by rw [h.1]
theorem RegsOnly.outs {d e : Dev} (h : RegsOnly d e) : e.outs = d.outs := by rw [h.1]

end Sys2Proof.Machine
end

