-- ==== Sys2Proof/Laws/Memory.lean ====
section
/-! SUPPORT. Every operation on a memory keeps its canonical form: addresses strictly rising, no entry that equals what an
unlisted address reads as. -/

namespace Sys2Proof.Machine

/-! ## Ranges of a memory -/

theorem SMap.sortedFrom_filter {α : Type} (p : Nat × α → Bool) (m : SMap α) (a : Nat) (h : SMap.sortedFrom a m = true) :
    SMap.sortedFrom a (m.filter p) = true := by
  induction m generalizing a with
  | nil => rfl
  | cons e t ih =>
    obtain ⟨j, w⟩ := e
    simp only [SMap.sortedFrom, Bool.and_eq_true, decide_eq_true_eq] at h
    rw [List.filter_cons]
    split
    · simp only [SMap.sortedFrom, Bool.and_eq_true, decide_eq_true_eq]
      exact ⟨h.1, ih _ h.2⟩
    · exact ih a (SMap.sortedFrom_mono (by omega) t h.2)

theorem SMap.wf_filter {α : Type} [DecidableEq α] (d : α) (p : Nat × α → Bool) (m : SMap α) (h : SMap.wf d m = true) :
    SMap.wf d (m.filter p) = true := by
  simp only [SMap.wf, Bool.and_eq_true] at h ⊢
  refine ⟨SMap.sortedFrom_filter p m 0 h.1, ?_⟩
  rw [List.all_eq_true] at h ⊢
  exact fun e he => h.2 e (List.mem_of_mem_filter he)

/-- Two rising lists, the first below `b` and the second from `b` on, rise together. -/
theorem SMap.sortedFrom_append {α : Type} (m n : SMap α) (a b : Nat) (hab : a ≤ b) (hm : SMap.sortedFrom a m = true)
    (hb : ∀ e ∈ m, e.1 < b) (hn : SMap.sortedFrom b n = true) : SMap.sortedFrom a (m ++ n) = true := by
  induction m generalizing a with
  | nil => exact SMap.sortedFrom_mono hab n hn
  | cons e t ih =>
    obtain ⟨j, w⟩ := e
    simp only [SMap.sortedFrom, Bool.and_eq_true, decide_eq_true_eq, List.cons_append] at hm ⊢
    have := hb (j, w) (by simp)
    exact ⟨hm.1, ih _ (by simpa using this) hm.2 (fun x hx => hb x (by simp [hx]))⟩

/-- A rising list moved from `s` to `t`. -/
theorem SMap.sortedFrom_move {α : Type} (m : SMap α) (a s t : Nat) (hs : s ≤ a) (h : SMap.sortedFrom a m = true) :
    SMap.sortedFrom (a - s + t) (m.map (fun c => (c.1 - s + t, c.2))) = true := by
  induction m generalizing a with
  | nil => rfl
  | cons e r ih =>
    obtain ⟨j, w⟩ := e
    simp only [SMap.sortedFrom, Bool.and_eq_true, decide_eq_true_eq, List.map_cons] at h ⊢
    refine ⟨by omega, ?_⟩
    have := ih (j + 1) (by omega) h.2
    rwa [show j - s + t + 1 = j + 1 - s + t by omega]

theorem SMap.sortedFrom_filter_ge {α : Type} (m : SMap α) (a b : Nat) (p : Nat × α → Bool) (hp : ∀ e, p e = true → b ≤ e.1)
    (h : SMap.sortedFrom a m = true) : SMap.sortedFrom b (m.filter p) = true := by
  induction m generalizing a with
  | nil => rfl
  | cons e t ih =>
    obtain ⟨j, w⟩ := e
    simp only [SMap.sortedFrom, Bool.and_eq_true, decide_eq_true_eq] at h
    rw [List.filter_cons]
    split
    · rename_i hq
      simp only [SMap.sortedFrom, Bool.and_eq_true, decide_eq_true_eq]
      exact ⟨hp _ hq, SMap.sortedFrom_filter p t _ h.2⟩
    · exact ih _ h.2

/-- Clearing a range keeps the canonical form. -/
theorem Memory.wf_memClear (m : List Host.Cell) (a n : Nat) (h : Memory.wf m = true) : Memory.wf (memClear m a n) = true :=
  SMap.wf_filter _ _ _ h

/-- Copying a range keeps the canonical form. -/
theorem Memory.wf_memCopy (m : List Host.Cell) (src dst n : Nat) (h : Memory.wf m = true) :
    Memory.wf (memCopy m src dst n) = true := by
  have hw := h
  simp only [Memory.wf, SMap.wf, Bool.and_eq_true] at h ⊢
  have hall : ∀ e ∈ m, e.2 ≠ (0 : Byte) := fun e he => by
    have := List.all_eq_true.mp h.2 e he
    simpa using this
  unfold memCopy
  dsimp only
  constructor
  · have h₁ := SMap.sortedFrom_filter (fun c => decide (c.1 < dst)) m 0 h.1
    have h₂ : SMap.sortedFrom dst ((m.filter (fun c => decide (src ≤ c.1) && decide (c.1 < src + n))).map
        (fun c => (c.1 - src + dst, c.2))) = true := by
      have := SMap.sortedFrom_move _ src src dst (Nat.le_refl _) (SMap.sortedFrom_filter_ge m 0 src
        (fun c => decide (src ≤ c.1) && decide (c.1 < src + n)) (fun e he => by simp at he; omega) h.1)
      simpa using this
    have h₃ := SMap.sortedFrom_filter_ge m 0 (dst + n) (fun c => decide (dst + n ≤ c.1))
      (fun e he => by simpa using he) h.1
    rw [List.append_assoc]
    refine SMap.sortedFrom_append _ _ 0 dst (Nat.zero_le _) h₁ (fun e he => ?_)
      (SMap.sortedFrom_append _ _ dst (dst + n) (Nat.le_add_right _ _) h₂ (fun e he => ?_) h₃)
    · simpa using (List.mem_filter.mp he).2
    · obtain ⟨c, hc, rfl⟩ := List.mem_map.mp he
      have := (List.mem_filter.mp hc).2
      simp at this
      show c.1 - src + dst < dst + n
      omega
  · rw [List.all_eq_true]
    intro e he
    simp only [decide_eq_true_eq]
    rcases List.mem_append.mp he with he | he
    · rcases List.mem_append.mp he with he | he
      · exact hall e (List.mem_of_mem_filter he)
      · obtain ⟨c, hc, rfl⟩ := List.mem_map.mp he
        exact hall c (List.mem_of_mem_filter hc)
    · exact hall e (List.mem_of_mem_filter he)

/-- Writing flash bytes keeps the canonical form, in which no erased byte is listed. -/
theorem SMap.wf_flPut (bytes : List Byte) (m : List Host.Cell) (a : Nat) (h : SMap.wf (0xFF : Byte) m = true) :
    SMap.wf (0xFF : Byte) (flPut m a bytes) = true := by
  induction bytes generalizing m a with
  | nil => exact h
  | cons b t ih => exact ih _ _ (SMap.wf_set _ _ _ _ h)

/-! ## The memories of a device -/

/-- Every memory of the device is in its canonical form. -/
structure MemoriesWf (d : Dev) : Prop where
  scr : Memory.wf d.scr = true
  bed : Memory.wf d.bed = true
  gddr : Memory.wf d.gddr = true
  sram : Memory.wf d.shed.sram = true
  flash : SMap.wf (0xFF : Byte) d.flash.bytes = true

theorem MemoriesWf.reset : MemoriesWf State.reset.dev := ⟨rfl, rfl, rfl, rfl, rfl⟩

theorem MemoriesWf.of_regsOnly {d e : Dev} (h : RegsOnly d e) (k : MemoriesWf d) : MemoriesWf e := by
  constructor
  all_goals rw [h.1]
  exacts [k.scr, k.bed, k.gddr, k.sram, k.flash]

theorem MemoriesWf.setPlot {d : Dev} (p : Nat) (pl : Plot) (k : MemoriesWf d) : MemoriesWf (d.setPlot p pl) :=
  ⟨k.scr, k.bed, k.gddr, k.sram, k.flash⟩

theorem MemoriesWf.modPlot {d : Dev} (p : Nat) (f : Plot → Plot) (k : MemoriesWf d) : MemoriesWf (d.modPlot p f) :=
  k.setPlot _ _

theorem MemoriesWf.rs {d : Dev} (f : Fld) (v : Nat) (k : MemoriesWf d) : MemoriesWf (d.rs f v) :=
  ⟨k.scr, k.bed, k.gddr, k.sram, k.flash⟩

theorem MemoriesWf.count {d : Dev} (f : Fld) (n : Nat) (k : MemoriesWf d) : MemoriesWf (d.count f n) := k.rs _ _

theorem MemoriesWf.ite {d e : Dev} (c : Prop) [Decidable c] (h : MemoriesWf d) (k : MemoriesWf e) :
    MemoriesWf (if c then d else e) := by split <;> assumption

theorem MemoriesWf.bedBytes {d : Dev} (a : Nat) (bytes : List Byte) (k : MemoriesWf d) :
    MemoriesWf { d with bed := memWrite d.bed a bytes } :=
  ⟨k.scr, Memory.wf_memWrite _ _ _ k.bed, k.gddr, k.sram, k.flash⟩

theorem MemoriesWf.gddrBytes {d : Dev} (a : Nat) (bytes : List Byte) (k : MemoriesWf d) :
    MemoriesWf { d with gddr := memWrite d.gddr a bytes } :=
  ⟨k.scr, k.bed, Memory.wf_memWrite _ _ _ k.gddr, k.sram, k.flash⟩

/-- A fold of operations that each keep the memories canonical keeps them canonical. -/
theorem MemoriesWf.foldl {α β : Type} (g : β → Dev) (f : β → α → β) (hf : ∀ b a, MemoriesWf (g b) → MemoriesWf (g (f b a)))
    (l : List α) (b : β) (h : MemoriesWf (g b)) : MemoriesWf (g (l.foldl f b)) := by
  induction l generalizing b with
  | nil => exact h
  | cons a t ih => exact ih _ (hf _ _ h)

/-- An object written to flash keeps the canonical form. -/
theorem MemoriesWf.flWrite {d : Dev} (a : Nat) (bytes : List Byte) (k : MemoriesWf d) : MemoriesWf (flWrite d a bytes) :=
  ⟨k.scr, k.bed, k.gddr, k.sram, SMap.wf_flPut _ _ _ (SMap.wf_filter _ _ _ k.flash)⟩

/-! ### Scratch (R139) -/

theorem Memory.wf_foldl {α : Type} (f : List Host.Cell → α → List Host.Cell)
    (hf : ∀ m a, Memory.wf m = true → Memory.wf (f m a) = true) (l : List α) (m : List Host.Cell) (h : Memory.wf m = true) :
    Memory.wf (l.foldl f m) = true := by
  induction l generalizing m with
  | nil => exact h
  | cons a t ih => exact ih _ (hf _ _ h)

/-- A write of scratch keeps the memories canonical. -/
theorem MemoriesWf.scrWrite {d : Dev} (p a : Nat) (bytes : List Byte) (k : MemoriesWf d) :
    MemoriesWf (scrWrite d p a bytes).1 := by
  unfold Machine.scrWrite
  dsimp only
  split
  · exact k
  · split
    · refine MemoriesWf.setPlot _ _ ⟨Memory.wf_foldl _ (fun m e hm => ?_) _ _ k.scr, k.bed, k.gddr, k.sram, k.flash⟩
      split
      · exact Memory.wf_memSet _ _ _ hm
      · exact hm
    · refine MemoriesWf.of_regsOnly (RegsOnly.recordPlot _ _ _)
        (MemoriesWf.setPlot _ _ ⟨Memory.wf_foldl _ (fun m e hm => ?_) _ _ k.scr, k.bed, k.gddr, k.sram, k.flash⟩)
      split
      · exact Memory.wf_memSet _ _ _ hm
      · exact hm

/-! ### Beds (R173 to R175) -/

theorem MemoriesWf.plotIrq {d : Dev} (p i : Nat) (k : MemoriesWf d) : MemoriesWf (plotIrq d p i) :=
  MemoriesWf.ite _ (MemoriesWf.modPlot _ _ k) k

theorem MemoriesWf.recordPlot {d : Dev} (p c : Nat) (k : MemoriesWf d) : MemoriesWf (recordPlot d p c) :=
  MemoriesWf.of_regsOnly (RegsOnly.recordPlot _ _ _) k

theorem MemoriesWf.rowError {d : Dev} (p ch bank row : Nat) (full : Bool) (k : MemoriesWf d) :
    MemoriesWf (rowError d p ch bank row full) := by
  unfold Machine.rowError
  dsimp only
  have h (pl : Plot) : MemoriesWf (d.setPlot p pl) := MemoriesWf.setPlot _ _ k
  exact MemoriesWf.ite _ (MemoriesWf.ite _ (MemoriesWf.ite _ (h _) (MemoriesWf.modPlot _ _ (h _)))
    (MemoriesWf.plotIrq _ _ (MemoriesWf.recordPlot _ _ (h _)))) (h _)

theorem MemoriesWf.bedEncode {d : Dev} (p col : Nat) (k : MemoriesWf d) : MemoriesWf (bedReadCol.bedEncode d p col) := by
  unfold bedReadCol.bedEncode
  exact MemoriesWf.modPlot _ _ k

/-- A read of a column, with or without its rewriting, keeps the memories canonical. -/
theorem MemoriesWf.bedReadCol {d : Dev} (p col : Nat) (scrub : Bool) (k : MemoriesWf d) :
    MemoriesWf (bedReadCol d p col scrub).1 := by
  unfold Machine.bedReadCol
  dsimp only
  split
  · exact k
  · have h := MemoriesWf.rowError p (col / 2 ^ 19) (col / 2 ^ 16 % 8) (col / 2 ^ 6 % 1024) false
      (MemoriesWf.of_regsOnly (RegsOnly.plotEvent _ p 0x201 1 none none)
        (MemoriesWf.modPlot p (fun pl => pl.count (fBED_CH_ECC_CORRECTED.at (col / 2 ^ 19)) 1) k))
    generalize Machine.rowError _ p _ _ _ false = e at h ⊢
    split
    · exact MemoriesWf.bedEncode _ _ (MemoriesWf.bedBytes _ _ h)
    · exact h
  · exact MemoriesWf.rowError _ _ _ _ _ (MemoriesWf.plotIrq _ _ (MemoriesWf.recordPlot _ _ (MemoriesWf.setPlot _ _ k)))

theorem MemoriesWf.bedWriteCol {d : Dev} (p col at_ : Nat) (bytes : List Byte) (k : MemoriesWf d) :
    MemoriesWf (bedWriteCol d p col at_ bytes).1 := by
  unfold Machine.bedWriteCol
  dsimp only
  split
  · exact MemoriesWf.bedEncode _ _ (MemoriesWf.bedBytes _ _ k)
  · have h := MemoriesWf.bedReadCol p col false k
    split
    · exact MemoriesWf.recordPlot _ _ h
    · exact MemoriesWf.bedEncode _ _ (MemoriesWf.bedBytes _ _ h)

/-- A read of a bed keeps the memories canonical. -/
theorem MemoriesWf.bedRead {d : Dev} (p off n : Nat) (scrub : Bool) (k : MemoriesWf d) :
    MemoriesWf (bedRead d p off n scrub).1 := by
  have h := MemoriesWf.foldl (fun s : Dev × List Byte × Bool => s.1)
    (fun s col => ((Machine.bedReadCol s.1 p col scrub).1, s.2.1 ++ (Machine.bedReadCol s.1 p col scrub).2.1,
      s.2.2 || (Machine.bedReadCol s.1 p col scrub).2.2))
    (fun b a hb => MemoriesWf.bedReadCol p a scrub hb) (colsOf off n) (d, [], false) k
  unfold Machine.bedRead
  dsimp only
  split <;> exact h

/-- A write of a bed keeps the memories canonical. -/
theorem MemoriesWf.bedWrite {d : Dev} (p off : Nat) (bytes : List Byte) (k : MemoriesWf d) :
    MemoriesWf (bedWrite d p off bytes).1 := by
  unfold Machine.bedWrite
  dsimp only
  refine MemoriesWf.foldl (fun s : Dev × Nat => s.1) _ ?_ _ (d, 0) k
  exact fun b a hb => MemoriesWf.bedWriteCol _ _ _ _ hb

/-! ### GDDR7 memory (R281 to R285) -/

theorem MemoriesWf.gdcErr {d : Dev} (c : Nat) (f : Fld) (code : Nat) (k : MemoriesWf d) : MemoriesWf (gdcErr d c f code) :=
  MemoriesWf.of_regsOnly (RegsOnly.recordErr _ _ _ _) (MemoriesWf.rs _ _ k)

theorem MemoriesWf.gdcErrAddr {d : Dev} (c loc : Nat) (w : Bool) (k : MemoriesWf d) : MemoriesWf (gdcErrAddr d c loc w) :=
  MemoriesWf.ite _ k (MemoriesWf.rs _ _ (MemoriesWf.rs _ _ (MemoriesWf.rs _ _ k)))

theorem MemoriesWf.gdcSuspect {d : Dev} (c loc : Nat) (full : Bool) (k : MemoriesWf d) :
    MemoriesWf (gdcSuspect d c loc full) := by
  unfold Machine.gdcSuspect
  dsimp only
  refine MemoriesWf.ite _ k ?_
  have h {e : Dev} (f : Fld) (v : Nat) (k : MemoriesWf e) : MemoriesWf (e.rs f v) := k.rs f v
  exact MemoriesWf.ite _ (MemoriesWf.gdcErr _ _ _ (h _ _ (h _ _ (h _ _ (h _ _ (h _ _ k))))))
    (h _ _ (h _ _ (h _ _ (h _ _ (h _ _ k)))))

theorem MemoriesWf.sectorReport {d : Dev} (s rep : Nat) (k : MemoriesWf d) : MemoriesWf (sectorReport d s rep).1 := by
  have h₁ := MemoriesWf.gdcSuspect (gddrMap s).1 (gddrMap s).2 false (MemoriesWf.of_regsOnly
    (RegsOnly.blockEvent _ 3 (gddrMap s).1 0x201 1 none none) (MemoriesWf.count (fGDC_ECC_CNT_CORRECTED.at (gddrMap s).1) 1 k))
  have h₂ := MemoriesWf.gdcSuspect (gddrMap s).1 (gddrMap s).2 true
    (MemoriesWf.count (fGDC_ECC_CNT_UNCORRECTABLE.at (gddrMap s).1) 1 k)
  unfold Machine.sectorReport
  dsimp only
  generalize Machine.gdcSuspect _ _ _ false = e₁ at h₁ ⊢
  generalize Machine.gdcSuspect _ _ _ true = e₂ at h₂ ⊢
  split
  · exact h₁
  · split
    · exact h₂
    · exact k

/-- A read of GDDR7 memory keeps the memories canonical. -/
theorem MemoriesWf.gddrRead {d : Dev} (a n : Nat) (report : List Nat) (k : MemoriesWf d) :
    MemoriesWf (gddrRead d a n report).1 := by
  have h := MemoriesWf.foldl (fun s : Dev × Bool × List Nat => s.1)
    (fun s sec =>
      let q := Machine.sectorReport s.1 sec (s.2.2.headD 0)
      let m := gddrMap sec
      (if q.2 then Machine.gdcErrAddr (Machine.gdcErr q.1 m.1 fGDC_ERR_UNCORR 0x0901) m.1 m.2 false else q.1,
        s.2.1 || q.2, s.2.2.tail))
    (fun b a hb => by
      have := MemoriesWf.sectorReport a (b.2.2.headD 0) hb
      exact MemoriesWf.ite _ (MemoriesWf.gdcErrAddr _ _ _ (MemoriesWf.gdcErr _ _ _ this)) this)
    (sectorsOf a n) (d, false, report) k
  unfold Machine.gddrRead
  dsimp only at h ⊢
  split <;> exact h

/-- A write of GDDR7 memory keeps the memories canonical. -/
theorem MemoriesWf.gddrWrite {d : Dev} (a : Nat) (bytes : List Byte) (report : List Nat) (k : MemoriesWf d) :
    MemoriesWf (gddrWrite d a bytes report).1 := by
  unfold Machine.gddrWrite
  dsimp only
  refine MemoriesWf.foldl (fun s : Dev × Nat × List Nat => s.1) _ (fun b sec hb => ?_) _ (d, 0, report) k
  have hq := MemoriesWf.sectorReport sec (b.2.2.headD 0) hb
  split
  · exact MemoriesWf.gddrBytes _ _ hb
  · split
    · exact MemoriesWf.gdcErrAddr _ _ _ (MemoriesWf.gdcErr _ _ _ hq)
    · exact MemoriesWf.gddrBytes _ _ hq

/-- A reduce-write of GDDR7 memory keeps the memories canonical. -/
theorem MemoriesWf.gddrReduce {d : Dev} (a op : Nat) (bytes : List Byte) (report : List Nat) (k : MemoriesWf d) :
    MemoriesWf (gddrReduce d a op bytes report).1 := by
  unfold Machine.gddrReduce
  dsimp only
  refine MemoriesWf.foldl (fun s : Dev × Nat × List Nat => s.1) _ (fun b sec hb => ?_) _ (d, 0, report) k
  have hq := MemoriesWf.sectorReport sec (b.2.2.headD 0) hb
  split
  · exact MemoriesWf.gdcErrAddr _ _ _ (MemoriesWf.gdcErr _ _ _ hq)
  · exact MemoriesWf.count _ _ (MemoriesWf.gddrBytes _ _ hq)

/-! ### SRAM (R506) -/

theorem MemoriesWf.sramScrub {d : Dev} (ws : List Nat) (k : MemoriesWf d) : MemoriesWf (sramScrub d ws) := by
  unfold Machine.sramScrub
  refine MemoriesWf.foldl (fun s : Dev => s) _ (fun b w hb => ?_) _ _ k
  exact MemoriesWf.ite _ (MemoriesWf.of_regsOnly (RegsOnly.blockEvent _ _ _ _ _ _ _)
    (MemoriesWf.count _ _ ⟨hb.scr, hb.bed, hb.gddr, hb.sram, hb.flash⟩)) hb

theorem MemoriesWf.sramUncorr {d : Dev} (core w : Nat) (k : MemoriesWf d) : MemoriesWf (sramUncorr d core w) := by
  have h : MemoriesWf (if bitOf (d.rg fSHD_ERR_CODE_SEEN) 4 then d else d.rs fSHD_SRAM_ERR_ADDR w) :=
    MemoriesWf.ite _ k (k.rs _ _)
  unfold Machine.sramUncorr
  dsimp only
  generalize (if bitOf (d.rg fSHD_ERR_CODE_SEEN) 4 then d else d.rs fSHD_SRAM_ERR_ADDR w) = e at h ⊢
  unfold Machine.shdErr
  exact MemoriesWf.of_regsOnly (RegsOnly.recordErr _ _ _ _) (h.rs _ _)

/-- A write of SRAM keeps the memories canonical. -/
theorem MemoriesWf.sramWrite {d : Dev} (core off : Nat) (bytes : List Byte) (k : MemoriesWf d) :
    MemoriesWf (sramWrite d core off bytes).1 := by
  unfold Machine.sramWrite
  dsimp only
  split
  · exact MemoriesWf.sramUncorr _ _ k
  · have h := k.sramScrub ((sramWords off bytes.length).filter
      (fun w => !(decide (off ≤ w * 8) && decide (w * 8 + 8 ≤ off + bytes.length))))
    generalize Machine.sramScrub d _ = e at h ⊢
    refine MemoriesWf.ite _ (MemoriesWf.rs _ _ ?_) ?_ <;>
      exact ⟨h.scr, h.bed, h.gddr, Memory.wf_memWrite _ _ _ h.sram, h.flash⟩

end Sys2Proof.Machine
end

