-- ==== Sys2Proof/Laws/Signing.lean ====
section
/-! SUPPORT. A signer for the tests: one top-level WOTS+ key pair signs whatever root the seven layers below it give, so a
record of any bytes has a signature that verifies under a key of its own (R523, R525). -/

namespace Sys2Proof.Machine

/-! ## Lengths -/

theorem keccakRound_length (a : List W64) (rc : W64) : (keccakRound a rc).length = 25 := by
  simp [keccakRound, List.range_succ]

theorem keccakF_length (a : List W64) : (keccakF a).length = 25 := by
  have h : keccakRC = keccakRC.dropLast ++ [0x8000000080008008] := by decide
  rw [keccakF, h, List.foldl_append]
  exact keccakRound_length _ _

theorem zeros_length (n : Nat) : (zeros n).length = n := List.length_replicate

theorem leBytes_length (n v : Nat) : (leBytes n v).length = n := by
  induction n generalizing v with
  | zero => rfl
  | succ n ih => simp [leBytes, ih]

theorem flatMap_leBytes_length (l : List W64) : (l.flatMap (fun w => leBytes 8 w.toNat)).length = 8 * l.length := by
  induction l with
  | nil => rfl
  | cons x l ih => simp [List.flatMap_cons, leBytes_length, ih]; omega

theorem xHash_length (k : Nat) (key m : List Byte) : (xHash k key m).length = 32 := by
  have h (a : List W64) (ha : a.length = 25) : (shakeSqueeze 1 a 32).length = 32 := by
    change (((a.flatMap (fun w => leBytes 8 w.toNat)).take 136).take 32).length = 32
    rw [List.length_take, List.length_take, flatMap_leBytes_length, ha]; rfl
  exact h _ (keccakF_length _)

/-! ## One layer -/

/-- The address of chain `i` of the one key pair used. -/
def signAdr (i : Nat) : XAdr := ⟨7, 0, 0, 0, i, 0⟩

/-- The public seed, and the secret of every chain. -/
def signSeed : List Byte := zeros 32

/-- `n` steps of chain `i` from its start. -/
def signChain (i n : Nat) : List Byte := wotsChain signSeed (signAdr i) n 0 (zeros 32)

theorem wotsChain_add (seed : List Byte) (a : XAdr) (n k i : Nat) (x : List Byte) :
    wotsChain seed a k (i + n) (wotsChain seed a n i x) = wotsChain seed a (n + k) i x := by
  induction n generalizing i x with
  | zero => simp [wotsChain]
  | succ n ih =>
    rw [show n + 1 + k = (n + k) + 1 by omega]
    simp only [wotsChain]
    rw [← ih (i + 1), show i + 1 + n = i + (n + 1) by omega]

theorem wotsChain_length (seed : List Byte) (a : XAdr) (n i : Nat) (x : List Byte) (h : x.length = 32) :
    (wotsChain seed a n i x).length = 32 := by
  induction n generalizing i x with
  | zero => exact h
  | succ n ih => exact ih _ _ (xHash_length _ _ _)

theorem piecesOf_flatten (l : List (List Byte)) (h : ∀ x ∈ l, x.length = 32) (r : List Byte) :
    piecesOf 32 l.length (l.flatten ++ r) = l := by
  induction l with
  | nil => rfl
  | cons x l ih =>
    have hx := h x List.mem_cons_self
    simp only [List.length_cons, piecesOf, List.flatten_cons, List.append_assoc]
    rw [List.take_left' hx, List.drop_left' hx, ih (fun y hy => h y (List.mem_cons_of_mem _ hy))]

theorem nibbles_lt (b : List Byte) : ∀ x ∈ nibbles b, x < 16 := by
  intro x hx
  simp only [nibbles, List.mem_flatMap, List.mem_cons, List.not_mem_nil, or_false] at hx
  obtain ⟨y, _, rfl | rfl⟩ := hx
  · have := y.isLt; omega
  · omega

theorem nibbles_length (b : List Byte) : (nibbles b).length = 2 * b.length := by
  induction b with
  | nil => rfl
  | cons x b ih => simp only [nibbles, List.flatMap_cons, List.length_append, List.length_cons] at *; simp; omega

theorem wotsDigits_length (m : List Byte) (h : m.length = 32) : (wotsDigits m).length = 67 := by
  simp [wotsDigits, nibbles_length, h, beBytes, leBytes_length]

theorem wotsDigits_lt (m : List Byte) : ∀ x ∈ wotsDigits m, x < 16 := by
  intro x hx
  simp only [wotsDigits, List.mem_append] at hx
  rcases hx with hx | hx
  · exact nibbles_lt _ x hx
  · exact nibbles_lt _ x (List.mem_of_mem_take hx)

/-- The 67 chain values that sign `m`. -/
def signPieces (m : List Byte) : List (List Byte) := ((List.range 67).zip (wotsDigits m)).map (fun e => signChain e.1 e.2)

/-- The ends of the 67 chains. -/
def signEnds : List (List Byte) := (List.range 67).map (fun i => signChain i 15)

/-- The root of the key. -/
@[irreducible] def signRoot : List Byte :=
  authPath signSeed ⟨7, 0, 2, 0, 0, 0⟩ 0 0 (ltree signSeed ⟨7, 0, 1, 0, 0, 0⟩ 8 0 signEnds) (List.replicate 5 (zeros 32))

theorem signPieces_length (m : List Byte) (h : m.length = 32) : (signPieces m).length = 67 := by
  simp [signPieces, wotsDigits_length m h]

theorem signPieces_each (m : List Byte) : ∀ x ∈ signPieces m, x.length = 32 := by
  intro x hx
  simp only [signPieces, List.mem_map] at hx
  obtain ⟨e, _, rfl⟩ := hx
  exact wotsChain_length _ _ _ _ _ (by simp [zeros])

theorem sign_ends_of (a b : List Nat) (h : a.length = b.length) (hb : ∀ x ∈ b, x < 16) :
    ((a.zip (((a.zip b).map (fun e => signChain e.1 e.2)).zip b)).map (fun e =>
      wotsChain signSeed (signAdr e.1) (15 - e.2.2) e.2.2 e.2.1)) = a.map (fun i => signChain i 15) := by
  induction a generalizing b with
  | nil => rfl
  | cons x a ih =>
    cases b with
    | nil => simp at h
    | cons y b =>
      have hy := hb y List.mem_cons_self
      simp only [List.zip_cons_cons, List.map_cons]
      rw [ih b (by simpa using h) (fun z hz => hb z (List.mem_cons_of_mem _ hz))]
      congr 1
      have := wotsChain_add signSeed (signAdr x) y (15 - y) 0 (zeros 32)
      rw [Nat.zero_add, show y + (15 - y) = 15 by omega] at this
      exact this

/-- The part of a signature that the top layer reads, for the root `m` below it. -/
@[irreducible] def signTop (m : List Byte) : List Byte := (signPieces m).flatten ++ zeros 160

theorem signTop_root (m : List Byte) (h : m.length = 32) : xmssRoot signSeed 7 0 0 5 m (signTop m) = signRoot := by
  have hp : piecesOf 32 67 (signTop m) = signPieces m := by
    have := piecesOf_flatten (signPieces m) (signPieces_each m) (zeros 160)
    rw [signPieces_length m h] at this
    rwa [signTop]
  have hf : (signPieces m).flatten.length = 67 * 32 := by
    have : ∀ l : List (List Byte), (∀ x ∈ l, x.length = 32) → l.flatten.length = l.length * 32 := by
      intro l
      induction l with
      | nil => intro _; rfl
      | cons x l ih =>
        intro hl
        simp only [List.flatten_cons, List.length_append, List.length_cons, hl x List.mem_cons_self,
          ih (fun y hy => hl y (List.mem_cons_of_mem _ hy))]
        omega
    rw [this _ (signPieces_each m), signPieces_length m h]
  have he := sign_ends_of (List.range 67) (wotsDigits m) (by simp [wotsDigits_length m h]) (wotsDigits_lt m)
  have hd : (signTop m).drop (67 * 32) = zeros 160 := by rw [signTop, List.drop_left' hf]
  simp only [xmssRoot, hp, hd]
  rw [show piecesOf 32 5 (zeros 160) = List.replicate 5 (zeros 32) by decide]
  unfold signRoot signEnds
  rw [← he]
  rfl

theorem xmssRoot_length (seed : List Byte) (layer tree idx h : Nat) (m sig : List Byte) (hh : 0 < h) :
    (xmssRoot seed layer tree idx h m sig).length = 32 := by
  have key : ∀ (a : XAdr) (t : List (List Byte)) (k : Nat) (x : List Byte), t ≠ [] →
      (authPath seed a idx k x t).length = 32 := by
    intro a t
    induction t with
    | nil => intro _ _ h; exact absurd rfl h
    | cons s t ih =>
      intro k x _
      simp only [authPath]
      by_cases ht : t = []
      · subst ht; simp only [authPath]; split <;> exact xHash_length _ _ _
      · exact ih _ _ ht
  refine key _ _ _ _ ?_
  cases h with
  | zero => omega
  | succ h => simp [piecesOf]

theorem piecesOf_append (k n : Nat) (a b : List Byte) (h : n * k ≤ a.length) : piecesOf k n (a ++ b) = piecesOf k n a := by
  induction n generalizing a with
  | zero => rfl
  | succ n ih =>
    have hk : k ≤ a.length := by rw [Nat.succ_mul] at h; omega
    simp only [piecesOf]
    rw [List.take_append_of_le_length hk, List.drop_append_of_le_length hk, ih _ (by rw [Nat.succ_mul] at h; simp; omega)]

theorem xmssRoot_append (seed : List Byte) (layer tree idx h : Nat) (m a b : List Byte) (ha : (67 + h) * 32 ≤ a.length) :
    xmssRoot seed layer tree idx h m (a ++ b) = xmssRoot seed layer tree idx h m a := by
  simp only [xmssRoot]
  rw [piecesOf_append 32 67 a b (by omega), List.drop_append_of_le_length (by omega),
    piecesOf_append 32 h _ b (by simp; omega)]

/-- The layers of a signature under index 0, the last apart. -/
theorem xmssLayers_split (seed : List Byte) (h n j : Nat) (m a b : List Byte) (ha : a.length = n * ((67 + h) * 32)) :
    xmssLayers seed h (n + 1) j 0 m (a ++ b) =
      xmssLayers seed h 1 (j + n) 0 (xmssLayers seed h n j 0 m a) b := by
  induction n generalizing j m a with
  | zero =>
    have : a = [] := List.eq_nil_of_length_eq_zero (by simpa using ha)
    subst this; rfl
  | succ n ih =>
    have hl : (67 + h) * 32 ≤ a.length := by rw [ha, Nat.succ_mul]; omega
    rw [xmssLayers, Nat.zero_div, Nat.zero_mod, xmssRoot_append _ _ _ _ _ _ _ _ hl, List.drop_append_of_le_length hl,
      ih (j + 1) _ _ (by rw [List.length_drop, ha, Nat.succ_mul]; omega)]
    have e : xmssLayers seed h (n + 1) j 0 m a =
        xmssLayers seed h n (j + 1) 0 (xmssRoot seed j 0 0 h m a) (a.drop ((67 + h) * 32)) := by
      rw [xmssLayers, Nat.zero_div, Nat.zero_mod]
    rw [e, show j + 1 + n = j + (n + 1) by omega]

theorem xmssLayers_length (seed : List Byte) (h n j : Nat) (m a : List Byte) (hh : 0 < h) :
    (xmssLayers seed h (n + 1) j 0 m a).length = 32 := by
  induction n generalizing j m a with
  | zero => simp only [xmssLayers, Nat.zero_div, Nat.zero_mod]; exact xmssRoot_length _ _ _ _ _ _ _ hh
  | succ n ih => rw [xmssLayers, Nat.zero_div, Nat.zero_mod]; exact ih _ _ _

/-! ## Keys, signatures and signed records -/

/-- The public key: OID, root and SEED. -/
@[irreducible] def signKey : List Byte := zeros 4 ++ signRoot ++ signSeed

/-- The signature of `m` under index 0. -/
@[irreducible] def sign (m : List Byte) : List Byte :=
  zeros 37 ++ (zeros 16128 ++ signTop (xmssLayers signSeed 5 7 0 0
    (xHash 2 (zeros 32 ++ signRoot ++ beBytes 32 0) m) (zeros 16128)))

theorem signRoot_length : signRoot.length = 32 :=
  (congrArg List.length (signTop_root (zeros 32) (by simp [zeros]))).symm.trans (xmssRoot_length _ _ _ _ _ _ _ (by omega))

theorem signKey_length : signKey.length = 68 := by simp [signKey, signRoot_length, zeros, signSeed]

theorem signTop_length (m : List Byte) (h : m.length = 32) : (signTop m).length = 2304 := by
  have : ∀ l : List (List Byte), (∀ x ∈ l, x.length = 32) → l.flatten.length = l.length * 32 := by
    intro l
    induction l with
    | nil => intro _; rfl
    | cons x l ih =>
      intro hl
      simp only [List.flatten_cons, List.length_append, List.length_cons, hl x List.mem_cons_self,
        ih (fun y hy => hl y (List.mem_cons_of_mem _ hy))]
      omega
  simp [signTop, this _ (signPieces_each m), signPieces_length m h, zeros]

theorem sign_length (m : List Byte) : (sign m).length = sigBytes := by
  simp only [sign, List.length_append, zeros_length]
  rw [signTop_length _ (xmssLayers_length _ _ 6 _ _ _ (by decide)), sigBytes]

theorem sign_verifies (m : List Byte) : xmssVerify 8 5 signKey m (sign m) = true := by
  have hr : (signKey.drop 4).take 32 = signRoot := by
    rw [signKey, List.append_assoc, List.drop_left' (by simp [zeros]), List.take_left' signRoot_length]
  have hs : (signKey.drop 36).take 32 = signSeed := by
    rw [signKey, List.drop_left' (by simp [zeros, signRoot_length])]; decide
  have hi : (sign m).take 5 = zeros 5 := by
    rw [sign, List.take_append_of_le_length (by rw [zeros_length]; decide)]; decide
  have hn : ((sign m).drop 5).take 32 = zeros 32 := by
    rw [sign, List.drop_append_of_le_length (by rw [zeros_length]; decide),
      List.take_append_of_le_length (by rw [List.length_drop, zeros_length])]; decide
  have hb : (sign m).drop 37 = zeros 16128 ++ signTop (xmssLayers signSeed 5 7 0 0
      (xHash 2 (zeros 32 ++ signRoot ++ beBytes 32 0) m) (zeros 16128)) := by
    rw [sign, List.drop_left' (zeros_length 37)]
  have hl : (sign m).length = 5 + 32 + 8 * (67 + 5) * 32 := sign_length m
  simp only [xmssVerify, hr, hs, hi, hn, hb, hl, decide_true, Bool.true_and, decide_eq_true_eq,
    show beValue (zeros 5) = 0 by decide]
  rw [xmssLayers_split signSeed 5 7 0 _ (zeros 16128) _ (zeros_length _)]
  simp only [xmssLayers, Nat.zero_div, Nat.zero_mod, Nat.zero_add]
  exact signTop_root _ (xmssRoot_length _ _ _ _ _ _ _ (by omega))

/-- A record with its signature. -/
def signed (b : List Byte) : List Byte := b ++ sign b

theorem signed_length (b : List Byte) : (signed b).length = b.length + sigBytes := by simp [signed, sign_length]

/-! ## Reading records -/

/-- `n` bytes of a flash memory. -/
def flBytes (m : List Host.Cell) (a n : Nat) : List Byte := (List.range n).map (fun i => SMap.get 0xFF m (a + i))

theorem flRead_eq (d : Dev) (a n : Nat) : flRead d a n = flBytes d.flash.bytes a n := rfl

theorem flBytes_length (m : List Host.Cell) (a n : Nat) : (flBytes m a n).length = n := by simp [flBytes]

theorem get_flPut_out (b : List Byte) (m : List Host.Cell) (a c : Nat) (h : c < a ∨ a + b.length ≤ c) :
    SMap.get 0xFF (flPut m a b) c = SMap.get 0xFF m c := by
  induction b generalizing m a with
  | nil => rfl
  | cons x b ih =>
    simp only [List.length_cons] at h
    rw [flPut, ih _ _ (by omega), SMap.get_set_ne _ _ _ (by omega)]

theorem get_flPut_in (b : List Byte) (m : List Host.Cell) (a i : Nat) (h : i < b.length) :
    SMap.get 0xFF (flPut m a b) (a + i) = b[i] := by
  induction b generalizing m a i with
  | nil => simp at h
  | cons x b ih =>
    cases i with
    | zero => rw [flPut, get_flPut_out _ _ _ _ (Or.inl (by omega))]; simp
    | succ i =>
      rw [flPut, show a + (i + 1) = a + 1 + i by omega, ih _ _ _ (by simpa using h)]
      simp

theorem flBytes_append (m : List Host.Cell) (a n k : Nat) : flBytes m a (n + k) = flBytes m a n ++ flBytes m (a + n) k := by
  simp only [flBytes, List.range_add, List.map_append, List.map_map]
  congr 1
  exact List.map_congr_left (fun i _ => by simp [Nat.add_assoc])

theorem flBytes_flPut_same (m : List Host.Cell) (a : Nat) (b : List Byte) : flBytes (flPut m a b) a b.length = b := by
  apply List.ext_getElem
  · simp [flBytes]
  · intro i h k
    simp only [flBytes, List.getElem_map, List.getElem_range]
    exact get_flPut_in b m a i k

theorem flBytes_flPut_out (m : List Host.Cell) (a n c : Nat) (b : List Byte) (h : a + n ≤ c ∨ c + b.length ≤ a) :
    flBytes (flPut m c b) a n = flBytes m a n :=
  List.map_congr_left (fun i hi => get_flPut_out b m c (a + i) (by have := List.mem_range.1 hi; omega))

theorem recV_append (b c : List Byte) (i n : Nat) (h : i + n ≤ b.length) : recV (b ++ c) i n = recV b i n := by
  rw [recV, recV, List.drop_append_of_le_length (by omega), List.take_append_of_le_length (by simp; omega)]

theorem recZero_append (b c : List Byte) (i n : Nat) (h : i + n ≤ b.length) : recZero (b ++ c) i n = recZero b i n := by
  rw [recZero, recZero, List.drop_append_of_le_length (by omega), List.take_append_of_le_length (by simp; omega)]

/-! ## Checks that a signed record passes -/

theorem sigGood_signed (d : Dev) (b c : List Byte) (hk : d.rg fTRU_STATUS_KEY_VALID = 1) (ha : aelmoKey d = signKey) :
    sigGood d (b ++ (sign b ++ c)) b.length = true := by
  simp only [sigGood, hk, ha, List.take_left' rfl, List.drop_left' rfl, List.take_left' (sign_length b), sign_verifies]
  simp [sign_length]

theorem sigCode_signed (f : Fuses) (d : Dev) (b c : List Byte) (r : Option Nat) (hk : d.rg fTRU_STATUS_KEY_VALID = 1)
    (ha : aelmoKey d = signKey) (hr : ∀ x, r = some x → f.rollback ≤ x) : sigCode f d (b ++ (sign b ++ c)) b.length r = 0 := by
  unfold sigCode
  rw [sigGood_signed d b c hk ha]
  cases r with
  | none => rfl
  | some x => simp [Nat.not_lt.2 (hr x rfl)]

theorem configCheck_signed (f : Fuses) (d : Dev) (b : List Byte) (hb : b.length = 4096) (hf : configForm b = true)
    (hw : recV b 64 2 = 0) (hr : f.rollback = 0) (hk : d.rg fTRU_STATUS_KEY_VALID = 1) (ha : aelmoKey d = signKey) :
    configCheck f d (signed b) = (0, 0) := by
  have v (i n : Nat) (h : i + n ≤ 4096) : recV (signed b) i n = recV b i n := recV_append b _ i n (by omega)
  have z (i n : Nat) (h : i + n ≤ 4096) : recZero (signed b) i n = recZero b i n := recZero_append b _ i n (by omega)
  have e : configForm (signed b) = true := by
    rw [configForm, show List.range 18 = [0, 1, 2, 3, 4, 5, 6, 7, 8, 9, 10, 11, 12, 13, 14, 15, 16, 17] by decide] at hf ⊢
    simp only [List.all_cons, List.all_nil] at hf ⊢
    simp (disch := omega) only [v, z]
    rw [signed_length, hb] at *
    exact hf
  have s := sigCode_signed f d b [] (some (recV (signed b) 12 4)) hk ha (fun x _ => by omega)
  rw [hb, List.append_nil] at s
  change sigCode f d (signed b) 4096 _ = 0 at s
  rw [configCheck, e, s, paramWalk]
  simp [v 64 2 (by decide), hw]

theorem imageCheck_signed (f : Fuses) (d : Dev) (b c : List Byte) (hb : b.length = 128) (hf : imageForm b = true)
    (hi : imageLen b = 128) (hr : f.rollback = 0) (hk : d.rg fTRU_STATUS_KEY_VALID = 1) (ha : aelmoKey d = signKey) :
    imageCheck f d (b ++ (sign b ++ c)) = 0 := by
  have v (i n : Nat) (h : i + n ≤ 128) : recV (b ++ (sign b ++ c)) i n = recV b i n := recV_append b _ i n (by omega)
  have z (i n : Nat) (h : i + n ≤ 128) : recZero (b ++ (sign b ++ c)) i n = recZero b i n := recZero_append b _ i n (by omega)
  have l : imageLen (b ++ (sign b ++ c)) = 128 := by rw [imageLen, v _ _ (by decide)]; exact hi
  have e : imageForm (b ++ (sign b ++ c)) = true := by
    rw [imageForm, l] 
    rw [imageForm, hi] at hf
    simp (disch := omega) only [v, z]
    simp only [List.length_append, hb] at hf ⊢
    simpa using hf
  have s := sigCode_signed f d b c (some (recV (b ++ (sign b ++ c)) 12 4)) hk ha (fun x _ => by omega)
  rw [hb] at s
  rw [imageCheck, e, l, s]; rfl

theorem recV_flBytes (m : List Host.Cell) (a n i k : Nat) (h : i + k ≤ n) :
    recV (flBytes m a n) i k = leValue (flBytes m (a + i) k) := by
  rw [show n = i + (k + (n - i - k)) by omega, flBytes_append, recV, List.drop_left' (flBytes_length _ _ _), flBytes_append,
    List.take_left' (flBytes_length _ _ _)]

theorem configForm_unmarked (b : List Byte) (h : recV b 0 4 ≠ 0x43325246) : configForm b = false := by
  simp [configForm, h]

theorem imageCheck_unmarked (f : Fuses) (d : Dev) (b : List Byte) (h : recV b 0 4 ≠ 0x45325246) :
    imageCheck f d b = 0x0504 := by
  have : imageForm b = false := by simp [imageForm, h]
  rw [imageCheck, this]; rfl

theorem licenceForm_append (b c : List Byte) (hb : b.length = 128) (hf : licenceForm b = true) :
    licenceForm (b ++ c) = true := by
  have v (i n : Nat) (h : i + n ≤ 128) : recV (b ++ c) i n = recV b i n := recV_append b _ i n (by omega)
  have z (i n : Nat) (h : i + n ≤ 128) : recZero (b ++ c) i n = recZero b i n := recZero_append b _ i n (by omega)
  rw [licenceForm] at hf ⊢
  simp (disch := omega) only [v, z]
  simp only [List.length_append, hb] at hf ⊢
  simpa using hf

theorem certCheck_signed (f : Fuses) (d : Dev) (b : List Byte) (hb : b.length = 128)
    (hf : (decide (recV b 0 4 = 0x49325246) && decide (recV b 4 1 = 1) && decide (recV b 5 1 ≤ 1) && recZero b 6 2 &&
      recZero b 96 32) = true) (h0 : recV b 8 8 = f.dieId.getD 0 0) (h1 : recV b 16 8 = f.dieId.getD 1 0)
    (hk : d.rg fTRU_STATUS_KEY_VALID = 1) (ha : aelmoKey d = signKey) : certCheck f d (signed b) = 0 := by
  have v (i n : Nat) (h : i + n ≤ 128) : recV (signed b) i n = recV b i n := recV_append b _ i n (by omega)
  have z (i n : Nat) (h : i + n ≤ 128) : recZero (signed b) i n = recZero b i n := recZero_append b _ i n (by omega)
  have s := sigCode_signed f d b [] none hk ha (fun x h => nomatch h)
  rw [hb, List.append_nil] at s
  change sigCode f d (signed b) 128 none = 0 at s
  rw [certCheck, s]
  simp (disch := omega) only [v, z, hf, h0, h1]
  rfl

end Sys2Proof.Machine
end

