-- ==== Sys2Proof/WellFormed.lean ====
section
/-! DEFINITION. Which commands are well formed: every operand that names a part of the device names one that exists, and every
width is one that the spec gives it. The meanings are total and do not rest on it. -/

namespace Sys2Proof

/-- Whether a number is below a bound. -/
def lt (n b : Nat) : Bool := decide (n < b)

/-- Whether a number is a physical plot identifier (R23, R24). -/
def plotOk (p : Nat) : Bool := lt p 2048 && lt (p / 32 % 32) 17

/-- Bytes that a fabric operation moves. -/
def FabOp.size (op : FabOp) : Nat :=
  match op with
  | .read n => n
  | .write b => b.length
  | .reduce _ b => b.length

/-- Whether a fabric request is one piece: a class, and at most 256 bytes in one 256-byte block (R34, R306). -/
def reqOk (r : FabReq) : Bool :=
  lt r.cls 7 && lt r.op.size 257 && (lt r.op.size 1 || lt (r.addr % 256 + r.op.size) 257)

/-- Whether bytes have the length of a scale-out message: 1 to 18 units (R377). -/
def msgOk (m : List Byte) : Bool := lt 0 m.length && lt m.length 289 && lt (m.length % 16) 1

/-- Whether a counter bank exists: 0 plots, 1 octets, 2 ports, 3 controllers, and one each of 4 to 7 (R555). -/
def bankOk (kind inst : Nat) : Bool :=
  if kind = 0 then plotOk inst
  else if kind = 1 then lt inst 18
  else if kind = 2 then lt inst 16
  else if kind = 3 then lt inst 24
  else lt kind 8 && lt inst 1

/-- Whether a command is well formed. -/
def Instr.wf (i : Instr) : Bool :=
  match i with
  | .regWrite _ _ data => lt data (2 ^ 64)
  | .fabricRequest r => reqOk r
  | .regulationGrant point _ _ => lt point 26
  | .regWindowBoundary point => lt point 26
  | .slackExpiry _ => true
  | .fabRegCfgWrite point data => lt point 26 && lt data (2 ^ 64)
  | .fabRegClassWrite point cls data => lt point 26 && lt cls 7 && lt data (2 ^ 64)
  | .bridgeCrcFail _ => true
  | .bridgePortLockLoss row => lt row 17
  | .mcfg p => plotOk p
  | .lds p => plotOk p
  | .shadowLoadDone p => plotOk p
  | .mmul p => plotOk p
  | .swapStart p => plotOk p
  | .swapDone p => plotOk p
  | .arrCheckClose p _ => plotOk p
  | .plotArrInjectWrite p data => plotOk p && lt data (2 ^ 64)
  | .plotArrRepairWrite p data => plotOk p && lt data (2 ^ 64)
  | .vecCheckClose p _ => plotOk p
  | .vopAdd p => plotOk p
  | .vopSub p => plotOk p
  | .vopMul p => plotOk p
  | .vopFma p => plotOk p
  | .vopMin p => plotOk p
  | .vopMax p => plotOk p
  | .vopAbs p => plotOk p
  | .vopNeg p => plotOk p
  | .vopCmpeq p => plotOk p
  | .vopCmplt p => plotOk p
  | .vopCmple p => plotOk p
  | .vopSel p => plotOk p
  | .vopExp p => plotOk p
  | .vopLog p => plotOk p
  | .vopRecip p => plotOk p
  | .vopRsqrt p => plotOk p
  | .vopDiv p => plotOk p
  | .vopRsum p => plotOk p
  | .vopRmax p => plotOk p
  | .vopRmin p => plotOk p
  | .vopCvt p => plotOk p
  | .vopQmx p => plotOk p
  | .vopQok4 p => plotOk p
  | .vopIadd p => plotOk p
  | .vopIsub p => plotOk p
  | .vopIand p => plotOk p
  | .vopIor p => plotOk p
  | .vopIxor p => plotOk p
  | .vopIshl p => plotOk p
  | .vopIshr p => plotOk p
  | .nop p => plotOk p
  | .halt p => plotOk p
  | .haltWaitEnd p => plotOk p
  | .jmp p => plotOk p
  | .loop p => plotOk p
  | .seti p => plotOk p
  | .addi p => plotOk p
  | .ldi p => plotOk p
  | .fenceCheck p => plotOk p
  | .fenceDma p => plotOk p
  | .fenceTine p => plotOk p
  | .fenceAll p => plotOk p
  | .fenceCkpt p => plotOk p
  | .fenceSatisfied p => plotOk p
  | .wait p => plotOk p
  | .waitSatisfied p => plotOk p
  | .syncTimeout p => plotOk p
  | .signal p => plotOk p
  | .outboundRelease p _ => plotOk p
  | .dma p => plotOk p
  | .dmaDescComplete p _ _ => plotOk p
  | .tissue p => plotOk p
  | .tineIssueComplete p => plotOk p
  | .start p _ => plotOk p
  | .replay p => plotOk p
  | .abort p => plotOk p
  | .clearFailed p => plotOk p
  | .seqDrainDone p => plotOk p
  | .plotSeqIdxWrite p idx data => plotOk p && lt idx 16 && lt data (2 ^ 64)
  | .plotPmDataWrite p data => plotOk p && lt data (2 ^ 64)
  | .plotSyncCtrWrite p c data => plotOk p && lt c 256 && lt data (2 ^ 64)
  | .plotDmaExtWrite p e _ data => plotOk p && lt e 16 && lt data (2 ^ 64)
  | .sowBegin p _ _ _ _ _ => plotOk p
  | .sowData p _ _ _ => plotOk p
  | .sowEnd p _ _ => plotOk p
  | .sowAckTimeout => true
  | .channelToTineDone p ch => plotOk p && lt ch 4
  | .batchLimitExpiry p ch => plotOk p && lt ch 4
  | .channelToMemoryDone p ch => plotOk p && lt ch 4
  | .heldQueueServed p ch => plotOk p && lt ch 4
  | .tend p t => plotOk p && lt t 16
  | .tset p t => plotOk p && lt t 16
  | .taddi p t => plotOk p && lt t 16
  | .tlda p t => plotOk p && lt t 16
  | .tloop p t => plotOk p && lt t 16
  | .tact p t => plotOk p && lt t 16
  | .tactLoad p ch => plotOk p && lt ch 4
  | .tmv p t => plotOk p && lt t 16
  | .tclr p t => plotOk p && lt t 16
  | .tout p t => plotOk p && lt t 16
  | .tattAttend p t => plotOk p && lt t 16
  | .tattScore p t => plotOk p && lt t 16
  | .tred p t => plotOk p && lt t 16
  | .tpack p t => plotOk p && lt t 16
  | .tadd p t => plotOk p && lt t 16
  | .tcrcClear p t => plotOk p && lt t 16
  | .tcrcWrite p t => plotOk p && lt t 16
  | .tineCheckClose p t _ => plotOk p && lt t 16
  | .tineBufferApply p => plotOk p
  | .partialRecordValid p t => plotOk p && lt t 16
  | .attPartialTimeout p t => plotOk p && lt t 16
  | .refreshDue p ch bank => plotOk p && lt ch 4 && lt bank 8
  | .refreshStart p ch bank => plotOk p && lt ch 4 && lt bank 8
  | .refreshDone p ch bank => plotOk p && lt ch 4 && lt bank 8
  | .remapCopyStart p ch => plotOk p && lt ch 4
  | .remapCopyDone p ch => plotOk p && lt ch 4
  | .bedChCfgWrite p ch data => plotOk p && lt ch 4 && lt data (2 ^ 64)
  | .bedChFlipWrite p ch data => plotOk p && lt ch 4 && lt data (2 ^ 64)
  | .bedTinePmDataWrite p data => plotOk p && lt data (2 ^ 64)
  | .acfg p => plotOk p
  | .qload p => plotOk p
  | .kvpages p => plotOk p
  | .emit p => plotOk p
  | .attClear p => plotOk p
  | .streamRecordArrival p stream _ => plotOk p && lt stream 16
  | .attCheckClose p _ => plotOk p
  | .open _ => true
  | .append _ => true
  | .cancel _ => true
  | .resume _ => true
  | .stepStart _ _ => true
  | .stepCommit _ _ _ _ _ _ _ => true
  | .commitResultMessage _ _ _ _ _ => true
  | .stepAbandon => true
  | .holdTimerExpiry slot => lt slot 16
  | .slotEventRaise => true
  | .stpCfgWrite data => lt data (2 ^ 64)
  | .initFlit link flit _ => lt link 17 && lt flit.length 257 && !lt flit.length 256
  | .protocolFlit link flit _ => lt link 17 && lt flit.length 257 && !lt flit.length 256
  | .retryReqFlit link flit _ => lt link 17 && lt flit.length 257 && !lt flit.length 256
  | .nullFlit link flit _ => lt link 17 && lt flit.length 257 && !lt flit.length 256
  | .retryReqResend link => lt link 17
  | .ackDue link => lt link 17
  | .notifyGapEnd vec => lt vec 65536
  | .cplMbxOutAck data => lt data (2 ^ 64)
  | .cplMbxInDb => true
  | .echo => true
  | .snpShared tag addr => lt tag 4096 && lt addr (2 ^ 49)
  | .snpInv tag addr => lt tag 4096 && lt addr (2 ^ 49)
  | .linkCacheEviction addr => lt addr (2 ^ 49)
  | .ringEnable r data => lt r 3 && lt data (2 ^ 64)
  | .cplIdxAddrWrite data => lt data (2 ^ 64)
  | .cplCfgWrite _ data => lt data (2 ^ 64)
  | .cplHeartbeatWrite data => lt data (2 ^ 64)
  | .plotPwrWrite p data => plotOk p && lt data (2 ^ 64)
  | .plotStateChangeDone p => plotOk p
  | .amoSwap core addr _ _ _ => lt core 8 && lt addr (2 ^ 49)
  | .amoAdd core addr _ _ _ => lt core 8 && lt addr (2 ^ 49)
  | .amoAnd core addr _ _ _ => lt core 8 && lt addr (2 ^ 49)
  | .amoOr core addr _ _ _ => lt core 8 && lt addr (2 ^ 49)
  | .amoXor core addr _ _ _ => lt core 8 && lt addr (2 ^ 49)
  | .amoMin core addr _ _ _ => lt core 8 && lt addr (2 ^ 49)
  | .amoMax core addr _ _ _ => lt core 8 && lt addr (2 ^ 49)
  | .amoMinu core addr _ _ _ => lt core 8 && lt addr (2 ^ 49)
  | .amoMaxu core addr _ _ _ => lt core 8 && lt addr (2 ^ 49)
  | .lrScGddr7Fault core addr _ => lt core 8 && lt addr (2 ^ 49)
  | .gddrWriteCrcError c _ _ => lt c 24
  | .gddrReadCrcError c _ _ => lt c 24
  | .gdcCaParity c => lt c 24
  | .gdcRetrainStart c => lt c 24
  | .gdcDrainDone c => lt c 24
  | .gdcRetrainPass c _ _ => lt c 24
  | .gdcRetrainTimeout c => lt c 24
  | .gdcFlipWrite c data => lt c 24 && lt data (2 ^ 64)
  | .gdcCfgWrite c data => lt c 24 && lt data (2 ^ 64)
  | .gdcWeedCfgWrite c data => lt c 24 && lt data (2 ^ 64)
  | .weederGddrRead c _ => lt c 24
  | .weederBedRead c => lt c 24
  | .frameReceived o _ _ _ => lt o 18
  | .signalDetected o => lt o 18
  | .detectTimeout o seen => lt o 18 && lt seen 256
  | .equalizeAgreed o _ => lt o 18
  | .equalizeTimeout o _ _ => lt o 18
  | .alignLocked o _ _ => lt o 18
  | .alignTimeout o _ _ _ => lt o 18
  | .widthAgreed o _ => lt o 18
  | .widthTimeout o => lt o 18
  | .verifyComplete o _ _ => lt o 18
  | .verifyTimeout o => lt o 18
  | .laneLockLoss o lane => lt o 18 && lt lane 8
  | .lneRetrainCmd o _ => lt o 18
  | .retrainPassed o _ _ _ _ _ _ => lt o 18
  | .retrainExpiry o => lt o 18
  | .bootSwitchFrame => true
  | .bootSwitchTimeout => true
  | .lneCfgWrite o data => lt o 18 && lt data (2 ^ 64)
  | .sopTagTimeout tag => lt tag 16384
  | .sopRouteDataWrite data => lt data (2 ^ 64)
  | .sopDevWrite data => lt data (2 ^ 64)
  | .sopPortCfgWrite q data => lt q 16 && lt data (2 ^ 64)
  | .sigAck port msg => lt port 16 && msgOk msg
  | .err port msg => lt port 16 && msgOk msg
  | .wrAck port msg => lt port 16 && msgOk msg
  | .tally port msg _ => lt port 16 && msgOk msg
  | .ctrl port msg => lt port 16 && msgOk msg
  | .sig port msg => lt port 16 && msgOk msg
  | .wr port msg _ _ _ => lt port 16 && msgOk msg
  | .rd port msg _ _ _ => lt port 16 && msgOk msg
  | .red port msg _ _ _ => lt port 16 && msgOk msg
  | .rdData port msg _ => lt port 16 && msgOk msg
  | .icuPendSet w data => lt w 8 && lt data (2 ^ 64)
  | .icuPendClr w data => lt w 8 && lt data (2 ^ 64)
  | .icuEnableSet t w data => lt t 8 && lt w 8 && lt data (2 ^ 64)
  | .icuEnableClr t w data => lt t 8 && lt w 8 && lt data (2 ^ 64)
  | .icuThresholdWrite t data => lt t 8 && lt data (2 ^ 64)
  | .icuPrioWrite source data => lt source 512 && lt data (2 ^ 64)
  | .icuClaim t => lt t 8
  | .icuComplete t data => lt t 8 && lt data (2 ^ 64)
  | .wfiWake core => lt core 8
  | .plotIrqWrite p data => plotOk p && lt data (2 ^ 64)
  | .shdCoreRunWrite c data => lt c 8 && lt data (2 ^ 64)
  | .shdCoreWdogWrite c data => lt c 8 && lt data (2 ^ 64)
  | .watchdogKick c data => lt c 8 && lt data (2 ^ 64)
  | .machineTimerInterrupt core _ => lt core 8
  | .shdSramFlipWrite data => lt data (2 ^ 64)
  | .powerOnReset => true
  | .resetNAssert _ => true
  | .resetNRelease => true
  | .coreResetRelease => true
  | .aonRelease => true
  | .critParity => true
  | .pllLockLoss => true
  | .gddr7PllLockLoss c => lt c 24
  | .aonBlkRstGo data => lt data (2 ^ 64)
  | .blkIdleAck => true
  | .blkIdleTimeout => true
  | .watchdogExpiry c _ => lt c 8
  | .dstateReqD1 => true
  | .dstateReqD2 => true
  | .orderlyStop => true
  | .commit => true
  | .refuse => true
  | .handoverTimeout => true
  | .deferTimeout => true
  | .updateStage _ => true
  | .updateActivateMode0 => true
  | .updateActivateMode1 => true
  | .updateCancel => true
  | .rollbackAdvance => true
  | .fuseProgKey data => lt data (2 ^ 64)
  | .fusePositionDone _ => true
  | .licenceInstall => true
  | .licenceList => true
  | .identityTreeBuild => true
  | .identityGet => true
  | .attest _ => true
  | .strapsSampled src clk west east _ => lt src 4 && lt clk 4 && lt west 2 && lt east 2
  | .stepConfig _ => true
  | .stepLicence => true
  | .stepHalves ports => lt ports (2 ^ 17)
  | .halvesPartnerTimeout => true
  | .stepClocks _ => true
  | .stepLanes => true
  | .stepBeds rows => rows.all (fun e => plotOk e.1 && lt e.2.1 4 && lt e.2.2.1 8 && lt e.2.2.2 1024)
  | .stepPlots fails => fails.all (fun e => plotOk e.1)
  | .stepGddr down results => down.all (fun c => lt c 24) && results.all (fun e => lt e.1 24)
  | .stepShed => true
  | .stepHandshake => true
  | .stepRun => true
  | .brwStepComplete _ _ => true
  | .brwStepTimeout _ => true
  | .brwWatchdog => true
  | .brwWdogWrite data => lt data (2 ^ 64)
  | .writeConfig => true
  | .writeLicence => true
  | .writeImage => true
  | .recoveryCommandDone => true
  | .powerSample _ => true
  | .thmPwrCfgWrite data => lt data (2 ^ 64)
  | .pmbusPoll faults => lt faults 64
  | .pmbusTimeout rail => lt rail 6
  | .voutCommand rail _ => lt rail 6
  | .pmbusClearFaults rail => lt rail 6
  | .sensorSample _ _ _ _ => true
  | .sensorMaskWrite p mask => plotOk p && lt mask 4
  | .undecidedWrite p v => plotOk p && lt v 2
  | .sensorResolve p _ => plotOk p
  | .thmForecastWrite data => lt data (2 ^ 64)
  | .forecastExpiry => true
  | .flowPulseEdge _ => true
  | .noPulseTimeout => true
  | .coolReqTrackUpdate => true
  | .thmCoolCfgWrite which data => lt which 3 && lt data (2 ^ 64)
  | .vddPlotDroop c _ => lt c 80
  | .thmMonWrite c data => lt c 80 && lt data (2 ^ 64)
  | .monitorWindow _ => true
  | .thermalQuery => true
  | .stepSow _ _ _ => true
  | .placementLoad => true
  | .placementUnload => true
  | .lifetimeRecordWrite => true
  | .sedArbitrate p _ _ => plotOk p
  | .move n sp => lt n 1024 && plotOk sp
  | .reload n sp => lt n 1024 && plotOk sp
  | .clone n sp => lt n 1024 && plotOk sp
  | .compare n sp => lt n 1024 && plotOk sp
  | .retire n sp => lt n 1024 && plotOk sp
  | .release n sp => lt n 1024 && plotOk sp
  | .moveCopyDone => true
  | .moveTimeout => true
  | .compareDone => true
  | .spareSwitch _ _ => true
  | .plotSelftestGo p => plotOk p
  | .selftestDone p _ => plotOk p
  | .spareSelftestTimer => true
  | .tallyWaitExpiry _ => true
  | .clockStamp => true
  | .replicaSet => true
  | .replicaDecide => true
  | .testpackLoad => true
  | .testpackRemove => true
  | .testpackRun p _ => plotOk p
  | .testpackTimeout p => plotOk p
  | .plotMemFlipWrite p data => plotOk p && lt data (2 ^ 64)
  | .sedCritFlipWrite data => lt data (2 ^ 64)
  | .sedCfgWrite data => lt data (2 ^ 64)
  | .pmrGo => true
  | .snapshotDone _ => true
  | .pmcCfgWrite kind inst k data => bankOk kind inst && lt k 8 && lt data (2 ^ 64)
  | .pmcCntWrite kind inst k data => bankOk kind inst && lt k 8 && lt data (2 ^ 64)
  | .errConsumerWrite data => lt data (2 ^ 64)
  | .errEntryConsume _ => true
  | .dbgTrigInAsserted => true
  | .dbgTrigOutEnd => true
  | .dbgFlashDataRead => true
  | .dbgMuxWrite j data => lt j 32 && lt data (2 ^ 64)
  | .bypass die => lt die 2
  | .idcode die => lt die 2
  | .samplePreload die _ => lt die 2
  | .extest die => lt die 2
  | .ijtagAccess die _ _ _ => lt die 2
  | .moduleInsert _ => true
  | .moduleRemove => true
  | .inputRise _ sel => lt sel 4
  | .inputFall _ => true
  | .setOffset _ => true
  | .i3cWrite _ => true
  | .i3cRead => true
  | .entdaa addr => lt addr 128
  | .setdasa addr => lt addr 128
  | .rstdaa => true
  | .getpid => true
  | .getbcr => true
  | .getdcr => true
  | .clearFaults => true
  | .capability => true
  | .statusWord => true
  | .readVin => true
  | .readIin => true
  | .readPin => true
  | .readTemperature1 => true
  | .readTemperature2 => true
  | .readTemperature3 => true
  | .pmbusRevision => true
  | .telemetryRefresh _ _ => true
  | .linkCacheRead r _ => reqOk r
  | .linkCacheWrite r _ => reqOk r
  | .dataS tag data => lt tag 4096 && lt data.length 65
  | .dataE tag data => lt tag 4096 && lt data.length 65
  | .goE tag => lt tag 4096
  | .goWb tag => lt tag 4096
  | .cohErr tag => lt tag 4096
  | .dataCur tag data => lt tag 4096 && lt data.length 65
  | .cohTimeout tag => lt tag 4096
  | .ncRd tag addr len _ _ => lt tag 4096 && lt addr (2 ^ 49) && lt len 257
  | .ncWr addr data _ _ => lt addr (2 ^ 49) && lt data.length 257
  | .heartbeatMiss => true
  | .hello => true
  | .attach _ => true
  | .detach => true
  | .ringDoorbell r data => lt r 3 && lt data (2 ^ 64)
  | .aonReset data => lt data (2 ^ 64)
  | .shake256Go data => lt data (2 ^ 64)
  | .shake256Done _ => true
  | .crc64Go data => lt data (2 ^ 64)
  | .crc64Done _ => true
  | .shedLocalAccess core kind addr _ data _ => lt core 8 && lt kind 3 && lt addr (2 ^ 49) && lt data (2 ^ 64)

end Sys2Proof
end

