-- ==== Sys2Proof/Tests/Slice0.lean ====
section
/-! SUPPORT. Tests: a smoke test of `Instr.wf`, single steps with values from the spec, and a state that meets the hypotheses of
each statement. -/

set_option Elab.async false

open Sys2Proof Sys2Proof.Machine

namespace Sys2Proof.Tests

/-! ## Ill-formed commands are refused -/

/-- Each of these commands breaks one check of `Instr.wf`, which refuses it. -/
theorem test_ill_formed_1 : ([
    .regWrite 0 0 (2 ^ 64), .fabricRequest ⟨.plot 4, 7, .read 1, 0, none, false, 0, []⟩, .regulationGrant 26 0 0,
    .regWindowBoundary 26, .fabRegCfgWrite 26 0, .fabRegCfgWrite 0 (2 ^ 64), .fabRegClassWrite 26 0 0,
    .fabRegClassWrite 0 7 0, .fabRegClassWrite 0 0 (2 ^ 64), .bridgePortLockLoss 17, .mcfg 544, .lds 544,
    .shadowLoadDone 544, .mmul 544, .swapStart 544, .swapDone 544, .arrCheckClose 544 false, .plotArrInjectWrite 544 0,
    .plotArrInjectWrite 0 (2 ^ 64), .plotArrRepairWrite 544 0, .plotArrRepairWrite 0 (2 ^ 64), .vecCheckClose 544 0,
    .vopAdd 544, .vopSub 544, .vopMul 544, .vopFma 544, .vopMin 544, .vopMax 544, .vopAbs 544, .vopNeg 544,
    .vopCmpeq 544, .vopCmplt 544, .vopCmple 544, .vopSel 544, .vopExp 544, .vopLog 544, .vopRecip 544, .vopRsqrt 544,
    .vopDiv 544, .vopRsum 544, .vopRmax 544, .vopRmin 544, .vopCvt 544, .vopQmx 544, .vopQok4 544, .vopIadd 544,
    .vopIsub 544, .vopIand 544, .vopIor 544, .vopIxor 544, .vopIshl 544, .vopIshr 544, .nop 544, .halt 544,
    .haltWaitEnd 544, .jmp 544, .loop 544, .seti 544, .addi 544, .ldi 544, .fenceCheck 544, .fenceDma 544,
    .fenceTine 544, .fenceAll 544, .fenceCkpt 544, .fenceSatisfied 544, .wait 544, .waitSatisfied 544, .syncTimeout 544,
    .signal 544
  ] : List Instr).all (fun i => !i.wf) = true := by decide +kernel

/-- Each of these commands breaks one check of `Instr.wf`, which refuses it. -/
theorem test_ill_formed_2 : ([
    .outboundRelease 544 [], .dma 544, .dmaDescComplete 544 0 [], .tissue 544, .tineIssueComplete 544, .start 544 0,
    .replay 544, .abort 544, .clearFailed 544, .seqDrainDone 544, .plotSeqIdxWrite 544 0 0, .plotSeqIdxWrite 0 16 0,
    .plotSeqIdxWrite 0 0 (2 ^ 64), .plotPmDataWrite 544 0, .plotPmDataWrite 0 (2 ^ 64), .plotSyncCtrWrite 544 0 0,
    .plotSyncCtrWrite 0 256 0, .plotSyncCtrWrite 0 0 (2 ^ 64), .plotDmaExtWrite 544 0 false 0,
    .plotDmaExtWrite 0 16 false 0, .plotDmaExtWrite 0 0 false (2 ^ 64), .sowBegin 544 0 0 0 0 0, .sowData 544 0 0 [],
    .sowEnd 544 0 0, .channelToTineDone 544 0, .channelToTineDone 0 4, .batchLimitExpiry 544 0, .batchLimitExpiry 0 4,
    .channelToMemoryDone 544 0, .channelToMemoryDone 0 4, .heldQueueServed 544 0, .heldQueueServed 0 4, .tend 544 0,
    .tend 0 16, .tset 544 0, .tset 0 16, .taddi 544 0, .taddi 0 16, .tlda 544 0, .tlda 0 16, .tloop 544 0, .tloop 0 16,
    .tact 544 0, .tact 0 16, .tactLoad 544 0, .tactLoad 0 4, .tmv 544 0, .tmv 0 16, .tclr 544 0, .tclr 0 16, .tout 544 0,
    .tout 0 16, .tattAttend 544 0, .tattAttend 0 16, .tattScore 544 0, .tattScore 0 16, .tred 544 0, .tred 0 16,
    .tpack 544 0, .tpack 0 16, .tadd 544 0, .tadd 0 16, .tcrcClear 544 0, .tcrcClear 0 16, .tcrcWrite 544 0,
    .tcrcWrite 0 16, .tineCheckClose 544 0 0, .tineCheckClose 0 16 0, .tineBufferApply 544, .partialRecordValid 544 0
  ] : List Instr).all (fun i => !i.wf) = true := by decide +kernel

/-- Each of these commands breaks one check of `Instr.wf`, which refuses it. -/
theorem test_ill_formed_3 : ([
    .partialRecordValid 0 16, .attPartialTimeout 544 0, .attPartialTimeout 0 16, .refreshDue 544 0 0, .refreshDue 0 4 0,
    .refreshDue 0 0 8, .refreshStart 544 0 0, .refreshStart 0 4 0, .refreshStart 0 0 8, .refreshDone 544 0 0,
    .refreshDone 0 4 0, .refreshDone 0 0 8, .remapCopyStart 544 0, .remapCopyStart 0 4, .remapCopyDone 544 0,
    .remapCopyDone 0 4, .bedChCfgWrite 544 0 0, .bedChCfgWrite 0 4 0, .bedChCfgWrite 0 0 (2 ^ 64),
    .bedChFlipWrite 544 0 0, .bedChFlipWrite 0 4 0, .bedChFlipWrite 0 0 (2 ^ 64), .bedTinePmDataWrite 544 0,
    .bedTinePmDataWrite 0 (2 ^ 64), .acfg 544, .qload 544, .kvpages 544, .emit 544, .attClear 544,
    .streamRecordArrival 544 0 [], .streamRecordArrival 0 16 [], .attCheckClose 544 false, .holdTimerExpiry 16,
    .stpCfgWrite (2 ^ 64), .initFlit 17 (List.replicate 256 0) false, .initFlit 0 (List.replicate 257 0) false,
    .initFlit 0 (List.replicate 255 0) false, .protocolFlit 17 (List.replicate 256 0) false,
    .protocolFlit 0 (List.replicate 257 0) false, .protocolFlit 0 (List.replicate 255 0) false,
    .retryReqFlit 17 (List.replicate 256 0) false, .retryReqFlit 0 (List.replicate 257 0) false,
    .retryReqFlit 0 (List.replicate 255 0) false, .nullFlit 17 (List.replicate 256 0) false,
    .nullFlit 0 (List.replicate 257 0) false, .nullFlit 0 (List.replicate 255 0) false, .retryReqResend 17, .ackDue 17,
    .notifyGapEnd 65536, .cplMbxOutAck (2 ^ 64), .snpShared 4096 0, .snpShared 0 (2 ^ 49), .snpInv 4096 0,
    .snpInv 0 (2 ^ 49), .linkCacheEviction (2 ^ 49), .ringEnable 3 0, .ringEnable 0 (2 ^ 64), .cplIdxAddrWrite (2 ^ 64),
    .cplCfgWrite false (2 ^ 64), .cplHeartbeatWrite (2 ^ 64), .plotPwrWrite 544 0, .plotPwrWrite 0 (2 ^ 64),
    .plotStateChangeDone 544, .amoSwap 8 0 false 0 [], .amoSwap 0 (2 ^ 49) false 0 [], .amoAdd 8 0 false 0 [],
    .amoAdd 0 (2 ^ 49) false 0 [], .amoAnd 8 0 false 0 [], .amoAnd 0 (2 ^ 49) false 0 [], .amoOr 8 0 false 0 []
  ] : List Instr).all (fun i => !i.wf) = true := by decide +kernel

/-- Each of these commands breaks one check of `Instr.wf`, which refuses it. -/
theorem test_ill_formed_4 : ([
    .amoOr 0 (2 ^ 49) false 0 [], .amoXor 8 0 false 0 [], .amoXor 0 (2 ^ 49) false 0 [], .amoMin 8 0 false 0 [],
    .amoMin 0 (2 ^ 49) false 0 [], .amoMax 8 0 false 0 [], .amoMax 0 (2 ^ 49) false 0 [], .amoMinu 8 0 false 0 [],
    .amoMinu 0 (2 ^ 49) false 0 [], .amoMaxu 8 0 false 0 [], .amoMaxu 0 (2 ^ 49) false 0 [], .lrScGddr7Fault 8 0 false,
    .lrScGddr7Fault 0 (2 ^ 49) false, .gddrWriteCrcError 24 0 0, .gddrReadCrcError 24 0 0, .gdcCaParity 24,
    .gdcRetrainStart 24, .gdcDrainDone 24, .gdcRetrainPass 24 0 0, .gdcRetrainTimeout 24, .gdcFlipWrite 24 0,
    .gdcFlipWrite 0 (2 ^ 64), .gdcCfgWrite 24 0, .gdcCfgWrite 0 (2 ^ 64), .gdcWeedCfgWrite 24 0,
    .gdcWeedCfgWrite 0 (2 ^ 64), .weederGddrRead 24 [], .weederBedRead 24, .frameReceived 18 0 0 [], .signalDetected 18,
    .detectTimeout 18 0, .detectTimeout 0 256, .equalizeAgreed 18 [], .equalizeTimeout 18 0 [], .alignLocked 18 [] 0,
    .alignTimeout 18 0 [] 0, .widthAgreed 18 0, .widthTimeout 18, .verifyComplete 18 0 0, .verifyTimeout 18,
    .laneLockLoss 18 0, .laneLockLoss 0 8, .lneRetrainCmd 18 false, .retrainPassed 18 0 0 [] 0 [] 0, .retrainExpiry 18,
    .lneCfgWrite 18 0, .lneCfgWrite 0 (2 ^ 64), .sopTagTimeout 16384, .sopRouteDataWrite (2 ^ 64), .sopDevWrite (2 ^ 64),
    .sopPortCfgWrite 16 0, .sopPortCfgWrite 0 (2 ^ 64), .sigAck 16 (List.replicate 16 0), .sigAck 0 [],
    .err 16 (List.replicate 16 0), .err 0 [], .wrAck 16 (List.replicate 16 0), .wrAck 0 [],
    .tally 16 (List.replicate 16 0) 0, .tally 0 [] 0, .ctrl 16 (List.replicate 16 0), .ctrl 0 [],
    .sig 16 (List.replicate 16 0), .sig 0 [], .wr 16 (List.replicate 16 0) [] 0 0, .wr 0 [] [] 0 0,
    .rd 16 (List.replicate 16 0) [] 0 0, .rd 0 [] [] 0 0, .red 16 (List.replicate 16 0) [] 0 0, .red 0 [] [] 0 0
  ] : List Instr).all (fun i => !i.wf) = true := by decide +kernel

/-- Each of these commands breaks one check of `Instr.wf`, which refuses it. -/
theorem test_ill_formed_5 : ([
    .rdData 16 (List.replicate 16 0) [], .rdData 0 [] [], .icuPendSet 8 0, .icuPendSet 0 (2 ^ 64), .icuPendClr 8 0,
    .icuPendClr 0 (2 ^ 64), .icuEnableSet 8 0 0, .icuEnableSet 0 8 0, .icuEnableSet 0 0 (2 ^ 64), .icuEnableClr 8 0 0,
    .icuEnableClr 0 8 0, .icuEnableClr 0 0 (2 ^ 64), .icuThresholdWrite 8 0, .icuThresholdWrite 0 (2 ^ 64),
    .icuPrioWrite 512 0, .icuPrioWrite 0 (2 ^ 64), .icuClaim 8, .icuComplete 8 0, .icuComplete 0 (2 ^ 64), .wfiWake 8,
    .plotIrqWrite 544 0, .plotIrqWrite 0 (2 ^ 64), .shdCoreRunWrite 8 0, .shdCoreRunWrite 0 (2 ^ 64),
    .shdCoreWdogWrite 8 0, .shdCoreWdogWrite 0 (2 ^ 64), .watchdogKick 8 0, .watchdogKick 0 (2 ^ 64),
    .machineTimerInterrupt 8 0, .shdSramFlipWrite (2 ^ 64), .gddr7PllLockLoss 24, .aonBlkRstGo (2 ^ 64),
    .watchdogExpiry 8 false, .fuseProgKey (2 ^ 64), .strapsSampled 4 0 0 0 false, .strapsSampled 0 4 0 0 false,
    .strapsSampled 0 0 2 0 false, .strapsSampled 0 0 0 2 false, .stepHalves (2 ^ 17), .brwWdogWrite (2 ^ 64),
    .thmPwrCfgWrite (2 ^ 64), .pmbusPoll 64, .pmbusTimeout 6, .voutCommand 6 0, .pmbusClearFaults 6,
    .sensorMaskWrite 544 0, .sensorMaskWrite 0 4, .undecidedWrite 544 0, .undecidedWrite 0 2, .thmForecastWrite (2 ^ 64),
    .thmCoolCfgWrite 3 0, .thmCoolCfgWrite 0 (2 ^ 64), .vddPlotDroop 80 0, .thmMonWrite 80 0, .thmMonWrite 0 (2 ^ 64),
    .sedArbitrate 544 [] [], .move 1024 0, .move 0 544, .reload 1024 0, .reload 0 544, .clone 1024 0, .clone 0 544,
    .compare 1024 0, .compare 0 544, .retire 1024 0, .retire 0 544, .release 1024 0, .release 0 544, .plotSelftestGo 544,
    .selftestDone 544 0
  ] : List Instr).all (fun i => !i.wf) = true := by decide +kernel

/-- Each of these commands breaks one check of `Instr.wf`, which refuses it. -/
theorem test_ill_formed_6 : ([
    .testpackRun 544 0, .testpackTimeout 544, .plotMemFlipWrite 544 0, .plotMemFlipWrite 0 (2 ^ 64),
    .sedCritFlipWrite (2 ^ 64), .sedCfgWrite (2 ^ 64), .pmcCfgWrite 8 0 0 0, .pmcCfgWrite 0 544 0 0,
    .pmcCfgWrite 0 0 8 0, .pmcCfgWrite 0 0 0 (2 ^ 64), .pmcCntWrite 8 0 0 0, .pmcCntWrite 0 544 0 0,
    .pmcCntWrite 0 0 8 0, .pmcCntWrite 0 0 0 (2 ^ 64), .errConsumerWrite (2 ^ 64), .dbgMuxWrite 32 0,
    .dbgMuxWrite 0 (2 ^ 64), .bypass 2, .idcode 2, .samplePreload 2 [], .extest 2, .ijtagAccess 2 0 0 none,
    .inputRise 0 4, .entdaa 128, .setdasa 128, .linkCacheRead ⟨.plot 4, 7, .read 1, 0, none, false, 0, []⟩ false,
    .linkCacheWrite ⟨.plot 4, 7, .read 1, 0, none, false, 0, []⟩ false, .dataS 4096 [], .dataS 0 (List.replicate 65 0),
    .dataE 4096 [], .dataE 0 (List.replicate 65 0), .goE 4096, .goWb 4096, .cohErr 4096, .dataCur 4096 [],
    .dataCur 0 (List.replicate 65 0), .cohTimeout 4096, .ncRd 4096 0 0 0 [], .ncRd 0 (2 ^ 49) 0 0 [], .ncRd 0 0 257 0 [],
    .ncWr (2 ^ 49) [] 0 [], .ncWr 0 (List.replicate 257 0) 0 [], .ringDoorbell 3 0, .ringDoorbell 0 (2 ^ 64),
    .aonReset (2 ^ 64), .shake256Go (2 ^ 64), .crc64Go (2 ^ 64), .shedLocalAccess 8 0 0 0 0 0,
    .shedLocalAccess 0 3 0 0 0 0, .shedLocalAccess 0 0 (2 ^ 49) 0 0 0, .shedLocalAccess 0 0 0 0 (2 ^ 64) 0,
    .sensorResolve 544 [], .stepPlots [(544, 0)], .stepGddr [24] [], .stepGddr [] [(24, 0, 0)],
    .stepBeds [(544, 0, 0, 0)], .stepBeds [(0, 4, 0, 0)], .stepBeds [(0, 0, 8, 0)], .stepBeds [(0, 0, 0, 1024)],
    .mcfg 2048, .fabricRequest ⟨.plot 4, 0, .read 257, 0, none, false, 0, []⟩,
    .fabricRequest ⟨.plot 4, 0, .read 2, 255, none, false, 0, []⟩, .err 0 (List.replicate 304 0),
    .err 0 (List.replicate 17 0), .pmcCfgWrite 1 18 0 0, .pmcCfgWrite 2 16 0 0, .pmcCfgWrite 3 24 0 0,
    .pmcCfgWrite 7 1 0 0
  ] : List Instr).all (fun i => !i.wf) = true := by decide +kernel

/-- A command of each row that is checked, within every bound. -/
theorem test_well_formed_1 : ([
    .regWrite 0 0 0, .fabricRequest ⟨.plot 4, 0, .read 1, 0, none, false, 0, []⟩, .regulationGrant 0 0 0,
    .regWindowBoundary 0, .fabRegCfgWrite 0 0, .fabRegClassWrite 0 0 0, .bridgePortLockLoss 0, .mcfg 0, .lds 0,
    .shadowLoadDone 0, .mmul 0, .swapStart 0, .swapDone 0, .arrCheckClose 0 false, .plotArrInjectWrite 0 0,
    .plotArrRepairWrite 0 0, .vecCheckClose 0 0, .vopAdd 0, .vopSub 0, .vopMul 0, .vopFma 0, .vopMin 0, .vopMax 0,
    .vopAbs 0, .vopNeg 0, .vopCmpeq 0, .vopCmplt 0, .vopCmple 0, .vopSel 0, .vopExp 0, .vopLog 0, .vopRecip 0,
    .vopRsqrt 0, .vopDiv 0, .vopRsum 0, .vopRmax 0, .vopRmin 0, .vopCvt 0, .vopQmx 0, .vopQok4 0, .vopIadd 0, .vopIsub 0,
    .vopIand 0, .vopIor 0, .vopIxor 0, .vopIshl 0, .vopIshr 0, .nop 0, .halt 0, .haltWaitEnd 0, .jmp 0, .loop 0, .seti 0,
    .addi 0, .ldi 0, .fenceCheck 0, .fenceDma 0, .fenceTine 0, .fenceAll 0, .fenceCkpt 0, .fenceSatisfied 0, .wait 0,
    .waitSatisfied 0, .syncTimeout 0, .signal 0, .outboundRelease 0 [], .dma 0, .dmaDescComplete 0 0 [], .tissue 0,
    .tineIssueComplete 0
  ] : List Instr).all Instr.wf = true := by decide +kernel

/-- A command of each row that is checked, within every bound. -/
theorem test_well_formed_2 : ([
    .start 0 0, .replay 0, .abort 0, .clearFailed 0, .seqDrainDone 0, .plotSeqIdxWrite 0 0 0, .plotPmDataWrite 0 0,
    .plotSyncCtrWrite 0 0 0, .plotDmaExtWrite 0 0 false 0, .sowBegin 0 0 0 0 0 0, .sowData 0 0 0 [], .sowEnd 0 0 0,
    .channelToTineDone 0 0, .batchLimitExpiry 0 0, .channelToMemoryDone 0 0, .heldQueueServed 0 0, .tend 0 0, .tset 0 0,
    .taddi 0 0, .tlda 0 0, .tloop 0 0, .tact 0 0, .tactLoad 0 0, .tmv 0 0, .tclr 0 0, .tout 0 0, .tattAttend 0 0,
    .tattScore 0 0, .tred 0 0, .tpack 0 0, .tadd 0 0, .tcrcClear 0 0, .tcrcWrite 0 0, .tineCheckClose 0 0 0,
    .tineBufferApply 0, .partialRecordValid 0 0, .attPartialTimeout 0 0, .refreshDue 0 0 0, .refreshStart 0 0 0,
    .refreshDone 0 0 0, .remapCopyStart 0 0, .remapCopyDone 0 0, .bedChCfgWrite 0 0 0, .bedChFlipWrite 0 0 0,
    .bedTinePmDataWrite 0 0, .acfg 0, .qload 0, .kvpages 0, .emit 0, .attClear 0, .streamRecordArrival 0 0 [],
    .attCheckClose 0 false, .holdTimerExpiry 0, .stpCfgWrite 0, .initFlit 0 (List.replicate 256 0) false,
    .protocolFlit 0 (List.replicate 256 0) false, .retryReqFlit 0 (List.replicate 256 0) false,
    .nullFlit 0 (List.replicate 256 0) false, .retryReqResend 0, .ackDue 0, .notifyGapEnd 0, .cplMbxOutAck 0,
    .snpShared 0 0, .snpInv 0 0, .linkCacheEviction 0, .ringEnable 0 0, .cplIdxAddrWrite 0, .cplCfgWrite false 0,
    .cplHeartbeatWrite 0, .plotPwrWrite 0 0
  ] : List Instr).all Instr.wf = true := by decide +kernel

/-- A command of each row that is checked, within every bound. -/
theorem test_well_formed_3 : ([
    .plotStateChangeDone 0, .amoSwap 0 0 false 0 [], .amoAdd 0 0 false 0 [], .amoAnd 0 0 false 0 [],
    .amoOr 0 0 false 0 [], .amoXor 0 0 false 0 [], .amoMin 0 0 false 0 [], .amoMax 0 0 false 0 [],
    .amoMinu 0 0 false 0 [], .amoMaxu 0 0 false 0 [], .lrScGddr7Fault 0 0 false, .gddrWriteCrcError 0 0 0,
    .gddrReadCrcError 0 0 0, .gdcCaParity 0, .gdcRetrainStart 0, .gdcDrainDone 0, .gdcRetrainPass 0 0 0,
    .gdcRetrainTimeout 0, .gdcFlipWrite 0 0, .gdcCfgWrite 0 0, .gdcWeedCfgWrite 0 0, .weederGddrRead 0 [],
    .weederBedRead 0, .frameReceived 0 0 0 [], .signalDetected 0, .detectTimeout 0 0, .equalizeAgreed 0 [],
    .equalizeTimeout 0 0 [], .alignLocked 0 [] 0, .alignTimeout 0 0 [] 0, .widthAgreed 0 0, .widthTimeout 0,
    .verifyComplete 0 0 0, .verifyTimeout 0, .laneLockLoss 0 0, .lneRetrainCmd 0 false, .retrainPassed 0 0 0 [] 0 [] 0,
    .retrainExpiry 0, .lneCfgWrite 0 0, .sopTagTimeout 0, .sopRouteDataWrite 0, .sopDevWrite 0, .sopPortCfgWrite 0 0,
    .sigAck 0 (List.replicate 16 0), .err 0 (List.replicate 16 0), .wrAck 0 (List.replicate 16 0),
    .tally 0 (List.replicate 16 0) 0, .ctrl 0 (List.replicate 16 0), .sig 0 (List.replicate 16 0),
    .wr 0 (List.replicate 16 0) [] 0 0, .rd 0 (List.replicate 16 0) [] 0 0, .red 0 (List.replicate 16 0) [] 0 0,
    .rdData 0 (List.replicate 16 0) [], .icuPendSet 0 0, .icuPendClr 0 0, .icuEnableSet 0 0 0, .icuEnableClr 0 0 0,
    .icuThresholdWrite 0 0, .icuPrioWrite 0 0, .icuClaim 0, .icuComplete 0 0, .wfiWake 0, .plotIrqWrite 0 0,
    .shdCoreRunWrite 0 0, .shdCoreWdogWrite 0 0, .watchdogKick 0 0, .machineTimerInterrupt 0 0, .shdSramFlipWrite 0,
    .gddr7PllLockLoss 0, .aonBlkRstGo 0
  ] : List Instr).all Instr.wf = true := by decide +kernel

/-- A command of each row that is checked, within every bound. -/
theorem test_well_formed_4 : ([
    .watchdogExpiry 0 false, .fuseProgKey 0, .strapsSampled 0 0 0 0 false, .stepHalves 0, .brwWdogWrite 0,
    .thmPwrCfgWrite 0, .pmbusPoll 0, .pmbusTimeout 0, .voutCommand 0 0, .pmbusClearFaults 0, .sensorMaskWrite 0 0,
    .undecidedWrite 0 0, .thmForecastWrite 0, .thmCoolCfgWrite 0 0, .vddPlotDroop 0 0, .thmMonWrite 0 0,
    .sedArbitrate 0 [] [], .move 0 0, .reload 0 0, .clone 0 0, .compare 0 0, .retire 0 0, .release 0 0,
    .plotSelftestGo 0, .selftestDone 0 0, .testpackRun 0 0, .testpackTimeout 0, .plotMemFlipWrite 0 0,
    .sedCritFlipWrite 0, .sedCfgWrite 0, .pmcCfgWrite 0 0 0 0, .pmcCntWrite 0 0 0 0, .errConsumerWrite 0,
    .dbgMuxWrite 0 0, .bypass 0, .idcode 0, .samplePreload 0 [], .extest 0, .ijtagAccess 0 0 0 none, .inputRise 0 0,
    .entdaa 0, .setdasa 0, .linkCacheRead ⟨.plot 4, 0, .read 1, 0, none, false, 0, []⟩ false,
    .linkCacheWrite ⟨.plot 4, 0, .read 1, 0, none, false, 0, []⟩ false, .dataS 0 [], .dataE 0 [], .goE 0, .goWb 0,
    .cohErr 0, .dataCur 0 [], .cohTimeout 0, .ncRd 0 0 0 0 [], .ncWr 0 [] 0 [], .ringDoorbell 0 0, .aonReset 0,
    .shake256Go 0, .crc64Go 0, .shedLocalAccess 0 0 0 0 0 0
  ] : List Instr).all Instr.wf = true := by decide +kernel


/-! ## States for the tests -/

/-- The machine with its core out of reset, changed as `f` says. -/
def live (f : Dev → Dev) : State :=
  let s := State.reset
  { s with dev := f { s.dev with rst := Rst.run } }

/-- Plot 0 runs, and the word at its program counter is `w`. -/
def runs (w : Nat) (f : Plot → Plot) : State :=
  live (fun d => d.setPlot 0 (f { Plot.reset.rs fPLOT_SEQ_STATUS_STATE 2 with pm := [(0, w)] }))

/-- Plot 0 in a state of its sequencer. -/
def plot0 (st : Nat) (f : Plot → Plot) : State := live (fun d => d.setPlot 0 (f (Plot.reset.rs fPLOT_SEQ_STATUS_STATE st)))

/-- A tile of INT8. -/
def tile0 : Tile := ⟨11, true, [3], [], [], [], 128, 64, [], false⟩

/-- A vector operation of 16 elements from scratch address 0 to the address in index register 1. -/
def vopWord (f : Nat) : Nat := 0x18 * 2 ^ 58 + f * 2 ^ 52 + (if f = 0x21 then 5 else 0) * 2 ^ 44 + 2 ^ 26 + 16 * 2 ^ 10

/-- Plot 0 runs that operation, with OK4 licensed. -/
def runsVop (f : Nat) : State :=
  let s := runs (vopWord f) (fun pl => pl.rs (fPLOT_SEQ_IDX_VALUE.at 1) 0x10000)
  { s with dev := { s.dev with licence := some ⟨1, 512, 512, 16, true, true⟩ } }

/-- Tine 13 of plot 0 runs in tine mode, and the word at its program counter is `w`. -/
def tine13 (w : Nat) (f : Plot → Plot) : State :=
  live (fun d => d.setPlot 0 (f (((Plot.reset.rs (fBED_TINE_STATUS_STATE.bit 13) 1).setMode 3 2).setChan 3
    { Channel.reset with pm := [(0, w)] })))

/-- The list header at scratch 0x8000, and one entry after it. -/
def attBytes (op rows out tag kind addr : Nat) : List Byte :=
  leBytes 1 op ++ leBytes 1 rows ++ zeros 6 ++ leBytes 4 0x9000 ++ leBytes 4 out ++ leBytes 4 tag ++ zeros 108 ++
    zeros 2 ++ leBytes 1 kind ++ zeros 1 ++ leBytes 4 addr ++ zeros 8

/-- Tine 13 at a TATT over that list, with an issue and a partial record of TAG 5 at scratch 0xA000. -/
def tatt13 (op kind addr : Nat) (f : Plot → Plot) : State :=
  let s := tine13 (0x09 * 2 ^ 27 + 1 * 2 ^ 24 + 1 * 2 ^ 14) (fun pl => f { (pl.setTine 13 (Tine.reset.setReg 1 0x8000)) with
    issues := [⟨6, 0, 8, 63, 0, false, none, true, [], 0, false⟩] })
  { s with dev := { s.dev with scr := memWrite (memWrite [] 0xA000 (leBytes 4 5)) 0x8000 (attBytes op 1 0xB000 5 kind addr) } }

/-- An attention configuration of one row, folding. -/
def attCfg1 : AttCfg := ⟨1, 0, 1, 0, 5, 0, 0, 0, 0, 0, [], [], 1⟩

/-- Plot 0 at an attention instruction over scratch 0x8000, where a partial-record entry stands. -/
def att0 (w : Nat) (f : Plot → Plot) : State :=
  let s := runs (0x1C * 2 ^ 58 + w) f
  { s with dev := { s.dev with scr := memWrite [] 0x8000 (zeros 2 ++ leBytes 1 1 ++ zeros 1 ++ leBytes 4 0xA000) } }

/-- A job descriptor: OP, slot, GEN and the count of tokens. -/
def jobOf (op i gen n : Nat) (err : Bool) : Job :=
  ⟨leBytes 1 op ++ leBytes 1 i ++ zeros 1 ++ leBytes 1 1 ++ leBytes 4 77 ++ leBytes 4 gen ++ leBytes 4 n ++
    leBytes 8 0x800000000000 ++ zeros 104, [], 0, 0, List.replicate n 9, [], err⟩

/-- The job ring holds one job and Ervoec runs. -/
def jobs (f : Dev → Dev) : State :=
  live (fun d => f (((d.rs fSHD_FW_STATE 2).rs (fCPL_RING_CFG_ENABLE.at 0) 1).rs (fCPL_RING_IDX_PRODUCER.at 0) 1))

/-- A step runs with slot 15 alone. -/
def step15 (f : Dev → Dev) (x : Slot) : State :=
  live (fun d => f (({ d.setSlot 15 x with steps := { (d.setSlot 15 x).steps with
    run := some ⟨4, [⟨15, true, ⟨1, [255], [x.token]⟩, 0, 0, false⟩], [], [], false⟩ } }).rs (fSTP_SLOT_STATE.at 15) 2))

/-- A request of plot 4 in class 0 that waits at a regulation point. -/
def waits (op : FabOp) (addr : Nat) : Waiting := ⟨⟨.plot 4, 0, op, addr, none, false, 0, []⟩, none, false⟩

/-- Controller 23 in state `st` with these requests at its point. -/
def gdc23 (st : Nat) (q : List Waiting) : State :=
  live (fun d => (d.setPoint 23 { RegPoint.reset with queue := q }).rs (fGDC_STATUS_STATE.at 23) st)

/-- Number 5 is carried by plot 0, and the move engine is in state `st`. -/
def moves (st mode : Nat) (f : Dev → Dev) : State :=
  live (fun d => f (((({ d with numbering := [(5, 0)] }.rs fSED_MOVE_STATE st).rs fSED_MOVE_MODE mode).rs
    fSED_MOVE_LOGICAL 5).rs fSED_MOVE_SPARE 1))

/-- A stored test pack without words or inputs. -/
def packBytes : List Byte := leBytes 4 0x54325246 ++ zeros 124

/-- Plot 0 carries number 5, Ervoec runs, and pack 7 is stored. -/
def packs (f : Dev → Dev) : State :=
  live (fun d => f ({ d with numbering := [(5, 0)], flash := { d.flash with bytes := flPut [] (flPACK 7) packBytes } }.rs
    fSHD_FW_STATE 2))

/-- Link layer `k` as given. -/
def links (k : Nat) (l : Link) (f : Dev → Dev) : State := live (fun d => f (d.setLink k l))

/-- A link layer that is up, with credits. -/
def upLink : Link := { Link.reset with up := true, credits := [15, 15, 15, 15] }

/-- The companion link is ready, and the last line of the space is cached as given. -/
def cached (l : SMap Line) (f : Dev → Dev) : State :=
  live (fun d => f ({ d with cpl := { d.cpl with cache := l, nextTag := 4095 } }.setLink 0 upLink))

/-- A plot's access to the last line of companion memory. -/
def hostFab (op : FabOp) (off : Nat) : FabReq := ⟨.plot 4, 0, op, hostBase + (2 ^ 41 - 1) * 64 + off, none, false, 0, []⟩

/-- Number 1023 is carried by plot 0; the companion link is ready. -/
def target (f : Dev → Dev) : State :=
  live (fun d => f ({ d with numbering := [(1023, 0)], scr := [(255, 9)] }.setLink 0 upLink))

/-- Device 7 with port 15 in service, and routes to devices 8 and 9 over port 3. -/
def peers (f : Dev → Dev) : State :=
  target (fun d => f (({ (((d.rs fSOP_DEV_DEV_ID 7).rs (fSOP_PORT_STATUS_STATE.at 15) 3).rs (fSOP_PORT_STATUS_STATE.at 3) 3) with
    routes := [(1024 + 8, 0xF3333), (1024 + 9, 0xF3333)] }.setLink 4 upLink).setLink 16 upLink))

/-- A descriptor that runs in plot 0: 16 bytes from scratch 0x8000 of number 1023 to scratch 0x9000. -/
def desc0 : Desc := ⟨0, 0, 0, 0, 16, 1, 0, 0, 0, 0, false, false, 0, 0, 0, 0, 0, 0, false, 0⟩

/-- Its run. -/
def run0 (d : Desc) (ctr : Option Nat) : DmaRun := ⟨8, 3, 0, ctr, false, true, 0, 0, 1, 1, false, [], none, d⟩

/-- Source 511 is pending, enabled for target 7 and assigned to it. -/
def claimed : State :=
  live (fun d => { ((d.rs (fICU_PEND_PEND.at 7) (2 ^ 63)).rs (fICU_ENABLE_EN.at2 7 7) (2 ^ 63)).rs (fICU_PRIO_PRIO.at 511) 15
    with shed := { d.shed with assigned := [(511, 7)], asserted := [7] } })

/-- Where no source's assignment changes, only the outputs asserted are remembered. -/
theorem icuSettle_fixed (d : Dev) (h : (List.range 512).all (fun x => decide (icuAssign d x = d)) = true) :
    (icuSettle d).shed.assigned = d.shed.assigned := by
  have g : ∀ l : List Nat, (∀ x ∈ l, icuAssign d x = d) → l.foldl icuAssign d = d := by
    intro l
    induction l with
    | nil => intro _; rfl
    | cons x l ih =>
      intro hl
      rw [List.foldl_cons, hl x List.mem_cons_self]
      exact ih (fun y hy => hl y (List.mem_cons_of_mem _ hy))
  simp only [List.all_eq_true, decide_eq_true_eq] at h
  simp only [icuSettle, g _ h]

/-- Plot 1567's sensors have disagreed seven times. -/
def sensed : State := live (fun d => { d with regs := [((fTHM_PLOT_SENSE_DIS_COUNT.at 1567).key, 7)] })

theorem sensed_state (p : Nat) : sensed.dev.rg (fTHM_PLOT_SENSE_STATE.at p) = 0 := by
  have e : sensed.dev.regs = [((fTHM_PLOT_SENSE_DIS_COUNT.at 1567).key, 7)] := rfl
  have h : ¬ ((fTHM_PLOT_SENSE_DIS_COUNT.at 1567).key = (fTHM_PLOT_SENSE_STATE.at p).key) := by
    simp only [Fld.key, Fld.at, fTHM_PLOT_SENSE_STATE, fTHM_PLOT_SENSE_DIS_COUNT]; omega
  simp only [Dev.rg, rget, SMap.get, e, SMap.find?, if_neg h]; rfl

theorem sensed_offset (p : Nat) : sensed.dev.rg (fTHM_PLOT_ARB_EXP_OFFSET.at p) = 24 := by
  have e : sensed.dev.regs = [((fTHM_PLOT_SENSE_DIS_COUNT.at 1567).key, 7)] := rfl
  have h : ¬ ((fTHM_PLOT_SENSE_DIS_COUNT.at 1567).key = (fTHM_PLOT_ARB_EXP_OFFSET.at p).key) := by
    simp only [Fld.key, Fld.at, fTHM_PLOT_ARB_EXP_OFFSET, fTHM_PLOT_SENSE_DIS_COUNT]; omega
  simp only [Dev.rg, rget, SMap.get, e, SMap.find?, if_neg h]; rfl

/-- Where no register has been written, no plot is hot. -/
theorem unwritten_cool (d : Dev) (h : d.regs = []) (p : Nat) :
    signedOf 12 (d.rg (fTHM_PLOT_SENSE_LOGIC.at p)) ≤ 105 * 8 ∧ signedOf 12 (d.rg (fTHM_PLOT_SENSE_BED.at p)) ≤ 95 * 8 := by
  simp only [Dev.rg, rget, SMap.get, h, SMap.find?]
  exact ⟨(by decide : signedOf 12 0 ≤ 105 * 8), (by decide : signedOf 12 0 ≤ 95 * 8)⟩

theorem unwritten_offset (d : Dev) (h : d.regs = []) (p : Nat) : d.rg (fTHM_PLOT_ARB_EXP_OFFSET.at p) = 24 := by
  simp only [Dev.rg, rget, SMap.get, h, SMap.find?]; rfl

/-- A device that trusts the tests' key, over this flash. -/
def trusting (m : List Host.Cell) (f : Dev → Dev) : State :=
  let s := live (fun d => { f d with flash := { d.flash with bytes := flPut m flKEY signKey } })
  { s with fused := { s.fused with keyHash := (shake256 64 signKey).take 32 } }

theorem trusting_key (m : List Host.Cell) (f : Dev → Dev) : aelmoKey (trusting m f).dev = signKey := by
  have h := flBytes_flPut_same m flKEY signKey
  rw [signKey_length] at h
  have e : (trusting m f).dev.flash.bytes = flPut m flKEY signKey := rfl
  rw [aelmoKey, flRead_eq, e]
  exact h

/-- The signed part of a configuration record: device 9, every octet on a port. -/
def cfgBody : List Byte :=
  leBytes 4 0x43325246 ++ leBytes 2 1 ++ zeros 2 ++ leBytes 4 3 ++ leBytes 4 5 ++ leBytes 2 9 ++ [2, 7] ++
    List.replicate 18 0x32 ++ zeros 4058

theorem cfgBody_length : cfgBody.length = 4096 := by decide +kernel

/-- The signed part of an image: 128 bytes, version 6. -/
def imgBody : List Byte :=
  leBytes 4 0x45325246 ++ leBytes 2 1 ++ zeros 2 ++ leBytes 4 6 ++ leBytes 4 5 ++ leBytes 4 128 ++ leBytes 4 64 ++
    leBytes 4 64 ++ [1, 0] ++ zeros 98

/-- A configuration record waits in the push window for its command's flash work. -/
def pushed (b : List Byte) : State :=
  trusting [] (fun d => { d.rs fBRW_PUSH_LEN_LENGTH 22565 with
    boot := { d.boot with command := some 1 },
    shed := { d.shed with sram := memWrite [] pushBase b } })

theorem pushed_key (b : List Byte) : aelmoKey (pushed b).dev = signKey := trusting_key _ _

theorem pushed_sram (b : List Byte) : (pushed b).dev.shed.sram = memWrite [] pushBase b := rfl

theorem pushed_signed : memRead (pushed (signed cfgBody)).dev.shed.sram pushBase 22565 = signed cfgBody := by
  have h := memRead_memWrite (signed cfgBody) [] pushBase
  have n : (signed cfgBody).length = 22565 := by rw [signed_length, cfgBody_length]; rfl
  rw [n] at h
  rw [pushed_sram]
  exact h

/-- The next step is `k`, on a device that trusts the tests' key over this flash. -/
def stepAt (k : Nat) (m : List Host.Cell) (f : Dev → Dev) : State :=
  trusting m (fun d => f ((d.rs fBRW_STATUS_STATE 2).rs fBRW_STATUS_LAST_DONE (k - 1)))

theorem stepAt_key (k : Nat) (m : List Host.Cell) (f : Dev → Dev) : aelmoKey (stepAt k m f).dev = signKey :=
  trusting_key m (fun d => f ((d.rs fBRW_STATUS_STATE 2).rs fBRW_STATUS_LAST_DONE (k - 1)))

theorem stepAt_keyHash (k : Nat) (m : List Host.Cell) (f : Dev → Dev) :
    (shake256 64 (aelmoKey (stepAt k m f).dev)).take 32 = (stepAt k m f).fused.keyHash := by rw [stepAt_key]; rfl

theorem stepAt_read (k : Nat) (m : List Host.Cell) (f : Dev → Dev) (a n : Nat) (h : a + n ≤ flKEY ∨ flKEY + 68 ≤ a) :
    flRead (stepAt k m f).dev a n = flBytes m a n := by
  have e : (stepAt k m f).dev.flash.bytes = flPut m flKEY signKey := rfl
  rw [flRead_eq, e, flBytes_flPut_out _ _ _ _ _ (by rw [signKey_length]; exact h)]

/-- Three copies of a record of 64 bytes. -/
def pairs (m : List Host.Cell) (a : Nat) (b : List Byte) : List Host.Cell :=
  flPut (flPut (flPut m a b) (a + 0x1000) b) (a + 0x2000) b

theorem pairs_out (m : List Host.Cell) (c : Nat) (b : List Byte) (hb : b.length = 64) (a n : Nat)
    (h : a + n ≤ c ∨ c + 0x2040 ≤ a) : flBytes (pairs m c b) a n = flBytes m a n := by
  rw [pairs, flBytes_flPut_out _ _ _ _ _ (by omega), flBytes_flPut_out _ _ _ _ _ (by omega),
    flBytes_flPut_out _ _ _ _ _ (by omega)]

theorem pairs_at (m : List Host.Cell) (a : Nat) (b : List Byte) (hb : b.length = 64) (c : Nat) (hc : c < 3) :
    flBytes (pairs m a b) (a + c * 0x1000) 64 = b := by
  have h := flBytes_flPut_same
  rcases (by omega : c = 0 ∨ c = 1 ∨ c = 2) with rfl | rfl | rfl
  · rw [pairs, flBytes_flPut_out _ _ _ _ _ (by omega), flBytes_flPut_out _ _ _ _ _ (by omega), Nat.zero_mul, Nat.add_zero,
      ← hb, h]
  · rw [pairs, flBytes_flPut_out _ _ _ _ _ (by omega), Nat.one_mul, ← hb, h]
  · rw [pairs, ← hb]; exact h _ _ _

/-- The signed part of a device certificate: DEV_IDENT's public key is 68 zero bytes. -/
def certBody : List Byte := leBytes 4 0x49325246 ++ leBytes 2 1 ++ zeros 122

/-- The signed part of a licence for that device: 512 plots of each half, 16 ports, OK4 and OQ4. -/
def licBody : List Byte :=
  leBytes 4 0x4C325246 ++ leBytes 2 1 ++ zeros 2 ++ leBytes 4 8 ++ shake256 32 (zeros 68) ++ leBytes 2 512 ++ leBytes 2 512 ++
    [16, 3] ++ zeros 78

/-- Flash with a device certificate and a reservation record. -/
def certFlash : List Host.Cell := pairs (flPut [] flCERT (signed certBody)) flRESERVE (pairBytes magicR 1 77)

/-- That flash with a licence in entry 0. -/
def licFlash : List Host.Cell := flPut certFlash (flLICENCE 0) (signed licBody)

/-- Flash with slot B selected, and an image in slot `k`. -/
def imgFlash (k : Nat) : List Host.Cell := pairs (flPut [] (flSLOT k) (signed imgBody)) flSELECT (pairBytes magicS 1 1)

theorem signed_length_of (b : List Byte) (n : Nat) (h : b.length = n) : (signed b).length = n + sigBytes := by
  rw [signed_length, h]

theorem certFlash_cert : flBytes certFlash flCERT licBytes = signed certBody := by
  have n : (signed certBody).length = licBytes := signed_length_of _ 128 (by decide +kernel)
  have h := flBytes_flPut_same [] flCERT (signed certBody)
  rw [n] at h
  rw [certFlash, pairs_out _ _ _ (by decide +kernel) _ _ (by decide), h]

theorem certFlash_reserve (c : Nat) (h : c < 3) :
    pairGood magicR (flBytes certFlash (flRESERVE + c * 0x1000) 64) = some (1, 77) := by
  rw [certFlash, pairs_at _ _ _ (by decide +kernel) c h]; decide +kernel

theorem certFlash_licence (k : Nat) (h : k < 8) : licenceHeld (flBytes certFlash (flLICENCE k) licBytes) = false := by
  have n : (signed certBody).length = licBytes := signed_length_of _ 128 (by decide +kernel)
  rw [licenceHeld, recV_flBytes _ _ _ _ _ (by decide), Nat.add_zero, certFlash,
    pairs_out _ _ _ (by decide +kernel) _ _ (by simp only [flRESERVE, flLICENCE]; omega),
    flBytes_flPut_out _ _ _ _ _ (by rw [n]; simp only [flCERT, flLICENCE, licBytes]; omega)]
  rcases (by omega : k = 0 ∨ k = 1 ∨ k = 2 ∨ k = 3 ∨ k = 4 ∨ k = 5 ∨ k = 6 ∨ k = 7) with
    rfl | rfl | rfl | rfl | rfl | rfl | rfl | rfl <;> decide +kernel

theorem licFlash_low (a n : Nat) (h : a + n ≤ flLICENCE 0) : flBytes licFlash a n = flBytes certFlash a n :=
  flBytes_flPut_out _ _ _ _ _ (Or.inl h)

theorem licFlash_entry : flBytes licFlash (flLICENCE 0) licBytes = signed licBody := by
  have n : (signed licBody).length = licBytes := signed_length_of _ 128 (by decide +kernel)
  have h := flBytes_flPut_same certFlash (flLICENCE 0) (signed licBody)
  rw [n] at h
  exact h

theorem licFlash_held (k : Nat) (h : k < 8) :
    licenceHeld (flBytes licFlash (flLICENCE k) licBytes) = decide (k = 0) := by
  by_cases hk : k = 0
  · subst hk
    rw [licFlash_entry, licenceHeld, signed, recV_append _ _ _ _ (by decide +kernel)]; decide +kernel
  · have n : (signed licBody).length = licBytes := signed_length_of _ 128 (by decide +kernel)
    rw [licFlash, licenceHeld, recV_flBytes _ _ _ _ _ (by decide),
      flBytes_flPut_out _ _ _ _ _ (by rw [n]; simp only [flLICENCE, licBytes]; omega),
      ← recV_flBytes certFlash (flLICENCE k) licBytes 0 4 (by decide)]
    have := certFlash_licence k h
    rw [licenceHeld] at this
    rw [this]; simp [hk]

theorem imgFlash_select (k c : Nat) (h : c < 3) :
    pairGood magicS (flBytes (imgFlash k) (flSELECT + c * 0x1000) 64) = some (1, 1) := by
  rw [imgFlash, pairs_at _ _ _ (by decide +kernel) c h]; decide +kernel

theorem imgFlash_slot (k : Nat) :
    ∃ r, flBytes (imgFlash k) (flSLOT k) 524288 = imgBody ++ (sign imgBody ++ r) := by
  have n : (signed imgBody).length = 128 + sigBytes := signed_length_of _ 128 (by decide +kernel)
  have h := flBytes_flPut_same [] (flSLOT k) (signed imgBody)
  rw [n] at h
  refine ⟨flBytes (flPut [] (flSLOT k) (signed imgBody)) (flSLOT k + (128 + sigBytes)) 505691, ?_⟩
  rw [imgFlash, pairs_out _ _ _ (by decide +kernel) _ _ (by simp only [flSLOT, flSELECT]; split <;> omega),
    show 524288 = 128 + sigBytes + 505691 by decide, flBytes_append, h, signed, List.append_assoc]

theorem imgFlash_other (k : Nat) (h : k < 2) : recV (flBytes (imgFlash k) (flSLOT (1 - k)) 524288) 0 4 ≠ 0x45325246 := by
  have n : (signed imgBody).length = 128 + sigBytes := signed_length_of _ 128 (by decide +kernel)
  rw [recV_flBytes _ _ _ _ _ (by decide), imgFlash,
    pairs_out _ _ _ (by decide +kernel) _ _ (by simp only [flSLOT, flSELECT]; split <;> omega),
    flBytes_flPut_out _ _ _ _ _ (by
      rw [n]; rcases (by omega : k = 0 ∨ k = 1) with rfl | rfl <;> decide)]
  rcases (by omega : k = 0 ∨ k = 1) with rfl | rfl <;> decide +kernel

/-- A request. -/
def msg (ty : Nat) (body : List Byte) : Mail := ⟨1, 0, ty, 0, 7, 0, body⟩

/-- Ervoec processes a request. -/
def mailed (m : Mail) (f : Dev → Dev) : State :=
  live (fun d => f { d.rs fSHD_FW_STATE 2 with cpl := { d.cpl with mail := some m } })

/-- Ervoec processes a request, on a device whose key record has been checked. -/
def mailedKey (m : Mail) (fl : List Host.Cell) (f : Dev → Dev) : State :=
  trusting fl (fun d => f { (d.rs fSHD_FW_STATE 2).rs fTRU_STATUS_KEY_VALID 1 with cpl := { d.cpl with mail := some m } })

theorem mailedKey_key (m : Mail) (fl : List Host.Cell) (f : Dev → Dev) : aelmoKey (mailedKey m fl f).dev = signKey :=
  trusting_key fl (fun d => f { (d.rs fSHD_FW_STATE 2).rs fTRU_STATUS_KEY_VALID 1 with cpl := { d.cpl with mail := some m } })

theorem mailedKey_read (m : Mail) (fl : List Host.Cell) (f : Dev → Dev) (a n : Nat)
    (h : a + n ≤ flKEY ∨ flKEY + 68 ≤ a) : flRead (mailedKey m fl f).dev a n = flBytes fl a n := by
  have e : (mailedKey m fl f).dev.flash.bytes = flPut fl flKEY signKey := rfl
  rw [flRead_eq, e, flBytes_flPut_out _ _ _ _ _ (by rw [signKey_length]; exact h)]

/-- UPDATE_STAGE of an image that lies in GDDR7 at 64. -/
def staging (b : List Byte) : State :=
  mailedKey (msg 0x0120 (leBytes 8 64 ++ leBytes 8 18597)) [] (fun d => { d with gddr := memWrite [] 64 b })

theorem staging_gddr (b : List Byte) : (staging b).dev.gddr = memWrite [] 64 b := rfl

theorem staging_image : memRead (staging (signed imgBody)).dev.gddr 64 18597 = signed imgBody := by
  have n : (signed imgBody).length = 18597 := signed_length_of _ 128 (by decide +kernel)
  have h := memRead_memWrite (signed imgBody) [] 64
  rw [n] at h
  rw [staging_gddr]
  exact h

theorem imageWhole_signed (r : List Byte) : imageWhole (imgBody ++ (sign imgBody ++ r)) = signed imgBody := by
  have l : imageLen (imgBody ++ (sign imgBody ++ r)) = 128 := by
    rw [imageLen, recV_append _ _ _ _ (by decide +kernel)]; decide +kernel
  rw [imageWhole, l, ← List.append_assoc]
  exact List.take_left' (signed_length_of _ 128 (by decide +kernel))

/-- LICENCE_INSTALL of a licence that lies in GDDR7 at 64, on a device that it names. -/
def installing (fl : List Host.Cell) (b : List Byte) : State :=
  mailedKey (msg 0x0110 (leBytes 8 64 ++ leBytes 8 18597)) fl (fun d => { d.rs fTRU_STATUS_CERT_VALID 1 with
    gddr := memWrite [] 64 b, trust := { d.trust with ident := shake256 32 (zeros 68) } })

theorem installing_gddr (fl : List Host.Cell) (b : List Byte) : (installing fl b).dev.gddr = memWrite [] 64 b := rfl

theorem installing_ident (fl : List Host.Cell) (b : List Byte) :
    (installing fl b).dev.trust.ident = shake256 32 (zeros 68) := rfl

theorem installing_key (fl : List Host.Cell) (b : List Byte) : aelmoKey (installing fl b).dev = signKey :=
  mailedKey_key (msg 0x0110 (leBytes 8 64 ++ leBytes 8 18597)) fl (fun d => { d.rs fTRU_STATUS_CERT_VALID 1 with
    gddr := memWrite [] 64 b, trust := { d.trust with ident := shake256 32 (zeros 68) } })

theorem installing_read (fl : List Host.Cell) (b : List Byte) (a n : Nat) (h : flKEY + 68 ≤ a) :
    flRead (installing fl b).dev a n = flBytes fl a n :=
  mailedKey_read (msg 0x0110 (leBytes 8 64 ++ leBytes 8 18597)) fl (fun d => { d.rs fTRU_STATUS_CERT_VALID 1 with
    gddr := memWrite [] 64 b, trust := { d.trust with ident := shake256 32 (zeros 68) } }) a n (Or.inr h)

theorem installing_licence (fl : List Host.Cell) :
    memRead (installing fl (signed licBody)).dev.gddr 64 licBytes = signed licBody := by
  have n : (signed licBody).length = licBytes := signed_length_of _ 128 (by decide +kernel)
  have h := memRead_memWrite (signed licBody) [] 64
  rw [n] at h
  rw [installing_gddr]
  exact h

theorem installing_check (fl : List Host.Cell) :
    licenceCheck (installing fl (signed licBody)).fused (installing fl (signed licBody)).dev (signed licBody) = 0 := by
  have l : licBody.length = 128 := by decide +kernel
  have hf : licenceForm (signed licBody) = true := licenceForm_append _ _ l (by decide +kernel)
  have s := sigCode_signed (installing fl (signed licBody)).fused (installing fl (signed licBody)).dev licBody [] none rfl
    (installing_key fl (signed licBody)) (fun x h => nomatch h)
  rw [l, List.append_nil] at s
  change sigCode _ _ (signed licBody) 128 none = 0 at s
  have b : ((signed licBody).drop 12).take 32 = shake256 32 (zeros 68) := by
    rw [signed, List.drop_append_of_le_length (by rw [l]; decide),
      List.take_append_of_le_length (by rw [List.length_drop, l]; decide)]
    decide +kernel
  rw [licenceCheck, hf, s, b]
  simp only [Bool.not_true, Bool.false_eq_true, if_false, ne_eq, not_true_eq_false]
  exact if_pos ⟨rfl, (installing_ident fl _).symm⟩

theorem signed_licence_recV (i n : Nat) (h : i + n ≤ 128) : recV (signed licBody) i n = recV licBody i n :=
  recV_append _ _ _ _ (by rw [show licBody.length = 128 by decide +kernel]; exact h)

/-- Replica 15 of sixteen of group 63, on plot 1023. -/
def group63 : Replica := ⟨63, 15, 16, 1023, 1, List.replicate 16 7, 0, none, [], 0⟩

/-- A placement image at GDDR7 address 0: one library of one word for logical number 5, and 256 phases of 9 steps. -/
def placementCells : List Host.Cell :=
  [(0, 0x46), (1, 0x52), (2, 0x32), (3, 0x50), (4, 1), (6, 1), (8, 1), (12, 64), (17, 4), (21, 8), (25, 1)] ++
    [(64, 3), (68, 1), (70, 1), (72, 5), (74, 1), (81, 2), (88, 42), (89, 232), (90, 28), (91, 54), (92, 39), (93, 246),
      (94, 244), (95, 128), (512, 77)] ++ (List.range 256).map (fun i => (1024 + 4 * i, 9))

/-- The signed part of a test pack with identifier 0 and this version. -/
def pkBody (v : Nat) : List Byte :=
  leBytes 4 0x54325246 ++ leBytes 2 1 ++ zeros 6 ++ leBytes 4 v ++ zeros 8 ++ leBytes 4 0x8000 ++ zeros 36 ++ leBytes 4 1 ++
    zeros 60

theorem packCode_signed (f : Fuses) (d : Dev) (b : List Byte) (hb : b.length = 128) (h1 : packBody b = 128)
    (h2 : ¬ (recV b 24 4 < 0x8000 ∨ 0x100000 < recV b 24 4 + recV b 28 4))
    (h3 : ¬ (recV b 0 4 ≠ 0x54325246 ∨ recV b 4 1 ≠ 1 ∨ recV b 6 2 ≠ 0 ∨ 8192 < (packLens b).1 ∨ 16384 < (packLens b).2.1 ∨
      1015808 < (packLens b).2.2 ∨ recV b 64 4 = 0 ∨ 10 < recV b 68 2 ∨ !recZero b 70 58))
    (hk : d.rg fTRU_STATUS_KEY_VALID = 1) (ha : aelmoKey d = signKey) : packCode f d (signed b) = 0 := by
  have v (i n : Nat) (h : i + n ≤ 128) : recV (signed b) i n = recV b i n := recV_append b _ i n (by omega)
  have z (i n : Nat) (h : i + n ≤ 128) : recZero (signed b) i n = recZero b i n := recZero_append b _ i n (by omega)
  have l : packLens (signed b) = packLens b := by
    simp only [packLens, v _ _ (show 16 + 2 ≤ 128 by decide), v _ _ (show 18 + 2 ≤ 128 by decide),
      v _ _ (show 20 + 4 ≤ 128 by decide)]
  have p : packBody (signed b) = 128 := by rw [packBody, l]; exact h1
  have n : (signed b).length = 128 + sigBytes := signed_length_of _ _ hb
  have s := sigCode_signed f d b [] none hk ha (fun x h => nomatch h)
  rw [hb, List.append_nil] at s
  change sigCode f d (signed b) 128 none = 0 at s
  unfold packCode
  simp only [l, p, n, s, v _ _ (show 24 + 4 ≤ 128 by decide), v _ _ (show 28 + 4 ≤ 128 by decide),
    v _ _ (show 0 + 4 ≤ 128 by decide), v _ _ (show 4 + 1 ≤ 128 by decide), v _ _ (show 6 + 2 ≤ 128 by decide),
    v _ _ (show 64 + 4 ≤ 128 by decide), v _ _ (show 68 + 2 ≤ 128 by decide), z _ _ (show 70 + 58 ≤ 128 by decide)]
  rw [if_neg (by decide), if_neg (by decide), if_neg h2, if_neg h3, if_neg (by decide)]

/-- TESTPACK_LOAD of a pack that lies in GDDR7 at 64. -/
def loading (fl : List Host.Cell) (b : List Byte) : State :=
  mailedKey (msg 0x0210 (leBytes 8 64 ++ leBytes 8 18597)) fl (fun d => { d with gddr := memWrite [] 64 b })

theorem loading_gddr (fl : List Host.Cell) (b : List Byte) : (loading fl b).dev.gddr = memWrite [] 64 b := rfl

theorem loading_key (fl : List Host.Cell) (b : List Byte) : aelmoKey (loading fl b).dev = signKey :=
  mailedKey_key (msg 0x0210 (leBytes 8 64 ++ leBytes 8 18597)) fl (fun d => { d with gddr := memWrite [] 64 b })

theorem loading_read (fl : List Host.Cell) (b : List Byte) (a n : Nat) (h : flKEY + 68 ≤ a) :
    flRead (loading fl b).dev a n = flBytes fl a n :=
  mailedKey_read (msg 0x0210 (leBytes 8 64 ++ leBytes 8 18597)) fl (fun d => { d with gddr := memWrite [] 64 b }) a n (Or.inr h)

theorem loading_pack (fl : List Host.Cell) (v : Nat) (h : (pkBody v).length = 128) :
    memRead (loading fl (signed (pkBody v))).dev.gddr 64 18597 = signed (pkBody v) := by
  have n : (signed (pkBody v)).length = 18597 := signed_length_of _ 128 h
  have k := memRead_memWrite (signed (pkBody v)) [] 64
  rw [n] at k
  rw [loading_gddr]
  exact k

theorem loading_at (fl : List Host.Cell) (b : List Byte) (k : Nat) :
    packAt (loading fl b).dev k = packAt { Dev.reset with flash := { Dev.reset.flash with bytes := fl } } k := by
  have e (n : Nat) : flRead (loading fl b).dev (flPACK k) n = flBytes fl (flPACK k) n :=
    loading_read fl b _ n (by simp only [flKEY, flPACK]; omega)
  simp only [packAt, e]; rfl

theorem loading_place (fl : List Host.Cell) (b : List Byte) (id : Nat) :
    packPlace (loading fl b).dev id = packPlace { Dev.reset with flash := { Dev.reset.flash with bytes := fl } } id := by
  simp only [packPlace, loading_at]

theorem signed_pack_recV (v i n : Nat) (hb : (pkBody v).length = 128) (h : i + n ≤ 128) :
    recV (signed (pkBody v)) i n = recV (pkBody v) i n :=
  recV_append _ _ _ _ (by rw [hb]; exact h)

/-- A command stands in front while a fuse programming runs. -/
def fusing (c : Instr) : State :=
  { live (fun d => { d with trust := { d.trust with fuse := some 64 } }) with
    fused := { Fuses.reset with rollback := 63 }, pending := [c] }

/-- The state that a step answers. -/
def after (s : State) : State :=
  match step s with
  | .next t => t
  | _ => s

theorem find?_append (k : Nat) (a b : List Host.Cell) :
    SMap.find? k (a ++ b) = (SMap.find? k a).or (SMap.find? k b) := by
  induction a with
  | nil => rfl
  | cons x a ih =>
    obtain ⟨j, v⟩ := x
    simp only [List.cons_append, SMap.find?]
    split
    · rfl
    · exact ih

theorem find?_above (l : List Host.Cell) (n k : Nat) (hl : ∀ c ∈ l, c.1 < n) (h : n ≤ k) : SMap.find? k l = none := by
  induction l with
  | nil => rfl
  | cons x l ih =>
    obtain ⟨j, v⟩ := x
    have := hl (j, v) List.mem_cons_self
    rw [SMap.find?, if_neg (by simp only at this; omega)]
    exact ih (fun c hc => hl c (List.mem_cons_of_mem _ hc))

theorem find?_phases (n k : Nat) :
    SMap.find? k ((List.range n).map (fun i => ((1024 + 4 * i, 9) : Host.Cell))) =
      if 1024 ≤ k ∧ k % 4 = 0 ∧ k < 1024 + 4 * n then some 9 else none := by
  induction n with
  | zero => rw [if_neg (by omega)]; rfl
  | succ n ih =>
    rw [List.range_succ, List.map_append, find?_append, ih]
    simp only [List.map_cons, List.map_nil, SMap.find?]
    split_ifs <;> first | rfl | omega

/-- PLACEMENT_LOAD of that image while logical number 5 is in service. -/
def placing : State :=
  mailed (msg 0x0300 (leBytes 8 0 ++ leBytes 8 70000)) (fun d => { d with gddr := placementCells, numbering := [(5, 0)] })

theorem placing_get (k : Nat) (h : 1024 ≤ k) :
    memGet placing.dev.gddr k = if k % 4 = 0 ∧ k < 2048 then 9 else 0 := by
  have e : placing.dev.gddr = placementCells := rfl
  rw [e, memGet, SMap.get, placementCells, find?_append, find?_phases]
  rw [find?_above _ 1024 k (by decide) h]
  split_ifs <;> first | rfl | omega

theorem placing_phases :
    (List.range 256).all (fun i => phaseOk (gV placing.dev 0 (gV placing.dev 0 16 4 + 4 * i) 4)) = true := by
  rw [List.all_eq_true]
  intro i hi
  have hi := List.mem_range.1 hi
  have b : gV placing.dev 0 16 4 = 1024 := by decide +kernel
  have v : gV placing.dev 0 (1024 + 4 * i) 4 = 9 := by
    simp only [gV, memRead, show List.range 4 = [0, 1, 2, 3] by decide, List.map_cons, List.map_nil]
    rw [placing_get _ (by omega), placing_get _ (by omega), placing_get _ (by omega), placing_get _ (by omega),
      if_pos (by omega), if_neg (by omega), if_neg (by omega), if_neg (by omega)]
    rfl
  rw [b, v]; rfl

theorem placing_code : placementCode placing.dev 0 70000 = 0 := by
  rw [placementCode, if_neg (by decide +kernel), if_neg (by decide +kernel), if_neg (by decide +kernel),
    if_neg (by rw [placing_phases]; decide), if_neg (by decide +kernel)]

/-! ## Single steps and tables, with values from the spec -/

/-- The device after a command, and the device before it where the command stops. -/
def ran (o : Host.Outcome State Fault Refusal) (s : State) : Dev :=
  match o with
  | .next t => t.dev
  | _ => s.dev

/-- The oldest command takes effect with the rest of the queue. -/
theorem test_front_of_queue (i : Instr) (rest : List Instr) (s : State) :
    step { s with pending := i :: rest } = exec i { s with pending := rest } := rfl

/-- An empty queue: the block idles. -/
theorem test_idle : step State.reset = .next State.reset := rfl

/-- The table gives its rows no bits. -/
theorem test_no_word : decodeTableWord 16 0 = none := rfl

/-- The worked example of chapter 8: address 0x0012_3456_7890 is at controller 18, local address 0xC22E_4890. -/
theorem test_gddr_address : gddrMap 0x001234567890 = (18, 0xC22E4890) ∧ gddrRow 0xC22E4890 = (0, 2, 24855) := by decide

/-- The worked example of chapter 8: the two granules of the row that retires. -/
theorem test_gddr_granules : gddrUnmap 18 795364 = 0x001234567000 ∧ gddrUnmap 18 795365 = 0x00123457E000 := by decide

/-- The worked example of chapter 2: an OK4 block, its scale byte, and SAT and UNDERFLOW. -/
theorem test_ok4_block :
    quantOK4 .rne ([0x402CCCCD, 0xBF99999A, 0x3E99999A, 0, 0x3F4CCCCD, 0xC039999A, 0x3FCCCCCD, 0x3DCCCCCD, 0xBECCCCCD,
      0x400CCCCD, 0xBD4CCCCD, 0x3F8CCCCD, 0xBFD9999A, 0x3F19999A, 0x40433333, 0xBF666666].map (decodeFp fmtB32)) =
    ([7, 12, 1, 0, 3, 15, 5, 0, 10, 6, 0, 4, 13, 2, 7, 12], 0x7E, flagSAT ||| flagUNDERFLOW) := by decide +kernel

/-- R339: the CRC-32 of the nine ASCII bytes "123456789". -/
theorem test_crc32 : crc32 ((List.range 9).map (fun i => BitVec.ofNat 8 (0x31 + i))) = 0xCBF43926 := by decide +kernel

/-- R167: an empty library has CRC 0. -/
theorem test_crc64_empty : crc64 0 [] = 0 := rfl

/-- FIPS 202: the first bytes of SHAKE256 of no bytes. -/
theorem test_shake256 : (shake256 8 []).map BitVec.toNat = [0x46, 0xB9, 0xDD, 0x2B, 0x0B, 0xA8, 0x8D, 0x13] := by
  decide +kernel

/-- The trace of chapter 13: BRW_STATUS after RUN, BRW_PLOTS with 19 and 22 spares, CPL_STATUS at x16. -/
theorem test_bringup_words :
    devWord (((State.reset.dev.rs fBRW_STATUS_STATE 2).rs fBRW_STATUS_STEP 12).rs fBRW_STATUS_LAST_DONE 12) 0x10 = 0xCC02 ∧
    devWord (((State.reset.dev.rs fBRW_PLOTS_IN_SERVICE 1024).rs fBRW_PLOTS_SPARE_WEST 19).rs fBRW_PLOTS_SPARE_EAST 22)
      0x30 = 0x0000001626000400 ∧
    devWord (State.reset.dev.rs fCPL_STATUS_LINK 4) 0x600000 = 0x400 := by decide +kernel

/-- The excursion of chapter 14 at its 10,000th sample: 2.0 J, LOCKED. -/
def excursion : State :=
  live (fun d => { d with therm := { d.therm with excess := 1999800000, excursion := 9999 } })

/-- The excursion of chapter 14: sample 10,000 locks at 2.0 J with the duty at 256/256. -/
theorem test_power_lock : let d := ran (exec (.powerSample 2000000) excursion) excursion
    d.rg fTHM_PWR_STATUS_LOCKED = 1 ∧ d.rg fTHM_PWR_STATUS_E_MJ = 2000 ∧ d.therm.duty = 256 := by decide +kernel

/-- The excursion of chapter 14: against 1,710 W a sample of 2,000 W takes 8 from the duty, and 1,700 W against 2,100 W adds 1. -/
theorem test_power_duty : nextDuty 256 2000000 171000000 = 248 ∧ nextDuty 208 1700000 210000000 = 209 := by decide

/-- The sudden stop of chapter 15: FLOW_STOP, the full request, and Lc of 270 W. -/
theorem test_flow_stop : let d := ran (exec .noPulseTimeout (live id)) (live id)
    d.therm.flowStop = true ∧ d.rg fTHM_LIMIT_LC_W = 270 ∧ d.rg fTHM_COOL_STATUS_DUTY = 1000 := by decide +kernel

/-- The claims of chapter 17: source 82 of priority 6 and source 135 of priority 12 are pending, enabled for targets 0 and 1. -/
def nesting : State :=
  live (fun d =>
    let d := (d.rs (fICU_PRIO_PRIO.at 82) 6).rs (fICU_PRIO_PRIO.at 135) 12
    let d := (d.rs (fICU_ENABLE_EN.at2 0 1) (2 ^ 18)).rs (fICU_ENABLE_EN.at2 0 2) (2 ^ 7)
    let d := (d.rs (fICU_ENABLE_EN.at2 1 1) (2 ^ 18)).rs (fICU_ENABLE_EN.at2 1 2) (2 ^ 7)
    d.rs (fGDC_ERR_ROW_SUSPECT.at 18) 1)

/-- Source 82 is assigned to target 0, and its pointer moves to 1. -/
theorem test_assign :
    let d := icuAssign nesting.dev 82
    SMap.find? 82 d.shed.assigned = some 0 ∧ SMap.get 0 d.shed.rr 82 = 1 := by decide +kernel

/-- With 82 of priority 6 in service on target 0, plot 0x0A5 sets PLOT_IRQ.ARR: source 135 is assigned to target 0, and 82,
which is in service, is not pending. -/
theorem test_nesting :
    let d := { nesting.dev with shed := { nesting.dev.shed with stack := [(0, [(82, 6)])] } }
    let d := d.modPlot 0x0A5 (fun pl => pl.rs fPLOT_IRQ_ARR 1)
    SMap.find? 135 (icuAssign d 135).shed.assigned = some 0 ∧ icuPending d 82 = false := by decide +kernel

/-- VOP.ADD of 16 binary32 elements onto themselves: 1.5 gives 3.0 (R120). -/
theorem test_vop_add :
    let s := { runsVop 0 with dev := { (runsVop 0).dev with scr := memWrite [] 0 (leBytes 4 0x3FC00000) } }
    memRead (ran (exec (.vopAdd 0) s) s).scr 0x10000 8 = leBytes 4 0x40400000 ++ zeros 4 := by decide +kernel

/-- ADDI of −1 to an index register of 0 wraps (R133). -/
theorem test_addi_wraps :
    let s := runs (0x05 * 2 ^ 58 + 3 * 2 ^ 54 + (2 ^ 24 - 1) * 2 ^ 30) id
    ((ran (exec (.addi 0) s) s).plot 0).idx 3 = 2 ^ 32 - 1 := by decide +kernel

/-- JMP goes to its target (R143). -/
theorem test_jmp :
    let s := runs (0x02 * 2 ^ 58 + 77 * 2 ^ 45) id
    ((ran (exec (.jmp 0) s) s).plot 0).rg fPLOT_SEQ_STATUS_PC = 77 := by decide +kernel

/-- HALT with nothing in flight reaches IDLE (R136). -/
theorem test_halt :
    let s := runs (0x01 * 2 ^ 58) id
    (ran (exec (.haltWaitEnd 0) { s with dev := ran (exec (.halt 0) s) s }) s).plot 0 |>.rg fPLOT_SEQ_STATUS_STATE = 1 := by
  decide +kernel

/-! ## The hypotheses of each statement are met -/

/-- What each clause of `StationarySet` supposes is met. -/
theorem witness_StationarySet :
    (∃ (s : State) (p : Nat) (st : _) (x : _) (k : _) (n : _) (stride : _) (r : _),
      Live s ∧ arrPair st x = true ∧ st < 14 ∧ x < 13 ∧ fmtLicensed s.dev st = true ∧ k ≤ arrK st ∧ n ≤ arrN st ∧
          stride < 256 ∧ r < 2 ∧ Issues s.dev p (0x12 * 2 ^ 58 + st * 2 ^ 54 + x * 2 ^ 50 + k * 2 ^ 42 + n * 2 ^ 34 +
          stride * 2 ^ 26 + r * 2 ^ 25)) ∧
    (∃ (s : State) (p : Nat) (off : _),
      Live s ∧ off * 32 + 8192 ≤ 2 ^ 20 ∧ Sound (s.dev.plot p) ∧ (s.dev.plot p).waitLoad = none ∧ (s.dev.plot p).rg
          fPLOT_ARR_STATUS_SHADOW = 0 ∧ Issues s.dev p (0x10 * 2 ^ 58 + 11 * 2 ^ 54 + 2 ^ 53 + off * 2 ^ 23)) ∧
    (∃ (s : State) (p : Nat),
      Live s ∧ (s.dev.plot p).rg fPLOT_ARR_STATUS_SHADOW = 1 ∧ (s.dev.plot p).shadowErr = 0) ∧
    (∃ (s : State) (p : Nat),
      Live s ∧ (s.dev.plot p).rg fPLOT_ARR_STATUS_SHADOW = 1 ∧ (s.dev.plot p).shadowErr = 0x0B03) ∧
    (∃ (s : State) (p : Nat),
      Live s ∧ isPlot p = true ∧ (s.dev.plot p).rg fPLOT_ARR_STATUS_SHADOW = 2 ∧ nextSwaps (s.dev.plot p) = true ∧
          (s.dev.plot p).waitLoad = none) ∧
    (∃ (s : State) (p : Nat), Live s ∧ (s.dev.plot p).rg fPLOT_ARR_STATUS_SHADOW = 3) :=
  ⟨⟨runs (0x12 * 2 ^ 58 + 11 * 2 ^ 54 + 11 * 2 ^ 50 + 128 * 2 ^ 42 + 64 * 2 ^ 34 + 8 * 2 ^ 26 + 2 ^ 25) id, 0, 11,
      11, 128, 64, 8, 1, by
      delta Live Issues
      decide +kernel⟩,
    ⟨runs (0x10 * 2 ^ 58 + 11 * 2 ^ 54 + 2 ^ 53 + 32512 * 2 ^ 23) (fun pl =>
      { pl with mat := ⟨11, 11, 128, 64, 8, false⟩ }), 0, 32512, by
      delta Live Issues Sound
      decide +kernel⟩,
    ⟨plot0 2 (fun pl => pl.rs fPLOT_ARR_STATUS_SHADOW 1), 0, by
      delta Live
      decide +kernel⟩,
    ⟨plot0 2 (fun pl => { pl.rs fPLOT_ARR_STATUS_SHADOW 1 with shadowErr := 0x0B03 }), 0, by
      delta Live
      decide +kernel⟩,
    ⟨runs (0x11 * 2 ^ 58 + 2 ^ 49 + 2 ^ 31) (fun pl =>
      { pl.rs fPLOT_ARR_STATUS_SHADOW 2 with shadow := some tile0, mat := ⟨11, 11, 128, 64, 8, false⟩ }), 0, by
      delta Live
      decide +kernel⟩,
    ⟨plot0 2 (fun pl => pl.rs fPLOT_ARR_STATUS_SHADOW 3), 0, by
      delta Live
      decide +kernel⟩⟩

/-- What `IntegerMatrixRow` supposes is met. -/
theorem witness_IntegerMatrixRow :
    ∃ (s : State) (p : Nat) (base : Nat) (off : Nat) (klen : Nat) (nlen : Nat) (stride : Nat) (x : Tile),
      Live s ∧ Sound (s.dev.plot p) ∧ (s.dev.plot p).mat = ⟨11, 11, klen, nlen, stride, false⟩ ∧ klen ≤ 128 ∧ nlen ≤
          64 ∧ (stride = 0 ∨ 128 ≤ stride * 16) ∧ (s.dev.plot p).live = some x ∧ x.fmt = 11 ∧ x.intKind = true ∧
          (s.dev.plot p).units = [] ∧ (s.dev.plot p).rg fPLOT_ARR_INJECT_ARM = 0 ∧ base < 256 ∧ off * 16 + 128 ≤ 2 ^
          20 ∧ Issues s.dev p (0x11 * 2 ^ 58 + 1 * 2 ^ 49 + base * 2 ^ 41 + off * 2 ^ 11) :=
  ⟨live (fun d => { d with scr := [(0, 7)] }.setPlot 0
      { Plot.reset.rs fPLOT_SEQ_STATUS_STATE 2 with pm := [(0, 0x11 * 2 ^ 58 + 1 * 2 ^ 49 + 255 * 2 ^ 41 + 5 * 2 ^ 11)], mat := ⟨11, 11, 128, 64, 8, false⟩, live := some tile0 }),
      0, 255, 5, 128, 64, 8, tile0, by
      delta Live Issues Sound
      decide +kernel⟩

/-- What each clause of `ChecksClose` supposes is met. -/
theorem witness_ChecksClose :
    (∃ (s : State) (p : Nat) (c : _) (l : _),
      Live s ∧ (s.dev.plot p).rowChecks = c :: l ∧ c.pass = true ∧ c.nonfinite = false) ∧
    (∃ (s : State) (p : Nat) (c : _) (l : _),
      Live s ∧ (s.dev.plot p).rowChecks = c :: l ∧ c.instr < 8192 ∧ (s.dev.plot p).rg fPLOT_SEQ_STATUS_STATE = 2) ∧
    (∃ (s : State) (p : Nat) (c : _) (l : _),
      Live s ∧ (s.dev.plot p).vecChecks = c :: l ∧ (s.dev.plot p).rg fPLOT_SEQ_STATUS_STATE = 2) :=
  ⟨⟨plot0 2 (fun pl => { pl with rowChecks := [⟨1, true, false, 5, 5, 0, false, 11, 11, 1, 3, 40, 7⟩] }), 0, ⟨1,
      true, false, 5, 5, 0, false, 11, 11, 1, 3, 40, 7⟩, [], by
      delta Live
      decide +kernel⟩,
    ⟨plot0 2 (fun pl => { pl with rowChecks := [⟨1, false, false, 5, 6, 0, false, 11, 11, 1, 3, 40, 8191⟩] }), 0, ⟨1,
      false, false, 5, 6, 0, false, 11, 11, 1, 3, 40, 8191⟩, [], by
      delta Live
      decide +kernel⟩,
    ⟨plot0 2 (fun pl => { pl with vecChecks := [⟨1, 9, 0, 0, 0, false⟩] }), 0, ⟨1, 9, 0, 0, 0, false⟩, [], by
      delta Live
      decide +kernel⟩⟩

/-- What each clause of `IndexInstructions` supposes is met. -/
theorem witness_IndexInstructions :
    (∃ (s : State) (p : Nat) (r : Nat), Live s ∧ r < 16 ∧ Issues s.dev p 0) ∧
    (∃ (s : State) (p : Nat) (r : Nat) (v : _),
      Live s ∧ r < 16 ∧ v < 2 ^ 32 ∧ Issues s.dev p (0x04 * 2 ^ 58 + r * 2 ^ 54 + v * 2 ^ 22)) ∧
    (∃ (s : State) (p : Nat) (r : Nat) (k : Int),
      Live s ∧ r < 16 ∧ (-(2 ^ 23) ≤ k) ∧ k < 2 ^ 23 ∧ Issues s.dev p (0x05 * 2 ^ 58 + r * 2 ^ 54 + (k % 2 ^
          24).toNat * 2 ^ 30)) ∧
    (∃ (s : State) (p : Nat) (r : Nat) (n : _),
      Live s ∧ r < 16 ∧ n < 4096 ∧ Sound (s.dev.plot p) ∧ Issues s.dev p (0x06 * 2 ^ 58 + r * 2 ^ 54 + n * 2 ^ 42)) :=
  ⟨⟨runs 0 id, 0, 0, by
      delta Live Issues
      decide +kernel⟩,
    ⟨runs (0x04 * 2 ^ 58 + 15 * 2 ^ 54 + (2 ^ 32 - 1) * 2 ^ 22) id, 0, 15, 2 ^ 32 - 1, by
      delta Live Issues
      decide +kernel⟩,
    ⟨runs (0x05 * 2 ^ 58 + 15 * 2 ^ 54 + 2 ^ 23 * 2 ^ 30) (fun pl => pl.rs (fPLOT_SEQ_IDX_VALUE.at 15) 5), 0, 15, -(2
      ^ 23), by
      delta Live Issues
      decide +kernel⟩,
    ⟨runs (0x06 * 2 ^ 58 + 3 * 2 ^ 54 + 4095 * 2 ^ 42) id, 0, 3, 4095, by
      delta Live Issues Sound
      decide +kernel⟩⟩

/-- What each clause of `JumpsAndLoops` supposes is met. -/
theorem witness_JumpsAndLoops :
    (∃ (s : State) (p : Nat) (a : _),
      Live s ∧ a < 8192 ∧ (s.dev.plot p).loops = [] ∧ Issues s.dev p (0x02 * 2 ^ 58 + a * 2 ^ 45)) ∧
    (∃ (s : State) (p : Nat) (last : _) (n : _),
      Live s ∧ (s.dev.plot p).pc < last ∧ last < 8192 ∧ 0 < n ∧ n < 2 ^ 24 ∧ (s.dev.plot p).loops = [] ∧ Issues s.dev
          p (0x03 * 2 ^ 58 + last * 2 ^ 45 + n * 2 ^ 21)) ∧
    (∃ (s : State) (p : Nat) (first : _) (n : _),
      Live s ∧ first < 8192 ∧ (s.dev.plot p).loops = [⟨first, (s.dev.plot p).pc, n⟩] ∧ Issues s.dev p 0) :=
  ⟨⟨runs (0x02 * 2 ^ 58 + 8191 * 2 ^ 45) id, 0, 8191, by
      delta Live Issues
      decide +kernel⟩,
    ⟨runs (0x03 * 2 ^ 58 + 8191 * 2 ^ 45 + (2 ^ 24 - 1) * 2 ^ 21) id, 0, 8191, 2 ^ 24 - 1, by
      delta Live Issues
      decide +kernel⟩,
    ⟨runs 0 (fun pl => { pl with loops := [⟨8191, 0, 2⟩] }), 0, 8191, 2, by
      delta Live Issues
      decide +kernel⟩⟩

/-- What each clause of `FencesAndWaits` supposes is met. -/
theorem witness_FencesAndWaits :
    (∃ (s : State) (p : Nat), Live s ∧ s.dev.referee = none ∧ Issues s.dev p (0x08 * 2 ^ 58)) ∧
    (∃ (s : State) (p : Nat), Live s ∧ s.dev.referee = none ∧ Issues s.dev p (0x08 * 2 ^ 58 + 1 * 2 ^ 55)) ∧
    (∃ (s : State) (p : Nat), Live s ∧ s.dev.referee = none ∧ Issues s.dev p (0x08 * 2 ^ 58 + 2 * 2 ^ 55)) ∧
    (∃ (s : State) (p : Nat), Live s ∧ s.dev.referee = none ∧ Issues s.dev p (0x08 * 2 ^ 58 + 3 * 2 ^ 55)) ∧
    (∃ (s : State) (p : Nat), Live s ∧ s.dev.referee = none ∧ Issues s.dev p (0x08 * 2 ^ 58 + 4 * 2 ^ 55)) ∧
    (∃ (s : State) (p : Nat), Live s ∧ s.dev.referee = none ∧ Issues s.dev p (0x01 * 2 ^ 58)) ∧
    (∃ (s : State) (p : Nat) (c : _) (v : _) (i : _),
      Live s ∧ s.dev.referee = none ∧ c < 256 ∧ v < 2 ^ 32 ∧ i < 16 ∧ Issues s.dev p (0x0D * 2 ^ 58 + c * 2 ^ 50 + v
          * 2 ^ 18 + i * 2 ^ 14)) ∧
    (∃ (s : State) (p : Nat) (k : _),
      Live s ∧ s.dev.referee = none ∧ k < 5 ∧ (s.dev.plot p).rg fPLOT_SEQ_STATUS_STATE = 2 ∧ (s.dev.plot p).wait =
          .fence k ∧ (∀ e ∈ (s.dev.plot p).units, e.2.opens = [] ∧ e.2.failed = false) ∧ (s.dev.plot p).dmas = [] ∧
          (s.dev.plot p).issues = [] ∧ fenceIdle (s.dev.plot p) = true) ∧
    (∃ (s : State) (p : Nat) (c : _) (v : _),
      Live s ∧ s.dev.referee = none ∧ (s.dev.plot p).rg fPLOT_SEQ_STATUS_STATE = 2 ∧ (s.dev.plot p).wait = .wait c v
          ∧ (s.dev.syncGet p c + 2 ^ 32 - v) % 2 ^ 32 < 2 ^ 31) ∧
    (∃ (s : State) (p : Nat) (c : _) (v : _),
      Live s ∧ s.dev.referee = none ∧ (s.dev.plot p).rg fPLOT_SEQ_STATUS_STATE = 2 ∧ (s.dev.plot p).wait = .wait c v
          ∧ 2 ^ 31 ≤ (s.dev.syncGet p c + 2 ^ 32 - v) % 2 ^ 32) ∧
    (∃ (s : State) (p : Nat),
      Live s ∧ s.dev.referee = none ∧ s.dev.sed.packs = [] ∧ (s.dev.plot p).rg fPLOT_SEQ_STATUS_STATE = 2 ∧
          (s.dev.plot p).wait = .halt ∧ (s.dev.plot p).units = [] ∧ (s.dev.plot p).dmas = [] ∧ (s.dev.plot p).issues
          = []) :=
  ⟨⟨runs (0x08 * 2 ^ 58) id, 0, by
      delta Live Issues
      decide +kernel⟩,
    ⟨runs (0x08 * 2 ^ 58 + 1 * 2 ^ 55) id, 0, by
      delta Live Issues
      decide +kernel⟩,
    ⟨runs (0x08 * 2 ^ 58 + 2 * 2 ^ 55) id, 0, by
      delta Live Issues
      decide +kernel⟩,
    ⟨runs (0x08 * 2 ^ 58 + 3 * 2 ^ 55) id, 0, by
      delta Live Issues
      decide +kernel⟩,
    ⟨runs (0x08 * 2 ^ 58 + 4 * 2 ^ 55) id, 0, by
      delta Live Issues
      decide +kernel⟩,
    ⟨runs (0x01 * 2 ^ 58) id, 0, by
      delta Live Issues
      decide +kernel⟩,
    ⟨runs (0x0D * 2 ^ 58 + 255 * 2 ^ 50 + 7 * 2 ^ 18 + 15 * 2 ^ 14) id, 0, 255, 7, 15, by
      delta Live Issues
      decide +kernel⟩,
    ⟨plot0 2 (fun pl => { pl with wait := .fence 4, live := some tile0 }), 0, 4, by
      delta Live
      decide +kernel⟩,
    ⟨plot0 2 (fun pl => { pl with wait := .wait 3 0 }), 0, 3, 0, by
      delta Live
      decide +kernel⟩,
    ⟨plot0 2 (fun pl => { pl with wait := .wait 3 1 }), 0, 3, 1, by
      delta Live
      decide +kernel⟩,
    ⟨plot0 2 (fun pl => { pl with wait := .halt }), 0, by
      delta Live
      decide +kernel⟩⟩

/-- What each clause of `SignalAndDma` supposes is met. -/
theorem witness_SignalAndDma :
    (∃ (s : State) (p : Nat) (n : _) (c : _) (a : _),
      Live s ∧ s.dev.referee = none ∧ (s.dev.plot p).suppress = 0 ∧ n < 1024 ∧ c < 256 ∧ a < 2 ^ 16 ∧ (s.dev.phys
          n).isSome = true ∧ Issues s.dev p (0x0C * 2 ^ 58 + n * 2 ^ 31 + c * 2 ^ 23 + a * 2 ^ 7)) ∧
    (∃ (s : State) (p : Nat) (i : _),
      Live s ∧ s.dev.referee = none ∧ (s.dev.plot p).suppress = 0 ∧ i < 256 ∧ Sound (s.dev.plot p) ∧ Issues s.dev p
          (0x20 * 2 ^ 58 + i * 2 ^ 50 + 1 * 2 ^ 42) ∧
      let x := (parseDesc (memRead s.dev.scr (p * 2 ^ 20 + 0x1000 + i * 64) 64)).1.localise s.dev
      (parseDesc (memRead s.dev.scr (p * 2 ^ 20 + 0x1000 + i * 64) 64)).2 = false ∧ descStop s.dev p x false = 0) :=
  ⟨⟨live (fun d => { d with numbering := [(1023, 0)] }.setPlot 0
      { Plot.reset.rs fPLOT_SEQ_STATUS_STATE 2 with pm := [(0, 0x0C * 2 ^ 58 + 1023 * 2 ^ 31 + 255 * 2 ^ 23 + 65535 * 2 ^ 7)] }),
      0, 1023, 255, 65535, by
      delta Live Issues
      decide +kernel⟩,
    ⟨live (fun d => { d with scr := memWrite [] (0x1000 + 255 * 64) (leBytes 64 (256 * 2 ^ 192)) }.setPlot 0
      { Plot.reset.rs fPLOT_SEQ_STATUS_STATE 2 with pm := [(0, 0x20 * 2 ^ 58 + 255 * 2 ^ 50 + 1 * 2 ^ 42)] }), 0,
      255, by
      delta Live Issues Sound
      try dsimp only
      decide +kernel⟩⟩

/-- What each clause of `SequencerCommands` supposes is met. -/
theorem witness_SequencerCommands :
    (∃ (s : State) (p : Nat) (pc : _),
      Live s ∧ isPlot p = true ∧ (s.dev.plot p).rg fPLOT_PWR_STATE = 0 ∧ pc < 8192 ∧ (s.dev.plot p).rg
          fPLOT_SEQ_STATUS_STATE = 1) ∧
    (∃ (s : State) (p : Nat),
      Live s ∧ isPlot p = true ∧ (s.dev.plot p).rg fPLOT_PWR_STATE = 0 ∧ (s.dev.plot p).rg fPLOT_SEQ_STATUS_STATE = 4) ∧
    (∃ (s : State) (p : Nat),
      Live s ∧ isPlot p = true ∧ (s.dev.plot p).rg fPLOT_PWR_STATE = 0 ∧ (s.dev.plot p).rg fPLOT_SEQ_STATUS_STATE = 2) ∧
    (∃ (s : State) (p : Nat),
      Live s ∧ isPlot p = true ∧ (s.dev.plot p).rg fPLOT_PWR_STATE = 0 ∧ ((s.dev.plot p).rg fPLOT_SEQ_STATUS_STATE =
          1 ∨ (s.dev.plot p).rg fPLOT_SEQ_STATUS_STATE = 4)) ∧
    (∃ (s : State) (p : Nat),
      Live s ∧ isPlot p = true ∧ (s.dev.plot p).rg fPLOT_PWR_STATE = 0 ∧ s.dev.sed.packs = [] ∧ (s.dev.plot p).rg
          fPLOT_SEQ_STATUS_STATE = 3 ∧ issuedDrained (s.dev.plot p) = true ∧ (s.dev.plot p).abortPending = true) ∧
    (∃ (s : State) (p : Nat),
      Live s ∧ isPlot p = true ∧ (s.dev.plot p).rg fPLOT_PWR_STATE = 0 ∧ s.dev.sed.packs = [] ∧ (s.dev.plot p).rg
          fPLOT_SEQ_STATUS_STATE = 3 ∧ issuedDrained (s.dev.plot p) = true ∧ (s.dev.plot p).abortPending = false ∧
          (s.dev.plot p).outq = []) :=
  ⟨⟨plot0 1 id, 0, 8191, by
      delta Live
      decide +kernel⟩,
    ⟨plot0 4 (fun pl =>
      { pl.rs fPLOT_SEQ_REPLAY_CKPT_PC 9 with units := [(3, ⟨[], true, true, true, true⟩)], live := some tile0 }), 0,
      by
      delta Live
      decide +kernel⟩,
    ⟨plot0 2 id, 0, by
      delta Live
      decide +kernel⟩,
    ⟨plot0 1 (fun pl => { pl with units := [(3, ⟨[], true, true, true, true⟩)] }), 0, by
      delta Live
      decide +kernel⟩,
    ⟨plot0 3 (fun pl => { pl with abortPending := true, outq := [⟨.signal 0 false 1 2 3, 4⟩] }), 0, by
      delta Live
      decide +kernel⟩,
    ⟨plot0 3 id, 0, by
      delta Live
      decide +kernel⟩⟩

/-- What each clause of `PlotRegisterWrites` supposes is met. -/
theorem witness_PlotRegisterWrites :
    (∃ (s : State) (p : Nat) (i : _),
      Live s ∧ isPlot p = true ∧ (s.dev.plot p).rg fPLOT_PWR_STATE = 0 ∧ (s.dev.plot p).rg fPLOT_SEQ_STATUS_STATE = 1
          ∧ (s.dev.plot p).rg fPLOT_MEM_FLIP_ARM = 0 ∧ i < 16) ∧
    (∃ (s : State) (p : Nat),
      Live s ∧ isPlot p = true ∧ (s.dev.plot p).rg fPLOT_PWR_STATE = 0 ∧ (s.dev.plot p).rg fPLOT_SEQ_STATUS_STATE = 1
          ∧ (s.dev.plot p).rg fPLOT_MEM_FLIP_ARM = 0) ∧
    (∃ (s : State) (p : Nat) (c : _),
      Live s ∧ isPlot p = true ∧ (s.dev.plot p).rg fPLOT_PWR_STATE = 0 ∧ (s.dev.plot p).rg fPLOT_SEQ_STATUS_STATE = 1
          ∧ (s.dev.plot p).rg fPLOT_MEM_FLIP_ARM = 0 ∧ c < 256) ∧
    (∃ (s : State) (p : Nat) (e : _),
      Live s ∧ isPlot p = true ∧ (s.dev.plot p).rg fPLOT_PWR_STATE = 0 ∧ (s.dev.plot p).rg fPLOT_SEQ_STATUS_STATE = 1
          ∧ (s.dev.plot p).rg fPLOT_MEM_FLIP_ARM = 0 ∧ e < 2) ∧
    (∃ (s : State) (p : Nat) (e : _),
      Live s ∧ isPlot p = true ∧ (s.dev.plot p).rg fPLOT_PWR_STATE = 0 ∧ (s.dev.plot p).rg fPLOT_SEQ_STATUS_STATE = 1
          ∧ (s.dev.plot p).rg fPLOT_MEM_FLIP_ARM = 0 ∧ 2 ≤ e ∧ e < 16) ∧
    (∃ (s : State) (p : Nat) (col : _) (bit : _),
      Live s ∧ isPlot p = true ∧ (s.dev.plot p).rg fPLOT_PWR_STATE = 0 ∧ (s.dev.plot p).rg fPLOT_SEQ_STATUS_STATE = 1
          ∧ (s.dev.plot p).rg fPLOT_MEM_FLIP_ARM = 0 ∧ col < 128 ∧ bit < 32) ∧
    (∃ (s : State) (p : Nat) (row : _),
      Live s ∧ isPlot p = true ∧ (s.dev.plot p).rg fPLOT_PWR_STATE = 0 ∧ (s.dev.plot p).rg fPLOT_SEQ_STATUS_STATE = 1
          ∧ (s.dev.plot p).rg fPLOT_MEM_FLIP_ARM = 0 ∧ row < 130 ∧ (s.dev.plot p).rowChecks = [] ∧ (s.dev.plot
          p).loading = false ∧ (s.dev.plot p).waitLoad = none) ∧
    (∃ (s : State) (p : Nat) (row : _),
      Live s ∧ isPlot p = true ∧ (s.dev.plot p).rg fPLOT_PWR_STATE = 0 ∧ (s.dev.plot p).rg fPLOT_SEQ_STATUS_STATE = 1
          ∧ (s.dev.plot p).rg fPLOT_MEM_FLIP_ARM = 0 ∧ row < 130 ∧ ((s.dev.plot p).rowChecks ≠ [] ∨ (s.dev.plot
          p).loading = true)) ∧
    (∃ (s : State) (p : Nat) (q : _),
      Live s ∧ isPlot p = true ∧ (s.dev.plot p).rg fPLOT_PWR_STATE = 0 ∧ (s.dev.plot p).rg fPLOT_SEQ_STATUS_STATE = 1
          ∧ (s.dev.plot p).rg fPLOT_MEM_FLIP_ARM = 0 ∧ q < 4 ∧ plotQuiet (s.dev.plot p) = true) ∧
    (∃ (s : State) (p : Nat),
      Live s ∧ isPlot p = true ∧ (s.dev.plot p).rg fPLOT_PWR_STATE = 0 ∧ (s.dev.plot p).rg fPLOT_SEQ_STATUS_STATE = 1
          ∧ (s.dev.plot p).rg fPLOT_MEM_FLIP_ARM = 0 ∧ (s.dev.plot p).rg fPLOT_PWR_REQ = 3) :=
  ⟨⟨plot0 1 id, 0, 15, by
      delta Live
      decide +kernel⟩,
    ⟨plot0 1 id, 0, by
      delta Live
      decide +kernel⟩,
    ⟨plot0 1 id, 0, 255, by
      delta Live
      decide +kernel⟩,
    ⟨plot0 1 id, 0, 1, by
      delta Live
      decide +kernel⟩,
    ⟨plot0 1 id, 0, 2, by
      delta Live
      decide +kernel⟩,
    ⟨plot0 1 id, 0, 127, 31, by
      delta Live
      decide +kernel⟩,
    ⟨plot0 1 (fun pl => { pl with live := some tile0 }), 0, 129, by
      delta Live
      decide +kernel⟩,
    ⟨plot0 1 (fun pl => { pl with live := some tile0, loading := true }), 0, 129, by
      delta Live
      decide +kernel⟩,
    ⟨plot0 1 id, 0, 3, by
      delta Live
      decide +kernel⟩,
    ⟨live (fun d => { d with scr := [(7, 1)], bed := [(9, 2)] }.setPlot 0
      { (Plot.reset.rs fPLOT_SEQ_STATUS_STATE 1).rs fPLOT_PWR_REQ 3 with pm := [(0, 5)] }), 0, by
      delta Live
      decide +kernel⟩⟩

/-- What each clause of `Sowing` supposes is met. -/
theorem witness_Sowing :
    (∃ (s : State) (p : Nat) (gen : Nat) (base : Nat) (count : Nat),
      Live s ∧ isPlot p = true ∧ gen < 2 ^ fPLOT_SOW_STATUS_GEN.w ∧ base + count ≤ 8192 ∧ ((s.dev.plot p).rg
          fPLOT_SEQ_STATUS_STATE ≤ 1)) ∧
    (∃ (s : State) (p : Nat) (gen : Nat) (lib : Nat) (base : Nat) (crc : Nat) (w : _),
      Live s ∧ isPlot p = true ∧ gen < 2 ^ fPLOT_SOW_STATUS_GEN.w ∧ w < 2 ^ 64 ∧ base < 8192 ∧ (s.dev.plot p).sow =
          some ⟨gen, lib, base, 1, crc, 0, [], 0⟩ ∧ (s.dev.plot p).rg fPLOT_MEM_FLIP_ARM = 0) ∧
    (∃ (s : State) (p : Nat) (gen : Nat) (lib : Nat) (base : Nat) (count : Nat) (ws : _),
      Live s ∧ isPlot p = true ∧ gen < 2 ^ fPLOT_SOW_STATUS_GEN.w ∧ ws.length = count ∧ 0 < count ∧ count ≤ 32 ∧ lib
          < 2 ^ fPLOT_SOW_LIB_LIB_ID.w ∧ (s.dev.plot p).sow = some ⟨gen, lib, base, count, crc64 0 (ws.flatMap
          (leBytes 8)), 1, ws, 0⟩ ∧ (s.dev.plot p).rg fPLOT_SOW_STATUS_PACKETS = 1) ∧
    (∃ (s : State) (p : Nat) (gen : Nat) (lib : Nat) (base : Nat) (count : Nat) (crc : Nat) (ws : _),
      Live s ∧ isPlot p = true ∧ gen < 2 ^ fPLOT_SOW_STATUS_GEN.w ∧ crc < 2 ^ 64 ∧ crc64 0 (ws.flatMap (leBytes 8)) ≠
          crc ∧ (s.dev.plot p).sow = some ⟨gen, lib, base, count, crc, 1, ws, 0⟩ ∧ (s.dev.plot p).rg
          fPLOT_SEQ_STATUS_STATE = 0) :=
  ⟨⟨plot0 1 id, 0, 15, 8000, 192, by
      delta Live
      decide +kernel⟩,
    ⟨plot0 0 (fun pl => { pl with sow := some ⟨3, 7, 8191, 1, 5, 0, [], 0⟩ }), 0, 3, 7, 8191, 5, 2 ^ 64 - 1, by
      delta Live
      decide +kernel⟩,
    ⟨plot0 0 (fun pl =>
      { pl.rs fPLOT_SOW_STATUS_PACKETS 1 with sow := some ⟨3, 7, 5, 2, crc64 0 ([4, 9].flatMap (leBytes 8)), 1, [4, 9], 0⟩ }),
      0, 3, 7, 5, 2, [4, 9], by
      delta Live
      decide +kernel⟩,
    ⟨plot0 0 (fun pl => { pl with sow := some ⟨3, 7, 5, 2, 1, 1, [4, 9], 0⟩ }), 0, 3, 7, 5, 2, 1, [4, 9], by
      delta Live
      decide +kernel⟩⟩

/-- What each clause of `TineWorkOfAChannel` supposes is met. -/
theorem witness_TineWorkOfAChannel :
    (∃ (s : State) (p : Nat) (ch : Nat) (m : _) (a : _) (e : _),
      Live s ∧ isPlot p = true ∧ ch < 4 ∧ 0 < m ∧ m < 16 ∧ a < 64 ∧ e < 2 ^ 14 ∧ Issues s.dev p (0x24 * 2 ^ 58 + m *
          2 ^ 54 + a * 2 ^ 48 + e * 2 ^ 34)) ∧
    (∃ (s : State) (p : Nat) (ch : Nat) (i : Issue),
      Live s ∧ isPlot p = true ∧ ch < 4 ∧ Sound (s.dev.plot p) ∧ (s.dev.plot p).chMode ch = 1 ∧ ((s.dev.plot p).chan
          ch).cur = none ∧ ((s.dev.plot p).chan ch).queue = [i.id] ∧ (s.dev.plot p).issues = [i] ∧ i.arg < 64 ∧ (∀ b,
          b < 8 → (s.dev.plot p).rg ((fBED_CH_OWED_OWED.at ch).bit b) ≤ 4)) ∧
    (∃ (s : State) (p : Nat) (ch : Nat), Live s ∧ isPlot p = true ∧ ch < 4 ∧ (s.dev.plot p).chMode ch = 2) ∧
    (∃ (s : State) (p : Nat) (ch : Nat),
      Live s ∧ isPlot p = true ∧ ch < 4 ∧ (s.dev.plot p).chMode ch = 3 ∧ ((s.dev.plot p).chan ch).suspended = true) ∧
    (∃ (s : State) (p : Nat) (ch : Nat),
      Live s ∧ isPlot p = true ∧ ch < 4 ∧ (s.dev.plot p).chMode ch = 3 ∧ ((s.dev.plot p).chan ch).suspended = false ∧
          ((s.dev.plot p).chan ch).hold = [] ∧ ((s.dev.plot p).chan ch).router = [] ∧ ((s.dev.plot p).chan ch).queue
          = []) ∧
    (∃ (s : State) (p : Nat) (ch : Nat) (r : FabReq) (q : Nat) (i : Nat),
      Live s ∧ isPlot p = true ∧ ch < 4 ∧ (s.dev.plot p).chMode ch = 4 ∧ ((s.dev.plot p).chan ch).hold = [r] ∧
          ((s.dev.plot p).chan ch).router = [] ∧ ((s.dev.plot p).chan ch).heldAtPause = 1 ∧ ((s.dev.plot p).chan
          ch).cur = some i ∧ r.master = .plot q ∧ r.op = .read 32 ∧ r.addr % 32 = 0 ∧ SMap.get [] (s.dev.plot
          p).bedErr (r.addr % 2 ^ 26 / 32) = []) ∧
    (∃ (s : State) (p : Nat) (ch : Nat) (i : Issue) (c : Nat),
      Live s ∧ isPlot p = true ∧ ch < 4 ∧ (s.dev.plot p).issues = [i] ∧ i.released = true ∧ i.stop = 0 ∧ i.ctr = some
          c ∧ (∀ k, k < 4 → bitOf i.chmask k = true → ((s.dev.plot p).chan k).cur = some i.id ∧
      ((s.dev.plot p).chan k).queue = [] ∧ (s.dev.plot p).chMode k = 2) ∧ (∀ k, k < 16 → bitOf i.chmask (k / 4) =
          true → ((s.dev.plot p).tine k).ended = true ∧
      ((s.dev.plot p).tine k).checks = [] ∧ ((s.dev.plot p).tine k).wbuf = [])) :=
  ⟨⟨runs (0x24 * 2 ^ 58 + 15 * 2 ^ 54 + 63 * 2 ^ 48 + 16383 * 2 ^ 34) id, 0, 3, 15, 63, 16383, by
      delta Live Issues
      decide +kernel⟩,
    ⟨live (fun d => { d with scr := [(0x5000 + 63 * 128, 9)] }.setPlot 0
      { ((Plot.reset.setMode 3 1).rs ((fBED_CH_OWED_OWED.at 3).bit 7) 4).setChan 3 { Channel.reset with queue := [6] } with issues := [⟨6, 0, 8, 63, 100, false, none, true, [], 0, false⟩] }),
      0, 3, ⟨6, 0, 8, 63, 100, false, none, true, [], 0, false⟩, by
      delta Live Sound
      decide +kernel⟩,
    ⟨plot0 2 (fun pl => (pl.setMode 3 2).setChan 3
      { Channel.reset with hold := [⟨.plot 4, 0, .read 32, 64, none, false, 0, []⟩] }), 0, 3, by
      delta Live
      decide +kernel⟩,
    ⟨plot0 2 (fun pl => (pl.setMode 3 3).setChan 3 { Channel.reset with suspended := true }), 0, 3, by
      delta Live
      decide +kernel⟩,
    ⟨plot0 2 (fun pl => pl.setMode 3 3), 0, 3, by
      delta Live
      decide +kernel⟩,
    ⟨live (fun d => { d with bed := [(64, 7)] }.setPlot 0 ((Plot.reset.setMode 3 4).setChan 3
      { Channel.reset with hold := [⟨.plot 4, 0, .read 32, 64, none, false, 0, []⟩], heldAtPause := 1, cur := some 6 })),
      0, 3, ⟨.plot 4, 0, .read 32, 64, none, false, 0, []⟩, 4, 6, by
      delta Live
      decide +kernel⟩,
    ⟨plot0 2 (fun pl =>
      { (((((pl.setMode 3 2).setChan 3 { Channel.reset with cur := some 6 }).setTine 12 { Tine.reset with ended := true }).setTine 13 { Tine.reset with ended := true }).setTine 14 { Tine.reset with ended := true }).setTine 15 { Tine.reset with ended := true } with issues := [⟨6, 0, 8, 63, 100, true, some 255, true, [], 0, true⟩] }),
      0, 3, ⟨6, 0, 8, 63, 100, true, some 255, true, [], 0, true⟩, 255, by
      delta Live
      decide +kernel⟩⟩

/-- What each clause of `BedUpkeep` supposes is met. -/
theorem witness_BedUpkeep :
    (∃ (s : State) (p : Nat) (ch : Nat) (b : Nat) (i : Issue) (k : Nat) (a : Nat) (v : Nat),
      Live s ∧ isPlot p = true ∧ ch < 4 ∧ b < 8 ∧ (s.dev.plot p).issues = [i] ∧ i.released = true ∧ i.stop = 0 ∧
          i.applied = false ∧ (∀ c, c < 4 → bitOf i.chmask c = true → ((s.dev.plot p).chan c).cur = some i.id) ∧ (∀
          j, j < 16 → bitOf i.chmask (j / 4) = true → ((s.dev.plot p).tine j).ended = true ∧
      ((s.dev.plot p).tine j).checks = [] ∧ ((s.dev.plot p).tine j).deps = [] ∧ ((s.dev.plot p).tine j).bad = false ∧
      ((s.dev.plot p).tine j).wbuf = if j = k then [⟨a, 4, v, none⟩] else []) ∧ k < 16 ∧ bitOf i.chmask (k / 4) =
          true ∧ a % 4 = 0 ∧ a < 2 ^ 26 ∧ SMap.get [] (s.dev.plot p).bedErr (a / 32) = []) ∧
    (∃ (s : State) (p : Nat) (ch : Nat) (b : Nat),
      Live s ∧ isPlot p = true ∧ ch < 4 ∧ b < 8 ∧ (s.dev.plot p).rg ((fBED_CH_OWED_OWED.at ch).bit b) < 4) ∧
    (∃ (s : State) (p : Nat) (ch : Nat) (b : Nat),
      Live s ∧ isPlot p = true ∧ ch < 4 ∧ b < 8 ∧ 4 ≤ (s.dev.plot p).rg ((fBED_CH_OWED_OWED.at ch).bit b)) ∧
    (∃ (s : State) (p : Nat) (ch : Nat) (b : Nat),
      Live s ∧ isPlot p = true ∧ ch < 4 ∧ b < 8 ∧ (s.dev.plot p).chMode ch = 2 ∧ 0 < (s.dev.plot p).rg
          ((fBED_CH_OWED_OWED.at ch).bit b) ∧ (s.dev.plot p).rg ((fBED_CH_OWED_OWED.at ch).bit b) ≤ 4 ∧ ((s.dev.plot
          p).chan ch).refreshing = 0) ∧
    (∃ (s : State) (p : Nat) (ch : Nat) (b : Nat) (row : _) (n : _),
      Live s ∧ isPlot p = true ∧ ch < 4 ∧ b < 8 ∧ ((s.dev.plot p).chMode ch = 0 ∨ (s.dev.plot p).chMode ch = 4) ∧
          ((s.dev.plot p).chan ch).copying = none ∧ ((s.dev.plot p).chan ch).suspects = [⟨b, row, n⟩] ∧ (s.dev.plot
          p).rg (fBED_CH_CFG_REMAP_THRESHOLD.at ch) ≤ n ∧ (s.dev.plot p).rg ((fBED_CH_SPARES_USED.at ch).bit b) < 8) ∧
    (∃ (s : State) (p : Nat) (ch : Nat) (b : Nat) (row : _) (sp : _) (n : _),
      Live s ∧ isPlot p = true ∧ ch < 4 ∧ b < 8 ∧ ((s.dev.plot p).chan ch).copying = some (b, row, sp) ∧ row < 1024 ∧
          ((s.dev.plot p).chan ch).suspects = [⟨b, row, n⟩] ∧ (s.dev.plot p).bedErr = [] ∧ (s.dev.plot p).rg
          ((fBED_CH_SPARES_USED.at ch).bit b) < 8) :=
  ⟨⟨plot0 2 (fun pl =>
      { (((((pl.setMode 3 2).setChan 3 { Channel.reset with cur := some 6 }).setTine 12 { Tine.reset with ended := true }).setTine 13 { Tine.reset with ended := true }).setTine 14 { Tine.reset with ended := true }).setTine 15 { Tine.reset with ended := true, wbuf := [⟨2 ^ 26 - 4, 4, 0x12345678, none⟩] } with issues := [⟨6, 0, 8, 63, 100, false, none, true, [], 0, false⟩] }),
      0, 3, 7, ⟨6, 0, 8, 63, 100, false, none, true, [], 0, false⟩, 15, 2 ^ 26 - 4, 0x12345678, by
      delta Live
      decide +kernel⟩,
    ⟨plot0 2 (fun pl => pl.rs ((fBED_CH_OWED_OWED.at 3).bit 7) 3), 0, 3, 7, by
      delta Live
      decide +kernel⟩,
    ⟨plot0 2 (fun pl => pl.rs ((fBED_CH_OWED_OWED.at 3).bit 7) 4), 0, 3, 7, by
      delta Live
      decide +kernel⟩,
    ⟨plot0 2 (fun pl => (pl.setMode 3 2).rs ((fBED_CH_OWED_OWED.at 3).bit 7) 4), 0, 3, 7, by
      delta Live
      decide +kernel⟩,
    ⟨plot0 2 (fun pl => (pl.setMode 3 4).setChan 3 { Channel.reset with suspects := [⟨7, 1023, 4⟩] }), 0, 3, 7, 1023,
      4, by
      delta Live
      decide +kernel⟩,
    ⟨plot0 2 (fun pl => pl.setChan 3
      { Channel.reset with suspects := [⟨7, 1023, 4⟩], copying := some (7, 1023, 0) }), 0, 3, 7, 1023, 0, 4, by
      delta Live
      decide +kernel⟩⟩

/-- What each clause of `BedRegisterWrites` supposes is met. -/
theorem witness_BedRegisterWrites :
    (∃ (s : State) (p : Nat) (ch : Nat) (thr : _) (lim : _),
      Live s ∧ isPlot p = true ∧ ch < 4 ∧ (s.dev.plot p).rg fPLOT_PWR_STATE = 0 ∧ 0 < thr ∧ thr < 256 ∧ lim ≤ 80) ∧
    (∃ (s : State) (p : Nat) (ch : Nat) (thr : _) (lim : _),
      Live s ∧ isPlot p = true ∧ ch < 4 ∧ (s.dev.plot p).rg fPLOT_PWR_STATE = 0 ∧ lim < 128 ∧ thr < 256 ∧ (thr = 0 ∨
          80 < lim)) ∧
    (∃ (s : State) (p : Nat) (ch : Nat) (arm : _) (sa : _) (ma : _) (sb : _) (mb : _),
      Live s ∧ isPlot p = true ∧ ch < 4 ∧ (s.dev.plot p).rg fPLOT_PWR_STATE = 0 ∧ arm < 2 ∧ sa < 64 ∧ ma < 256 ∧ sb <
          64 ∧ mb < 256) ∧
    (∃ (s : State) (p : Nat) (ch : Nat) (v : _) (i : _) (m : _),
      Live s ∧ isPlot p = true ∧ ch < 4 ∧ (s.dev.plot p).rg fPLOT_PWR_STATE = 0 ∧ v < 2 ^ 32 ∧ (s.dev.plot p).rg
          fBED_TINE_PM_ADDR_INDEX = i ∧ (s.dev.plot p).rg fBED_TINE_PM_ADDR_CHMASK = m ∧ (∀ k, k < 16 → (s.dev.plot
          p).rg (fBED_TINE_STATUS_STATE.bit k) = 0) ∧ (s.dev.plot p).rg fPLOT_MEM_FLIP_ARM = 0) :=
  ⟨⟨plot0 1 id, 0, 3, 255, 80, by
      delta Live
      decide +kernel⟩,
    ⟨plot0 1 id, 0, 3, 0, 81, by
      delta Live
      decide +kernel⟩,
    ⟨plot0 1 id, 0, 3, 1, 63, 255, 62, 255, by
      delta Live
      decide +kernel⟩,
    ⟨plot0 1 (fun pl => (pl.rs fBED_TINE_PM_ADDR_INDEX 16383).rs fBED_TINE_PM_ADDR_CHMASK 5), 0, 3, 2 ^ 32 - 1,
      16383, 5, by
      delta Live
      decide +kernel⟩⟩

/-- What each clause of `TineRegistersAndLoops` supposes is met. -/
theorem witness_TineRegistersAndLoops :
    (∃ (s : State) (p : Nat) (k : Nat) (r : Nat), Live s ∧ r < 8 ∧ TineIssues s.dev p k 0) ∧
    (∃ (s : State) (p : Nat) (k : Nat) (r : Nat) (v : _),
      Live s ∧ r < 8 ∧ v < 2 ^ 24 ∧ ((s.dev.plot p).tine k).regs.length = 8 ∧ TineIssues s.dev p k (0x01 * 2 ^ 27 + r
          * 2 ^ 24 + v)) ∧
    (∃ (s : State) (p : Nat) (k : Nat) (r : Nat) (z : Int),
      Live s ∧ r < 8 ∧ (-(2 ^ 23) ≤ z) ∧ z < 2 ^ 23 ∧ ((s.dev.plot p).tine k).regs.length = 8 ∧ TineIssues s.dev p k
          (0x02 * 2 ^ 27 + r * 2 ^ 24 + (z % 2 ^ 24).toNat)) ∧
    (∃ (s : State) (p : Nat) (k : Nat) (r : Nat) (j : _) (h : _),
      Live s ∧ r < 8 ∧ j < 16 ∧ h < 2 ∧ TineIssues s.dev p k (0x03 * 2 ^ 27 + r * 2 ^ 24 + j * 2 ^ 20 + h * 2 ^ 19)) ∧
    (∃ (s : State) (p : Nat) (k : Nat) (r : Nat) (last : _) (n : _),
      Live s ∧ r < 8 ∧ ((s.dev.plot p).tine k).pc < last ∧ last < 2 ^ 14 ∧ 0 < n ∧ n < 2 ^ 13 ∧ ((s.dev.plot p).tine
          k).loops = [] ∧ TineIssues s.dev p k (0x04 * 2 ^ 27 + last * 2 ^ 13 + n)) ∧
    (∃ (s : State) (p : Nat) (k : Nat) (r : Nat), Live s ∧ r < 8 ∧ TineIssues s.dev p k (0x07 * 2 ^ 27)) ∧
    (∃ (s : State) (p : Nat) (k : Nat) (r : Nat), Live s ∧ r < 8 ∧ TineIssues s.dev p k (0x0D * 2 ^ 27)) :=
  ⟨⟨tine13 0 id, 0, 13, 0, by
      delta Live TineIssues
      decide +kernel⟩,
    ⟨tine13 (0x01 * 2 ^ 27 + 7 * 2 ^ 24 + (2 ^ 24 - 1)) id, 0, 13, 7, 2 ^ 24 - 1, by
      delta Live TineIssues
      decide +kernel⟩,
    ⟨tine13 (0x02 * 2 ^ 27 + 7 * 2 ^ 24 + 2 ^ 23) id, 0, 13, 7, -(2 ^ 23), by
      delta Live TineIssues
      decide +kernel⟩,
    ⟨tine13 (0x03 * 2 ^ 27 + 7 * 2 ^ 24 + 15 * 2 ^ 20 + 1 * 2 ^ 19) id, 0, 13, 7, 15, 1, by
      delta Live TineIssues
      decide +kernel⟩,
    ⟨tine13 (0x04 * 2 ^ 27 + 16383 * 2 ^ 13 + 8191) id, 0, 13, 0, 16383, 8191, by
      delta Live TineIssues
      decide +kernel⟩,
    ⟨tine13 (0x07 * 2 ^ 27) id, 0, 13, 0, by
      delta Live TineIssues
      decide +kernel⟩,
    ⟨tine13 (0x0D * 2 ^ 27) (fun pl => pl.rs (fBED_TINE_TALLY_ODD_CRC.at 13) 9), 0, 13, 0, by
      delta Live TineIssues
      decide +kernel⟩⟩

/-- What each clause of `TineProducts` supposes is met. -/
theorem witness_TineProducts :
    (∃ (s : State) (p : Nat) (k : Nat) (r : Nat) (rows : _) (kb : _),
      Live s ∧ r < 8 ∧ Sound (s.dev.plot p) ∧
      let pl := s.dev.plot p
      let x := pl.tine k
      let a := x.reg r
      rows ≤ 8 ∧ kb ≤ 64 ∧ (rows = 0 ∨ kb = 0 ∨ inData a (rows * (kb * 32 + 16)) = true) ∧ TineIssues s.dev p k (0x05
          * 2 ^ 27 + r * 2 ^ 24 + rows * 2 ^ 20 + kb * 2 ^ 13)) ∧
    (∃ (s : State) (p : Nat) (k : Nat) (r : Nat) (ch : _) (rows : _) (kb : _),
      Live s ∧ r < 8 ∧ Sound (s.dev.plot p) ∧
      let pl := s.dev.plot p
      let x := pl.tine k
      let a := x.reg r
      isPlot p = true ∧ ch < 4 ∧ k = 4 * ch ∧ 0 < rows ∧ rows ≤ 8 ∧ 0 < kb ∧ kb ≤ 64 ∧ inData a (rows * (kb * 32 +
          16)) = true ∧ (∀ j, j < 4 → (pl.tine (k + j)).wait = .act ∧ pl.rg (fBED_TINE_STATUS_STATE.bit (k + j)) = 1)
          ∧ tineFetch pl k x.pc = (0x05 * 2 ^ 27 + r * 2 ^ 24 + rows * 2 ^ 20 + kb * 2 ^ 13, 0)) ∧
    (∃ (s : State) (p : Nat) (k : Nat) (r : Nat) (h : _) (c : _) (koff : _),
      Live s ∧ r < 8 ∧ Sound (s.dev.plot p) ∧
      let pl := s.dev.plot p
      let x := pl.tine k
      let a := x.reg r
      h < 8 ∧ c < 8 ∧ koff < 64 ∧ a + 1 ≤ 1024 ∧ x.reg h ≤ 1023 ∧ x.reg c ≤ 1023 ∧ pl.bedErr = [] ∧ (pl.chan (k /
          4)).actRows ≤ 8 ∧ TineIssues s.dev p k (0x06 * 2 ^ 27 + r * 2 ^ 24 + 11 * 2 ^ 20 + 1 * 2 ^ 13 + h * 2 ^ 10
          + c * 2 ^ 7 + koff)) ∧
    (∃ (s : State) (p : Nat) (k : Nat) (r : Nat) (n : _),
      Live s ∧ r < 8 ∧ Sound (s.dev.plot p) ∧
      let pl := s.dev.plot p
      let x := pl.tine k
      let a := x.reg r
      (pl.chan (k / 4)).actRows = n ∧ inData (a + k * n * 1024) (n * 1024) = true ∧ pl.units = [] ∧ (tineIssue pl
          k).any (·.outbound) = false ∧ TineIssues s.dev p k (0x08 * 2 ^ 27 + r * 2 ^ 24)) ∧
    (∃ (s : State) (p : Nat) (k : Nat) (r : Nat) (b : _) (cols : _) (dst : _),
      Live s ∧ r < 8 ∧ Sound (s.dev.plot p) ∧
      let pl := s.dev.plot p
      let x := pl.tine k
      let a := x.reg r
      b < 2 ∧ 0 < cols ∧ cols < 256 ∧ dst < 2 ^ 11 ∧ a + (cols - 1) / 64 ≤ 1023 ∧ pl.bedErr = [] ∧ TineIssues s.dev p
          k (0x0A * 2 ^ 27 + r * 2 ^ 24 + 3 * 2 ^ 21 + b * 2 ^ 20 + cols * 2 ^ 12 + dst)) :=
  ⟨⟨tine13 (0x05 * 2 ^ 27 + 1 * 2 ^ 24 + 8 * 2 ^ 20 + 64 * 2 ^ 13) (fun pl => pl.setTine 13 (Tine.reset.setReg 1
      0x8000)), 0, 13, 1, 8, 64, by
      delta Live TineIssues Sound
      try dsimp only
      decide +kernel⟩,
    ⟨live (fun d => { d with scr := [(0x8000, 7), (0x8020, 3)] }.setPlot 0 (((((((((Plot.reset.setTine 12
      { Tine.reset.setReg 1 0x8000 with wait := .act }).setTine 13 { Tine.reset with wait := .act }).setTine 14
      { Tine.reset with wait := .act }).setTine 15 { Tine.reset with wait := .act }).rs (fBED_TINE_STATUS_STATE.bit
      12) 1).rs (fBED_TINE_STATUS_STATE.bit 13) 1).rs (fBED_TINE_STATUS_STATE.bit 14) 1).rs
      (fBED_TINE_STATUS_STATE.bit 15) 1).setMode 3 2 |>.setChan 3
      { Channel.reset with pm := [(0, 0x05 * 2 ^ 27 + 1 * 2 ^ 24 + 2 * 2 ^ 20 + 1 * 2 ^ 13)] })), 0, 12, 1, 3, 2, 1,
      by
      delta Live Sound
      try dsimp only
      decide +kernel⟩,
    ⟨live (fun d => { d with bed := [(bedLoc 3 2 1023 0, 3), (bedLoc 3 3 1023 5, 200)] }.setPlot 0 (((Plot.reset.rs
      (fBED_TINE_STATUS_STATE.bit 13) 1).setMode 3 2).setTine 13 (Tine.reset.setReg 1 1023) |>.setChan 3
      { Channel.reset with pm := [(0, 0x06 * 2 ^ 27 + 1 * 2 ^ 24 + 11 * 2 ^ 20 + 1 * 2 ^ 13 + 2 * 2 ^ 10 + 3 * 2 ^ 7 + 63)], actRows := 2, act := [(63 * 32, 255), (2048 + 63 * 32, 4)] })),
      0, 13, 1, 2, 3, 63, by
      delta Live TineIssues Sound
      try dsimp only
      decide +kernel⟩,
    ⟨tine13 (0x08 * 2 ^ 27 + 1 * 2 ^ 24) (fun pl => (pl.setTine 13
      { Tine.reset.setReg 1 0x8000 with acc := [(0, 5), (257, 9)] }).setChan 3 { pl.chan 3 with actRows := 2 }), 0,
      13, 1, 2, by
      delta Live TineIssues Sound
      try dsimp only
      decide +kernel⟩,
    ⟨live (fun d => { d with bed := [(bedLoc 3 3 1020 0, 3), (bedLoc 3 3 1020 32, 200)] }.setPlot 0 (((Plot.reset.rs
      (fBED_TINE_STATUS_STATE.bit 13) 1).setMode 3 2).setTine 13 (Tine.reset.setReg 1 1020) |>.setChan 3
      { Channel.reset with pm := [(0, 0x0A * 2 ^ 27 + 1 * 2 ^ 24 + 3 * 2 ^ 21 + 1 * 2 ^ 20 + 255 * 2 ^ 12 + 2047)] })),
      0, 13, 1, 1, 255, 2047, by
      delta Live TineIssues Sound
      try dsimp only
      decide +kernel⟩⟩

/-- What each clause of `TineBuffersAndChecks` supposes is met. -/
theorem witness_TineBuffersAndChecks :
    (∃ (s : State) (p : Nat) (k : Nat) (r : Nat) (q : _) (first : _) (col : _) (b : _) (n : _),
      Live s ∧ r < 8 ∧
      let pl := s.dev.plot p
      let x := pl.tine k
      let a := x.reg r
      q < 8 ∧ first < 2 ^ 11 ∧ col < 64 ∧ b < 2 ∧ x.reg q = n ∧ x.wbuf = [] ∧ a ≤ 1023 ∧ first + n ≤ 2048 ∧ a * 2048
          + col * 32 + n * 4 ≤ 2 ^ 21 ∧ n * 4 ≤ 8192 ∧ (tineIssue pl k).any (·.outbound) = true ∧ TineIssues s.dev p
          k (0x0B * 2 ^ 27 + r * 2 ^ 24 + col * 2 ^ 18 + b * 2 ^ 17 + first * 2 ^ 5 + q * 2 ^ 2)) ∧
    (∃ (s : State) (p : Nat) (k : Nat) (r : Nat) (q : _) (first : _) (col : _) (b : _) (n : _) (ty : _),
      Live s ∧ r < 8 ∧
      let pl := s.dev.plot p
      let x := pl.tine k
      let a := x.reg r
      q < 8 ∧ first < 2 ^ 11 ∧ col < 64 ∧ b < 2 ∧ x.reg q = n ∧ x.wbuf = [] ∧ a ≤ 1023 ∧ first + n ≤ 2048 ∧ a * 2048
          + col * 32 + n * 4 ≤ 2 ^ 21 ∧ n * 4 ≤ 8192 ∧ (tineIssue pl k).any (·.outbound) = true ∧ ty < 2 ∧ TineIssues
          s.dev p k (0x0C * 2 ^ 27 + r * 2 ^ 24 + col * 2 ^ 18 + b * 2 ^ 17 + ty * 2 ^ 16 + first * 2 ^ 5 + q * 2 ^
          2)) ∧
    (∃ (s : State) (p : Nat) (k : Nat) (r : Nat),
      Live s ∧ r < 8 ∧
      let pl := s.dev.plot p
      let x := pl.tine k
      let a := x.reg r
      Sound pl ∧ pl.units = [] ∧ inData a 16 = true ∧ (tineIssue pl k).any (·.outbound) = false ∧ TineIssues s.dev p
          k (0x0D * 2 ^ 27 + 2 ^ 26 + r * 2 ^ 23)) ∧
    (∃ (s : State) (p : Nat) (k : Nat) (r : Nat) (c : _) (rest : _) (i : _),
      Live s ∧ r < 8 ∧
      let pl := s.dev.plot p
      let x := pl.tine k
      isPlot p = true ∧ k < 16 ∧ x.checks = c :: rest ∧ c.code = 0 ∧ c.nonfinite = false ∧ c.page = 0 ∧ tineIssue pl
          k = some i ∧ i.pc < 8192 ∧ pl.rg fPLOT_SEQ_STATUS_STATE = 2 ∧ pl.rg fBED_TINE_STOP_CODE = 0) :=
  ⟨⟨tine13 (0x0B * 2 ^ 27 + 1 * 2 ^ 24 + 63 * 2 ^ 18 + 1 * 2 ^ 17 + 2044 * 2 ^ 5 + 2 * 2 ^ 2) (fun pl =>
      { (pl.setChan 3 { pl.chan 3 with cur := some 6 }).setTine 13 { (Tine.reset.setReg 1 1022).setReg 2 4 with acc := [(2044, 8), (2047, 9)] } with issues := [⟨6, 0, 8, 63, 0, true, none, true, [], 0, false⟩] }),
      0, 13, 1, 2, 2044, 63, 1, 4, by
      delta Live TineIssues
      try dsimp only
      decide +kernel⟩,
    ⟨tine13 (0x0C * 2 ^ 27 + 1 * 2 ^ 24 + 63 * 2 ^ 18 + 1 * 2 ^ 17 + 1 * 2 ^ 16 + 2044 * 2 ^ 5 + 2 * 2 ^ 2) (fun pl
      => { (pl.setChan 3 { pl.chan 3 with cur := some 6 }).setTine 13 { (Tine.reset.setReg 1 1022).setReg 2 4 with acc := [(2044, 8), (2047, 9)] } with issues := [⟨6, 0, 8, 63, 0, true, none, true, [], 0, false⟩] }),
      0, 13, 1, 2, 2044, 63, 1, 4, 1, by
      delta Live TineIssues
      try dsimp only
      decide +kernel⟩,
    ⟨tine13 (0x0D * 2 ^ 27 + 2 ^ 26 + 1 * 2 ^ 23) (fun pl => (pl.setTine 13 (Tine.reset.setReg 1 0xFFFF0)).rs
      (fBED_TINE_TALLY_EVEN_CRC.at 13) 0x123456789), 0, 13, 1, by
      delta Live TineIssues Sound
      try dsimp only
      decide +kernel⟩,
    ⟨plot0 2 (fun pl =>
      { (pl.setChan 3 { Channel.reset with cur := some 6 }).setTine 13 { Tine.reset with checks := [⟨0, 0, 0, false, [4]⟩] } with issues := [⟨6, 8191, 8, 63, 0, true, none, true, [], 0, false⟩] }),
      0, 13, 0, ⟨0, 0, 0, false, [4]⟩, [], ⟨6, 8191, 8, 63, 0, true, none, true, [], 0, false⟩, by
      delta Live
      try dsimp only
      decide +kernel⟩⟩

/-- What each clause of `TineAttention` supposes is met. -/
theorem witness_TineAttention :
    (∃ (s : State) (p : Nat) (k : Nat) (r : Nat) (i : _),
      Live s ∧ r < 8 ∧ Sound (s.dev.plot p) ∧
      let pl := s.dev.plot p
      let x := pl.tine k
      isPlot p = true ∧ k < 16 ∧ x.wait = .partialRec ∧ pl.rg (fBED_TINE_STATUS_STATE.bit k) = 1 ∧ tineIssue pl k =
          some i ∧ pl.rg fPLOT_SEQ_STATUS_STATE = 2 ∧ pl.rg fBED_TINE_STOP_CODE = 0) ∧
    (∃ (s : State) (p : Nat) (k : Nat) (r : Nat) (h : AttList) (e : AttEntry),
      Live s ∧ r < 8 ∧ Sound (s.dev.plot p) ∧
      let pl := s.dev.plot p
      let x := pl.tine k
      let a := x.reg r
      let w := 0x09 * 2 ^ 27 + r * 2 ^ 24 + 1 * 2 ^ 14
      let rd (b n : Nat) : List Byte := memRead s.dev.scr (p * 2 ^ 20 + b) n
      pl.units = [] ∧ parseList (rd a 128) = h ∧ parseEntries false 1 (rd (a + 128) 16) = [e] ∧ tattStop w a h [e] =
          0 ∧ h.op = 0 ∧ 0 < h.rows ∧ e.kind = 1 ∧ leValue (rd e.addr 4) = h.tag ∧ x.attDone = 0 ∧ TineIssues s.dev p
          k w) ∧
    (∃ (s : State) (p : Nat) (k : Nat) (r : Nat) (h : AttList) (e : AttEntry),
      Live s ∧ r < 8 ∧ Sound (s.dev.plot p) ∧
      let pl := s.dev.plot p
      let x := pl.tine k
      let a := x.reg r
      let w := 0x09 * 2 ^ 27 + r * 2 ^ 24 + 1 * 2 ^ 14
      let rd (b n : Nat) : List Byte := memRead s.dev.scr (p * 2 ^ 20 + b) n
      pl.units = [] ∧ parseList (rd a 128) = h ∧ parseEntries false 1 (rd (a + 128) 16) = [e] ∧ tattStop w a h [e] =
          0 ∧ h.op = 0 ∧ 0 < h.rows ∧ e.kind = 1 ∧ leValue (rd e.addr 4) = h.tag ∧ isPlot p = true ∧ k < 16 ∧ x.wait
          = .partialRec ∧ x.attDone = 0 ∧ pl.rg (fBED_TINE_STATUS_STATE.bit k) = 1 ∧ tineFetch pl k x.pc = (w, 0)) ∧
    (∃ (s : State) (p : Nat) (k : Nat) (r : Nat) (h : AttList) (e : AttEntry),
      Live s ∧ r < 8 ∧ Sound (s.dev.plot p) ∧
      let pl := s.dev.plot p
      let x := pl.tine k
      let a := x.reg r
      let w := 0x09 * 2 ^ 27 + r * 2 ^ 24 + 1 * 2 ^ 14
      let rd (b n : Nat) : List Byte := memRead s.dev.scr (p * 2 ^ 20 + b) n
      pl.units = [] ∧ parseList (rd a 128) = h ∧ parseEntries false 1 (rd (a + 128) 16) = [e] ∧ tattStop w a h [e] =
          0 ∧ h.op = 1 ∧ h.rows = 1 ∧ (∀ u ∈ unitsOf a 144, u ∉ unitsOf h.out 4) ∧ pl.bedErr = [] ∧ (tineIssue pl
          k).any (·.outbound) = false ∧ TineIssues s.dev p k w) :=
  ⟨⟨tatt13 0 1 0xA000 (fun pl => ((pl.setTine 13 { Tine.reset.setReg 1 0x8000 with wait := .partialRec }).setChan 3
      { pl.chan 3 with cur := some 6 }).rs fPLOT_SEQ_STATUS_STATE 2), 0, 13, 1, ⟨6, 0, 8, 63, 0, false, none, true,
      [], 0, false⟩, by
      delta Live Sound
      try dsimp only
      decide +kernel⟩,
    ⟨tatt13 0 1 0xA000 id, 0, 13, 1, parseList (attBytes 0 1 0xB000 5 1 0xA000 |>.take 128), parseEntry false
      ((attBytes 0 1 0xB000 5 1 0xA000).drop 128), by
      delta Live TineIssues Sound
      try dsimp only
      decide +kernel⟩,
    ⟨tatt13 0 1 0xA000 (fun pl => pl.setTine 13
      { Tine.reset.setReg 1 0x8000 with wait := .partialRec, att := [AttState.empty] }), 0, 13, 1, parseList
      (attBytes 0 1 0xB000 5 1 0xA000 |>.take 128), parseEntry false ((attBytes 0 1 0xB000 5 1 0xA000).drop 128), by
      delta Live Sound
      try dsimp only
      decide +kernel⟩,
    ⟨tatt13 1 2 (1023 + 1 * 2 ^ 16 + 3 * 2 ^ 24) id, 0, 13, 1, parseList (attBytes 1 1 0xB000 5 2 (1023 + 1 * 2 ^ 16
      + 3 * 2 ^ 24) |>.take 128), parseEntry false ((attBytes 1 1 0xB000 5 2 (1023 + 1 * 2 ^ 16 + 3 * 2 ^ 24)).drop
      128), by
      delta Live TineIssues Sound
      try dsimp only
      decide +kernel⟩⟩

/-- What each clause of `AttentionPipeline` supposes is met. -/
theorem witness_AttentionPipeline :
    (∃ (s : State) (p : Nat) (off : Nat) (q : _),
      Live s ∧ Sound (s.dev.plot p) ∧ off < 2 ^ 16 ∧
      let a := off * 16
      let op (sub n : Nat) : Nat := 0x1C * 2 ^ 58 + sub * 2 ^ 55 + off * 2 ^ 35 + n * 2 ^ 26
      let rd (b n : Nat) : List Byte := memRead s.dev.scr (p * 2 ^ 20 + b) n
      q ≤ 128 ∧ inData a 640 = true ∧ (parseAcfg q (rd a 640)).2 = false ∧ Issues s.dev p (op 0 q)) ∧
    (∃ (s : State) (p : Nat) (off : Nat) (c : _) (n : _),
      Live s ∧ Sound (s.dev.plot p) ∧ off < 2 ^ 16 ∧
      let pl := s.dev.plot p
      let a := off * 16
      let op (sub n : Nat) : Nat := 0x1C * 2 ^ 58 + sub * 2 ^ 55 + off * 2 ^ 35 + n * 2 ^ 26
      pl.att.cfg = some c ∧ c.q = n ∧ 0 < n ∧ n ≤ 128 ∧ inScratch a (256 * n) = true ∧ Issues s.dev p (op 1 n)) ∧
    (∃ (s : State) (p : Nat) (off : Nat) (c : _) (e : _),
      Live s ∧ Sound (s.dev.plot p) ∧ off < 2 ^ 16 ∧
      let pl := s.dev.plot p
      let a := off * 16
      let op (sub n : Nat) : Nat := 0x1C * 2 ^ 58 + sub * 2 ^ 55 + off * 2 ^ 35 + n * 2 ^ 26
      let rd (b n : Nat) : List Byte := memRead s.dev.scr (p * 2 ^ 20 + b) n
      pl.att.cfg = some c ∧ pl.att.fresh = true ∧ pl.att.loaded = true ∧ pl.att.done = 0 ∧ c.fold = 1 ∧ c.tee = 0 ∧
          pl.units = [] ∧ inData a 16 = true ∧ parseEntries true 1 (rd a 16) = [e] ∧ e.kind = 1 ∧ e.reserved = false
          ∧ inData e.addr (64 + c.q * 528) = true ∧ Issues s.dev p (op 2 1 + 2 * 2 ^ 22)) ∧
    (∃ (s : State) (p : Nat) (off : Nat) (c : _) (n : _),
      Live s ∧ Sound (s.dev.plot p) ∧ off < 2 ^ 16 ∧
      let pl := s.dev.plot p
      let a := off * 16
      let op (sub n : Nat) : Nat := 0x1C * 2 ^ 58 + sub * 2 ^ 55 + off * 2 ^ 35 + n * 2 ^ 26
      pl.att.cfg = some c ∧ pl.att.fresh = true ∧ pl.att.loaded = true ∧ c.outfmt = 1 ∧ 0 < n ∧ n ≤ c.q ∧ n < 512 ∧
          inData a (512 * n) = true ∧ pl.units = [] ∧ (∀ i, i < n → (SMap.get AttState.empty pl.att.rows i).o.length
          = 128) ∧ Issues s.dev p (op 3 n)) ∧
    (∃ (s : State) (p : Nat) (off : Nat),
      Live s ∧ Sound (s.dev.plot p) ∧ off < 2 ^ 16 ∧ Issues s.dev p (0x1C * 2 ^ 58 + 4 * 2 ^ 55)) ∧
    (∃ (s : State) (p : Nat) (off : Nat) (c : _) (l : _),
      Live s ∧ Sound (s.dev.plot p) ∧ off < 2 ^ 16 ∧
      let pl := s.dev.plot p
      pl.attChecks = c :: l ∧ c.nonfinite = false ∧ c.code = 0 ∧ c.pc < 8192 ∧ pl.rg fPLOT_SEQ_STATUS_STATE = 2) :=
  ⟨⟨live (fun d => { d with scr := [(0x8004, 7)] }.setPlot 0
      { Plot.reset.rs fPLOT_SEQ_STATUS_STATE 2 with pm := [(0, 0x1C * 2 ^ 58 + 0x800 * 2 ^ 35 + 128 * 2 ^ 26)] }), 0,
      0x800, 128, by
      delta Live Issues Sound
      try dsimp only
      decide +kernel⟩,
    ⟨att0 (1 * 2 ^ 55 + 0x800 * 2 ^ 35 + 1 * 2 ^ 26) (fun pl =>
      { pl with att := { pl.att with cfg := some attCfg1 } }), 0, 0x800, attCfg1, 1, by
      delta Live Issues Sound
      try dsimp only
      decide +kernel⟩,
    ⟨att0 (2 * 2 ^ 55 + 0x800 * 2 ^ 35 + 1 * 2 ^ 26 + 2 * 2 ^ 22) (fun pl =>
      { pl with att := { pl.att with cfg := some attCfg1, fresh := true, loaded := true } }), 0, 0x800, attCfg1,
      parseEntry true (zeros 2 ++ leBytes 1 1 ++ zeros 1 ++ leBytes 4 0xA000 ++ zeros 8), by
      delta Live Issues Sound
      try dsimp only
      decide +kernel⟩,
    ⟨att0 (3 * 2 ^ 55 + 0x800 * 2 ^ 35 + 1 * 2 ^ 26) (fun pl =>
      { pl with att := { pl.att with cfg := some attCfg1, fresh := true, loaded := true } }), 0, 0x800, attCfg1, 1, by
      delta Live Issues Sound
      try dsimp only
      decide +kernel⟩,
    ⟨runs (0x1C * 2 ^ 58 + 4 * 2 ^ 55) id, 0, 0, by
      delta Live Issues Sound
      try dsimp only
      decide +kernel⟩,
    ⟨plot0 2 (fun pl => { pl with attChecks := [⟨1, 8191, 0, 0, 0, false⟩] }), 0, 0, ⟨1, 8191, 0, 0, 0, false⟩, [], by
      delta Live Sound
      try dsimp only
      decide +kernel⟩⟩

/-- What each clause of `JobsOfASlot` supposes is met. -/
theorem witness_JobsOfASlot :
    (∃ (s : State) (j : Job) (i : Nat),
      TakesJob s.dev j i ∧ jobV j 0 1 = 1 ∧ slotSt s.dev i = 0 ∧ j.readErr = false) ∧
    (∃ (s : State) (j : Job) (i : Nat),
      TakesJob s.dev j i ∧ jobV j 0 1 = 1 ∧ slotSt s.dev i = 0 ∧ j.readErr = true) ∧
    (∃ (s : State) (j : Job) (i : Nat), TakesJob s.dev j i ∧ jobV j 0 1 = 1 ∧ slotSt s.dev i ≠ 0) ∧
    (∃ (s : State) (j : Job) (i : Nat),
      TakesJob s.dev j i ∧ jobV j 0 1 = 2 ∧ slotSt s.dev i = 1 ∧ slotGen s.dev i = jobV j 8 4 ∧ (s.dev.slot
          i).lastSeen = false ∧ slotBase s.dev i + (s.dev.slot i).queued + jobV j 12 4 ≤ 2 ^ 20 ∧ j.readErr = false) ∧
    (∃ (s : State) (j : Job) (i : Nat),
      TakesJob s.dev j i ∧ jobV j 0 1 = 2 ∧ slotSt s.dev i = 1 ∧ slotGen s.dev i = jobV j 8 4 ∧ (s.dev.slot
          i).lastSeen = false ∧ 2 ^ 20 < slotBase s.dev i + (s.dev.slot i).queued + jobV j 12 4) ∧
    (∃ (s : State) (j : Job) (i : Nat),
      TakesJob s.dev j i ∧ jobV j 0 1 = 2 ∧ slotSt s.dev i = 1 ∧ slotGen s.dev i = jobV j 8 4 ∧ (s.dev.slot
          i).lastSeen = true) ∧
    (∃ (s : State) (j : Job) (i : Nat),
      TakesJob s.dev j i ∧ jobV j 0 1 = 3 ∧ slotSt s.dev i ≠ 0 ∧ slotGen s.dev i = jobV j 8 4) ∧
    (∃ (s : State) (j : Job) (i : Nat),
      TakesJob s.dev j i ∧ jobV j 0 1 = 4 ∧ slotGen s.dev i = jobV j 8 4 ∧ slotSt s.dev i = 4 ∧ s.dev.rg
          (fSTP_SLOT_PRIOR.at i) < 4) ∧
    (∃ (s : State) (j : Job) (i : Nat),
      TakesJob s.dev j i ∧ jobV j 0 1 = 4 ∧ slotGen s.dev i = jobV j 8 4 ∧ slotSt s.dev i ≠ 4) ∧
    (∃ (s : State) (j : Job) (i : Nat),
      TakesJob s.dev j i ∧ jobV j 0 1 = 2 ∧ slotSt s.dev i ≠ 1 ∧ slotGen s.dev i = jobV j 8 4) ∧
    (∃ (s : State) (j : Job) (i : Nat), TakesJob s.dev j i ∧ jobV j 0 1 = 3 ∧ slotSt s.dev i = 0) ∧
    (∃ (s : State) (j : Job) (i : Nat),
      TakesJob s.dev j i ∧ slotSt s.dev i ≠ 0 ∧ slotGen s.dev i ≠ jobV j 8 4 ∧ jobV j 0 1 = 2) ∧
    (∃ (s : State) (j : Job) (i : Nat),
      TakesJob s.dev j i ∧ slotSt s.dev i ≠ 0 ∧ slotGen s.dev i ≠ jobV j 8 4 ∧ jobV j 0 1 = 3) ∧
    (∃ (s : State) (j : Job) (i : Nat),
      TakesJob s.dev j i ∧ slotSt s.dev i ≠ 0 ∧ slotGen s.dev i ≠ jobV j 8 4 ∧ jobV j 0 1 = 4) ∧
    (∃ (s : State) (i : Nat) (w : List Trans),
      Live s ∧ i < 16 ∧ s.dev.steps.run = none ∧ s.dev.steps.events = [] ∧ s.dev.steps.jobs = [] ∧ slotSt s.dev i = 4
          ∧ s.dev.steps.waiting = .evict i :: w) ∧
    (∃ (s : State) (i : Nat),
      Live s ∧ i < 16 ∧ s.dev.steps.run = none ∧ s.dev.steps.events = [] ∧ s.dev.steps.jobs = [] ∧ slotSt s.dev i = 4
          ∧ s.dev.steps.waiting = [] ∧ (s.dev.slot i).hold.isSome = true) ∧
    (∃ (s : State) (data : Nat), Live s ∧ s.dev.steps.run = none ∧ bitsOf data 0 9 ≤ 256) ∧
    (∃ (s : State) (data : Nat), Live s ∧ s.dev.steps.run = none ∧ 256 < bitsOf data 0 9) ∧
    (∃ (s : State) (data : Nat), Live s ∧ s.dev.steps.run ≠ none ∧ bitsOf data 0 9 ≤ 256) ∧
    (∃ (s : State) (r : StepRun), Live s ∧ s.dev.steps.run = some r ∧ r.again = false) :=
  ⟨⟨jobs id, jobOf 1 15 0 3 false, 15, by
      delta TakesJob
      try dsimp only
      decide +kernel⟩,
    ⟨jobs id, jobOf 1 15 0 3 true, 15, by
      delta TakesJob
      try dsimp only
      decide +kernel⟩,
    ⟨jobs (fun d => setSlotSt d 15 5), jobOf 1 15 0 3 false, 15, by
      delta TakesJob
      try dsimp only
      decide +kernel⟩,
    ⟨jobs (fun d => ((setSlotSt d 15 1).rs (fSTP_SLOT_GEN.at 15) 6).rs (fSTP_SLOT_BASE.at 15) (2 ^ 20 - 3)), jobOf 2
      15 6 3 false, 15, by
      delta TakesJob
      try dsimp only
      decide +kernel⟩,
    ⟨jobs (fun d => ((setSlotSt d 15 1).rs (fSTP_SLOT_GEN.at 15) 6).rs (fSTP_SLOT_BASE.at 15) (2 ^ 20 - 2)), jobOf 2
      15 6 3 false, 15, by
      delta TakesJob
      try dsimp only
      decide +kernel⟩,
    ⟨jobs (fun d => ((setSlotSt d 15 1).rs (fSTP_SLOT_GEN.at 15) 6).setSlot 15 { Slot.reset with lastSeen := true }),
      jobOf 2 15 6 3 false, 15, by
      delta TakesJob
      try dsimp only
      decide +kernel⟩,
    ⟨jobs (fun d => ((setSlotSt d 15 2).rs (fSTP_SLOT_GEN.at 15) 6)), jobOf 3 15 6 0 false, 15, by
      delta TakesJob
      try dsimp only
      decide +kernel⟩,
    ⟨jobs (fun d => ((setSlotSt d 15 4).rs (fSTP_SLOT_GEN.at 15) 6).rs (fSTP_SLOT_PRIOR.at 15) 2), jobOf 4 15 6 0
      false, 15, by
      delta TakesJob
      try dsimp only
      decide +kernel⟩,
    ⟨jobs (fun d => ((setSlotSt d 15 2).rs (fSTP_SLOT_GEN.at 15) 6)), jobOf 4 15 6 0 false, 15, by
      delta TakesJob
      try dsimp only
      decide +kernel⟩,
    ⟨jobs (fun d => ((setSlotSt d 15 2).rs (fSTP_SLOT_GEN.at 15) 6)), jobOf 2 15 6 3 false, 15, by
      delta TakesJob
      try dsimp only
      decide +kernel⟩,
    ⟨jobs id, jobOf 3 15 6 0 false, 15, by
      delta TakesJob
      try dsimp only
      decide +kernel⟩,
    ⟨jobs (fun d => ((setSlotSt d 15 1).rs (fSTP_SLOT_GEN.at 15) 6)), jobOf 2 15 5 3 false, 15, by
      delta TakesJob
      try dsimp only
      decide +kernel⟩,
    ⟨jobs (fun d => ((setSlotSt d 15 2).rs (fSTP_SLOT_GEN.at 15) 6)), jobOf 3 15 5 0 false, 15, by
      delta TakesJob
      try dsimp only
      decide +kernel⟩,
    ⟨jobs (fun d => ((setSlotSt d 15 4).rs (fSTP_SLOT_GEN.at 15) 6)), jobOf 4 15 5 0 false, 15, by
      delta TakesJob
      try dsimp only
      decide +kernel⟩,
    ⟨live (fun d => { setSlotSt d 15 4 with steps := { d.steps with waiting := [.evict 15] } }), 15, [], by
      delta Live
      decide +kernel⟩,
    ⟨live (fun d => (setSlotSt d 15 4).setSlot 15 { Slot.reset with hold := some 7 }), 15, by
      delta Live
      decide +kernel⟩,
    ⟨live id, 256, by
      delta Live
      decide +kernel⟩,
    ⟨live id, 257, by
      delta Live
      decide +kernel⟩,
    ⟨step15 id Slot.reset, 256, by
      delta Live
      decide +kernel⟩,
    ⟨step15 id Slot.reset, ⟨4, [⟨15, true, ⟨1, [255], [0]⟩, 0, 0, false⟩], [], [], false⟩, by
      delta Live
      decide +kernel⟩⟩

/-- What each clause of `OneStep` supposes is met. -/
theorem witness_OneStep :
    (∃ (s : State) (i : Nat) (pm : Placement),
      Live s ∧ i < 16 ∧ (s.dev.rg fAON_DSTATE_STATE = 1 ∨ s.dev.rg fAON_DSTATE_STATE = 2) ∧ s.dev.steps.hold = 0 ∧
          s.dev.steps.placement = some pm ∧ pm.fits = true ∧ s.dev.rg fSHD_FW_STATE = 2 ∧ s.dev.rg fTRU_UPD_STATE ≠ 2
          ∧ s.dev.steps.run = none ∧ s.dev.steps.waiting = [] ∧ s.dev.steps.events = [] ∧ (∀ n p, n < pm.plots →
          s.dev.phys n = some p → (s.dev.plot p).seq ≠ 0) ∧ slotSt s.dev i = 2 ∧ (∀ k, k < 16 → k ≠ i → slotSt s.dev
          k = 0) ∧ (s.dev.slot i).guideLive = false ∧ (s.dev.slot i).draftEn = false ∧ 1 ≤ ringFree s.dev 1) ∧
    (∃ (s : State), Live s ∧ s.dev.steps.hold ≠ 0 ∧ s.dev.rg fTRU_UPD_STATE ≠ 2) ∧
    (∃ (s : State) (i : Nat) (no : Nat) (tok : Nat) (logits : List (List Nat)),
      Live s ∧ OneSlotStep s.dev i no ∧ checksClosed s.dev = true ∧ pruneEntry s.dev ⟨i, true, ⟨1, [255],
          [(s.dev.slot i).token]⟩, 0, 0, false⟩ logits = some ([], tok) ∧ tok ∉ (s.dev.slot i).stops ∧ (s.dev.slot
          i).emitted + 1 ≠ (s.dev.slot i).maxNew) ∧
    (∃ (s : State) (i : Nat) (no : Nat) (tok : Nat) (logits : List (List Nat)) (m : Mgmt),
      Live s ∧ OneSlotStep s.dev i no ∧ checksClosed s.dev = true ∧ pruneEntry s.dev ⟨i, true, ⟨1, [255],
          [(s.dev.slot i).token]⟩, 0, 0, false⟩ logits = some ([], tok) ∧ tok ∉ (s.dev.slot i).stops ∧ (s.dev.slot
          i).emitted + 1 ≠ (s.dev.slot i).maxNew ∧ s.dev.mgmt = [m] ∧ 0 < m.type ∧ m.type < 0x100) ∧
    (∃ (s : State) (i : Nat) (no : Nat) (tok : Nat) (logits : List (List Nat)),
      Live s ∧ OneSlotStep s.dev i no ∧ checksClosed s.dev = true ∧ pruneEntry s.dev ⟨i, true, ⟨1, [255],
          [(s.dev.slot i).token]⟩, 0, 0, false⟩ logits = some ([], tok) ∧ tok ∈ (s.dev.slot i).stops) ∧
    (∃ (s : State) (i : Nat) (no : Nat) (tok : Nat) (logits : List (List Nat)),
      Live s ∧ OneSlotStep s.dev i no ∧ checksClosed s.dev = true ∧ pruneEntry s.dev ⟨i, true, ⟨1, [255],
          [(s.dev.slot i).token]⟩, 0, 0, false⟩ logits = some ([], tok)) ∧
    (∃ (s : State), Live s ∧ checksClosed s.dev = false) ∧
    (∃ (s : State), Live s ∧ s.dev.mgmt = []) :=
  ⟨⟨live (fun d =>
      ({ (setSlotSt d 15 2).setPlot 0 (Plot.reset.rs fPLOT_SEQ_STATUS_STATE 1) with numbering := [(0, 0)], steps := { d.steps with placement := some ⟨1, 0, true, [], []⟩ } }.rs
      fSHD_FW_STATE 2).rs fAON_DSTATE_STATE 2 |>.rs (fCPL_RING_CFG_ENABLE.at 1) 1), 15, ⟨1, 0, true, [], []⟩, by
      delta Live
      and_intros <;> first
        | decide +kernel
        | (intro n p h hp
           have h : n < 1 := h
           obtain rfl : n = 0 := by omega
           have hp : some 0 = some p := hp
           cases hp
           decide +kernel)⟩,
    ⟨live (fun d => { d with steps := { d.steps with hold := 1 } }), by
      delta Live
      decide +kernel⟩,
    ⟨step15 id { Slot.reset with token := 9 }, 15, 4, 1, [[0x3F800000, 0x40000000, 0]], by
      delta Live OneSlotStep
      try dsimp only
      decide +kernel⟩,
    ⟨step15 (fun d => { d with mgmt := [⟨3, 2, 5, 0, []⟩] }) { Slot.reset with token := 9 }, 15, 4, 1, [[0x3F800000,
      0x40000000, 0]], ⟨3, 2, 5, 0, []⟩, by
      delta Live OneSlotStep
      try dsimp only
      decide +kernel⟩,
    ⟨step15 id { Slot.reset with token := 9, stops := [1] }, 15, 4, 1, [[0x3F800000, 0x40000000, 0]], by
      delta Live OneSlotStep
      try dsimp only
      decide +kernel⟩,
    ⟨step15 id { Slot.reset with token := 9 }, 15, 4, 1, [[0x3F800000, 0x40000000, 0]], by
      delta Live OneSlotStep
      try dsimp only
      decide +kernel⟩,
    ⟨live (fun d => d.rs fFAB_BRIDGE_STATUS_DOWN 1), by
      delta Live
      decide +kernel⟩,
    ⟨live id, by
      delta Live
      decide +kernel⟩⟩

/-- What each clause of `Regulation` supposes is met. -/
theorem witness_Regulation :
    (∃ (s : State) (pt : Nat) (c : Nat) (sp : _) (w : _),
      Live s ∧ pt < 26 ∧ c < 7 ∧ sp < 2 ∧ 0 < w ∧ w ≤ 64) ∧
    (∃ (s : State) (pt : Nat) (c : Nat) (w : _), Live s ∧ pt < 26 ∧ c < 7 ∧ w < 128 ∧ (w = 0 ∨ 64 < w)) ∧
    (∃ (s : State) (pt : Nat) (c : Nat) (m : _) (b : _), Live s ∧ pt < 26 ∧ c < 7 ∧ m ≤ b ∧ b < 2 ^ 24) ∧
    (∃ (s : State) (pt : Nat) (c : Nat) (m : _) (b : _), Live s ∧ pt < 26 ∧ c < 7 ∧ b < m ∧ m < 2 ^ 24) ∧
    (∃ (s : State) (pt : Nat) (c : Nat) (pos : Nat) (w : Waiting) (k : _),
      Live s ∧ pt < 26 ∧ c < 7 ∧ (s.dev.point pt).queue[pos]? = some w ∧ w.req.slack = some k) ∧
    (∃ (s : State) (pt : Nat) (c : Nat) (p : _) (ch : _) (pos : Nat) (r : FabReq) (k : _),
      Live s ∧ pt < 26 ∧ c < 7 ∧ ((s.dev.plot p).chan ch).hold[pos]? = some r ∧ r.slack = some k) ∧
    (∃ (s : State) (pt : Nat) (c : Nat) (r : FabReq) (q : Nat) (g : Nat),
      Live s ∧ pt < 26 ∧ c < 7 ∧ r.master = .plot q ∧ q < 2048 ∧ r.addr < 0x1800000000 ∧ (gddrMap r.addr).1 = g ∧
          reqLen r ≠ 0 ∧ reqFits r = true ∧ s.dev.sed.held = [] ∧ s.dev.rg fBRW_STATUS_STATE ≠ 4 ∧ s.dev.rg
          fAON_DSTATE_STATE ≠ 3 ∧ g / 12 = q / 1024 ∧ s.dev.rg (fGDC_STATUS_STATE.at g) = 2) ∧
    (∃ (s : State) (pt : Nat) (c : Nat) (r : FabReq) (q : Nat) (g : Nat),
      Live s ∧ pt < 26 ∧ c < 7 ∧ r.master = .plot q ∧ q < 2048 ∧ r.addr < 0x1800000000 ∧ (gddrMap r.addr).1 = g ∧
          reqLen r ≠ 0 ∧ reqFits r = true ∧ s.dev.sed.held = [] ∧ s.dev.rg fBRW_STATUS_STATE ≠ 4 ∧ s.dev.rg
          fAON_DSTATE_STATE ≠ 3 ∧ g / 12 ≠ q / 1024 ∧ s.dev.rg fFAB_BRIDGE_STATUS_DOWN = 0) ∧
    (∃ (s : State) (pt : Nat) (c : Nat) (w : Waiting) (q : Nat) (b : List Byte),
      Live s ∧ pt < 26 ∧ c < 7 ∧ pt < 24 ∧ s.dev.rg (fGDC_STATUS_STATE.at pt) = 2 ∧ (s.dev.point pt).queue = [w] ∧
          (s.dev.point pt).spill = true ∧ w.req.cls = c ∧ w.req.master = .plot q ∧ w.req.op = .write b ∧ b.length =
          32 ∧ w.req.addr % 32 = 0 ∧ s.dev.rg (fGDC_FLIP_ARM.at pt) = 0) :=
  ⟨⟨live id, 25, 6, 1, 64, by
      delta Live
      decide +kernel⟩,
    ⟨live id, 25, 6, 65, by
      delta Live
      decide +kernel⟩,
    ⟨live id, 25, 6, 7, 7, by
      delta Live
      decide +kernel⟩,
    ⟨live id, 25, 6, 8, 7, by
      delta Live
      decide +kernel⟩,
    ⟨live (fun d => d.setPoint 25
      { RegPoint.reset with queue := [⟨⟨.plot 4, 0, .read 32, 64, some 5, false, 0, []⟩, none, false⟩] }), 25, 6, 0,
      ⟨⟨.plot 4, 0, .read 32, 64, some 5, false, 0, []⟩, none, false⟩, 5, by
      delta Live
      decide +kernel⟩,
    ⟨plot0 2 (fun pl => pl.setChan 3
      { Channel.reset with hold := [⟨.plot 4, 0, .read 32, 64, some 5, false, 0, []⟩] }), 25, 6, 0, 3, 0, ⟨.plot 4,
      0, .read 32, 64, some 5, false, 0, []⟩, 5, by
      delta Live
      decide +kernel⟩,
    ⟨live (fun d => d.rs (fGDC_STATUS_STATE.at 1) 2), 25, 6, ⟨.plot 1023, 0, .read 32, 4096, some 5, false, 0, []⟩,
      1023, 1, by
      delta Live
      decide +kernel⟩,
    ⟨live id, 25, 6, ⟨.plot 1024, 0, .read 32, 4096, some 5, false, 0, []⟩, 1024, 1, by
      delta Live
      try dsimp only
      decide +kernel⟩,
    ⟨live (fun d => (d.setPoint 23
      { RegPoint.reset with queue := [⟨⟨.plot 4, 6, .write (List.replicate 32 7), 64, some 5, false, 0, []⟩, none, false⟩] }).rs
      (fGDC_STATUS_STATE.at 23) 2), 23, 6, ⟨⟨.plot 4, 6, .write (List.replicate 32 7), 64, some 5, false, 0, []⟩,
      none, false⟩, 4, List.replicate 32 7, by
      delta Live
      decide +kernel⟩⟩

/-- What each clause of `GddrErrors` supposes is met. -/
theorem witness_GddrErrors :
    (∃ (s : State) (c : Nat) (w : Waiting) (q : Nat) (k : Nat) (n : _),
      Live s ∧ c < 24 ∧ s.dev.rg (fGDC_STATUS_STATE.at c) = 2 ∧ (s.dev.point c).queue = [w] ∧ (s.dev.point c).spill =
          true ∧ w.req.cls < 7 ∧ w.req.master = .plot q ∧ w.req.report = [] ∧ s.dev.rg (fGDC_FLIP_ARM.at c) = 0 ∧ 0 <
          k ∧ w.req.op = .read n ∧ k ≤ s.dev.rg (fGDC_CFG_CRC_RETRIES.at c)) ∧
    (∃ (s : State) (c : Nat) (w : Waiting) (q : Nat) (k : Nat) (n : _),
      Live s ∧ c < 24 ∧ s.dev.rg (fGDC_STATUS_STATE.at c) = 2 ∧ (s.dev.point c).queue = [w] ∧ (s.dev.point c).spill =
          true ∧ w.req.cls < 7 ∧ w.req.master = .plot q ∧ w.req.report = [] ∧ s.dev.rg (fGDC_FLIP_ARM.at c) = 0 ∧ 0 <
          k ∧ w.req.op = .read n ∧ s.dev.rg (fGDC_CFG_CRC_RETRIES.at c) < k) ∧
    (∃ (s : State) (c : Nat) (w : Waiting) (q : Nat) (k : Nat) (b : _),
      Live s ∧ c < 24 ∧ s.dev.rg (fGDC_STATUS_STATE.at c) = 2 ∧ (s.dev.point c).queue = [w] ∧ (s.dev.point c).spill =
          true ∧ w.req.cls < 7 ∧ w.req.master = .plot q ∧ w.req.report = [] ∧ s.dev.rg (fGDC_FLIP_ARM.at c) = 0 ∧ 0 <
          k ∧ w.req.op = .write b ∧ b.length = 32 ∧ w.req.addr % 32 = 0 ∧ k ≤ s.dev.rg (fGDC_CFG_CRC_RETRIES.at c)) ∧
    (∃ (s : State) (c : Nat) (w : Waiting) (q : Nat) (k : Nat) (b : _),
      Live s ∧ c < 24 ∧ s.dev.rg (fGDC_STATUS_STATE.at c) = 2 ∧ (s.dev.point c).queue = [w] ∧ (s.dev.point c).spill =
          true ∧ w.req.cls < 7 ∧ w.req.master = .plot q ∧ w.req.report = [] ∧ s.dev.rg (fGDC_FLIP_ARM.at c) = 0 ∧ 0 <
          k ∧ w.req.op = .write b ∧ b.length = 32 ∧ w.req.addr % 32 = 0 ∧ s.dev.rg (fGDC_CFG_CRC_RETRIES.at c) < k) ∧
    (∃ (s : State) (c : Nat),
      Live s ∧ c < 24 ∧ s.dev.rg (fGDC_STATUS_STATE.at c) = 2 ∧ s.dev.rg (fGDC_RETRAIN_REQUEST.at c) = 0) ∧
    (∃ (s : State) (c : Nat),
      Live s ∧ c < 24 ∧ s.dev.rg (fGDC_STATUS_STATE.at c) = 3 ∧ (∀ w ∈ (s.dev.point c).queue, w.early = false)) ∧
    (∃ (s : State) (c : Nat) (ac : _),
      Live s ∧ c < 24 ∧ s.dev.rg (fGDC_STATUS_STATE.at c) = 4 ∧ (s.dev.point c).queue = [] ∧ ac ≤ 50000) ∧
    (∃ (s : State) (c : Nat) (w : Waiting) (q : Nat) (n : Nat),
      Live s ∧ c < 24 ∧ (s.dev.rg (fGDC_STATUS_STATE.at c) = 3 ∨ s.dev.rg (fGDC_STATUS_STATE.at c) = 4) ∧
          (s.dev.point c).queue = [w] ∧ w.req.master = .plot q ∧ w.req.op = .read n) :=
  ⟨⟨gdc23 2 [waits (.read 32) 64], 23, waits (.read 32) 64, 4, 1, 32, by
      delta Live
      decide +kernel⟩,
    ⟨gdc23 2 [waits (.read 32) 64], 23, waits (.read 32) 64, 4, 16, 32, by
      delta Live
      decide +kernel⟩,
    ⟨gdc23 2 [waits (.write (List.replicate 32 7)) 64], 23, waits (.write (List.replicate 32 7)) 64, 4, 1,
      List.replicate 32 7, by
      delta Live
      decide +kernel⟩,
    ⟨gdc23 2 [waits (.write (List.replicate 32 7)) 64], 23, waits (.write (List.replicate 32 7)) 64, 4, 16,
      List.replicate 32 7, by
      delta Live
      decide +kernel⟩,
    ⟨gdc23 2 [], 23, by
      delta Live
      decide +kernel⟩,
    ⟨gdc23 3 [], 23, by
      delta Live
      decide +kernel⟩,
    ⟨gdc23 4 [], 23, 50000, by
      delta Live
      decide +kernel⟩,
    ⟨gdc23 4 [waits (.read 32) 64], 23, waits (.read 32) 64, 4, 32, by
      delta Live
      decide +kernel⟩⟩

/-- What each clause of `GddrRegistersAndBridge` supposes is met. -/
theorem witness_GddrRegistersAndBridge :
    (∃ (s : State) (c : Nat) (r : _) (t : _) (k : _) (v : _),
      Live s ∧ c < 24 ∧ 0 < r ∧ r < 256 ∧ 0 < t ∧ t < 256 ∧ 0 < k ∧ k < 16 ∧ v < 4) ∧
    (∃ (s : State) (c : Nat) (v : _), Live s ∧ c < 24 ∧ v < 4096) ∧
    (∃ (s : State) (c : Nat) (be : _) (ge : _) (b : _) (g : _),
      Live s ∧ c < 24 ∧ be < 2 ∧ ge < 2 ∧ 0 < b ∧ b < 2 ^ 16 ∧ 0 < g ∧ g < 2 ^ 16) ∧
    (∃ (s : State) (c : Nat) (arm : _) (dir : _) (dch : _) (byte : _) (m : _),
      Live s ∧ c < 24 ∧ arm < 2 ∧ dir < 2 ∧ dch < 4 ∧ byte < 32 ∧ m < 256) ∧
    (∃ (s : State) (c : Nat),
      Live s ∧ c < 24 ∧ weederRuns s.dev c = true ∧ s.dev.rg (fGDC_WEED_CFG_GDDR_EN.at c) = 1) ∧
    (∃ (s : State) (c : Nat) (k : _) (p : _),
      Live s ∧ c < 24 ∧ c < 12 ∧ c + 12 * k < 512 ∧ s.dev.phys (c + 12 * k) = some p ∧ weederRuns s.dev c = true ∧
          s.dev.rg (fGDC_WEED_CFG_BED_EN.at c) = 1 ∧ (s.dev.gdc c).bedPlot = c + 12 * k ∧ (s.dev.gdc c).bedPos + 1 <
          2 ^ 18) ∧
    (∃ (s : State) (c : Nat) (n : _),
      Live s ∧ c < 24 ∧ s.dev.rg fFAB_BRIDGE_STATUS_DOWN = 0 ∧ s.dev.rg fFAB_BRIDGE_STATUS_PORT_UP ≠ 0 ∧ n ≤ 8) ∧
    (∃ (s : State) (c : Nat) (n : _) (w : Waiting) (q : Nat) (m : Nat),
      Live s ∧ c < 24 ∧ s.dev.rg fFAB_BRIDGE_STATUS_DOWN = 0 ∧ s.dev.rg fFAB_BRIDGE_STATUS_PORT_UP ≠ 0 ∧ 9 ≤ n ∧
          (s.dev.point 24).queue = [w] ∧ (s.dev.point 25).queue = [] ∧ w.req.master = .plot q ∧ w.req.op = .read m) ∧
    (∃ (s : State) (c : Nat) (row : _),
      Live s ∧ c < 24 ∧ s.dev.rg fFAB_BRIDGE_STATUS_DOWN = 0 ∧ row < 17 ∧ bitOf (s.dev.rg fFAB_BRIDGE_STATUS_PORT_UP)
          row = true) :=
  ⟨⟨live id, 23, 255, 255, 15, 3, by
      delta Live
      decide +kernel⟩,
    ⟨live id, 23, 4095, by
      delta Live
      decide +kernel⟩,
    ⟨live id, 23, 1, 1, 65535, 65535, by
      delta Live
      decide +kernel⟩,
    ⟨live id, 23, 1, 1, 3, 31, 255, by
      delta Live
      decide +kernel⟩,
    ⟨live (fun d => ((d.rs (fGDC_STATUS_STATE.at 23) 2).rs (fGDC_WEED_CFG_GDDR_EN.at 23) 1).rs fAON_DSTATE_STATE 1),
      23, by
      delta Live
      decide +kernel⟩,
    ⟨live (fun d =>
      (({ d with numbering := [(11 + 12 * 41, 0)], gdcs := [(11, ⟨0, 0, 0, 11 + 12 * 41, 2 ^ 18 - 2⟩)] }.rs
      (fGDC_STATUS_STATE.at 11) 2).rs (fGDC_WEED_CFG_BED_EN.at 11) 1).rs fAON_DSTATE_STATE 1), 11, 41, 0, by
      delta Live
      decide +kernel⟩,
    ⟨live (fun d => d.rs fFAB_BRIDGE_STATUS_PORT_UP 1), 0, 8, by
      delta Live
      decide +kernel⟩,
    ⟨live (fun d => (d.setPoint 24 { RegPoint.reset with queue := [waits (.read 32) 64] }).rs
      fFAB_BRIDGE_STATUS_PORT_UP 0x1FFFF), 0, 9, waits (.read 32) 64, 4, 32, by
      delta Live
      decide +kernel⟩,
    ⟨live (fun d => d.rs fFAB_BRIDGE_STATUS_PORT_UP 0x1FFFF), 0, 16, by
      delta Live
      decide +kernel⟩⟩

/-- What each clause of `MoveEngine` supposes is met. -/
theorem witness_MoveEngine :
    (∃ (s : State) (n : Nat) (sp : Nat) (p : Nat) (c : _),
      Live s ∧ n < 1024 ∧ sp < 2048 ∧ s.dev.rg fSED_MOVE_STATE = 0 ∧ s.dev.phys n = some p ∧ moveAllowed s.dev p sp =
          true ∧ c ∈ [(Instr.move n sp, 0), (Instr.reload n sp, 1), (Instr.clone n sp, 2)]) ∧
    (∃ (s : State) (n : Nat) (sp : Nat) (p : Nat) (c : _),
      Live s ∧ n < 1024 ∧ sp < 2048 ∧ s.dev.rg fSED_MOVE_STATE = 0 ∧ s.dev.phys n = some p ∧ moveAllowed s.dev p sp =
          false ∧ c ∈ [Instr.move n sp, Instr.reload n sp, Instr.clone n sp]) ∧
    (∃ (s : State) (n : Nat) (sp : Nat) (p : Nat),
      Live s ∧ n < 1024 ∧ sp < 2048 ∧ s.dev.rg fSED_MOVE_STATE = 0 ∧ s.dev.phys n = some p ∧ s.dev.isReferee sp =
          true ∧ (s.dev.plot sp).seq = 4) ∧
    (∃ (s : State) (n : Nat) (sp : Nat) (p : Nat),
      Live s ∧ n < 1024 ∧ sp < 2048 ∧ s.dev.rg fSED_MOVE_STATE = 0 ∧ s.dev.phys n = some p ∧ s.dev.isReferee sp =
          false) ∧
    (∃ (s : State) (n : Nat) (sp : Nat) (p : Nat),
      Live s ∧ n < 1024 ∧ sp < 2048 ∧ s.dev.rg fSED_MOVE_STATE = 0 ∧ s.dev.phys n = some p ∧ (s.dev.plot p).seq ≠ 2) ∧
    (∃ (s : State) (n : Nat) (sp : Nat) (p : Nat),
      Live s ∧ n < 1024 ∧ sp < 2048 ∧ s.dev.rg fSED_MOVE_STATE = 0 ∧ s.dev.phys n = some p ∧ (s.dev.plot p).seq = 2) ∧
    (∃ (s : State) (n : Nat) (sp : Nat) (p : Nat),
      Live s ∧ n < 1024 ∧ sp < 2048 ∧ s.dev.rg fSED_MOVE_STATE = 0 ∧ s.dev.phys n = some p ∧ s.dev.referee ≠ none) ∧
    (∃ (s : State) (n : Nat) (sp : Nat) (p : Nat),
      Live s ∧ n < 1024 ∧ sp < 2048 ∧ s.dev.rg fSED_MOVE_STATE = 0 ∧ s.dev.phys n = some p ∧ s.dev.referee = none) ∧
    (∃ (s : State) (n : Nat) (sp : Nat) (c : _),
      Live s ∧ s.dev.rg fSED_MOVE_STATE ≠ 0 ∧ c ∈ [Instr.move n sp, Instr.reload n sp, Instr.clone n sp,
          Instr.compare n sp, Instr.retire n sp,
      Instr.release n sp]) ∧
    (∃ (s : State) (n : Nat) (sp : Nat) (p : Nat),
      Live s ∧ s.dev.rg fSED_MOVE_LOGICAL = n ∧ s.dev.rg fSED_MOVE_SPARE = sp ∧ s.dev.phys n = some p ∧ sp ≠ p ∧
          s.dev.sed.held = [] ∧ s.dev.rg fSED_MOVE_STATE = 1 ∧ Memory.wf s.dev.scr = true ∧ s.dev.rg fSED_MOVE_MODE ≤
          1) ∧
    (∃ (s : State) (n : Nat) (sp : Nat) (p : Nat),
      Live s ∧ s.dev.rg fSED_MOVE_LOGICAL = n ∧ s.dev.rg fSED_MOVE_SPARE = sp ∧ s.dev.phys n = some p ∧ sp ≠ p ∧
          s.dev.sed.held = [] ∧ s.dev.rg fSED_MOVE_STATE = 1 ∧ Memory.wf s.dev.scr = true ∧ s.dev.rg fSED_MOVE_MODE =
          2) ∧
    (∃ (s : State) (n : Nat) (sp : Nat) (p : Nat),
      Live s ∧ s.dev.rg fSED_MOVE_LOGICAL = n ∧ s.dev.rg fSED_MOVE_SPARE = sp ∧ s.dev.phys n = some p ∧ sp ≠ p ∧
          s.dev.sed.held = [] ∧ s.dev.rg fSED_MOVE_STATE = 1 ∧ (s.dev.rg fSED_MOVE_MODE = 2 ∨ s.dev.sed.moving =
          none)) ∧
    (∃ (s : State) (n : Nat) (sp : Nat) (p : Nat),
      Live s ∧ s.dev.rg fSED_MOVE_LOGICAL = n ∧ s.dev.rg fSED_MOVE_SPARE = sp ∧ s.dev.phys n = some p ∧ sp ≠ p ∧
          s.dev.sed.held = [] ∧ s.dev.rg fSED_MOVE_STATE = 3 ∧ s.dev.sed.judged = [] ∧ s.dev.rg fSED_MOVE_MODE ≤ 1) ∧
    (∃ (s : State) (n : Nat) (sp : Nat) (p : Nat),
      Live s ∧ s.dev.rg fSED_MOVE_LOGICAL = n ∧ s.dev.rg fSED_MOVE_SPARE = sp ∧ s.dev.phys n = some p ∧ sp ≠ p ∧
          s.dev.sed.held = [] ∧ s.dev.rg fSED_MOVE_STATE = 3 ∧ s.dev.sed.judged = [] ∧ s.dev.rg fSED_MOVE_MODE = 4) ∧
    (∃ (s : State) (n : Nat) (sp : Nat) (r : Nat) (p : Nat),
      Live s ∧ s.dev.rg fSED_MOVE_STATE = 2 ∧ s.dev.referee = some (n, r) ∧ s.dev.phys n = some p ∧ s.dev.rg
          fSED_MOVE_SPARE = sp) :=
  ⟨⟨moves 0 0 id, 5, 1, 0, (Instr.clone 5 1, 2), by
      delta Live
      try dsimp only
      decide +kernel⟩,
    ⟨moves 0 0 id, 5, 1024, 0, Instr.clone 5 1024, by
      delta Live
      try dsimp only
      decide +kernel⟩,
    ⟨moves 0 0 (fun d => { d.setPlot 1 (Plot.reset.rs fPLOT_SEQ_STATUS_STATE 4) with referee := some (5, 1) }), 5, 1,
      0, by
      delta Live
      try dsimp only
      decide +kernel⟩,
    ⟨moves 0 0 id, 5, 1, 0, by
      delta Live
      try dsimp only
      decide +kernel⟩,
    ⟨moves 0 0 id, 5, 1, 0, by
      delta Live
      try dsimp only
      decide +kernel⟩,
    ⟨moves 0 0 (fun d => d.setPlot 0 (Plot.reset.rs fPLOT_SEQ_STATUS_STATE 2)), 5, 1, 0, by
      delta Live
      try dsimp only
      decide +kernel⟩,
    ⟨moves 0 0 (fun d => { d with referee := some (5, 1) }), 5, 1, 0, by
      delta Live
      try dsimp only
      decide +kernel⟩,
    ⟨moves 0 0 id, 5, 1, 0, by
      delta Live
      try dsimp only
      decide +kernel⟩,
    ⟨moves 1 0 id, 5, 1, Instr.release 5 1, by
      delta Live
      decide +kernel⟩,
    ⟨moves 1 0 (fun d => { d with scr := [(7, 3)] }), 5, 1, 0, by
      delta Live
      decide +kernel⟩,
    ⟨moves 1 2 (fun d => { d with scr := [(7, 3)] }), 5, 1, 0, by
      delta Live
      decide +kernel⟩,
    ⟨moves 1 0 id, 5, 1, 0, by
      delta Live
      decide +kernel⟩,
    ⟨moves 3 1 (fun d => { d with spares := [1] }), 5, 1, 0, by
      delta Live
      decide +kernel⟩,
    ⟨moves 3 4 id, 5, 1, 0, by
      delta Live
      decide +kernel⟩,
    ⟨moves 2 3 (fun d =>
      { d.setPlot 0 { Plot.reset with units := [(9, ⟨[], false, false, true, true⟩)] } with referee := some (5, 1), scr := [(9 * 256, 4)] }),
      5, 1, 1, 0, by
      delta Live
      decide +kernel⟩⟩

/-- What each clause of `SparesAndArbitration` supposes is met. -/
theorem witness_SparesAndArbitration :
    (∃ (s : State) (p : Nat), Live s ∧ isPlot p = true ∧ s.dev.logical p = none) ∧
    (∃ (s : State) (p : Nat), Live s ∧ isPlot p = true ∧ s.dev.logical p ≠ none ∧ (s.dev.plot p).sleep = 0) ∧
    (∃ (s : State) (p : Nat) (test : _),
      Live s ∧ isPlot p = true ∧ test < 16 ∧ (s.dev.plot p).rg fPLOT_SELFTEST_RESULT = 1) ∧
    (∃ (s : State), Live s ∧ s.dev.rg fSHD_FW_STATE = 2) ∧
    (∃ (s : State) (p : Nat) (n : Nat) (u : Nat),
      Live s ∧ isPlot p = true ∧ s.dev.rg fSHD_FW_STATE = 2 ∧ s.dev.sed.judged = [] ∧ s.dev.logical p = some n ∧
          s.dev.sed.watches = [] ∧ judgedAlready s.dev p = false ∧ (s.dev.plot p).seq = 4 ∧ stopUnit (s.dev.plot p) =
          some u) ∧
    (∃ (s : State) (p : Nat) (n : Nat) (u : Nat) (w : _),
      Live s ∧ isPlot p = true ∧ s.dev.rg fSHD_FW_STATE = 2 ∧ s.dev.sed.judged = [] ∧ s.dev.logical p = some n ∧
          s.dev.sed.watches = [w] ∧ w.plot = p ∧ w.unit = u ∧ w.stage = 0 ∧ (s.dev.plot p).seq = 1 ∧ recentTransients
          s.dev p u = 0) ∧
    (∃ (s : State) (round : Nat) (p : Nat) (n : Nat) (l : SowLib),
      Live s ∧ s.dev.sowRound = some ⟨round, [l], [(p, 0)]⟩ ∧ s.dev.logical p = some n ∧ round < 3) ∧
    (∃ (s : State) (round : Nat) (p : Nat) (n : Nat) (l : SowLib),
      Live s ∧ s.dev.sowRound = some ⟨round, [l], [(p, 0)]⟩ ∧ s.dev.logical p = some n ∧ 3 ≤ round ∧ judgedAlready
          s.dev p = false) ∧
    (∃ (s : State) (p : Nat) (n : Nat) (k : Nat) (b : List Byte),
      Live s ∧ isPlot p = true ∧ s.dev.logical p = some n ∧ packAt s.dev k = some b ∧ k < 8 ∧ s.dev.rg fSHD_FW_STATE
          = 2 ∧ s.dev.steps.run = none ∧ plotQuiet (s.dev.plot p) = true ∧ (s.dev.plot p).sleep = 0 ∧ s.dev.sed.packs
          = []) ∧
    (∃ (s : State) (p : Nat) (n : Nat) (k : Nat) (b : List Byte),
      Live s ∧ isPlot p = true ∧ s.dev.logical p = some n ∧ packAt s.dev k = some b ∧ s.dev.sed.packs = [⟨p, k,
          false⟩] ∧ (s.dev.plot p).seq = 2 ∧ recV b 68 2 ≤ 4 ∧ recentTransients s.dev p (recV b 68 2) = 0) :=
  ⟨⟨live id, 0, by
      delta Live
      decide +kernel⟩,
    ⟨packs id, 0, by
      delta Live
      decide +kernel⟩,
    ⟨plot0 1 (fun pl => pl.rs fPLOT_SELFTEST_RESULT 1), 0, 15, by
      delta Live
      decide +kernel⟩,
    ⟨packs (fun d => { d with spares := [3, 4] }), by
      delta Live
      decide +kernel⟩,
    ⟨packs (fun d => d.setPlot 0 ((Plot.reset.rs fPLOT_SEQ_STATUS_STATE 4).rs fPLOT_SEQ_STOP_CODE 0x0B01)), 0, 5, 0,
      by
      delta Live
      decide +kernel⟩,
    ⟨packs (fun d =>
      { d.setPlot 0 (Plot.reset.rs fPLOT_SEQ_STATUS_STATE 1) with sed := { d.sed with watches := [⟨0, 3, 0x0C08, 9, 0, 0, 1, false, Plot.reset.ckpt, 4⟩] } }),
      0, 5, 3, ⟨0, 3, 0x0C08, 9, 0, 0, 1, false, Plot.reset.ckpt, 4⟩, by
      delta Live
      decide +kernel⟩,
    ⟨live (fun d => { d with numbering := [(5, 0)], sowRound := some ⟨2, [⟨1, 0, [7], 0, 0, 1⟩], [(0, 0)]⟩ }), 2, 0,
      5, ⟨1, 0, [7], 0, 0, 1⟩, by
      delta Live
      decide +kernel⟩,
    ⟨live (fun d => { d with numbering := [(5, 0)], sowRound := some ⟨3, [⟨1, 0, [7], 0, 0, 1⟩], [(0, 0)]⟩ }), 3, 0,
      5, ⟨1, 0, [7], 0, 0, 1⟩, by
      delta Live
      decide +kernel⟩,
    ⟨packs (fun d => d.setPlot 0 (Plot.reset.rs fPLOT_SEQ_STATUS_STATE 1)), 0, 5, 7, packBytes, by
      delta Live
      decide +kernel⟩,
    ⟨packs (fun d =>
      { d.setPlot 0 (Plot.reset.rs fPLOT_SEQ_STATUS_STATE 2) with sed := { d.sed with packs := [⟨0, 7, false⟩] } }),
      0, 5, 7, packBytes, by
      delta Live
      decide +kernel⟩⟩

/-- What each clause of `LinkLayer` supposes is met. -/
theorem witness_LinkLayer :
    (∃ (s : State) (k : Nat) (seq : _) (a : _) (b : _) (c : _) (e : _) (dev : _) (port : _),
      Live s ∧ k ≤ 16 ∧ (s.dev.link k).lost = false ∧ (s.dev.link k).up = false ∧ (s.dev.link k).waiting = [] ∧ seq <
          4096 ∧ 64 ≤ a ∧ a < 4096 ∧ 64 ≤ b ∧ b < 4096 ∧ 64 ≤ c ∧ c < 4096 ∧ 64 ≤ e ∧ e < 4096 ∧ dev < 2 ^ 16 ∧ port
          < 16 ∧ (k ≠ 0 → s.dev.rg (fSOP_PORT_STATUS_STATE.at (k - 1)) = 2)) ∧
    (∃ (s : State) (k : Nat) (c0 : _) (c1 : _) (c2 : _) (c3 : _) (r0 : _) (r1 : _) (r2 : _) (r3 : _),
      Live s ∧ k ≤ 16 ∧ (s.dev.link k).lost = false ∧ (s.dev.link k).up = true ∧ (s.dev.link k).rxSeq < 4096 ∧
          (s.dev.link k).waiting = [] ∧ (s.dev.link k).partialMsg = [] ∧ (s.dev.link k).credits = [c0, c1, c2, c3] ∧
          (s.dev.link k).grant.length = 4 ∧ (s.dev.link k).unacked < 255 ∧ r0 < 4096 ∧ r1 < 4096 ∧ r2 < 4096 ∧ r3 <
          4096 ∧ c0 + r0 ≤ (s.dev.link k).grant.getD 0 0 ∧ c1 + r1 ≤ (s.dev.link k).grant.getD 1 0 ∧ c2 + r2 ≤
          (s.dev.link k).grant.getD 2 0 ∧ c3 + r3 ≤ (s.dev.link k).grant.getD 3 0) ∧
    (∃ (s : State) (k : Nat) (flit : List Byte),
      Live s ∧ k ≤ 16 ∧ (s.dev.link k).lost = false ∧ (s.dev.link k).up = true ∧ (s.dev.link k).discarding = false ∧
          (s.dev.link k).retries + 1 < retryLimit s.dev k ∧ (flit.length ≠ 256 ∨ leValue (flit.drop 252) ≠ crc32
          (flit.take 252) ∨
      ∃ seq units, flit = mkFlit 1 seq none [0, 0, 0, 0] units ∧ seq < 4096 ∧ units.length ≤ 240 ∧ seq ≠ (s.dev.link
          k).rxSeq)) ∧
    (∃ (s : State) (k : Nat),
      Live s ∧ k ≤ 16 ∧ (s.dev.link k).lost = false ∧ (s.dev.link k).up = true ∧ (s.dev.link k).discarding = true ∧
          (s.dev.link k).retries + 1 < retryLimit s.dev k) ∧
    (∃ (s : State) (k : Nat) (pre : _) (x : _) (post : _),
      Live s ∧ k ≤ 16 ∧ (s.dev.link k).lost = false ∧ (s.dev.link k).up = true ∧ (s.dev.link k).kept = pre ++ x ::
          post ∧ (∀ y ∈ pre, y.seq ≠ x.seq) ∧ x.seq < 4096 ∧ (s.dev.link k).waiting = []) ∧
    (∃ (s : State) (k : Nat),
      Live s ∧ k ≤ 16 ∧ (s.dev.link k).lost = false ∧ (s.dev.link k).up = true ∧ (s.dev.link k).held = false ∧
          (s.dev.link k).unacked ≠ 0 ∧ (∀ n ∈ (s.dev.link k).owed, n = 0)) ∧
    (∃ (s : State) (k : Nat),
      Live s ∧ k ≤ 16 ∧ (s.dev.link k).lost = false ∧ (s.dev.link k).up = true ∧ (s.dev.link k).held = false ∧
          (s.dev.link k).kept.length < 1024 ∧ (∃ n ∈ (s.dev.link k).owed, n ≠ 0)) :=
  ⟨⟨links 16 Link.reset (fun d => d.rs (fSOP_PORT_STATUS_STATE.at 15) 2), 16, 4095, 64, 4095, 64, 4095, 65535, 15, by
      delta Live
      decide +kernel⟩,
    ⟨links 0 { Link.reset with up := true, rxSeq := 4095, credits := [1, 2, 3, 4], grant := [64, 64, 64, 4095] } id,
      0, 1, 2, 3, 4, 63, 62, 61, 4091, by
      delta Live
      decide +kernel⟩,
    ⟨links 0 { Link.reset with up := true } id, 0, [], by
      delta Live
      and_intros <;> first
        | decide +kernel
        | exact Or.inl (by decide)⟩,
    ⟨links 0 { Link.reset with up := true, discarding := true } id, 0, by
      delta Live
      decide +kernel⟩,
    ⟨links 0 { Link.reset with up := true, kept := [⟨4, [1], []⟩, ⟨4095, [2], []⟩, ⟨0, [3], []⟩] } id, 0, [⟨4, [1],
      []⟩], ⟨4095, [2], []⟩, [⟨0, [3], []⟩], by
      delta Live
      decide +kernel⟩,
    ⟨links 0 { Link.reset with up := true, unacked := 3 } id, 0, by
      delta Live
      decide +kernel⟩,
    ⟨links 0 { Link.reset with up := true, owed := [0, 0, 0, 5] } id, 0, by
      delta Live
      decide +kernel⟩⟩

/-- What each clause of `LinkCache` supposes is met. -/
theorem witness_LinkCache :
    (∃ (s : State) (r : FabReq) (p : Nat) (line : Nat) (off : Nat) (n : Nat) (x : _),
      Live s ∧ r.master = .plot p ∧ r.addr = hostBase + line * 64 + off ∧ 0 < n ∧ off + n ≤ 64 ∧ line < 2 ^ 41 ∧
          s.dev.cpl.idxDirty = false ∧ s.dev.cpl.ackWait = none ∧ s.dev.cpl.expired = [] ∧ s.dev.cpl.nextTag < 4096 ∧
          Ready s.dev 0 0 1 ∧ Ready s.dev 0 2 1 ∧ Ready s.dev 0 3 5 ∧ s.dev.cpl.reqs = [] ∧ s.dev.cpl.coh = [] ∧ r.op
          = .read n ∧ cacheLine s.dev line = some x ∧ x.data.length = 64) ∧
    (∃ (s : State) (r : FabReq) (p : Nat) (line : Nat) (off : Nat) (n : Nat),
      Live s ∧ r.master = .plot p ∧ r.addr = hostBase + line * 64 + off ∧ 0 < n ∧ off + n ≤ 64 ∧ line < 2 ^ 41 ∧
          s.dev.cpl.idxDirty = false ∧ s.dev.cpl.ackWait = none ∧ s.dev.cpl.expired = [] ∧ s.dev.cpl.nextTag < 4096 ∧
          Ready s.dev 0 0 1 ∧ Ready s.dev 0 2 1 ∧ Ready s.dev 0 3 5 ∧ s.dev.cpl.reqs = [] ∧ s.dev.cpl.coh = [] ∧ r.op
          = .read n ∧ cacheLine s.dev line = none) ∧
    (∃ (s : State) (r : FabReq) (p : Nat) (line : Nat) (off : Nat) (n : Nat) (b : _) (x : _),
      Live s ∧ r.master = .plot p ∧ r.addr = hostBase + line * 64 + off ∧ 0 < n ∧ off + n ≤ 64 ∧ line < 2 ^ 41 ∧
          s.dev.cpl.idxDirty = false ∧ s.dev.cpl.ackWait = none ∧ s.dev.cpl.expired = [] ∧ s.dev.cpl.nextTag < 4096 ∧
          Ready s.dev 0 0 1 ∧ Ready s.dev 0 2 1 ∧ Ready s.dev 0 3 5 ∧ s.dev.cpl.reqs = [] ∧ s.dev.cpl.coh = [] ∧ r.op
          = .write b ∧ b.length = n ∧ cacheLine s.dev line = some x ∧ x.st ≠ .shared) ∧
    (∃ (s : State) (r : FabReq) (p : Nat) (line : Nat) (off : Nat) (n : Nat) (b : _) (x : _),
      Live s ∧ r.master = .plot p ∧ r.addr = hostBase + line * 64 + off ∧ 0 < n ∧ off + n ≤ 64 ∧ line < 2 ^ 41 ∧
          s.dev.cpl.idxDirty = false ∧ s.dev.cpl.ackWait = none ∧ s.dev.cpl.expired = [] ∧ s.dev.cpl.nextTag < 4096 ∧
          Ready s.dev 0 0 1 ∧ Ready s.dev 0 2 1 ∧ Ready s.dev 0 3 5 ∧ s.dev.cpl.reqs = [] ∧ s.dev.cpl.coh = [] ∧ r.op
          = .write b ∧ b.length = n ∧ cacheLine s.dev line = some x ∧ x.st = .shared) ∧
    (∃ (s : State) (r : FabReq) (p : Nat) (line : Nat) (off : Nat) (n : Nat) (b : _),
      Live s ∧ r.master = .plot p ∧ r.addr = hostBase + line * 64 + off ∧ 0 < n ∧ off + n ≤ 64 ∧ line < 2 ^ 41 ∧
          s.dev.cpl.idxDirty = false ∧ s.dev.cpl.ackWait = none ∧ s.dev.cpl.expired = [] ∧ s.dev.cpl.nextTag < 4096 ∧
          Ready s.dev 0 0 1 ∧ Ready s.dev 0 2 1 ∧ Ready s.dev 0 3 5 ∧ s.dev.cpl.reqs = [] ∧ s.dev.cpl.coh = [] ∧ r.op
          = .write b ∧ b.length = n ∧ cacheLine s.dev line = none) ∧
    (∃ (s : State) (r : FabReq) (p : Nat) (line : Nat) (off : Nat) (n : Nat) (x : _),
      Live s ∧ r.master = .plot p ∧ r.addr = hostBase + line * 64 + off ∧ 0 < n ∧ off + n ≤ 64 ∧ line < 2 ^ 41 ∧
          s.dev.cpl.idxDirty = false ∧ s.dev.cpl.ackWait = none ∧ s.dev.cpl.expired = [] ∧ s.dev.cpl.nextTag < 4096 ∧
          Ready s.dev 0 0 1 ∧ Ready s.dev 0 2 1 ∧ Ready s.dev 0 3 5 ∧ s.dev.cpl.reqs = [] ∧ s.dev.cpl.coh = [] ∧
          cacheLine s.dev line = some x ∧ x.st ≠ .modified) ∧
    (∃ (s : State) (r : FabReq) (p : Nat) (line : Nat) (off : Nat) (n : Nat) (x : _),
      Live s ∧ r.master = .plot p ∧ r.addr = hostBase + line * 64 + off ∧ 0 < n ∧ off + n ≤ 64 ∧ line < 2 ^ 41 ∧
          s.dev.cpl.idxDirty = false ∧ s.dev.cpl.ackWait = none ∧ s.dev.cpl.expired = [] ∧ s.dev.cpl.nextTag < 4096 ∧
          Ready s.dev 0 0 1 ∧ Ready s.dev 0 2 1 ∧ Ready s.dev 0 3 5 ∧ s.dev.cpl.reqs = [] ∧ s.dev.cpl.coh = [] ∧
          cacheLine s.dev line = some x ∧ x.st = .modified ∧ x.data.length = 64) ∧
    (∃ (s : State) (r : FabReq) (p : Nat) (line : Nat) (off : Nat) (n : Nat) (x : _),
      Live s ∧ r.master = .plot p ∧ r.addr = hostBase + line * 64 + off ∧ 0 < n ∧ off + n ≤ 64 ∧ line < 2 ^ 41 ∧
          s.dev.cpl.idxDirty = false ∧ s.dev.cpl.ackWait = none ∧ s.dev.cpl.expired = [] ∧ s.dev.cpl.nextTag < 4096 ∧
          Ready s.dev 0 0 1 ∧ Ready s.dev 0 2 1 ∧ Ready s.dev 0 3 5 ∧ s.dev.cpl.reqs = [] ∧ s.dev.cpl.coh = [] ∧
          cacheLine s.dev line = some x ∧ x.st ≠ .modified) ∧
    (∃ (s : State) (r : FabReq) (p : Nat) (line : Nat) (off : Nat) (n : Nat) (x : _),
      Live s ∧ r.master = .plot p ∧ r.addr = hostBase + line * 64 + off ∧ 0 < n ∧ off + n ≤ 64 ∧ line < 2 ^ 41 ∧
          s.dev.cpl.idxDirty = false ∧ s.dev.cpl.ackWait = none ∧ s.dev.cpl.expired = [] ∧ s.dev.cpl.nextTag < 4096 ∧
          Ready s.dev 0 0 1 ∧ Ready s.dev 0 2 1 ∧ Ready s.dev 0 3 5 ∧ s.dev.cpl.reqs = [] ∧ s.dev.cpl.coh = [] ∧
          cacheLine s.dev line = some x ∧ x.st = .modified ∧ x.data.length = 64) ∧
    (∃ (s : State) (r : FabReq) (p : Nat) (line : Nat) (off : Nat) (n : Nat) (g : Nat) (op : Nat) (x : HostReq) (data
        : List Byte),
      Live s ∧ r.master = .plot p ∧ r.addr = hostBase + line * 64 + off ∧ 0 < n ∧ off + n ≤ 64 ∧ line < 2 ^ 41 ∧
          s.dev.cpl.idxDirty = false ∧ s.dev.cpl.ackWait = none ∧ s.dev.cpl.expired = [] ∧ s.dev.cpl.nextTag < 4096 ∧
          Ready s.dev 0 0 1 ∧ Ready s.dev 0 2 1 ∧ Ready s.dev 0 3 5 ∧ s.dev.cpl.coh = [⟨g, op, line, [], 0⟩] ∧
          s.dev.cpl.reqs = [x] ∧ x = ⟨x.id, .fab r, r.addr, n, x.data, false, [line], []⟩ ∧ data.length = 64 ∧ op = 1
          ∧ x.data = none ∧ r.op = .read n ∧ cacheLine s.dev line = none) ∧
    (∃ (s : State) (r : FabReq) (p : Nat) (line : Nat) (off : Nat) (n : Nat) (g : Nat) (op : Nat) (x : HostReq) (data
        : List Byte) (b : _),
      Live s ∧ r.master = .plot p ∧ r.addr = hostBase + line * 64 + off ∧ 0 < n ∧ off + n ≤ 64 ∧ line < 2 ^ 41 ∧
          s.dev.cpl.idxDirty = false ∧ s.dev.cpl.ackWait = none ∧ s.dev.cpl.expired = [] ∧ s.dev.cpl.nextTag < 4096 ∧
          Ready s.dev 0 0 1 ∧ Ready s.dev 0 2 1 ∧ Ready s.dev 0 3 5 ∧ s.dev.cpl.coh = [⟨g, op, line, [], 0⟩] ∧
          s.dev.cpl.reqs = [x] ∧ x = ⟨x.id, .fab r, r.addr, n, x.data, false, [line], []⟩ ∧ data.length = 64 ∧ op = 2
          ∧ x.data = some b ∧ b.length = n) ∧
    (∃ (s : State) (r : FabReq) (p : Nat) (line : Nat) (off : Nat) (n : Nat) (g : Nat) (op : Nat) (x : HostReq) (data
        : List Byte) (b : _) (old : _),
      Live s ∧ r.master = .plot p ∧ r.addr = hostBase + line * 64 + off ∧ 0 < n ∧ off + n ≤ 64 ∧ line < 2 ^ 41 ∧
          s.dev.cpl.idxDirty = false ∧ s.dev.cpl.ackWait = none ∧ s.dev.cpl.expired = [] ∧ s.dev.cpl.nextTag < 4096 ∧
          Ready s.dev 0 0 1 ∧ Ready s.dev 0 2 1 ∧ Ready s.dev 0 3 5 ∧ s.dev.cpl.coh = [⟨g, op, line, [], 0⟩] ∧
          s.dev.cpl.reqs = [x] ∧ x = ⟨x.id, .fab r, r.addr, n, x.data, false, [line], []⟩ ∧ data.length = 64 ∧ op = 3
          ∧ x.data = some b ∧ b.length = n ∧ cacheLine s.dev line = some old ∧ old.data.length = 64) ∧
    (∃ (s : State) (r : FabReq) (p : Nat) (line : Nat) (off : Nat) (n : Nat) (g : Nat) (x : HostReq) (data : List
        Byte) (run : Nat) (row : Nat),
      Live s ∧ r.master = .plot p ∧ r.addr = hostBase + line * 64 + off ∧ 0 < n ∧ off + n ≤ 64 ∧ line < 2 ^ 41 ∧
          s.dev.cpl.idxDirty = false ∧ s.dev.cpl.ackWait = none ∧ s.dev.cpl.expired = [] ∧ s.dev.cpl.nextTag < 4096 ∧
          Ready s.dev 0 0 1 ∧ Ready s.dev 0 2 1 ∧ Ready s.dev 0 3 5 ∧ s.dev.cpl.coh = [⟨g, 5, line, [], 0⟩] ∧
          s.dev.cpl.reqs = [x] ∧ x = ⟨x.id, .dma p run row, r.addr, n, none, true, [line], []⟩ ∧ data.length = 64) ∧
    (∃ (s : State) (r : FabReq) (p : Nat) (line : Nat) (off : Nat) (n : Nat) (g : Nat) (data : List Byte),
      Live s ∧ r.master = .plot p ∧ r.addr = hostBase + line * 64 + off ∧ 0 < n ∧ off + n ≤ 64 ∧ line < 2 ^ 41 ∧
          s.dev.cpl.idxDirty = false ∧ s.dev.cpl.ackWait = none ∧ s.dev.cpl.expired = [] ∧ s.dev.cpl.nextTag < 4096 ∧
          Ready s.dev 0 0 1 ∧ Ready s.dev 0 2 1 ∧ Ready s.dev 0 3 5 ∧ s.dev.cpl.coh = [⟨g, 7, line, data, 0⟩] ∧
          s.dev.cpl.reqs = []) :=
  ⟨⟨cached [(2 ^ 41 - 1, ⟨.shared, zeros 64⟩)] id, hostFab (.read 1) 63, 4, 2 ^ 41 - 1, 63, 1, ⟨.shared, zeros 64⟩,
      by
      delta Live Ready
      try dsimp only
      decide +kernel⟩,
    ⟨cached [] id, hostFab (.read 1) 63, 4, 2 ^ 41 - 1, 63, 1, by
      delta Live Ready
      try dsimp only
      decide +kernel⟩,
    ⟨cached [(2 ^ 41 - 1, ⟨.exclusive, zeros 64⟩)] id, hostFab (.write [7]) 63, 4, 2 ^ 41 - 1, 63, 1, [7],
      ⟨.exclusive, zeros 64⟩, by
      delta Live Ready
      try dsimp only
      decide +kernel⟩,
    ⟨cached [(2 ^ 41 - 1, ⟨.shared, zeros 64⟩)] id, hostFab (.write [7]) 63, 4, 2 ^ 41 - 1, 63, 1, [7], ⟨.shared,
      zeros 64⟩, by
      delta Live Ready
      try dsimp only
      decide +kernel⟩,
    ⟨cached [] id, hostFab (.write (List.replicate 64 7)) 0, 4, 2 ^ 41 - 1, 0, 64, List.replicate 64 7, by
      delta Live Ready
      try dsimp only
      decide +kernel⟩,
    ⟨cached [(2 ^ 41 - 1, ⟨.shared, zeros 64⟩)] id, hostFab (.read 1) 63, 4, 2 ^ 41 - 1, 63, 1, ⟨.shared, zeros 64⟩,
      by
      delta Live Ready
      try dsimp only
      decide +kernel⟩,
    ⟨cached [(2 ^ 41 - 1, ⟨.modified, zeros 64⟩)] id, hostFab (.read 1) 63, 4, 2 ^ 41 - 1, 63, 1, ⟨.modified, zeros
      64⟩, by
      delta Live Ready
      try dsimp only
      decide +kernel⟩,
    ⟨cached [(2 ^ 41 - 1, ⟨.exclusive, zeros 64⟩)] id, hostFab (.read 1) 63, 4, 2 ^ 41 - 1, 63, 1, ⟨.exclusive, zeros
      64⟩, by
      delta Live Ready
      try dsimp only
      decide +kernel⟩,
    ⟨cached [(2 ^ 41 - 1, ⟨.modified, zeros 64⟩)] id, hostFab (.read 1) 63, 4, 2 ^ 41 - 1, 63, 1, ⟨.modified, zeros
      64⟩, by
      delta Live Ready
      try dsimp only
      decide +kernel⟩,
    ⟨cached [] (fun d =>
      { d with cpl := { d.cpl with coh := [⟨9, 1, 2 ^ 41 - 1, [], 0⟩], reqs := [⟨2, .fab (hostFab (.read 1) 63), hostBase + (2 ^ 41 - 1) * 64 + 63, 1, none, false, [2 ^ 41 - 1], []⟩] } }),
      hostFab (.read 1) 63, 4, 2 ^ 41 - 1, 63, 1, 9, 1, ⟨2, .fab (hostFab (.read 1) 63), hostBase + (2 ^ 41 - 1) * 64
      + 63, 1, none, false, [2 ^ 41 - 1], []⟩, List.replicate 64 5, by
      delta Live Ready
      try dsimp only
      decide +kernel⟩,
    ⟨cached [] (fun d =>
      { d with cpl := { d.cpl with coh := [⟨9, 2, 2 ^ 41 - 1, [], 0⟩], reqs := [⟨2, .fab (hostFab (.write [7]) 63), hostBase + (2 ^ 41 - 1) * 64 + 63, 1, some [7], false, [2 ^ 41 - 1], []⟩] } }),
      hostFab (.write [7]) 63, 4, 2 ^ 41 - 1, 63, 1, 9, 2, ⟨2, .fab (hostFab (.write [7]) 63), hostBase + (2 ^ 41 -
      1) * 64 + 63, 1, some [7], false, [2 ^ 41 - 1], []⟩, List.replicate 64 5, [7], by
      delta Live Ready
      try dsimp only
      decide +kernel⟩,
    ⟨cached [(2 ^ 41 - 1, ⟨.shared, zeros 64⟩)] (fun d =>
      { d with cpl := { d.cpl with coh := [⟨9, 3, 2 ^ 41 - 1, [], 0⟩], reqs := [⟨2, .fab (hostFab (.write [7]) 63), hostBase + (2 ^ 41 - 1) * 64 + 63, 1, some [7], false, [2 ^ 41 - 1], []⟩] } }),
      hostFab (.write [7]) 63, 4, 2 ^ 41 - 1, 63, 1, 9, 3, ⟨2, .fab (hostFab (.write [7]) 63), hostBase + (2 ^ 41 -
      1) * 64 + 63, 1, some [7], false, [2 ^ 41 - 1], []⟩, List.replicate 64 5, [7], ⟨.shared, zeros 64⟩, by
      delta Live Ready
      try dsimp only
      decide +kernel⟩,
    ⟨cached [] (fun d =>
      { d with cpl := { d.cpl with coh := [⟨9, 5, 2 ^ 41 - 1, [], 0⟩], reqs := [⟨2, .dma 4 8 0, hostBase + (2 ^ 41 - 1) * 64 + 63, 1, none, true, [2 ^ 41 - 1], []⟩] } }),
      hostFab (.read 1) 63, 4, 2 ^ 41 - 1, 63, 1, 9, ⟨2, .dma 4 8 0, hostBase + (2 ^ 41 - 1) * 64 + 63, 1, none,
      true, [2 ^ 41 - 1], []⟩, List.replicate 64 5, 8, 0, by
      delta Live Ready
      try dsimp only
      decide +kernel⟩,
    ⟨cached [] (fun d => { d with cpl := { d.cpl with coh := [⟨9, 7, 2 ^ 41 - 1, zeros 64, 0⟩] } }), hostFab (.read
      1) 63, 4, 2 ^ 41 - 1, 63, 1, 9, zeros 64, by
      delta Live Ready
      try dsimp only
      decide +kernel⟩⟩

/-- What each clause of `FabricTargets` supposes is met. -/
theorem witness_FabricTargets :
    (∃ (s : State) (r : FabReq) (p : Nat) (q : Nat) (n : Nat) (off : Nat) (k : _),
      Live s ∧ Calm s.dev ∧ r.master = .plot q ∧ plotHalf q = plotHalf p ∧ r.late = false ∧ s.dev.phys n = some p ∧ n
          < 1024 ∧ off < 2 ^ 20 ∧ r.addr = scrWindow n + off ∧ (s.dev.plot p).sleep = 0 ∧ Sound (s.dev.plot p) ∧
          reqFits r = true ∧ r.op = .read k ∧ 0 < k ∧ (∀ u ∈ linesOf off k, unitState (s.dev.plot p) u = 0)) ∧
    (∃ (s : State) (r : FabReq) (p : Nat) (q : Nat) (n : Nat) (off : Nat) (b : _),
      Live s ∧ Calm s.dev ∧ r.master = .plot q ∧ plotHalf q = plotHalf p ∧ r.late = false ∧ s.dev.phys n = some p ∧ n
          < 1024 ∧ off < 2 ^ 20 ∧ r.addr = scrWindow n + off ∧ (s.dev.plot p).sleep = 0 ∧ Sound (s.dev.plot p) ∧
          reqFits r = true ∧ r.op = .write b ∧ b ≠ []) ∧
    (∃ (s : State) (r : FabReq) (q : Nat) (k : Nat),
      Live s ∧ Calm s.dev ∧ r.master = .plot q ∧ r.op = .read k ∧ 0 < k ∧ reqFits r = true ∧ decodeAddr r.addr =
          .unmapped) ∧
    (∃ (s : State) (r : FabReq) (q : Nat) (k : Nat) (n : _) (off : _),
      Live s ∧ Calm s.dev ∧ r.master = .plot q ∧ r.op = .read k ∧ 0 < k ∧ reqFits r = true ∧ decodeAddr r.addr =
          .scratch n off ∧ s.dev.phys n = none) ∧
    (∃ (s : State) (p : _) (n : _) (off : _) (k : _),
      Live s ∧ Calm s.dev ∧ s.dev.cpl.ncOut = 0 ∧ s.dev.phys n = some p ∧ p < 1024 ∧ n < 1024 ∧ off < 2 ^ 20 ∧
          (s.dev.plot p).sleep = 0 ∧ Sound (s.dev.plot p) ∧ 0 < k ∧ off % 256 + k ≤ 256 ∧ k ≤ 224 ∧ (∀ u ∈ linesOf
          off k, unitState (s.dev.plot p) u = 0) ∧ Ready s.dev 0 3 (1 + (k + 15) / 16)) ∧
    (∃ (s : State) (p : _) (n : _) (off : _) (b : List Byte),
      Live s ∧ Calm s.dev ∧ s.dev.cpl.ncOut = 0 ∧ s.dev.phys n = some p ∧ p < 1024 ∧ n < 1024 ∧ off < 2 ^ 20 ∧
          (s.dev.plot p).sleep = 0 ∧ Sound (s.dev.plot p) ∧ b ≠ [] ∧ off % 256 + b.length ≤ 256) ∧
    (∃ (s : State) (a : _), Live s ∧ Calm s.dev ∧ s.dev.cpl.ncOut = 0 ∧ hostBase ≤ a ∧ Ready s.dev 0 2 1) ∧
    (∃ (s : State) (gap : _) (mbx : _) (evt : _) (out : _),
      Live s ∧ Calm s.dev ∧ gap < 2 ^ 16 ∧ mbx < 2 ^ 16 ∧ evt < 2 ^ 16 ∧ out < 2 ^ 16) ∧
    (∃ (s : State) (size : _), Live s ∧ Calm s.dev ∧ size ≠ 8) :=
  ⟨⟨target id, ⟨.plot 4, 0, .read 256, scrWindow 1023 + 0xFFF00, none, false, 0, []⟩, 0, 4, 1023, 0xFFF00, 256, by
      delta Live Sound Calm
      decide +kernel⟩,
    ⟨target id, ⟨.plot 4, 0, .write [5], scrWindow 1023 + 0xFFFFF, none, false, 0, []⟩, 0, 4, 1023, 0xFFFFF, [5], by
      delta Live Sound Calm
      decide +kernel⟩,
    ⟨target id, ⟨.plot 4, 0, .read 32, 0x1800000000, none, false, 0, []⟩, 4, 32, by
      delta Live Calm
      decide +kernel⟩,
    ⟨target id, ⟨.plot 4, 0, .read 32, scrWindow 1022, none, false, 0, []⟩, 4, 32, 1022, 0, by
      delta Live Calm
      decide +kernel⟩,
    ⟨target id, 0, 1023, 32, 224, by
      delta Live Sound Ready Calm
      decide +kernel⟩,
    ⟨target id, 0, 1023, 255, [5], by
      delta Live Sound Calm
      decide +kernel⟩,
    ⟨target id, hostBase, by
      delta Live Ready Calm
      decide +kernel⟩,
    ⟨target id, 65535, 0, 65535, 1, by
      delta Live Calm
      decide +kernel⟩,
    ⟨target id, 4, by
      delta Live Calm
      decide +kernel⟩⟩

/-- What each clause of `LinkRegisters` supposes is met. -/
theorem witness_LinkRegisters :
    (∃ (s : State) (r : _) (en : _) (lg : _) (base : _),
      Live s ∧ r < 3 ∧ en < 2 ∧ lg ≤ 20 ∧ base % 64 = 0 ∧ hostBase ≤ base ∧ base + 2 ^ lg * ringSize r ≤ 2 ^ 48 ∧
          s.dev.rg fCPL_IDX_ADDR_ADDR ≠ 0 ∧ s.dev.rg (fCPL_RING_CFG_ENABLE.at r) = 0) ∧
    (∃ (s : State) (new : _),
      Live s ∧ new < 2 ^ 32 ∧ s.dev.rg (fCPL_RING_CFG_ENABLE.at 1) = 1 ∧
      let p := s.dev.rg (fCPL_RING_IDX_PRODUCER.at 1)
      let c := s.dev.rg (fCPL_RING_IDX_CONSUMER.at 1)
      (new + 2 ^ 32 - c) % 2 ^ 32 ≤ (p + 2 ^ 32 - c) % 2 ^ 32) ∧
    (∃ (s : State) (new : _),
      Live s ∧ new < 2 ^ 32 ∧ s.dev.rg (fCPL_RING_CFG_ENABLE.at 1) = 1 ∧
      let p := s.dev.rg (fCPL_RING_IDX_PRODUCER.at 1)
      let c := s.dev.rg (fCPL_RING_IDX_CONSUMER.at 1)
      (p + 2 ^ 32 - c) % 2 ^ 32 < (new + 2 ^ 32 - c) % 2 ^ 32) ∧
    (∃ (s : State),
      Live s ∧ s.dev.rg (fCPL_RING_CFG_ENABLE.at 0) = 1 ∧ s.dev.cpl.reqs = [] ∧ s.dev.rg (fCPL_RING_IDX_PRODUCER.at
          0) < 2 ^ 32 ∧ s.dev.rg (fCPL_RING_IDX_CONSUMER.at 0) < 2 ^ 32 ∧
      let p := s.dev.rg (fCPL_RING_IDX_PRODUCER.at 0)
      let c := s.dev.rg (fCPL_RING_IDX_CONSUMER.at 0)
      (p + 1 + 2 ^ 32 - c) % 2 ^ 32 ≤ 2 ^ s.dev.rg (fCPL_RING_CFG_LOG2.at 0)) ∧
    (∃ (s : State) (a : _),
      Live s ∧ (∀ r, r < 3 → s.dev.rg (fCPL_RING_CFG_ENABLE.at r) = 0) ∧ a % 64 = 0 ∧ hostBase ≤ a ∧ a < 2 ^ 48) ∧
    (∃ (s : State) (t : _) (l : _), Live s ∧ 0 < t ∧ t < 2 ^ 16 ∧ 0 < l ∧ l < 16) ∧
    (∃ (s : State) (h : _) (m : _) (p : _), Live s ∧ h < 2 ^ 16 ∧ 0 < m ∧ m < 16 ∧ 0 < p ∧ p ≤ 1000) ∧
    (∃ (s : State) (h : _) (m : _), Live s ∧ h < 2 ^ 16 ∧ m < 16) ∧
    (∃ (s : State) (g : _), Live s ∧ g < 2 ^ 32 ∧ g = s.dev.rg fCPL_STATUS_ATTACH_GEN) ∧
    (∃ (s : State) (g : _), Live s ∧ g < 2 ^ 32 ∧ g ≠ s.dev.rg fCPL_STATUS_ATTACH_GEN) ∧
    (∃ (s : State) (ir : _) (h : _) (dev : _), Live s ∧ ir < 2 ∧ 0 < h ∧ h < 64 ∧ dev < 2 ^ 16) ∧
    (∃ (s : State) (q : _) (l : _), Live s ∧ q < 16 ∧ 0 < l ∧ l < 16) ∧
    (∃ (s : State) (q : _), Live s ∧ q < 16) ∧
    (∃ (s : State) (v : _),
      Live s ∧ v < 2 ^ 20 ∧
      let ix := s.dev.rg fSOP_ROUTE_ADDR_INDEX
      let table := s.dev.rg fSOP_ROUTE_ADDR_TABLE
      (table = 1 → ix < 64) ∧ (∀ i, i < 4 → bitOf v (16 + i) = true → bitsOf v (4 * i) 4 < licencePorts s.dev)) ∧
    (∃ (s : State) (v : _),
      Live s ∧ v < 2 ^ 20 ∧
      let ix := s.dev.rg fSOP_ROUTE_ADDR_INDEX
      let table := s.dev.rg fSOP_ROUTE_ADDR_TABLE
      ((table = 1 ∧ 64 ≤ ix) ∨ (∃ i, i < 4 ∧ bitOf v (16 + i) = true ∧ licencePorts s.dev ≤ bitsOf v (4 * i) 4))) :=
  ⟨⟨live (fun d => d.rs fCPL_IDX_ADDR_ADDR hostBase), 2, 1, 20, 2 ^ 48 - 2 ^ 25, by
      delta Live
      decide +kernel⟩,
    ⟨live (fun d => (d.rs (fCPL_RING_CFG_ENABLE.at 1) 1).rs (fCPL_RING_IDX_PRODUCER.at 1) 3), 3, by
      delta Live
      try dsimp only
      decide +kernel⟩,
    ⟨live (fun d => (d.rs (fCPL_RING_CFG_ENABLE.at 1) 1).rs (fCPL_RING_IDX_PRODUCER.at 1) 3), 4, by
      delta Live
      try dsimp only
      decide +kernel⟩,
    ⟨live (fun d => (d.rs (fCPL_RING_CFG_ENABLE.at 0) 1).rs (fCPL_RING_IDX_PRODUCER.at 0) (2 ^ 32 - 1) |>.rs
      (fCPL_RING_IDX_CONSUMER.at 0) (2 ^ 32 - 1)), by
      delta Live
      try dsimp only
      decide +kernel⟩,
    ⟨live id, hostBase, by
      delta Live
      decide +kernel⟩,
    ⟨live id, 65535, 15, by
      delta Live
      decide +kernel⟩,
    ⟨live id, 65535, 15, 1000, by
      delta Live
      decide +kernel⟩,
    ⟨live id, 65535, 15, by
      delta Live
      decide +kernel⟩,
    ⟨live (fun d => d.rs fCPL_STATUS_ATTACH_GEN (2 ^ 32 - 1)), 2 ^ 32 - 1, by
      delta Live
      decide +kernel⟩,
    ⟨live (fun d => d.rs fCPL_STATUS_ATTACH_GEN (2 ^ 32 - 1)), 0, by
      delta Live
      decide +kernel⟩,
    ⟨live (fun d => d.rs fBRW_STATUS_STEP 5), 1, 63, 65535, by
      delta Live
      decide +kernel⟩,
    ⟨live id, 15, 15, by
      delta Live
      decide +kernel⟩,
    ⟨live id, 15, by
      delta Live
      decide +kernel⟩,
    ⟨live (fun d =>
      { (d.rs fSOP_ROUTE_ADDR_TABLE 1).rs fSOP_ROUTE_ADDR_INDEX 63 with licence := some ⟨1, 512, 512, 16, true, true⟩ }),
      0xFFFFF, by
      delta Live
      try dsimp only
      decide +kernel⟩,
    ⟨live (fun d => (d.rs fSOP_ROUTE_ADDR_TABLE 1).rs fSOP_ROUTE_ADDR_INDEX 64), 0, by
      delta Live
      refine ⟨by decide +kernel, by decide +kernel, Or.inl (by decide +kernel)⟩⟩⟩

/-- What each clause of `CompanionPresence` supposes is met. -/
theorem witness_CompanionPresence :
    (∃ (s : State) (minor : _) (ty : _) (flags : _) (seq : _) (status : _) (body : List Byte),
      Live s ∧ minor < 256 ∧ ty ∈ mailTypes ∧ flags < 4 ∧ seq < 2 ^ 32 ∧ status < 2 ^ 16 ∧ body.length ≤ 4080 ∧
          s.dev.rg fCPL_MBX_STATUS_IN_READY = 1 ∧ s.dev.rg fCPL_MBX_STATUS_IN_BUSY = 0 ∧ (ty = 1 ∨ s.dev.rg
          fCPL_STATUS_HELLO_DONE = 1) ∧
      let m : Mail := ⟨1, minor, ty, flags, seq, status, body⟩
      memRead s.dev.cpl.mboxIn 0 (16 + body.length) = m.bytes) ∧
    (∃ (s : State) (m : Mail), Live s ∧ m.body.length ≤ 4080 ∧ MailIn s.dev 4 m) ∧
    (∃ (s : State) (m : Mail),
      Live s ∧ m.body.length ≤ 4080 ∧ MailIn s.dev 1 m ∧ m.major = 1 ∧ s.dev.rg fBRW_STATUS_STEP ≠ 11) ∧
    (∃ (s : State) (m : Mail),
      Live s ∧ m.body.length ≤ 4080 ∧ MailIn s.dev 1 m ∧ m.major ≠ 1 ∧ s.dev.rg fBRW_STATUS_STEP ≠ 11) ∧
    (∃ (s : State) (m : Mail), Live s ∧ m.body.length ≤ 4080 ∧ MailIn s.dev 3 m) ∧
    (∃ (s : State) (m : Mail) (g : _) (keep : _),
      Live s ∧ m.body.length ≤ 4080 ∧ MailIn s.dev 2 m ∧ g < 2 ^ 32 ∧ keep < 2 ∧ m.body = leBytes 4 g ++ leBytes 4
          keep ∧ g ≠ 0 ∧ g ≠ s.dev.rg fCPL_STATUS_ATTACH_GEN) ∧
    (∃ (s : State) (m : Mail) (g : _) (keep : _),
      Live s ∧ m.body.length ≤ 4080 ∧ MailIn s.dev 2 m ∧ g < 2 ^ 32 ∧ keep < 2 ∧ m.body = leBytes 4 g ++ leBytes 4
          keep ∧ (g = 0 ∨ g = s.dev.rg fCPL_STATUS_ATTACH_GEN)) ∧
    (∃ (s : State) (seq : _),
      Live s ∧ seq < 2 ^ 32 ∧ s.dev.rg fCPL_MBX_STATUS_OUT_FULL = 1 ∧ s.dev.rg fCPL_MBX_STATUS_OUT_SEQ = seq ∧
          s.dev.cpl.mailq = []) ∧
    (∃ (s : State) (seq : _) (m : _) (q : _),
      Live s ∧ seq < 2 ^ 32 ∧ s.dev.rg fCPL_MBX_STATUS_OUT_FULL = 1 ∧ s.dev.rg fCPL_MBX_STATUS_OUT_SEQ = seq ∧
          s.dev.cpl.mailq = m :: q) ∧
    (∃ (s : State) (vec : _), Live s ∧ vec < 0xFFFF ∧ s.dev.cpl.gaps = [vec] ∧ s.dev.cpl.held = []) ∧
    (∃ (s : State) (vec : _),
      Live s ∧ vec < 0xFFFF ∧ s.dev.cpl.gaps = [vec] ∧ s.dev.cpl.held = [vec] ∧ s.dev.rg fCPL_NOTIFY_GAP ≠ 0 ∧ Ready
          s.dev 0 2 1) ∧
    (∃ (s : State), Live s ∧ s.dev.cpl.hbOn = true ∧ s.dev.cpl.missed + 1 < s.dev.rg fCPL_HB_CFG_MISSES) ∧
    (∃ (s : State), Live s ∧ s.dev.cpl.hbOn = true ∧ s.dev.rg fCPL_HB_CFG_MISSES ≤ s.dev.cpl.missed + 1) :=
  ⟨⟨live (fun d =>
      { (d.rs fCPL_MBX_STATUS_IN_READY 1) with cpl := { d.cpl with mboxIn := memWrite [] 0 (Mail.mk 1 255 1 3 7 65535 [4]).bytes } }),
      255, 1, 3, 7, 65535, [4], by
      delta Live
      try dsimp only
      decide +kernel⟩,
    ⟨live (fun d => { d.rs fSHD_FW_STATE 2 with cpl := { d.cpl with mail := some ⟨1, 0, 4, 0, 7, 0, [4]⟩ } }), ⟨1, 0,
      4, 0, 7, 0, [4]⟩, by
      delta Live MailIn
      decide +kernel⟩,
    ⟨live (fun d => { d.rs fSHD_FW_STATE 2 with cpl := { d.cpl with mail := some ⟨1, 0, 1, 0, 7, 0, zeros 8⟩ } }),
      ⟨1, 0, 1, 0, 7, 0, zeros 8⟩, by
      delta Live MailIn
      decide +kernel⟩,
    ⟨live (fun d => { d.rs fSHD_FW_STATE 2 with cpl := { d.cpl with mail := some ⟨2, 0, 1, 0, 7, 0, zeros 8⟩ } }),
      ⟨2, 0, 1, 0, 7, 0, zeros 8⟩, by
      delta Live MailIn
      decide +kernel⟩,
    ⟨live (fun d => { d.rs fSHD_FW_STATE 2 with cpl := { d.cpl with mail := some ⟨1, 0, 3, 0, 7, 0, []⟩ } }), ⟨1, 0,
      3, 0, 7, 0, []⟩, by
      delta Live MailIn
      decide +kernel⟩,
    ⟨live (fun d =>
      { d.rs fSHD_FW_STATE 2 with cpl := { d.cpl with mail := some ⟨1, 0, 2, 0, 7, 0, leBytes 4 6 ++ leBytes 4 1⟩ } }),
      ⟨1, 0, 2, 0, 7, 0, leBytes 4 6 ++ leBytes 4 1⟩, 6, 1, by
      delta Live MailIn
      decide +kernel⟩,
    ⟨live (fun d =>
      { d.rs fSHD_FW_STATE 2 with cpl := { d.cpl with mail := some ⟨1, 0, 2, 0, 7, 0, leBytes 4 0 ++ leBytes 4 1⟩ } }),
      ⟨1, 0, 2, 0, 7, 0, leBytes 4 0 ++ leBytes 4 1⟩, 0, 1, by
      delta Live MailIn
      decide +kernel⟩,
    ⟨live (fun d => (d.rs fCPL_MBX_STATUS_OUT_FULL 1).rs fCPL_MBX_STATUS_OUT_SEQ (2 ^ 32 - 1)), 2 ^ 32 - 1, by
      delta Live
      decide +kernel⟩,
    ⟨live (fun d =>
      { (d.rs fCPL_MBX_STATUS_OUT_FULL 1).rs fCPL_MBX_STATUS_OUT_SEQ (2 ^ 32 - 1) with cpl := { d.cpl with mailq := [⟨1, 0, 4, 1, 7, 0, [4]⟩] } }),
      2 ^ 32 - 1, ⟨1, 0, 4, 1, 7, 0, [4]⟩, [], by
      delta Live
      decide +kernel⟩,
    ⟨live (fun d => { d with cpl := { d.cpl with gaps := [0xFFFE] } }), 0xFFFE, by
      delta Live
      decide +kernel⟩,
    ⟨live (fun d => { d.rs fCPL_NOTIFY_GAP 5 with cpl := { d.cpl with gaps := [0xFFFE], held := [0xFFFE] } }.setLink
      0 upLink), 0xFFFE, by
      delta Live Ready
      decide +kernel⟩,
    ⟨live (fun d => { d.rs fCPL_HB_CFG_MISSES 5 with cpl := { d.cpl with hbOn := true, missed := 3 } }), by
      delta Live
      decide +kernel⟩,
    ⟨live (fun d => { d.rs fCPL_HB_CFG_MISSES 5 with cpl := { d.cpl with hbOn := true, missed := 4 } }), by
      delta Live
      decide +kernel⟩⟩

/-- What each clause of `ScaleOutRequests` supposes is met. -/
theorem witness_ScaleOutRequests :
    (∃ (s : State) (port : Nat) (src : Nat) (hops : Nat) (tag : Nat) (q : Nat) (source : Nat) (p : _) (n : _) (off :
        _) (b : List Byte),
      Live s ∧ Calm s.dev ∧ port < 16 ∧ s.dev.rg (fSOP_PORT_STATUS_STATE.at port) = 3 ∧ src < 2 ^ 16 ∧ hops < 64 ∧
          tag < 2 ^ 14 ∧ source < 2 ^ 10 ∧ s.dev.rg fSOP_DEV_DEV_ID < 2 ^ 16 ∧ (∀ o, 9 ≤ o → o < 18 → octetRole s.dev
          o ≠ 2 ∨ octetPort s.dev o ≠ port) ∧ sopRoute s.dev tag src = some q ∧ s.dev.phys n = some p ∧ p < 1024 ∧ n
          < 1024 ∧ off < 2 ^ 20 ∧ (s.dev.plot p).sleep = 0 ∧ Sound (s.dev.plot p) ∧ b ≠ [] ∧ off % 256 + b.length ≤
          256 ∧ Ready s.dev (1 + q) 1 1) ∧
    (∃ (s : State) (port : Nat) (src : Nat) (hops : Nat) (tag : Nat) (q : Nat) (source : Nat) (p : _) (n : _) (off :
        _) (k : _),
      Live s ∧ Calm s.dev ∧ port < 16 ∧ s.dev.rg (fSOP_PORT_STATUS_STATE.at port) = 3 ∧ src < 2 ^ 16 ∧ hops < 64 ∧
          tag < 2 ^ 14 ∧ source < 2 ^ 10 ∧ s.dev.rg fSOP_DEV_DEV_ID < 2 ^ 16 ∧ (∀ o, 9 ≤ o → o < 18 → octetRole s.dev
          o ≠ 2 ∨ octetPort s.dev o ≠ port) ∧ sopRoute s.dev tag src = some q ∧ s.dev.phys n = some p ∧ p < 1024 ∧ n
          < 1024 ∧ off < 2 ^ 20 ∧ (s.dev.plot p).sleep = 0 ∧ Sound (s.dev.plot p) ∧ 0 < k ∧ k ≤ 224 ∧ off % 256 + k ≤
          256 ∧ (∀ u ∈ linesOf off k, unitState (s.dev.plot p) u = 0) ∧ Ready s.dev (1 + q) 1 (1 + (k + 15) / 16)) ∧
    (∃ (s : State) (port : Nat) (src : Nat) (hops : Nat) (tag : Nat) (q : Nat) (source : Nat) (p : _) (n : _) (off :
        _) (ctr : _) (add : _),
      Live s ∧ Calm s.dev ∧ port < 16 ∧ s.dev.rg (fSOP_PORT_STATUS_STATE.at port) = 3 ∧ src < 2 ^ 16 ∧ hops < 64 ∧
          tag < 2 ^ 14 ∧ source < 2 ^ 10 ∧ s.dev.rg fSOP_DEV_DEV_ID < 2 ^ 16 ∧ (∀ o, 9 ≤ o → o < 18 → octetRole s.dev
          o ≠ 2 ∨ octetPort s.dev o ≠ port) ∧ sopRoute s.dev tag src = some q ∧ s.dev.phys n = some p ∧ p < 1024 ∧ n
          < 1024 ∧ off < 2 ^ 20 ∧ (s.dev.plot p).sleep = 0 ∧ Sound (s.dev.plot p) ∧ ctr < 256 ∧ add < 2 ^ 16 ∧ Ready
          s.dev (1 + q) 1 1) ∧
    (∃ (s : State) (port : Nat) (src : Nat) (hops : Nat) (tag : Nat) (q : Nat) (source : Nat) (op : _) (addr : _) (b
        : List Byte),
      Live s ∧ Calm s.dev ∧ port < 16 ∧ s.dev.rg (fSOP_PORT_STATUS_STATE.at port) = 3 ∧ src < 2 ^ 16 ∧ hops < 64 ∧
          tag < 2 ^ 14 ∧ source < 2 ^ 10 ∧ s.dev.rg fSOP_DEV_DEV_ID < 2 ^ 16 ∧ (∀ o, 9 ≤ o → o < 18 → octetRole s.dev
          o ≠ 2 ∨ octetPort s.dev o ≠ port) ∧ sopRoute s.dev tag src = some q ∧ op < 6 ∧ b ≠ [] ∧ addr % 256 +
          b.length ≤ 256 ∧ addr < 0x1800000000 ∧ (gddrMap addr).1 < 12 ∧ s.dev.rg (fGDC_STATUS_STATE.at (gddrMap
          addr).1) = 2) ∧
    (∃ (s : State) (port : Nat) (src : Nat) (hops : Nat) (tag : Nat) (q : Nat) (source : Nat) (j : _),
      Live s ∧ Calm s.dev ∧ port < 16 ∧ s.dev.rg (fSOP_PORT_STATUS_STATE.at port) = 3 ∧ src < 2 ^ 16 ∧ hops < 64 ∧
          tag < 2 ^ 14 ∧ source < 2 ^ 10 ∧ s.dev.rg fSOP_DEV_DEV_ID < 2 ^ 16 ∧ (∀ o, 9 ≤ o → o < 18 → octetRole s.dev
          o ≠ 2 ∨ octetPort s.dev o ≠ port) ∧ sopRoute s.dev tag src = some q ∧ j < 2 ^ 20 ∧ s.dev.rg
          fSOP_DEV_INBOUND_REG = 0 ∧ Ready s.dev (1 + q) 1 1) ∧
    (∃ (s : State) (port : Nat) (src : Nat) (hops : Nat) (tag : Nat) (q : Nat) (source : Nat) (n : _) (ctr : _) (add
        : _),
      Live s ∧ Calm s.dev ∧ port < 16 ∧ s.dev.rg (fSOP_PORT_STATUS_STATE.at port) = 3 ∧ src < 2 ^ 16 ∧ hops < 64 ∧
          tag < 2 ^ 14 ∧ source < 2 ^ 10 ∧ s.dev.rg fSOP_DEV_DEV_ID < 2 ^ 16 ∧ (∀ o, 9 ≤ o → o < 18 → octetRole s.dev
          o ≠ 2 ∨ octetPort s.dev o ≠ port) ∧ sopRoute s.dev tag src = some q ∧ n < 1024 ∧ ctr < 256 ∧ add < 2 ^ 16 ∧
          s.dev.phys n = none ∧ Ready s.dev (1 + q) 1 1) ∧
    (∃ (s : State) (port : Nat) (src : Nat) (hops : Nat) (tag : Nat) (q : Nat) (source : Nat) (ty : _) (b : List
        Byte),
      Live s ∧ Calm s.dev ∧ port < 16 ∧ s.dev.rg (fSOP_PORT_STATUS_STATE.at port) = 3 ∧ src < 2 ^ 16 ∧ hops < 64 ∧
          tag < 2 ^ 14 ∧ source < 2 ^ 10 ∧ s.dev.rg fSOP_DEV_DEV_ID < 2 ^ 16 ∧ (∀ o, 9 ≤ o → o < 18 → octetRole s.dev
          o ≠ 2 ∨ octetPort s.dev o ≠ port) ∧ sopRoute s.dev tag src = some q ∧ 0 < ty ∧ ty < 0x300 ∧ b.length ≤ 256
          ∧ s.dev.mgmt.length < 64) :=
  ⟨⟨peers id, 15, 9, 63, 16383, 3, 1023, 0, 1023, 0xFFF00, List.replicate 256 7, by
      delta Live Sound Ready Calm
      try dsimp only
      decide +kernel⟩,
    ⟨peers id, 15, 9, 63, 16383, 3, 1023, 0, 1023, 0xFFF20, 224, by
      delta Live Sound Ready Calm
      try dsimp only
      decide +kernel⟩,
    ⟨peers id, 15, 9, 63, 16383, 3, 1023, 0, 1023, 0, 255, 65535, by
      delta Live Sound Ready Calm
      try dsimp only
      decide +kernel⟩,
    ⟨peers (fun d => d.rs (fGDC_STATUS_STATE.at 0) 2), 15, 9, 63, 16383, 3, 1023, 5, 64, List.replicate 32 7, by
      delta Live Calm
      try dsimp only
      decide +kernel⟩,
    ⟨peers id, 15, 9, 63, 16383, 3, 1023, 2 ^ 20 - 1, by
      delta Live Ready Calm
      try dsimp only
      decide +kernel⟩,
    ⟨peers id, 15, 9, 63, 16383, 3, 1023, 1022, 255, 65535, by
      delta Live Ready Calm
      try dsimp only
      decide +kernel⟩,
    ⟨peers id, 15, 9, 63, 16383, 3, 1023, 0x2FF, List.replicate 256 7, by
      delta Live Calm
      try dsimp only
      decide +kernel⟩⟩

/-- What each clause of `ScaleOutResponses` supposes is met. -/
theorem witness_ScaleOutResponses :
    (∃ (s : State) (port : Nat) (src : Nat) (hops : Nat) (tag : Nat) (p : Nat) (id : Nat) (q : Nat) (k : Nat) (code :
        _),
      Live s ∧ port < 16 ∧ s.dev.rg (fSOP_PORT_STATUS_STATE.at port) = 3 ∧ src < 2 ^ 16 ∧ hops < 64 ∧ tag < 2 ^ 14 ∧
          s.dev.rg fSOP_DEV_DEV_ID < 2 ^ 16 ∧ SMap.find? tag s.dev.tags = some ⟨.piece p id, q, k⟩ ∧ code < 2 ^ 16) ∧
    (∃ (s : State) (port : Nat) (src : Nat) (hops : Nat) (tag : Nat) (p : Nat) (id : Nat) (q : Nat) (k : Nat) (run :
        _) (i : _) (o : _) (b : List Byte) (off : _),
      Live s ∧ port < 16 ∧ s.dev.rg (fSOP_PORT_STATUS_STATE.at port) = 3 ∧ src < 2 ^ 16 ∧ hops < 64 ∧ tag < 2 ^ 14 ∧
          s.dev.rg fSOP_DEV_DEV_ID < 2 ^ 16 ∧ SMap.find? tag s.dev.tags = some ⟨.piece p id, q, k⟩ ∧ findRun s.dev p
          id = some run ∧ run.d.srcRemote = true ∧ run.d.dstSpace = 0 ∧ run.d.remotePieces[k]? = some (i, o,
          b.length) ∧ b ≠ [] ∧ b.length ≤ 256 ∧ s.dev.ownScratch p (run.d.dstAt i o) = some off ∧ Sound (s.dev.plot
          p)) ∧
    (∃ (s : State) (port : Nat) (src : Nat) (hops : Nat) (tag : Nat) (p : Nat) (id : Nat) (q : Nat) (k : Nat),
      Live s ∧ port < 16 ∧ s.dev.rg (fSOP_PORT_STATUS_STATE.at port) = 3 ∧ src < 2 ^ 16 ∧ hops < 64 ∧ tag < 2 ^ 14 ∧
          s.dev.rg fSOP_DEV_DEV_ID < 2 ^ 16 ∧ SMap.find? tag s.dev.tags = some ⟨.signal p id, q, k⟩) ∧
    (∃ (s : State) (port : Nat) (src : Nat) (hops : Nat) (tag : Nat) (c : _),
      Live s ∧ port < 16 ∧ s.dev.rg (fSOP_PORT_STATUS_STATE.at port) = 3 ∧ src < 2 ^ 16 ∧ hops < 64 ∧ tag < 2 ^ 14 ∧
          s.dev.rg fSOP_DEV_DEV_ID < 2 ^ 16 ∧ SMap.find? tag s.dev.tags = none ∧ c ∈ [(0x10, Instr.wrAck), (0x12,
          .err), (0x13, .sigAck)]) ∧
    (∃ (s : State) (port : Nat) (src : Nat) (hops : Nat) (tag : Nat) (dst : _) (x : _),
      Live s ∧ port < 16 ∧ s.dev.rg (fSOP_PORT_STATUS_STATE.at port) = 3 ∧ src < 2 ^ 16 ∧ hops < 64 ∧ tag < 2 ^ 14 ∧
          s.dev.rg fSOP_DEV_DEV_ID < 2 ^ 16 ∧
      let me := s.dev.rg fSOP_DEV_DEV_ID
      dst < 2 ^ 16 ∧ dst ≠ me ∧ 0 < hops ∧ sopRoute s.dev src dst = some x ∧ Ready s.dev (1 + x) 1 1) :=
  ⟨⟨peers (fun d =>
      { d.setPlot 0 { Plot.reset with dmas := [run0 desc0 none] } with tags := [(16383, ⟨.piece 0 8, 9, 0⟩)] }), 15,
      9, 63, 16383, 0, 8, 9, 0, 65535, by
      delta Live
      try dsimp only
      decide +kernel⟩,
    ⟨peers (fun d =>
      { d.setPlot 0 { Plot.reset with dmas := [run0 { desc0 with srcRemote := true, dstAddr := scrWindow 1023 + 0x9000 } none] } with tags := [(16383, ⟨.piece 0 8, 9, 0⟩)] }),
      15, 9, 63, 16383, 0, 8, 9, 0, run0 { desc0 with srcRemote := true, dstAddr := scrWindow 1023 + 0x9000 } none,
      0, 0, List.replicate 16 7, 0x9000, by
      delta Live Sound
      try dsimp only
      decide +kernel⟩,
    ⟨peers (fun d => { d with tags := [(16383, ⟨.signal 0 8, 9, 0⟩)] }), 15, 9, 63, 16383, 0, 8, 9, 0, by
      delta Live
      try dsimp only
      decide +kernel⟩,
    ⟨peers id, 15, 9, 63, 16383, (0x10, Instr.wrAck), by
      delta Live
      refine ⟨by decide +kernel, by decide, by decide +kernel, by decide, by decide, by decide, by decide +kernel,
        by decide +kernel, List.Mem.head _⟩⟩,
    ⟨peers id, 15, 8, 63, 16383, 9, 3, by
      delta Live Ready
      try dsimp only
      decide +kernel⟩⟩

/-- What each clause of `PlotTransfers` supposes is met. -/
theorem witness_PlotTransfers :
    (∃ (s : State) (p : Nat) (n : Nat) (a : Nat) (k : Nat) (id : Nat) (run : DmaRun) (b : Nat) (c : Nat) (others :
        List DmaRun),
      Live s ∧ s.dev.ownNumber p = some n ∧ n < 1024 ∧ 0 < k ∧ a + k ≤ 2 ^ 20 ∧ Sound (s.dev.plot p) ∧ b + k ≤ 2 ^ 20
          ∧ (s.dev.plot p).dmas = run :: others ∧ run.id = id ∧ (∀ x ∈ others, x.id ≠ id) ∧ run.outbound = false ∧
          run.err = 0 ∧ run.check = none ∧ run.ctr = some c ∧ run.d = { run.d with
      srcAddr := scrWindow n + a, dstAddr := scrWindow n + b, length := k, rows := 1, dstRemote := false, srcRemote
          := false,
      srcSpace := 0, dstSpace := 0, kind := 0 } ∧ (∀ u ∈ linesOf a k, unitState (s.dev.plot p) u = 0)) ∧
    (∃ (s : State) (p : Nat) (n : Nat) (a : Nat) (k : Nat) (id : Nat) (run : DmaRun) (others : List DmaRun),
      Live s ∧ s.dev.ownNumber p = some n ∧ n < 1024 ∧ 0 < k ∧ a + k ≤ 2 ^ 20 ∧ Sound (s.dev.plot p) ∧ (s.dev.plot
          p).dmas = run :: others ∧ run.id = id ∧ run.err = 0 ∧ run.moved = 0 ∧ (∀ x ∈ others, x.id ≠ id) ∧ run.d =
          { run.d with
      srcAddr := scrWindow n + a, length := k, rows := 1, srcRemote := false, srcSpace := 0, dstSpace := 2
          } ∧ (s.dev.plot p).att.waiting = false ∧ (∀ u ∈ linesOf a k, unitState (s.dev.plot p) u = 0) ∧
      let st := SMap.get Stream.reset (s.dev.plot p).streams run.d.stream
      st.bytes.length + k ≤ 16384) ∧
    (∃ (s : State) (p : Nat) (n : Nat) (a : Nat) (k : Nat) (pc : Nat) (dev : _) (dst : _) (ctr : _) (add : _) (q : _)
        (rest : _),
      Live s ∧ s.dev.ownNumber p = some n ∧ n < 1024 ∧ 0 < k ∧ a + k ≤ 2 ^ 20 ∧ Sound (s.dev.plot p) ∧ (s.dev.plot
          p).outq = ⟨.signal dev false dst ctr add, pc⟩ :: rest ∧ (∀ x ∈ (s.dev.plot p).dmas, x.outbound = false ∨
          x.released = false) ∧ s.dev.phys dst = some q ∧ (s.dev.plot q).sleep = 0 ∧ (s.dev.plot p).rg
          fPLOT_SEQ_REPLAY_OUT_DONE + 1 < 2 ^ 24) :=
  ⟨⟨target (fun d => { d with scr := [(0x8000, 7)] }.setPlot 0
      { Plot.reset with dmas := [run0 { desc0 with srcAddr := scrWindow 1023 + 0x8000, dstAddr := scrWindow 1023 + 0x9000 } (some 255)] }),
      0, 1023, 0x8000, 16, 8, run0
      { desc0 with srcAddr := scrWindow 1023 + 0x8000, dstAddr := scrWindow 1023 + 0x9000 } (some 255), 0x9000, 255,
      [], by
      delta Live Sound
      decide +kernel⟩,
    ⟨target (fun d => { d with scr := [(0x8000, 7)] }.setPlot 0
      { Plot.reset with dmas := [run0 { desc0 with srcAddr := scrWindow 1023 + 0x8000, dstSpace := 2 } none] }), 0,
      1023, 0x8000, 16, 8, run0 { desc0 with srcAddr := scrWindow 1023 + 0x8000, dstSpace := 2 } none, [], by
      delta Live Sound
      try dsimp only
      decide +kernel⟩,
    ⟨target (fun d => d.setPlot 0 { Plot.reset with outq := [⟨.signal 0 false 1023 255 65535, 4⟩] }), 0, 1023, 0, 1,
      4, 0, 1023, 255, 65535, 0, [], by
      delta Live Sound
      decide +kernel⟩⟩

/-- What each clause of `AtomicOperations` supposes is met. -/
theorem witness_AtomicOperations :
    (∃ (s : State) (core : Nat) (addr : Nat) (dbl : Bool) (e : _),
      Live s ∧ core < 8 ∧ addr < 0x1800000000 ∧
      let n := if dbl then 8 else 4
      let g := (gddrMap addr).1
      e ∈ atomicOps ∧ addr % n = 0 ∧ s.dev.rg (fGDC_STATUS_STATE.at g) = 2 ∧ (s.dev.point g).queue = [] ∧ s.dev.rg
          (fGDC_FLIP_ARM.at g) = 0 ∧ s.dev.rg fAON_DSTATE_STATE ≠ 3 ∧ s.dev.rg fFAB_BRIDGE_STATUS_DOWN = 0) ∧
    (∃ (s : State) (core : Nat) (addr : Nat) (dbl : Bool) (e : _),
      Live s ∧ core < 8 ∧ addr < 0x1800000000 ∧
      let n := if dbl then 8 else 4
      e ∈ atomicOps ∧ addr % n ≠ 0) ∧
    (∃ (s : State) (core : Nat) (addr : Nat) (dbl : Bool) (e : _),
      Live s ∧ core < 8 ∧ addr < 0x1800000000 ∧
      let n := if dbl then 8 else 4
      let g := (gddrMap addr).1
      e ∈ atomicOps ∧ addr % n = 0 ∧ s.dev.rg (fGDC_STATUS_STATE.at g) = 5 ∧ s.dev.rg fAON_DSTATE_STATE ≠ 3 ∧
          s.dev.rg fFAB_BRIDGE_STATUS_DOWN = 0) ∧
    (∃ (s : State) (core : Nat) (addr : Nat), Live s ∧ core < 8 ∧ addr < 0x1800000000) :=
  ⟨⟨live (fun d => d.rs (fGDC_STATUS_STATE.at (gddrMap 0x17FFFFFFF8).1) 2), 7, 0x17FFFFFFF8, true, (.amoSwap, fun _
      _ x => x), by
      delta Live
      refine ⟨by decide +kernel, by decide, by decide, List.Mem.head _, ?_⟩
      decide +kernel⟩,
    ⟨live id, 7, 0x17FFFFFFFC, true, (.amoSwap, fun _ _ x => x), by
      delta Live
      refine ⟨by decide +kernel, by decide, by decide, List.Mem.head _, ?_⟩
      decide +kernel⟩,
    ⟨live (fun d => d.rs (fGDC_STATUS_STATE.at (gddrMap 0x17FFFFFFF8).1) 5), 7, 0x17FFFFFFF8, true, (.amoSwap, fun _
      _ x => x), by
      delta Live
      refine ⟨by decide +kernel, by decide, by decide, List.Mem.head _, ?_⟩
      decide +kernel⟩,
    ⟨live id, 7, 0x17FFFFFFFF, by
      delta Live
      try dsimp only
      decide +kernel⟩⟩

/-- What each clause of `ShedMemoryAndEngines` supposes is met. -/
theorem witness_ShedMemoryAndEngines :
    (∃ (s : State) (off : Nat) (len : Nat) (core : _),
      Live s ∧ s.dev.shed.sramErr = [] ∧ off + len ≤ 0x400000 ∧ 0 < len ∧ core < 8 ∧ s.dev.rg (fSHD_CORE_CTRL_RUN.at
          core) = 1 ∧ (len = 1 ∨ len = 2 ∨ len = 4 ∨ len = 8) ∧ s.dev.rg fSHD_SRAM_FLIP_ARM = 0) ∧
    (∃ (s : State) (off : Nat) (len : Nat) (core : _),
      Live s ∧ s.dev.shed.sramErr = [] ∧ off + len ≤ 0x400000 ∧ 0 < len ∧ core < 8 ∧ s.dev.rg (fSHD_CORE_CTRL_RUN.at
          core) = 1 ∧ (len = 1 ∨ len = 2 ∨ len = 4 ∨ len = 8) ∧ off % len = 0 ∧ off + len ≤ 0x40000) ∧
    (∃ (s : State) (off : Nat) (len : Nat) (core : _) (data : _) (c : _),
      Live s ∧ s.dev.shed.sramErr = [] ∧ off + len ≤ 0x400000 ∧ 0 < len ∧ core < 8 ∧ s.dev.rg (fSHD_CORE_CTRL_RUN.at
          core) = 1 ∧ c < 8 ∧ data < 2 ^ 64) ∧
    (∃ (s : State) (off : Nat) (len : Nat) (out64 : _),
      Live s ∧ s.dev.shed.sramErr = [] ∧ off + len ≤ 0x400000 ∧ 0 < len ∧ out64 < 2 ∧ s.dev.rg fSHD_HASH_SRC_ADDR =
          sramBase + off ∧ s.dev.rg fSHD_HASH_LEN_LEN = len ∧ s.dev.rg fSHD_HASH_CTRL_BUSY = 0) ∧
    (∃ (s : State) (off : Nat) (len : Nat) (out64 : _),
      Live s ∧ s.dev.shed.sramErr = [] ∧ off + len ≤ 0x400000 ∧ 0 < len ∧ out64 < 2 ∧ s.dev.shed.hash = some ⟨out64 *
          8 + 7, sramBase + off, len, none⟩) ∧
    (∃ (s : State) (off : Nat) (len : Nat) (init : _),
      Live s ∧ s.dev.shed.sramErr = [] ∧ off + len ≤ 0x400000 ∧ 0 < len ∧ init < 2 ∧ s.dev.rg fSHD_CRC_SRC_ADDR =
          sramBase + off ∧ s.dev.rg fSHD_CRC_LEN_LEN = len ∧ s.dev.rg fSHD_CRC_CTRL_BUSY = 0) ∧
    (∃ (s : State) (off : Nat) (len : Nat) (init : _),
      Live s ∧ s.dev.shed.sramErr = [] ∧ off + len ≤ 0x400000 ∧ 0 < len ∧ init < 2 ∧ s.dev.shed.crc = some ⟨init * 2
          + 1, sramBase + off, len, none⟩) :=
  ⟨⟨live (fun d => d.rs (fSHD_CORE_CTRL_RUN.at 7) 1), 0x3FFFF8, 8, 7, by
      delta Live
      decide +kernel⟩,
    ⟨live (fun d => d.rs (fSHD_CORE_CTRL_RUN.at 7) 1), 0x3FFF8, 8, 7, by
      delta Live
      decide +kernel⟩,
    ⟨live (fun d => d.rs (fSHD_CORE_CTRL_RUN.at 7) 1), 0x3FFFF8, 8, 7, 2 ^ 64 - 2, 6, by
      delta Live
      try dsimp only
      decide +kernel⟩,
    ⟨live (fun d => (d.rs fSHD_HASH_SRC_ADDR (sramBase + 0x3FFFF8)).rs fSHD_HASH_LEN_LEN 8), 0x3FFFF8, 8, 1, by
      delta Live
      decide +kernel⟩,
    ⟨live (fun d =>
      { d with shed := { d.shed with hash := some ⟨15, sramBase + 0x3FFFF8, 8, none⟩, sram := [(0x3FFFF9, 3)] } }),
      0x3FFFF8, 8, 1, by
      delta Live
      try dsimp only
      decide +kernel⟩,
    ⟨live (fun d => (d.rs fSHD_CRC_SRC_ADDR (sramBase + 0x3FFFF8)).rs fSHD_CRC_LEN_LEN 8), 0x3FFFF8, 8, 1, by
      delta Live
      decide +kernel⟩,
    ⟨live (fun d =>
      { d with shed := { d.shed with crc := some ⟨3, sramBase + 0x3FFFF8, 8, none⟩, sram := [(0x3FFFF9, 3)] } }),
      0x3FFFF8, 8, 1, by
      delta Live
      decide +kernel⟩⟩

/-- What each clause of `LaneTraining` supposes is met. -/
theorem witness_LaneTraining :
    (∃ (s : State) (o : Nat) (m : _),
      Live s ∧ o < 18 ∧
      let st (t : State) : Nat := t.dev.rg (fLNE_STATUS_STATE.at o)
      st s = 1 ∧ m < 256 ∧ 4 ≤ popCount 8 m) ∧
    (∃ (s : State) (o : Nat) (m : _),
      Live s ∧ o < 18 ∧
      let st (t : State) : Nat := t.dev.rg (fLNE_STATUS_STATE.at o)
      st s = 1 ∧ m < 256 ∧ popCount 8 m < 4) ∧
    (∃ (s : State) (o : Nat),
      Live s ∧ o < 18 ∧
      let st (t : State) : Nat := t.dev.rg (fLNE_STATUS_STATE.at o)
      st s = 2) ∧
    (∃ (s : State) (o : Nat),
      Live s ∧ o < 18 ∧
      let st (t : State) : Nat := t.dev.rg (fLNE_STATUS_STATE.at o)
      st s = 3) ∧
    (∃ (s : State) (o : Nat) (w : _),
      Live s ∧ o < 18 ∧
      let st (t : State) : Nat := t.dev.rg (fLNE_STATUS_STATE.at o)
      let excluded (t : State) (i : Nat) : Nat := t.dev.rg (fLNE_LANE_EXCLUDED.at2 o i)
      st s = 4 ∧ (∀ i, i < 8 → excluded s i = 0 ∧ s.dev.rg (fLNE_LANE_POS.at2 o i) = i) ∧ (w = 1 ∨ w = 2 ∨ w = 3)) ∧
    (∃ (s : State) (o : Nat) (c : _),
      Live s ∧ o < 18 ∧
      let st (t : State) : Nat := t.dev.rg (fLNE_STATUS_STATE.at o)
      st s = 5 ∧ c ≤ 5704 ∧ octetRole s.dev o = 3) ∧
    (∃ (s : State) (o : Nat) (c : _),
      Live s ∧ o < 18 ∧
      let st (t : State) : Nat := t.dev.rg (fLNE_STATUS_STATE.at o)
      st s = 5 ∧ c ≤ 5704 ∧ octetRole s.dev o = 2 ∧ s.dev.rg (fLNE_STATUS_WIDTH.at o) = 3 ∧ octetPort s.dev o < 16) ∧
    (∃ (s : State) (o : Nat) (c : _) (u : _),
      Live s ∧ o < 18 ∧
      let st (t : State) : Nat := t.dev.rg (fLNE_STATUS_STATE.at o)
      st s = 5 ∧ (5704 < c ∨ 0 < u)) ∧
    (∃ (s : State) (o : Nat), Live s ∧ o < 18 ∧ s.dev.boot.switching = true) ∧
    (∃ (s : State) (o : Nat) (a : _) (l : _), Live s ∧ o < 18 ∧ a < 2 ∧ 0 < l ∧ l < 2 ^ 16) ∧
    (∃ (s : State) (o : Nat), Live s ∧ o < 18) :=
  ⟨⟨live (fun d => d.rs (fLNE_STATUS_STATE.at 17) 1), 17, 0xF0, by
      delta Live
      try dsimp only
      decide +kernel⟩,
    ⟨live (fun d => d.rs (fLNE_STATUS_STATE.at 17) 1), 17, 0x70, by
      delta Live
      try dsimp only
      decide +kernel⟩,
    ⟨live (fun d => (d.rs (fLNE_STATUS_STATE.at 17) 2).rs (fLNE_LANE_EXCLUDED.at2 17 3) 1), 17, by
      delta Live
      try dsimp only
      decide +kernel⟩,
    ⟨live (fun d => (d.rs (fLNE_STATUS_STATE.at 17) 3).rs (fLNE_LANE_EXCLUDED.at2 17 3) 1), 17, by
      delta Live
      try dsimp only
      decide +kernel⟩,
    ⟨live (fun d => [0, 1, 2, 3, 4, 5, 6, 7].foldl (fun d i => d.rs (fLNE_LANE_POS.at2 17 i) i) (d.rs
      (fLNE_STATUS_STATE.at 17) 4)), 17, 2, by
      delta Live
      try dsimp only
      decide +kernel⟩,
    ⟨live (fun d => (d.rs (fLNE_STATUS_STATE.at 17) 5).rs (fLNE_ROLE_ROLE.at 17) 3), 17, 5704, by
      delta Live
      try dsimp only
      decide +kernel⟩,
    ⟨live (fun d => (((d.rs (fLNE_STATUS_STATE.at 17) 5).rs (fLNE_ROLE_ROLE.at 17) 2).rs (fLNE_ROLE_PORT.at 17)
      15).rs (fLNE_STATUS_WIDTH.at 17) 3), 17, 5704, by
      delta Live
      try dsimp only
      decide +kernel⟩,
    ⟨live (fun d => d.rs (fLNE_STATUS_STATE.at 17) 5), 17, 5704, 1, by
      delta Live
      try dsimp only
      decide +kernel⟩,
    ⟨live (fun d => { d with boot := { d.boot with switching := true } }), 17, by
      delta Live
      try dsimp only
      decide +kernel⟩,
    ⟨live id, 17, 1, 65535, by
      delta Live
      try dsimp only
      decide +kernel⟩,
    ⟨live id, 17, by
      delta Live
      try dsimp only
      decide +kernel⟩⟩

/-- What each clause of `LaneService` supposes is met. -/
theorem witness_LaneService :
    (∃ (s : State) (o : Nat) (h : _),
      Live s ∧ o < 18 ∧
      let st (t : State) : Nat := t.dev.rg (fLNE_STATUS_STATE.at o)
      5 ≤ st s ∧ st s ≤ 7 ∧ h % 64 / 8 = 0 ∧ h / 64 = 10) ∧
    (∃ (s : State) (o : Nat) (u : _),
      Live s ∧ o < 18 ∧
      let st (t : State) : Nat := t.dev.rg (fLNE_STATUS_STATE.at o)
      st s = 6 ∧ s.dev.rg (fLNE_CFG_AUTO_RETRAIN.at o) = 0 ∧ u ≤ 4) ∧
    (∃ (s : State) (o : Nat) (lane : _),
      Live s ∧ o < 18 ∧
      let st (t : State) : Nat := t.dev.rg (fLNE_STATUS_STATE.at o)
      st s = 6 ∧ octetRole s.dev o = 3 ∧ lane < 8 ∧ bitOf (s.dev.rg (fLNE_STATUS_ALIGNED.at o)) lane = true) ∧
    (∃ (s : State) (o : Nat),
      Live s ∧ o < 18 ∧
      let st (t : State) : Nat := t.dev.rg (fLNE_STATUS_STATE.at o)
      st s = 6 ∧ octetRole s.dev o = 3) ∧
    (∃ (s : State) (o : Nat),
      Live s ∧ o < 18 ∧
      let st (t : State) : Nat := t.dev.rg (fLNE_STATUS_STATE.at o)
      let q := octetPort s.dev o
      st s = 6 ∧ octetRole s.dev o = 2 ∧ q < 16 ∧ s.dev.rg (fSOP_PORT_STATUS_STATE.at q) = 3) ∧
    (∃ (s : State) (o : Nat),
      Live s ∧ o < 18 ∧
      let st (t : State) : Nat := t.dev.rg (fLNE_STATUS_STATE.at o)
      st s = 7) ∧
    (∃ (s : State) (o : Nat) (ac : Nat),
      Live s ∧ o < 18 ∧
      let st (t : State) : Nat := t.dev.rg (fLNE_STATUS_STATE.at o)
      st s = 7 ∧ ac ≤ 625000 ∧ octetRole s.dev o = 3 ∧ s.dev.rg (fLNE_STATUS_WIDTH.at o) = 3 ∧ (∀ i, i < 8 → s.dev.rg
          (fLNE_LANE_EXCLUDED.at2 o i) = 0)) ∧
    (∃ (s : State) (o : Nat),
      Live s ∧ o < 18 ∧
      let st (t : State) : Nat := t.dev.rg (fLNE_STATUS_STATE.at o)
      st s = 7 ∧ octetRole s.dev o = 3) ∧
    (∃ (s : State) (o : Nat),
      Live s ∧ o < 18 ∧
      let st (t : State) : Nat := t.dev.rg (fLNE_STATUS_STATE.at o)
      let q := octetPort s.dev o
      st s = 7 ∧ octetRole s.dev o = 2 ∧ q < 16 ∧ s.dev.rg (fSOP_PORT_STATUS_STATE.at q) = 4 ∧ (s.dev.link (1 +
          q)).kept = [] ∧ (s.dev.link (1 + q)).waiting = []) :=
  ⟨⟨live (fun d => d.rs (fLNE_STATUS_STATE.at 17) 5), 17, 640, by
      delta Live
      try dsimp only
      decide +kernel⟩,
    ⟨live (fun d => (d.rs (fLNE_STATUS_STATE.at 17) 6).rs (fLNE_CFG_AUTO_RETRAIN.at 17) 0), 17, 4, by
      delta Live
      try dsimp only
      decide +kernel⟩,
    ⟨live (fun d => ((d.rs (fLNE_STATUS_STATE.at 17) 6).rs (fLNE_ROLE_ROLE.at 17) 3).rs (fLNE_STATUS_ALIGNED.at 17)
      0x80), 17, 7, by
      delta Live
      try dsimp only
      decide +kernel⟩,
    ⟨live (fun d => ((d.rs (fLNE_STATUS_STATE.at 17) 6).rs (fLNE_ROLE_ROLE.at 17) 3).rs (fLNE_LANE_EXCLUDED.at2 17 7)
      1), 17, by
      delta Live
      try dsimp only
      decide +kernel⟩,
    ⟨live (fun d => (((d.rs (fLNE_STATUS_STATE.at 17) 6).rs (fLNE_ROLE_ROLE.at 17) 2).rs (fLNE_ROLE_PORT.at 17)
      15).rs (fSOP_PORT_STATUS_STATE.at 15) 3), 17, by
      delta Live
      try dsimp only
      decide +kernel⟩,
    ⟨live (fun d => d.rs (fLNE_STATUS_STATE.at 17) 7), 17, by
      delta Live
      try dsimp only
      decide +kernel⟩,
    ⟨live (fun d => ((d.rs (fLNE_STATUS_STATE.at 17) 7).rs (fLNE_ROLE_ROLE.at 17) 3).rs (fLNE_STATUS_WIDTH.at 17) 3),
      17, 625000, by
      delta Live
      try dsimp only
      decide +kernel⟩,
    ⟨live (fun d => (d.rs (fLNE_STATUS_STATE.at 17) 7).rs (fLNE_ROLE_ROLE.at 17) 3), 17, by
      delta Live
      try dsimp only
      decide +kernel⟩,
    ⟨live (fun d => (((d.rs (fLNE_STATUS_STATE.at 17) 7).rs (fLNE_ROLE_ROLE.at 17) 2).rs (fLNE_ROLE_PORT.at 17)
      15).rs (fSOP_PORT_STATUS_STATE.at 15) 4), 17, by
      delta Live
      try dsimp only
      decide +kernel⟩⟩

/-- What each clause of `InterruptController` supposes is met. -/
theorem witness_InterruptController :
    (∃ (s : State) (t : Nat) (w : Nat) (x : _), Live s ∧ t < 8 ∧ w < 8 ∧ x < 16) ∧
    (∃ (s : State) (t : Nat) (w : Nat) (src : _) (x : _),
      Live s ∧ t < 8 ∧ w < 8 ∧ 0 < src ∧ src < 512 ∧ x < 16) ∧
    (∃ (s : State) (t : Nat) (w : Nat),
      Live s ∧ t < 8 ∧ w < 8 ∧
      let d := icuSettle s.dev
      (∃ y, (y, t) ∈ d.shed.assigned)) ∧
    (∃ (s : State) (t : Nat) (w : Nat),
      Live s ∧ t < 8 ∧ w < 8 ∧
      let d := icuSettle s.dev
      (∀ y, (y, t) ∉ d.shed.assigned)) ∧
    (∃ (s : State) (t : Nat) (w : Nat) (x : _) (pr : _) (r : _),
      Live s ∧ t < 8 ∧ w < 8 ∧ icuStack s.dev t = (x, pr) :: r ∧ x < 1024) ∧
    (∃ (s : State) (t : Nat) (w : Nat) (x : _) (pr : _) (r : _) (y : _),
      Live s ∧ t < 8 ∧ w < 8 ∧ icuStack s.dev t = (x, pr) :: r ∧ y < 1024 ∧ y ≠ x) ∧
    (∃ (s : State) (t : Nat) (w : Nat),
      Live s ∧ t < 8 ∧ w < 8 ∧ s.dev.rg (fSHD_CORE_CTRL_WFI.at t) = 1 ∧ (∃ i, i < 512 ∧ icuPending s.dev i = true ∧
          bitOf (s.dev.rg (fICU_ENABLE_EN.at2 t (i / 64))) (i % 64) = true ∧
      1 ≤ s.dev.rg (fICU_PRIO_PRIO.at i))) ∧
    (∃ (s : State) (t : Nat) (w : Nat),
      Live s ∧ t < 8 ∧ w < 8 ∧ s.dev.rg (fSHD_CORE_CTRL_WFI.at t) = 1 ∧ (∀ i, i < 512 → icuPending s.dev i = false)) :=
  ⟨⟨live id, 7, 7, 15, by
      delta Live
      try dsimp only
      decide +kernel⟩,
    ⟨live id, 7, 7, 511, 15, by
      delta Live
      try dsimp only
      decide +kernel⟩,
    ⟨claimed, 7, 7, by
      delta Live
      refine ⟨by decide +kernel, by decide, by decide, ?_⟩
      dsimp only
      rw [icuSettle_fixed claimed.dev (by decide +kernel)]
      exact ⟨511, by decide +kernel⟩⟩,
    ⟨live id, 7, 7, by
      delta Live
      refine ⟨by decide +kernel, by decide, by decide, ?_⟩
      dsimp only
      rw [icuSettle_fixed (live id).dev (by decide +kernel)]
      intro y
      exact List.not_mem_nil⟩,
    ⟨live (fun d => { d with shed := { d.shed with stack := [(7, [(511, 15), (3, 2)])] } }), 7, 7, 511, 15, [(3, 2)],
      by
      delta Live
      try dsimp only
      decide +kernel⟩,
    ⟨live (fun d => { d with shed := { d.shed with stack := [(7, [(511, 15), (3, 2)])] } }), 7, 7, 511, 15, [(3, 2)],
      1023, by
      delta Live
      try dsimp only
      decide +kernel⟩,
    ⟨live (fun d => (((d.rs (fSHD_CORE_CTRL_WFI.at 7) 1).rs (fICU_PEND_PEND.at 7) (2 ^ 63)).rs (fICU_ENABLE_EN.at2 7
      7) (2 ^ 63)).rs (fICU_PRIO_PRIO.at 511) 1), 7, 7, by
      delta Live
      try dsimp only
      decide +kernel⟩,
    ⟨live (fun d => d.rs (fSHD_CORE_CTRL_WFI.at 7) 1), 7, 7, by
      delta Live
      try dsimp only
      decide +kernel⟩⟩

/-- What each clause of `ShedCores` supposes is met. -/
theorem witness_ShedCores :
    (∃ (s : State) (c : Nat) (msip : _), Live s ∧ c < 8 ∧ coreResetting s.dev c = false ∧ 0 < c ∧ msip < 2) ∧
    (∃ (s : State) (c : Nat),
      Live s ∧ c < 8 ∧ coreResetting s.dev c = false ∧ 0 < c ∧ s.dev.rg (fSHD_CORE_CTRL_RUN.at c) = 1) ∧
    (∃ (s : State) (c : Nat), Live s ∧ c < 8 ∧ coreResetting s.dev c = true) ∧
    (∃ (s : State) (c : Nat) (n : _), Live s ∧ c < 8 ∧ 0 < n ∧ n < 2 ^ 16) ∧
    (∃ (s : State) (c : Nat) (x : _), Live s ∧ c < 8 ∧ x < 2 ^ 16 ∧ x ≠ 0xA5C3) ∧
    (∃ (s : State) (c : Nat),
      Live s ∧ c < 8 ∧ s.dev.rg (fSHD_CORE_WDOG_EN.at c) = 1 ∧ s.dev.rg (fSHD_CORE_CTRL_RUN.at c) = 1 ∧ s.dev.rg
          (fSHD_CORE_WDOG_STAGE.at c) = 0) ∧
    (∃ (s : State) (c : Nat),
      Live s ∧ c < 8 ∧ s.dev.rg (fSHD_CORE_WDOG_EN.at c) = 1 ∧ s.dev.rg (fSHD_CORE_CTRL_RUN.at c) = 1 ∧ s.dev.rg
          (fSHD_CORE_WDOG_STAGE.at c) = 1 ∧ 0 < c) ∧
    (∃ (s : State) (c : Nat),
      Live s ∧ c < 8 ∧ s.dev.rg (fSHD_CORE_WDOG_EN.at c) = 1 ∧ s.dev.rg (fSHD_CORE_CTRL_RUN.at c) = 1 ∧ s.dev.rg
          (fSHD_CORE_WDOG_STAGE.at c) = 1 ∧ c = 0) ∧
    (∃ (s : State) (c : Nat) (now : _),
      Live s ∧ c < 8 ∧
      let x := SMap.get Core.reset s.dev.shed.cores c
      s.dev.rg (fSHD_CORE_CTRL_RUN.at c) = 1 ∧ x.mtimecmp ≤ (x.mtime + now) % 2 ^ 64) ∧
    (∃ (s : State) (c : Nat) (arm : _) (a : _) (b : _),
      Live s ∧ c < 8 ∧ arm < 2 ∧ a < 128 ∧ b < 128 ∧ s.dev.rg fSHD_SRAM_CORRECTED < 2 ^ 16) ∧
    (∃ (s : State) (c : Nat) (p : _) (en : _) (bits : _),
      Live s ∧ c < 8 ∧ isPlot p = true ∧ (s.dev.plot p).sleep = 0 ∧ en < 2 ^ 16 ∧ bits < 2 ^ 20) :=
  ⟨⟨live id, 7, 1, by
      delta Live
      decide +kernel⟩,
    ⟨live (fun d => d.rs (fSHD_CORE_CTRL_RUN.at 7) 1), 7, by
      delta Live
      decide +kernel⟩,
    ⟨live (fun d => ((d.rs fAON_BLK_RST_RESULT 1).rs fAON_BLK_RST_KIND 4).rs fAON_BLK_RST_INSTANCE 7), 7, by
      delta Live
      decide +kernel⟩,
    ⟨live id, 7, 65535, by
      delta Live
      decide +kernel⟩,
    ⟨live id, 7, 0xA5C2, by
      delta Live
      decide +kernel⟩,
    ⟨live (fun d => (d.rs (fSHD_CORE_WDOG_EN.at 7) 1).rs (fSHD_CORE_CTRL_RUN.at 7) 1), 7, by
      delta Live
      decide +kernel⟩,
    ⟨live (fun d => ((d.rs (fSHD_CORE_WDOG_EN.at 7) 1).rs (fSHD_CORE_CTRL_RUN.at 7) 1).rs (fSHD_CORE_WDOG_STAGE.at 7)
      1), 7, by
      delta Live
      decide +kernel⟩,
    ⟨live (fun d => ((d.rs (fSHD_CORE_WDOG_EN.at 0) 1).rs (fSHD_CORE_CTRL_RUN.at 0) 1).rs (fSHD_CORE_WDOG_STAGE.at 0)
      1), 0, by
      delta Live
      decide +kernel⟩,
    ⟨live (fun d =>
      { d.rs (fSHD_CORE_CTRL_RUN.at 7) 1 with shed := { d.shed with cores := [(7, { Core.reset with mtimecmp := 5 })] } }),
      7, 5, by
      delta Live
      try dsimp only
      decide +kernel⟩,
    ⟨live id, 7, 1, 127, 127, by
      delta Live
      decide +kernel⟩,
    ⟨live (fun d => d.setPlot 4 (Plot.reset.rs fPLOT_IRQ_BED_CH 15)), 7, 4, 65535, 2 ^ 20 - 1, by
      delta Live
      decide +kernel⟩⟩

/-- What each clause of `Resets` supposes is met. -/
theorem witness_Resets :
    (∃ (s : State) (ac : _),
      let r := s.dev.rst
      (ac < 4 ∨ r.pin = true)) ∧
    (∃ (s : State) (ac : _),
      let r := s.dev.rst
      4 ≤ ac ∧ r.pin = false ∧ r.held = false) ∧
    (∃ (s : State) (ac : _),
      let r := s.dev.rst
      4 ≤ ac ∧ r.pin = false ∧ r.held = true) ∧
    (∃ (s : State),
      let r := s.dev.rst
      let cool : Prop := ∀ p, isPlot p = true → signedOf 12 (s.dev.rg (fTHM_PLOT_SENSE_LOGIC.at p)) ≤ 105 * 8 ∧
      signedOf 12 (s.dev.rg (fTHM_PLOT_SENSE_BED.at p)) ≤ 95 * 8
      r.pin = true ∧ (r.trip = false ∨ ¬ cool)) ∧
    (∃ (s : State),
      let r := s.dev.rst
      let cool : Prop := ∀ p, isPlot p = true → signedOf 12 (s.dev.rg (fTHM_PLOT_SENSE_LOGIC.at p)) ≤ 105 * 8 ∧
      signedOf 12 (s.dev.rg (fTHM_PLOT_SENSE_BED.at p)) ≤ 95 * 8
      r.pin = true ∧ r.trip = true ∧ cool) ∧
    (∃ (s : State),
      let r := s.dev.rst
      let cool : Prop := ∀ p, isPlot p = true → signedOf 12 (s.dev.rg (fTHM_PLOT_SENSE_LOGIC.at p)) ≤ 105 * 8 ∧
      signedOf 12 (s.dev.rg (fTHM_PLOT_SENSE_BED.at p)) ≤ 95 * 8
      r.trip = true ∧ cool) ∧
    (∃ (s : State),
      let r := s.dev.rst
      let cool : Prop := ∀ p, isPlot p = true → signedOf 12 (s.dev.rg (fTHM_PLOT_SENSE_LOGIC.at p)) ≤ 105 * 8 ∧
      signedOf 12 (s.dev.rg (fTHM_PLOT_SENSE_BED.at p)) ≤ 95 * 8
      (r.trip = false ∨ ¬ cool)) ∧
    (∃ (s : State),
      let r := s.dev.rst
      r.held = true ∧ r.pin = false ∧ r.trip = false ∧ r.off = false) ∧
    (∃ (s : State),
      let r := s.dev.rst
      (r.pin = true ∨ r.trip = true ∨ r.off = true)) ∧
    (∃ (s : State), Live s ∧ 4 ≤ s.dev.rg fBRW_STATUS_LAST_DONE) ∧
    (∃ (s : State), Live s ∧ s.dev.rg fBRW_STATUS_LAST_DONE < 4) ∧
    (∃ (s : State) (c : _),
      Live s ∧ c < 24 ∧ s.dev.rg (fGDC_STATUS_STATE.at c) = 2 ∧ s.dev.rg (fGDC_RETRAIN_REQUEST.at c) = 0) ∧
    (∃ (s : State) (c : _), Live s ∧ c < 24 ∧ s.dev.rg (fGDC_STATUS_STATE.at c) ≠ 2) :=
  ⟨⟨{ live id with dev := { (live id).dev with rst := ⟨true, true, false, false⟩ } }, 7, by
      try dsimp only
      decide +kernel⟩,
    ⟨live (fun d => d.setPlot 4 (Plot.reset.rs fPLOT_SEQ_STATUS_STATE 2)), 4, by
      try dsimp only
      decide +kernel⟩,
    ⟨{ live id with dev := { (live id).dev with rst := ⟨true, false, true, true⟩ } }, 4, by
      try dsimp only
      decide +kernel⟩,
    ⟨{ live id with dev := { (live id).dev with rst := ⟨true, true, false, true⟩ } }, by
      exact ⟨by decide, Or.inl (by decide)⟩⟩,
    ⟨{ live id with dev := { (live id).dev with rst := ⟨true, true, true, true⟩ } }, by
      exact ⟨by decide, by decide, fun p _ => unwritten_cool _ rfl p⟩⟩,
    ⟨{ live id with dev := { (live id).dev with rst := ⟨true, false, true, true⟩ } }, by
      exact ⟨by decide, fun p _ => unwritten_cool _ rfl p⟩⟩,
    ⟨live id, by
      exact Or.inl (by decide)⟩,
    ⟨{ live id with dev := { (live id).dev with rst := ⟨true, false, false, false⟩ } }, by
      try dsimp only
      decide +kernel⟩,
    ⟨{ live id with dev := { (live id).dev with rst := ⟨true, false, true, false⟩ } }, by
      try dsimp only
      decide +kernel⟩,
    ⟨live (fun d => d.rs fBRW_STATUS_LAST_DONE 4), by
      delta Live
      try dsimp only
      decide +kernel⟩,
    ⟨live (fun d => d.rs fBRW_STATUS_LAST_DONE 3), by
      delta Live
      try dsimp only
      decide +kernel⟩,
    ⟨live (fun d => d.rs (fGDC_STATUS_STATE.at 23) 2), 23, by
      delta Live
      try dsimp only
      decide +kernel⟩,
    ⟨live id, 23, by
      delta Live
      try dsimp only
      decide +kernel⟩⟩

/-- What each clause of `BlockResets` supposes is met. -/
theorem witness_BlockResets :
    (∃ (s : State) (k : _) (i : _),
      Live s ∧
      let d := s.dev
      let busy := d.rg fAON_BLK_RST_RESULT = 1
      k < 16 ∧ i < 2048 ∧ ¬ busy ∧ (k = 1 ∧ isPlot i = true ∨ k = 2 ∧ i < 24 ∨ k = 3 ∧ i < 18 ∨ k = 4 ∧ 1 ≤ i ∧ i ≤ 7
          ∨ k = 5 ∧ i = 0)) ∧
    (∃ (s : State) (k : _) (i : _),
      Live s ∧
      let d := s.dev
      let busy := d.rg fAON_BLK_RST_RESULT = 1
      k < 16 ∧ i < 2048 ∧ ¬ busy ∧ ¬ (k = 1 ∧ isPlot i = true ∨ k = 2 ∧ i < 24 ∨ k = 3 ∧ i < 18 ∨ k = 4 ∧ 1 ≤ i ∧ i ≤
          7 ∨ k = 5 ∧ i = 0)) ∧
    (∃ (s : State) (data : _),
      Live s ∧
      let d := s.dev
      let busy := d.rg fAON_BLK_RST_RESULT = 1
      busy ∧ data % 2 = 1) ∧
    (∃ (s : State),
      Live s ∧
      let d := s.dev
      let busy := d.rg fAON_BLK_RST_RESULT = 1
      let kind := d.rg fAON_BLK_RST_KIND
      let inst := d.rg fAON_BLK_RST_INSTANCE
      busy ∧ kind = 1 ∧ isPlot inst = true ∧ (∀ e ∈ (d.plot inst).channels, e.2.hold = [] ∧ e.2.router = [])) ∧
    (∃ (s : State),
      Live s ∧
      let d := s.dev
      let busy := d.rg fAON_BLK_RST_RESULT = 1
      let kind := d.rg fAON_BLK_RST_KIND
      let inst := d.rg fAON_BLK_RST_INSTANCE
      busy ∧ kind = 2 ∧ inst < 24 ∧ (d.point inst).queue = []) ∧
    (∃ (s : State),
      Live s ∧
      let d := s.dev
      let busy := d.rg fAON_BLK_RST_RESULT = 1
      let kind := d.rg fAON_BLK_RST_KIND
      let inst := d.rg fAON_BLK_RST_INSTANCE
      busy ∧ kind = 3 ∧ inst < 18 ∧ octetRole d inst = 3) ∧
    (∃ (s : State),
      Live s ∧
      let d := s.dev
      let busy := d.rg fAON_BLK_RST_RESULT = 1
      let kind := d.rg fAON_BLK_RST_KIND
      let inst := d.rg fAON_BLK_RST_INSTANCE
      busy ∧ kind = 3 ∧ inst < 18 ∧ octetRole d inst = 2 ∧ octetPort d inst < 16 ∧ d.rg (fSOP_PORT_STATUS_STATE.at
          (octetPort d inst)) = 3 ∧ (d.link (1 + octetPort d inst)).kept = [] ∧ (d.link (1 + octetPort d
          inst)).waiting = []) ∧
    (∃ (s : State),
      Live s ∧
      let d := s.dev
      let busy := d.rg fAON_BLK_RST_RESULT = 1
      let kind := d.rg fAON_BLK_RST_KIND
      let inst := d.rg fAON_BLK_RST_INSTANCE
      busy ∧ kind = 4 ∧ 1 ≤ inst ∧ inst ≤ 7) ∧
    (∃ (s : State),
      Live s ∧
      let d := s.dev
      let busy := d.rg fAON_BLK_RST_RESULT = 1
      let kind := d.rg fAON_BLK_RST_KIND
      let inst := d.rg fAON_BLK_RST_INSTANCE
      busy ∧ kind = 5 ∧ inst = 0) ∧
    (∃ (s : State) (w : Waiting) (q : Nat),
      Live s ∧
      let d := s.dev
      let busy := d.rg fAON_BLK_RST_RESULT = 1
      let kind := d.rg fAON_BLK_RST_KIND
      let inst := d.rg fAON_BLK_RST_INSTANCE
      busy ∧ kind = 2 ∧ inst < 24 ∧ (d.point inst).queue = [w] ∧ w.req.master = .plot q) ∧
    (∃ (s : State),
      Live s ∧
      let d := s.dev
      let busy := d.rg fAON_BLK_RST_RESULT = 1
      ¬ busy) ∧
    (∃ (s : State),
      Live s ∧
      let d := s.dev
      (d.rg fAON_DSTATE_STATE = 1 ∨ d.rg fAON_DSTATE_STATE = 2) ∧ d.steps.run = none ∧ d.rg fSED_MOVE_STATE = 0 ∧
          d.rg fTHM_STATUS_STOP = 1) ∧
    (∃ (s : State),
      Live s ∧
      let d := s.dev
      (d.rg fAON_DSTATE_STATE = 0 ∨ d.rg fAON_DSTATE_STATE = 3)) ∧
    (∃ (s : State),
      Live s ∧
      let d := s.dev
      d.sed.finish = none ∧ d.sed.judged = [] ∧ bitOf d.steps.hold 2 = false ∧ d.rg fAON_DSTATE_STATE = 3 ∧ d.rg
          fTHM_EMERG_ACTIVE ≠ 1) ∧
    (∃ (s : State),
      Live s ∧
      let d := s.dev
      d.sed.finish = none ∧ d.sed.judged = [] ∧ bitOf d.steps.hold 2 = false ∧ d.rg fAON_DSTATE_STATE = 3 ∧ d.rg
          fTHM_EMERG_ACTIVE = 1) ∧
    (∃ (s : State),
      Live s ∧
      let d := s.dev
      d.sed.finish = none ∧ d.sed.judged = [] ∧ bitOf d.steps.hold 2 = false ∧ d.rg fAON_DSTATE_STATE ≠ 3) ∧
    (∃ (s : State),
      Live s ∧
      let d := s.dev
      d.rg fSHD_FW_STATE = 2 ∧ d.flash.lives.length = 2) :=
  ⟨⟨live id, 1, 1567, by
      delta Live
      try dsimp only
      decide +kernel⟩,
    ⟨live id, 1, 2047, by
      delta Live
      try dsimp only
      decide +kernel⟩,
    ⟨live (fun d => d.rs fAON_BLK_RST_RESULT 1), 5, by
      delta Live
      try dsimp only
      decide +kernel⟩,
    ⟨live (fun d =>
      { (((d.rs fAON_BLK_RST_RESULT 1).rs fAON_BLK_RST_KIND 1).rs fAON_BLK_RST_INSTANCE 1567).setPlot 1567 (Plot.reset.rs fPLOT_SEQ_STATUS_STATE 2) with scr := [(5, 4), (scrBase 1567 + 9, 6)], numbering := [(5, 1567)] }),
      by
      delta Live
      try dsimp only
      decide +kernel⟩,
    ⟨live (fun d => (((d.rs fAON_BLK_RST_RESULT 1).rs fAON_BLK_RST_KIND 2).rs fAON_BLK_RST_INSTANCE 23).rs
      (fGDC_STATUS_STATE.at 23) 2), by
      delta Live
      try dsimp only
      decide +kernel⟩,
    ⟨live (fun d => (((d.rs fAON_BLK_RST_RESULT 1).rs fAON_BLK_RST_KIND 3).rs fAON_BLK_RST_INSTANCE 17).rs
      (fLNE_ROLE_ROLE.at 17) 3), by
      delta Live
      try dsimp only
      decide +kernel⟩,
    ⟨live (fun d => (((((d.rs fAON_BLK_RST_RESULT 1).rs fAON_BLK_RST_KIND 3).rs fAON_BLK_RST_INSTANCE 17).rs
      (fLNE_ROLE_ROLE.at 17) 2).rs (fLNE_ROLE_PORT.at 17) 15).rs (fSOP_PORT_STATUS_STATE.at 15) 3), by
      delta Live
      try dsimp only
      decide +kernel⟩,
    ⟨live (fun d => (((d.rs fAON_BLK_RST_RESULT 1).rs fAON_BLK_RST_KIND 4).rs fAON_BLK_RST_INSTANCE 7).rs
      (fSHD_CORE_CTRL_RUN.at 7) 1), by
      delta Live
      try dsimp only
      decide +kernel⟩,
    ⟨live (fun d => ((d.rs fAON_BLK_RST_RESULT 1).rs fAON_BLK_RST_KIND 5).rs fAON_BLK_RST_INSTANCE 0), by
      delta Live
      try dsimp only
      decide +kernel⟩,
    ⟨live (fun d => (((d.rs fAON_BLK_RST_RESULT 1).rs fAON_BLK_RST_KIND 2).rs fAON_BLK_RST_INSTANCE 23).setPoint 23
      { RegPoint.reset with queue := [waits (.read 64) 0x40] }), waits (.read 64) 0x40, 4, by
      delta Live
      try dsimp only
      decide +kernel⟩,
    ⟨live id, by
      delta Live
      try dsimp only
      decide +kernel⟩,
    ⟨live (fun d =>
      { ((d.rs fAON_DSTATE_STATE 2).rs (fSTP_SLOT_STATE.at 15) 2).rs fTHM_STATUS_STOP 1 with bed := [(3, 4)] }), by
      delta Live
      try dsimp only
      decide +kernel⟩,
    ⟨live (fun d => d.rs fAON_DSTATE_STATE 3), by
      delta Live
      try dsimp only
      decide +kernel⟩,
    ⟨live (fun d => (d.rs fAON_DSTATE_STATE 3).setPlot 4 ((Plot.reset.rs fPLOT_PWR_STATE 3).rs fPLOT_PWR_REQ 3)), by
      delta Live
      try dsimp only
      decide +kernel⟩,
    ⟨live (fun d => (d.rs fAON_DSTATE_STATE 3).rs fTHM_EMERG_ACTIVE 1), by
      delta Live
      try dsimp only
      decide +kernel⟩,
    ⟨live id, by
      delta Live
      try dsimp only
      decide +kernel⟩,
    ⟨live (fun d => d.rs fSHD_FW_STATE 2), by
      delta Live
      try dsimp only
      decide +kernel⟩⟩

/-- What each clause of `PowerRegulation` supposes is met. -/
theorem witness_PowerRegulation :
    (∃ (s : State),
      Live s ∧
      let d := s.dev
      d.rg fTHM_PWR_CFG_SUST_W ≤ 1800 ∧ 1 ≤ d.therm.duty ∧ d.therm.duty ≤ 256) ∧
    (∃ (s : State) (sust : _) (peak : _),
      Live s ∧ sust < 4096 ∧ peak < 4096 ∧ 300 ≤ sust ∧ sust ≤ 1800 ∧ sust ≤ peak ∧ peak ≤ 2100) ∧
    (∃ (s : State) (sust : _) (peak : _),
      Live s ∧ sust < 4096 ∧ peak < 4096 ∧ (sust < 300 ∨ 1800 < sust ∨ peak < sust ∨ 2100 < peak)) ∧
    (∃ (s : State) (bits : _), Live s ∧ (∀ i, i < 6 → bitOf bits i = false)) ∧
    (∃ (s : State) (bits : _) (r : _), Live s ∧ r < 6 ∧ bitOf bits r = true) ∧
    (∃ (s : State) (r : _), Live s ∧ r < 6) ∧
    (∃ (s : State) (r : _) (mv : _) (nominal : _),
      Live s ∧ (r, nominal) ∈ [(0, 750), (1, 750), (2, 1050), (3, 1200), (4, 900)] ∧ 97 * nominal ≤ 100 * mv ∧ 100 *
          mv ≤ 103 * nominal) ∧
    (∃ (s : State) (r : _) (mv : _) (nominal : _),
      Live s ∧ (r, nominal) ∈ [(0, 750), (1, 750), (2, 1050), (3, 1200), (4, 900)] ∧ (100 * mv < 97 * nominal ∨ 103 *
          nominal < 100 * mv)) ∧
    (∃ (s : State), Live s) :=
  ⟨⟨live (fun d => { d with therm := { d.therm with duty := 5 } }), by
      delta Live
      try dsimp only
      decide +kernel⟩,
    ⟨live id, 1800, 2100, by
      delta Live
      try dsimp only
      decide +kernel⟩,
    ⟨live id, 1800, 2101, by
      delta Live
      try dsimp only
      decide +kernel⟩,
    ⟨live id, 64, by
      delta Live
      try dsimp only
      decide +kernel⟩,
    ⟨live id, 32, 5, by
      delta Live
      try dsimp only
      decide +kernel⟩,
    ⟨live id, 5, by
      delta Live
      try dsimp only
      decide +kernel⟩,
    ⟨live id, 3, 1236, 1200, by
      delta Live
      try dsimp only
      decide +kernel⟩,
    ⟨live id, 3, 1237, 1200, by
      delta Live
      try dsimp only
      decide +kernel⟩,
    ⟨live id, by
      delta Live
      try dsimp only
      decide +kernel⟩⟩

/-- What each clause of `ThermalSensors` supposes is met. -/
theorem witness_ThermalSensors :
    (∃ (s : State) (l : Int) (b : Int),
      let d := s.dev
      let off (p : Nat) : Int := signedOf 12 (d.rg (fTHM_PLOT_ARB_EXP_OFFSET.at p))
      let st (p : Nat) (t : State) : Nat := t.dev.rg (fTHM_PLOT_SENSE_STATE.at p)
      (-160 ≤ l) ∧ l ≤ 1200 ∧ (-160 ≤ b) ∧ b ≤ 1200 ∧ d.therm.fcValid = false ∧ d.therm.flowStop = false ∧ (∀ p,
          isPlot p = true → st p s = 0) ∧ (∀ p, isPlot p = true → (l - b - off p).natAbs ≤ 48) ∧ l < 920 ∧ b < 840) ∧
    (∃ (s : State) (l : Int) (b : Int),
      let d := s.dev
      let off (p : Nat) : Int := signedOf 12 (d.rg (fTHM_PLOT_ARB_EXP_OFFSET.at p))
      let st (p : Nat) (t : State) : Nat := t.dev.rg (fTHM_PLOT_SENSE_STATE.at p)
      (-160 ≤ l) ∧ l ≤ 1200 ∧ (-160 ≤ b) ∧ b ≤ 1200 ∧ d.therm.fcValid = false ∧ d.therm.flowStop = false ∧ (∀ p,
          isPlot p = true → st p s = 0) ∧ (∀ p, isPlot p = true → (l - b - off p).natAbs ≤ 48) ∧ 920 ≤ l ∧ (d.sense
          0).hotLogic = true ∧ d.rst.trip = false) ∧
    (∃ (s : State) (l : Int) (b : Int) (p : _),
      let d := s.dev
      let off (p : Nat) : Int := signedOf 12 (d.rg (fTHM_PLOT_ARB_EXP_OFFSET.at p))
      let st (p : Nat) (t : State) : Nat := t.dev.rg (fTHM_PLOT_SENSE_STATE.at p)
      (-160 ≤ l) ∧ l ≤ 1200 ∧ (-160 ≤ b) ∧ b ≤ 1200 ∧ d.therm.fcValid = false ∧ d.therm.flowStop = false ∧ (∀ p,
          isPlot p = true → st p s = 0) ∧ (∀ p, isPlot p = true → (l - b - off p).natAbs ≤ 48) ∧ Live s ∧ l < 872 ∧ b
          < 792 ∧ isPlot p = true ∧ (d.sense p).badLogic = 7 ∧ (d.sense p).badBoth < 7) ∧
    (∃ (s : State) (l : Int) (b : Int) (p : _) (l' : Int) (b' : Int),
      let d := s.dev
      let off (p : Nat) : Int := signedOf 12 (d.rg (fTHM_PLOT_ARB_EXP_OFFSET.at p))
      let st (p : Nat) (t : State) : Nat := t.dev.rg (fTHM_PLOT_SENSE_STATE.at p)
      (-160 ≤ l) ∧ l ≤ 1200 ∧ (-160 ≤ b) ∧ b ≤ 1200 ∧ d.therm.fcValid = false ∧ d.therm.flowStop = false ∧ (∀ p,
          isPlot p = true → st p s = 0) ∧ (∀ p, isPlot p = true → (l - b - off p).natAbs ≤ 48) ∧ Live s ∧ l < 872 ∧ b
          < 792 ∧ isPlot p = true ∧ d.rg (fTHM_PLOT_SENSE_DIS_COUNT.at p) = 7 ∧ (-160 ≤ l') ∧ l' < 872 ∧ (-160 ≤ b')
          ∧ b' < 792 ∧ b' + off p < 872 ∧ l' - off p < 792 ∧ 48 < (l' - b' - off p).natAbs) ∧
    (∃ (s : State) (p : _) (k : _),
      let d := s.dev
      let st (p : Nat) (t : State) : Nat := t.dev.rg (fTHM_PLOT_SENSE_STATE.at p)
      Live s ∧ isPlot p = true ∧
      let badL := d.rg (fTHM_PLOT_SENSE_LOGIC_INVALID.at p) = 1
      let badB := d.rg (fTHM_PLOT_SENSE_BED_INVALID.at p) = 1
      (k = 1 ∧ ¬ badB ∨ k = 2 ∧ ¬ badL) ∧ st p s ≠ 5) ∧
    (∃ (s : State) (p : _) (k : _),
      let d := s.dev
      let st (p : Nat) (t : State) : Nat := t.dev.rg (fTHM_PLOT_SENSE_STATE.at p)
      Live s ∧ isPlot p = true ∧
      let badL := d.rg (fTHM_PLOT_SENSE_LOGIC_INVALID.at p) = 1
      let badB := d.rg (fTHM_PLOT_SENSE_BED_INVALID.at p) = 1
      k < 3 ∧ (st p s = 5 ∨ k = 1 ∧ badB ∨ k = 2 ∧ badL)) ∧
    (∃ (s : State) (p : _),
      let d := s.dev
      let st (p : Nat) (t : State) : Nat := t.dev.rg (fTHM_PLOT_SENSE_STATE.at p)
      Live s ∧ isPlot p = true ∧
      let badL := d.rg (fTHM_PLOT_SENSE_LOGIC_INVALID.at p) = 1
      let badB := d.rg (fTHM_PLOT_SENSE_BED_INVALID.at p) = 1
      (st p s = 2 ∨ st p s = 3) ∧ ¬ badL ∧ ¬ badB) ∧
    (∃ (s : State) (p : _),
      let st (p : Nat) (t : State) : Nat := t.dev.rg (fTHM_PLOT_SENSE_STATE.at p)
      Live s ∧ isPlot p = true ∧ st p s = 1) ∧
    (∃ (s : State) (p : _),
      let st (p : Nat) (t : State) : Nat := t.dev.rg (fTHM_PLOT_SENSE_STATE.at p)
      Live s ∧ isPlot p = true ∧ st p s = 4) ∧
    (∃ (s : State) (p : _),
      let d := s.dev
      let st (p : Nat) (t : State) : Nat := t.dev.rg (fTHM_PLOT_SENSE_STATE.at p)
      Live s ∧ isPlot p = true ∧
      let badL := d.rg (fTHM_PLOT_SENSE_LOGIC_INVALID.at p) = 1
      let badB := d.rg (fTHM_PLOT_SENSE_BED_INVALID.at p) = 1
      (st p s = 1 ∨ st p s = 4) ∧ d.rg fSHD_FW_STATE = 2 ∧ ¬ badL ∧ ¬ badB) :=
  ⟨⟨live id, 860, 830, by
      refine ⟨by decide, by decide, by decide, by decide, by decide, by decide, fun p _ => rfl, fun p _ => ?_, by decide, by decide⟩
      dsimp only
      rw [unwritten_offset _ rfl]; decide⟩,
    ⟨live (fun d => { d with therm := { d.therm with sense := [(0, { Sense.reset with hotLogic := true })] } }),
      1000, 960, by
      refine ⟨by decide, by decide, by decide, by decide, by decide, by decide, fun p _ => rfl, fun p _ => ?_, by decide, by decide, by decide⟩
      dsimp only
      rw [unwritten_offset _ rfl]; decide⟩,
    ⟨live (fun d =>
      { d with therm := { d.therm with sense := [(1567, { Sense.reset with badLogic := 7, badBoth := 6 })] } }), 820,
      780, 1567, by
      refine ⟨by decide, by decide, by decide, by decide, by decide, by decide, fun p _ => rfl, fun p _ => ?_, by delta Live; decide, by decide, by decide, by decide, by decide, by decide⟩
      dsimp only
      rw [unwritten_offset _ rfl]; decide⟩,
    ⟨sensed, 820, 780, 1567, 500, 600, by
      refine ⟨by decide, by decide, by decide, by decide, by decide, by decide, fun p _ => sensed_state p, fun p _ => ?_, by delta Live; decide, by decide, by decide, by decide, by decide +kernel, by decide, by decide, by decide, by decide, by decide +kernel, by decide +kernel, by decide +kernel⟩
      dsimp only
      rw [sensed_offset]; decide⟩,
    ⟨live (fun d => d.rs (fTHM_PLOT_SENSE_STATE.at 1567) 1), 1567, 2, by
      delta Live
      try dsimp only
      decide +kernel⟩,
    ⟨live (fun d => (d.rs (fTHM_PLOT_SENSE_STATE.at 1567) 1).rs (fTHM_PLOT_SENSE_BED_INVALID.at 1567) 1), 1567, 1, by
      delta Live
      try dsimp only
      decide +kernel⟩,
    ⟨live (fun d => d.rs (fTHM_PLOT_SENSE_STATE.at 1567) 3), 1567, by
      delta Live
      try dsimp only
      decide +kernel⟩,
    ⟨live (fun d => d.rs (fTHM_PLOT_SENSE_STATE.at 1567) 1), 1567, by
      delta Live
      try dsimp only
      decide +kernel⟩,
    ⟨live (fun d => d.rs (fTHM_PLOT_SENSE_STATE.at 1567) 4), 1567, by
      delta Live
      try dsimp only
      decide +kernel⟩,
    ⟨live (fun d => (d.rs (fTHM_PLOT_SENSE_STATE.at 1567) 4).rs fSHD_FW_STATE 2), 1567, by
      delta Live
      try dsimp only
      decide +kernel⟩⟩

/-- What each clause of `CoolantAndMonitors` supposes is met. -/
theorem witness_CoolantAndMonitors :
    (∃ (s : State) (ac : _),
      let d := s.dev
      7 ≤ d.therm.intervals.length ∧ 0 < d.rg fTHM_COOL_CFG_PULSES_PER_L ∧ 0 < ac) ∧
    (∃ (s : State),
      let d := s.dev
      d.rg fTHM_PWR_CFG_SUST_W ≤ 1800) ∧
    (∃ (s : State) (flow : _) (n : _),
      let d := s.dev
      d.rg fTHM_COOL_CTRL_MODE = 0 ∧ (∀ f ∈ [fTHM_STATUS_THR_LOGIC, fTHM_STATUS_THR_BED, fTHM_STATUS_STOP], d.rg f =
          0) ∧ d.therm.flowLow = false ∧ d.therm.flowThr = false ∧ d.therm.flowStop = false ∧ 0 < n ∧ d.therm.flows =
          [(flow, n)] ∧ 0 < d.rg fTHM_COOL_CFG_FLOW_SET ∧ d.rg fTHM_COOL_CFG_DUTY_MIN ≤ 1000) ∧
    (∃ (s : State),
      let d := s.dev
      d.rg fTHM_COOL_CTRL_MODE = 1) ∧
    (∃ (s : State) (x : _) (y : _), Live s ∧ x < 4096 ∧ y < 4096) ∧
    (∃ (s : State),
      let d := s.dev
      Live s ∧ d.therm.fcValid = true) ∧
    (∃ (s : State),
      let d := s.dev
      Live s ∧ d.therm.fcValid = false) ∧
    (∃ (s : State) (ppl : _) (set : _) (lo : _),
      Live s ∧ 3000 ≤ ppl ∧ ppl < 65536 ∧ 120 ≤ set ∧ set ≤ 1000 ∧ lo ≤ 1000) ∧
    (∃ (s : State) (ppl : _) (set : _) (lo : _),
      Live s ∧ ppl < 65536 ∧ set < 4096 ∧ lo < 1024 ∧ (ppl < 3000 ∨ set < 120 ∨ 1000 < set ∨ 1000 < lo)) ∧
    (∃ (s : State) (mode : _) (duty : _), Live s ∧ mode < 2 ∧ duty ≤ 1000) ∧
    (∃ (s : State) (en : _) (w : _), Live s ∧ en < 2 ∧ w ≤ 900) ∧
    (∃ (s : State) (c : _) (mv : _),
      let d := s.dev
      Live s ∧ c < 80 ∧ mv + d.rg (fTHM_MON_THRESH_MV.at c) < 750) ∧
    (∃ (s : State) (c : _) (mv : _),
      let d := s.dev
      Live s ∧ c < 80 ∧ 750 ≤ mv + d.rg (fTHM_MON_THRESH_MV.at c)) ∧
    (∃ (s : State) (c : _) (clear : _) (th : _),
      let d := s.dev
      Live s ∧ c < 80 ∧ clear < 65536 ∧ 0 < th ∧ th < 64 ∧ d.rg (fTHM_MON_DROOPS.at c) < 65536) ∧
    (∃ (s : State) (c : _), Live s ∧ c < 80) ∧
    (∃ (s : State), Live s) ∧
    (∃ (s : State) (m : _),
      let d := s.dev
      Live s ∧ MailIn d 0x0400 m) :=
  ⟨⟨live (fun d => { d with therm := { d.therm with intervals := [1, 2, 3, 4, 5, 6, 7] } }), 9, by
      try dsimp only
      decide +kernel⟩,
    ⟨live id, by
      try dsimp only
      decide +kernel⟩,
    ⟨live (fun d => { d.rs fTHM_COOL_CTRL_MODE 0 with therm := { d.therm with flows := [(700, 1000)] } }), 700, 1000,
      by
      try dsimp only
      decide +kernel⟩,
    ⟨live (fun d => d.rs fTHM_COOL_CTRL_MODE 1), by
      try dsimp only
      decide +kernel⟩,
    ⟨live (fun d => d.rs fTHM_CFG_FORECAST_EN 1), 4095, 4095, by
      delta Live
      try dsimp only
      decide +kernel⟩,
    ⟨live (fun d => { d.rs fTHM_CFG_FORECAST_EN 1 with therm := { d.therm with fcValid := true } }), by
      delta Live
      try dsimp only
      decide +kernel⟩,
    ⟨live id, by
      delta Live
      try dsimp only
      decide +kernel⟩,
    ⟨live id, 65535, 1000, 1000, by
      delta Live
      try dsimp only
      decide +kernel⟩,
    ⟨live id, 3000, 1001, 1000, by
      delta Live
      try dsimp only
      decide +kernel⟩,
    ⟨live id, 1, 1000, by
      delta Live
      try dsimp only
      decide +kernel⟩,
    ⟨live id, 1, 900, by
      delta Live
      try dsimp only
      decide +kernel⟩,
    ⟨live (fun d => d.rs (fTHM_MON_THRESH_MV.at 79) 40), 79, 709, by
      delta Live
      try dsimp only
      decide +kernel⟩,
    ⟨live (fun d => d.rs (fTHM_MON_THRESH_MV.at 79) 40), 79, 710, by
      delta Live
      try dsimp only
      decide +kernel⟩,
    ⟨live (fun d => d.rs (fTHM_MON_DROOPS.at 79) 65535), 79, 65535, 63, by
      delta Live
      try dsimp only
      decide +kernel⟩,
    ⟨live id, 79, by
      delta Live
      try dsimp only
      decide +kernel⟩,
    ⟨live id, by
      delta Live
      try dsimp only
      decide +kernel⟩,
    ⟨live (fun d => { d.rs fSHD_FW_STATE 2 with cpl := { d.cpl with mail := some ⟨1, 0, 0x0400, 0, 7, 0, []⟩ } }),
      ⟨1, 0, 0x0400, 0, 7, 0, []⟩, by
      delta Live MailIn
      try dsimp only
      decide +kernel⟩⟩

/-- What each clause of `BringUpWindow` supposes is met. -/
theorem witness_BringUpWindow :
    (∃ (s : State) (src : _) (clk : _) (west : _) (east : _),
      Live s ∧
      let st (t : State) : Nat := t.dev.rg fBRW_STATUS_STATE
      st s = 0 ∧ src < 4 ∧ clk < 4 ∧ west < 2 ∧ east < 2) ∧
    (∃ (s : State),
      Live s ∧
      let st (t : State) : Nat := t.dev.rg fBRW_STATUS_STATE
      st s ≠ 0) ∧
    (∃ (s : State) (sfdp : Bool) (lock : Bool) (ports : Nat) (lib : Nat) (base : Nat) (words : List Nat) (down : List
        Nat) (rows : List (Nat × Nat × Nat × Nat)) (fails : List (Nat × Nat)) (results : List (Nat × Nat × Nat)) (e :
        _),
      Live s ∧
      let d := s.dev
      let st (t : State) : Nat := t.dev.rg fBRW_STATUS_STATE
      let last (t : State) : Nat := t.dev.rg fBRW_STATUS_LAST_DONE
      let step (t : State) : Nat := t.dev.rg fBRW_STATUS_STEP
      e ∈ [(1, Instr.stepConfig sfdp), (2, .stepLicence), (3, .stepHalves ports), (3, .halvesPartnerTimeout),
      (4, .stepClocks lock), (5, .stepLanes), (6, .stepBeds rows), (7, .stepPlots fails), (8, .stepGddr down results),
      (9, .stepShed), (10, .stepSow lib base words), (11, .stepHandshake), (12, .stepRun)] ∧
      let k := e.1
      (st s = 2 ∧ last s + 1 ≠ k ∨ st s ≠ 2 ∧ ¬ (st s = 1 ∧ step s = k ∧ d.boot.acted = false))) ∧
    (∃ (s : State) (sfdp : Bool) (lock : Bool) (ports : Nat) (lib : Nat) (base : Nat) (words : List Nat) (down : List
        Nat) (rows : List (Nat × Nat × Nat × Nat)) (fails : List (Nat × Nat)) (results : List (Nat × Nat × Nat)) (e :
        _),
      Live s ∧
      let st (t : State) : Nat := t.dev.rg fBRW_STATUS_STATE
      let last (t : State) : Nat := t.dev.rg fBRW_STATUS_LAST_DONE
      e ∈ [(1, Instr.stepConfig sfdp), (2, .stepLicence), (3, .stepHalves ports), (3, .halvesPartnerTimeout),
      (4, .stepClocks lock), (5, .stepLanes), (6, .stepBeds rows), (7, .stepPlots fails), (8, .stepGddr down results),
      (9, .stepShed), (10, .stepSow lib base words), (11, .stepHandshake), (12, .stepRun)] ∧
      let k := e.1
      st s = 2 ∧ last s + 1 = k) ∧
    (∃ (s : State) (k : Nat) (ac : Nat),
      Live s ∧
      let d := s.dev
      let st (t : State) : Nat := t.dev.rg fBRW_STATUS_STATE
      let step (t : State) : Nat := t.dev.rg fBRW_STATUS_STEP
      st s = 1 ∧ step s = k ∧ d.boot.acted = true ∧ k ∈ [1, 2, 3, 4, 6, 7, 8, 9, 12] ∧ ac < 2 ^ 32 ∧ d.boot.outcome =
          none) ∧
    (∃ (s : State) (k : Nat) (ac : Nat),
      Live s ∧
      let d := s.dev
      let st (t : State) : Nat := t.dev.rg fBRW_STATUS_STATE
      let step (t : State) : Nat := t.dev.rg fBRW_STATUS_STEP
      st s = 1 ∧ step s = k ∧ d.boot.acted = true ∧ k ∈ [1, 2, 3, 4, 6, 7, 8, 9, 12] ∧ ac < 2 ^ 32 ∧ d.boot.outcome =
          some 0) ∧
    (∃ (s : State) (k : Nat) (ac : Nat) (x : _),
      Live s ∧
      let d := s.dev
      let st (t : State) : Nat := t.dev.rg fBRW_STATUS_STATE
      let step (t : State) : Nat := t.dev.rg fBRW_STATUS_STEP
      st s = 1 ∧ step s = k ∧ d.boot.acted = true ∧ k ∈ [1, 2, 3, 4, 6, 7, 8, 9, 12] ∧ ac < 2 ^ 32 ∧ d.boot.outcome =
          some x ∧ x / 256 = 1) ∧
    (∃ (s : State) (e : _),
      Live s ∧
      let st (t : State) : Nat := t.dev.rg fBRW_STATUS_STATE
      let step (t : State) : Nat := t.dev.rg fBRW_STATUS_STEP
      e ∈ [(1, 500), (2, 200), (3, 100), (4, 20), (5, 500), (6, 200), (7, 200), (8, 500), (9, 2000), (10, 100), (12,
          10)] ∧ st s = 1 ∧ step s = e.1) ∧
    (∃ (s : State),
      Live s ∧
      let st (t : State) : Nat := t.dev.rg fBRW_STATUS_STATE
      let step (t : State) : Nat := t.dev.rg fBRW_STATUS_STEP
      (st s ≠ 1 ∨ step s = 11)) ∧
    (∃ (s : State),
      Live s ∧
      let st (t : State) : Nat := t.dev.rg fBRW_STATUS_STATE
      let last (t : State) : Nat := t.dev.rg fBRW_STATUS_LAST_DONE
      (st s = 1 ∨ st s = 2) ∧ last s < 12) ∧
    (∃ (s : State),
      Live s ∧
      let st (t : State) : Nat := t.dev.rg fBRW_STATUS_STATE
      let last (t : State) : Nat := t.dev.rg fBRW_STATUS_LAST_DONE
      (12 ≤ last s ∨ st s = 3 ∨ st s = 4)) ∧
    (∃ (s : State) (v : _), Live s ∧ v < 256 ∧ 0 < v) ∧
    (∃ (s : State) (e : _),
      Live s ∧
      let st (t : State) : Nat := t.dev.rg fBRW_STATUS_STATE
      e ∈ [(1, Instr.writeConfig), (2, .writeLicence), (3, .writeImage)] ∧
      let result (t : State) : Nat := t.dev.rg fBRW_RECOVERY_RESULT
      (st s ≠ 4 ∨ result s = 1)) ∧
    (∃ (s : State) (e : _),
      Live s ∧
      let d := s.dev
      let st (t : State) : Nat := t.dev.rg fBRW_STATUS_STATE
      e ∈ [(1, Instr.writeConfig), (2, .writeLicence), (3, .writeImage)] ∧
      let len := d.rg fBRW_PUSH_LEN_LENGTH
      let result (t : State) : Nat := t.dev.rg fBRW_RECOVERY_RESULT
      st s = 4 ∧ result s ≠ 1 ∧ len = 0) ∧
    (∃ (s : State) (e : _),
      Live s ∧
      let d := s.dev
      let st (t : State) : Nat := t.dev.rg fBRW_STATUS_STATE
      e ∈ [(1, Instr.writeConfig), (2, .writeLicence), (3, .writeImage)] ∧
      let len := d.rg fBRW_PUSH_LEN_LENGTH
      let result (t : State) : Nat := t.dev.rg fBRW_RECOVERY_RESULT
      st s = 4 ∧ result s ≠ 1 ∧ 524288 < len) ∧
    (∃ (s : State) (e : _),
      Live s ∧
      let d := s.dev
      let st (t : State) : Nat := t.dev.rg fBRW_STATUS_STATE
      e ∈ [(1, Instr.writeConfig), (2, .writeLicence), (3, .writeImage)] ∧
      let len := d.rg fBRW_PUSH_LEN_LENGTH
      let result (t : State) : Nat := t.dev.rg fBRW_RECOVERY_RESULT
      st s = 4 ∧ result s ≠ 1 ∧ 0 < len ∧ len ≤ 524288) ∧
    (∃ (s : State),
      Live s ∧
      let d := s.dev
      d.boot.command = none) ∧
    (∃ (s : State),
      Live s ∧
      let d := s.dev
      d.boot.command = some 1 ∧ d.shed.sramErr = [] ∧ d.rg fBRW_PUSH_LEN_LENGTH = 22565 ∧ (shake256 64 (aelmoKey
          d)).take 32 = s.fused.keyHash ∧
      let b := memRead d.shed.sram pushBase 22565
      let ok := configCheck s.fused (d.rs fTRU_STATUS_KEY_VALID 1) b = (0, 0)
      ok) ∧
    (∃ (s : State),
      Live s ∧
      let d := s.dev
      d.boot.command = some 1 ∧ d.shed.sramErr = [] ∧ d.rg fBRW_PUSH_LEN_LENGTH = 22565 ∧ (shake256 64 (aelmoKey
          d)).take 32 = s.fused.keyHash ∧
      let b := memRead d.shed.sram pushBase 22565
      (configCheck s.fused (d.rs fTRU_STATUS_KEY_VALID 1) b).1 ≠ 0) :=
  ⟨⟨live id, 1, 3, 1, 1, by
      delta Live
      try dsimp only
      decide +kernel⟩,
    ⟨live (fun d => d.rs fBRW_STATUS_STATE 1), by
      delta Live
      try dsimp only
      decide +kernel⟩,
    ⟨live (fun d => (d.rs fBRW_STATUS_STATE 2).rs fBRW_STATUS_LAST_DONE 1), true, true, 0, 0, 0, [], [], [], [], [],
      (1, Instr.stepConfig true), by
      delta Live
      dsimp only
      refine ⟨by decide +kernel, List.Mem.head _, ?_⟩
      decide +kernel⟩,
    ⟨live (fun d => (d.rs fBRW_STATUS_STATE 2).rs fBRW_STATUS_LAST_DONE 0), true, true, 0, 0, 0, [], [], [], [], [],
      (1, Instr.stepConfig true), by
      delta Live
      dsimp only
      refine ⟨by decide +kernel, List.Mem.head _, ?_⟩
      decide +kernel⟩,
    ⟨live (fun d => { (d.rs fBRW_STATUS_STATE 1).rs fBRW_STATUS_STEP 9 with boot := { d.boot with acted := true } }),
      9, 5, by
      delta Live
      try dsimp only
      decide +kernel⟩,
    ⟨live (fun d =>
      { (d.rs fBRW_STATUS_STATE 1).rs fBRW_STATUS_STEP 12 with boot := { d.boot with acted := true, outcome := some 0, warn := 0x0515 } }),
      12, 5, by
      delta Live
      try dsimp only
      decide +kernel⟩,
    ⟨live (fun d =>
      { (d.rs fBRW_STATUS_STATE 1).rs fBRW_STATUS_STEP 9 with boot := { d.boot with acted := true, outcome := some 0x0112 } }),
      9, 5, 0x0112, by
      delta Live
      try dsimp only
      decide +kernel⟩,
    ⟨live (fun d => (d.rs fBRW_STATUS_STATE 1).rs fBRW_STATUS_STEP 12), (12, 10), by
      delta Live
      try dsimp only
      decide +kernel⟩,
    ⟨live id, by
      delta Live
      try dsimp only
      decide +kernel⟩,
    ⟨live (fun d => d.rs fBRW_STATUS_STATE 1), by
      delta Live
      try dsimp only
      decide +kernel⟩,
    ⟨live (fun d => d.rs fBRW_STATUS_STATE 3), by
      delta Live
      try dsimp only
      decide +kernel⟩,
    ⟨live id, 255, by
      delta Live
      try dsimp only
      decide +kernel⟩,
    ⟨live id, (3, Instr.writeImage), by
      delta Live
      dsimp only
      refine ⟨by decide +kernel, by simp, ?_⟩
      decide +kernel⟩,
    ⟨live (fun d => d.rs fBRW_STATUS_STATE 4), (3, Instr.writeImage), by
      delta Live
      dsimp only
      refine ⟨by decide +kernel, by simp, ?_⟩
      decide +kernel⟩,
    ⟨live (fun d => (d.rs fBRW_STATUS_STATE 4).rs fBRW_PUSH_LEN_LENGTH 524289), (3, Instr.writeImage), by
      delta Live
      dsimp only
      refine ⟨by decide +kernel, by simp, ?_⟩
      decide +kernel⟩,
    ⟨live (fun d => (d.rs fBRW_STATUS_STATE 4).rs fBRW_PUSH_LEN_LENGTH 524288), (3, Instr.writeImage), by
      delta Live
      dsimp only
      refine ⟨by decide +kernel, by simp, ?_⟩
      decide +kernel⟩,
    ⟨live id, by
      delta Live
      try dsimp only
      decide +kernel⟩,
    ⟨pushed (signed cfgBody), by
      delta Live
      dsimp only
      rw [pushed_signed, pushed_key]
      exact ⟨by decide, rfl, rfl, rfl, rfl, configCheck_signed _ _ cfgBody cfgBody_length (by decide +kernel) (by decide +kernel) rfl rfl (pushed_key (signed cfgBody))⟩⟩,
    ⟨pushed [], by
      delta Live
      dsimp only
      rw [pushed_key]
      exact ⟨by decide, rfl, rfl, rfl, rfl, by decide +kernel⟩⟩⟩

/-- What each clause of `BringUpSteps` supposes is met. -/
theorem witness_BringUpSteps :
    (∃ (s : State),
      Live s ∧ s.dev.rg fBRW_STATUS_STATE = 2 ∧ s.dev.rg fBRW_STRAPS_BOOT_SRC = 0 ∧
      let d := s.dev
      let f := s.fused
      let next (k : Nat) : Prop := d.rg fBRW_STATUS_LAST_DONE + 1 = k
      let key := (shake256 64 (aelmoKey d)).take 32
      next 1 ∧ key ≠ f.keyHash) ∧
    (∃ (s : State),
      Live s ∧ s.dev.rg fBRW_STATUS_STATE = 2 ∧ s.dev.rg fBRW_STRAPS_BOOT_SRC = 0 ∧
      let d := s.dev
      let f := s.fused
      let next (k : Nat) : Prop := d.rg fBRW_STATUS_LAST_DONE + 1 = k
      let rec1 := flRead d flCONFIG 22565
      let key := (shake256 64 (aelmoKey d)).take 32
      next 1 ∧ key = f.keyHash ∧ configForm rec1 = false) ∧
    (∃ (s : State),
      Live s ∧ s.dev.rg fBRW_STATUS_STATE = 2 ∧ s.dev.rg fBRW_STRAPS_BOOT_SRC = 0 ∧
      let d := s.dev
      let f := s.fused
      let next (k : Nat) : Prop := d.rg fBRW_STATUS_LAST_DONE + 1 = k
      let rec1 := flRead d flCONFIG 22565
      let key := (shake256 64 (aelmoKey d)).take 32
      next 1 ∧ key = f.keyHash ∧ configCheck f (d.rs fTRU_STATUS_KEY_VALID 1) rec1 = (0, 0)) ∧
    (∃ (s : State) (seq : _) (index : _),
      Live s ∧ s.dev.rg fBRW_STATUS_STATE = 2 ∧ s.dev.rg fBRW_STRAPS_BOOT_SRC = 0 ∧
      let d := s.dev
      let f := s.fused
      let next (k : Nat) : Prop := d.rg fBRW_STATUS_LAST_DONE + 1 = k
      next 2 ∧ d.rg fTRU_STATUS_KEY_VALID = 1 ∧ certCheck f d (flRead d flCERT licBytes) = 0 ∧ (∀ c, c < 3 → pairGood
          magicR (flRead d (flRESERVE + c * 0x1000) 64) = some (seq, index)) ∧ (∀ k, k < 8 → licenceHeld (flRead d
          (flLICENCE k) licBytes) = false)) ∧
    (∃ (s : State) (seq : _) (index : _),
      Live s ∧ s.dev.rg fBRW_STATUS_STATE = 2 ∧ s.dev.rg fBRW_STRAPS_BOOT_SRC = 0 ∧
      let d := s.dev
      let f := s.fused
      let next (k : Nat) : Prop := d.rg fBRW_STATUS_LAST_DONE + 1 = k
      next 2 ∧ d.rg fTRU_STATUS_KEY_VALID = 1 ∧ certCheck f d (flRead d flCERT licBytes) = 0 ∧ (∀ c, c < 3 → pairGood
          magicR (flRead d (flRESERVE + c * 0x1000) 64) = some (seq, index)) ∧
      let pk := ((flRead d flCERT licBytes).drop 24).take 68
      let b := flRead d (flLICENCE 0) licBytes
      (∀ k, k < 8 → licenceHeld (flRead d (flLICENCE k) licBytes) = decide (k = 0)) ∧ licenceForm b = true ∧ sigCode
          f d b 128 none = 0 ∧ (b.drop 12).take 32 = shake256 32 pk) ∧
    (∃ (s : State) (ports : _) (a : _) (b : _) (x : _) (y : _) (u : _),
      Live s ∧ s.dev.rg fBRW_STATUS_STATE = 2 ∧ s.dev.rg fBRW_STRAPS_BOOT_SRC = 0 ∧
      let d := s.dev
      let f := s.fused
      let next (k : Nat) : Prop := d.rg fBRW_STATUS_LAST_DONE + 1 = k
      next 3 ∧ ports < 2 ^ 17 ∧ f.dieId = [a, b] ∧ f.partner = [x, y] ∧ f.assembled = [u, 1 - u] ∧ u < 2 ∧
      let same := x = b ∧ y = a ∧ d.rg fBRW_STRAPS_HALF_ID_WEST = u ∧ d.boot.halfEast = 1 - u
      same) ∧
    (∃ (s : State) (ports : _) (a : _) (b : _) (x : _) (y : _) (u : _),
      Live s ∧ s.dev.rg fBRW_STATUS_STATE = 2 ∧ s.dev.rg fBRW_STRAPS_BOOT_SRC = 0 ∧
      let d := s.dev
      let f := s.fused
      let next (k : Nat) : Prop := d.rg fBRW_STATUS_LAST_DONE + 1 = k
      next 3 ∧ ports < 2 ^ 17 ∧ f.dieId = [a, b] ∧ f.partner = [x, y] ∧ f.assembled = [u, 1 - u] ∧ u < 2 ∧
      let same := x = b ∧ y = a ∧ d.rg fBRW_STRAPS_HALF_ID_WEST = u ∧ d.boot.halfEast = 1 - u
      ¬ same) ∧
    (∃ (s : State),
      Live s ∧ s.dev.rg fBRW_STATUS_STATE = 2 ∧ s.dev.rg fBRW_STRAPS_BOOT_SRC = 0 ∧
      let d := s.dev
      let next (k : Nat) : Prop := d.rg fBRW_STATUS_LAST_DONE + 1 = k
      next 4) ∧
    (∃ (s : State),
      Live s ∧ s.dev.rg fBRW_STATUS_STATE = 2 ∧ s.dev.rg fBRW_STRAPS_BOOT_SRC = 0 ∧
      let d := s.dev
      let next (k : Nat) : Prop := d.rg fBRW_STATUS_LAST_DONE + 1 = k
      next 5 ∧ roleMapBad d = 0) ∧
    (∃ (s : State) (p : _) (ch : _) (bank : _) (row : _),
      Live s ∧ s.dev.rg fBRW_STATUS_STATE = 2 ∧ s.dev.rg fBRW_STRAPS_BOOT_SRC = 0 ∧
      let d := s.dev
      let next (k : Nat) : Prop := d.rg fBRW_STATUS_LAST_DONE + 1 = k
      next 6 ∧ (∀ r ∈ d.flash.repairs, r.kind ≠ 3) ∧ isPlot p = true ∧ ch < 4 ∧ bank < 8 ∧ row < 1024 ∧
      let used := (d.plot p).rg ((fBED_CH_SPARES_USED.at ch).bit bank)
      used < 8) ∧
    (∃ (s : State) (l : _) (x : Option (Nat × Nat)),
      Live s ∧ s.dev.rg fBRW_STATUS_STATE = 2 ∧ s.dev.rg fBRW_STRAPS_BOOT_SRC = 0 ∧
      let d := s.dev
      let next (k : Nat) : Prop := d.rg fBRW_STATUS_LAST_DONE + 1 = k
      next 7 ∧ d.boot.failed = [] ∧ (∀ r ∈ d.flash.repairs, r.kind ≠ 1 ∧ r.kind ≠ 2) ∧ d.licence = some l ∧ l.west ≤
          512 ∧ l.east ≤ 512 ∧ (∀ e ∈ x, isPlot e.1 = true)) ∧
    (∃ (s : State) (down : List Nat),
      Live s ∧ s.dev.rg fBRW_STATUS_STATE = 2 ∧ s.dev.rg fBRW_STRAPS_BOOT_SRC = 0 ∧
      let d := s.dev
      let next (k : Nat) : Prop := d.rg fBRW_STATUS_LAST_DONE + 1 = k
      next 8 ∧ (∀ r ∈ d.flash.repairs, r.kind ≠ 4) ∧ (∀ c ∈ down, c < 24)) ∧
    (∃ (s : State) (seq : _) (slot : _),
      Live s ∧ s.dev.rg fBRW_STATUS_STATE = 2 ∧ s.dev.rg fBRW_STRAPS_BOOT_SRC = 0 ∧
      let d := s.dev
      let f := s.fused
      let next (k : Nat) : Prop := d.rg fBRW_STATUS_LAST_DONE + 1 = k
      next 9 ∧ slot < 2 ∧ d.shed.sramErr = [] ∧ (∀ c, c < 3 → pairGood magicS (flRead d (flSELECT + c * 0x1000) 64) =
          some (seq, slot)) ∧
      let img (k : Nat) : List Byte := flRead d (flSLOT k) 524288
      imageCheck f d (img slot) = 0) ∧
    (∃ (s : State) (seq : _) (slot : _),
      Live s ∧ s.dev.rg fBRW_STATUS_STATE = 2 ∧ s.dev.rg fBRW_STRAPS_BOOT_SRC = 0 ∧
      let d := s.dev
      let f := s.fused
      let next (k : Nat) : Prop := d.rg fBRW_STATUS_LAST_DONE + 1 = k
      next 9 ∧ slot < 2 ∧ d.shed.sramErr = [] ∧ (∀ c, c < 3 → pairGood magicS (flRead d (flSELECT + c * 0x1000) 64) =
          some (seq, slot)) ∧
      let img (k : Nat) : List Byte := flRead d (flSLOT k) 524288
      imageCheck f d (img slot) ≠ 0 ∧ imageCheck f d (img (1 - slot)) = 0) ∧
    (∃ (s : State) (seq : _) (slot : _),
      Live s ∧ s.dev.rg fBRW_STATUS_STATE = 2 ∧ s.dev.rg fBRW_STRAPS_BOOT_SRC = 0 ∧
      let d := s.dev
      let f := s.fused
      let next (k : Nat) : Prop := d.rg fBRW_STATUS_LAST_DONE + 1 = k
      next 9 ∧ slot < 2 ∧ d.shed.sramErr = [] ∧ (∀ c, c < 3 → pairGood magicS (flRead d (flSELECT + c * 0x1000) 64) =
          some (seq, slot)) ∧
      let img (k : Nat) : List Byte := flRead d (flSLOT k) 524288
      imageCheck f d (img slot) ≠ 0 ∧ imageCheck f d (img (1 - slot)) ≠ 0) ∧
    (∃ (s : State),
      Live s ∧ s.dev.rg fBRW_STATUS_STATE = 2 ∧ s.dev.rg fBRW_STRAPS_BOOT_SRC = 0 ∧
      let d := s.dev
      let next (k : Nat) : Prop := d.rg fBRW_STATUS_LAST_DONE + 1 = k
      next 11) ∧
    (∃ (s : State),
      Live s ∧ s.dev.rg fBRW_STATUS_STATE = 2 ∧ s.dev.rg fBRW_STRAPS_BOOT_SRC = 0 ∧
      let d := s.dev
      let next (k : Nat) : Prop := d.rg fBRW_STATUS_LAST_DONE + 1 = k
      next 12) :=
  ⟨⟨live (fun d => d.rs fBRW_STATUS_STATE 2), by
      delta Live
      try dsimp only
      decide +kernel⟩,
    ⟨stepAt 1 [] id, by
      delta Live
      dsimp only
      refine ⟨by decide, rfl, rfl, rfl, stepAt_keyHash _ _ _, configForm_unmarked _ ?_⟩
      rw [stepAt_read _ _ _ _ _ (by decide), recV_flBytes _ _ _ _ _ (by decide)]
      decide +kernel⟩,
    ⟨stepAt 1 (flPut [] flCONFIG (signed cfgBody)) id, by
      delta Live
      dsimp only
      refine ⟨by decide, rfl, rfl, rfl, stepAt_keyHash _ _ _, ?_⟩
      have n : (signed cfgBody).length = 22565 := signed_length_of _ _ cfgBody_length
      have h := flBytes_flPut_same [] flCONFIG (signed cfgBody)
      rw [n] at h
      rw [stepAt_read _ _ _ _ _ (by decide), h]
      exact configCheck_signed _ _ cfgBody cfgBody_length (by decide +kernel) (by decide +kernel) rfl rfl (stepAt_key 1 (flPut [] flCONFIG (signed cfgBody)) id)⟩,
    ⟨stepAt 2 certFlash (fun d => d.rs fTRU_STATUS_KEY_VALID 1), 1, 77, by
      delta Live
      dsimp only
      refine ⟨by decide, rfl, rfl, rfl, rfl, ?_, ?_, ?_⟩
      · rw [stepAt_read _ _ _ _ _ (by decide), certFlash_cert]
        exact certCheck_signed _ _ certBody (by decide +kernel) (by decide +kernel) (by decide +kernel) (by decide +kernel) rfl (stepAt_key _ _ _)
      · intro c hc
        rw [stepAt_read _ _ _ _ _ (by simp only [flRESERVE, flKEY]; omega)]
        exact certFlash_reserve c hc
      · intro k hk
        rw [stepAt_read _ _ _ _ _ (by simp only [flLICENCE, flKEY]; omega)]
        exact certFlash_licence k hk⟩,
    ⟨stepAt 2 licFlash (fun d => d.rs fTRU_STATUS_KEY_VALID 1), 1, 77, by
      delta Live
      dsimp only
      have e : flRead (stepAt 2 licFlash (fun d => d.rs fTRU_STATUS_KEY_VALID 1)).dev (flLICENCE 0) licBytes = signed licBody := by
        rw [stepAt_read _ _ _ _ _ (by decide), licFlash_entry]
      have c : flRead (stepAt 2 licFlash (fun d => d.rs fTRU_STATUS_KEY_VALID 1)).dev flCERT licBytes = signed certBody := by
        rw [stepAt_read _ _ _ _ _ (by decide), licFlash_low _ _ (by decide), certFlash_cert]
      have l : licBody.length = 128 := by decide +kernel
      rw [e, c]
      refine ⟨by decide, rfl, rfl, rfl, rfl, ?_, ?_, ?_, ?_, ?_, ?_⟩
      · exact certCheck_signed _ _ certBody (by decide +kernel) (by decide +kernel) (by decide +kernel) (by decide +kernel) rfl (stepAt_key _ _ _)
      · intro c hc
        rw [stepAt_read _ _ _ _ _ (by simp only [flRESERVE, flKEY]; omega), licFlash_low _ _ (by simp only [flRESERVE, flLICENCE]; omega)]
        exact certFlash_reserve c hc
      · intro k hk
        rw [stepAt_read _ _ _ _ _ (by simp only [flLICENCE, flKEY]; omega)]
        exact licFlash_held k hk
      · exact licenceForm_append _ _ l (by decide +kernel)
      · have s := sigCode_signed (stepAt 2 licFlash (fun d => d.rs fTRU_STATUS_KEY_VALID 1)).fused _ licBody [] none (rfl : (stepAt 2 licFlash (fun d => d.rs fTRU_STATUS_KEY_VALID 1)).dev.rg fTRU_STATUS_KEY_VALID = 1) (stepAt_key _ _ _) (fun x h => nomatch h)
        rw [l, List.append_nil] at s
        exact s
      · rw [signed, signed, List.drop_append_of_le_length (by rw [l]; decide), List.take_append_of_le_length (by rw [List.length_drop, l]; decide), List.drop_append_of_le_length (by decide +kernel), List.take_append_of_le_length (by decide +kernel)]
        decide +kernel⟩,
    ⟨{ stepAt 3 [] (fun d => (d.rs fBRW_STRAPS_HALF_ID_WEST 1)) with fused := { Fuses.reset with dieId := [5, 6], partner := [6, 5], assembled := [1, 0] } },
      2 ^ 17 - 1, 5, 6, 6, 5, 1, by
      delta Live
      try dsimp only
      decide +kernel⟩,
    ⟨{ stepAt 3 [] (fun d => (d.rs fBRW_STRAPS_HALF_ID_WEST 0)) with fused := { Fuses.reset with dieId := [5, 6], partner := [6, 5], assembled := [1, 0] } },
      2 ^ 17 - 1, 5, 6, 6, 5, 1, by
      delta Live
      try dsimp only
      decide +kernel⟩,
    ⟨stepAt 4 [] id, by
      delta Live
      try dsimp only
      decide +kernel⟩,
    ⟨stepAt 5 [] (fun d => ((d.rs (fLNE_ROLE_ROLE.at 0) 1).rs (fLNE_ROLE_ROLE.at 1) 1).rs (fLNE_ROLE_ROLE.at 17) 3),
      by
      delta Live
      try dsimp only
      decide +kernel⟩,
    ⟨stepAt 6 [] id, 1567, 3, 7, 1023, by
      delta Live
      try dsimp only
      decide +kernel⟩,
    ⟨stepAt 7 [] (fun d => { d with licence := some ⟨1, 512, 512, 16, true, true⟩ }), ⟨1, 512, 512, 16, true, true⟩,
      some (1567, 15), by
      delta Live
      dsimp only
      refine ⟨by decide, rfl, rfl, rfl, rfl, fun r h => absurd h List.not_mem_nil, rfl, by decide, by decide, ?_⟩
      intro e he
      cases he
      decide⟩,
    ⟨stepAt 8 [] id, [23], by
      delta Live
      try dsimp only
      decide +kernel⟩,
    ⟨stepAt 9 (imgFlash 1) (fun d => d.rs fTRU_STATUS_KEY_VALID 1), 1, 1, by
      delta Live
      dsimp only
      refine ⟨by decide, rfl, rfl, rfl, by decide, rfl, ?_, ?_⟩
      · intro c hc
        rw [stepAt_read _ _ _ _ _ (by simp only [flSELECT, flKEY]; omega)]
        exact imgFlash_select 1 c hc
      · obtain ⟨r, h⟩ := imgFlash_slot 1
        rw [stepAt_read _ _ _ _ _ (by decide), h]
        exact imageCheck_signed _ _ imgBody r (by decide +kernel) (by decide +kernel) (by decide +kernel) rfl rfl (stepAt_key _ _ _)⟩,
    ⟨stepAt 9 (imgFlash 0) (fun d => d.rs fTRU_STATUS_KEY_VALID 1), 1, 1, by
      delta Live
      dsimp only
      refine ⟨by decide, rfl, rfl, rfl, by decide, rfl, ?_, ?_, ?_⟩
      · intro c hc
        rw [stepAt_read _ _ _ _ _ (by simp only [flSELECT, flKEY]; omega)]
        exact imgFlash_select 0 c hc
      · rw [stepAt_read _ _ _ _ _ (by decide), imageCheck_unmarked _ _ _ (imgFlash_other 0 (by decide))]
        decide
      · obtain ⟨r, h⟩ := imgFlash_slot 0
        rw [stepAt_read _ _ _ _ _ (by decide), h]
        exact imageCheck_signed _ _ imgBody r (by decide +kernel) (by decide +kernel) (by decide +kernel) rfl rfl (stepAt_key _ _ _)⟩,
    ⟨stepAt 9 (pairs [] flSELECT (pairBytes magicS 1 1)) id, 1, 1, by
      delta Live
      dsimp only
      refine ⟨by decide, rfl, rfl, rfl, by decide, rfl, ?_, ?_, ?_⟩
      · intro c hc
        rw [stepAt_read _ _ _ _ _ (by simp only [flSELECT, flKEY]; omega), pairs_at _ _ _ (by decide +kernel) c hc]
        decide +kernel
      · rw [imageCheck_unmarked _ _ _ (by rw [stepAt_read _ _ _ _ _ (by decide), recV_flBytes _ _ _ _ _ (by decide), pairs_out _ _ _ (by decide +kernel) _ _ (by decide)]; decide +kernel)]
        decide
      · rw [imageCheck_unmarked _ _ _ (by rw [stepAt_read _ _ _ _ _ (by decide), recV_flBytes _ _ _ _ _ (by decide), pairs_out _ _ _ (by decide +kernel) _ _ (by decide)]; decide +kernel)]
        decide⟩,
    ⟨stepAt 11 [] id, by
      delta Live
      try dsimp only
      decide +kernel⟩,
    ⟨stepAt 12 [] id, by
      delta Live
      try dsimp only
      decide +kernel⟩⟩

/-- What each clause of `FirmwareUpdate` supposes is met. -/
theorem witness_FirmwareUpdate :
    (∃ (s : State) (m : _) (a : _) (n : _),
      Live s ∧
      let d := s.dev
      let up (t : State) : Nat := t.dev.rg fTRU_UPD_STATE
      MailIn d 0x0120 m ∧ m.body = leBytes 8 a ++ leBytes 8 n ∧ a < 2 ^ 64 ∧ n < 2 ^ 64 ∧ 2 ≤ up s) ∧
    (∃ (s : State) (m : _) (a : _) (n : _),
      Live s ∧
      let d := s.dev
      let up (t : State) : Nat := t.dev.rg fTRU_UPD_STATE
      MailIn d 0x0120 m ∧ m.body = leBytes 8 a ++ leBytes 8 n ∧ a < 2 ^ 64 ∧ n < 2 ^ 64 ∧ up s < 2 ∧ n = 0) ∧
    (∃ (s : State) (m : _) (a : _) (n : _),
      Live s ∧
      let d := s.dev
      let up (t : State) : Nat := t.dev.rg fTRU_UPD_STATE
      MailIn d 0x0120 m ∧ m.body = leBytes 8 a ++ leBytes 8 n ∧ a < 2 ^ 64 ∧ n < 2 ^ 64 ∧ up s < 2 ∧ 0 < n ∧
          (0x1800000000 < a + n ∨ 524288 < n)) ∧
    (∃ (s : State) (m : _) (a : _) (n : _),
      Live s ∧
      let d := s.dev
      let f := s.fused
      let up (t : State) : Nat := t.dev.rg fTRU_UPD_STATE
      MailIn d 0x0120 m ∧ m.body = leBytes 8 a ++ leBytes 8 n ∧ a < 2 ^ 64 ∧ n < 2 ^ 64 ∧
      let img := memRead d.gddr a n
      up s < 2 ∧ 0 < n ∧ a + n ≤ 0x1800000000 ∧ n ≤ 524288 ∧ imageLen img ≤ n ∧ imageCheck f d img ≠ 0) ∧
    (∃ (s : State) (m : _) (a : _) (n : _),
      Live s ∧
      let d := s.dev
      let f := s.fused
      let up (t : State) : Nat := t.dev.rg fTRU_UPD_STATE
      MailIn d 0x0120 m ∧ m.body = leBytes 8 a ++ leBytes 8 n ∧ a < 2 ^ 64 ∧ n < 2 ^ 64 ∧
      let img := memRead d.gddr a n
      up s < 2 ∧ a + n ≤ 0x1800000000 ∧ n ≤ 524288 ∧ imageCheck f d img = 0) ∧
    (∃ (s : State) (m : _) (defer : _) (k : _),
      Live s ∧
      let d := s.dev
      let up (t : State) : Nat := t.dev.rg fTRU_UPD_STATE
      MailIn d 0x0121 m ∧ defer ≤ 3600 ∧ k < 2 ∧ d.trust.staged = some k ∧ up s = 1 ∧ m.body = [0, 0] ++ leBytes 2
          defer ++ zeros 4) ∧
    (∃ (s : State) (m : _) (defer : _) (k : _),
      Live s ∧
      let d := s.dev
      let up (t : State) : Nat := t.dev.rg fTRU_UPD_STATE
      MailIn d 0x0121 m ∧ defer ≤ 3600 ∧ k < 2 ∧ d.trust.staged = some k ∧ up s = 1 ∧ m.body = [1, 0] ++ leBytes 2
          defer ++ zeros 4 ∧ d.trust.live = false) ∧
    (∃ (s : State) (m : _) (defer : _) (k : _),
      Live s ∧
      let d := s.dev
      let f := s.fused
      let up (t : State) : Nat := t.dev.rg fTRU_UPD_STATE
      MailIn d 0x0121 m ∧ defer ≤ 3600 ∧ k < 2 ∧ d.trust.staged = some k ∧ up s = 1 ∧ m.body = [1, 0] ++ leBytes 2
          defer ++ zeros 4 ∧
      let img := imageWhole (flRead d (flSLOT k) 524288)
      d.trust.live = true ∧ imageCheck f d img = 0 ∧ d.shed.sramErr = []) ∧
    (∃ (s : State) (m : _),
      Live s ∧
      let d := s.dev
      let up (t : State) : Nat := t.dev.rg fTRU_UPD_STATE
      MailIn d 0x0121 m ∧ m.body = [1, 0, 0, 0] ++ zeros 4 ∧ (up s ≠ 1 ∨ d.trust.staged = none)) ∧
    (∃ (s : State) (m : _),
      Live s ∧
      let d := s.dev
      let up (t : State) : Nat := t.dev.rg fTRU_UPD_STATE
      MailIn d 0x0122 m ∧ up s = 2) ∧
    (∃ (s : State) (m : _),
      Live s ∧
      let d := s.dev
      let up (t : State) : Nat := t.dev.rg fTRU_UPD_STATE
      MailIn d 0x0122 m ∧ up s ≠ 2) ∧
    (∃ (s : State) (k : _),
      Live s ∧
      let d := s.dev
      let up (t : State) : Nat := t.dev.rg fTRU_UPD_STATE
      up s = 3 ∧ d.trust.staged = some k ∧ k < 2) ∧
    (∃ (s : State) (e : _),
      Live s ∧
      let up (t : State) : Nat := t.dev.rg fTRU_UPD_STATE
      up s = 3 ∧ e ∈ [(Instr.refuse, 0x0511), (Instr.handoverTimeout, 0x050E)]) ∧
    (∃ (s : State) (c : _),
      Live s ∧
      let up (t : State) : Nat := t.dev.rg fTRU_UPD_STATE
      up s ≠ 3 ∧ c ∈ [Instr.commit, Instr.refuse]) ∧
    (∃ (s : State),
      Live s ∧
      let up (t : State) : Nat := t.dev.rg fTRU_UPD_STATE
      up s = 2) ∧
    (∃ (s : State),
      Live s ∧
      let up (t : State) : Nat := t.dev.rg fTRU_UPD_STATE
      up s ≠ 2) :=
  ⟨⟨mailed (msg 0x0120 (leBytes 8 5 ++ leBytes 8 6)) (fun d => d.rs fTRU_UPD_STATE 2), msg 0x0120 (leBytes 8 5 ++
      leBytes 8 6), 5, 6, by
      delta Live MailIn
      try dsimp only
      decide +kernel⟩,
    ⟨mailed (msg 0x0120 (leBytes 8 5 ++ leBytes 8 0)) (fun d => d.rs fTRU_UPD_STATE 1), msg 0x0120 (leBytes 8 5 ++
      leBytes 8 0), 5, 0, by
      delta Live MailIn
      try dsimp only
      decide +kernel⟩,
    ⟨mailed (msg 0x0120 (leBytes 8 5 ++ leBytes 8 524289)) (fun d => d.rs fTRU_UPD_STATE 1), msg 0x0120 (leBytes 8 5
      ++ leBytes 8 524289), 5, 524289, by
      delta Live MailIn
      try dsimp only
      decide +kernel⟩,
    ⟨mailed (msg 0x0120 (leBytes 8 0x17FFFFFFFF ++ leBytes 8 1)) id, msg 0x0120 (leBytes 8 0x17FFFFFFFF ++ leBytes 8
      1), 0x17FFFFFFFF, 1, by
      delta Live MailIn
      try dsimp only
      decide +kernel⟩,
    ⟨staging (signed imgBody), msg 0x0120 (leBytes 8 64 ++ leBytes 8 18597), 64, 18597, by
      delta Live MailIn
      dsimp only
      rw [staging_image]
      refine ⟨by decide, by decide +kernel, by decide +kernel, by decide, by decide, by decide, by decide, by decide, ?_⟩
      have h := imageCheck_signed (staging (signed imgBody)).fused (staging (signed imgBody)).dev imgBody [] (by decide +kernel) (by decide +kernel) (by decide +kernel) rfl rfl (mailedKey_key _ _ (fun d => { d with gddr := memWrite [] 64 (signed imgBody) }))
      rw [List.append_nil] at h
      exact h⟩,
    ⟨mailed (msg 0x0121 ([0, 0] ++ leBytes 2 3600 ++ zeros 4)) (fun d =>
      { d.rs fTRU_UPD_STATE 1 with trust := { d.trust with staged := some 1 } }), msg 0x0121 ([0, 0] ++ leBytes 2
      3600 ++ zeros 4), 3600, 1, by
      delta Live MailIn
      try dsimp only
      decide +kernel⟩,
    ⟨mailed (msg 0x0121 ([1, 0] ++ leBytes 2 3600 ++ zeros 4)) (fun d =>
      { d.rs fTRU_UPD_STATE 1 with trust := { d.trust with staged := some 1 } }), msg 0x0121 ([1, 0] ++ leBytes 2
      3600 ++ zeros 4), 3600, 1, by
      delta Live MailIn
      try dsimp only
      decide +kernel⟩,
    ⟨mailedKey (msg 0x0121 ([1, 0] ++ leBytes 2 3600 ++ zeros 4)) (imgFlash 1) (fun d =>
      { d.rs fTRU_UPD_STATE 1 with trust := { d.trust with staged := some 1, live := true } }), msg 0x0121 ([1, 0] ++
      leBytes 2 3600 ++ zeros 4), 3600, 1, by
      delta Live MailIn
      dsimp only
      refine ⟨by decide, by decide +kernel, by decide, by decide, rfl, rfl, by decide +kernel, rfl, ?_, rfl⟩
      obtain ⟨r, h⟩ := imgFlash_slot 1
      rw [mailedKey_read _ _ _ _ _ (by decide), h, imageWhole_signed]
      have h := imageCheck_signed (mailedKey (msg 0x0121 ([1, 0] ++ leBytes 2 3600 ++ zeros 4)) (imgFlash 1) (fun d => { d.rs fTRU_UPD_STATE 1 with trust := { d.trust with staged := some 1, live := true } })).fused _ imgBody [] (by decide +kernel) (by decide +kernel) (by decide +kernel) rfl rfl (mailedKey_key (msg 0x0121 ([1, 0] ++ leBytes 2 3600 ++ zeros 4)) (imgFlash 1) (fun d => { d.rs fTRU_UPD_STATE 1 with trust := { d.trust with staged := some 1, live := true } }))
      rw [List.append_nil] at h
      exact h⟩,
    ⟨mailed (msg 0x0121 ([1, 0, 0, 0] ++ zeros 4)) id, msg 0x0121 ([1, 0, 0, 0] ++ zeros 4), by
      delta Live MailIn
      try dsimp only
      decide +kernel⟩,
    ⟨mailed (msg 0x0122 []) (fun d => d.rs fTRU_UPD_STATE 2), msg 0x0122 [], by
      delta Live MailIn
      try dsimp only
      decide +kernel⟩,
    ⟨mailed (msg 0x0122 []) (fun d => d.rs fTRU_UPD_STATE 3), msg 0x0122 [], by
      delta Live MailIn
      try dsimp only
      decide +kernel⟩,
    ⟨live (fun d => { d.rs fTRU_UPD_STATE 3 with trust := { d.trust with staged := some 1 } }), 1, by
      delta Live
      try dsimp only
      decide +kernel⟩,
    ⟨live (fun d => d.rs fTRU_UPD_STATE 3), (Instr.handoverTimeout, 0x050E), by
      delta Live
      dsimp only
      refine ⟨by decide, by decide +kernel, by simp⟩⟩,
    ⟨live (fun d => d.rs fTRU_UPD_STATE 2), Instr.refuse, by
      delta Live
      dsimp only
      refine ⟨by decide, by decide +kernel, by simp⟩⟩,
    ⟨live (fun d => d.rs fTRU_UPD_STATE 2), by
      delta Live
      try dsimp only
      decide +kernel⟩,
    ⟨live (fun d => d.rs fTRU_UPD_STATE 1), by
      delta Live
      try dsimp only
      decide +kernel⟩⟩

/-- What each clause of `FusesLicencesIdentity` supposes is met. -/
theorem witness_FusesLicencesIdentity :
    (∃ (s : State) (m : _) (x : _),
      Live s ∧
      let d := s.dev
      let busy := 2 ≤ d.rg fTRU_UPD_STATE
      x < 256 ∧ MailIn d 0x0130 m ∧ m.body = leBytes 1 x ++ zeros 7 ∧ busy) ∧
    (∃ (s : State) (m : _) (x : _),
      Live s ∧
      let d := s.dev
      let f := s.fused
      let busy := 2 ≤ d.rg fTRU_UPD_STATE
      let target (x : Nat) : Prop := f.rollback < x ∧ x ≤ 64 ∧ x ≤ recV d.trust.image 12 4 ∧ x ≤ d.trust.cfgRollback
      x < 256 ∧ MailIn d 0x0130 m ∧ m.body = leBytes 1 x ++ zeros 7 ∧ ¬ busy ∧ ¬ target x) ∧
    (∃ (s : State) (m : _) (x : _),
      Live s ∧
      let d := s.dev
      let f := s.fused
      let busy := 2 ≤ d.rg fTRU_UPD_STATE
      let target (x : Nat) : Prop := f.rollback < x ∧ x ≤ 64 ∧ x ≤ recV d.trust.image 12 4 ∧ x ≤ d.trust.cfgRollback
      x < 256 ∧ MailIn d 0x0130 m ∧ m.body = leBytes 1 x ++ zeros 7 ∧ ¬ busy ∧ target x ∧ d.trust.fuse = none) ∧
    (∃ (s : State) (key : _) (x : _),
      Live s ∧
      let d := s.dev
      key < 2 ^ 16 ∧ x < 256 ∧ d.trust.fuse ≠ none) ∧
    (∃ (s : State) (key : _) (x : _),
      Live s ∧
      let d := s.dev
      let f := s.fused
      let busy := 2 ≤ d.rg fTRU_UPD_STATE
      let target (x : Nat) : Prop := f.rollback < x ∧ x ≤ 64 ∧ x ≤ recV d.trust.image 12 4 ∧ x ≤ d.trust.cfgRollback
      key < 2 ^ 16 ∧ x < 256 ∧ d.trust.fuse = none ∧ key = 0x5AC3 ∧ target x ∧ ¬ busy) ∧
    (∃ (s : State) (key : _) (x : _),
      Live s ∧
      let d := s.dev
      let f := s.fused
      let busy := 2 ≤ d.rg fTRU_UPD_STATE
      let target (x : Nat) : Prop := f.rollback < x ∧ x ≤ 64 ∧ x ≤ recV d.trust.image 12 4 ∧ x ≤ d.trust.cfgRollback
      key < 2 ^ 16 ∧ x < 256 ∧ d.trust.fuse = none ∧ (key ≠ 0x5AC3 ∨ ¬ target x ∨ busy)) ∧
    (∃ (s : State),
      Live s ∧
      let d := s.dev
      d.trust.fuse = none) ∧
    (∃ (s : State) (x : _),
      Live s ∧
      let d := s.dev
      let f := s.fused
      d.trust.fuse = some x ∧ f.rollback < x ∧ x ≤ 64) ∧
    (∃ (s : State) (m : _) (a : _) (n : _),
      Live s ∧
      let d := s.dev
      MailIn d 0x0110 m ∧ m.body = leBytes 8 a ++ leBytes 8 n ∧ a < 2 ^ 64 ∧ n < 2 ^ 64 ∧ n = 0) ∧
    (∃ (s : State) (m : _) (a : _) (n : _),
      Live s ∧
      let d := s.dev
      MailIn d 0x0110 m ∧ m.body = leBytes 8 a ++ leBytes 8 n ∧ a < 2 ^ 64 ∧ n < 2 ^ 64 ∧ 0 < n ∧ 0x1800000000 < a +
          n) ∧
    (∃ (s : State) (m : _) (a : _) (n : _),
      Live s ∧
      let d := s.dev
      let f := s.fused
      MailIn d 0x0110 m ∧ m.body = leBytes 8 a ++ leBytes 8 n ∧ a < 2 ^ 64 ∧ n < 2 ^ 64 ∧
      let b := memRead d.gddr a licBytes
      licBytes ≤ n ∧ a + n ≤ 0x1800000000 ∧ licenceCheck f d b ≠ 0) ∧
    (∃ (s : State) (m : _) (a : _) (n : _) (k : _),
      Live s ∧
      let d := s.dev
      let f := s.fused
      MailIn d 0x0110 m ∧ m.body = leBytes 8 a ++ leBytes 8 n ∧ a < 2 ^ 64 ∧ n < 2 ^ 64 ∧
      let b := memRead d.gddr a licBytes
      let store (k : Nat) : List Byte := flRead d (flLICENCE k) licBytes
      licBytes ≤ n ∧ a + n ≤ 0x1800000000 ∧ licenceCheck f d b = 0 ∧ k < 8 ∧ (∀ j, j < k → licenceHeld (store j) =
          true) ∧ (∀ j, k ≤ j → j < 8 → licenceHeld (store j) = false) ∧ (∀ j, j < k → recV (store j) 8 4 ≠ recV b 8
          4)) ∧
    (∃ (s : State) (m : _) (a : _) (n : _),
      Live s ∧
      let d := s.dev
      let f := s.fused
      MailIn d 0x0110 m ∧ m.body = leBytes 8 a ++ leBytes 8 n ∧ a < 2 ^ 64 ∧ n < 2 ^ 64 ∧
      let b := memRead d.gddr a licBytes
      let store (k : Nat) : List Byte := flRead d (flLICENCE k) licBytes
      licBytes ≤ n ∧ a + n ≤ 0x1800000000 ∧ licenceCheck f d b = 0 ∧ licenceHeld (store 0) = true ∧ recV (store 0) 8
          4 = recV b 8 4 ∧ store 0 ≠ b) ∧
    (∃ (s : State) (m : _),
      Live s ∧
      let d := s.dev
      MailIn d 0x0111 m ∧ (∀ k, k < 8 → licenceHeld (flRead d (flLICENCE k) licBytes) = false)) ∧
    (∃ (s : State),
      Live s ∧
      let d := s.dev
      let f := s.fused
      12 ≤ d.rg fBRW_STATUS_LAST_DONE ∧ d.rg fTRU_STATUS_IDENT_READY = 0 ∧
      let good := d.trust.resvOk = true ∧ (Config.identityRoot f.seed).take 32 = (d.trust.pubkey.drop 4).take 32
      good) ∧
    (∃ (s : State),
      Live s ∧
      let d := s.dev
      let f := s.fused
      12 ≤ d.rg fBRW_STATUS_LAST_DONE ∧ d.rg fTRU_STATUS_IDENT_READY = 0 ∧
      let good := d.trust.resvOk = true ∧ (Config.identityRoot f.seed).take 32 = (d.trust.pubkey.drop 4).take 32
      ¬ good) ∧
    (∃ (s : State) (m : _) (a : _) (lim : _),
      Live s ∧
      let d := s.dev
      MailIn d 0x0100 m ∧ m.body = leBytes 8 a ++ leBytes 4 lim ++ zeros 4 ∧ a < 2 ^ 48 ∧ lim < 2 ^ 32 ∧ hostBase ≤ a
          ∧ a + licBytes ≤ 2 ^ 48 ∧ licBytes ≤ lim ∧ d.cpl.ackWait = none) ∧
    (∃ (s : State) (m : _) (a : _) (lim : _),
      Live s ∧
      let d := s.dev
      MailIn d 0x0100 m ∧ m.body = leBytes 8 a ++ leBytes 4 lim ++ zeros 4 ∧ a < 2 ^ 48 ∧ lim < 2 ^ 32 ∧ (a <
          hostBase ∨ lim < licBytes)) ∧
    (∃ (s : State) (m : _) (a : _) (nonce : _),
      Live s ∧
      let d := s.dev
      MailIn d 0x0101 m ∧ m.body = leBytes 8 a ++ leBytes 4 16384 ++ leBytes 1 nonce.length ++ zeros 3 ++ nonce ∧
          hostBase ≤ a ∧ a + 16384 ≤ 2 ^ 48 ∧ nonce.length < 256 ∧ d.trust.ident.length ≤ 32 ∧ (nonce.length < 8 ∨ 64
          < nonce.length)) ∧
    (∃ (s : State) (m : _) (a : _) (nonce : _),
      Live s ∧
      let d := s.dev
      MailIn d 0x0101 m ∧ m.body = leBytes 8 a ++ leBytes 4 16384 ++ leBytes 1 nonce.length ++ zeros 3 ++ nonce ∧
          hostBase ≤ a ∧ a + 16384 ≤ 2 ^ 48 ∧ nonce.length < 256 ∧ d.trust.ident.length ≤ 32 ∧
      let ready := d.rg fTRU_STATUS_IDENT_READY ≠ 0
      8 ≤ nonce.length ∧ nonce.length ≤ 64 ∧ ¬ ready) ∧
    (∃ (s : State) (m : _) (a : _) (nonce : _),
      Live s ∧
      let d := s.dev
      MailIn d 0x0101 m ∧ m.body = leBytes 8 a ++ leBytes 4 16384 ++ leBytes 1 nonce.length ++ zeros 3 ++ nonce ∧
          hostBase ≤ a ∧ a + 16384 ≤ 2 ^ 48 ∧ nonce.length < 256 ∧ d.trust.ident.length ≤ 32 ∧
      let i := d.rg fTRU_XMSS_NEXT_INDEX
      let ready := d.rg fTRU_STATUS_IDENT_READY ≠ 0
      8 ≤ nonce.length ∧ nonce.length ≤ 64 ∧ ready ∧ 2 ^ 40 ≤ i + 1) ∧
    (∃ (s : State) (m : _) (a : _) (nonce : _),
      Live s ∧
      let d := s.dev
      MailIn d 0x0101 m ∧ m.body = leBytes 8 a ++ leBytes 4 16384 ++ leBytes 1 nonce.length ++ zeros 3 ++ nonce ∧
          hostBase ≤ a ∧ a + 16384 ≤ 2 ^ 48 ∧ nonce.length < 256 ∧ d.trust.ident.length ≤ 32 ∧
      let i := d.rg fTRU_XMSS_NEXT_INDEX
      let e := d.rg fTRU_XMSS_RESV_END
      let ready := d.rg fTRU_STATUS_IDENT_READY ≠ 0
      8 ≤ nonce.length ∧ nonce.length ≤ 64 ∧ ready ∧ i + 1 < 2 ^ 40 ∧ d.cpl.ackWait = none ∧ e ≤ i) ∧
    (∃ (s : State) (m : _) (a : _) (nonce : _) (ok : _),
      Live s ∧
      let d := s.dev
      MailIn d 0x0101 m ∧ m.body = leBytes 8 a ++ leBytes 4 16384 ++ leBytes 1 nonce.length ++ zeros 3 ++ nonce ∧
          hostBase ≤ a ∧ a + 16384 ≤ 2 ^ 48 ∧ nonce.length < 256 ∧ d.trust.ident.length ≤ 32 ∧
      let i := d.rg fTRU_XMSS_NEXT_INDEX
      let e := d.rg fTRU_XMSS_RESV_END
      let ready := d.rg fTRU_STATUS_IDENT_READY ≠ 0
      8 ≤ nonce.length ∧ nonce.length ≤ 64 ∧ ready ∧ i + 1 < 2 ^ 40 ∧ d.cpl.ackWait = none ∧ (i < e ∨ ok = true)) :=
  ⟨⟨mailed (msg 0x0130 (leBytes 1 64 ++ zeros 7)) (fun d => d.rs fTRU_UPD_STATE 2), msg 0x0130 (leBytes 1 64 ++
      zeros 7), 64, by
      delta Live MailIn
      try dsimp only
      decide +kernel⟩,
    ⟨mailed (msg 0x0130 (leBytes 1 64 ++ zeros 7)) (fun d => d.rs fTRU_UPD_STATE 1), msg 0x0130 (leBytes 1 64 ++
      zeros 7), 64, by
      delta Live MailIn
      try dsimp only
      decide +kernel⟩,
    ⟨mailed (msg 0x0130 (leBytes 1 64 ++ zeros 7)) (fun d =>
      { d with trust := { d.trust with image := zeros 12 ++ leBytes 4 64, cfgRollback := 64 } }), msg 0x0130 (leBytes
      1 64 ++ zeros 7), 64, by
      delta Live MailIn
      try dsimp only
      decide +kernel⟩,
    ⟨live (fun d => { d with trust := { d.trust with fuse := some 3 } }), 0x5AC3, 3, by
      delta Live
      try dsimp only
      decide +kernel⟩,
    ⟨live (fun d => { d with trust := { d.trust with image := zeros 12 ++ leBytes 4 64, cfgRollback := 64 } }),
      0x5AC3, 64, by
      delta Live
      try dsimp only
      decide +kernel⟩,
    ⟨live (fun d => { d with trust := { d.trust with image := zeros 12 ++ leBytes 4 65, cfgRollback := 65 } }),
      0x5AC3, 65, by
      delta Live
      try dsimp only
      decide +kernel⟩,
    ⟨live id, by
      delta Live
      try dsimp only
      decide +kernel⟩,
    ⟨{ mailed (msg 0x0130 (leBytes 1 64 ++ zeros 7)) (fun d => { d with trust := { d.trust with fuse := some 64, byMail := true } }) with fused := { Fuses.reset with rollback := 63 } },
      64, by
      delta Live
      try dsimp only
      decide +kernel⟩,
    ⟨mailed (msg 0x0110 (leBytes 8 5 ++ leBytes 8 0)) id, msg 0x0110 (leBytes 8 5 ++ leBytes 8 0), 5, 0, by
      delta Live MailIn
      try dsimp only
      decide +kernel⟩,
    ⟨mailed (msg 0x0110 (leBytes 8 0x1800000000 ++ leBytes 8 1)) id, msg 0x0110 (leBytes 8 0x1800000000 ++ leBytes 8
      1), 0x1800000000, 1, by
      delta Live MailIn
      try dsimp only
      decide +kernel⟩,
    ⟨mailed (msg 0x0110 (leBytes 8 5 ++ leBytes 8 18597)) id, msg 0x0110 (leBytes 8 5 ++ leBytes 8 18597), 5, 18597,
      by
      delta Live MailIn
      try dsimp only
      decide +kernel⟩,
    ⟨installing ((List.range 7).map (fun j => (flLICENCE j, 0))) (signed licBody), msg 0x0110 (leBytes 8 64 ++
      leBytes 8 18597), 64, 18597, 7, by
      delta Live MailIn
      dsimp only
      rw [installing_licence]
      have e : ∀ j, j < 7 → recV (flRead (installing ((List.range 7).map (fun j => (flLICENCE j, 0))) (signed licBody)).dev (flLICENCE j) licBytes) 0 4 ≠ 0xFFFFFFFF ∧ recV (flRead (installing ((List.range 7).map (fun j => (flLICENCE j, 0))) (signed licBody)).dev (flLICENCE j) licBytes) 8 4 ≠ recV (signed licBody) 8 4 := by
        intro j hj
        rw [installing_read _ _ _ _ (by simp only [flLICENCE, flKEY]; omega), recV_flBytes _ _ _ _ _ (by decide), recV_flBytes _ _ _ _ _ (by decide), signed_licence_recV _ _ (by decide)]
        revert j
        decide +kernel
      refine ⟨by decide, by decide +kernel, by decide +kernel, by decide, by decide, by decide, by decide, installing_check _, by decide, fun j hj => decide_eq_true (e j hj).1, fun j h7 h8 => ?_, fun j hj => (e j hj).2⟩
      have : j = 7 := by omega
      subst this
      rw [installing_read _ _ _ _ (by decide), licenceHeld, recV_flBytes _ _ _ _ _ (by decide)]
      decide +kernel⟩,
    ⟨installing (flPut [] (flLICENCE 0) (leBytes 4 1 ++ zeros 4 ++ leBytes 4 8)) (signed licBody), msg 0x0110
      (leBytes 8 64 ++ leBytes 8 18597), 64, 18597, by
      delta Live MailIn
      dsimp only
      have e : ∀ i n, i + n ≤ licBytes → recV (flRead (installing (flPut [] (flLICENCE 0) (leBytes 4 1 ++ zeros 4 ++ leBytes 4 8)) (signed licBody)).dev (flLICENCE 0) licBytes) i n = leValue (flBytes (flPut [] (flLICENCE 0) (leBytes 4 1 ++ zeros 4 ++ leBytes 4 8)) (flLICENCE 0 + i) n) := by
        intro i n h
        rw [installing_read _ _ _ _ (by decide), recV_flBytes _ _ _ _ _ h]
      rw [installing_licence]
      refine ⟨by decide, by decide +kernel, by decide +kernel, by decide, by decide, by decide, by decide, installing_check _, ?_, ?_, ?_⟩
      · rw [licenceHeld, e _ _ (by decide)]; decide +kernel
      · rw [e _ _ (by decide), signed_licence_recV _ _ (by decide)]; decide +kernel
      · intro h
        have k := e 0 4 (by decide)
        rw [h, signed_licence_recV _ _ (by decide)] at k
        revert k
        decide +kernel⟩,
    ⟨mailed (msg 0x0111 []) id, msg 0x0111 [], by
      delta Live MailIn
      dsimp only
      refine ⟨by decide, by decide +kernel, fun k hk => ?_⟩
      rw [licenceHeld, flRead_eq, recV_flBytes _ _ _ _ _ (by decide)]
      revert k
      decide +kernel⟩,
    ⟨live (fun d =>
      { d.rs fBRW_STATUS_LAST_DONE 12 with trust := { d.trust with resvOk := true, pubkey := zeros 4 ++ (Config.identityRoot (List.replicate 32 0)).take 32 } }),
      by
      delta Live
      dsimp only
      refine ⟨by decide, by decide, by decide, rfl, ?_⟩
      change (Config.identityRoot (List.replicate 32 0)).take 32 = ((zeros 4 ++ (Config.identityRoot (List.replicate 32 0)).take 32).drop 4).take 32
      rw [List.drop_left' (zeros_length 4), List.take_take]
      rfl⟩,
    ⟨live (fun d => d.rs fBRW_STATUS_LAST_DONE 12), by
      delta Live
      dsimp only
      exact ⟨by decide, by decide, by decide, fun h => absurd h.1 (by decide)⟩⟩,
    ⟨mailed (msg 0x0100 (leBytes 8 (2 ^ 48 - licBytes) ++ leBytes 4 licBytes ++ zeros 4)) id, msg 0x0100 (leBytes 8
      (2 ^ 48 - licBytes) ++ leBytes 4 licBytes ++ zeros 4), 2 ^ 48 - licBytes, licBytes, by
      delta Live MailIn
      try dsimp only
      decide +kernel⟩,
    ⟨mailed (msg 0x0100 (leBytes 8 (2 ^ 48 - licBytes) ++ leBytes 4 (licBytes - 1) ++ zeros 4)) id, msg 0x0100
      (leBytes 8 (2 ^ 48 - licBytes) ++ leBytes 4 (licBytes - 1) ++ zeros 4), 2 ^ 48 - licBytes, licBytes - 1, by
      delta Live MailIn
      try dsimp only
      decide +kernel⟩,
    ⟨mailed (msg 0x0101 (leBytes 8 hostBase ++ leBytes 4 16384 ++ leBytes 1 7 ++ zeros 3 ++ zeros 7)) id, msg 0x0101
      (leBytes 8 hostBase ++ leBytes 4 16384 ++ leBytes 1 7 ++ zeros 3 ++ zeros 7), hostBase, zeros 7, by
      delta Live MailIn
      try dsimp only
      decide +kernel⟩,
    ⟨mailed (msg 0x0101 (leBytes 8 hostBase ++ leBytes 4 16384 ++ leBytes 1 64 ++ zeros 3 ++ zeros 64)) id, msg
      0x0101 (leBytes 8 hostBase ++ leBytes 4 16384 ++ leBytes 1 64 ++ zeros 3 ++ zeros 64), hostBase, zeros 64, by
      delta Live MailIn
      try dsimp only
      decide +kernel⟩,
    ⟨mailed (msg 0x0101 (leBytes 8 hostBase ++ leBytes 4 16384 ++ leBytes 1 64 ++ zeros 3 ++ zeros 64)) (fun d =>
      (d.rs fTRU_STATUS_IDENT_READY 1).rs fTRU_XMSS_NEXT_INDEX (2 ^ 40 - 1)), msg 0x0101 (leBytes 8 hostBase ++
      leBytes 4 16384 ++ leBytes 1 64 ++ zeros 3 ++ zeros 64), hostBase, zeros 64, by
      delta Live MailIn
      try dsimp only
      decide +kernel⟩,
    ⟨mailed (msg 0x0101 (leBytes 8 hostBase ++ leBytes 4 16384 ++ leBytes 1 64 ++ zeros 3 ++ zeros 64)) (fun d =>
      ((d.rs fTRU_STATUS_IDENT_READY 1).rs fTRU_XMSS_NEXT_INDEX 2048).rs fTRU_XMSS_RESV_END 2048), msg 0x0101
      (leBytes 8 hostBase ++ leBytes 4 16384 ++ leBytes 1 64 ++ zeros 3 ++ zeros 64), hostBase, zeros 64, by
      delta Live MailIn
      try dsimp only
      decide +kernel⟩,
    ⟨mailed (msg 0x0101 (leBytes 8 (2 ^ 48 - 16384) ++ leBytes 4 16384 ++ leBytes 1 8 ++ zeros 3 ++ zeros 8)) (fun d
      => ((d.rs fTRU_STATUS_IDENT_READY 1).rs fTRU_XMSS_NEXT_INDEX 2048).rs fTRU_XMSS_RESV_END 2048), msg 0x0101
      (leBytes 8 (2 ^ 48 - 16384) ++ leBytes 4 16384 ++ leBytes 1 8 ++ zeros 3 ++ zeros 8), 2 ^ 48 - 16384, zeros 8,
      true, by
      delta Live MailIn
      try dsimp only
      decide +kernel⟩⟩

/-- What each clause of `CountersAndRecord` supposes is met. -/
theorem witness_CountersAndRecord :
    (∃ (s : State) (ev : _) (cls : _) (priv : _) (range : _) (chain : _) (en : _) (k : _) (p : _),
      Live s ∧ ev < 4096 ∧ cls < 128 ∧ priv < 4 ∧ range < 2 ∧ chain < 2 ∧ en < 2 ∧ k < 8 ∧ isPlot p = true ∧
          eventKnown 0 ev = true ∧ (k = 0 → chain = 0)) ∧
    (∃ (s : State) (ev : _) (cls : _) (priv : _) (range : _) (chain : _) (en : _) (k : _) (p : _),
      Live s ∧ ev < 4096 ∧ cls < 128 ∧ priv < 4 ∧ range < 2 ∧ chain < 2 ∧ en < 2 ∧ k < 8 ∧ isPlot p = true ∧
          (eventKnown 0 ev = false ∨ k = 0 ∧ chain = 1)) ∧
    (∃ (s : State) (ev : _) (cls : _) (priv : _) (range : _) (chain : _) (en : _) (k : _) (kind : _) (inst : _),
      Live s ∧ ev < 4096 ∧ cls < 128 ∧ priv < 4 ∧ range < 2 ∧ chain < 2 ∧ en < 2 ∧ k < 8 ∧ (kind, inst) ∈ deviceBanks
          ∧ eventKnown kind ev = true ∧ (k = 0 → chain = 0)) ∧
    (∃ (s : State) (ev : _) (cls : _) (priv : _) (range : _) (chain : _) (en : _) (k : _) (kind : _) (inst : _),
      Live s ∧ ev < 4096 ∧ cls < 128 ∧ priv < 4 ∧ range < 2 ∧ chain < 2 ∧ en < 2 ∧ k < 8 ∧ (kind, inst) ∈ deviceBanks
          ∧ (eventKnown kind ev = false ∨ k = 0 ∧ chain = 1)) ∧
    (∃ (s : State) (k : _) (p : _), Live s ∧ k < 8 ∧ isPlot p = true) ∧
    (∃ (s : State) (k : _) (kind : _) (inst : _), Live s ∧ k < 8 ∧ (kind, inst) ∈ deviceBanks) ∧
    (∃ (s : State),
      Live s ∧
      let d := s.dev
      let a := d.rg fPMR_ADDR_ADDR
      let inside := a + 92000 ≤ 0x1800000000 ∨ 0x800000000000 ≤ a ∧ a + 92000 ≤ 0x1000000000000
      let busy := d.rg fPMR_STATUS_BUSY = 1
      ¬ busy ∧ 92000 ≤ d.rg fPMR_LIMIT_LIMIT ∧ inside) ∧
    (∃ (s : State),
      Live s ∧
      let d := s.dev
      let a := d.rg fPMR_ADDR_ADDR
      let inside := a + 92000 ≤ 0x1800000000 ∨ 0x800000000000 ≤ a ∧ a + 92000 ≤ 0x1000000000000
      let busy := d.rg fPMR_STATUS_BUSY = 1
      (busy ∨ d.rg fPMR_LIMIT_LIMIT < 92000 ∨ ¬ inside) ∧ d.rg fDBG_TRIG_ARM = 0) ∧
    (∃ (s : State),
      Live s ∧
      let d := s.dev
      d.rg fPMR_STATUS_BUSY = 0) ∧
    (∃ (s : State),
      Live s ∧
      let d := s.dev
      let a := d.rg fPMR_ADDR_ADDR
      let busy := d.rg fPMR_STATUS_BUSY = 1
      busy ∧ a % 32 = 0 ∧ a + 92000 ≤ 0x1800000000 ∧ d.snap.length = 92000) ∧
    (∃ (s : State) (new : _),
      Live s ∧
      let d := s.dev
      let old := d.rg fERR_IDX_CONSUMER
      let made := d.rg fERR_IDX_PRODUCER
      let ahead (x : Nat) : Nat := (x + 2 ^ 32 - old) % 2 ^ 32
      old < 2 ^ 32 ∧ made < 2 ^ 32 ∧ new < 2 ^ 32 ∧ ahead new ≤ ahead made) ∧
    (∃ (s : State) (new : _),
      Live s ∧
      let d := s.dev
      let old := d.rg fERR_IDX_CONSUMER
      let made := d.rg fERR_IDX_PRODUCER
      let ahead (x : Nat) : Nat := (x + 2 ^ 32 - old) % 2 ^ 32
      old < 2 ^ 32 ∧ made < 2 ^ 32 ∧ new < 2 ^ 32 ∧ ahead made < ahead new) ∧
    (∃ (s : State),
      Live s ∧
      let d := s.dev
      let old := d.rg fERR_IDX_CONSUMER
      let made := d.rg fERR_IDX_PRODUCER
      old < 2 ^ 32 ∧ made < 2 ^ 32 ∧ (d.rg fSHD_FW_STATE ≠ 2 ∨ old = made)) ∧
    (∃ (s : State),
      Live s ∧
      let d := s.dev
      let old := d.rg fERR_IDX_CONSUMER
      let made := d.rg fERR_IDX_PRODUCER
      old < 2 ^ 32 ∧ made < 2 ^ 32 ∧ d.rg fSHD_FW_STATE = 2 ∧ old ≠ made ∧ d.rg (fERR_ENTRY_CODE.at (old % 512)) ≠
          0x0909) :=
  ⟨⟨live id, 0x311, 127, 3, 1, 1, 1, 7, 1567, by
      delta Live
      try dsimp only
      decide +kernel⟩,
    ⟨live id, 0x112, 127, 3, 1, 1, 1, 7, 1567, by
      delta Live
      try dsimp only
      decide +kernel⟩,
    ⟨live id, 0x014, 127, 3, 1, 1, 1, 7, 7, 0, by
      delta Live
      try dsimp only
      decide +kernel⟩,
    ⟨live id, 0x014, 127, 3, 1, 1, 1, 7, 3, 23, by
      delta Live
      try dsimp only
      decide +kernel⟩,
    ⟨live id, 7, 1567, by
      delta Live
      try dsimp only
      decide +kernel⟩,
    ⟨live id, 7, 3, 23, by
      delta Live
      try dsimp only
      decide +kernel⟩,
    ⟨live (fun d => (d.rs fPMR_LIMIT_LIMIT 92000).rs fPMR_ADDR_ADDR (0x1800000000 - 92000)), by
      delta Live
      try dsimp only
      decide +kernel⟩,
    ⟨live (fun d => (d.rs fPMR_LIMIT_LIMIT 91999).rs fPMR_ADDR_ADDR (0x1800000000 - 92000)), by
      delta Live
      try dsimp only
      decide +kernel⟩,
    ⟨live id, by
      delta Live
      try dsimp only
      decide +kernel⟩,
    ⟨live (fun d =>
      { (d.rs fPMR_STATUS_BUSY 1).rs fPMR_ADDR_ADDR (0x1800000000 - 92000) with snap := List.replicate 92000 7 }), by
      delta Live
      dsimp only
      refine ⟨by decide, by decide +kernel, by decide +kernel, by decide +kernel, List.length_replicate⟩⟩,
    ⟨live (fun d => (d.rs fERR_IDX_CONSUMER (2 ^ 32 - 1)).rs fERR_IDX_PRODUCER 5), 5, by
      delta Live
      try dsimp only
      decide +kernel⟩,
    ⟨live (fun d => (d.rs fERR_IDX_CONSUMER (2 ^ 32 - 1)).rs fERR_IDX_PRODUCER 5), 6, by
      delta Live
      try dsimp only
      decide +kernel⟩,
    ⟨live id, by
      delta Live
      try dsimp only
      decide +kernel⟩,
    ⟨live (fun d => (((d.rs fERR_IDX_CONSUMER (2 ^ 32 - 1)).rs fERR_IDX_PRODUCER 5).rs (fERR_ENTRY_CODE.at 511)
      0x0C11).rs fSHD_FW_STATE 2), by
      delta Live
      try dsimp only
      decide +kernel⟩⟩

/-- What each clause of `DebugConnector` supposes is met. -/
theorem witness_DebugConnector :
    (∃ (s : State),
      let d := s.dev
      Live s ∧ (d.rg fDBG_TRIG_IN_EN ≠ 1 ∨ d.rg fDBG_TRIG_ARM = 0)) ∧
    (∃ (s : State),
      let d := s.dev
      Live s ∧ d.rg fDBG_TRIG_IN_EN = 1 ∧ d.rg fDBG_TRIG_ARM = 1 ∧ d.rg fDBG_TRIG_ACT_SNAP = 0) ∧
    (∃ (s : State),
      let d := s.dev
      Live s ∧
      let a := d.rg fDBG_FLASH_ADDR_ADDR
      d.rg fBRW_STATUS_STATE ≠ 4 ∧ a + 8 ≤ 0x2000000) ∧
    (∃ (s : State),
      let d := s.dev
      Live s ∧
      let a := d.rg fDBG_FLASH_ADDR_ADDR
      d.rg fBRW_STATUS_STATE ≠ 4 ∧ 0x2000000 < a + 8) ∧
    (∃ (s : State),
      let d := s.dev
      Live s ∧ d.rg fBRW_STATUS_STATE = 4) ∧
    (∃ (s : State) (j : _) (kind : _) (inst : _) (sig : _),
      Live s ∧ j < 32 ∧ kind < 16 ∧ inst < 2048 ∧ sig < 256 ∧
      let named := sig = 0 ∨ blockExists kind inst = true ∧ Config.debugSignal kind inst sig = true
      named) ∧
    (∃ (s : State) (j : _) (kind : _) (inst : _) (sig : _),
      Live s ∧ j < 32 ∧ kind < 16 ∧ inst < 2048 ∧ sig < 256 ∧
      let named := sig = 0 ∨ blockExists kind inst = true ∧ Config.debugSignal kind inst sig = true
      ¬ named) ∧
    (∃ (die : _), die < 2) ∧
    (∃ (s : State) (die : _),
      let d := s.dev
      die < 2 ∧ d.rst.held = true) ∧
    (∃ (s : State) (die : _),
      let d := s.dev
      die < 2 ∧ Live s ∧ d.rg fDBG_TRIG_ARM = 0) ∧
    (∃ (die : _) (idx : _) (th : _), die < 2 ∧ idx < 80 ∧ 0 < th ∧ th < 64) ∧
    (∃ (die : _) (idx : _), die < 2 ∧ idx < 32) ∧
    (∃ (s : State) (die : _) (inst : _),
      let d := s.dev
      die < 2 ∧ 2 ≤ inst ∧ Live s ∧ d.rg fDBG_TRIG_ARM = 0) ∧
    (∃ (die : _) (inst : _), die < 2 ∧ 3 ≤ inst) :=
  ⟨⟨live (fun d => d.rs fDBG_TRIG_IN_EN 1), by
      delta Live
      try dsimp only
      decide +kernel⟩,
    ⟨live (fun d => (((d.rs fDBG_TRIG_IN_EN 1).rs fDBG_TRIG_ARM 1).rs fDBG_TRIG_ACT_PIN 1).rs fDBG_TRIG_ACT_IRQ 1), by
      delta Live
      try dsimp only
      decide +kernel⟩,
    ⟨live (fun d => d.rs fDBG_FLASH_ADDR_ADDR 0x1FFFFF8), by
      delta Live
      try dsimp only
      decide +kernel⟩,
    ⟨live (fun d => d.rs fDBG_FLASH_ADDR_ADDR 0x1FFFFF9), by
      delta Live
      try dsimp only
      decide +kernel⟩,
    ⟨live (fun d => d.rs fBRW_STATUS_STATE 4), by
      delta Live
      try dsimp only
      decide +kernel⟩,
    ⟨live id, 31, 15, 2047, 0, by
      delta Live
      try dsimp only
      decide +kernel⟩,
    ⟨live id, 31, 15, 2047, 255, by
      delta Live
      try dsimp only
      decide +kernel⟩,
    ⟨1, by
      try dsimp only
      decide +kernel⟩,
    ⟨{ live id with dev := { (live id).dev with rst := ⟨true, false, false, false⟩ } }, 1, by
      try dsimp only
      decide +kernel⟩,
    ⟨live id, 1, by
      delta Live
      try dsimp only
      decide +kernel⟩,
    ⟨1, 79, 63, by
      try dsimp only
      decide +kernel⟩,
    ⟨1, 31, by
      try dsimp only
      decide +kernel⟩,
    ⟨live id, 1, 2, by
      delta Live
      try dsimp only
      decide +kernel⟩,
    ⟨1, 3, by
      try dsimp only
      decide +kernel⟩⟩

/-- What each clause of `TrayInterface` supposes is met. -/
theorem witness_TrayInterface :
    (∃ (s : State) (vin : _) (iin : _) (pin : _) (t1 : _) (t2 : _) (t3 : _),
      4 ≤ s.dev.tray.mated ∧ 44000 ≤ s.dev.tray.vin ∧ s.dev.tray.telem = [vin, iin, pin, t1, t2, t3]) ∧
    (∃ (s : State), 4 ≤ s.dev.tray.mated ∧ 44000 ≤ s.dev.tray.vin) ∧
    (∃ (s : State), s.dev.tray.mated = 0 ∧ s.dev.rst.off = true) ∧
    (∃ (s : State) (mv : Nat), 3 ≤ s.dev.tray.mated ∧ s.dev.rst.off = true ∧ 46000 ≤ mv) ∧
    (∃ (s : State) (mv : Nat), 3 ≤ s.dev.tray.mated ∧ s.dev.rst.off = false ∧ mv < 44000) :=
  ⟨⟨live (fun d => { d with tray := { d.tray with telem := [1, 2, 3, 4, 5, 6] } }), 1, 2, 3, 4, 5, 6, by
      decide +kernel⟩,
    ⟨live id, by
      decide +kernel⟩,
    ⟨{ State.reset with dev := { Dev.reset with rst := ⟨true, false, false, true⟩, tray := { Tray.reset with mated := 0, vin := 0 } } },
      by
      decide +kernel⟩,
    ⟨{ State.reset with dev := { Dev.reset with rst := ⟨true, false, false, true⟩, tray := { Tray.reset with mated := 3, vin := 0 } } },
      46000, by
      decide +kernel⟩,
    ⟨{ State.reset with dev := { Dev.reset with tray := { Tray.reset with mated := 3, dynAddr := some 9 } } }, 43999,
      by
      decide +kernel⟩⟩

/-- What each clause of `I3cTarget` supposes is met. -/
theorem witness_I3cTarget :
    (∃ (s : State), 4 ≤ s.dev.tray.mated ∧ s.dev.rst.off = false ∧ s.dev.tray.dynAddr = none) ∧
    (∃ (s : State) (k : _), 4 ≤ s.dev.tray.mated ∧ s.dev.rst.off = false ∧ k < 2 ^ 29) ∧
    (∃ (s : State) (v : _), 4 ≤ s.dev.tray.mated ∧ s.dev.rst.off = false ∧ v < 2 ^ 64) ∧
    (∃ (s : State),
      4 ≤ s.dev.tray.mated ∧ s.dev.rst.off = false ∧ s.dev.tray.status = 0 ∧ s.dev.tray.offset = 0x100018) ∧
    (∃ (s : State),
      4 ≤ s.dev.tray.mated ∧ s.dev.rst.off = false ∧ s.dev.tray.status = 0 ∧ 0x200000 ≤ s.dev.tray.offset) ∧
    (∃ (s : State),
      4 ≤ s.dev.tray.mated ∧ s.dev.rst.off = false ∧ s.dev.tray.status = 0 ∧ s.dev.rst.held = true ∧
          s.dev.tray.offset < 0x100000) ∧
    (∃ (s : State) (bs : List Byte), 4 ≤ s.dev.tray.mated ∧ s.dev.rst.off = false ∧ bs.length ≠ 5) ∧
    (∃ (s : State) (bs : List Byte), 4 ≤ s.dev.tray.mated ∧ s.dev.rst.off = false ∧ bs.length ≠ 13) ∧
    (∃ (s : State), 4 ≤ s.dev.tray.mated ∧ s.dev.rst.off = false ∧ s.dev.tray.status = 2) :=
  ⟨⟨live id, by
      decide +kernel⟩,
    ⟨live id, 2 ^ 29 - 1, by
      decide +kernel⟩,
    ⟨live id, 2 ^ 64 - 1, by
      decide +kernel⟩,
    ⟨live (fun d => { d with tray := { d.tray with offset := 0x100018 } }), by
      decide +kernel⟩,
    ⟨live (fun d => { d with tray := { d.tray with offset := 0x200000 } }), by
      decide +kernel⟩,
    ⟨{ live id with dev := { (live id).dev with rst := ⟨true, false, false, false⟩, tray := { (live id).dev.tray with offset := 0xFFFF8 } } },
      by
      decide +kernel⟩,
    ⟨live id, [1, 2, 3, 4], by
      decide +kernel⟩,
    ⟨live id, [2], by
      decide +kernel⟩,
    ⟨live (fun d => { d with tray := { d.tray with status := 2 } }), by
      decide +kernel⟩⟩

/-- What each clause of `ReplicasAndInjection` supposes is met. -/
theorem witness_ReplicasAndInjection :
    (∃ (s : State) (data : Nat), Live s ∧ bitsOf data 32 16 ≠ 0 ∧ bitsOf data 16 16 ≠ 0) ∧
    (∃ (s : State) (data : Nat), Live s ∧ (bitsOf data 32 16 = 0 ∨ bitsOf data 16 16 = 0)) ∧
    (∃ (s : State) (p : _), Live s ∧ isPlot p = true ∧ (s.dev.plot p).sleep = 0) ∧
    (∃ (s : State) (m : Mail), Live s ∧ MailIn s.dev 0x0201 m ∧ m.shape 16 12 4 = true) ∧
    (∃ (s : State) (m : Mail), Live s ∧ MailIn s.dev 0x0201 m ∧ m.shape 16 12 4 = false) ∧
    (∃ (s : State) (m : Mail),
      Live s ∧ MailIn s.dev 0x0202 m ∧ m.shape 48 40 8 = true ∧ m.v 0 2 ≤ 63 ∧ 2 ≤ m.v 3 1 ∧ m.v 3 1 ≤ 16 ∧ m.v 2 1 <
          m.v 3 1 ∧ m.v 4 2 + m.v 6 2 ≤ 1024) ∧
    (∃ (s : State) (m : Mail),
      Live s ∧ MailIn s.dev 0x0202 m ∧ m.shape 48 40 8 = true ∧ (63 < m.v 0 2 ∨ m.v 3 1 < 2 ∨ 16 < m.v 3 1 ∨ m.v 3 1
          ≤ m.v 2 1 ∨ 1024 < m.v 4 2 + m.v 6 2)) ∧
    (∃ (s : State) (m : Mail) (g : _),
      Live s ∧ MailIn s.dev 0x0204 m ∧ m.shape 8 4 4 = true ∧ s.dev.sed.groups = [g] ∧ g.group = m.v 0 2 ∧ (g.flagged
          = 1 ∨ g.flagged = 2) ∧ m.v 3 1 = 0) ∧
    (∃ (s : State) (m : Mail) (g : _),
      Live s ∧ MailIn s.dev 0x0204 m ∧ m.shape 8 4 4 = true ∧ s.dev.sed.groups = [g] ∧ g.group = m.v 0 2 ∧ (g.flagged
          = 1 ∨ g.flagged = 2) ∧ m.v 3 1 = 1 ∧ g.self = m.v 2 1) ∧
    (∃ (s : State) (m : Mail),
      Live s ∧ MailIn s.dev 0x0204 m ∧ m.shape 8 4 4 = true ∧ (∀ g, g ∈ s.dev.sed.groups → g.flagged = 0)) ∧
    (∃ (s : State) (g : Replica) (port : Nat) (src : Nat) (hops : Nat) (rep : Nat) (dig : List Byte),
      Live s ∧ port < 16 ∧ s.dev.rg (fSOP_PORT_STATUS_STATE.at port) = 3 ∧ src < 2 ^ 16 ∧ hops < 64 ∧ s.dev.rg
          fSOP_DEV_DEV_ID < 2 ^ 16 ∧ s.dev.rg fSHD_FW_STATE = 2 ∧ s.dev.mgmt = [] ∧ s.dev.sed.groups = [g] ∧
          g.waiting = none ∧ g.group < 2 ^ 16 ∧ rep < 256 ∧ dig.length = 32) ∧
    (∃ (s : State) (g : Replica) (now : Nat) (epoch : Nat) (w : Nat),
      Live s ∧ s.dev.sed.groups = [g] ∧ g.count = 2 ∧ g.self = 0 ∧ g.waiting = some (epoch, w) ∧ now < w + tallyWait
          s.dev) ∧
    (∃ (s : State) (g : Replica) (now : Nat) (epoch : Nat) (w : Nat) (t0 : Nat) (a : List Byte),
      Live s ∧ s.dev.sed.groups = [g] ∧ g.count = 2 ∧ g.self = 0 ∧ g.waiting = some (epoch, w) ∧ w + tallyWait s.dev
          ≤ now ∧ g.digests = [(0, (a, t0))]) ∧
    (∃ (s : State) (g : Replica) (now : Nat) (epoch : Nat) (w : Nat) (t0 : Nat) (t1 : Nat) (a : List Byte) (b : List
        Byte),
      Live s ∧ s.dev.sed.groups = [g] ∧ g.count = 2 ∧ g.self = 0 ∧ g.waiting = some (epoch, w) ∧ w + tallyWait s.dev
          ≤ now ∧ g.digests = [(0, (a, t0)), (1, (b, t1))] ∧ now ≤ t1 + tallyWait s.dev ∧ a ≠ b) :=
  ⟨⟨live id, 2 ^ 32 + 2 ^ 16 + 1, by
      delta Live
      decide +kernel⟩,
    ⟨live id, 2 ^ 32 + 1, by
      delta Live
      decide +kernel⟩,
    ⟨live id, 1567, by
      delta Live
      decide +kernel⟩,
    ⟨mailed (msg 0x0201 (leBytes 8 5 ++ leBytes 4 6 ++ zeros 4)) id, msg 0x0201 (leBytes 8 5 ++ leBytes 4 6 ++ zeros
      4), by
      delta Live MailIn
      decide +kernel⟩,
    ⟨mailed (msg 0x0201 (leBytes 8 5 ++ leBytes 4 6 ++ [0, 0, 0, 1])) id, msg 0x0201 (leBytes 8 5 ++ leBytes 4 6 ++
      [0, 0, 0, 1]), by
      delta Live MailIn
      decide +kernel⟩,
    ⟨mailed (msg 0x0202 (leBytes 2 63 ++ [15, 16] ++ leBytes 2 1023 ++ leBytes 2 1 ++ zeros 40)) id, msg 0x0202
      (leBytes 2 63 ++ [15, 16] ++ leBytes 2 1023 ++ leBytes 2 1 ++ zeros 40), by
      delta Live MailIn
      decide +kernel⟩,
    ⟨mailed (msg 0x0202 (leBytes 2 64 ++ [15, 16] ++ leBytes 2 1023 ++ leBytes 2 1 ++ zeros 40)) id, msg 0x0202
      (leBytes 2 64 ++ [15, 16] ++ leBytes 2 1023 ++ leBytes 2 1 ++ zeros 40), by
      delta Live MailIn
      decide +kernel⟩,
    ⟨mailed (msg 0x0204 (leBytes 2 63 ++ [15, 0] ++ zeros 4)) (fun d =>
      { d with sed := { d.sed with groups := [{ group63 with flagged := 2 }] } }), msg 0x0204 (leBytes 2 63 ++ [15,
      0] ++ zeros 4), { group63 with flagged := 2 }, by
      delta Live MailIn
      decide +kernel⟩,
    ⟨mailed (msg 0x0204 (leBytes 2 63 ++ [15, 1] ++ zeros 4)) (fun d =>
      { d with sed := { d.sed with groups := [{ group63 with flagged := 2 }] } }), msg 0x0204 (leBytes 2 63 ++ [15,
      1] ++ zeros 4), { group63 with flagged := 2 }, by
      delta Live MailIn
      decide +kernel⟩,
    ⟨mailed (msg 0x0204 (leBytes 2 63 ++ [15, 1] ++ zeros 4)) (fun d =>
      { d with sed := { d.sed with groups := [group63] } }), msg 0x0204 (leBytes 2 63 ++ [15, 1] ++ zeros 4), by
      delta Live MailIn
      decide +kernel⟩,
    ⟨peers (fun d => { d.rs fSHD_FW_STATE 2 with sed := { d.sed with groups := [group63] } }), group63, 15, 9, 63,
      255, zeros 32, by
      delta Live
      decide +kernel⟩,
    ⟨live (fun d =>
      { d with sed := { d.sed with groups := [{ group63 with count := 2, self := 0, waiting := some (3, 10) }] } }),
      { group63 with count := 2, self := 0, waiting := some (3, 10) }, 2500009, 3, 10, by
      delta Live
      decide +kernel⟩,
    ⟨live (fun d =>
      { d with sed := { d.sed with groups := [{ group63 with count := 2, self := 0, waiting := some (3, 10), digests := [(0, (zeros 32, 10))] }] } }),
      { group63 with count := 2, self := 0, waiting := some (3, 10), digests := [(0, (zeros 32, 10))] }, 2500010, 3,
      10, 10, zeros 32, by
      delta Live
      decide +kernel⟩,
    ⟨live (fun d =>
      { d with sed := { d.sed with groups := [{ group63 with count := 2, self := 0, waiting := some (3, 10), digests := [(0, (zeros 32, 10)), (1, ([1], 15))] }] } }),
      { group63 with count := 2, self := 0, waiting := some (3, 10), digests := [(0, (zeros 32, 10)), (1, ([1], 15))] },
      2500010, 3, 10, 10, 15, zeros 32, [1], by
      delta Live
      decide +kernel⟩⟩

/-- What each clause of `PlacementsAndPackStore` supposes is met. -/
theorem witness_PlacementsAndPackStore :
    (∃ (s : State) (m : Mail), Live s ∧ MailIn s.dev 0x0300 m ∧ m.body.length ≠ 16) ∧
    (∃ (s : State) (m : Mail), Live s ∧ MailIn s.dev 0x0300 m ∧ m.body.length = 16 ∧ m.v 8 8 = 0) ∧
    (∃ (s : State) (m : Mail),
      Live s ∧ MailIn s.dev 0x0300 m ∧ m.body.length = 16 ∧ m.v 8 8 ≠ 0 ∧ placementCode s.dev (m.v 0 8) (m.v 8 8) ≠ 0) ∧
    (∃ (s : State) (m : Mail),
      Live s ∧ MailIn s.dev 0x0300 m ∧ m.body.length = 16 ∧ m.v 8 8 ≠ 0 ∧ placementCode s.dev (m.v 0 8) (m.v 8 8) = 0) ∧
    (∃ (s : State) (m : Mail), Live s ∧ MailIn s.dev 0x0301 m ∧ m.body ≠ []) ∧
    (∃ (s : State) (m : Mail), Live s ∧ MailIn s.dev 0x0301 m ∧ m.body = [] ∧ slotsFree s.dev = false) ∧
    (∃ (s : State) (m : Mail), Live s ∧ MailIn s.dev 0x0301 m ∧ m.body = [] ∧ slotsFree s.dev = true) ∧
    (∃ (s : State) (m : Mail),
      Live s ∧ MailIn s.dev 0x0210 m ∧ m.body.length = 16 ∧ inGddr (m.v 0 8) (m.v 8 8) = false) ∧
    (∃ (s : State) (m : Mail),
      Live s ∧ MailIn s.dev 0x0210 m ∧ m.body.length = 16 ∧ inGddr (m.v 0 8) (m.v 8 8) = true ∧
      let b := memRead s.dev.gddr (m.v 0 8) (min (m.v 8 8) 1310720)
      packCode s.fused s.dev b ≠ 0) ∧
    (∃ (s : State) (m : Mail) (k : _),
      Live s ∧ MailIn s.dev 0x0210 m ∧ m.body.length = 16 ∧ inGddr (m.v 0 8) (m.v 8 8) = true ∧
      let b := memRead s.dev.gddr (m.v 0 8) (min (m.v 8 8) 1310720)
      packCode s.fused s.dev b = 0 ∧ packPlace s.dev (recV b 8 4) = none ∧ k < 8 ∧ packAt s.dev k = none ∧ (∀ j, j <
          k → packAt s.dev j ≠ none)) ∧
    (∃ (s : State) (m : Mail) (k : _) (old : _),
      Live s ∧ MailIn s.dev 0x0210 m ∧ m.body.length = 16 ∧ inGddr (m.v 0 8) (m.v 8 8) = true ∧
      let b := memRead s.dev.gddr (m.v 0 8) (min (m.v 8 8) 1310720)
      packCode s.fused s.dev b = 0 ∧ packPlace s.dev (recV b 8 4) = some k ∧ packAt s.dev k = some old ∧ recV old 12
          4 < recV b 12 4) ∧
    (∃ (s : State) (m : Mail) (k : _) (old : _),
      Live s ∧ MailIn s.dev 0x0210 m ∧ m.body.length = 16 ∧ inGddr (m.v 0 8) (m.v 8 8) = true ∧
      let b := memRead s.dev.gddr (m.v 0 8) (min (m.v 8 8) 1310720)
      packCode s.fused s.dev b = 0 ∧ packPlace s.dev (recV b 8 4) = some k ∧ packAt s.dev k = some old ∧ recV b 12 4
          ≤ recV old 12 4) ∧
    (∃ (s : State) (m : Mail),
      Live s ∧ MailIn s.dev 0x0211 m ∧ m.shape 8 4 4 = true ∧ packPlace s.dev (m.v 0 4) = none) ∧
    (∃ (s : State) (m : Mail) (k : _),
      Live s ∧ MailIn s.dev 0x0211 m ∧ m.shape 8 4 4 = true ∧ packPlace s.dev (m.v 0 4) = some k) :=
  ⟨⟨mailed (msg 0x0300 (zeros 15)) id, msg 0x0300 (zeros 15), by
      delta Live MailIn
      decide +kernel⟩,
    ⟨mailed (msg 0x0300 (leBytes 8 5 ++ leBytes 8 0)) id, msg 0x0300 (leBytes 8 5 ++ leBytes 8 0), by
      delta Live MailIn
      decide +kernel⟩,
    ⟨mailed (msg 0x0300 (leBytes 8 0 ++ leBytes 8 1)) id, msg 0x0300 (leBytes 8 0 ++ leBytes 8 1), by
      delta Live MailIn
      decide +kernel⟩,
    ⟨placing, msg 0x0300 (leBytes 8 0 ++ leBytes 8 70000), by
      delta Live MailIn
      rw [show (msg 0x0300 (leBytes 8 0 ++ leBytes 8 70000)).v 0 8 = 0 by decide +kernel, show (msg 0x0300 (leBytes 8 0 ++ leBytes 8 70000)).v 8 8 = 70000 by decide +kernel]
      exact ⟨by decide, by decide +kernel, by decide +kernel, by decide, placing_code⟩⟩,
    ⟨mailed (msg 0x0301 [0]) id, msg 0x0301 [0], by
      delta Live MailIn
      decide +kernel⟩,
    ⟨mailed (msg 0x0301 []) (fun d => d.rs (fSTP_SLOT_STATE.at 15) 4), msg 0x0301 [], by
      delta Live MailIn
      decide +kernel⟩,
    ⟨mailed (msg 0x0301 []) id, msg 0x0301 [], by
      delta Live MailIn
      decide +kernel⟩,
    ⟨mailed (msg 0x0210 (leBytes 8 0x1800000000 ++ leBytes 8 1)) id, msg 0x0210 (leBytes 8 0x1800000000 ++ leBytes 8
      1), by
      delta Live MailIn
      decide +kernel⟩,
    ⟨mailed (msg 0x0210 (leBytes 8 0x17FFFFFFFF ++ leBytes 8 1)) id, msg 0x0210 (leBytes 8 0x17FFFFFFFF ++ leBytes 8
      1), by
      delta Live MailIn
      try dsimp only
      decide +kernel⟩,
    ⟨loading (flPut [] (flPACK 0) (leBytes 4 0x54325246 ++ zeros 4 ++ leBytes 4 9 ++ zeros 116)) (signed (pkBody 5)),
      msg 0x0210 (leBytes 8 64 ++ leBytes 8 18597), 1, by
      delta Live MailIn
      dsimp only
      have hb : (pkBody 5).length = 128 := by decide +kernel
      rw [show (msg 0x0210 (leBytes 8 64 ++ leBytes 8 18597)).v 0 8 = 64 by decide +kernel, show (msg 0x0210 (leBytes 8 64 ++ leBytes 8 18597)).v 8 8 = 18597 by decide +kernel, show min 18597 1310720 = 18597 by decide, loading_pack _ _ hb, signed_pack_recV _ _ _ hb (by decide)]
      simp only [loading_place, loading_at]
      exact ⟨by decide, by decide +kernel, by decide +kernel, by decide, packCode_signed _ _ _ hb (by decide +kernel) (by decide +kernel) (by decide +kernel) rfl (loading_key _ _), by decide +kernel, by decide, by decide +kernel, by decide +kernel⟩⟩,
    ⟨loading (flPut [] (flPACK 7) packBytes) (signed (pkBody 5)), msg 0x0210 (leBytes 8 64 ++ leBytes 8 18597), 7,
      packBytes, by
      delta Live MailIn
      dsimp only
      have hb : (pkBody 5).length = 128 := by decide +kernel
      rw [show (msg 0x0210 (leBytes 8 64 ++ leBytes 8 18597)).v 0 8 = 64 by decide +kernel, show (msg 0x0210 (leBytes 8 64 ++ leBytes 8 18597)).v 8 8 = 18597 by decide +kernel, show min 18597 1310720 = 18597 by decide, loading_pack _ _ hb, signed_pack_recV _ _ _ hb (by decide), signed_pack_recV _ _ _ hb (by decide)]
      simp only [loading_place, loading_at]
      exact ⟨by decide, by decide +kernel, by decide +kernel, by decide, packCode_signed _ _ _ hb (by decide +kernel) (by decide +kernel) (by decide +kernel) rfl (loading_key _ _), by decide +kernel, by decide +kernel, by decide +kernel⟩⟩,
    ⟨loading (flPut [] (flPACK 7) packBytes) (signed (pkBody 0)), msg 0x0210 (leBytes 8 64 ++ leBytes 8 18597), 7,
      packBytes, by
      delta Live MailIn
      dsimp only
      have hb : (pkBody 0).length = 128 := by decide +kernel
      rw [show (msg 0x0210 (leBytes 8 64 ++ leBytes 8 18597)).v 0 8 = 64 by decide +kernel, show (msg 0x0210 (leBytes 8 64 ++ leBytes 8 18597)).v 8 8 = 18597 by decide +kernel, show min 18597 1310720 = 18597 by decide, loading_pack _ _ hb, signed_pack_recV _ _ _ hb (by decide), signed_pack_recV _ _ _ hb (by decide)]
      simp only [loading_place, loading_at]
      exact ⟨by decide, by decide +kernel, by decide +kernel, by decide, packCode_signed _ _ _ hb (by decide +kernel) (by decide +kernel) (by decide +kernel) rfl (loading_key _ _), by decide +kernel, by decide +kernel, by decide +kernel⟩⟩,
    ⟨mailed (msg 0x0211 (leBytes 4 9 ++ zeros 4)) id, msg 0x0211 (leBytes 4 9 ++ zeros 4), by
      delta Live MailIn
      decide +kernel⟩,
    ⟨mailed (msg 0x0211 (leBytes 4 0 ++ zeros 4)) (fun d =>
      { d with flash := { d.flash with bytes := flPut [] (flPACK 7) packBytes } }), msg 0x0211 (leBytes 4 0 ++ zeros
      4), 7, by
      delta Live MailIn
      decide +kernel⟩⟩

/-- What `IntegerRowCheck` supposes is met. -/
theorem witness_IntegerRowCheck :
    ∃ (m : MatCfg), (m.stat = 11 ∨ m.stat = 12) ∧ (m.strm = 11 ∨ m.strm = 12) :=
  ⟨⟨11, 12, 128, 64, 0, false⟩, by
      try dsimp only
      decide +kernel⟩

/-- What each clause of `CoolantRange` supposes is met. -/
theorem witness_CoolantRange :
    (∃ (s : State) (data : Nat),
      Live s ∧ (bitsOf data 32 16 < 3000 ∨ bitsOf data 16 12 < 120 ∨ 1000 < bitsOf data 16 12 ∨ 1000 < bitsOf data 0
          10)) ∧
    (∃ (s : State) (data : Nat), Live s ∧ 1000 < bitsOf data 0 10) ∧
    (∃ (s : State) (data : Nat), Live s ∧ 900 < bitsOf data 0 10) :=
  ⟨⟨live id, 3000 * 2 ^ 32 + 119 * 2 ^ 16 + 1000, by
      delta Live
      try dsimp only
      decide +kernel⟩,
    ⟨live id, 1001, by
      delta Live
      try dsimp only
      decide +kernel⟩,
    ⟨live id, 901, by
      delta Live
      try dsimp only
      decide +kernel⟩⟩

/-- What each clause of `FrontOfTheQueue` supposes is met. -/
theorem witness_FrontOfTheQueue :
    (∃ (s : State) (c : Instr) (rest : List Instr), s.pending = c :: rest) ∧
    (∃ (s : State), s.pending = []) :=
  ⟨⟨{ live id with pending := [.nop 0] }, .nop 0, [], by
      decide +kernel⟩,
    ⟨State.reset, by
      decide +kernel⟩⟩

/-- What each clause of `AfterReset` supposes is met. -/
theorem witness_AfterReset :
    (∃ (i : _), i < 16) ∧
    (∃ (f : _), f = State.reset.fused) :=
  ⟨⟨15, by
      decide +kernel⟩,
    ⟨Fuses.reset, by
      decide +kernel⟩⟩

/-- What each clause of `FusesOnlyRise` supposes is met. -/
theorem witness_FusesOnlyRise :
    (∃ (f : Fuses) (s : State) (t : State), FusedFrom f s ∧ step s = .next t) ∧
    (∃ (s : State) (t : State) (c : Instr) (rest : List Instr),
      s.pending = c :: rest ∧ step s = .next t ∧ t.fused ≠ s.fused) :=
  ⟨⟨Fuses.reset, State.reset, State.reset, by
      exact ⟨by delta FusedFrom; decide +kernel, rfl⟩⟩,
    ⟨fusing (.fusePositionDone true), after (fusing (.fusePositionDone true)), .fusePositionDone true, [], by
      exact ⟨rfl, rfl, by decide +kernel⟩⟩⟩


theorem witness_VectorOperations : ∀ o ∈ vectorOps, Live (runsVop o.func) ∧
    Issues (runsVop o.func).dev 0 (vopWord o.func) ∧ isVop o.func (vopWord o.func) = true ∧
    Sound ((runsVop o.func).dev.plot 0) ∧
    0 < (vopOf o.group o.usesB o.usesC (vopWord o.func)).len ∧
    (vopOf o.group o.usesB o.usesC (vopWord o.func)).stop (runsVop o.func).dev ((runsVop o.func).dev.plot 0)
      (vopWord o.func) = 0 ∧
    ((vopOf o.group o.usesB o.usesC (vopWord o.func)).fmtA ≠ 13 ∨ o.group = .integer) ∧
    ((runsVop o.func).dev.plot 0).idx (vopOf o.group o.usesB o.usesC (vopWord o.func)).id < 2 ^ 20 := by
  delta Live Issues Sound
  decide +kernel

end Sys2Proof.Tests
end

section
/-! PROOFS. The block after reset, and requests at their targets, with the layer that they need: sticky bits, messages on a
ready link, sound scratch, and the way of a request that nothing keeps from its target. -/

namespace Sys2Proof.Machine

/-! ## The block after reset -/

theorem Dev.reset_rg (f : Fld) : Dev.reset.rg f = f.reset := rfl

theorem Plot.reset_rg (f : Fld) : Plot.reset.rg f = f.reset := rfl

theorem Dev.reset_plot (p : Nat) : Dev.reset.plot p = Plot.reset := rfl

theorem FusedFrom.refl (s : State) : FusedFrom s.fused s := ⟨rfl, Nat.le_refl _⟩

/-- Settles O59: the reset state lists no register and no plot, so every field reads its reset value. -/
theorem afterReset : Obligations.AfterReset := by
  refine ⟨Dev.reset_rg, fun p f => ?_, rfl, rfl, rfl, rfl, rfl, rfl, fun _ => rfl, fun i _ => ?_, rfl, rfl, rfl, rfl,
    MemoriesWf.reset.scr, MemoriesWf.reset.bed, MemoriesWf.reset.gddr, fun f hf => ?_⟩
  · change (Dev.reset.plot p).rg f = f.reset
    rw [Dev.reset_plot, Plot.reset_rg]
  · exact Dev.reset_rg (fSTP_SLOT_STATE.at i)
  · exact hf ▸ FusedFrom.refl State.reset

/-! ## Bits of a sticky word -/

theorem bitOf_eq_testBit (n i : Nat) : bitOf n i = n.testBit i := by
  simp only [Nat.testBit_eq_decide_div_mod_eq, bitOf, beq_eq_decide]

theorem bitOf_mod_two_pow {i w : Nat} (h : i < w) (n : Nat) : bitOf (n % 2 ^ w) i = bitOf n i := by
  simp [bitOf_eq_testBit, Nat.testBit_mod_two_pow, h]

theorem bitOf_withBit_same (n i : Nat) : bitOf (withBit n i) i = true := by
  unfold withBit
  split
  · assumption
  · next h =>
    rw [bitOf_eq_testBit] at h ⊢
    rw [Nat.add_comm, Nat.testBit_two_pow_add_eq]
    simpa using h

/-- Adding a clear bit's weight carries into no other bit. -/
theorem bitOf_add_two_pow_ne {n i j : Nat} (hi : bitOf n i = false) (hj : j ≠ i) : bitOf (n + 2 ^ i) j = bitOf n j := by
  simp only [bitOf_eq_testBit] at hi ⊢
  rcases Nat.lt_or_gt_of_ne hj with h | h
  · rw [Nat.add_comm, Nat.testBit_two_pow_add_gt h]
  · have upper : (n + 2 ^ i) / 2 ^ i / 2 = n / 2 ^ i / 2 := by
      rw [Nat.add_div_right _ (Nat.two_pow_pos i)]
      rw [Nat.testBit_eq_decide_div_mod_eq, decide_eq_false_iff_not] at hi
      omega
    obtain ⟨k, rfl⟩ : ∃ k, j = k + (i + 1) := ⟨j - (i + 1), by omega⟩
    rw [← Nat.testBit_div_two_pow, ← Nat.testBit_div_two_pow, pow_succ, ← Nat.div_div_eq_div_mul, upper,
      Nat.div_div_eq_div_mul]

theorem bitOf_withBit_of_bitOf {n j : Nat} (h : bitOf n j = true) (i : Nat) : bitOf (withBit n i) j = true := by
  by_cases hj : j = i
  · rw [hj, bitOf_withBit_same]
  · unfold withBit
    split
    · exact h
    · next hi => rw [bitOf_add_two_pow_ne (by simpa using hi) hj, h]

/-! ## A class seen stays seen (R559) -/

theorem SawClass.of_rg {k : Nat} {d e : Dev} (h : SawClass k d)
    (hr : e.rg fERR_CLASS_SEEN_SEEN = d.rg fERR_CLASS_SEEN_SEEN) : SawClass k e := by
  unfold SawClass
  rw [hr]
  exact h

theorem SawClass.rs {k : Nat} {d : Dev} (h : SawClass k d) (f : Fld) (v : Nat)
    (hf : fERR_CLASS_SEEN_SEEN.key ≠ f.key) : SawClass k (d.rs f v) := h.of_rg (Dev.rg_rs_ne d hf v)

theorem SawClass.ite {n : Nat} {d e : Dev} (c : Prop) [Decidable c] (h : SawClass n d) (k : SawClass n e) :
    SawClass n (if c then d else e) := by split <;> assumption

theorem key_classSeen : fERR_CLASS_SEEN_SEEN.key = 0xb00000 * 64 + 1 := rfl

theorem key_errEntry_ne {f : Fld} (i : Nat) (hf : f = fERR_ENTRY_CODE ∨ f = fERR_ENTRY_KIND ∨ f = fERR_ENTRY_INSTANCE ∨
    f = fERR_ENTRY_REPEAT ∨ f = fERR_ENTRY_SEQ) : fERR_CLASS_SEEN_SEEN.key ≠ (f.at i).key := by
  rw [key_classSeen]
  rcases hf with rfl | rfl | rfl | rfl | rfl <;>
    simp only [Fld.at, Fld.key, fERR_ENTRY_CODE, fERR_ENTRY_KIND, fERR_ENTRY_INSTANCE, fERR_ENTRY_REPEAT, fERR_ENTRY_SEQ] <;>
    omega

/-- What a code that enters the error record leaves in ERR_CLASS_SEEN. -/
theorem recordPut_classSeen (d : Dev) (k i c : Nat) : (recordPut d k i c).1.rg fERR_CLASS_SEEN_SEEN =
    withBit (d.rg fERR_CLASS_SEEN_SEEN) (c / 256 - 1) % 2 ^ 16 := by
  have entry := fun (d : Dev) (f : Fld) (j v : Nat) hf => Dev.rg_rs_ne d (key_errEntry_ne (f := f) j hf) v
  have producer : fERR_CLASS_SEEN_SEEN.key ≠ fERR_IDX_PRODUCER.key := by decide
  have lost : fERR_CLASS_SEEN_SEEN.key ≠ fERR_STATUS_LOST.key := by decide
  have seen : ∀ v, (d.rs fERR_CLASS_SEEN_SEEN v).rg fERR_CLASS_SEEN_SEEN = v % 2 ^ 16 := Dev.rg_rs_same d _
  unfold recordPut
  dsimp only
  split
  · rw [Dev.count, entry _ _ _ _ (by simp), seen]
  · split
    · rw [Dev.rg_rs_ne _ producer, entry _ _ _ _ (by simp), entry _ _ _ _ (by simp), entry _ _ _ _ (by simp),
        entry _ _ _ _ (by simp), entry _ _ _ _ (by simp), seen]
    · rw [Dev.count, Dev.rg_rs_ne _ lost, seen]

theorem recordPut_sawClass (d : Dev) (k i : Nat) {c n : Nat} (hn : c / 256 = n) (h16 : n - 1 < 16) :
    SawClass n (recordPut d k i c).1 := by
  unfold SawClass
  rw [recordPut_classSeen, bitOf_mod_two_pow h16, hn, bitOf_withBit_same]

theorem SawClass.recordPut {n : Nat} {d : Dev} (h : SawClass n d) (h16 : n - 1 < 16) (k i c : Nat) :
    SawClass n (recordPut d k i c).1 := by
  unfold SawClass
  rw [recordPut_classSeen, bitOf_mod_two_pow h16]
  exact bitOf_withBit_of_bitOf h _

theorem SawClass.raiseEdge {n : Nat} {d : Dev} (h : SawClass n d) (src : Nat) :
    SawClass n (raiseEdge d src) := by
  refine h.rs _ _ ?_
  rw [key_classSeen]
  simp only [Fld.at, Fld.key, fICU_PEND_PEND]
  omega

theorem SawClass.pmrStart {n : Nat} {d : Dev} (h : SawClass n d) (h16 : n - 1 < 16) : SawClass n (pmrStart d) := by
  have latched : SawClass n { d with snap := snapshot d } := h.of_rg (by simp only [Dev.rg])
  unfold Machine.pmrStart
  exact SawClass.ite _ (h.recordPut h16 _ _ _) (latched.rs _ _ (by decide))

theorem SawClass.trigFire {n : Nat} {d : Dev} (h : SawClass n d) (h16 : n - 1 < 16) : SawClass n (trigFire d) := by
  unfold Machine.trigFire
  refine SawClass.ite _ h ?_
  have disarmed := h.rs fDBG_TRIG_ARM 0 (by decide)
  have pin : ∀ a : Dev, SawClass n a →
      SawClass n (if a.rg fDBG_TRIG_ACT_PIN = 1 then { a with tray := { a.tray with trigOut := true } } else a) :=
    fun a ha => SawClass.ite _ ha ha
  have irq : ∀ a : Dev, SawClass n a → SawClass n (if a.rg fDBG_TRIG_ACT_IRQ = 1 then Machine.raiseEdge a 10 else a) :=
    fun a ha => SawClass.ite _ (ha.raiseEdge _) ha
  have snap : ∀ a : Dev, SawClass n a → SawClass n (if a.rg fDBG_TRIG_ACT_SNAP = 1 then Machine.pmrStart a else a) :=
    fun a ha => SawClass.ite _ (ha.pmrStart h16) ha
  exact snap _ (irq _ (pin _ disarmed))

theorem SawClass.overflowed {n : Nat} {d : Dev} (h : SawClass n d) (h16 : n - 1 < 16) : SawClass n (overflowed d) := by
  unfold Machine.overflowed
  have any : SawClass n (if d.rg fPMR_STATUS_OVF_ANY = 1 then d else Machine.raiseEdge (d.rs fPMR_STATUS_OVF_ANY 1) 9) :=
    SawClass.ite _ h ((h.rs _ _ (by decide)).raiseEdge _)
  exact SawClass.ite _ (any.trigFire h16) any

theorem SawClass.plotEvent {n : Nat} {d : Dev} (h : SawClass n d) (h16 : n - 1 < 16) (p ev m : Nat) (cls addr : Option Nat) :
    SawClass n (plotEvent d p ev m cls addr) := by
  have counted : SawClass n (d.setPlot p { d.plot p with regs := (bankCount (d.plot p).regs 0x3800 ev m cls addr).1 }) :=
    h.of_rg (Dev.rg_setPlot _ _ _ _)
  unfold Machine.plotEvent
  dsimp only
  exact SawClass.ite _ (counted.overflowed h16) counted

theorem outsideBank_classSeen (k i : Nat) : outsideBank (bankOffset k i) fERR_CLASS_SEEN_SEEN.key := by
  rw [key_classSeen, outsideBank, bankOffset]
  split_ifs <;> omega

theorem SawClass.blockEvent {n : Nat} {d : Dev} (h : SawClass n d) (h16 : n - 1 < 16) (k i ev m : Nat)
    (cls addr : Option Nat) : SawClass n (blockEvent d k i ev m cls addr) := by
  have counted : SawClass n { d with regs := (bankCount d.regs (bankOffset k i) ev m cls addr).1 } :=
    h.of_rg (by simp only [Dev.rg]; exact rget_bankCount _ _ _ _ _ _ _ (outsideBank_classSeen k i))
  unfold Machine.blockEvent
  dsimp only
  exact SawClass.ite _ (counted.overflowed h16) counted

theorem SawClass.codeEvent {n : Nat} {d : Dev} (h : SawClass n d) (h16 : n - 1 < 16) (k i : Nat) :
    SawClass n (codeEvent d k i) := by
  have block := fun k i => h.blockEvent h16 k i 0x200 1 none none
  unfold Machine.codeEvent
  exact SawClass.ite _ (h.plotEvent h16 _ _ _ _ _) <| SawClass.ite _ (block _ _) <| SawClass.ite _ (block _ _) <|
    SawClass.ite _ (block _ _) <| SawClass.ite _ (block _ _) <| SawClass.ite _ (block _ _) <| SawClass.ite _ (block _ _) <|
    SawClass.ite _ (block _ _) h

/-- Recording a code shows its class in ERR_CLASS_SEEN. -/
theorem recordErr_sawClass (d : Dev) (k i : Nat) {c n : Nat} (hn : c / 256 = n) (h16 : n - 1 < 16) :
    SawClass n (recordErr d k i c) := by
  have event := (recordPut_sawClass d k i hn h16).codeEvent h16 k i
  exact SawClass.ite _ (event.trigFire h16) event

/-- Recording a code of another block than a plot leaves the plots alone. -/
theorem recordErr_plots (d : Dev) {k : Nat} (hk : k ≠ 10) (i c : Nat) : (recordErr d k i c).plots = d.plots := by
  have event : (codeEvent (recordPut d k i c).1 k i).plots = d.plots := by
    unfold codeEvent
    rw [if_neg hk]
    split_ifs <;> simp only [blockEvent_plots, recordPut_plots]
  unfold recordErr
  dsimp only
  split
  · rw [trigFire_plots, event]
  · exact event

/-! ## Messages on a ready link (R344) -/

@[simp] theorem Dev.link_setLink_same (d : Dev) (k : Nat) (l : Link) : (d.setLink k l).link k = l :=
  SMap.get_set_same _ _ _ _

@[simp] theorem Dev.link_modLink_same (d : Dev) (k : Nat) (f : Link → Link) : (d.modLink k f).link k = f (d.link k) :=
  SMap.get_set_same _ _ _ _

theorem Dev.link_modLink_ne (d : Dev) {j k : Nat} (h : j ≠ k) (f : Link → Link) : (d.modLink k f).link j = d.link j :=
  SMap.get_set_ne _ _ _ h _

theorem RegsOnly.link {d e : Dev} (h : RegsOnly d e) (k : Nat) : e.link k = d.link k := by
  unfold Dev.link
  rw [h.1]

/-- Freeing units of a received message changes what a link owes and not whether it is ready. -/
theorem Ready.linkFree {d : Dev} {k cls n : Nat} (h : Ready d k cls n) (j c m : Nat) : Ready (linkFree d j c m) k cls n := by
  by_cases hk : k = j
  · subst hk
    simpa [Ready, Machine.linkFree] using h
  · simpa only [Ready, Machine.linkFree, Dev.link_modLink_ne _ hk] using h

theorem Ready.of_link {d e : Dev} {k cls n : Nat} (h : Ready d k cls n) (hl : e.link k = d.link k) : Ready e k cls n := by
  simpa only [Ready, hl] using h

theorem carried_congr {d e : Dev} {k : Nat} (h : e.link k = d.link k) (m : List Byte) : carried e k m = carried d k m := by
  simp only [carried, h]

/-- A message of at most 240 bytes goes in one flit. -/
theorem flitChunks_single (m : List Byte) (hm : m ≠ []) (hl : m.length ≤ 240) : flitChunks m.length m = [m] := by
  obtain ⟨b, t, rfl⟩ := List.exists_cons_of_ne_nil hm
  have rest : ∀ n, flitChunks n [] = [] := by intro n; cases n <;> simp [flitChunks]
  simp only [List.length_cons, flitChunks, List.isEmpty_cons, Bool.false_eq_true, if_false]
  rw [List.take_of_length_le hl, List.drop_of_length_le hl, rest]

/-- The device with other link layers and other messages at its boundary. -/
def Dev.onLinks (d : Dev) (ls : SMap Link) (os : List Out) : Dev := { d with links := ls, outs := os }

theorem Dev.setLink_eq_onLinks (d : Dev) (k : Nat) (l : Link) :
    d.setLink k l = d.onLinks (SMap.set Link.reset d.links k l) d.outs := rfl

theorem Dev.emit_onLinks (d : Dev) (ls : SMap Link) (os : List Out) (o : Out) :
    (d.onLinks ls os).emit o = d.onLinks ls (os ++ [o]) := rfl

theorem Dev.onLinks_onLinks (d : Dev) (ls ms : SMap Link) (os ps : List Out) :
    (d.onLinks ls os).onLinks ms ps = d.onLinks ms ps := rfl

@[simp] theorem Dev.onLinks_outs (d : Dev) (ls : SMap Link) (os : List Out) : (d.onLinks ls os).outs = os := rfl
@[simp] theorem Dev.onLinks_scr (d : Dev) (ls : SMap Link) (os : List Out) : (d.onLinks ls os).scr = d.scr := rfl
@[simp] theorem Dev.onLinks_rg (d : Dev) (ls : SMap Link) (os : List Out) (f : Fld) : (d.onLinks ls os).rg f = d.rg f := rfl

theorem linkFlit_eq (d : Dev) (k : Nat) (m head : List Byte) :
    ∃ ls, linkFlit d k m head = linkEvent (d.onLinks ls (d.outs ++ [carried d k m])) k 0x113 := by
  unfold linkFlit flitOut
  dsimp only
  rw [Dev.setLink_eq_onLinks, Dev.emit_onLinks]
  exact ⟨_, rfl⟩

/-- A ready link sends the message at once, in one flit: but for that flit, its link layers and the count of its event, the
device is as it was. -/
theorem linkSend_ready {d : Dev} {k cls : Nat} {m : List Byte} (h : Ready d k cls (msgUnits m)) (hm : m ≠ []) :
    ∃ (ls : SMap Link) (f : Link → Link),
      linkSend d k cls m = (linkEvent (d.onLinks ls (d.outs ++ [carried d k m])) k 0x113).modLink k f := by
  obtain ⟨up, lost, held, waiting, units, credits, kept⟩ := h
  have len : m.length ≤ 240 := by unfold msgUnits at units; omega
  have room : ¬ 1024 < (d.link k).kept.length + (msgUnits m + 14) / 15 := by omega
  simp only [linkSend, linkPump, lost, up, held, waiting, Dev.link_modLink_same, Dev.link_setLink_same, List.nil_append,
    List.foldl_cons, List.foldl_nil, List.contains_nil, Bool.not_true, Bool.or_self, Bool.false_eq_true,
    if_false, decide_eq_true_eq, Bool.or_eq_true, flitChunks_single m hm len, Nat.not_lt.mpr credits, room, or_self,
    List.length_cons, List.length_nil, Nat.zero_add, List.range_one, List.zip_cons_cons, List.zip_nil_left, if_true]
  generalize hD : Dev.setLink (Dev.setLink _ k _) k _ = paid
  have same : carried paid k m = carried d k m := by rw [← hD]; simp only [carried, Dev.link_setLink_same, Link.ack]
  obtain ⟨ls, sent⟩ := linkFlit_eq paid k m (m.take 32)
  have links : ∃ ps, paid = d.onLinks ps d.outs := by
    rw [← hD]
    simp only [Dev.modLink, Dev.setLink_eq_onLinks, Dev.onLinks_onLinks, Dev.onLinks_outs]
    exact ⟨_, rfl⟩
  obtain ⟨ps, rfl⟩ := links
  refine ⟨ls, _, congrArg (Dev.modLink · k _) ?_⟩
  rw [sent, same, Dev.onLinks_onLinks, Dev.onLinks_outs]

@[simp] theorem Dev.modLink_outs (d : Dev) (k : Nat) (f : Link → Link) : (d.modLink k f).outs = d.outs := rfl
@[simp] theorem Dev.modLink_scr (d : Dev) (k : Nat) (f : Link → Link) : (d.modLink k f).scr = d.scr := rfl
@[simp] theorem Dev.modLink_rg (d : Dev) (k : Nat) (f : Link → Link) (g : Fld) : (d.modLink k f).rg g = d.rg g := rfl

theorem linkSend_outs {d : Dev} {k cls : Nat} {m : List Byte} (h : Ready d k cls (msgUnits m)) (hm : m ≠ []) :
    (linkSend d k cls m).outs = d.outs ++ [carried d k m] := by
  obtain ⟨ls, f, sent⟩ := linkSend_ready h hm
  rw [sent, Dev.modLink_outs, linkEvent, (RegsOnly.blockEvent _ _ _ _ _ _ _).outs, Dev.onLinks_outs]

theorem linkSend_scr {d : Dev} {k cls : Nat} {m : List Byte} (h : Ready d k cls (msgUnits m)) (hm : m ≠ []) :
    (linkSend d k cls m).scr = d.scr := by
  obtain ⟨ls, f, sent⟩ := linkSend_ready h hm
  rw [sent, Dev.modLink_scr, linkEvent, (RegsOnly.blockEvent _ _ _ _ _ _ _).scr, Dev.onLinks_scr]

/-- A ready link changes only the registers that its count of flits may change. -/
theorem linkSend_rg {d : Dev} {k cls : Nat} {m : List Byte} (h : Ready d k cls (msgUnits m)) (hm : m ≠ []) (g : Fld)
    (hr : outsideRecord g.key) (hb : outsideBank (bankOffset (if k = 0 then 4 else 2) (k - 1)) g.key) :
    (linkSend d k cls m).rg g = d.rg g := by
  obtain ⟨ls, f, sent⟩ := linkSend_ready h hm
  rw [sent, Dev.modLink_rg, linkEvent, blockEvent_rg _ _ _ _ _ _ _ _ hr hb, Dev.onLinks_rg]

/-! ## Commands on a live core -/

theorem onDevFused_live {s : State} (h : Live s) (f : Fuses → Dev → Dev) :
    onDevFused s f = .next { s with dev := f s.fused s.dev } := by
  rw [onDevFused, show s.dev.rst.held = false from h, if_neg Bool.false_ne_true]

/-! ## Scratch whose words are sound (R139) -/

theorem popCount_zero (w : Nat) : popCount w 0 = 0 := by simp [popCount, bitOf]

theorem SMap.get_nil {α : Type} (d : α) (k : Nat) : SMap.get d [] k = d := rfl

theorem scrBad_of_scrErr_nil {pl : Plot} (h : pl.scrErr = []) (w : Nat) : scrBad pl w = false := by
  rw [scrBad, h, SMap.get_nil, popCount_zero]
  rfl

theorem scrFirstBad_of_scrErr_nil {pl : Plot} (h : pl.scrErr = []) (a n : Nat) : scrFirstBad pl a n = none := by
  unfold scrFirstBad
  split
  · rfl
  · exact List.find?_eq_none.mpr fun w _ => by simp [scrBad_of_scrErr_nil h]

theorem scrByte_of_scrErr_nil {d : Dev} {p : Nat} (h : (d.plot p).scrErr = []) (a : Nat) :
    scrByte d p a = memGet d.scr (scrBase p + a) := by
  simp only [scrByte, h, SMap.get_nil, popCount_zero, Nat.zero_le, if_true]

theorem localBytes_scratch {d : Dev} {p a : Nat} (h : (d.plot p).scrErr = []) (ha : a < 2 ^ 20) (n : Nat) :
    localBytes d p a n = memRead d.scr (scrBase p + a) n := by
  rw [localBytes, if_pos (show a < 0x100000 from ha), memRead]
  exact List.map_congr_left fun i _ => by rw [scrByte_of_scrErr_nil h, Nat.add_assoc]

/-- A read of sound scratch, every line closed, gives its bytes. -/
theorem scratchRead_closed {d : Dev} {p a n : Nat} (hs : Sound (d.plot p)) (ha : a < 2 ^ 20)
    (hc : ∀ u ∈ linesOf a n, unitState (d.plot p) u = 0) :
    scratchRead d p a n = some (d, 0, memRead d.scr (scrBase p + a) n) := by
  obtain ⟨scrErr, -, -⟩ := hs
  have no : ∀ k, k ≠ 0 → (linesOf a n).any (fun u => unitState (d.plot p) u = k) = false := fun k hk =>
    List.any_eq_false.mpr fun u hu => by simpa [hc u hu] using Ne.symm hk
  simp only [scratchRead, no 1 (by decide), no 2 (by decide), scrFirstBad_of_scrErr_nil scrErr, Bool.false_eq_true, if_false,
    localBytes_scratch scrErr ha]

/-- A write byte by byte, numbered from `s` on, is a write of the run from there. -/
theorem foldl_memSet_zip_range' (bytes : List Byte) (m : List Host.Cell) (base s : Nat) :
    ((List.range' s bytes.length).zip bytes).foldl (fun m e => memSet m (base + e.1) e.2) m = memWrite m (base + s) bytes := by
  induction bytes generalizing m s with
  | nil => rfl
  | cons b t ih =>
    simp only [List.length_cons, List.range'_succ, List.zip_cons_cons, List.foldl_cons, memWrite]
    rw [ih, Nat.add_assoc]

theorem foldl_set_zero_nil (ws : List Nat) : ws.foldl (fun m w => SMap.set 0 m w 0) ([] : SMap Nat) = [] := by
  induction ws with
  | nil => rfl
  | cons w t ih => exact ih

/-- A write of sound scratch writes its bytes and nothing else. -/
theorem scrWrite_sound {d : Dev} {p : Nat} (hs : Sound (d.plot p)) (a : Nat) {bytes : List Byte} (hb : bytes ≠ []) :
    scrWrite d p a bytes =
      (({ d with scr := memWrite d.scr (scrBase p + a) bytes }).setPlot p (d.plot p), 0) := by
  obtain ⟨scrErr, -, disarmed⟩ := hs
  have flip : flipArmed (d.plot p) 0 = false := by simp [flipArmed, disarmed]
  have run := foldl_memSet_zip_range' bytes d.scr (scrBase p + a) 0
  rw [← List.range_eq_range'] at run
  have errs : ({ d.plot p with scrErr := [] } : Plot) = d.plot p := by rw [← scrErr]
  simp only [scrWrite, List.length_eq_zero_iff, hb, if_false, scrBad_of_scrErr_nil scrErr, Bool.and_false, List.filter_false,
    List.contains_nil, Bool.not_false, if_true, Bool.false_eq_true, flip, Bool.false_and, scrErr, foldl_set_zero_nil, errs,
    List.foldl_nil, List.isEmpty_nil, run, Nat.add_zero]

theorem Dev.plot_setPlot_self (d : Dev) (p q : Nat) : (d.setPlot p (d.plot p)).plot q = d.plot q := by
  by_cases h : q = p
  · rw [h, Dev.plot_setPlot_same]
  · rw [Dev.plot_setPlot_ne _ h]

/-! ## Requests that reach their target at once (R32, R37, R38) -/

theorem decodeAddr_scrWindow {n off : Nat} (hn : n < 1024) (ho : off < 2 ^ 20) :
    decodeAddr (scrWindow n + off) = .scratch n off := by
  unfold decodeAddr scrWindow
  rw [if_neg (by omega), if_neg (by omega), if_pos (by omega)]
  congr 1 <;> omega

theorem scrWindow_mod_256 (n off : Nat) : (scrWindow n + off) % 256 = off % 256 := by unfold scrWindow; omega

theorem scrWindow_lt_hostBase {n off : Nat} (hn : n < 1024) (ho : off < 2 ^ 20) : scrWindow n + off < hostBase := by
  unfold scrWindow hostBase; omega

theorem targetHalf_unmapped {d : Dev} {a : Nat} (h : decodeAddr a = .unmapped) : targetHalf d a = none := by
  rw [targetHalf, h]

theorem targetHalf_scratch {d : Dev} {a n off : Nat} (h : decodeAddr a = .scratch n off) :
    targetHalf d a = (d.phys n).map plotHalf := by
  rw [targetHalf, h]

theorem crossing_of_no_half {d : Dev} {r : FabReq} (h : targetHalf d r.addr = none) : crossing d r = none := by
  rw [crossing, h]

theorem crossing_of_same_half {d : Dev} {r : FabReq} (h : targetHalf d r.addr = some (masterHalf d r)) :
    crossing d r = none := by
  rw [crossing, h]
  exact if_pos rfl

/-- A release with nothing held does nothing. -/
theorem heldRelease_nil (f : Fuses) {d : Dev} (h : d.sed.held = []) : heldRelease f d = d := by
  have sed : ({ d.sed with held := [] } : Sed) = d.sed := by rw [← h]
  rw [heldRelease, h, List.foldl_nil, sed]

/-- A request in its half, not for a register, is served at its target when nothing keeps it from there. -/
theorem perform_calm (f : Fuses) {d : Dev} {r : FabReq} (hc : Calm d) (hx : crossing d r = none) (hl : reqLen r ≠ 0)
    (hr : ∀ off, decodeAddr r.addr ≠ .reg off) : perform f d r = atTarget f d r := by
  obtain ⟨held, still, serving, -⟩ := hc
  have here : arrive f d r = deliver f d r := by
    unfold arrive
    split
    · next heq _ => exact absurd heq (hr _)
    · rfl
  have moving : movingNumber d = none := by simp [movingNumber, still]
  rw [perform, heldRelease_nil f held]
  simp only [hx, Option.isSome_none, Bool.false_eq_true, if_false, here, deliver, hl, serving, false_and, moving, held,
    List.any_nil]

/-- A request for an address that names nothing. -/
theorem atTarget_unmapped (f : Fuses) {d : Dev} {r : FabReq} (h : decodeAddr r.addr = .unmapped) :
    atTarget f d r = some (failFab d r 0x0A01) := by
  rw [atTarget, h]

/-- A request for the scratch window of an ABSENT number. -/
theorem atTarget_absent (f : Fuses) {d : Dev} {r : FabReq} {n off : Nat} (h : decodeAddr r.addr = .scratch n off)
    (hp : d.phys n = none) : atTarget f d r = some (failFab d r 0x0A02) := by
  simp only [atTarget, h, hp]

theorem atTarget_scratch (f : Fuses) {d : Dev} {r : FabReq} {n off p : Nat} (hc : Calm d)
    (h : decodeAddr r.addr = .scratch n off) (hp : d.phys n = some p) : atTarget f d r = scratchPerform d p off r := by
  obtain ⟨-, -, -, warm⟩ := hc
  simp only [atTarget, h, hp, inD2, warm, decide_false, Bool.false_eq_true, if_false]

theorem wakePlot_awake {d : Dev} {p : Nat} (h : (d.plot p).sleep = 0) : wakePlot d p = d := if_pos h

theorem lateOther_on_time (d : Dev) {r : FabReq} (h : r.late = false) : lateOther d r = d := by
  simp [lateOther, h]

theorem scratchPerform_read {d : Dev} {p off k : Nat} {r : FabReq} (hl : r.late = false) (hw : (d.plot p).sleep = 0)
    (hs : Sound (d.plot p)) (ho : off < 2 ^ 20) (hop : r.op = .read k)
    (hc : ∀ u ∈ linesOf off k, unitState (d.plot p) u = 0) :
    scratchPerform d p off r = some (fabAnswer d r 0 (memRead d.scr (scrBase p + off) k)) := by
  simp only [scratchPerform, wakePlot_awake hw, lateOther_on_time d hl, hop, scratchRead_closed hs ho hc, Option.map_some]

theorem scratchPerform_write {d : Dev} {p off : Nat} {b : List Byte} {r : FabReq} (hl : r.late = false)
    (hw : (d.plot p).sleep = 0) (hs : Sound (d.plot p)) (hop : r.op = .write b) (hb : b ≠ []) :
    scratchPerform d p off r = some (fabAnswer
      (({ d with scr := memWrite d.scr (scrBase p + off) b }).setPlot p (d.plot p)) r 0 []) := by
  simp only [scratchPerform, wakePlot_awake hw, lateOther_on_time d hl, hop, scratchWrite, scrWrite_sound hs off hb]

/-! ## Requests of plots (R34, R35, R139) -/

theorem exec_fabricRequest (r : FabReq) (s : State) : exec (.fabricRequest r) s = execFabricRequest r s := rfl

theorem fabricRequest_performed {s : State} {r : FabReq} {e : Dev} (h : Live s) (hf : reqFits r = true)
    (hp : perform s.fused s.dev r = some e) : Gives (.fabricRequest r) s e := by
  rw [Gives, exec_fabricRequest, execFabricRequest, onDevFused_live h, if_pos hf, hp, Option.getD_some]

theorem Gives.completes {c : Instr} {s : State} {e : Dev} {P : State → Prop} (h : Gives c s e) (hP : P { s with dev := e }) :
    Completes c s P := ⟨_, h, hP⟩

theorem fabAnswer_plot (d : Dev) {r : FabReq} {q : Nat} (h : r.master = .plot q) (code : Nat) (data : List Byte) :
    fabAnswer d r code data = d.says (.fabReply r code data) := by
  rw [fabAnswer, h]
  rfl

theorem perform_scratch (f : Fuses) {d : Dev} {r : FabReq} {n off p : Nat} (hc : Calm d) (hn : n < 1024) (ho : off < 2 ^ 20)
    (ha : r.addr = scrWindow n + off) (hp : d.phys n = some p) (hh : masterHalf d r = plotHalf p) (hl : reqLen r ≠ 0) :
    perform f d r = scratchPerform d p off r := by
  have target : decodeAddr r.addr = .scratch n off := by rw [ha, decodeAddr_scrWindow hn ho]
  have here : crossing d r = none := crossing_of_same_half (by rw [targetHalf_scratch target, hp, hh]; rfl)
  rw [perform_calm f hc here hl (by simp [target]), atTarget_scratch f hc target hp]

theorem masterHalf_plot (d : Dev) {r : FabReq} {q : Nat} (h : r.master = .plot q) : masterHalf d r = plotHalf q := by
  rw [masterHalf, h]

theorem reqLen_read {r : FabReq} {k : Nat} (h : r.op = .read k) : reqLen r = k := by rw [reqLen, h]

theorem reqLen_write {r : FabReq} {b : List Byte} (h : r.op = .write b) : reqLen r = b.length := by rw [reqLen, h]

/-- A plot's read that fails with a code of the fabric moves no data and carries zeros. -/
theorem fabricRequest_fails {s : State} {r : FabReq} {q k code : Nat} (h : Live s) (hm : r.master = .plot q)
    (hop : r.op = .read k) (hf : reqFits r = true) (hcode : code / 256 = 10)
    (hp : perform s.fused s.dev r = some (failFab s.dev r code)) :
    Completes (.fabricRequest r) s (fun t =>
      t.dev.outs = s.dev.outs ++ [.fabReply r code (zeros k)] ∧ SawClass 10 t.dev ∧ t.dev.scr = s.dev.scr ∧
      t.dev.bed = s.dev.bed ∧ t.dev.gddr = s.dev.gddr ∧ t.dev.plots = s.dev.plots) := by
  have answer : failFab s.dev r code = (recordFab s.dev code).says (.fabReply r code (zeros k)) := by
    rw [failFab, failReq, fabAnswer_plot _ hm, zeroData, hop]
  have recorded := RegsOnly.recordFab s.dev code
  rw [answer] at hp
  refine (fabricRequest_performed h hf hp).completes ⟨?_, ?_, recorded.scr, recorded.bed, recorded.gddr, ?_⟩
  · exact congrArg (· ++ _) recorded.outs
  · exact (recordErr_sawClass s.dev 9 0 hcode (by decide)).of_rg rfl
  · exact recordErr_plots s.dev (by decide) 0 code

/-! ## Non-coherent accesses of the companion (R352 to R354) -/

theorem exec_ncRd (tag addr len now : Nat) (report : List Nat) (s : State) :
    exec (.ncRd tag addr len now report) s = execNcRd tag addr len now report s := rfl

theorem exec_ncWr (addr : Nat) (data : List Byte) (now : Nat) (report : List Nat) (s : State) :
    exec (.ncWr addr data now report) s = execNcWr addr data now report s := rfl

theorem Calm.of_sed_regs {d e : Dev} (h : Calm d) (hs : e.sed = d.sed) (hr : e.regs = d.regs) : Calm e := by
  simpa only [Calm, Dev.rg, hs, hr] using h

theorem ncCode_scrWindow {n off k : Nat} (hn : n < 1024) (ho : off < 2 ^ 20) (hk : off % 256 + k ≤ 256) :
    ncCode (scrWindow n + off) k = 0 := by
  rw [ncCode, if_neg (Nat.not_le.mpr (scrWindow_lt_hostBase hn ho)), if_neg (by rw [scrWindow_mod_256]; omega)]

theorem ncCode_host {a : Nat} (h : hostBase ≤ a) (k : Nat) : ncCode a k = 0x0703 := if_pos h

theorem cplHeader_length (opc units tag len final addr : Nat) : (cplHeader opc units tag len final addr).length = 16 := by
  simp [cplHeader, leBytes_length, zeros_length]

theorem padTo_length {n : Nat} {b : List Byte} (h : b.length ≤ n) : (padTo n b).length = n := by
  simp only [padTo, List.length_append, zeros_length]; omega

theorem memRead_length (m : List Host.Cell) (a n : Nat) : (memRead m a n).length = n := by simp [memRead]

theorem cplHeader_append_ne_nil (opc units tag len final addr : Nat) (m : List Byte) :
    cplHeader opc units tag len final addr ++ m ≠ [] := by simp [cplHeader, leBytes]

theorem plotHalf_west {p : Nat} (h : p < 1024) : plotHalf p = 0 := Nat.div_eq_of_lt h

/-- A non-coherent access as the fabric sees it: of class 3 and without a deadline (R352). -/
def ncReq (tag : Option Nat) (op : FabOp) (addr now : Nat) (report : List Nat) : FabReq :=
  ⟨.companion tag, 3, op, addr, none, false, now, report⟩

/-- A non-coherent access of awake, sound scratch in the west half goes to its plot. -/
theorem perform_ncReq (f : Fuses) {d : Dev} {tag : Option Nat} {op : FabOp} {n off p now : Nat} {report : List Nat}
    (hc : Calm d) (hn : n < 1024) (ho : off < 2 ^ 20) (hp : d.phys n = some p) (hw : p < 1024)
    (hl : reqLen (ncReq tag op (scrWindow n + off) now report) ≠ 0) :
    perform f d (ncReq tag op (scrWindow n + off) now report) =
      scratchPerform d p off (ncReq tag op (scrWindow n + off) now report) :=
  perform_scratch f hc hn ho rfl hp (plotHalf_west hw).symm hl

theorem ncRd_gives {s : State} {tag addr len now : Nat} {report : List Nat} {e : Dev} (h : Live s)
    (hq : s.dev.cpl.ncOut = 0) (hc : ncCode addr len = 0)
    (hp : perform s.fused (linkFree s.dev 0 0 1) (ncReq (some tag) (.read len) addr now report) = some e) :
    Gives (.ncRd tag addr len now report) s e := by
  rw [ncReq] at hp
  simp only [Gives, exec_ncRd, execNcRd, onDevFused_live h, hq, hc, ne_eq, not_true_eq_false, if_false, hp, Option.getD_some]

theorem ncRd_refused {s : State} {tag addr len now code : Nat} {report : List Nat} (h : Live s)
    (hq : s.dev.cpl.ncOut = 0) (hc : ncCode addr len = code) (h0 : code ≠ 0) :
    Gives (.ncRd tag addr len now report) s
      (linkSend (cplErr (linkFree s.dev 0 0 1) code) 0 2 (cplHeader 0x21 1 tag 0 0 code)) := by
  simp only [Gives, exec_ncRd, execNcRd, onDevFused_live h, hq, hc, ne_eq, h0, not_true_eq_false, not_false_eq_true, if_false,
    if_true, failReq, fabAnswer]

/-- The device while a posted write of `n` units is on its way. -/
def posting (d : Dev) (n : Nat) : Dev :=
  { linkFree d 0 0 n with cpl := { (linkFree d 0 0 n).cpl with ncOut := 1 } }

theorem ncWr_gives {s : State} {addr now : Nat} {data : List Byte} {report : List Nat} {e : Dev} (h : Live s)
    (hq : s.dev.cpl.ncOut = 0) (hc : ncCode addr data.length = 0)
    (hp : perform s.fused (posting s.dev (1 + msgUnits data)) (ncReq none (.write data) addr now report) = some e) :
    Gives (.ncWr addr data now report) s e := by
  rw [ncReq, posting] at hp
  simp only [Gives, exec_ncWr, execNcWr, onDevFused_live h, hq, hc, ne_eq, not_true_eq_false, if_false, hp, Option.getD_some]

/-- NC_RD of awake scratch whose lines are closed answers with NC_CPL and the bytes. -/
theorem ncRd_scratch {s : State} {p n off tag k : Nat} (now : Nat) (rep : List Nat) (h : Live s) (hc : Calm s.dev)
    (hq : s.dev.cpl.ncOut = 0) (hp : s.dev.phys n = some p) (hw : p < 1024) (hn : n < 1024) (ho : off < 2 ^ 20)
    (ha : (s.dev.plot p).sleep = 0) (hs : Sound (s.dev.plot p)) (hk : 0 < k) (hb : off % 256 + k ≤ 256)
    (hl : ∀ u ∈ linesOf off k, unitState (s.dev.plot p) u = 0) (hr : Ready s.dev 0 3 (1 + (k + 15) / 16)) :
    Completes (.ncRd tag (scrWindow n + off) k now rep) s (fun t =>
      t.dev.outs = s.dev.outs ++ [carried (linkFree s.dev 0 0 1) 0 (cplHeader 0x20 (1 + (k + 15) / 16) tag k 0 0 ++
        padTo (16 * ((k + 15) / 16)) (memRead s.dev.scr (scrBase p + off) k))] ∧ t.dev.scr = s.dev.scr) := by
  have data := memRead_length s.dev.scr (scrBase p + off) k
  have units : msgUnits (memRead s.dev.scr (scrBase p + off) k) = (k + 15) / 16 := by rw [msgUnits, data]
  generalize hm : cplHeader 0x20 (1 + (k + 15) / 16) tag k 0 0 ++
    padTo (16 * ((k + 15) / 16)) (memRead s.dev.scr (scrBase p + off) k) = m
  have sent : msgUnits m = 1 + (k + 15) / 16 := by
    rw [msgUnits, ← hm, List.length_append, cplHeader_length, padTo_length (by rw [data]; omega)]; omega
  have ready : Ready (linkFree s.dev 0 0 1) 0 3 (msgUnits m) := by rw [sent]; exact hr.linkFree 0 0 1
  have filled : m ≠ [] := hm ▸ cplHeader_append_ne_nil _ _ _ _ _ _ _
  have len : reqLen (ncReq (some tag) (.read k) (scrWindow n + off) now rep) ≠ 0 := hk.ne'
  have calm : Calm (linkFree s.dev 0 0 1) := hc.of_sed_regs rfl rfl
  have performed : perform s.fused (linkFree s.dev 0 0 1) (ncReq (some tag) (.read k) (scrWindow n + off) now rep) =
      some (linkSend (linkFree s.dev 0 0 1) 0 3 m) := by
    rw [perform_ncReq s.fused calm hn ho hp hw len,
      scratchPerform_read (d := linkFree s.dev 0 0 1) rfl ha hs ho rfl hl]
    simp only [fabAnswer, ncReq, if_true, linkFree, Dev.modLink_scr, units, data, hm]
  exact (ncRd_gives h hq (ncCode_scrWindow hn ho hb) performed).completes
    ⟨linkSend_outs ready filled, linkSend_scr ready filled⟩

/-- NC_WR of awake scratch writes its bytes; a posted write has no answer. -/
theorem ncWr_scratch {s : State} {p n off : Nat} {b : List Byte} (now : Nat) (rep : List Nat) (h : Live s) (hc : Calm s.dev)
    (hq : s.dev.cpl.ncOut = 0) (hp : s.dev.phys n = some p) (hw : p < 1024) (hn : n < 1024) (ho : off < 2 ^ 20)
    (ha : (s.dev.plot p).sleep = 0) (hs : Sound (s.dev.plot p)) (hb : b ≠ []) (hl : off % 256 + b.length ≤ 256) :
    Completes (.ncWr (scrWindow n + off) b now rep) s (fun t =>
      memRead t.dev.scr (scrBase p + off) b.length = b ∧
      (∀ a, a < scrBase p + off ∨ scrBase p + off + b.length ≤ a → memGet t.dev.scr a = memGet s.dev.scr a) ∧
      t.dev.outs = s.dev.outs ∧ t.dev.cpl = s.dev.cpl ∧ t.dev.regs = s.dev.regs) := by
  have calm : Calm (posting s.dev (1 + msgUnits b)) := hc.of_sed_regs rfl rfl
  have len : reqLen (ncReq none (.write b) (scrWindow n + off) now rep) ≠ 0 := mt List.length_eq_zero_iff.mp hb
  have performed := (perform_ncReq s.fused calm hn ho hp hw len).trans
    (scratchPerform_write (d := posting s.dev (1 + msgUnits b)) rfl ha hs rfl hb)
  have settled : ({ s.dev.cpl with ncOut := 1 - 1 } : Companion) = s.dev.cpl := by rw [Nat.sub_self, ← hq]
  exact (ncWr_gives h hq (ncCode_scrWindow hn ho hl) performed).completes
    ⟨memRead_memWrite b s.dev.scr _, fun a out => memGet_memWrite_out b s.dev.scr _ a out, rfl, settled, rfl⟩

/-- A code of the companion link shows in CPL_ERR. -/
theorem cplErr_seen (d : Dev) {code : Nat} (hi : code - 0x0701 < fCPL_ERR_CODE_SEEN.w) :
    bitOf ((cplErr d code).rg fCPL_ERR_CODE_SEEN) (code - 0x0701) = true := by
  rw [cplErr, recordErr_rg, Dev.rg_rs_same, bitOf_mod_two_pow hi, bitOf_withBit_same]
  · simp [outsideRecord, Fld.key, fCPL_ERR_CODE_SEEN]
  · intro b
    simp only [outsideBank, bankOffset, Fld.key, fCPL_ERR_CODE_SEEN]
    split_ifs <;> omega

/-- NC_RD of companion memory is refused with NC_CPL_ERR. -/
theorem ncRd_host {s : State} {tag a k : Nat} (now : Nat) (rep : List Nat) (h : Live s) (hq : s.dev.cpl.ncOut = 0)
    (ha : hostBase ≤ a) (hr : Ready s.dev 0 2 1) :
    Completes (.ncRd tag a k now rep) s (fun t =>
      t.dev.outs = s.dev.outs ++ [carried (linkFree s.dev 0 0 1) 0 (cplHeader 0x21 1 tag 0 0 0x0703)] ∧
      bitOf (t.dev.rg fCPL_ERR_CODE_SEEN) 2 = true) := by
  have recorded : RegsOnly (linkFree s.dev 0 0 1) (cplErr (linkFree s.dev 0 0 1) 0x0703) :=
    (RegsOnly.rs _ _ _).trans (RegsOnly.recordErr _ _ _ _)
  have sent : msgUnits (cplHeader 0x21 1 tag 0 0 0x0703) = 1 := by rw [msgUnits, cplHeader_length]
  have ready : Ready (cplErr (linkFree s.dev 0 0 1) 0x0703) 0 2 (msgUnits (cplHeader 0x21 1 tag 0 0 0x0703)) := by
    rw [sent]; exact (hr.linkFree 0 0 1).of_link (recorded.link 0)
  have filled : cplHeader 0x21 1 tag 0 0 0x0703 ≠ [] := by simp [cplHeader, leBytes]
  have kept := linkSend_rg ready filled fCPL_ERR_CODE_SEEN (by simp [outsideRecord, Fld.key, fCPL_ERR_CODE_SEEN])
    (by simp [outsideBank, bankOffset, Fld.key, fCPL_ERR_CODE_SEEN])
  refine (ncRd_refused h hq (ncCode_host ha k) (by decide)).completes ⟨?_, ?_⟩
  · refine (linkSend_outs ready filled).trans ?_
    rw [recorded.outs, carried_congr (recorded.link 0)]
    rfl
  · exact (congrArg (bitOf · 2) kept).trans (cplErr_seen (linkFree s.dev 0 0 1) (code := 0x0703) (by decide))

/-! ## Register writes of the companion (R12, R14) -/

theorem exec_regWrite (off size data : Nat) (s : State) : exec (.regWrite off size data) s = execRegWrite off size data s := rfl

theorem leValue_leBytes (n v : Nat) : leValue (leBytes n v) = v % 256 ^ n := by
  induction n generalizing v with
  | zero => simp [leBytes, leValue, Nat.mod_one]
  | succ n ih =>
    simp only [leBytes, leValue, ih, BitVec.toNat_ofNat]
    rw [pow_succ' 256 n, Nat.mod_mul]

/-- CPL_NOTIFY is a register outside the plot windows. -/
theorem regPlace_notify (d : Dev) : regPlace d 0x600068 = .dev 0x600068 := by
  have mapped : devMapped 0x600068 = true := by decide +kernel
  simp [regPlace, mapped]

theorem isResetCmd_notify (n : Nat) : isResetCmd 0x600068 n = false := rfl

theorem regWrite_calm {s : State} (h : Live s) (hc : Calm s.dev) (off size data : Nat) :
    Gives (.regWrite off size data) s (regWrite s.fused s.dev false off (leBytes size data)).1 := by
  obtain ⟨-, -, serving, -⟩ := hc
  simp only [Gives, exec_regWrite, execRegWrite, onDevFused_live h, serving, false_and, if_false]

/-- The fields of CPL_NOTIFY. -/
theorem fieldsAt_notify : fieldsAt flds_ch11 0x600068 =
    [fCPL_NOTIFY_GAP, fCPL_NOTIFY_MBX_VEC, fCPL_NOTIFY_EVT_VEC, fCPL_NOTIFY_OUT_VEC] := by decide +kernel

/-- CPL_NOTIFY has no rule of its own: a write stores its fields. -/
theorem devRegWrite_notify (f : Fuses) (d : Dev) (shed : Bool) (v : Nat) :
    devRegWrite f d shed 0x600068 v = { d with regs := genWrite d.regs flds_ch11 0x600068 v } := by
  have bank : bankAt 0x600068 = none := by decide +kernel
  have base : fCPL_RING_CFG_BASE.idx 0x600068 = none := by decide +kernel
  have index : fCPL_RING_DB_INDEX.idx 0x600068 = none := by decide +kernel
  simp [devRegWrite, cplRegWrite, bank, base, index]

theorem genWrite_notify (m : SMap Nat) (v : Nat) : genWrite m flds_ch11 0x600068 v =
    rset (rset (rset (rset m fCPL_NOTIFY_GAP (bitsOf v 48 16)) fCPL_NOTIFY_MBX_VEC (bitsOf v 32 16))
      fCPL_NOTIFY_EVT_VEC (bitsOf v 16 16)) fCPL_NOTIFY_OUT_VEC (bitsOf v 0 16) := by
  rw [genWrite, fieldsAt_notify]
  rfl

theorem regWrite_notify (f : Fuses) (d : Dev) {v : Nat} (hv : v < 2 ^ 64) :
    (regWrite f d false 0x600068 (leBytes 8 v)).1 =
      (((d.rs fCPL_NOTIFY_GAP (bitsOf v 48 16)).rs fCPL_NOTIFY_MBX_VEC (bitsOf v 32 16)).rs
        fCPL_NOTIFY_EVT_VEC (bitsOf v 16 16)).rs fCPL_NOTIFY_OUT_VEC (bitsOf v 0 16) := by
  have value : leValue (leBytes 8 v) = v := by rw [leValue_leBytes]; exact Nat.mod_eq_of_lt hv
  have width : regWidthOk (.dev 0x600068) 0x600068 8 = true := rfl
  simp only [regWrite, isResetCmd_notify, Bool.false_eq_true, if_false, regSpaceWrite, regPlace_notify, leBytes_length, width,
    Bool.not_true, value, devRegWrite_notify, genWrite_notify]
  rfl

/-- A write of CPL_NOTIFY stores its four fields and nothing else. -/
theorem regWrite_notify_stores {s : State} {gap mbx evt out : Nat} (h : Live s) (hc : Calm s.dev) (hg : gap < 2 ^ 16)
    (hm : mbx < 2 ^ 16) (he : evt < 2 ^ 16) (ho : out < 2 ^ 16) :
    Completes (.regWrite 0x600068 8 (gap * 2 ^ 48 + mbx * 2 ^ 32 + evt * 2 ^ 16 + out)) s (fun t =>
      OnlyRegs [fCPL_NOTIFY_GAP, fCPL_NOTIFY_MBX_VEC, fCPL_NOTIFY_EVT_VEC, fCPL_NOTIFY_OUT_VEC] s.dev t.dev ∧
      t.dev.rg fCPL_NOTIFY_GAP = gap ∧ t.dev.rg fCPL_NOTIFY_MBX_VEC = mbx ∧ t.dev.rg fCPL_NOTIFY_EVT_VEC = evt ∧
      t.dev.rg fCPL_NOTIFY_OUT_VEC = out) := by
  generalize hv : gap * 2 ^ 48 + mbx * 2 ^ 32 + evt * 2 ^ 16 + out = v
  have fits : v < 2 ^ 64 := by omega
  have gapBits : bitsOf v 48 16 = gap := by unfold bitsOf; omega
  have mbxBits : bitsOf v 32 16 = mbx := by unfold bitsOf; omega
  have evtBits : bitsOf v 16 16 = evt := by unfold bitsOf; omega
  have outBits : bitsOf v 0 16 = out := by unfold bitsOf; omega
  have stored := regWrite_notify s.fused s.dev fits
  rw [gapBits, mbxBits, evtBits, outBits] at stored
  refine (stored ▸ regWrite_calm h hc 0x600068 8 v).completes ⟨⟨rfl, fun g hk => ?_⟩, ?_, ?_, ?_, ?_⟩
  · simp only [List.map_cons, List.map_nil, List.mem_cons, List.not_mem_nil, or_false, not_or] at hk
    obtain ⟨kGap, kMbx, kEvt, kOut⟩ := hk
    simp only [Dev.rg_rs_ne _ kOut, Dev.rg_rs_ne _ kEvt, Dev.rg_rs_ne _ kMbx, Dev.rg_rs_ne _ kGap]
  · rw [Dev.rg_rs_ne _ (by decide), Dev.rg_rs_ne _ (by decide), Dev.rg_rs_ne _ (by decide), Dev.rg_rs_same]
    exact Nat.mod_eq_of_lt hg
  · rw [Dev.rg_rs_ne _ (by decide), Dev.rg_rs_ne _ (by decide), Dev.rg_rs_same]
    exact Nat.mod_eq_of_lt hm
  · rw [Dev.rg_rs_ne _ (by decide), Dev.rg_rs_same]
    exact Nat.mod_eq_of_lt he
  · rw [Dev.rg_rs_same]
    exact Nat.mod_eq_of_lt ho

/-- A write of CPL_NOTIFY that is not of 8 bytes only records 0x0A03 (R14). -/
theorem regWrite_notify_width (f : Fuses) (d : Dev) {size : Nat} (hs : size ≠ 8) (v : Nat) :
    (regWrite f d false 0x600068 (leBytes size v)).1 = recordFab d 0x0A03 := by
  have width : regWidthOk (.dev 0x600068) 0x600068 size = false := by simp [regWidthOk, hs]
  simp only [regWrite, isResetCmd_notify, Bool.false_eq_true, if_false, regSpaceWrite, regPlace_notify, leBytes_length, width,
    Bool.not_false, if_true]

/-- Recording a code of the fabric leaves the fields of CPL_NOTIFY alone. -/
theorem recordFab_rg_notify (d : Dev) (code : Nat) :
    ∀ g ∈ [fCPL_NOTIFY_GAP, fCPL_NOTIFY_MBX_VEC, fCPL_NOTIFY_EVT_VEC, fCPL_NOTIFY_OUT_VEC],
      (recordFab d code).rg g = d.rg g := by
  intro g hg
  have off : g.off = 0x600068 ∧ g.lo < 64 := by
    simp only [List.mem_cons, List.not_mem_nil, or_false] at hg
    rcases hg with rfl | rfl | rfl | rfl <;> decide
  obtain ⟨off, lo⟩ := off
  refine recordErr_rg d 9 0 code g ?_ fun b => ?_
  · simp only [outsideRecord, Fld.key, off]; omega
  · simp only [outsideBank, bankOffset, Fld.key, off]
    split_ifs <;> omega

/-! ## AON_RESET (R431) -/

theorem exec_aonReset (data : Nat) (s : State) : exec (.aonReset data) s = execAonReset data s := rfl

/-- RESET with no reset asserted is an orderly reset. -/
theorem aonReset_gives {s : State} (h : Live s) : Gives (.aonReset 1) s (orderlyReset s.fused s.dev) := by
  have command : bitsOf 1 0 2 = 1 := rfl
  rw [Gives, exec_aonReset, execAonReset, onAon, resetCmd, if_pos command, show s.dev.rst.held = false from h,
    if_neg Bool.false_ne_true]

/-- An orderly reset ends in a Core reset of what it has drained, with its cause. -/
theorem orderlyReset_eq (f : Fuses) (d : Dev) :
    ∃ e, orderlyReset f d = (coreReset e).rs fAON_RESET_CAUSE_COMPANION 1 := ⟨_, rfl⟩

/-- Settles O29: each request reaches its target in its own half at once, and each target's lemma says what it does. -/
theorem fabricTargets : Obligations.FabricTargets := by
  intro s live calm
  refine ⟨?_, ?_, ?_, fun tag a k now rep hq ha hr => ncRd_host now rep live hq ha hr,
    fun gap mbx evt out hg hm he ho => regWrite_notify_stores live calm hg hm he ho, fun v size hs => ?_, ?_⟩
  · intro r p q n off hm half late hp hn ho ha awake sound fits
    have scratch := perform_scratch s.fused calm hn ho ha hp ((masterHalf_plot _ hm).trans half)
    constructor
    · intro k hop hk closed
      have read := (scratch ((reqLen_read hop).trans_ne hk.ne')).trans (scratchPerform_read late awake sound ho hop closed)
      rw [fabAnswer_plot _ hm] at read
      exact fabricRequest_performed live fits read
    · intro b hop hb
      have len : reqLen r ≠ 0 := (reqLen_write hop).trans_ne (mt List.length_eq_zero_iff.mp hb)
      have written := (scratch len).trans (scratchPerform_write late awake sound hop hb)
      rw [fabAnswer_plot _ hm] at written
      exact (fabricRequest_performed live fits written).completes
        ⟨memRead_memWrite b s.dev.scr _, fun a out => memGet_memWrite_out b s.dev.scr _ a out, rfl,
          fun x => Dev.plot_setPlot_self s.dev p x, rfl, rfl, rfl⟩
  · intro r q k hm hop hk fits
    have len : reqLen r ≠ 0 := (reqLen_read hop).trans_ne hk.ne'
    constructor
    · intro unmapped
      refine fabricRequest_fails live hm hop fits rfl ?_
      rw [perform_calm s.fused calm (crossing_of_no_half (targetHalf_unmapped unmapped)) len (by simp [unmapped]),
        atTarget_unmapped s.fused unmapped]
    · intro n off scratch absent
      have noHalf : targetHalf s.dev r.addr = none := by rw [targetHalf_scratch scratch, absent]; rfl
      refine fabricRequest_fails live hm hop fits rfl ?_
      rw [perform_calm s.fused calm (crossing_of_no_half noHalf) len (by simp [scratch]),
        atTarget_absent s.fused scratch absent]
  · intro p n off hq hp hw hn ho awake sound
    exact ⟨fun tag k now rep hk hb _ closed ready =>
      ncRd_scratch now rep live calm hq hp hw hn ho awake sound hk hb closed ready,
      fun b now rep hb hl => ncWr_scratch now rep live calm hq hp hw hn ho awake sound hb hl⟩
  · exact (regWrite_notify_width s.fused s.dev hs v ▸ regWrite_calm live calm 0x600068 size v).completes
      ⟨recordErr_sawClass s.dev 9 0 rfl (by decide), recordFab_rg_notify s.dev 0x0A03⟩
  · obtain ⟨e, reset⟩ := orderlyReset_eq s.fused s.dev
    exact (reset ▸ aonReset_gives live).completes
      ⟨rfl, Dev.rg_rs_same _ _ _, rfl, rfl, rfl, rfl, rfl, rfl, rfl, rfl⟩

end Sys2Proof.Machine
end

section
/-! PROOFS. What a move of a plot's number leaves alone, with the layer that it needs: pending interrupts, and the relations
of devices that differ in plots and beds alone, and in all but the engine's registers. -/

namespace Sys2Proof.Machine

/-! ## Commands on a live core -/

theorem onDev_live {s : State} (h : Live s) (f : Dev → Dev) : onDev s f = .next { s with dev := f s.dev } := by
  rw [onDev, show s.dev.rst.held = false from h, if_neg Bool.false_ne_true]

theorem Dev.rg_count_same (d : Dev) (f : Fld) (k : Nat) : (d.count f k).rg f = satAdd (2 ^ f.w - 1) (d.rg f) k % 2 ^ f.w :=
  Dev.rg_rs_same _ _ _

theorem Dev.rg_count_ne (d : Dev) {f g : Fld} (h : g.key ≠ f.key) (k : Nat) : (d.count f k).rg g = d.rg g :=
  Dev.rg_rs_ne _ h _

/-! ## Pending interrupts (R514) -/

theorem Raised.of_rg {n : Nat} {d e : Dev} (h : Raised n d)
    (hr : e.rg (fICU_PEND_PEND.at (n / 64)) = d.rg (fICU_PEND_PEND.at (n / 64))) : Raised n e := by
  unfold Raised
  rw [hr]
  exact h

theorem Raised.rs {n : Nat} {d : Dev} (h : Raised n d) (f : Fld) (v : Nat) (hf : (fICU_PEND_PEND.at (n / 64)).key ≠ f.key) :
    Raised n (d.rs f v) := h.of_rg (Dev.rg_rs_ne d hf v)

theorem Raised.ite {n : Nat} {d e : Dev} (c : Prop) [Decidable c] (h : Raised n d) (k : Raised n e) :
    Raised n (if c then d else e) := by split <;> assumption

theorem raiseEdge_raised (d : Dev) (n : Nat) : Raised n (raiseEdge d n) := by
  unfold Raised raiseEdge
  rw [Dev.rg_rs_same, bitOf_mod_two_pow (show n % 64 < (fICU_PEND_PEND.at (n / 64)).w from Nat.mod_lt _ (by decide)),
    bitOf_withBit_same]

/-- A source that is pending stays pending when another is raised. -/
theorem Raised.raiseEdge {n : Nat} {d : Dev} (h : Raised n d) (m : Nat) : Raised n (raiseEdge d m) := by
  by_cases hw : m / 64 = n / 64
  · unfold Raised Machine.raiseEdge
    rw [hw, Dev.rg_rs_same, bitOf_mod_two_pow (show n % 64 < (fICU_PEND_PEND.at (n / 64)).w from Nat.mod_lt _ (by decide))]
    exact bitOf_withBit_of_bitOf h _
  · refine h.rs _ _ ?_
    simp only [Fld.at, Fld.key, fICU_PEND_PEND]
    omega

theorem key_pend_ne_errEntry {f : Fld} {n : Nat} (hn : n < 512) (i : Nat) (ho : 0xb01000 ≤ f.off) :
    (fICU_PEND_PEND.at (n / 64)).key ≠ (f.at i).key := by
  simp only [Fld.at, Fld.key, fICU_PEND_PEND]
  have : 0xb01000 ≤ f.off + i * f.s1 := Nat.le_add_right_of_le ho
  omega

theorem key_pend_ne {f : Fld} {n : Nat} (hn : n < 512) (ho : f.off < 0x341000 ∨ 0x341040 ≤ f.off) (hl : f.lo < 64) :
    (fICU_PEND_PEND.at (n / 64)).key ≠ f.key := by
  simp only [Fld.at, Fld.key, fICU_PEND_PEND]
  omega

theorem Raised.recordPut {n : Nat} {d : Dev} (h : Raised n d) (hn : n < 512) (k i c : Nat) :
    Raised n (recordPut d k i c).1 := by
  have seen := h.rs fERR_CLASS_SEEN_SEEN (withBit (d.rg fERR_CLASS_SEEN_SEEN) (c / 256 - 1))
    (key_pend_ne hn (by decide) (by decide))
  have entry : ∀ {e : Dev} (f : Fld) (j v : Nat), 0xb01000 ≤ f.off → Raised n e → Raised n (e.rs (f.at j) v) :=
    fun f j v ho he => he.rs _ v (key_pend_ne_errEntry hn j ho)
  unfold Machine.recordPut
  dsimp only
  split
  · exact entry fERR_ENTRY_REPEAT _ _ (by decide) seen
  · split
    · exact Raised.rs (entry fERR_ENTRY_SEQ _ _ (by decide) (entry fERR_ENTRY_REPEAT _ _ (by decide)
        (entry fERR_ENTRY_INSTANCE _ _ (by decide) (entry fERR_ENTRY_KIND _ _ (by decide)
        (entry fERR_ENTRY_CODE _ _ (by decide) seen))))) _ _ (key_pend_ne hn (by decide) (by decide))
    · exact Raised.rs seen fERR_STATUS_LOST _ (key_pend_ne hn (by decide) (by decide))

theorem Raised.pmrStart {n : Nat} {d : Dev} (h : Raised n d) (hn : n < 512) : Raised n (pmrStart d) := by
  have latched : Raised n { d with snap := snapshot d } := h.of_rg (by simp only [Dev.rg])
  unfold Machine.pmrStart
  exact Raised.ite _ (h.recordPut hn _ _ _) (latched.rs _ _ (key_pend_ne hn (by decide) (by decide)))

theorem Raised.trigFire {n : Nat} {d : Dev} (h : Raised n d) (hn : n < 512) : Raised n (trigFire d) := by
  have pin : ∀ a : Dev, Raised n a →
      Raised n (if a.rg fDBG_TRIG_ACT_PIN = 1 then { a with tray := { a.tray with trigOut := true } } else a) :=
    fun a ha => Raised.ite _ ha ha
  have irq : ∀ a : Dev, Raised n a → Raised n (if a.rg fDBG_TRIG_ACT_IRQ = 1 then Machine.raiseEdge a 10 else a) :=
    fun a ha => Raised.ite _ (ha.raiseEdge _) ha
  have snap : ∀ a : Dev, Raised n a → Raised n (if a.rg fDBG_TRIG_ACT_SNAP = 1 then Machine.pmrStart a else a) :=
    fun a ha => Raised.ite _ (ha.pmrStart hn) ha
  unfold Machine.trigFire
  exact Raised.ite _ h (snap _ (irq _ (pin _ (h.rs fDBG_TRIG_ARM 0 (key_pend_ne hn (by decide) (by decide))))))

theorem codeEvent_sed (d : Dev) (p : Nat) : codeEvent d 12 p = d := rfl

/-- Recording a code of the silent-error defence leaves what is pending. -/
theorem Raised.sedErr {n : Nat} {d : Dev} (h : Raised n d) (hn : n < 512) (p c : Nat) : Raised n (sedErr d p c) := by
  have put := h.recordPut hn 12 p c
  unfold Machine.sedErr recordErr
  dsimp only
  rw [codeEvent_sed]
  exact Raised.ite _ (put.trigFire hn) put

theorem sedErr_sawClass (d : Dev) (p : Nat) {c : Nat} (hc : c / 256 = 16) : SawClass 16 (sedErr d p c) :=
  recordErr_sawClass d 12 p hc (by decide)

/-! ## What a move leaves alone (R38, R485, R486) -/

/-- The keys of the fields of SED_MOVE and SED_CNT, but for those at bit 0: GO, which holds nothing, and the count of tallies. -/
def MoveReg (k : Nat) : Prop := (k / 64 = 0x390008 ∨ k / 64 = 0x390020) ∧ k % 64 ≠ 0

theorem moveReg_fields : ∀ f ∈ [fSED_MOVE_STATE, fSED_MOVE_MODE, fSED_MOVE_LOGICAL, fSED_MOVE_SPARE, fSED_MOVE_RESULT,
    fSED_MOVE_CODE, fSED_MOVE_VERDICT, fSED_CNT_MOVES], MoveReg f.key := by unfold MoveReg; decide

theorem MoveReg.ne {k : Nat} (h : MoveReg k) {f : Fld} (hf : ¬ MoveReg f.key) : k ≠ f.key := fun e => hf (e ▸ h)

/-- A field at bit 0, at whichever index, is none of these. -/
theorem not_moveReg_at {f : Fld} (hl : f.lo = 0) (i : Nat) : ¬ MoveReg (f.at i).key := by
  simp only [MoveReg, Fld.at, Fld.key, hl]
  omega

theorem MoveReg.outsideRecord {k : Nat} (h : MoveReg k) : outsideRecord k := by
  unfold MoveReg at h
  unfold Machine.outsideRecord
  omega

theorem MoveReg.outsideBank {k : Nat} (h : MoveReg k) (b i : Nat) : outsideBank (bankOffset b i) k := by
  unfold MoveReg at h
  unfold Machine.outsideBank bankOffset
  split_ifs <;> omega

/-- The two devices differ at most in plots, beds, the pin and the snapshot, and in registers other than the engine's. -/
structure BedSide (o d : Dev) : Prop where
  only : d = { o with regs := d.regs, plots := d.plots, bed := d.bed, tray := d.tray, snap := d.snap }
  regs : ∀ g : Fld, MoveReg g.key → d.rg g = o.rg g

theorem BedSide.refl (o : Dev) : BedSide o o := ⟨rfl, fun _ _ => rfl⟩

theorem BedSide.scr {o d : Dev} (h : BedSide o d) : d.scr = o.scr := by rw [h.only]

theorem BedSide.regsOnly {o d e : Dev} (h : BedSide o d) (k : RegsOnly d e) (hr : ∀ g : Fld, MoveReg g.key → e.rg g = d.rg g) :
    BedSide o e := by
  refine ⟨?_, fun g hg => (hr g hg).trans (h.regs g hg)⟩
  rw [k.1, h.only]

theorem BedSide.rs {o d : Dev} (h : BedSide o d) (f : Fld) (v : Nat) (hf : ¬ MoveReg f.key) : BedSide o (d.rs f v) :=
  h.regsOnly (RegsOnly.rs d f v) fun _ hg => Dev.rg_rs_ne d (hg.ne hf) v

theorem BedSide.setPlot {o d : Dev} (h : BedSide o d) (p : Nat) (pl : Plot) : BedSide o (d.setPlot p pl) :=
  ⟨by rw [h.only]; rfl, h.regs⟩

theorem BedSide.modPlot {o d : Dev} (h : BedSide o d) (p : Nat) (f : Plot → Plot) : BedSide o (d.modPlot p f) := h.setPlot _ _

theorem BedSide.bed {o d : Dev} (h : BedSide o d) (m : List Host.Cell) : BedSide o { d with bed := m } :=
  ⟨by rw [h.only], h.regs⟩

theorem BedSide.ite {o d e : Dev} (c : Prop) [Decidable c] (h : BedSide o d) (k : BedSide o e) :
    BedSide o (if c then d else e) := by split <;> assumption

theorem BedSide.foldl {o : Dev} {α β : Type} (g : β → Dev) (f : β → α → β) (hf : ∀ b a, BedSide o (g b) → BedSide o (g (f b a)))
    (l : List α) (b : β) (h : BedSide o (g b)) : BedSide o (g (l.foldl f b)) := by
  induction l generalizing b with
  | nil => exact h
  | cons a t ih => exact ih _ (hf _ _ h)

theorem BedSide.recordErr {o d : Dev} (h : BedSide o d) (k i c : Nat) : BedSide o (recordErr d k i c) :=
  h.regsOnly (RegsOnly.recordErr d k i c) fun g hg => recordErr_rg d k i c g hg.outsideRecord fun _ => hg.outsideBank _ _

theorem BedSide.plotEvent {o d : Dev} (h : BedSide o d) (p ev n : Nat) (cls addr : Option Nat) :
    BedSide o (plotEvent d p ev n cls addr) :=
  h.regsOnly (RegsOnly.plotEvent d p ev n cls addr) fun g hg => plotEvent_rg d p ev n cls addr g hg.outsideRecord

theorem BedSide.recordPlot {o d : Dev} (h : BedSide o d) (p c : Nat) : BedSide o (recordPlot d p c) := h.recordErr _ _ _

theorem BedSide.sedErr {o d : Dev} (h : BedSide o d) (p c : Nat) : BedSide o (sedErr d p c) := h.recordErr _ _ _

theorem BedSide.plotIrq {o d : Dev} (h : BedSide o d) (p i : Nat) : BedSide o (plotIrq d p i) :=
  BedSide.ite _ (h.modPlot _ _) h

theorem BedSide.rowError {o d : Dev} (h : BedSide o d) (p ch bank row : Nat) (full : Bool) :
    BedSide o (rowError d p ch bank row full) := by
  unfold Machine.rowError
  dsimp only
  have counted (pl : Plot) : BedSide o (d.setPlot p pl) := h.setPlot _ _
  exact BedSide.ite _ (BedSide.ite _ (BedSide.ite _ (counted _) ((counted _).modPlot _ _))
    (((counted _).recordPlot _ _).plotIrq _ _)) (counted _)

theorem BedSide.bedEncode {o d : Dev} (h : BedSide o d) (p col : Nat) : BedSide o (bedReadCol.bedEncode d p col) := by
  unfold bedReadCol.bedEncode
  exact h.modPlot _ _

theorem BedSide.bedReadCol {o d : Dev} (h : BedSide o d) (p col : Nat) (scrub : Bool) :
    BedSide o (bedReadCol d p col scrub).1 := by
  unfold Machine.bedReadCol
  dsimp only
  split
  · exact h
  · have counted := ((h.modPlot p fun pl => pl.count (fBED_CH_ECC_CORRECTED.at (col / 2 ^ 19)) 1).plotEvent p 0x201 1 none
      none).rowError p (col / 2 ^ 19) (col / 2 ^ 16 % 8) (col / 2 ^ 6 % 1024) false
    generalize Machine.rowError _ p _ _ _ false = e at counted ⊢
    split
    · exact (counted.bed _).bedEncode _ _
    · exact counted
  · exact (((h.setPlot _ _).recordPlot _ _).plotIrq _ _).rowError _ _ _ _ _

theorem BedSide.bedWriteCol {o d : Dev} (h : BedSide o d) (p col at_ : Nat) (bytes : List Byte) :
    BedSide o (bedWriteCol d p col at_ bytes).1 := by
  unfold Machine.bedWriteCol
  dsimp only
  split
  · exact (h.bed _).bedEncode _ _
  · have read := h.bedReadCol p col false
    split
    · exact read.recordPlot _ _
    · exact (read.bed _).bedEncode _ _

theorem BedSide.bedWrite {o d : Dev} (h : BedSide o d) (p off : Nat) (bytes : List Byte) : BedSide o (bedWrite d p off bytes).1 := by
  unfold Machine.bedWrite
  dsimp only
  refine BedSide.foldl (fun s : Dev × Nat => s.1) _ ?_ _ (d, 0) h
  exact fun b a hb => hb.bedWriteCol _ _ _ _

theorem BedSide.encodeFirst {o d : Dev} (h : BedSide o d) (p : Nat) :
    BedSide o ((List.range 4).foldl (fun d ch => bedReadCol.bedEncode d p (ch * 2 ^ 19)) d) :=
  BedSide.foldl id _ (fun _ _ hb => hb.bedEncode _ _) _ d h

theorem not_moveReg_uncorr : ¬ MoveReg fSED_MOVE_STATUS_UNCORR.key := by unfold MoveReg; decide

theorem BedSide.bedCopy {o d : Dev} (h : BedSide o d) (p s : Nat) : BedSide o (bedCopy d p s) := by
  unfold Machine.bedCopy
  dsimp only
  refine BedSide.foldl id _ (fun b e hb => ?_) _ _ (((h.bed _).modPlot _ _).encodeFirst s)
  simp only [id] at hb ⊢
  split
  · exact ((hb.modPlot _ _).rs _ _ not_moveReg_uncorr).sedErr _ _
  · exact (hb.bedReadCol p e.1 false).bed _

/-- The engine's registers, the numbering, the spare pools, the requests held and the judgements that wait are those of `o`. -/
structure MoveKept (o d : Dev) : Prop where
  regs : ∀ g : Fld, MoveReg g.key → d.rg g = o.rg g
  numbering : d.numbering = o.numbering
  spares : d.spares = o.spares
  held : d.sed.held = o.sed.held
  judged : d.sed.judged = o.sed.judged

theorem MoveKept.refl (o : Dev) : MoveKept o o := ⟨fun _ _ => rfl, rfl, rfl, rfl, rfl⟩

theorem MoveKept.next {o d e : Dev} (h : MoveKept o d) (hr : ∀ g : Fld, MoveReg g.key → e.rg g = d.rg g)
    (hn : e.numbering = d.numbering) (hs : e.spares = d.spares) (hd : e.sed = d.sed) : MoveKept o e :=
  ⟨fun g hg => (hr g hg).trans (h.regs g hg), hn.trans h.numbering, hs.trans h.spares, (by rw [hd, h.held]), by rw [hd, h.judged]⟩

/-- An update of any other part of the device. -/
theorem MoveKept.other {o d e : Dev} (h : MoveKept o d) (hr : e.regs = d.regs) (hn : e.numbering = d.numbering)
    (hs : e.spares = d.spares) (hd : e.sed = d.sed) : MoveKept o e :=
  h.next (fun g _ => by rw [Dev.rg, hr, Dev.rg]) hn hs hd

theorem MoveKept.rs {o d : Dev} (h : MoveKept o d) {f : Fld} (hf : ¬ MoveReg f.key) (v : Nat) : MoveKept o (d.rs f v) :=
  h.next (fun _ hg => Dev.rg_rs_ne d (hg.ne hf) v) rfl rfl rfl

theorem MoveKept.setPlot {o d : Dev} (h : MoveKept o d) (p : Nat) (pl : Plot) : MoveKept o (d.setPlot p pl) :=
  h.other rfl rfl rfl rfl

theorem MoveKept.modPlot {o d : Dev} (h : MoveKept o d) (p : Nat) (f : Plot → Plot) : MoveKept o (d.modPlot p f) := h.setPlot _ _

theorem MoveKept.bedSide {o d e : Dev} (h : MoveKept o d) (k : BedSide d e) : MoveKept o e :=
  h.next k.regs (by rw [k.only]) (by rw [k.only]) (by rw [k.only])

theorem MoveKept.ite {o d e : Dev} (c : Prop) [Decidable c] (h : MoveKept o d) (k : MoveKept o e) :
    MoveKept o (if c then d else e) := by split <;> assumption

theorem MoveKept.emit {o d : Dev} (h : MoveKept o d) (m : Out) : MoveKept o (d.emit m) := h.other rfl rfl rfl rfl

theorem MoveKept.cpl {o d : Dev} (h : MoveKept o d) (c : Companion) : MoveKept o { d with cpl := c } := h.other rfl rfl rfl rfl

theorem MoveKept.steps {o d : Dev} (h : MoveKept o d) (x : Steps) : MoveKept o { d with steps := x } := h.other rfl rfl rfl rfl

theorem MoveKept.flash {o d : Dev} (h : MoveKept o d) (x : Flash) : MoveKept o { d with flash := x } := h.other rfl rfl rfl rfl

theorem MoveKept.free {o d : Dev} (h : MoveKept o d) (n : Nat) : MoveKept o (d.free n).1 := h.other rfl rfl rfl rfl

theorem MoveKept.foldl {o d : Dev} {α : Type} (h : MoveKept o d) (l : List α) (f : Dev → α → Dev)
    (hf : ∀ e a, MoveKept o e → MoveKept o (f e a)) : MoveKept o (l.foldl f d) :=
  List.foldlRecOn l f h fun e he a _ => hf e a he

theorem MoveKept.recordErr {o d : Dev} (h : MoveKept o d) (k i c : Nat) : MoveKept o (recordErr d k i c) :=
  h.bedSide ((BedSide.refl d).recordErr k i c)

theorem MoveKept.sedErr {o d : Dev} (h : MoveKept o d) (p c : Nat) : MoveKept o (sedErr d p c) := h.recordErr _ _ _

theorem MoveKept.recordPlot {o d : Dev} (h : MoveKept o d) (p c : Nat) : MoveKept o (recordPlot d p c) := h.recordErr _ _ _

theorem MoveKept.blockEvent {o d : Dev} (h : MoveKept o d) (k i ev n : Nat) (cls addr : Option Nat) :
    MoveKept o (blockEvent d k i ev n cls addr) :=
  h.bedSide ((BedSide.refl d).regsOnly (RegsOnly.blockEvent d k i ev n cls addr) fun g hg =>
    blockEvent_rg d k i ev n cls addr g hg.outsideRecord (hg.outsideBank k i))

/-! ### Messages to the companion -/

theorem MoveKept.setLink {o d : Dev} (h : MoveKept o d) (k : Nat) (l : Link) : MoveKept o (d.setLink k l) :=
  h.other rfl rfl rfl rfl

theorem MoveKept.modLink {o d : Dev} (h : MoveKept o d) (k : Nat) (f : Link → Link) : MoveKept o (d.modLink k f) := h.setLink _ _

theorem MoveKept.linkFlit {o d : Dev} (h : MoveKept o d) (k : Nat) (units head : List Byte) :
    MoveKept o (linkFlit d k units head) := by
  unfold Machine.linkFlit flitOut linkEvent
  exact ((h.setLink _ _).emit _).blockEvent _ _ _ _ _ _

theorem MoveKept.linkPump {o d : Dev} (h : MoveKept o d) (k : Nat) : MoveKept o (linkPump d k) := by
  unfold Machine.linkPump
  dsimp only
  split
  · exact h
  · refine MoveKept.modLink (List.foldlRecOn (motive := fun s : Dev × List Nat × List (Nat × List Byte) => MoveKept o s.1) _ _
      (h.setLink _ _) fun s hs m _ => ?_) _ _
    split
    · exact hs
    · exact (hs.setLink _ _).foldl _ _ fun _ _ he => he.linkFlit _ _ _

theorem MoveKept.linkSend {o d : Dev} (h : MoveKept o d) (k cls : Nat) (m : List Byte) : MoveKept o (linkSend d k cls m) :=
  MoveKept.ite _ h ((h.modLink _ _).linkPump _)

theorem MoveKept.notify {o d : Dev} (h : MoveKept o d) (vec : Nat) : MoveKept o (notify d vec) := by
  have sent := h.linkSend 0 2 (cplHeader 0x30 1 0 0 0 vec)
  unfold Machine.notify
  dsimp only
  exact MoveKept.ite _ h (MoveKept.ite _ (h.cpl _) (MoveKept.ite _ sent (sent.cpl _)))

theorem not_moveReg_companion {f : Fld} (ho : 0x600000 ≤ f.off) : ¬ MoveReg f.key := by
  unfold MoveReg Fld.key
  omega

theorem MoveKept.mailPlace {o d : Dev} (h : MoveKept o d) (m : Mail) : MoveKept o (mailPlace d m) := by
  have full := ((h.cpl { d.cpl with mboxOut := memWrite d.cpl.mboxOut 0 m.bytes }).rs (f := fCPL_MBX_STATUS_OUT_SEQ) (not_moveReg_companion (by decide)) m.seq).rs
    (f := fCPL_MBX_STATUS_OUT_FULL) (not_moveReg_companion (by decide)) 1
  unfold Machine.mailPlace
  exact (MoveKept.ite _ (full.rs (not_moveReg_companion (by decide)) 0) full).notify _

theorem MoveKept.mailSend {o d : Dev} (h : MoveKept o d) (m : Mail) : MoveKept o (mailSend d m) := by
  have lost : ∀ {e : Dev}, MoveKept o e → MoveKept o (e.count fCPL_MBX_STATUS_LOST 1) := fun he =>
    he.rs (not_moveReg_companion (by decide)) _
  unfold Machine.mailSend
  dsimp only
  exact MoveKept.ite _ (h.mailPlace m) (MoveKept.ite _ (MoveKept.ite _ (lost (h.cpl _)) (h.cpl _))
    (MoveKept.ite _ (lost h) (h.cpl _)))

theorem MoveKept.mailUnsolicited {o d : Dev} (h : MoveKept o d) (ty : Nat) (b : List Byte) :
    MoveKept o (mailUnsolicited d ty b) := by
  unfold Machine.mailUnsolicited
  exact (h.free 32).mailSend _

theorem MoveKept.journalAdd {o d : Dev} (h : MoveKept o d) (ty step code : Nat) (b : List Byte) :
    MoveKept o (journalAdd d ty step code b) := h.flash _

theorem MoveKept.capacityMail {o d : Dev} (h : MoveKept o d) : MoveKept o (capacityMail d) :=
  MoveKept.ite _ h ((h.mailUnsolicited _ _).journalAdd _ _ _ _)

/-! ### Events of slots -/

theorem MoveKept.cohSend {o d : Dev} (h : MoveKept o d) (opc line : Nat) (data : List Byte) (ring : Nat) :
    MoveKept o (cohSend d opc line data ring) := by
  unfold Machine.cohSend
  dsimp only
  exact MoveKept.ite _ ((h.cpl _).linkSend _ _ _) ((h.cpl _).linkSend _ _ _)

theorem MoveKept.evictLine {o d : Dev} (h : MoveKept o d) (line : Nat) : MoveKept o (evictLine d line) := by
  have gone : MoveKept o (setLine d line none) := h.cpl _
  unfold Machine.evictLine
  split
  · exact h
  · exact MoveKept.ite _ (gone.cohSend _ _ _ _) (gone.linkSend _ _ _)

theorem MoveKept.publish {o d : Dev} (h : MoveKept o d) (r : Nat) (recs : List (List Byte)) : MoveKept o (publish d r recs) := by
  have index : ¬ MoveReg (fCPL_RING_IDX_PRODUCER.at r).key := not_moveReg_companion (by simp [Fld.at, fCPL_RING_IDX_PRODUCER]; omega)
  unfold Machine.publish
  dsimp only
  exact MoveKept.ite _ h (((h.cpl _).rs index _).foldl _ _ fun _ _ he => (he.evictLine _).cohSend _ _ _ _)

theorem MoveKept.pushEvent {o d : Dev} (h : MoveKept o d) (code kind s tag detail : Nat) :
    MoveKept o (pushEvent d code kind s tag detail) := by
  unfold Machine.pushEvent flushEvents
  exact ((h.steps _).publish 2 _).steps _

/-- A slot that fails. -/
theorem MoveKept.slotFail {o d : Dev} (h : MoveKept o d) (s code : Nat) : MoveKept o (raiseTrans d (.fail s code)) := by
  have failed : MoveKept o (setSlotSt d s 5) := h.rs (not_moveReg_at rfl s) 5
  unfold raiseTrans transNow
  exact MoveKept.ite _ h (MoveKept.ite _ (MoveKept.ite _ h (failed.pushEvent _ _ _ _ _)) (h.steps _))

theorem MoveKept.slotsFail {o d : Dev} (h : MoveKept o d) (slots : List Nat) (code : Nat) : MoveKept o (slotsFail d slots code) :=
  h.foldl slots _ fun _ _ he => he.slotFail _ _

theorem MoveKept.placementUnfit {o d : Dev} (h : MoveKept o d) : MoveKept o (placementUnfit d) := h.steps _

/-! ### Critical words, the repair map and signatures -/

theorem not_moveReg_critFlip : ¬ MoveReg fSED_CRIT_FLIP_ARM.key := by unfold MoveReg; decide

/-- The list of corrupted critical words is no part of it. -/
theorem MoveKept.crit {o d : Dev} (h : MoveKept o d) (l : List Nat) : MoveKept o { d with sed := { d.sed with crit := l } } :=
  ⟨h.regs, h.numbering, h.spares, h.held, h.judged⟩

theorem MoveKept.critWrite {o d : Dev} (h : MoveKept o d) (w : Nat) : MoveKept o (critWrite d w) :=
  MoveKept.ite _ ((h.crit _).rs not_moveReg_critFlip 0) (h.crit _)

theorem MoveKept.critRead {o d : Dev} (h : MoveKept o d) (w : Nat) : MoveKept o (critRead d w) :=
  MoveKept.ite _ ((h.crit _).recordErr _ _ _) h

theorem MoveKept.repairAdd {o d : Dev} (h : MoveKept o d) (r : Repair) : MoveKept o (repairAdd d r) := by
  have read := h.critRead 0
  unfold Machine.repairAdd
  dsimp only
  exact MoveKept.ite _ read ((read.flash _).critWrite _)

theorem MoveKept.signature {o d : Dev} (h : MoveKept o d) (g : Sig) : MoveKept o (signature d g) := by
  have sent : ∀ (e : Dev) (n step : Nat) (b : List Byte), MoveKept o e →
      MoveKept o (Machine.journalAdd (Machine.mailUnsolicited { e with sed := { e.sed with sig := n } } 0x0200 b) 1 step g.code b) := by
    intro e n step b he
    have numbered : MoveKept o { e with sed := { e.sed with sig := n } } := ⟨he.regs, he.numbering, he.spares, he.held, he.judged⟩
    exact (numbered.mailUnsolicited _ _).journalAdd _ _ _ _
  have drawn := h.free 48
  unfold Machine.signature
  dsimp only
  refine sent _ _ _ _ ?_
  split
  · split_ifs
    exacts [h, h, drawn]
  · exact drawn

theorem MoveKept.moveSignature {o d : Dev} (h : MoveKept o d) (j : Judged) (n a : Nat) (new : Option Nat) :
    MoveKept o (moveSignature d j n a new) := MoveKept.ite _ h (h.signature _)

/-! ### Plots that wake, sleep and are sown -/

theorem MoveKept.plotReach {o d : Dev} (h : MoveKept o d) (p st : Nat) : MoveKept o (plotReach d p st) := by
  have lost : MoveKept o (plotLose d p) := h.other rfl rfl rfl rfl
  unfold Machine.plotReach
  exact (MoveKept.ite _ lost h).modPlot _ _

theorem MoveKept.wakePlot {o d : Dev} (h : MoveKept o d) (p : Nat) : MoveKept o (wakePlot d p) :=
  MoveKept.ite _ h ((h.plotReach _ _).modPlot _ _)

theorem MoveKept.sowRefuse {o d : Dev} (h : MoveKept o d) (p code : Nat) : MoveKept o (sowRefuse d p code) :=
  (h.modPlot _ _).recordPlot _ _

theorem MoveKept.sowBegin {o d : Dev} (h : MoveKept o d) (p gen lib base count crc : Nat) :
    MoveKept o (sowBegin d p gen lib base count crc) :=
  MoveKept.ite _ (h.sowRefuse _ _) (MoveKept.ite _ (h.sowRefuse _ _) (h.setPlot _ _))

theorem MoveKept.sowData {o d : Dev} (h : MoveKept o d) (p gen seq : Nat) (ws : List Nat) : MoveKept o (sowData d p gen seq ws) := by
  unfold Machine.sowData
  dsimp only
  split
  · exact h
  · exact MoveKept.ite _ h (h.setPlot _ _)

theorem MoveKept.sowEnd {o d : Dev} (h : MoveKept o d) (p gen packets : Nat) : MoveKept o (sowEnd d p gen packets) := by
  have ended : ∀ (pl : Plot) (r : Option SowRound), MoveKept o { d.setPlot p pl with sowRound := r } :=
    fun pl _ => (h.setPlot p pl).other rfl rfl rfl rfl
  unfold Machine.sowEnd
  dsimp only
  split
  · exact h
  · exact MoveKept.ite _ h (MoveKept.ite _ (ended _ _) ((h.setPlot _ _).recordPlot _ _))

theorem MoveKept.sowPlot {o d : Dev} (h : MoveKept o d) (gen p : Nat) (l : SowLib) : MoveKept o (sowPlot d gen p l) :=
  (((h.wakePlot p).sowBegin _ _ _ _ _ _).foldl _ _ fun _ _ he => he.sowData _ _ _ _).sowEnd _ _ _

theorem MoveKept.sowTurn {o d : Dev} (h : MoveKept o d) (round : Nat) (libs : List SowLib) (todo : List (Nat × Nat)) :
    MoveKept o (sowTurn d round libs todo) := by
  have begun : MoveKept o (sowGen { d with sowRound := some ⟨round, libs, todo⟩ } (todo.map (·.1))).1 := h.other rfl rfl rfl rfl
  generalize hg : sowGen { d with sowRound := some ⟨round, libs, todo⟩ } (todo.map (·.1)) = g at begun
  have sown : MoveKept o (todo.foldl (fun d e => match libs[e.2]? with
      | some l => Machine.sowPlot d g.2 e.1 l
      | none => d) g.1) := by
    refine begun.foldl todo _ fun b e hb => ?_
    split
    · exact hb.sowPlot _ _ _
    · exact hb
  unfold Machine.sowTurn
  dsimp only
  rw [hg]
  split
  · exact MoveKept.ite _ (sown.other rfl rfl rfl rfl) sown
  · exact sown

theorem MoveKept.tineLoad {o d : Dev} (h : MoveKept o d) (p : Nat) (ws : List Nat) : MoveKept o (tineLoad d p ws) := h.modPlot _ _

theorem MoveKept.plotRestore {o d : Dev} (h : MoveKept o d) (n : Nat) : MoveKept o (plotRestore d n) := by
  unfold Machine.plotRestore
  dsimp only
  split
  · exact h
  · split
    · exact (h.sowTurn _ _ _).tineLoad _ _
    · exact h.sowTurn _ _ _

/-! ### The end of a move -/

theorem MoveKept.moveFinish {o d : Dev} (h : MoveKept o d) (n s : Nat) (j : Judged) (reload : List (Nat × List Byte))
    (lost : List Nat) : MoveKept o (moveFinish d n s j reload lost) := by
  have restored := ((h.wakePlot s).plotRestore n).modPlot s (fun pl => { pl with
    regs := j.record.foldl (fun m e => SMap.insert e.1 e.2 m) (pl.regs.filter (fun e => !(plotRecord pl).contains e)) })
  have reloaded := restored.foldl reload (fun d e => (bedWrite d s e.1 e.2).1) fun b e hb =>
    hb.bedSide ((BedSide.refl b).bedWrite s e.1 e.2)
  exact (((reloaded.slotsFail lost _).repairAdd _).moveSignature j n 3 (some s)).capacityMail

/-- With no judgement waiting, live sparing at most lets the steps go on. -/
theorem MoveKept.sparingNext {o d : Dev} (h : MoveKept o d) (hj : o.sed.judged = []) : MoveKept o (sparingNext d) := by
  unfold Machine.sparingNext
  rw [h.judged, hj]
  exact MoveKept.ite _ (h.steps _) h

/-- Parts of the silent-error defence that a move sets or ends. -/
theorem MoveKept.sedOther {o d : Dev} (h : MoveKept o d) {s : Sed} (hh : s.held = d.sed.held) (hj : s.judged = d.sed.judged) :
    MoveKept o { d with sed := s } := ⟨h.regs, h.numbering, h.spares, hh.trans h.held, hj.trans h.judged⟩

theorem MoveKept.moveSettle {o d : Dev} (h : MoveKept o d) (hj : o.sed.judged = []) (n : Nat) (new : Option Nat)
    (reload : List (Nat × List Byte)) (lost : List Nat) : MoveKept o (moveSettle d n new reload lost) := by
  unfold Machine.moveSettle
  dsimp only
  split
  · exact h
  · next j _ =>
    split
    · exact (h.foldl (j.plot :: new.toList) _ fun b p hb => (hb.plotReach p 3).modPlot _ _).sedOther rfl rfl
    · refine MoveKept.sparingNext ?_ hj
      have ended : MoveKept o { d with sed := { d.sed with moving := none, finish := none } } := h.sedOther rfl rfl
      split
      · exact ended.moveFinish _ _ _ _ _
      · refine MoveKept.capacityMail (MoveKept.moveSignature ?_ _ _ _ _)
        have recorded := ended.sedErr j.plot 0x1007
        split
        · exact (recorded.sedErr j.plot 0x1008).placementUnfit.slotsFail _ _
        · exact recorded

end Sys2Proof.Machine
end

section
/-! PROOFS. The move engine: its GO, the end of the copy, the switch, and the comparison. -/

namespace Sys2Proof.Machine

/-! ## GO of SED_MOVE (R486) -/

/-- The device with what a GO names in SED_MOVE. -/
def moveAsked (d : Dev) (mode n s : Nat) : Dev := ((d.rs fSED_MOVE_MODE mode).rs fSED_MOVE_LOGICAL n).rs fSED_MOVE_SPARE s

/-- A move or retirement of plot `p` that no judgement has begun begins. -/
def moveBegun (d : Dev) (p : Nat) : Dev :=
  match d.sed.moving with
  | some _ => d
  | none => { d with sed := { d.sed with moving := some ⟨p, 0, 0, 0, none, 0, [], none, false, plotRecord (d.plot p)⟩ } }

theorem moveGo_busy {d : Dev} (h : d.rg fSED_MOVE_STATE ≠ 0) (mode n s : Nat) : moveGo d mode n s = sedErr d s 0x1011 := if_pos h

/-- MOVE, RELOAD and CLONE on a number in service. -/
theorem moveGo_copy {d : Dev} {mode n p : Nat} (hm : mode ≤ 2) (h : d.rg fSED_MOVE_STATE = 0) (hp : d.phys n = some p) (s : Nat) :
    moveGo d mode n s = if moveAllowed d p s then
        ((if mode = 2 then moveAsked d mode n s else moveBegun (moveAsked d mode n s) p).rs fSED_MOVE_STATE 1).rs
          fSED_MOVE_RESULT 1
      else moveRefused (moveAsked d mode n s) s := by
  have phys : (moveAsked d mode n s).phys n = some p := hp
  have asked : ((d.rs fSED_MOVE_MODE mode).rs fSED_MOVE_LOGICAL n).rs fSED_MOVE_SPARE s = moveAsked d mode n s := rfl
  have allowed : moveAllowed (moveAsked d mode n s) p s = moveAllowed d p s := rfl
  rw [moveGo, if_neg (not_not_intro h)]
  simp only [asked, phys]
  rcases (by omega : mode = 0 ∨ mode = 1 ∨ mode = 2) with rfl | rfl | rfl <;> simp only [allowed] <;> rfl

theorem moveGo_compare {d : Dev} (h : d.rg fSED_MOVE_STATE = 0) (n s : Nat) :
    moveGo d 3 n s = if d.isReferee s ∧ (d.plot s).seq = seqSTOPPED then
        (((moveAsked d 3 n s).rs fSED_MOVE_STATE 2).rs fSED_MOVE_VERDICT 0).rs fSED_MOVE_RESULT 1
      else moveRefused (moveAsked d 3 n s) s := by
  rw [moveGo, if_neg (not_not_intro h)]
  rfl

theorem moveGo_retire {d : Dev} {n p : Nat} (h : d.rg fSED_MOVE_STATE = 0) (hp : d.phys n = some p) (s : Nat) :
    moveGo d 4 n s = if (d.plot p).seq ≠ seqRUNNING then
        ((moveBegun (moveAsked d 4 n s) p).rs fSED_MOVE_STATE 3).rs fSED_MOVE_RESULT 1
      else moveRefused (moveAsked d 4 n s) s := by
  have phys : (((d.rs fSED_MOVE_MODE 4).rs fSED_MOVE_LOGICAL n).rs fSED_MOVE_SPARE s).phys n = some p := hp
  rw [moveGo, if_neg (not_not_intro h)]
  simp only [phys]
  rfl

theorem moveGo_release {d : Dev} (h : d.rg fSED_MOVE_STATE = 0) (n s : Nat) :
    moveGo d 5 n s = if d.referee.isSome then
        { moveAsked d 5 n s with referee := none }.rs fSED_MOVE_RESULT 2
      else moveRefused (moveAsked d 5 n s) s := by
  rw [moveGo, if_neg (not_not_intro h)]
  rfl

theorem moveAsked_state (d : Dev) (mode n s : Nat) : (moveAsked d mode n s).rg fSED_MOVE_STATE = d.rg fSED_MOVE_STATE := by
  simp (disch := decide) only [moveAsked, Dev.rg_rs_ne]

/-- SED_MOVE names what was asked for, and the device is else as `d` but for registers, its defence and referee mode. -/
def Asked (d : Dev) (mode n s : Nat) (e : Dev) : Prop :=
  e.rg fSED_MOVE_MODE = mode ∧ e.rg fSED_MOVE_LOGICAL = n ∧ e.rg fSED_MOVE_SPARE = s ∧
    e = { d with regs := e.regs, sed := e.sed, referee := e.referee }

theorem Asked.moveAsked {mode n s : Nat} (hm : mode < 8) (hn : n < 1024) (hs : s < 2048) (d : Dev) :
    Asked d mode n s (moveAsked d mode n s) := by
  have fits : ∀ {v w : Nat}, v < 2 ^ w → v % 2 ^ w = v := Nat.mod_eq_of_lt
  refine ⟨?_, ?_, ?_, rfl⟩ <;>
    simp (disch := decide) only [Machine.moveAsked, Dev.rg_rs_same, Dev.rg_rs_ne] <;> exact fits (by assumption)

theorem Asked.rs {d e : Dev} {mode n s : Nat} (h : Asked d mode n s e) {f : Fld} (v : Nat)
    (hf : ∀ g ∈ [fSED_MOVE_MODE, fSED_MOVE_LOGICAL, fSED_MOVE_SPARE], g.key ≠ f.key) : Asked d mode n s (e.rs f v) := by
  obtain ⟨hm, hn, hs, same⟩ := h
  have kept : ∀ g ∈ [fSED_MOVE_MODE, fSED_MOVE_LOGICAL, fSED_MOVE_SPARE], (e.rs f v).rg g = e.rg g :=
    fun g hg => Dev.rg_rs_ne e (hf g hg) v
  refine ⟨(kept _ (by simp)).trans hm, (kept _ (by simp)).trans hn, (kept _ (by simp)).trans hs, ?_⟩
  rw [same]
  rfl

theorem Asked.moveBegun {d e : Dev} {mode n s : Nat} (h : Asked d mode n s e) (p : Nat) : Asked d mode n s (moveBegun e p) := by
  obtain ⟨hm, hn, hs, same⟩ := h
  unfold Machine.moveBegun
  split
  · exact ⟨hm, hn, hs, same⟩
  · exact ⟨hm, hn, hs, by rw [same]⟩

theorem moveBegun_rg (d : Dev) (p : Nat) (f : Fld) : (moveBegun d p).rg f = d.rg f := by
  unfold moveBegun
  split <;> rfl

theorem moveBegun_referee (d : Dev) (p : Nat) : (moveBegun d p).referee = d.referee := by
  unfold moveBegun
  split <;> rfl

theorem BedSide.numbering {o d : Dev} (h : BedSide o d) : d.numbering = o.numbering := by rw [h.only]
theorem BedSide.referee {o d : Dev} (h : BedSide o d) : d.referee = o.referee := by rw [h.only]
theorem BedSide.sed {o d : Dev} (h : BedSide o d) : d.sed = o.sed := by rw [h.only]

/-- A GO that the state refuses leaves the engine IDLE with REFUSED and 0x1011. -/
theorem moveRefused_asked {d : Dev} (h : d.rg fSED_MOVE_STATE = 0) (mode n s : Nat) :
    (moveRefused (moveAsked d mode n s) s).rg fSED_MOVE_STATE = 0 ∧
      (moveRefused (moveAsked d mode n s) s).rg fSED_MOVE_RESULT = 3 ∧
      (moveRefused (moveAsked d mode n s) s).rg fSED_MOVE_CODE = 0x1011 ∧
      SawClass 16 (moveRefused (moveAsked d mode n s) s) ∧
      (moveRefused (moveAsked d mode n s) s).numbering = d.numbering ∧
      (moveRefused (moveAsked d mode n s) s).referee = d.referee := by
  have recorded := (BedSide.refl (((moveAsked d mode n s).rs fSED_MOVE_RESULT 3).rs fSED_MOVE_CODE 0x1011)).sedErr s 0x1011
  have field : ∀ f ∈ [fSED_MOVE_STATE, fSED_MOVE_RESULT, fSED_MOVE_CODE], (moveRefused (moveAsked d mode n s) s).rg f =
      (((moveAsked d mode n s).rs fSED_MOVE_RESULT 3).rs fSED_MOVE_CODE 0x1011).rg f := fun f hf =>
    recorded.regs f (moveReg_fields f (by revert f; decide))
  refine ⟨?_, ?_, ?_, sedErr_sawClass _ _ rfl, recorded.numbering, recorded.referee⟩
  · rw [field _ (by simp), Dev.rg_rs_ne _ (by decide), Dev.rg_rs_ne _ (by decide), moveAsked_state, h]
  · rw [field _ (by simp), Dev.rg_rs_ne _ (by decide), Dev.rg_rs_same]
    rfl
  · rw [field _ (by simp), Dev.rg_rs_same]
    rfl

/-- A row of the engine on a live core is its GO. -/
theorem moveRow_gives {c : Instr} {s : State} {mode n sp : Nat} (hc : exec c s = moveRow s mode n sp) (h : Live s) :
    Gives c s (moveGo s.dev mode (n % 1024) (sp % 2048)) := by
  rw [Gives, hc, moveRow, onDev_live h]

/-! ## A range copied within a memory -/

theorem SMap.find?_append {α : Type} (k : Nat) (m n : SMap α) : SMap.find? k (m ++ n) = (SMap.find? k m).or (SMap.find? k n) := by
  induction m with
  | nil => rfl
  | cons e t ih =>
    obtain ⟨j, v⟩ := e
    simp only [List.cons_append, SMap.find?, ih]
    split <;> rfl

theorem SMap.find?_filter_key {α : Type} (q : Nat → Bool) (k : Nat) (m : SMap α) :
    SMap.find? k (m.filter fun e => q e.1) = if q k then SMap.find? k m else none := by
  induction m with
  | nil => simp [SMap.find?]
  | cons e t ih =>
    obtain ⟨j, v⟩ := e
    by_cases hj : j = k
    · subst hj
      by_cases hq : q j = true
      · simp [SMap.find?, hq]
      · simp [hq] at ih ⊢
        exact ih
    · by_cases hq : q j = true <;> simp [SMap.find?, hq, hj, ih]

/-- Keys that all lie at `src` or above, moved to `dst`. -/
theorem SMap.find?_move {α : Type} {src : Nat} (dst o : Nat) (m : SMap α) (h : ∀ e ∈ m, src ≤ e.1) :
    SMap.find? (dst + o) (m.map fun e => (e.1 - src + dst, e.2)) = SMap.find? (src + o) m := by
  induction m with
  | nil => rfl
  | cons e t ih =>
    obtain ⟨j, v⟩ := e
    have hj : src ≤ j := h (j, v) List.mem_cons_self
    have same : (j - src + dst = dst + o) ↔ (j = src + o) := by omega
    simp only [List.map_cons, SMap.find?, same, ih fun e he => h e (List.mem_cons_of_mem _ he)]

/-- Keys moved to `dst` are none below it. -/
theorem SMap.find?_move_out {α : Type} {src dst n k : Nat} (m : SMap α) (h : ∀ e ∈ m, src ≤ e.1 ∧ e.1 < src + n)
    (hk : k < dst ∨ dst + n ≤ k) : SMap.find? k (m.map fun e => (e.1 - src + dst, e.2)) = none := by
  induction m with
  | nil => rfl
  | cons e t ih =>
    obtain ⟨j, v⟩ := e
    have hj := h (j, v) List.mem_cons_self
    have other : j - src + dst ≠ k := by simp only at hj; omega
    simp only [List.map_cons, SMap.find?, other, if_false, ih fun e he => h e (List.mem_cons_of_mem _ he)]

theorem memCopy_find? (m : List Host.Cell) (src dst n k : Nat) : SMap.find? k (memCopy m src dst n) =
    if dst ≤ k ∧ k < dst + n then SMap.find? (src + (k - dst)) m else SMap.find? k m := by
  have moved : ∀ e ∈ m.filter (fun c => decide (src ≤ c.1) && decide (c.1 < src + n)), src ≤ e.1 ∧ e.1 < src + n := by
    intro e he
    simpa using (List.mem_filter.mp he).2
  have low := SMap.find?_filter_key (fun x => decide (x < dst)) k m
  have high := SMap.find?_filter_key (fun x => decide (dst + n ≤ x)) k m
  have run := SMap.find?_filter_key (fun x => decide (src ≤ x) && decide (x < src + n)) (src + (k - dst)) m
  unfold memCopy
  simp only [SMap.find?_append, low, high]
  by_cases inside : dst ≤ k ∧ k < dst + n
  · obtain ⟨lo, hi⟩ := inside
    obtain ⟨o, rfl⟩ := Nat.exists_eq_add_of_le lo
    have ho : o < n := by omega
    rw [Nat.add_sub_cancel_left] at run ⊢
    rw [SMap.find?_move dst o _ fun e he => (moved e he).1, run]
    simp [ho, Nat.not_le.mpr ho]
  · rw [SMap.find?_move_out _ moved (by omega), if_neg inside]
    rcases Nat.lt_or_ge k dst with below | above
    · simp [below, show ¬ dst + n ≤ k by omega]
    · simp [Nat.not_lt.mpr above, show dst + n ≤ k by omega]

/-- The copy of a range reads as the range. -/
theorem memGet_memCopy_in (m : List Host.Cell) (src dst : Nat) {n o : Nat} (h : o < n) :
    memGet (memCopy m src dst n) (dst + o) = memGet m (src + o) := by
  rw [memGet, SMap.get, memCopy_find?, if_pos (by omega), Nat.add_sub_cancel_left]
  rfl

/-- The copy of a range leaves every other address alone. -/
theorem memGet_memCopy_out (m : List Host.Cell) (src : Nat) {dst n a : Nat} (h : a < dst ∨ dst + n ≤ a) :
    memGet (memCopy m src dst n) a = memGet m a := by
  rw [memGet, SMap.get, memCopy_find?, if_neg (by omega)]
  rfl

/-! ## The end of the copy (R486) -/

theorem moveIdle_raised (d : Dev) (r : Nat) : Raised 11 (moveIdle d r) := raiseEdge_raised _ _

theorem moveIdle_state (d : Dev) (r : Nat) : (moveIdle d r).rg fSED_MOVE_STATE = 0 := by
  rw [moveIdle, raiseEdge_rg _ _ (by decide) _ (moveReg_fields _ (by decide)).outsideRecord, Dev.rg_rs_ne _ (by decide),
    Dev.rg_rs_same]
  rfl

theorem moveIdle_result (d : Dev) {r : Nat} (hr : r < 4) : (moveIdle d r).rg fSED_MOVE_RESULT = r := by
  rw [moveIdle, raiseEdge_rg _ _ (by decide) _ (moveReg_fields _ (by decide)).outsideRecord, Dev.rg_rs_same]
  exact Nat.mod_eq_of_lt hr

/-- The engine's end changes no other field of its own. -/
theorem moveIdle_rg (d : Dev) (r : Nat) {g : Fld} (hg : MoveReg g.key) (hs : g.key ≠ fSED_MOVE_STATE.key)
    (hr : g.key ≠ fSED_MOVE_RESULT.key) : (moveIdle d r).rg g = d.rg g := by
  rw [moveIdle, raiseEdge_rg _ _ (by decide) _ hg.outsideRecord, Dev.rg_rs_ne _ hr, Dev.rg_rs_ne _ hs]

/-- What MOVE and CLONE, or RELOAD, have written at the copy's completion: but for plots and beds, the scratch of the spare. -/
theorem moveCopied_eq {d : Dev} {n s p : Nat} (hn : d.rg fSED_MOVE_LOGICAL = n) (hs : d.rg fSED_MOVE_SPARE = s)
    (hp : d.phys n = some p) : ∃ e : Dev, e.scr = memCopy d.scr (scrBase p) (scrBase s) (2 ^ 20) ∧
      e.numbering = d.numbering ∧ e.sed = d.sed ∧
      moveCopied d = if d.rg fSED_MOVE_MODE = 2 then moveIdle { cloneCopy e p s with referee := some (n, s) } 2
        else e.rs fSED_MOVE_STATE 3 := by
  generalize hm : d.rg fSED_MOVE_MODE = mode
  let o := syncCopy (scrCopy ((d.rs fSED_MOVE_STATUS_UNCORR 0).rs fSED_MOVE_STATUS_UNITS (if mode = 1 then 4096 else 266240))
    p s) (n * 256) ((1024 + s) * 256)
  have beds : BedSide o (if mode = 1 then
      (List.range 4).foldl (fun d ch => bedReadCol.bedEncode d s (ch * 2 ^ 19))
        (({ o with bed := memClear o.bed (bedBase s) (2 ^ 26) }).modPlot s (fun pl => { pl with bedErr := [] }))
      else bedCopy o p s) :=
    BedSide.ite _ ((((BedSide.refl o).bed _).modPlot _ _).encodeFirst s) ((BedSide.refl o).bedCopy p s)
  refine ⟨_, beds.scr, beds.numbering, beds.sed, ?_⟩
  unfold moveCopied
  simp only [hn, hs, hp, hm]
  rfl

theorem cloneCopy_seq (d : Dev) (p s : Nat) : ((cloneCopy d p s).plot s).seq = seqSTOPPED := by
  rw [cloneCopy, Dev.plot_modPlot_same]
  exact Plot.rg_rs_same _ _ _

/-- The copy's time limit: the engine is IDLE with TIMEOUT, and only a judged plot's move goes on. -/
theorem moveExpired_eq {d : Dev} (h : d.rg fSED_MOVE_MODE = 2 ∨ d.sed.moving = none) :
    moveExpired d = sedErr ((moveIdle d 3).rs fSED_MOVE_CODE 0x1012) ((d.phys (d.rg fSED_MOVE_LOGICAL)).getD 0x7FF) 0x1012 := by
  have recorded := (BedSide.refl ((moveIdle d 3).rs fSED_MOVE_CODE 0x1012)).sedErr
    ((d.phys (d.rg fSED_MOVE_LOGICAL)).getD 0x7FF) 0x1012
  have mode := recorded.regs fSED_MOVE_MODE (moveReg_fields _ (by decide))
  rw [Dev.rg_rs_ne _ (by decide), moveIdle_rg d 3 (moveReg_fields _ (by decide)) (by decide) (by decide)] at mode
  have moving : (sedErr ((moveIdle d 3).rs fSED_MOVE_CODE 0x1012) ((d.phys (d.rg fSED_MOVE_LOGICAL)).getD 0x7FF)
      0x1012).sed.moving = d.sed.moving := by rw [recorded.sed]; rfl
  have phys : ((moveIdle d 3).rs fSED_MOVE_CODE 0x1012).phys (d.rg fSED_MOVE_LOGICAL) = d.phys (d.rg fSED_MOVE_LOGICAL) := rfl
  unfold moveExpired
  simp only [phys, mode, moving]
  rcases h with clone | free
  · rw [if_pos clone]
  · rw [free]
    exact ite_self _

/-! ## The switch (R38, R485, R488) -/

/-- The move of plot `p`'s number is done and counted; the number has not switched. -/
def moveCounted (d : Dev) (n p : Nat) : Dev :=
  (moveIdle (critRead (syncCopy d (n * 256) ((1024 + p) * 256)) 1) 2).count fSED_CNT_MOVES 1

theorem MoveKept.sync {o d : Dev} (h : MoveKept o d) (m : SMap Nat) : MoveKept o { d with sync := m } := h.other rfl rfl rfl rfl

theorem moveCounted_kept (d : Dev) (n p : Nat) :
    MoveKept d (critRead (syncCopy d (n * 256) ((1024 + p) * 256)) 1) := ((MoveKept.refl d).sync _).critRead 1

theorem moveCounted_state (d : Dev) (n p : Nat) : (moveCounted d n p).rg fSED_MOVE_STATE = 0 := by
  rw [moveCounted, Dev.rg_count_ne _ (by decide), moveIdle_state]

theorem moveCounted_result (d : Dev) (n p : Nat) : (moveCounted d n p).rg fSED_MOVE_RESULT = 2 := by
  rw [moveCounted, Dev.rg_count_ne _ (by decide), moveIdle_result _ (by decide)]

theorem moveCounted_mode (d : Dev) (n p : Nat) : (moveCounted d n p).rg fSED_MOVE_MODE = d.rg fSED_MOVE_MODE := by
  have field : MoveReg fSED_MOVE_MODE.key := moveReg_fields _ (by decide)
  rw [moveCounted, Dev.rg_count_ne _ (by decide), moveIdle_rg _ _ field (by decide) (by decide),
    (moveCounted_kept d n p).regs _ field]

theorem moveCounted_moves {d : Dev} (n p : Nat) (h : d.rg fSED_CNT_MOVES < 65535) :
    (moveCounted d n p).rg fSED_CNT_MOVES = d.rg fSED_CNT_MOVES + 1 := by
  have field : MoveReg fSED_CNT_MOVES.key := moveReg_fields _ (by decide)
  rw [moveCounted, Dev.rg_count_same, moveIdle_rg _ _ field (by decide) (by decide), (moveCounted_kept d n p).regs _ field]
  have width : fSED_CNT_MOVES.w = 16 := rfl
  rw [width, satAdd]
  omega

theorem moveCounted_numbering (d : Dev) (n p : Nat) : (moveCounted d n p).numbering = d.numbering :=
  (moveCounted_kept d n p).numbering

theorem moveCounted_spares (d : Dev) (n p : Nat) : (moveCounted d n p).spares = d.spares := (moveCounted_kept d n p).spares

theorem moveCounted_held (d : Dev) (n p : Nat) : (moveCounted d n p).sed.held = d.sed.held := (moveCounted_kept d n p).held

theorem moveCounted_judged (d : Dev) (n p : Nat) : (moveCounted d n p).sed.judged = d.sed.judged :=
  (moveCounted_kept d n p).judged

theorem not_moveReg_plotCounts : ∀ f ∈ [fBRW_PLOTS_IN_SERVICE, fBRW_PLOTS_ABSENT, fBRW_PLOTS_SPARE_WEST, fBRW_PLOTS_SPARE_EAST],
    ¬ MoveReg f.key := by unfold MoveReg; decide

theorem MoveKept.plotCounts {o d : Dev} (h : MoveKept o d) : MoveKept o (plotCounts d) :=
  (((h.rs (not_moveReg_plotCounts _ (by simp)) _).rs (not_moveReg_plotCounts _ (by simp)) _).rs
    (not_moveReg_plotCounts _ (by simp)) _).rs (not_moveReg_plotCounts _ (by simp)) _

theorem MoveKept.referee {o d : Dev} (h : MoveKept o d) (r : Option (Nat × Nat)) : MoveKept o { d with referee := r } :=
  h.other rfl rfl rfl rfl

theorem MoveKept.unqualify {o d : Dev} (h : MoveKept o d) (s : Nat) : MoveKept o (unqualify d s) := h.sedOther rfl rfl

/-- The number decodes to the spare, which is no spare any longer. -/
theorem moveSwitch_kept {d : Dev} {n s p : Nat} (hn : d.rg fSED_MOVE_LOGICAL = n) (hs : d.rg fSED_MOVE_SPARE = s)
    (hp : d.phys n = some p) (hm : d.rg fSED_MOVE_MODE ≠ 4) (hj : d.sed.judged = []) (reload : List (Nat × List Byte))
    (lost : List Nat) :
    MoveKept { moveCounted d n p with
      numbering := SMap.insert n s (SMap.erase n d.numbering), spares := d.spares.filter (fun x => x ≠ s) }
      (moveSwitch d reload lost) := by
  have counted : (moveIdle (critRead (syncCopy d (n * 256) ((1024 + p) * 256)) 1) 2).count fSED_CNT_MOVES 1 =
    moveCounted d n p := rfl
  unfold moveSwitch
  simp only [hn, hs, hp, counted, moveCounted_mode, hm, if_false, moveCounted_numbering, moveCounted_spares]
  generalize ho : ({ moveCounted d n p with
    numbering := SMap.insert n s (SMap.erase n d.numbering), spares := d.spares.filter (fun x => x ≠ s) } : Dev) = o
  have judged : o.sed.judged = [] := by rw [← ho]; exact (moveCounted_judged d n p).trans hj
  exact (((((MoveKept.refl o).critWrite 1).plotCounts.unqualify s).referee _).sedErr s 0x1006).moveSettle judged _ _ _ _

/-- After RETIRE the number is ABSENT. -/
theorem moveSwitch_retire_kept {d : Dev} {n p : Nat} (hn : d.rg fSED_MOVE_LOGICAL = n) (hp : d.phys n = some p)
    (hm : d.rg fSED_MOVE_MODE = 4) (hj : d.sed.judged = []) (reload : List (Nat × List Byte)) (lost : List Nat) :
    MoveKept { moveCounted d n p with numbering := SMap.erase n d.numbering } (moveSwitch d reload lost) := by
  have counted : (moveIdle (critRead (syncCopy d (n * 256) ((1024 + p) * 256)) 1) 2).count fSED_CNT_MOVES 1 =
    moveCounted d n p := rfl
  unfold moveSwitch
  simp only [hn, hp, counted, moveCounted_mode, hm, if_true, moveCounted_numbering]
  have judged : (moveCounted d n p).sed.judged = [] := (moveCounted_judged d n p).trans hj
  exact ((((MoveKept.refl { moveCounted d n p with numbering := SMap.erase n d.numbering }).sync _).critWrite 1).plotCounts).moveSettle
    judged _ _ _ _

/-! ## The move engine -/

/-- MOVE, RELOAD and CLONE begin their copy, or are refused. -/
theorem copyRow_completes {c : Instr × Nat} {s : State} {n sp p : Nat}
    (hc : c ∈ [(Instr.move n sp, 0), (Instr.reload n sp, 1), (Instr.clone n sp, 2)]) (h : Live s) (hn : n < 1024)
    (hs : sp < 2048) (idle : s.dev.rg fSED_MOVE_STATE = 0) (hp : s.dev.phys n = some p) :
    c.2 ≤ 2 ∧ Gives c.1 s (if moveAllowed s.dev p sp then
        ((if c.2 = 2 then moveAsked s.dev c.2 n sp else moveBegun (moveAsked s.dev c.2 n sp) p).rs fSED_MOVE_STATE 1).rs
          fSED_MOVE_RESULT 1
      else moveRefused (moveAsked s.dev c.2 n sp) sp) := by
  have row : c.2 ≤ 2 ∧ exec c.1 s = moveRow s c.2 n sp := by
    simp only [List.mem_cons, List.not_mem_nil, or_false] at hc
    rcases hc with rfl | rfl | rfl
    exacts [⟨Nat.zero_le _, rfl⟩, ⟨Nat.le_succ 1, rfl⟩, ⟨Nat.le_refl _, rfl⟩]
  obtain ⟨mode, row⟩ := row
  have gives := moveRow_gives row h
  rw [Nat.mod_eq_of_lt hn, Nat.mod_eq_of_lt hs, moveGo_copy mode idle hp] at gives
  exact ⟨mode, gives⟩

theorem copyRow_starts {c : Instr × Nat} {s : State} {n sp p : Nat}
    (hc : c ∈ [(Instr.move n sp, 0), (Instr.reload n sp, 1), (Instr.clone n sp, 2)]) (h : Live s) (hn : n < 1024)
    (hs : sp < 2048) (idle : s.dev.rg fSED_MOVE_STATE = 0) (hp : s.dev.phys n = some p) (ha : moveAllowed s.dev p sp = true) :
    Completes c.1 s (fun t => Asked s.dev c.2 n sp t.dev ∧ t.dev.referee = s.dev.referee ∧ t.dev.rg fSED_MOVE_STATE = 1 ∧
      t.dev.rg fSED_MOVE_RESULT = 1) := by
  obtain ⟨mode, gives⟩ := copyRow_completes hc h hn hs idle hp
  rw [if_pos ha] at gives
  have asked := Asked.moveAsked (show c.2 < 8 by omega) hn hs s.dev
  have begun : Asked s.dev c.2 n sp
      (if c.2 = 2 then moveAsked s.dev c.2 n sp else moveBegun (moveAsked s.dev c.2 n sp) p) := by
    split
    · exact asked
    · exact asked.moveBegun p
  have referee : (if c.2 = 2 then moveAsked s.dev c.2 n sp else moveBegun (moveAsked s.dev c.2 n sp) p).referee =
      s.dev.referee := by
    split
    · rfl
    · exact moveBegun_referee _ _
  refine gives.completes ⟨(begun.rs 1 (by decide)).rs 1 (by decide), referee, ?_, Dev.rg_rs_same _ _ _⟩
  rw [Dev.rg_rs_ne _ (by decide)]
  exact Dev.rg_rs_same _ _ _

/-- What every row of the engine does while the engine runs. -/
theorem moveRow_busy {c : Instr} {s : State} {n sp : Nat} (hc : c ∈ [Instr.move n sp, Instr.reload n sp, Instr.clone n sp,
      Instr.compare n sp, Instr.retire n sp, Instr.release n sp]) (h : Live s) (busy : s.dev.rg fSED_MOVE_STATE ≠ 0) :
    Gives c s (sedErr s.dev (sp % 2048) 0x1011) := by
  have row : ∃ mode, exec c s = moveRow s mode n sp := by
    simp only [List.mem_cons, List.not_mem_nil, or_false] at hc
    rcases hc with rfl | rfl | rfl | rfl | rfl | rfl
    exacts [⟨0, rfl⟩, ⟨1, rfl⟩, ⟨2, rfl⟩, ⟨3, rfl⟩, ⟨4, rfl⟩, ⟨5, rfl⟩]
  obtain ⟨mode, row⟩ := row
  exact moveGo_busy busy mode (n % 1024) (sp % 2048) ▸ moveRow_gives row h

theorem compare_gives {s : State} {n sp : Nat} (h : Live s) (hn : n < 1024) (hs : sp < 2048)
    (idle : s.dev.rg fSED_MOVE_STATE = 0) : Gives (.compare n sp) s
      (if s.dev.isReferee sp ∧ (s.dev.plot sp).seq = seqSTOPPED then
        (((moveAsked s.dev 3 n sp).rs fSED_MOVE_STATE 2).rs fSED_MOVE_VERDICT 0).rs fSED_MOVE_RESULT 1
      else moveRefused (moveAsked s.dev 3 n sp) sp) := by
  have gives := moveRow_gives (show exec (.compare n sp) s = moveRow s 3 n sp from rfl) h
  rwa [Nat.mod_eq_of_lt hn, Nat.mod_eq_of_lt hs, moveGo_compare idle] at gives

theorem retire_gives {s : State} {n sp p : Nat} (h : Live s) (hn : n < 1024) (hs : sp < 2048)
    (idle : s.dev.rg fSED_MOVE_STATE = 0) (hp : s.dev.phys n = some p) : Gives (.retire n sp) s
      (if (s.dev.plot p).seq ≠ seqRUNNING then
        ((moveBegun (moveAsked s.dev 4 n sp) p).rs fSED_MOVE_STATE 3).rs fSED_MOVE_RESULT 1
      else moveRefused (moveAsked s.dev 4 n sp) sp) := by
  have gives := moveRow_gives (show exec (.retire n sp) s = moveRow s 4 n sp from rfl) h
  rwa [Nat.mod_eq_of_lt hn, Nat.mod_eq_of_lt hs, moveGo_retire idle hp] at gives

theorem release_gives {s : State} {n sp : Nat} (h : Live s) (hn : n < 1024) (hs : sp < 2048)
    (idle : s.dev.rg fSED_MOVE_STATE = 0) : Gives (.release n sp) s
      (if s.dev.referee.isSome then { moveAsked s.dev 5 n sp with referee := none }.rs fSED_MOVE_RESULT 2
      else moveRefused (moveAsked s.dev 5 n sp) sp) := by
  have gives := moveRow_gives (show exec (.release n sp) s = moveRow s 5 n sp from rfl) h
  rwa [Nat.mod_eq_of_lt hn, Nat.mod_eq_of_lt hs, moveGo_release idle] at gives

/-- With no request held, the end of the copy is the engine's alone. -/
theorem moveCopyDone_gives {s : State} (h : Live s) (copying : s.dev.rg fSED_MOVE_STATE = 1)
    (hh : (moveCopied s.dev).sed.held = []) : Gives .moveCopyDone s (moveCopied s.dev) := by
  have row : exec .moveCopyDone s = execMoveCopyDone s := rfl
  rw [Gives, row, execMoveCopyDone, onDevFused_live h, if_pos copying, heldRelease_nil _ hh]

theorem moveTimeout_gives {s : State} (h : Live s) (copying : s.dev.rg fSED_MOVE_STATE = 1)
    (hh : (moveExpired s.dev).sed.held = []) : Gives .moveTimeout s (moveExpired s.dev) := by
  have row : exec .moveTimeout s = execMoveTimeout s := rfl
  rw [Gives, row, execMoveTimeout, onDevFused_live h, if_pos copying, heldRelease_nil _ hh]

theorem spareSwitch_gives {s : State} (h : Live s) (switching : s.dev.rg fSED_MOVE_STATE = 3) {reload : List (Nat × List Byte)}
    {lost : List Nat} (hh : (moveSwitch s.dev reload lost).sed.held = []) :
    Gives (.spareSwitch reload lost) s (moveSwitch s.dev reload lost) := by
  have row : exec (.spareSwitch reload lost) s = execSpareSwitch reload lost s := rfl
  rw [Gives, row, execSpareSwitch, onDevFused_live h, if_pos switching, heldRelease_nil _ hh]

/-- MOVE and RELOAD go on to the switch, their spare's scratch that of the plot. -/
theorem moveCopyDone_switches {s : State} {n sp p : Nat} (h : Live s) (hn : s.dev.rg fSED_MOVE_LOGICAL = n)
    (hs : s.dev.rg fSED_MOVE_SPARE = sp) (hp : s.dev.phys n = some p) (hh : s.dev.sed.held = [])
    (copying : s.dev.rg fSED_MOVE_STATE = 1) (hm : s.dev.rg fSED_MOVE_MODE ≤ 1) :
    Completes .moveCopyDone s (fun t => t.dev.rg fSED_MOVE_STATE = 3 ∧ t.dev.numbering = s.dev.numbering ∧
      (∀ o, o < 2 ^ 20 → memGet t.dev.scr (scrBase sp + o) = memGet s.dev.scr (scrBase p + o)) ∧
      (∀ a, a < scrBase sp ∨ scrBase sp + 2 ^ 20 ≤ a → memGet t.dev.scr a = memGet s.dev.scr a)) := by
  obtain ⟨e, scr, numbering, sed, copied⟩ := moveCopied_eq hn hs hp
  rw [if_neg (by omega)] at copied
  refine (moveCopyDone_gives h copying (by rw [copied, Dev.rs_sed, sed, hh])).completes ?_
  simp only [copied, Dev.rs_scr, scr]
  exact ⟨Dev.rg_rs_same _ _ _, numbering, fun o ho => memGet_memCopy_in _ _ _ ho, fun a ha => memGet_memCopy_out _ _ ha⟩

/-- CLONE ends with the spare in referee mode. -/
theorem moveCopyDone_clones {s : State} {n sp p : Nat} (h : Live s) (hn : s.dev.rg fSED_MOVE_LOGICAL = n)
    (hs : s.dev.rg fSED_MOVE_SPARE = sp) (hp : s.dev.phys n = some p) (hh : s.dev.sed.held = [])
    (copying : s.dev.rg fSED_MOVE_STATE = 1) (hm : s.dev.rg fSED_MOVE_MODE = 2) :
    Completes .moveCopyDone s (fun t => t.dev.rg fSED_MOVE_STATE = 0 ∧ t.dev.rg fSED_MOVE_RESULT = 2 ∧
      t.dev.referee = some (n, sp) ∧ (t.dev.plot sp).seq = 4 ∧ Raised 11 t.dev ∧
      (∀ o, o < 2 ^ 20 → memGet t.dev.scr (scrBase sp + o) = memGet s.dev.scr (scrBase p + o))) := by
  obtain ⟨e, scr, -, sed, copied⟩ := moveCopied_eq hn hs hp
  rw [if_pos hm] at copied
  have held : (moveIdle { cloneCopy e p sp with referee := some (n, sp) } 2).sed.held = [] :=
    (congrArg Sed.held sed).trans hh
  have copy : (moveIdle { cloneCopy e p sp with referee := some (n, sp) } 2).scr =
      memCopy s.dev.scr (scrBase p) (scrBase sp) (2 ^ 20) := scr
  refine (moveCopyDone_gives h copying (copied ▸ held)).completes ?_
  simp only [copied, copy]
  exact ⟨moveIdle_state _ _, moveIdle_result _ (by decide), rfl, cloneCopy_seq e p sp, moveIdle_raised _ _,
    fun o ho => memGet_memCopy_in _ _ _ ho⟩

theorem moveTimeout_completes {s : State} (h : Live s) (hh : s.dev.sed.held = []) (copying : s.dev.rg fSED_MOVE_STATE = 1)
    (hm : s.dev.rg fSED_MOVE_MODE = 2 ∨ s.dev.sed.moving = none) :
    Completes .moveTimeout s (fun t => t.dev.rg fSED_MOVE_STATE = 0 ∧ t.dev.rg fSED_MOVE_RESULT = 3 ∧
      t.dev.rg fSED_MOVE_CODE = 0x1012 ∧ SawClass 16 t.dev ∧ Raised 11 t.dev ∧ t.dev.numbering = s.dev.numbering) := by
  have expired := moveExpired_eq hm
  generalize (s.dev.phys (s.dev.rg fSED_MOVE_LOGICAL)).getD 0x7FF = q at expired
  have recorded := (BedSide.refl ((moveIdle s.dev 3).rs fSED_MOVE_CODE 0x1012)).sedErr q 0x1012
  have raised : Raised 11 ((moveIdle s.dev 3).rs fSED_MOVE_CODE 0x1012) := (moveIdle_raised _ _).rs _ _ (by decide)
  refine (moveTimeout_gives h copying (by rw [expired, recorded.sed]; exact hh)).completes ?_
  simp only [expired]
  refine ⟨?_, ?_, ?_, sedErr_sawClass _ _ rfl, raised.sedErr (by decide) _ _, recorded.numbering⟩
  · rw [recorded.regs _ (moveReg_fields _ (by decide)), Dev.rg_rs_ne _ (by decide), moveIdle_state]
  · rw [recorded.regs _ (moveReg_fields _ (by decide)), Dev.rg_rs_ne _ (by decide), moveIdle_result _ (by decide)]
  · rw [recorded.regs _ (moveReg_fields _ (by decide)), Dev.rg_rs_same]
    rfl

/-- The switch: the number decodes to the spare, and the move is counted. -/
theorem spareSwitch_moves {s : State} {n sp p : Nat} (h : Live s) (hn : s.dev.rg fSED_MOVE_LOGICAL = n)
    (hs : s.dev.rg fSED_MOVE_SPARE = sp) (hp : s.dev.phys n = some p) (hh : s.dev.sed.held = [])
    (switching : s.dev.rg fSED_MOVE_STATE = 3) (hj : s.dev.sed.judged = []) (reload : List (Nat × List Byte)) (lost : List Nat)
    (hm : s.dev.rg fSED_MOVE_MODE ≤ 1) : Completes (.spareSwitch reload lost) s (fun t => t.dev.phys n = some sp ∧
      t.dev.rg fSED_MOVE_STATE = 0 ∧ t.dev.rg fSED_MOVE_RESULT = 2 ∧ sp ∉ t.dev.spares ∧
      (s.dev.rg fSED_CNT_MOVES < 65535 → t.dev.rg fSED_CNT_MOVES = s.dev.rg fSED_CNT_MOVES + 1)) := by
  have kept := moveSwitch_kept hn hs hp (by omega) hj reload lost
  have field := fun f hf => kept.regs f (moveReg_fields f hf)
  refine (spareSwitch_gives h switching (kept.held.trans ((moveCounted_held s.dev n p).trans hh))).completes
    ⟨?_, (field _ (by decide)).trans (moveCounted_state s.dev n p), (field _ (by decide)).trans (moveCounted_result s.dev n p),
      ?_, fun room => (field _ (by decide)).trans (moveCounted_moves n p room)⟩
  · rw [Dev.phys, kept.numbering]
    exact SMap.find?_insert_same _ _ _
  · simp [kept.spares]

/-- The switch after RETIRE: the number is ABSENT. -/
theorem spareSwitch_retires {s : State} {n p : Nat} (h : Live s) (hn : s.dev.rg fSED_MOVE_LOGICAL = n)
    (hp : s.dev.phys n = some p) (hh : s.dev.sed.held = [])
    (switching : s.dev.rg fSED_MOVE_STATE = 3) (hj : s.dev.sed.judged = []) (reload : List (Nat × List Byte)) (lost : List Nat)
    (hm : s.dev.rg fSED_MOVE_MODE = 4) : Completes (.spareSwitch reload lost) s (fun t => t.dev.phys n = none ∧
      t.dev.rg fSED_MOVE_STATE = 0 ∧ t.dev.rg fSED_MOVE_RESULT = 2 ∧ t.dev.spares = s.dev.spares) := by
  have kept := moveSwitch_retire_kept hn hp hm hj reload lost
  have field := fun f hf => kept.regs f (moveReg_fields f hf)
  refine (spareSwitch_gives h switching (kept.held.trans ((moveCounted_held s.dev n p).trans hh))).completes
    ⟨?_, (field _ (by decide)).trans (moveCounted_state s.dev n p), (field _ (by decide)).trans (moveCounted_result s.dev n p),
      kept.spares.trans (moveCounted_spares s.dev n p)⟩
  rw [Dev.phys, kept.numbering]
  exact SMap.find?_erase_same _ _

/-- Whether every unit that plot `p` bore holds in `sp` what it holds in `p`. -/
def bornSame (d : Dev) (p sp : Nat) : Bool :=
  (((d.plot p).units.filter (fun e => e.2.born)).map (·.1)).all (fun u => decide (unitBytes d p u = unitBytes d sp u))

theorem bornSame_iff (d : Dev) (p sp : Nat) : bornSame d p sp = true ↔
    ∀ e, e ∈ (d.plot p).units → e.2.born = true → unitBytes d p e.1 = unitBytes d sp e.1 := by
  simp only [bornSame, List.all_map, List.all_filter, List.all_eq_true, Function.comp_apply, Bool.or_eq_true,
    Bool.not_eq_true', decide_eq_true_eq]
  exact forall₂_congr fun e _ => by cases e.2.born <;> simp

theorem compareDone_gives {s : State} {n r p sp : Nat} (h : Live s) (comparing : s.dev.rg fSED_MOVE_STATE = 2)
    (hr : s.dev.referee = some (n, r)) (hp : s.dev.phys n = some p) (hs : s.dev.rg fSED_MOVE_SPARE = sp) :
    Gives .compareDone s
      (moveIdle ({ s.dev with referee := none }.rs fSED_MOVE_VERDICT (if bornSame s.dev p sp then 1 else 2)) 2) := by
  have row : exec .compareDone s = execCompareDone s := rfl
  have referee : (s.dev.referee.bind fun r => s.dev.phys r.1) = some p := by rw [hr]; exact hp
  rw [Gives, row, execCompareDone, onDev_live h, if_neg (not_not_intro comparing)]
  simp only [referee, hs]
  rfl

/-- The verdict of COMPARE. -/
theorem compareDone_completes {s : State} {n r p sp : Nat} (h : Live s) (comparing : s.dev.rg fSED_MOVE_STATE = 2)
    (hr : s.dev.referee = some (n, r)) (hp : s.dev.phys n = some p) (hs : s.dev.rg fSED_MOVE_SPARE = sp) :
    Completes .compareDone s (fun t => t.dev.rg fSED_MOVE_STATE = 0 ∧ t.dev.rg fSED_MOVE_RESULT = 2 ∧ t.dev.referee = none ∧
      Raised 11 t.dev ∧ t.dev.rg fSED_MOVE_VERDICT = if bornSame s.dev p sp then 1 else 2) := by
  refine (compareDone_gives h comparing hr hp hs).completes
    ⟨moveIdle_state _ _, moveIdle_result _ (by decide), rfl, moveIdle_raised _ _, ?_⟩
  rw [moveIdle_rg _ _ (moveReg_fields _ (by decide)) (by decide) (by decide), Dev.rg_rs_same]
  cases bornSame s.dev p sp <;> rfl

/-- The device after a GO that was refused: IDLE with REFUSED and 0x1011, decode and referee mode as they were. -/
def GoRefused (d e : Dev) : Prop :=
  e.rg fSED_MOVE_STATE = 0 ∧ e.rg fSED_MOVE_RESULT = 3 ∧ e.rg fSED_MOVE_CODE = 0x1011 ∧ SawClass 16 e ∧
    e.numbering = d.numbering ∧ e.referee = d.referee

section
variable {s : State} {n sp p : Nat} (h : Live s) (hn : n < 1024) (hs : sp < 2048) (idle : s.dev.rg fSED_MOVE_STATE = 0)
include h hn hs idle

theorem copyRow_refused {c : Instr} (hc : c ∈ [Instr.move n sp, Instr.reload n sp, Instr.clone n sp])
    (hp : s.dev.phys n = some p) (ha : moveAllowed s.dev p sp = false) : Completes c s (fun t => GoRefused s.dev t.dev) := by
  obtain ⟨k, hk⟩ : ∃ k, (c, k) ∈ [(Instr.move n sp, 0), (Instr.reload n sp, 1), (Instr.clone n sp, 2)] := by
    simp only [List.mem_cons, List.not_mem_nil, or_false] at hc
    rcases hc with rfl | rfl | rfl
    exacts [⟨0, by simp⟩, ⟨1, by simp⟩, ⟨2, by simp⟩]
  obtain ⟨-, gives⟩ := copyRow_completes hk h hn hs idle hp
  rw [ha, if_neg Bool.false_ne_true] at gives
  exact gives.completes (moveRefused_asked idle k n sp)

theorem compare_starts (hr : s.dev.isReferee sp = true) (hq : (s.dev.plot sp).seq = 4) :
    Completes (.compare n sp) s (fun t => Asked s.dev 3 n sp t.dev ∧ t.dev.rg fSED_MOVE_STATE = 2 ∧
      t.dev.rg fSED_MOVE_VERDICT = 0 ∧ t.dev.rg fSED_MOVE_RESULT = 1) := by
  have gives := compare_gives h hn hs idle
  rw [if_pos ⟨hr, hq⟩] at gives
  have asked := Asked.moveAsked (show 3 < 8 by decide) hn hs s.dev
  refine gives.completes ⟨((asked.rs 2 (by decide)).rs 0 (by decide)).rs 1 (by decide), ?_, ?_, Dev.rg_rs_same _ _ _⟩
  · rw [Dev.rg_rs_ne _ (by decide), Dev.rg_rs_ne _ (by decide)]
    exact Dev.rg_rs_same _ _ _
  · rw [Dev.rg_rs_ne _ (by decide)]
    exact Dev.rg_rs_same _ _ _

theorem compare_refused (hr : s.dev.isReferee sp = false) :
    Completes (.compare n sp) s (fun t => GoRefused s.dev t.dev) := by
  have gives := compare_gives h hn hs idle
  rw [hr, if_neg (by simp)] at gives
  exact gives.completes (moveRefused_asked idle 3 n sp)

theorem retire_starts (hp : s.dev.phys n = some p) (hq : (s.dev.plot p).seq ≠ seqRUNNING) :
    Completes (.retire n sp) s (fun t => Asked s.dev 4 n sp t.dev ∧ t.dev.rg fSED_MOVE_STATE = 3 ∧
      t.dev.rg fSED_MOVE_RESULT = 1) := by
  have gives := retire_gives h hn hs idle hp
  rw [if_pos hq] at gives
  have asked := (Asked.moveAsked (show 4 < 8 by decide) hn hs s.dev).moveBegun p
  refine gives.completes ⟨(asked.rs 3 (by decide)).rs 1 (by decide), ?_, Dev.rg_rs_same _ _ _⟩
  rw [Dev.rg_rs_ne _ (by decide)]
  exact Dev.rg_rs_same _ _ _

theorem retire_refused (hp : s.dev.phys n = some p) (hq : (s.dev.plot p).seq = seqRUNNING) :
    Completes (.retire n sp) s (fun t => GoRefused s.dev t.dev) := by
  have gives := retire_gives h hn hs idle hp
  rw [if_neg (not_not_intro hq)] at gives
  exact gives.completes (moveRefused_asked idle 4 n sp)

theorem release_ends (hr : s.dev.referee ≠ none) :
    Completes (.release n sp) s (fun t => Asked s.dev 5 n sp t.dev ∧ t.dev.referee = none ∧ t.dev.rg fSED_MOVE_STATE = 0 ∧
      t.dev.rg fSED_MOVE_RESULT = 2) := by
  have gives := release_gives h hn hs idle
  rw [if_pos (Option.isSome_iff_ne_none.mpr hr)] at gives
  obtain ⟨hm, hl, hsp, -⟩ := Asked.moveAsked (show 5 < 8 by decide) hn hs s.dev
  have released : Asked s.dev 5 n sp { moveAsked s.dev 5 n sp with referee := none } := ⟨hm, hl, hsp, rfl⟩
  refine gives.completes ⟨released.rs 2 (by decide), rfl, ?_, Dev.rg_rs_same _ _ _⟩
  rw [Dev.rg_rs_ne _ (by decide)]
  exact (moveAsked_state s.dev 5 n sp).trans idle

theorem release_refused (hr : s.dev.referee = none) :
    Completes (.release n sp) s (fun t => GoRefused s.dev t.dev) := by
  have gives := release_gives h hn hs idle
  rw [hr, if_neg (by simp)] at gives
  exact gives.completes (moveRefused_asked idle 5 n sp)

end

/-- Settles O25: each row's GO and each end of a copy, a switch or a comparison by its own lemma. -/
theorem moveEngine : Obligations.MoveEngine := by
  refine ⟨fun s n sp p live hn hs idle hp => ⟨fun ha c hc => copyRow_starts hc live hn hs idle hp ha,
      fun ha c hc => copyRow_refused live hn hs idle hc hp ha, fun hr hq => compare_starts live hn hs idle hr hq,
      fun hr => compare_refused live hn hs idle hr, fun hq => retire_starts live hn hs idle hp hq,
      fun hq => retire_refused live hn hs idle hp hq, fun hr => release_ends live hn hs idle hr,
      fun hr => release_refused live hn hs idle hr⟩,
    fun s n sp live busy c hc => ?_,
    fun s n sp p live hn hs hp _ hh => ⟨fun copying _ => ⟨fun hm => moveCopyDone_switches live hn hs hp hh copying hm,
      fun hm => moveCopyDone_clones live hn hs hp hh copying hm⟩,
      fun copying hm => moveTimeout_completes live hh copying hm,
      fun switching hj reload lost => ⟨fun hm => spareSwitch_moves live hn hs hp hh switching hj reload lost hm,
        fun hm => spareSwitch_retires live hn hp hh switching hj reload lost hm⟩⟩,
    fun s n sp r p live comparing hr hp hs => ?_⟩
  · have recorded := (BedSide.refl s.dev).sedErr (sp % 2048) 0x1011
    exact (moveRow_busy hc live busy).completes ⟨sedErr_sawClass _ _ rfl, recorded.numbering, recorded.referee, recorded.sed,
      fun f hf => recorded.regs f (moveReg_fields f (by revert f; decide))⟩
  · obtain ⟨t, next, state, result, referee, raised, verdict⟩ := compareDone_completes live comparing hr hp hs
    refine ⟨t, next, state, result, referee, raised, fun same => ?_, fun ⟨e, he, born, differ⟩ => ?_⟩
    · rw [verdict, if_pos ((bornSame_iff _ _ _).mpr same)]
    · rw [verdict, if_neg fun same => differ ((bornSame_iff _ _ _).mp same e he born)]

end Sys2Proof.Machine
end

section
/-! PROOFS. The start of a bring-up step, what a step's own records and registers leave alone, and the objects it reads in
flash. -/

namespace Sys2Proof.Machine

/-! ## Registers through a fold -/

/-- A field that no step of a fold changes. -/
theorem foldl_rg_keep {α : Type} (l : List α) (op : Dev → α → Dev) {g : Fld} (h : ∀ d, ∀ a ∈ l, (op d a).rg g = d.rg g)
    (d : Dev) : (l.foldl op d).rg g = d.rg g :=
  List.foldlRecOn (motive := fun e => e.rg g = d.rg g) l op rfl fun e he a ha => (h e a ha).trans he

/-- A field that one step of a fold sets, and no other changes. -/
theorem foldl_rg_set {α : Type} {l : List α} (op : Dev → α → Dev) {g : Fld} {c : α} {v : Nat} (hc : c ∈ l)
    (hs : ∀ d, (op d c).rg g = v) (hk : ∀ d, ∀ a ∈ l, a ≠ c → (op d a).rg g = d.rg g) (d : Dev) : (l.foldl op d).rg g = v := by
  induction l generalizing d with
  | nil => exact absurd hc List.not_mem_nil
  | cons a t ih =>
    have keep : ∀ d, ∀ b ∈ t, b ≠ c → (op d b).rg g = d.rg g := fun d b hb => hk d b (List.mem_cons_of_mem _ hb)
    rw [List.foldl_cons]
    by_cases ht : c ∈ t
    · exact ih ht keep _
    · have head : a = c := ((List.mem_cons.mp hc).resolve_right ht).symm
      rw [head, foldl_rg_keep t op (fun e b hb => keep e b hb fun e' => ht (e' ▸ hb)), hs]

/-! ## What a bring-up step leaves alone (R408) -/

/-- The keys of the fields that neither the start of a step, nor recording a code, nor a critical word, nor a measurement,
nor the choice of an image changes. -/
def StepReg (k : Nat) : Prop :=
  outsideRecord k ∧ (k / 64 % 0x1000 < 0xE40 ∨ 0xE98 ≤ k / 64 % 0x1000) ∧ k / 64 ≠ 0x390018 ∧ k / 64 ≠ 0x400400 ∧
    (k / 64 < 0x400100 ∨ 0x400180 ≤ k / 64) ∧ k / 64 ≠ 0 ∧ k / 64 ≠ 0x10 ∧ k ≠ 0x28 * 64 + 12 ∧ k ≠ 0x400000 * 64 + 4

theorem StepReg.ne {k : Nat} (h : StepReg k) {f : Fld} (hf : ¬ StepReg f.key) : k ≠ f.key := fun e => hf (e ▸ h)

theorem StepReg.outsideBank {k : Nat} (h : StepReg k) (b i : Nat) : outsideBank (bankOffset b i) k := by
  obtain ⟨-, bank, -⟩ := h
  unfold Machine.outsideBank bankOffset
  split_ifs <;> omega

theorem stepReg_fields : ∀ f ∈ [fBRW_STRAPS_BOOT_SRC, fBRW_STRAPS_CLK_MODE, fBRW_STRAPS_HALF_ID_WEST, fBRW_WDOG_SECONDS,
    fBRW_PUSH_LEN_LENGTH, fBRW_PLOTS_IN_SERVICE, fSOP_DEV_DEV_ID, fFAB_BRIDGE_STATUS_PORT_UP, fTRU_STATUS_KEY_VALID,
    fTRU_STATUS_CERT_VALID, fTRU_STATUS_SLOT_BOOTED, fTRU_LIC_SERIAL, fTRU_LIC_PORTS, fTRU_XMSS_NEXT_INDEX, fTRU_XMSS_RESV_END,
    fSHD_FW_VERSION, fSHD_SRAM_FLIP_ARM], StepReg f.key := by unfold StepReg outsideRecord; decide

/-- The two devices differ at most in registers outside `StepReg`, in plots' registers, in the bring-up window, the pin, the
snapshot and the silent-error defence. -/
structure StepSide (o d : Dev) : Prop where
  only : d = { o with regs := d.regs, plots := d.plots, boot := d.boot, tray := d.tray, sed := d.sed, snap := d.snap }
  regs : ∀ g : Fld, StepReg g.key → d.rg g = o.rg g

theorem StepSide.refl (o : Dev) : StepSide o o := ⟨rfl, fun _ _ => rfl⟩

theorem StepSide.flash {o d : Dev} (h : StepSide o d) : d.flash = o.flash := by rw [h.only]
theorem StepSide.gddr {o d : Dev} (h : StepSide o d) : d.gddr = o.gddr := by rw [h.only]
theorem StepSide.licence {o d : Dev} (h : StepSide o d) : d.licence = o.licence := by rw [h.only]
theorem StepSide.trust {o d : Dev} (h : StepSide o d) : d.trust = o.trust := by rw [h.only]
theorem StepSide.shed {o d : Dev} (h : StepSide o d) : d.shed = o.shed := by rw [h.only]
theorem StepSide.numbering {o d : Dev} (h : StepSide o d) : d.numbering = o.numbering := by rw [h.only]

theorem StepSide.regsOnly {o d e : Dev} (h : StepSide o d) (k : RegsOnly d e) (hr : ∀ g : Fld, StepReg g.key → e.rg g = d.rg g) :
    StepSide o e := by
  refine ⟨?_, fun g hg => (hr g hg).trans (h.regs g hg)⟩
  rw [k.1, h.only]

theorem StepSide.rs {o d : Dev} (h : StepSide o d) {f : Fld} (hf : ¬ StepReg f.key) (v : Nat) : StepSide o (d.rs f v) :=
  h.regsOnly (RegsOnly.rs d f v) fun _ hg => Dev.rg_rs_ne d (hg.ne hf) v

theorem StepSide.boot {o d : Dev} (h : StepSide o d) (b : Boot) : StepSide o { d with boot := b } :=
  ⟨by rw [h.only], h.regs⟩

theorem StepSide.sed {o d : Dev} (h : StepSide o d) (x : Sed) : StepSide o { d with sed := x } :=
  ⟨by rw [h.only], h.regs⟩

theorem StepSide.ite {o d e : Dev} (c : Prop) [Decidable c] (h : StepSide o d) (k : StepSide o e) :
    StepSide o (if c then d else e) := by split <;> assumption

theorem StepSide.recordErr {o d : Dev} (h : StepSide o d) (k i c : Nat) : StepSide o (recordErr d k i c) :=
  h.regsOnly (RegsOnly.recordErr d k i c) fun g hg => recordErr_rg d k i c g hg.1 fun _ => hg.outsideBank _ _

theorem StepSide.truErr {o d : Dev} (h : StepSide o d) (code : Nat) : StepSide o (truErr d code) :=
  (h.rs (f := fTRU_ERR_CODE_SEEN) (by unfold StepReg outsideRecord; decide) _).recordErr _ _ _

theorem StepSide.brwOutcome {o d : Dev} (h : StepSide o d) (code : Nat) : StepSide o (brwOutcome d code) := h.boot _

theorem StepSide.critWrite {o d : Dev} (h : StepSide o d) (w : Nat) : StepSide o (critWrite d w) :=
  StepSide.ite _ ((h.sed _).rs (by unfold StepReg outsideRecord; decide) 0) (h.sed _)

theorem StepSide.critRead {o d : Dev} (h : StepSide o d) (w : Nat) : StepSide o (critRead d w) :=
  StepSide.ite _ ((h.sed _).recordErr _ _ _) h

/-- A measurement changes TRU_MEAS alone. -/
theorem StepSide.setMeas {o d : Dev} (h : StepSide o d) {m : Nat} (hm : m < 4) (b : List Byte) : StepSide o (setMeas d m b) := by
  unfold Machine.setMeas
  dsimp only
  generalize shake256 32 b = digest
  refine List.foldlRecOn (motive := StepSide o) (List.range 4) _ h fun e he i hi => he.rs ?_ _
  have hi' := List.mem_range.mp hi
  simp only [StepReg, Fld.at2, Fld.key, fTRU_MEAS_BYTES]
  omega

theorem truErr_sawClass (d : Dev) {code : Nat} (hc : code / 256 = 5) : SawClass 5 (truErr d code) :=
  recordErr_sawClass _ 4 0 hc (by decide)

theorem brwOutcome_outcome (d : Dev) (code : Nat) : (brwOutcome d code).boot.outcome = some code := rfl

theorem brwOutcome_rg (d : Dev) (code : Nat) (g : Fld) : (brwOutcome d code).rg g = d.rg g := rfl

theorem SawClass.outcome {k : Nat} {d : Dev} (h : SawClass k d) (code : Nat) : SawClass k (brwOutcome d code) := h.of_rg rfl

/-! ## The start of a step (R408) -/

/-- The device as step `k` starts its actions, after the two writes that start it. -/
def stepBegun (d : Dev) (k : Nat) : Dev :=
  let go := (((d.rs fBRW_STEP_STEP k).rs fBRW_STATUS_STATE 1).rs fBRW_STATUS_STEP k).rs fBRW_STATUS_CODE 0
  raiseEdge (wdogReload { go with boot := { d.boot with acted := true, outcome := none, warn := 0 } }) 1

theorem not_stepReg_begin : ∀ f ∈ [fBRW_STEP_STEP, fBRW_STATUS_STATE, fBRW_STATUS_STEP, fBRW_STATUS_CODE, fBRW_WDOG_REMAIN_MS,
    fICU_PEND_PEND.at 0], ¬ StepReg f.key := by unfold StepReg outsideRecord; decide

theorem StepSide.wdogReload {o d : Dev} (h : StepSide o d) : StepSide o (wdogReload d) := h.rs (not_stepReg_begin _ (by simp)) _

theorem StepSide.raiseEdge {o d : Dev} (h : StepSide o d) : StepSide o (raiseEdge d 1) := h.rs (not_stepReg_begin _ (by simp)) _

theorem stepBegun_side (d : Dev) (k : Nat) : StepSide d (stepBegun d k) := by
  have step := (StepSide.refl d).rs (not_stepReg_begin fBRW_STEP_STEP (by simp)) k
  have state := (step.rs (not_stepReg_begin fBRW_STATUS_STATE (by simp)) 1).rs (not_stepReg_begin fBRW_STATUS_STEP (by simp)) k
  have code := state.rs (not_stepReg_begin fBRW_STATUS_CODE (by simp)) 0
  exact (code.boot { d.boot with acted := true, outcome := none, warn := 0 }).wdogReload.raiseEdge

theorem stepPending_stopped {d : Dev} (h : d.rg fBRW_STATUS_STATE = 2) (k : Nat) : stepPending d k = false := by
  unfold stepPending
  rw [h]
  rfl

/-- GO in DONE with the next step's number starts that step. -/
theorem brwGo_starts {d : Dev} {k : Nat} (hs : d.rg fBRW_STATUS_STATE = 2) (hl : d.rg fBRW_STATUS_LAST_DONE < 12)
    (hk : d.rg fBRW_STEP_STEP = k) (next : k = d.rg fBRW_STATUS_LAST_DONE + 1) :
    brwGo d = raiseEdge (wdogReload { ((d.rs fBRW_STATUS_STATE 1).rs fBRW_STATUS_STEP k).rs fBRW_STATUS_CODE 0 with
      boot := { d.boot with acted := false, outcome := none, warn := 0 } }) 1 := by
  unfold brwGo
  dsimp only
  rw [hs, hk, if_neg (by decide), if_neg (by decide), if_pos ⟨rfl, hl, next⟩]
  rfl

theorem stepPending_begun (d : Dev) {k : Nat} (hl : k ≤ 12) :
    stepPending (raiseEdge (wdogReload { ((d.rs fBRW_STATUS_STATE 1).rs fBRW_STATUS_STEP k).rs fBRW_STATUS_CODE 0 with
      boot := { d.boot with acted := false, outcome := none, warn := 0 } }) 1) k = true := by
  have step : k % 2 ^ fBRW_STATUS_STEP.w = k := Nat.mod_eq_of_lt (by change k < 16; omega)
  unfold stepPending raiseEdge wdogReload
  simp only [Dev.rg_rs_ne _ (show fBRW_STATUS_STATE.key ≠ (fICU_PEND_PEND.at (1 / 64)).key by decide),
    Dev.rg_rs_ne _ (show fBRW_STATUS_STEP.key ≠ (fICU_PEND_PEND.at (1 / 64)).key by decide),
    Dev.rg_rs_ne _ (show fBRW_STATUS_STATE.key ≠ fBRW_WDOG_REMAIN_MS.key by decide),
    Dev.rg_rs_ne _ (show fBRW_STATUS_STEP.key ≠ fBRW_WDOG_REMAIN_MS.key by decide)]
  change (decide ((((d.rs fBRW_STATUS_STATE 1).rs fBRW_STATUS_STEP k).rs fBRW_STATUS_CODE 0).rg fBRW_STATUS_STATE = 1) &&
    decide ((((d.rs fBRW_STATUS_STATE 1).rs fBRW_STATUS_STEP k).rs fBRW_STATUS_CODE 0).rg fBRW_STATUS_STEP = k) && !false) = true
  simp (disch := decide) only [Dev.rg_rs_ne, Dev.rg_rs_same]
  rw [step, decide_eq_true (rfl : k = k)]
  rfl

theorem bringStep_begins {d : Dev} {k : Nat} (h : d.rg fBRW_STATUS_STATE = 2) (hk : d.rg fBRW_STATUS_LAST_DONE + 1 = k)
    (hl : k ≤ 12) (act : Dev → Dev) : bringStep d k act = act (stepBegun d k) := by
  have step : (d.rs fBRW_STEP_STEP k).rg fBRW_STEP_STEP = k := by
    rw [Dev.rg_rs_same]
    exact Nat.mod_eq_of_lt (by change k < 16; omega)
  have last : (d.rs fBRW_STEP_STEP k).rg fBRW_STATUS_LAST_DONE = d.rg fBRW_STATUS_LAST_DONE := Dev.rg_rs_ne _ (by decide) _
  have go := brwGo_starts (d := d.rs fBRW_STEP_STEP k) ((Dev.rg_rs_ne _ (by decide) _).trans h) (by omega) step (by omega)
  unfold bringStep
  dsimp only
  rw [stepPending_stopped h, if_neg Bool.false_ne_true, go, if_pos (stepPending_begun _ hl)]
  rfl

theorem stepBegun_failed (d : Dev) (k : Nat) : (stepBegun d k).boot.failed = d.boot.failed := rfl

theorem stepBegun_halfEast (d : Dev) (k : Nat) : (stepBegun d k).boot.halfEast = d.boot.halfEast := rfl

/-- A bring-up step in DONE whose turn it is: its actions on the begun device. -/
theorem bringStep_completes {c : Instr} {s : State} {k : Nat} {act : Fuses → Dev → Dev} {P : State → Prop}
    (hc : exec c s = onDevFused s fun f d => bringStep d k (act f)) (h : Live s) (hd : s.dev.rg fBRW_STATUS_STATE = 2)
    (hk : s.dev.rg fBRW_STATUS_LAST_DONE + 1 = k) (hl : k ≤ 12) (hP : P { s with dev := act s.fused (stepBegun s.dev k) }) :
    Completes c s P := by
  refine ⟨_, ?_, hP⟩
  rw [hc, onDevFused_live h, bringStep_begins hd hk hl]

theorem zero_not_ne : ¬ (0 : Nat) ≠ 0 := not_not_intro rfl

/-! ## What the objects in flash answer -/

theorem flRead_congr {d e : Dev} (h : e.flash = d.flash) (a n : Nat) : flRead e a n = flRead d a n := by
  unfold flRead
  rw [h]

theorem aelmoKey_congr {d e : Dev} (h : e.flash = d.flash) : aelmoKey e = aelmoKey d := flRead_congr h _ _

theorem sigCode_congr {d e : Dev} (h : e.flash = d.flash) (k : e.rg fTRU_STATUS_KEY_VALID = d.rg fTRU_STATUS_KEY_VALID)
    (f : Fuses) (b : List Byte) (n : Nat) (r : Option Nat) : sigCode f e b n r = sigCode f d b n r := by
  unfold sigCode sigGood
  rw [aelmoKey_congr h, k]

theorem pushed_flash {d : Dev} (h : d.rg fBRW_STRAPS_BOOT_SRC = 0) : Machine.pushed d = (d, none, 0) := by
  unfold Machine.pushed
  exact if_pos (.inl (by rw [h]; decide))

theorem StepSide.pushed {o d : Dev} (h : StepSide o d) (src : o.rg fBRW_STRAPS_BOOT_SRC = 0) :
    Machine.pushed d = (d, none, 0) :=
  pushed_flash ((h.regs _ (stepReg_fields _ (by simp))).trans src)

theorem leValue_lt (b : List Byte) : leValue b < 256 ^ b.length := by
  induction b with
  | nil => exact Nat.one_pos
  | cons x t ih =>
    have byte := x.isLt
    simp only [leValue, List.length_cons, pow_succ]
    omega

theorem recV_lt (b : List Byte) (i n : Nat) : recV b i n < 256 ^ n :=
  (leValue_lt _).trans_le (Nat.pow_le_pow_right (by decide) (List.length_take_le _ _))

/-- Three equal good copies: nothing is rewritten (R530). -/
theorem pairRead_good {d : Dev} {a magic : Nat} {x : Nat × Nat}
    (h : ∀ c, c < 3 → pairGood magic (flRead d (a + c * 0x1000) 64) = some x) : pairRead d a magic = (d, some x.2) := by
  have newest : pairNewest d a magic = some x := by
    unfold pairNewest
    simp only [show List.range 3 = [0, 1, 2] from rfl, List.foldl_cons, List.foldl_nil, h 0 (by decide), h 1 (by decide),
      h 2 (by decide), lt_irrefl, if_false]
  have kept : (List.range 3).foldl (fun d c =>
      if pairGood magic (flRead d (a + c * 0x1000) 64) = some x then d
      else flWrite d (a + c * 0x1000) (pairBytes magic x.1 x.2)) d = d :=
    List.foldlRecOn (motive := fun e : Dev => e = d) (List.range 3) _ rfl fun e he c hc => by
      rw [he, if_pos (h c (List.mem_range.mp hc))]
  unfold pairRead
  rw [newest]
  dsimp only
  rw [kept]

end Sys2Proof.Machine
end

section
/-! PROOFS. The bring-up steps CONFIG to LANES. -/

namespace Sys2Proof.Machine

/-! ## CONFIG (R404 to R406, R524) -/

/-- CONFIG with its record in flash. -/
theorem configStep_flash {d : Dev} (q : Machine.pushed d = (d, none, 0)) (f : Fuses) (sfdp : Bool) :
    configStep f d sfdp =
      if !sfdp then brwOutcome d 0x0105
      else if (shake256 64 (aelmoKey d)).take 32 ≠ f.keyHash then brwOutcome (truErr d 0x0502) 0x0107
      else
        let e := d.rs fTRU_STATUS_KEY_VALID 1
        let b := flRead e flCONFIG 22565
        let c := configCheck f e b
        let e := if c.2 = 0 then e else truErr e c.2
        if c.1 ≠ 0 then brwOutcome e c.1 else brwOutcome (configApply e b) 0 := by
  unfold configStep
  rw [q]
  dsimp only
  rw [if_neg zero_not_ne, Option.getD_none]

theorem configStep_noTable {d : Dev} (q : Machine.pushed d = (d, none, 0)) (f : Fuses) :
    configStep f d false = brwOutcome d 0x0105 := by
  rw [configStep_flash q, if_pos (by rfl)]

theorem configStep_noKey {d : Dev} (q : Machine.pushed d = (d, none, 0)) {f : Fuses}
    (hk : (shake256 64 (aelmoKey d)).take 32 ≠ f.keyHash) : configStep f d true = brwOutcome (truErr d 0x0502) 0x0107 := by
  rw [configStep_flash q, if_neg (by decide), if_pos hk]

/-- CONFIG with the key record found good: the outcome of the record's check. -/
theorem configStep_checked {d : Dev} (q : Machine.pushed d = (d, none, 0)) {f : Fuses} {b : List Byte} {x : Nat × Nat}
    (hk : (shake256 64 (aelmoKey d)).take 32 = f.keyHash) (hb : flRead d flCONFIG 22565 = b)
    (hx : configCheck f (d.rs fTRU_STATUS_KEY_VALID 1) b = x) :
    configStep f d true =
      let e := d.rs fTRU_STATUS_KEY_VALID 1
      let e := if x.2 = 0 then e else truErr e x.2
      if x.1 ≠ 0 then brwOutcome e x.1 else brwOutcome (configApply e b) 0 := by
  rw [configStep_flash q, if_neg (by decide), if_neg (not_not_intro hk)]
  dsimp only
  rw [flRead_congr (d := d) (e := d.rs fTRU_STATUS_KEY_VALID 1) rfl, hb, hx]

theorem configStep_fails {d : Dev} (q : Machine.pushed d = (d, none, 0)) {f : Fuses} {b : List Byte} {c t : Nat}
    (hk : (shake256 64 (aelmoKey d)).take 32 = f.keyHash) (hb : flRead d flCONFIG 22565 = b)
    (hx : configCheck f (d.rs fTRU_STATUS_KEY_VALID 1) b = (c, t)) (hc : c ≠ 0) (ht : t ≠ 0) :
    configStep f d true = brwOutcome (truErr (d.rs fTRU_STATUS_KEY_VALID 1) t) c := by
  rw [configStep_checked q hk hb hx]
  dsimp only
  rw [if_neg ht, if_pos hc]

theorem configStep_loads {d : Dev} (q : Machine.pushed d = (d, none, 0)) {f : Fuses} {b : List Byte}
    (hk : (shake256 64 (aelmoKey d)).take 32 = f.keyHash) (hb : flRead d flCONFIG 22565 = b)
    (hx : configCheck f (d.rs fTRU_STATUS_KEY_VALID 1) b = (0, 0)) :
    configStep f d true = brwOutcome (configApply (d.rs fTRU_STATUS_KEY_VALID 1) b) 0 := by
  rw [configStep_checked q hk hb hx]
  dsimp only
  rw [if_pos rfl, if_neg zero_not_ne]

theorem configCheck_congr {d e : Dev} (h : e.flash = d.flash) (k : e.rg fTRU_STATUS_KEY_VALID = d.rg fTRU_STATUS_KEY_VALID)
    (f : Fuses) (b : List Byte) : configCheck f e b = configCheck f d b := by
  unfold configCheck
  rw [sigCode_congr h k]

theorem configCheck_form {f : Fuses} {d : Dev} {b : List Byte} (h : configForm b = false) :
    configCheck f d b = (0x0106, 0x0504) := by
  unfold configCheck
  rw [h]
  rfl

/-- SPEED of every controller. -/
def configSpeeds (d : Dev) (v : Nat) : Dev := (List.range 24).foldl (fun d c => d.rs (fGDC_CFG_SPEED.at c) v) d

/-- ROLE and PORT of every octet. -/
def configRoles (d : Dev) (role port : Nat → Nat) : Dev :=
  (List.range 18).foldl (fun d o => (d.rs (fLNE_ROLE_ROLE.at o) (role o)).rs (fLNE_ROLE_PORT.at o) (port o)) d

/-- The registers of a record's fields. -/
def configRegs (d : Dev) (b : List Byte) : Dev :=
  configRoles ((configSpeeds (d.rs fSOP_DEV_DEV_ID (recV b 16 2)) (recV b 18 1 % 4)).rs fBRW_WDOG_SECONDS (recV b 19 1))
    (fun o => recV b (20 + o) 1 % 4) (fun o => recV b (20 + o) 1 / 16)

/-- The device with a record's fields and not yet its measurement. -/
def configFields (d : Dev) (b : List Byte) : Dev :=
  { configRegs d b with trust := { (configRegs d b).trust with cfgRollback := recV b 12 4 } }

theorem configApply_eq (d : Dev) (b : List Byte) : configApply d b = setMeas (setMeas (critWrite (configFields d b) 5) 2
    (b.take 22565)) 0 ((List.range 262144).map Config.romByte) := by
  unfold configApply configFields configRegs configRoles configSpeeds
  with_reducible rfl

theorem configApply_side (d : Dev) (b : List Byte) : StepSide (configFields d b) (configApply d b) := by
  rw [configApply_eq]
  generalize (List.range 262144).map Config.romByte = rom
  exact (((StepSide.refl _).critWrite 5).setMeas (by decide) _).setMeas (by decide) rom

theorem configSpeeds_rg {d : Dev} {g : Fld} (h : g.off < 0x800000) (hl : g.lo < 64) (v : Nat) :
    (configSpeeds d v).rg g = d.rg g :=
  foldl_rg_keep _ _ (fun e c _ => Dev.rg_rs_ne e (by simp only [Fld.key, Fld.at, fGDC_CFG_SPEED]; omega) v) d

theorem configSpeeds_speed (d : Dev) {c : Nat} (hc : c < 24) (v : Nat) :
    (configSpeeds d v).rg (fGDC_CFG_SPEED.at c) = v % 4 :=
  foldl_rg_set (c := c) _ (List.mem_range.mpr hc) (fun e => Dev.rg_rs_same e _ v)
    (fun e a _ ha => Dev.rg_rs_ne e (by simp only [Fld.key, Fld.at, fGDC_CFG_SPEED]; omega) v) d

theorem configRoles_rg {d : Dev} {g : Fld} (h : g.off < 0x500000 ∨ 0x520000 ≤ g.off) (hl : g.lo < 64) (role port : Nat → Nat) :
    (configRoles d role port).rg g = d.rg g :=
  foldl_rg_keep _ _ (fun e o ho => by
    have ho := List.mem_range.mp ho
    rw [Dev.rg_rs_ne _ (by simp only [Fld.key, Fld.at, fLNE_ROLE_PORT]; omega),
      Dev.rg_rs_ne _ (by simp only [Fld.key, Fld.at, fLNE_ROLE_ROLE]; omega)]) d

theorem configRoles_role (d : Dev) {o : Nat} (ho : o < 18) (role port : Nat → Nat) :
    (configRoles d role port).rg (fLNE_ROLE_ROLE.at o) = role o % 4 :=
  foldl_rg_set (c := o) _ (List.mem_range.mpr ho)
    (fun e => by rw [Dev.rg_rs_ne _ (by simp only [Fld.key, Fld.at, fLNE_ROLE_ROLE, fLNE_ROLE_PORT]; omega), Dev.rg_rs_same]; rfl)
    (fun e a _ ha => by
      rw [Dev.rg_rs_ne _ (by simp only [Fld.key, Fld.at, fLNE_ROLE_ROLE, fLNE_ROLE_PORT]; omega),
        Dev.rg_rs_ne _ (by simp only [Fld.key, Fld.at, fLNE_ROLE_ROLE]; omega)]) d

theorem configRoles_port (d : Dev) {o : Nat} (ho : o < 18) (role port : Nat → Nat) :
    (configRoles d role port).rg (fLNE_ROLE_PORT.at o) = port o % 16 :=
  foldl_rg_set (c := o) _ (List.mem_range.mpr ho) (fun e => Dev.rg_rs_same (e.rs _ _) (fLNE_ROLE_PORT.at o) (port o))
    (fun e a _ ha => by
      rw [Dev.rg_rs_ne _ (by simp only [Fld.key, Fld.at, fLNE_ROLE_PORT]; omega),
        Dev.rg_rs_ne _ (by simp only [Fld.key, Fld.at, fLNE_ROLE_PORT, fLNE_ROLE_ROLE]; omega)]) d

theorem Dev.rg_trust (d : Dev) (t : Trust) (g : Fld) : Dev.rg { d with trust := t } g = d.rg g := rfl

theorem configFields_rg (d : Dev) (b : List Byte) (g : Fld) : (configFields d b).rg g = (configRegs d b).rg g :=
  Dev.rg_trust _ _ g

/-- What a record that verifies leaves in the registers. -/
def ConfigLoaded (b : List Byte) (e : Dev) : Prop :=
  e.rg fSOP_DEV_DEV_ID = recV b 16 2 % 2 ^ fSOP_DEV_DEV_ID.w ∧
  (∀ c, c < 24 → e.rg (fGDC_CFG_SPEED.at c) = recV b 18 1 % 4) ∧ e.rg fBRW_WDOG_SECONDS = recV b 19 1 ∧
  (∀ o, o < 18 → e.rg (fLNE_ROLE_ROLE.at o) = recV b (20 + o) 1 % 4 ∧ e.rg (fLNE_ROLE_PORT.at o) = recV b (20 + o) 1 / 16) ∧
  e.trust.cfgRollback = recV b 12 4

theorem configFields_loaded (d : Dev) (b : List Byte) : ConfigLoaded b (configFields d b) := by
  have byte := fun i => recV_lt b i 1
  refine ⟨?_, fun c hc => ?_, ?_, fun o ho => ⟨?_, ?_⟩, rfl⟩ <;> rw [configFields_rg, configRegs]
  · rw [configRoles_rg (by decide) (by decide), Dev.rg_rs_ne _ (by decide), configSpeeds_rg (by decide) (by decide),
      Dev.rg_rs_same]
  · rw [configRoles_rg (.inr (by simp only [Fld.at, fGDC_CFG_SPEED]; omega)) (by change 0 < 64; decide),
      Dev.rg_rs_ne _ (by simp only [Fld.key, Fld.at, fGDC_CFG_SPEED, fBRW_WDOG_SECONDS]; omega), configSpeeds_speed _ hc,
      Nat.mod_mod]
  · rw [configRoles_rg (by decide) (by decide), Dev.rg_rs_same]
    exact Nat.mod_eq_of_lt (byte 19)
  · rw [configRoles_role _ ho, Nat.mod_mod]
  · rw [configRoles_port _ ho]
    exact Nat.mod_eq_of_lt (by have := byte (20 + o); omega)

theorem stepReg_config : (∀ c, c < 24 → StepReg (fGDC_CFG_SPEED.at c).key) ∧
    ∀ o, o < 18 → StepReg (fLNE_ROLE_ROLE.at o).key ∧ StepReg (fLNE_ROLE_PORT.at o).key := by
  refine ⟨fun c hc => ?_, fun o ho => ⟨?_, ?_⟩⟩ <;>
    simp only [StepReg, outsideRecord, Fld.at, Fld.key, fGDC_CFG_SPEED, fLNE_ROLE_ROLE, fLNE_ROLE_PORT] <;> omega

theorem ConfigLoaded.side {b : List Byte} {d e : Dev} (h : ConfigLoaded b d) (k : StepSide d e) : ConfigLoaded b e := by
  obtain ⟨dev, speed, wdog, octet, rollback⟩ := h
  obtain ⟨speeds, octets⟩ := stepReg_config
  exact ⟨(k.regs _ (stepReg_fields _ (by simp))).trans dev, fun c hc => (k.regs _ (speeds c hc)).trans (speed c hc),
    (k.regs _ (stepReg_fields _ (by simp))).trans wdog, fun o ho => ⟨(k.regs _ (octets o ho).1).trans (octet o ho).1,
      (k.regs _ (octets o ho).2).trans (octet o ho).2⟩, by rw [k.trust]; exact rollback⟩

theorem configApply_loaded (d : Dev) (b : List Byte) : ConfigLoaded b (configApply d b) :=
  (configFields_loaded d b).side (configApply_side d b)

theorem configApply_keyValid (d : Dev) (b : List Byte) :
    (configApply d b).rg fTRU_STATUS_KEY_VALID = d.rg fTRU_STATUS_KEY_VALID := by
  rw [(configApply_side d b).regs _ (stepReg_fields _ (by simp)), configFields_rg, configRegs, configRoles_rg (by decide) (by decide),
    Dev.rg_rs_ne _ (by decide), configSpeeds_rg (by decide) (by decide), Dev.rg_rs_ne _ (by decide)]

section
variable {s : State} (h : Live s) (hd : s.dev.rg fBRW_STATUS_STATE = 2) (src : s.dev.rg fBRW_STRAPS_BOOT_SRC = 0)
  (hk : s.dev.rg fBRW_STATUS_LAST_DONE + 1 = 1)
include h hd src hk

theorem stepConfig_noTable : Completes (.stepConfig false) s fun t => t.dev.boot.outcome = some 0x0105 := by
  refine bringStep_completes (act := fun f d => configStep f d false) rfl h hd hk (by decide) ?_
  rw [configStep_noTable ((stepBegun_side s.dev 1).pushed src)]
  rfl

theorem stepConfig_noKey (key : (shake256 64 (aelmoKey s.dev)).take 32 ≠ s.fused.keyHash) :
    Completes (.stepConfig true) s fun t => t.dev.boot.outcome = some 0x0107 ∧ SawClass 5 t.dev := by
  have side := stepBegun_side s.dev 1
  refine bringStep_completes (act := fun f d => configStep f d true) rfl h hd hk (by decide) ?_
  rw [configStep_noKey (side.pushed src) (by rw [aelmoKey_congr side.flash]; exact key)]
  exact ⟨rfl, (truErr_sawClass _ rfl).outcome _⟩

theorem stepConfig_badForm (key : (shake256 64 (aelmoKey s.dev)).take 32 = s.fused.keyHash)
    (form : configForm (flRead s.dev flCONFIG 22565) = false) :
    Completes (.stepConfig true) s fun t => t.dev.boot.outcome = some 0x0106 ∧
      t.dev.rg fSOP_DEV_DEV_ID = s.dev.rg fSOP_DEV_DEV_ID ∧ SawClass 5 t.dev := by
  have side := stepBegun_side s.dev 1
  refine bringStep_completes (act := fun f d => configStep f d true) rfl h hd hk (by decide) ?_
  rw [configStep_fails (side.pushed src) (by rw [aelmoKey_congr side.flash]; exact key) (flRead_congr side.flash _ _)
    (configCheck_form form) (by decide) (by decide)]
  have told := ((StepSide.refl ((stepBegun s.dev 1).rs fTRU_STATUS_KEY_VALID 1)).truErr 0x0504).regs fSOP_DEV_DEV_ID
    (stepReg_fields _ (by simp))
  exact ⟨rfl, (told.trans (Dev.rg_rs_ne _ (by decide) _)).trans (side.regs _ (stepReg_fields _ (by simp))),
    (truErr_sawClass _ rfl).outcome _⟩

theorem stepConfig_loads (key : (shake256 64 (aelmoKey s.dev)).take 32 = s.fused.keyHash)
    (good : configCheck s.fused (s.dev.rs fTRU_STATUS_KEY_VALID 1) (flRead s.dev flCONFIG 22565) = (0, 0)) :
    Completes (.stepConfig true) s fun t => t.dev.boot.outcome = some 0 ∧ t.dev.rg fTRU_STATUS_KEY_VALID = 1 ∧
      ConfigLoaded (flRead s.dev flCONFIG 22565) t.dev := by
  have side := stepBegun_side s.dev 1
  have checked : configCheck s.fused ((stepBegun s.dev 1).rs fTRU_STATUS_KEY_VALID 1) (flRead s.dev flCONFIG 22565) = (0, 0) := by
    rw [configCheck_congr (d := s.dev.rs fTRU_STATUS_KEY_VALID 1)
      (e := (stepBegun s.dev 1).rs fTRU_STATUS_KEY_VALID 1) side.flash (by rw [Dev.rg_rs_same, Dev.rg_rs_same]), good]
  refine bringStep_completes (act := fun f d => configStep f d true) rfl h hd hk (by decide) ?_
  rw [configStep_loads (side.pushed src) (by rw [aelmoKey_congr side.flash]; exact key) (flRead_congr side.flash _ _) checked]
  have loaded := configApply_loaded ((stepBegun s.dev 1).rs fTRU_STATUS_KEY_VALID 1) (flRead s.dev flCONFIG 22565)
  have keyed := configApply_keyValid ((stepBegun s.dev 1).rs fTRU_STATUS_KEY_VALID 1) (flRead s.dev flCONFIG 22565)
  exact ⟨brwOutcome_outcome _ _, ((brwOutcome_rg _ _ _).trans keyed).trans (Dev.rg_rs_same _ _ 1), loaded.side ((StepSide.refl _).brwOutcome 0)⟩

end

/-! ## LICENCE (R412, R535, R536, R542) -/

theorem certCheck_congr {d e : Dev} (h : e.flash = d.flash) (k : e.rg fTRU_STATUS_KEY_VALID = d.rg fTRU_STATUS_KEY_VALID)
    (f : Fuses) (b : List Byte) : certCheck f e b = certCheck f d b := by
  unfold certCheck
  rw [sigCode_congr h k]

/-- The certificate's part of the identity. -/
def certLoad (f : Fuses) (d : Dev) : Dev :=
  let b := flRead d flCERT licBytes
  let t := certCheck f d b
  if t ≠ 0 then truErr d t
  else
    let pk := (b.drop 24).take 68
    { d.rs fTRU_STATUS_CERT_VALID 1 with trust := { d.trust with pubkey := pk, ident := shake256 32 pk } }

/-- The reservation record's part of the identity. -/
def resvLoad (d : Dev) : Dev :=
  let r := pairRead d flRESERVE magicR
  r.2.elim { r.1 with trust := { r.1.trust with resvOk := false } } fun n =>
    { (r.1.rs fTRU_XMSS_NEXT_INDEX n).rs fTRU_XMSS_RESV_END n with trust := { r.1.trust with resvOk := true } }

theorem identityLoad_eq (f : Fuses) (d : Dev) : identityLoad f d = resvLoad (certLoad f d) := by
  unfold identityLoad resvLoad certLoad
  dsimp only
  generalize pairRead _ flRESERVE magicR = r
  obtain ⟨e, _ | n⟩ := r <;> rfl

/-- The device with the public key `pk` of a good certificate. -/
def certGood (d : Dev) (pk : List Byte) : Dev :=
  { d.rs fTRU_STATUS_CERT_VALID 1 with trust := { d.trust with pubkey := pk, ident := shake256 32 pk } }

theorem certLoad_good {f : Fuses} {d : Dev} (h : certCheck f d (flRead d flCERT licBytes) = 0) :
    certLoad f d = certGood d (((flRead d flCERT licBytes).drop 24).take 68) := by
  unfold certLoad
  dsimp only
  rw [h, if_neg zero_not_ne]
  rfl

/-- The device with the index `n` of a good reservation record. -/
def resvGood (d : Dev) (n : Nat) : Dev :=
  { (d.rs fTRU_XMSS_NEXT_INDEX n).rs fTRU_XMSS_RESV_END n with trust := { d.trust with resvOk := true } }

theorem resvLoad_good {d : Dev} {x : Nat × Nat}
    (hr : ∀ c, c < 3 → pairGood magicR (flRead d (flRESERVE + c * 0x1000) 64) = some x) : resvLoad d = resvGood d x.2 := by
  unfold resvLoad
  rw [pairRead_good hr]
  rfl

/-- The identity of a good certificate with public key `pk`, and a good reservation record with index `n`. -/
def identityGood (d : Dev) (pk : List Byte) (n : Nat) : Dev := resvGood (certGood d pk) n

theorem identityLoad_good {f : Fuses} {d : Dev} {x : Nat × Nat} (hc : certCheck f d (flRead d flCERT licBytes) = 0)
    (hr : ∀ c, c < 3 → pairGood magicR (flRead d (flRESERVE + c * 0x1000) 64) = some x) :
    identityLoad f d = identityGood d (((flRead d flCERT licBytes).drop 24).take 68) x.2 := by
  rw [identityLoad_eq, certLoad_good hc]
  exact resvLoad_good fun c hc => by rw [flRead_congr (d := d) rfl]; exact hr c hc

section
variable (d : Dev) (pk : List Byte) (n : Nat)

theorem identityGood_flash : (identityGood d pk n).flash = d.flash := rfl
theorem identityGood_ident : (identityGood d pk n).trust.ident = shake256 32 pk := rfl
theorem identityGood_resvOk : (identityGood d pk n).trust.resvOk = true := rfl

theorem identityGood_rg (g : Fld) : (identityGood d pk n).rg g =
    (((d.rs fTRU_STATUS_CERT_VALID 1).rs fTRU_XMSS_NEXT_INDEX n).rs fTRU_XMSS_RESV_END n).rg g := rfl

theorem identityGood_regs :
    (identityGood d pk n).rg fTRU_STATUS_CERT_VALID = 1 ∧
    (identityGood d pk n).rg fTRU_XMSS_NEXT_INDEX = n % 2 ^ fTRU_XMSS_NEXT_INDEX.w ∧
    (identityGood d pk n).rg fTRU_XMSS_RESV_END = n % 2 ^ fTRU_XMSS_RESV_END.w ∧
    (identityGood d pk n).rg fTRU_STATUS_KEY_VALID = d.rg fTRU_STATUS_KEY_VALID := by
  simp only [identityGood_rg]
  simp (disch := decide) only [Dev.rg_rs_ne, Dev.rg_rs_same]
  exact ⟨rfl, trivial, trivial, trivial⟩

end

/-- One record of the step: the step's device and the licence of highest SERIAL so far. -/
def licenceTake (f : Fuses) (a : Dev × Option (List Byte)) (b : List Byte) : Dev × Option (List Byte) :=
  let t := licenceCheck f a.1 b
  if t ≠ 0 then (brwWarn (truErr a.1 t) 0x0109, a.2)
  else match a.2 with
    | some x => (a.1, some (if recV x 8 4 < recV b 8 4 then b else x))
    | none => (a.1, some b)

theorem licenceTake_good {f : Fuses} {d : Dev} {b : List Byte} (h : licenceCheck f d b = 0) :
    licenceTake f (d, none) b = (d, some b) := by
  unfold licenceTake
  dsimp only
  rw [h, if_neg zero_not_ne]

/-- The records of the licence store. -/
def licRecords (d : Dev) : List (List Byte) := (licStore d).filter licenceHeld

theorem licRecords_congr {d e : Dev} (h : e.flash = d.flash) : licRecords e = licRecords d := by
  unfold licRecords licStore
  simp only [flRead_congr h]

theorem filter_map_of_eq {α β : Type} (q : β → Bool) (g : α → β) {p : α → Bool} {l : List α} (h : ∀ a ∈ l, q (g a) = p a) :
    (l.map g).filter q = (l.filter p).map g := by
  rw [List.filter_map]
  exact congrArg (List.map g) (List.filter_congr h)

/-- The records of a store whose entries for which `p` holds are the ones that hold one. -/
theorem licRecords_of_held {d : Dev} {p : Nat → Bool} (h : ∀ k, k < 8 → licenceHeld (flRead d (flLICENCE k) licBytes) = p k) :
    licRecords d = ((List.range 8).filter p).map fun k => flRead d (flLICENCE k) licBytes := by
  unfold licRecords licStore
  exact filter_map_of_eq licenceHeld _ fun k hk => h k (List.mem_range.mp hk)

theorem licenceStep_flash {d : Dev} (q : Machine.pushed d = (d, none, 0)) (f : Fuses) :
    licenceStep f d =
      let e := identityLoad f (critRead d 3)
      let r := (licRecords e).foldl (licenceTake f) (e, none)
      r.2.elim (brwOutcome r.1 0x0108) fun b => brwOutcome (licenceForce r.1 b) 0 := by
  unfold licenceStep
  rw [q]
  dsimp only
  rw [if_neg zero_not_ne]
  unfold licRecords licenceTake
  dsimp only
  generalize List.foldl _ (identityLoad f (critRead d 3), none) _ = r
  obtain ⟨e, _ | b⟩ := r <;> rfl

theorem licenceStep_none {d e : Dev} (q : Machine.pushed d = (d, none, 0)) {f : Fuses}
    (he : identityLoad f (critRead d 3) = e) (hr : licRecords e = []) : licenceStep f d = brwOutcome e 0x0108 := by
  rw [licenceStep_flash q]
  dsimp only
  rw [he, hr, List.foldl_nil, Option.elim_none]

theorem licenceStep_one {d e : Dev} (q : Machine.pushed d = (d, none, 0)) {f : Fuses} {b : List Byte}
    (he : identityLoad f (critRead d 3) = e) (hr : licRecords e = [b]) (hb : licenceCheck f e b = 0) :
    licenceStep f d = brwOutcome (licenceForce e b) 0 := by
  rw [licenceStep_flash q]
  dsimp only
  rw [he, hr, List.foldl_cons, licenceTake_good hb, List.foldl_nil, Option.elim_some]

/-- The registers of a licence in force. -/
def licenceRegs (d : Dev) (l : Licence) : Dev :=
  let bit (x : Bool) : Nat := if x then 1 else 0
  let e := (({ d with licence := some l }.rs fTRU_LIC_SERIAL l.serial).rs fTRU_LIC_PLOTS_EAST l.east).rs fTRU_LIC_PLOTS_WEST l.west
  ((e.rs fTRU_LIC_PORTS l.ports).rs fTRU_LIC_OK4 (bit l.ok4)).rs fTRU_LIC_OQ4 (bit l.oq4)

theorem licenceForce_eq (d : Dev) (b : List Byte) :
    licenceForce d b = setMeas (critWrite (licenceRegs d (licenceOf b)) 3) 3 (b.take licBytes) := by
  unfold licenceForce licenceRegs
  with_reducible rfl

theorem licenceForce_side (d : Dev) (b : List Byte) : StepSide (licenceRegs d (licenceOf b)) (licenceForce d b) := by
  rw [licenceForce_eq]
  exact ((StepSide.refl _).critWrite 3).setMeas (by decide) _

theorem licenceRegs_licence (d : Dev) (l : Licence) : (licenceRegs d l).licence = some l := rfl

theorem licenceRegs_rg {g : Fld} (h : g.off ≠ 0x400008) (hl : g.lo < 64) (d : Dev) (l : Licence) :
    (licenceRegs d l).rg g = d.rg g := by
  have other : ∀ f ∈ [fTRU_LIC_SERIAL, fTRU_LIC_PLOTS_EAST, fTRU_LIC_PLOTS_WEST, fTRU_LIC_PORTS, fTRU_LIC_OK4, fTRU_LIC_OQ4],
      g.key ≠ f.key := by
    intro f hf
    have reg : f.off = 0x400008 ∧ f.lo < 64 := (by decide : ∀ f ∈ [fTRU_LIC_SERIAL, fTRU_LIC_PLOTS_EAST, fTRU_LIC_PLOTS_WEST,
      fTRU_LIC_PORTS, fTRU_LIC_OK4, fTRU_LIC_OQ4], f.off = 0x400008 ∧ f.lo < 64) f hf
    simp only [Fld.key]
    omega
  unfold licenceRegs
  dsimp only
  rw [Dev.rg_rs_ne _ (other _ (by simp)), Dev.rg_rs_ne _ (other _ (by simp)), Dev.rg_rs_ne _ (other _ (by simp)),
    Dev.rg_rs_ne _ (other _ (by simp)), Dev.rg_rs_ne _ (other _ (by simp)), Dev.rg_rs_ne _ (other _ (by simp))]
  rfl

theorem licenceRegs_serial (d : Dev) (l : Licence) : (licenceRegs d l).rg fTRU_LIC_SERIAL = l.serial % 2 ^ 32 := by
  unfold licenceRegs
  simp (disch := decide) only [Dev.rg_rs_ne, Dev.rg_rs_same]
  rfl

theorem licenceRegs_ports (d : Dev) (l : Licence) : (licenceRegs d l).rg fTRU_LIC_PORTS = l.ports % 32 := by
  unfold licenceRegs
  simp (disch := decide) only [Dev.rg_rs_ne, Dev.rg_rs_same]
  rfl

theorem licenceForm_ports {b : List Byte} (h : licenceForm b = true) : recV b 48 1 ≤ 16 := by
  simp only [licenceForm, Bool.and_eq_true, decide_eq_true_eq] at h
  omega

theorem licenceCheck_good {f : Fuses} {d : Dev} {b : List Byte} (form : licenceForm b = true) (sig : sigCode f d b 128 none = 0)
    (cert : d.rg fTRU_STATUS_CERT_VALID = 1) (bound : (b.drop 12).take 32 = d.trust.ident) : licenceCheck f d b = 0 := by
  unfold licenceCheck
  rw [form, sig, if_neg (by decide)]
  dsimp only
  rw [if_neg zero_not_ne, if_pos ⟨cert, bound⟩]

/-- The identity that the step loads from a begun device, and what it keeps. -/
theorem identityLoad_begun {f : Fuses} {o d : Dev} (side : StepSide o d) {x : Nat × Nat}
    (hc : certCheck f o (flRead o flCERT licBytes) = 0)
    (hr : ∀ c, c < 3 → pairGood magicR (flRead o (flRESERVE + c * 0x1000) 64) = some x) :
    identityLoad f d = identityGood d (((flRead o flCERT licBytes).drop 24).take 68) x.2 := by
  rw [← flRead_congr side.flash flCERT] at hc ⊢
  refine identityLoad_good ?_ fun c hc => by rw [flRead_congr side.flash]; exact hr c hc
  rw [certCheck_congr side.flash (side.regs _ (stepReg_fields _ (by simp))), hc]

/-- What the certificate, the reservation record and the one good licence `b` leave. -/
def LicenceLoaded (b pk : List Byte) (n : Nat) (e : Dev) : Prop :=
  e.licence = some (licenceOf b) ∧ e.rg fTRU_LIC_SERIAL = recV b 8 4 ∧ e.rg fTRU_LIC_PORTS = recV b 48 1 ∧
    e.rg fTRU_STATUS_CERT_VALID = 1 ∧ e.trust.ident = shake256 32 pk ∧ e.trust.resvOk = true ∧
    e.rg fTRU_XMSS_NEXT_INDEX = n % 2 ^ fTRU_XMSS_NEXT_INDEX.w ∧ e.rg fTRU_XMSS_RESV_END = n % 2 ^ fTRU_XMSS_RESV_END.w

theorem licenceRegs_loaded (d : Dev) {b : List Byte} (form : licenceForm b = true) (pk : List Byte) (n : Nat) :
    LicenceLoaded b pk n (licenceRegs (identityGood d pk n) (licenceOf b)) := by
  obtain ⟨cert, next, resv, -⟩ := identityGood_regs d pk n
  have serial : (licenceOf b).serial % 2 ^ 32 = recV b 8 4 := Nat.mod_eq_of_lt (recV_lt b 8 4)
  have ports : (licenceOf b).ports % 32 = recV b 48 1 := Nat.mod_eq_of_lt ((licenceForm_ports form).trans_lt (by decide))
  refine ⟨licenceRegs_licence _ _, (licenceRegs_serial _ _).trans serial, (licenceRegs_ports _ _).trans ports, ?_,
    identityGood_ident d pk n, identityGood_resvOk d pk n, ?_, ?_⟩ <;> rw [licenceRegs_rg (by decide) (by decide)]
  · exact cert
  · exact next
  · exact resv

theorem LicenceLoaded.side {b pk : List Byte} {n : Nat} {d e : Dev} (h : LicenceLoaded b pk n d) (k : StepSide d e) :
    LicenceLoaded b pk n e := by
  have keep := fun g hg => k.regs g (stepReg_fields g hg)
  unfold LicenceLoaded
  rw [k.licence, k.trust, keep fTRU_LIC_SERIAL (by simp), keep fTRU_LIC_PORTS (by simp), keep fTRU_STATUS_CERT_VALID (by simp),
    keep fTRU_XMSS_NEXT_INDEX (by simp), keep fTRU_XMSS_RESV_END (by simp)]
  exact h

section
variable {s : State} (h : Live s) (hd : s.dev.rg fBRW_STATUS_STATE = 2) (src : s.dev.rg fBRW_STRAPS_BOOT_SRC = 0)
  (hk : s.dev.rg fBRW_STATUS_LAST_DONE + 1 = 2) {x : Nat × Nat}
  (hc : certCheck s.fused s.dev (flRead s.dev flCERT licBytes) = 0)
  (hr : ∀ c, c < 3 → pairGood magicR (flRead s.dev (flRESERVE + c * 0x1000) 64) = some x)
include h hd src hk hc hr

theorem stepLicence_none (free : ∀ k, k < 8 → licenceHeld (flRead s.dev (flLICENCE k) licBytes) = false) :
    Completes .stepLicence s fun t => t.dev.boot.outcome = some 0x0108 ∧ t.dev.licence = s.dev.licence := by
  have side := stepBegun_side s.dev 2
  have read := side.critRead 3
  have loaded := identityLoad_begun read hc hr
  have none : licRecords (identityGood (critRead (stepBegun s.dev 2) 3) (((flRead s.dev flCERT licBytes).drop 24).take 68) x.2) = [] := by
    rw [licRecords_congr ((identityGood_flash _ _ _).trans read.flash), licRecords_of_held free]
    rfl
  refine bringStep_completes (act := licenceStep) rfl h hd hk (by decide) ?_
  rw [licenceStep_none (side.pushed src) loaded none]
  exact ⟨rfl, read.licence⟩

theorem stepLicence_loads (held : ∀ k, k < 8 → licenceHeld (flRead s.dev (flLICENCE k) licBytes) = decide (k = 0))
    {b pk : List Byte} (hb : flRead s.dev (flLICENCE 0) licBytes = b) (hpk : ((flRead s.dev flCERT licBytes).drop 24).take 68 = pk)
    (form : licenceForm b = true) (sig : sigCode s.fused s.dev b 128 none = 0) (bound : (b.drop 12).take 32 = shake256 32 pk) :
    Completes .stepLicence s fun t => t.dev.boot.outcome = some 0 ∧ LicenceLoaded b pk x.2 t.dev := by
  have side := stepBegun_side s.dev 2
  have read := side.critRead 3
  have loaded := identityLoad_begun read hc hr
  rw [hpk] at loaded
  generalize he : identityGood (critRead (stepBegun s.dev 2) 3) pk x.2 = e at loaded
  obtain ⟨cert, -, -, valid⟩ := identityGood_regs (critRead (stepBegun s.dev 2) 3) pk x.2
  have flash : e.flash = s.dev.flash := he ▸ (identityGood_flash _ _ _).trans read.flash
  have one : licRecords e = [b] := by
    rw [licRecords_congr flash, licRecords_of_held held, ← hb]
    rfl
  have good : licenceCheck s.fused e b = 0 := by
    refine licenceCheck_good form ?_ (he ▸ cert) (he ▸ bound.trans (identityGood_ident _ _ _).symm)
    rw [sigCode_congr flash (he ▸ valid.trans (read.regs _ (stepReg_fields _ (by simp)))), sig]
  refine bringStep_completes (act := licenceStep) rfl h hd hk (by decide) ?_
  rw [licenceStep_one (side.pushed src) loaded one good]
  refine ⟨brwOutcome_outcome _ _, LicenceLoaded.side ?_ ((licenceForce_side e b).brwOutcome 0)⟩
  rw [← he]
  exact licenceRegs_loaded _ form pk x.2

end

/-! ## HALVES and CLOCKS (R411, R413) -/

/-- What the halves of the device and its fuses agree on. -/
def HalvesAgree (d : Dev) (a b x y u : Nat) : Prop :=
  x = b ∧ y = a ∧ d.rg fBRW_STRAPS_HALF_ID_WEST = u ∧ d.boot.halfEast = 1 - u

theorem halvesStep_eq {f : Fuses} {d : Dev} {a b x y u : Nat} (hd : f.dieId = [a, b]) (hp : f.partner = [x, y])
    (ha : f.assembled = [u, 1 - u]) (ports : Nat) :
    halvesStep f d ports =
      let e := d.rs fBRW_STRAPS_HALF_ID_EAST d.boot.halfEast
      if b ≠ x ∨ a ≠ y ∨ u ≠ e.rg fBRW_STRAPS_HALF_ID_WEST ∨ 1 - u ≠ d.boot.halfEast ∨ u = 1 - u then brwOutcome e 0x010A
      else brwOutcome (e.rs fFAB_BRIDGE_STATUS_PORT_UP (ports % 2 ^ 17)) (if ports % 2 ^ 17 = 2 ^ 17 - 1 then 0 else 0x010C) := by
  unfold halvesStep
  rw [hd, hp, ha]
  rfl

/-- The halves compared: `same` stands for the agreement. -/
theorem halvesStep_compares {f : Fuses} {d : Dev} {a b x y u ports : Nat} (hd : f.dieId = [a, b]) (hp : f.partner = [x, y])
    (ha : f.assembled = [u, 1 - u]) (hu : u < 2) (lt : ports < 2 ^ 17) :
    (HalvesAgree d a b x y u → (halvesStep f d ports).boot.outcome = some (if ports = 2 ^ 17 - 1 then 0 else 0x010C) ∧
      (halvesStep f d ports).rg fFAB_BRIDGE_STATUS_PORT_UP = ports) ∧
    (¬ HalvesAgree d a b x y u → (halvesStep f d ports).boot.outcome = some 0x010A ∧
      (halvesStep f d ports).rg fFAB_BRIDGE_STATUS_PORT_UP = d.rg fFAB_BRIDGE_STATUS_PORT_UP) := by
  rw [halvesStep_eq hd hp ha]
  dsimp only
  rw [Dev.rg_rs_ne _ (show fBRW_STRAPS_HALF_ID_WEST.key ≠ fBRW_STRAPS_HALF_ID_EAST.key by decide), Nat.mod_eq_of_lt lt]
  unfold HalvesAgree
  constructor
  · rintro ⟨rfl, rfl, west, east⟩
    rw [if_neg (by omega)]
    exact ⟨rfl, (Dev.rg_rs_same _ _ _).trans (Nat.mod_eq_of_lt lt)⟩
  · intro differ
    rw [if_pos (by omega)]
    exact ⟨rfl, Dev.rg_rs_ne _ (by decide) _⟩

theorem HalvesAgree.begun {d : Dev} {a b x y u : Nat} (k : Nat) :
    HalvesAgree (stepBegun d k) a b x y u ↔ HalvesAgree d a b x y u := by
  unfold HalvesAgree
  rw [(stepBegun_side d k).regs _ (stepReg_fields _ (by simp)), stepBegun_halfEast]

section
variable {s : State} (h : Live s) (hd : s.dev.rg fBRW_STATUS_STATE = 2)
include h hd

theorem halvesPartnerTimeout_fails (hk : s.dev.rg fBRW_STATUS_LAST_DONE + 1 = 3) :
    Completes .halvesPartnerTimeout s fun t => t.dev.boot.outcome = some 0x010B :=
  bringStep_completes (act := fun _ d => brwOutcome d 0x010B) rfl h hd hk (by decide) rfl

theorem stepHalves_compares (hk : s.dev.rg fBRW_STATUS_LAST_DONE + 1 = 3) {a b x y u ports : Nat} (hi : s.fused.dieId = [a, b])
    (hp : s.fused.partner = [x, y]) (ha : s.fused.assembled = [u, 1 - u]) (hu : u < 2) (lt : ports < 2 ^ 17) :
    (HalvesAgree s.dev a b x y u → Completes (.stepHalves ports) s fun t =>
      t.dev.boot.outcome = some (if ports = 2 ^ 17 - 1 then 0 else 0x010C) ∧ t.dev.rg fFAB_BRIDGE_STATUS_PORT_UP = ports) ∧
    (¬ HalvesAgree s.dev a b x y u → Completes (.stepHalves ports) s fun t =>
      t.dev.boot.outcome = some 0x010A ∧
        t.dev.rg fFAB_BRIDGE_STATUS_PORT_UP = s.dev.rg fFAB_BRIDGE_STATUS_PORT_UP) := by
  obtain ⟨agree, differ⟩ := halvesStep_compares (d := stepBegun s.dev 3) hi hp ha hu lt
  rw [HalvesAgree.begun] at agree differ
  rw [(stepBegun_side s.dev 3).regs _ (stepReg_fields _ (by simp))] at differ
  exact ⟨fun same => bringStep_completes (act := fun f d => halvesStep f d ports) rfl h hd hk (by decide) (agree same),
    fun same => bringStep_completes (act := fun f d => halvesStep f d ports) rfl h hd hk (by decide) (differ same)⟩

theorem stepClocks_outcome (hk : s.dev.rg fBRW_STATUS_LAST_DONE + 1 = 4) (lock : Bool) :
    Completes (.stepClocks lock) s fun t => t.dev.boot.outcome =
      some (if s.dev.rg fBRW_STRAPS_CLK_MODE = 3 then 0x010D else if lock then 0 else 0x010E) := by
  refine bringStep_completes (act := fun _ d => brwOutcome d
    (if d.rg fBRW_STRAPS_CLK_MODE = 3 then 0x010D else if lock then 0 else 0x010E)) rfl h hd hk (by decide) ?_
  dsimp only
  rw [(stepBegun_side s.dev 4).regs _ (stepReg_fields _ (by simp))]
  rfl

end

/-! ## LANES (R324, R411) -/

/-- The two devices have the same roles and ports of octets and the same licensed ports. -/
def SameRoles (d e : Dev) : Prop :=
  (∀ o, o < 18 → octetRole e o = octetRole d o ∧ octetPort e o = octetPort d o) ∧ licencePorts e = licencePorts d

theorem roleMapBad_congr {d e : Dev} (h : SameRoles d e) : roleMapBad e = roleMapBad d := by
  obtain ⟨octet, ports⟩ := h
  have role : ∀ o, o < 18 → octetRole e o = octetRole d o := fun o ho => (octet o ho).1
  have any : ((List.range 18).any fun o => decide (2 ≤ o) && decide (octetRole e o = 1)) =
      (List.range 18).any fun o => decide (2 ≤ o) && decide (octetRole d o = 1) :=
    Bool.eq_iff_iff.mpr <| by
      simp only [List.any_eq_true]
      exact exists_congr fun o => and_congr_right fun ho => by rw [role o (List.mem_range.mp ho)]
  have used : ((List.range 18).filter fun o => octetRole e o = 2).map (octetPort e) =
      ((List.range 18).filter fun o => octetRole d o = 2).map (octetPort d) := by
    rw [List.filter_congr (q := fun o => decide (octetRole d o = 2)) fun o ho => by rw [role o (List.mem_range.mp ho)]]
    exact List.map_congr_left fun o ho => (octet o (List.mem_range.mp (List.mem_filter.mp ho).1)).2
  unfold roleMapBad
  dsimp only
  rw [role 0 (by decide), role 1 (by decide), any, used, ports]

/-- One octet of the step leaves OFF if it has a role. -/
def laneStart (d : Dev) (o : Nat) : Dev :=
  if octetRole d o = 0 ∨ o = 0 then d
  else
    let e := octetDetect d o
    if octetRole d o = 2 then e.rs (fSOP_PORT_STATUS_STATE.at (octetPort e o)) 1 else e

theorem lanesBegin_good {d : Dev} (h : roleMapBad d = 0) : lanesBegin d = (List.range 18).foldl laneStart d := by
  unfold lanesBegin
  dsimp only
  rw [if_neg (not_not_intro h)]
  rfl

/-- A field of the octets' window but for STATE of octet `o`. -/
theorem laneStart_rg (d : Dev) {o : Nat} {g : Fld} (hg : g.key < 0x700000 * 64) (hs : g.key ≠ (fLNE_STATUS_STATE.at o).key) :
    (laneStart d o).rg g = d.rg g := by
  have port : ∀ q, g.key ≠ (fSOP_PORT_STATUS_STATE.at q).key := fun q => by
    simp only [Fld.key, Fld.at, fSOP_PORT_STATUS_STATE] at hg ⊢
    omega
  unfold laneStart octetDetect setOctet
  dsimp only
  split_ifs
  · rfl
  · rw [Dev.rg_rs_ne _ (port _), Dev.rg_rs_ne _ hs]
  · rw [Dev.rg_rs_ne _ hs]

theorem laneStart_state (d : Dev) {o : Nat} (ho : o ≠ 0) : (laneStart d o).rg (fLNE_STATUS_STATE.at o) =
    if octetRole d o = 0 then d.rg (fLNE_STATUS_STATE.at o) else 1 := by
  have port : ∀ q, (fLNE_STATUS_STATE.at o).key ≠ (fSOP_PORT_STATUS_STATE.at q).key := fun q => by
    simp only [Fld.key, Fld.at, fSOP_PORT_STATUS_STATE, fLNE_STATUS_STATE]
    omega
  unfold laneStart octetDetect setOctet
  dsimp only
  by_cases off : octetRole d o = 0
  · rw [if_pos (.inl off), if_pos off]
  · rw [if_neg (not_or_intro off ho), if_neg off]
    split_ifs
    · rw [Dev.rg_rs_ne _ (port _), Dev.rg_rs_same]; rfl
    · rw [Dev.rg_rs_same]; rfl

theorem laneStart_role (d : Dev) (a : Nat) {o : Nat} (ho : o < 18) : octetRole (laneStart d a) o = octetRole d o :=
  laneStart_rg d (by simp only [Fld.key, Fld.at, fLNE_ROLE_ROLE]; omega)
    (by simp only [Fld.key, Fld.at, fLNE_ROLE_ROLE, fLNE_STATUS_STATE]; omega)

theorem laneStart_state_ne (d : Dev) {a o : Nat} (h : a ≠ o) (ho : o < 18) :
    (laneStart d a).rg (fLNE_STATUS_STATE.at o) = d.rg (fLNE_STATUS_STATE.at o) :=
  laneStart_rg d (by simp only [Fld.key, Fld.at, fLNE_STATUS_STATE]; omega)
    (by simp only [Fld.key, Fld.at, fLNE_STATUS_STATE]; omega)

/-- The octets of a list without repeats start one after the other. -/
theorem lanesStart_state {o : Nat} (ho : o ≠ 0) (lt : o < 18) (l : List Nat) (nodup : l.Nodup) (d : Dev) :
    (l.foldl laneStart d).rg (fLNE_STATUS_STATE.at o) =
      if octetRole d o = 0 ∨ o ∉ l then d.rg (fLNE_STATUS_STATE.at o) else 1 := by
  induction l generalizing d with
  | nil => rw [if_pos (.inr List.not_mem_nil)]; rfl
  | cons a t ih =>
    obtain ⟨fresh, nodup⟩ := List.nodup_cons.mp nodup
    rw [List.foldl_cons, ih nodup, laneStart_role d a lt]
    by_cases ha : a = o
    · subst ha
      rw [if_pos (.inr fresh), laneStart_state d ho]
      simp
    · rw [laneStart_state_ne d ha lt]
      simp [List.mem_cons, Ne.symm ha]

theorem StepSide.sameRoles {d e : Dev} (h : StepSide d e) : SameRoles d e := by
  obtain ⟨-, octets⟩ := stepReg_config
  refine ⟨fun o ho => ⟨h.regs _ (octets o ho).1, h.regs _ (octets o ho).2⟩, ?_⟩
  unfold licencePorts
  rw [h.licence]

theorem stepReg_octetState {o : Nat} (ho : o < 18) : StepReg (fLNE_STATUS_STATE.at o).key := by
  simp only [StepReg, outsideRecord, Fld.at, Fld.key, fLNE_STATUS_STATE]
  omega

theorem stepLanes_starts {s : State} (h : Live s) (hd : s.dev.rg fBRW_STATUS_STATE = 2)
    (hk : s.dev.rg fBRW_STATUS_LAST_DONE + 1 = 5) (good : roleMapBad s.dev = 0) :
    Completes .stepLanes s fun t => ∀ o, 1 ≤ o → o < 18 → t.dev.rg (fLNE_STATUS_STATE.at o) =
      if octetRole s.dev o = 0 then s.dev.rg (fLNE_STATUS_STATE.at o) else 1 := by
  have side := stepBegun_side s.dev 5
  refine bringStep_completes (act := fun _ => lanesBegin) rfl h hd hk (by decide) fun o ho lt => ?_
  dsimp only
  rw [lanesBegin_good ((roleMapBad_congr side.sameRoles).trans good),
    lanesStart_state (by omega) lt (List.range 18) List.nodup_range, (side.sameRoles.1 o lt).1, side.regs _ (stepReg_octetState lt)]
  simp [lt]

end Sys2Proof.Machine
end

section
/-! PROOFS. The bring-up steps BEDS, PLOTS and GDDR. -/

namespace Sys2Proof.Machine

/-! ## BEDS (R176, R415) -/

theorem SMap.find?_map {α : Type} (g : α → α) (k : Nat) (m : SMap α) :
    SMap.find? k (m.map fun e => (e.1, g e.2)) = (SMap.find? k m).map g := by
  induction m with
  | nil => rfl
  | cons e t ih =>
    obtain ⟨j, v⟩ := e
    simp only [List.map_cons, SMap.find?]
    split
    · rfl
    · exact ih

/-- A change of every listed value that leaves what an unlisted key reads as. -/
theorem SMap.get_map {α : Type} (g : α → α) {x : α} (hx : g x = x) (m : SMap α) (k : Nat) :
    SMap.get x (m.map fun e => (e.1, g e.2)) k = g (SMap.get x m k) := by
  unfold SMap.get
  rw [SMap.find?_map]
  cases SMap.find? k m with
  | none => exact hx.symm
  | some v => rfl

/-- The error bits of a plot's bed cleared. -/
def Plot.bedCleared (pl : Plot) : Plot := { pl with bedErr := [] }

theorem Plot.bedCleared_rg (pl : Plot) (f : Fld) : pl.bedCleared.rg f = pl.rg f := rfl

theorem Plot.bedCleared_chan (pl : Plot) (ch : Nat) : pl.bedCleared.chan ch = pl.chan ch := rfl

/-- Every column zero, and the rows `fresh` remapped in this start. -/
def bedsClear (d : Dev) (fresh : List Repair) : Dev :=
  { d with
    bed := []
    boot := { d.boot with fresh := d.boot.fresh ++ fresh }
    plots := d.plots.map fun e => (e.1, e.2.bedCleared) }

theorem bedsClear_plot (d : Dev) (fresh : List Repair) (p : Nat) : (bedsClear d fresh).plot p = (d.plot p).bedCleared :=
  SMap.get_map Plot.bedCleared rfl d.plots p

/-- The rows of a step as entries of the repair map. -/
def bedRows (rows : List (Nat × Nat × Nat × Nat)) : List Repair :=
  rows.map fun r => ⟨3, r.1, r.2.1 % 4, r.2.2.1 % 8, r.2.2.2 % 1024⟩

/-- The step done: the rows remapped, the beds clear. -/
def bedsDone (d : Dev) (fresh : List Repair) : Dev := brwOutcome (bedsClear (fresh.foldl bedRepair d) fresh) 0

theorem bedsDone_outcome (d : Dev) (fresh : List Repair) : (bedsDone d fresh).boot.outcome = some 0 := rfl

theorem bedsDone_bed (d : Dev) (fresh : List Repair) : (bedsDone d fresh).bed = [] := rfl

theorem bedsDone_plot (d : Dev) (fresh : List Repair) (p : Nat) :
    (bedsDone d fresh).plot p = ((fresh.foldl bedRepair d).plot p).bedCleared := bedsClear_plot _ fresh _

theorem bedsStep_unmapped {d : Dev} (h : ∀ r ∈ d.flash.repairs, r.kind ≠ 3) (rows : List (Nat × Nat × Nat × Nat)) :
    bedsStep d rows = bedsClear ((bedRows rows).foldl bedRepair d) (bedRows rows) := by
  have none : d.flash.repairs.filter (fun r => r.kind = 3) = [] := List.filter_eq_nil_iff.mpr fun r hr => by simp [h r hr]
  unfold bedsStep
  rw [none]
  rfl

/-- A remapped row of a plot. -/
def rowMapped (ch bank row used : Nat) (pl : Plot) : Plot :=
  (pl.setChan ch { pl.chan ch with remaps := (pl.chan ch).remaps ++ [(bank, row, used)] }).rs
    ((fBED_CH_SPARES_USED.at ch).bit bank) (used + 1)

theorem bedRepair_spare {d : Dev} {p ch bank row used : Nat}
    (hu : (d.plot p).rg ((fBED_CH_SPARES_USED.at ch).bit bank) = used) (lt : used < 8) :
    bedRepair d ⟨3, p, ch, bank, row⟩ = d.modPlot p (rowMapped ch bank row used) := by
  unfold bedRepair
  dsimp only
  rw [hu, if_neg (Nat.not_le.mpr lt)]
  rfl

theorem rowMapped_spares (ch bank row : Nat) {used : Nat} (lt : used < 8) (pl : Plot) :
    (rowMapped ch bank row used pl).rg ((fBED_CH_SPARES_USED.at ch).bit bank) = used + 1 := by
  unfold rowMapped
  rw [Plot.rg_rs_same]
  exact Nat.mod_eq_of_lt (by change used + 1 < 16; omega)

theorem rowMapped_remaps (ch bank row used : Nat) (pl : Plot) :
    ((rowMapped ch bank row used pl).chan ch).remaps = (pl.chan ch).remaps ++ [(bank, row, used)] := by
  have chan : (rowMapped ch bank row used pl).chan ch =
      (pl.setChan ch { pl.chan ch with remaps := (pl.chan ch).remaps ++ [(bank, row, used)] }).chan ch := rfl
  rw [chan, Plot.chan_setChan_same]

section
variable {s : State} (h : Live s) (hd : s.dev.rg fBRW_STATUS_STATE = 2) (hk : s.dev.rg fBRW_STATUS_LAST_DONE + 1 = 6)
  (hr : ∀ r ∈ s.dev.flash.repairs, r.kind ≠ 3)
include h hd hk hr

/-- BEDS with the rows that fail, all on plots. -/
theorem stepBeds_completes {rows : List (Nat × Nat × Nat × Nat)} (hp : rows.all (fun r => isPlot r.1) = true) {P : State → Prop}
    (hP : P { s with dev := bedsDone (stepBegun s.dev 6) (bedRows rows) }) :
    Completes (.stepBeds rows) s P := by
  refine bringStep_completes (act := fun _ d => brwOutcome (bedsStep d (rows.filter fun r => isPlot r.1)) 0)
    rfl h hd hk (by decide) ?_
  rw [List.filter_eq_self.mpr (List.all_eq_true.mp hp), bedsStep_unmapped (by rw [(stepBegun_side s.dev 6).flash]; exact hr)]
  exact hP

theorem stepBeds_clears : Completes (.stepBeds []) s fun t =>
    t.dev.boot.outcome = some 0 ∧ t.dev.bed = [] ∧ ∀ p, (t.dev.plot p).bedErr = [] :=
  stepBeds_completes h hd hk hr rfl
    ⟨bedsDone_outcome _ _, bedsDone_bed _ _, fun p => congrArg Plot.bedErr (bedsDone_plot (stepBegun s.dev 6) [] p)⟩

theorem stepBeds_remaps {p ch bank row used : Nat} (hp : isPlot p = true) (hc : ch < 4) (hb : bank < 8) (hrow : row < 1024)
    (hu : (s.dev.plot p).rg ((fBED_CH_SPARES_USED.at ch).bit bank) = used) (lt : used < 8) :
    Completes (.stepBeds [(p, ch, bank, row)]) s fun t => t.dev.boot.outcome = some 0 ∧ t.dev.bed = [] ∧
      (t.dev.plot p).rg ((fBED_CH_SPARES_USED.at ch).bit bank) = used + 1 ∧
      ((t.dev.plot p).chan ch).remaps = ((s.dev.plot p).chan ch).remaps ++ [(bank, row, used)] := by
  have rows : bedRows [(p, ch, bank, row)] = [⟨3, p, ch, bank, row⟩] := by
    simp only [bedRows, List.map_cons, List.map_nil, Nat.mod_eq_of_lt hc, Nat.mod_eq_of_lt hb, Nat.mod_eq_of_lt hrow]
  have begun : (stepBegun s.dev 6).plot p = s.dev.plot p := rfl
  have plot : (bedsDone (stepBegun s.dev 6) [⟨3, p, ch, bank, row⟩]).plot p =
      (rowMapped ch bank row used (s.dev.plot p)).bedCleared := by
    rw [bedsDone_plot, List.foldl_cons, List.foldl_nil, bedRepair_spare (begun ▸ hu) lt, Dev.plot_modPlot_same, begun]
  refine stepBeds_completes h hd hk hr (by rw [List.all_cons, hp, List.all_nil]; rfl) ?_
  rw [rows]
  refine ⟨bedsDone_outcome _ _, bedsDone_bed _ _, ?_, ?_⟩
  · dsimp only
    rw [plot, Plot.bedCleared_rg, rowMapped_spares ch bank row lt]
  · dsimp only
    rw [plot, Plot.bedCleared_chan, rowMapped_remaps]

end

/-! ## PLOTS (R26 to R28, R415) -/

/-- The plot that fails its self-test, entered. -/
theorem plotFails_option {d : Dev} (h : d.boot.failed = []) (x : Option (Nat × Nat)) :
    x.toList.foldl (fun d e => plotFails d e.1 e.2) d = { d with boot := { d.boot with failed := x.toList } } := by
  cases x with
  | none =>
    simp only [Option.toList_none, List.foldl_nil]
    rw [← h]
  | some e =>
    simp only [Option.toList_some, List.foldl_cons, List.foldl_nil]
    unfold plotFails
    rw [h]
    rfl

/-- BRW_PLOTFAIL of the plots that have failed. -/
def failRows (d : Dev) : Dev :=
  (List.range (min 64 d.boot.failed.length)).foldl (fun d i =>
    let e := d.boot.failed.getD i (0, 0)
    ((d.rs (fBRW_PLOTFAIL_VALID.at i) 1).rs (fBRW_PLOTFAIL_TEST.at i) e.2).rs (fBRW_PLOTFAIL_PLOT.at i) e.1) d

/-- The good plots of a half, but for `bad`. -/
def goodOf (bad : List Nat) (h : Nat) : List Nat := allPlots.filter fun p => plotHalf p = h && !bad.contains p

/-- The plots of both halves numbered. -/
def plotsNumbered (d : Dev) (w e : List (Nat × Nat) × List Nat) : Dev :=
  plotCounts (critWrite { d with numbering := w.1 ++ e.1, spares := w.2 ++ e.2, sed := { d.sed with qualified := w.2 ++ e.2 } } 1)

/-- The rest of the step, once BRW_PLOTFAIL is written. -/
def plotsAssign (d : Dev) : Dev :=
  let bad := (d.flash.repairs.filter fun r => r.kind = 1).map (·.unit) ++ d.boot.failed.map (·.1)
  let west := (d.licence.map (·.west)).getD 0
  let east := (d.licence.map (·.east)).getD 0
  let e := plotsNumbered d (numberHalf (goodOf bad 0) 0 west) (numberHalf (goodOf bad 1) 512 east)
  if e.numbering.length < west + east then brwWarn e 0x010F else e

theorem plotsStep_eq (d : Dev) (fails : List (Nat × Nat)) :
    plotsStep d fails =
      let units := ((d.flash.repairs.filter fun r => r.kind = 2).map (·.unit)).dedup
      plotsAssign (failRows (fails.foldl (fun d e => plotFails d e.1 e.2) (units.foldl arrayLoad d))) := by
  unfold plotsStep plotsAssign plotsNumbered failRows goodOf
  with_reducible rfl

theorem plotsStep_unrepaired {d : Dev} (hr : ∀ r ∈ d.flash.repairs, r.kind ≠ 2) (hf : d.boot.failed = [])
    (x : Option (Nat × Nat)) :
    plotsStep d x.toList = plotsAssign (failRows { d with boot := { d.boot with failed := x.toList } }) := by
  have rows : d.flash.repairs.filter (fun r => r.kind = 2) = [] := List.filter_eq_nil_iff.mpr fun r hx => by simp [hr r hx]
  rw [plotsStep_eq, rows]
  dsimp only
  rw [List.map_nil, List.dedup_nil, List.foldl_nil, plotFails_option hf]

/-- The two halves numbered with enough good plots. -/
theorem plotsAssign_full {d : Dev} (hr : ∀ r ∈ d.flash.repairs, r.kind ≠ 1) {l : Licence} (hl : d.licence = some l)
    {bad : List Nat} (hb : d.boot.failed.map (·.1) = bad) {e : Dev}
    (he : plotsNumbered d (numberHalf (goodOf bad 0) 0 l.west) (numberHalf (goodOf bad 1) 512 l.east) = e)
    (full : e.numbering.length = l.west + l.east) : plotsAssign d = e := by
  have units : d.flash.repairs.filter (fun r => r.kind = 1) = [] := List.filter_eq_nil_iff.mpr fun r hx => by simp [hr r hx]
  unfold plotsAssign
  dsimp only
  rw [units, hl, hb]
  rw [List.map_nil, List.nil_append, Option.map_some, Option.map_some, Option.getD_some, Option.getD_some, he,
    if_neg (by omega)]

theorem failRows_only (d : Dev) : RegsOnly d (failRows d) :=
  List.foldlRecOn (motive := RegsOnly d) (List.range (min 64 d.boot.failed.length)) _ (RegsOnly.refl d) fun _ he _ _ =>
    ((he.trans (RegsOnly.rs _ _ _)).trans (RegsOnly.rs _ _ _)).trans (RegsOnly.rs _ _ _)

theorem RegsOnly.boot {d e : Dev} (h : RegsOnly d e) : e.boot = d.boot := by rw [h.1]
theorem RegsOnly.licence {d e : Dev} (h : RegsOnly d e) : e.licence = d.licence := by rw [h.1]

theorem failRows_one {d : Dev} {e : Nat × Nat} (h : d.boot.failed = [e]) (hp : e.1 < 2048) :
    (failRows d).rg (fBRW_PLOTFAIL_VALID.at 0) = 1 ∧ (failRows d).rg (fBRW_PLOTFAIL_PLOT.at 0) = e.1 ∧
      (failRows d).rg (fBRW_PLOTFAIL_TEST.at 0) = e.2 % 16 := by
  have one : failRows d = ((d.rs (fBRW_PLOTFAIL_VALID.at 0) 1).rs (fBRW_PLOTFAIL_TEST.at 0) e.2).rs (fBRW_PLOTFAIL_PLOT.at 0) e.1 := by
    unfold failRows
    rw [h, show List.range (min 64 [e].length) = [0] from rfl, List.foldl_cons, List.foldl_nil]
    dsimp only
    rw [h]
    rfl
  rw [one]
  simp (disch := decide) only [Dev.rg_rs_ne, Dev.rg_rs_same]
  exact ⟨rfl, Nat.mod_eq_of_lt hp, rfl⟩

/-! ### The numbers (R26) -/

/-- Numbers `base + k` on, given to the good plots in their order. -/
theorem find?_number (good : List Nat) (base count k n : Nat) (hn : k ≤ n) :
    SMap.find? (base + n) (((List.range' k count).zip good).map fun e => (base + e.1, e.2)) =
      if n < k + count then good[n - k]? else none := by
  induction good generalizing k count with
  | nil => simp [SMap.find?]
  | cons p t ih =>
    cases count with
    | zero => rw [if_neg (by omega)]; rfl
    | succ count =>
      rw [List.range'_succ, List.zip_cons_cons, List.map_cons, SMap.find?]
      by_cases e : k = n
      · subst e
        rw [if_pos rfl, if_pos (by omega), Nat.sub_self]
        rfl
      · rw [if_neg (by omega), ih count (k + 1) (by omega), show n - k = (n - (k + 1)) + 1 by omega, List.getElem?_cons_succ,
          show k + 1 + count = k + (count + 1) by omega]

theorem find?_numberHalf (good : List Nat) (base count n : Nat) :
    SMap.find? (base + n) (numberHalf good base count).1 = if n < count then good[n]? else none := by
  unfold numberHalf
  rw [List.range_eq_range', find?_number _ _ _ 0 _ n.zero_le, Nat.zero_add, Nat.sub_zero]

theorem numberHalf_length (good : List Nat) (base count : Nat) :
    (numberHalf good base count).1.length = min count good.length := by
  unfold numberHalf
  rw [List.length_map, List.length_zip, List.length_range]

theorem plotsNumbered_numbering (d : Dev) (w e : List (Nat × Nat) × List Nat) :
    (plotsNumbered d w e).numbering = w.1 ++ e.1 := by
  have crit : ∀ a : Dev, (critWrite a 1).numbering = a.numbering := fun a => ((StepSide.refl a).critWrite 1).numbering
  exact crit _

theorem plotsNumbered_phys_west (d : Dev) {gw ge : List Nat} {west east n : Nat} (hw : west ≤ gw.length) (hn : n < west) :
    (plotsNumbered d (numberHalf gw 0 west) (numberHalf ge 512 east)).phys n = gw[n]? := by
  have found := find?_numberHalf gw 0 west n
  rw [Nat.zero_add, if_pos hn, List.getElem?_eq_getElem (by omega)] at found
  unfold Dev.phys
  rw [plotsNumbered_numbering, SMap.find?_append, found, List.getElem?_eq_getElem (by omega)]
  rfl

theorem plotsNumbered_phys_east (d : Dev) {gw ge : List Nat} {west east n : Nat} (hw : west ≤ 512) (hn : n < east) :
    (plotsNumbered d (numberHalf gw 0 west) (numberHalf ge 512 east)).phys (512 + n) = ge[n]? := by
  have found := find?_numberHalf gw 0 west (512 + n)
  rw [Nat.zero_add, if_neg (by omega)] at found
  unfold Dev.phys
  rw [plotsNumbered_numbering, SMap.find?_append, found, Option.none_or, find?_numberHalf, if_pos hn]

/-- The plots of a half (R23, R24). -/
def halfPlots (h : Nat) : List Nat := (List.range 2048).filter fun p => isPlot p && decide (p / 1024 = h)

theorem halfPlots_length {h : Nat} (hh : h < 2) : (halfPlots h).length = 544 := by
  rcases (by omega : h = 0 ∨ h = 1) with rfl | rfl <;> decide +kernel

theorem goodOf_option (x : Option (Nat × Nat)) (h : Nat) :
    goodOf (x.toList.map (·.1)) h = (halfPlots h).filter fun p => x.all fun e => decide (e.1 ≠ p) := by
  unfold goodOf halfPlots allPlots plotHalf
  rw [List.filter_filter, List.filter_filter]
  refine List.filter_congr fun p _ => ?_
  cases x with
  | none => simp [Bool.and_comm]
  | some e =>
    rw [Bool.eq_iff_iff]
    simp only [Option.toList_some, List.map_cons, List.map_nil, List.contains_cons, List.contains_nil, Option.all_some,
      Bool.and_eq_true, decide_eq_true_eq, Bool.not_eq_true', Bool.or_false, beq_eq_false_iff_ne]
    exact ⟨fun ⟨⟨half, other⟩, plot⟩ => ⟨other.symm, plot, half⟩, fun ⟨other, plot, half⟩ => ⟨⟨half, other.symm⟩, plot⟩⟩

theorem goodOf_length (x : Option (Nat × Nat)) {h : Nat} (hh : h < 2) : 512 ≤ (goodOf (x.toList.map (·.1)) h).length := by
  have all := halfPlots_length hh
  rw [goodOf_option]
  cases x with
  | none =>
    have all_good : ((halfPlots h).filter fun p => (none : Option (Nat × Nat)).all fun e => decide (e.1 ≠ p)) = halfPlots h :=
      List.filter_eq_self.mpr fun _ _ => rfl
    rw [all_good]
    omega
  | some e =>
    have nodup : (halfPlots h).Nodup := List.nodup_range.filter _
    have left := List.le_length_erase (a := e.1) (l := halfPlots h)
    rw [nodup.erase_eq_filter] at left
    have same : ((halfPlots h).filter fun p => (some e).all fun e => decide (e.1 ≠ p)) = (halfPlots h).filter (· != e.1) :=
      List.filter_congr fun p _ => by
        rw [Bool.eq_iff_iff]
        simp only [Option.all_some, bne_iff_ne, decide_eq_true_eq]
        exact ne_comm
    rw [same]
    omega

theorem plotsNumbered_length (d : Dev) (x : Option (Nat × Nat)) {west east : Nat} (hw : west ≤ 512) (he : east ≤ 512) :
    (plotsNumbered d (numberHalf (goodOf (x.toList.map (·.1)) 0) 0 west)
      (numberHalf (goodOf (x.toList.map (·.1)) 1) 512 east)).numbering.length = west + east := by
  have enough := fun h (hh : h < 2) => goodOf_length x hh
  have gw := enough 0 (by decide)
  have ge := enough 1 (by decide)
  rw [plotsNumbered_numbering, List.length_append, numberHalf_length, numberHalf_length]
  omega

theorem plotsNumbered_inService (d : Dev) (w e : List (Nat × Nat) × List Nat) :
    (plotsNumbered d w e).rg fBRW_PLOTS_IN_SERVICE = (plotsNumbered d w e).numbering.length % 2 ^ 11 := by
  have counts : ∀ a : Dev, (plotCounts a).rg fBRW_PLOTS_IN_SERVICE = a.numbering.length % 2 ^ 11 := fun a => by
    unfold plotCounts
    simp (disch := decide) only [Dev.rg_rs_ne, Dev.rg_rs_same]
    rfl
  exact counts _

/-- The registers that the numbering keeps. -/
theorem plotsNumbered_rg (d : Dev) (w e : List (Nat × Nat) × List Nat) {g : Fld} (hg : StepReg g.key)
    (hp : g.key / 64 ≠ 0x30) : (plotsNumbered d w e).rg g = d.rg g := by
  have counts : ∀ a : Dev, (plotCounts a).rg g = a.rg g := fun a => by
    have other : ∀ f ∈ [fBRW_PLOTS_IN_SERVICE, fBRW_PLOTS_ABSENT, fBRW_PLOTS_SPARE_WEST, fBRW_PLOTS_SPARE_EAST], g.key ≠ f.key :=
      fun f hf same => hp (same ▸ (by decide : ∀ f ∈ [fBRW_PLOTS_IN_SERVICE, fBRW_PLOTS_ABSENT, fBRW_PLOTS_SPARE_WEST,
        fBRW_PLOTS_SPARE_EAST], f.key / 64 = 0x30) f hf)
    unfold plotCounts
    dsimp only
    rw [Dev.rg_rs_ne _ (other _ (by simp)), Dev.rg_rs_ne _ (other _ (by simp)), Dev.rg_rs_ne _ (other _ (by simp)),
      Dev.rg_rs_ne _ (other _ (by simp))]
  have crit : ∀ a : Dev, (critWrite a 1).rg g = a.rg g := fun a => ((StepSide.refl a).critWrite 1).regs g hg
  unfold plotsNumbered
  rw [counts, crit]
  rfl

theorem stepReg_plotFail : ∀ f ∈ [fBRW_PLOTFAIL_VALID.at 0, fBRW_PLOTFAIL_PLOT.at 0, fBRW_PLOTFAIL_TEST.at 0],
    StepReg f.key ∧ f.key / 64 ≠ 0x30 := by unfold StepReg outsideRecord; decide

/-- What PLOTS leaves: the numbers of both halves, their count, and the plot that failed. -/
def PlotsNumbered (x : Option (Nat × Nat)) (l : Licence) (e : Dev) : Prop :=
  (∀ n, n < l.west → e.phys n = (goodOf (x.toList.map (·.1)) 0)[n]?) ∧
  (∀ n, n < l.east → e.phys (512 + n) = (goodOf (x.toList.map (·.1)) 1)[n]?) ∧
  e.rg fBRW_PLOTS_IN_SERVICE = l.west + l.east ∧
  ∀ f ∈ x, e.rg (fBRW_PLOTFAIL_VALID.at 0) = 1 ∧ e.rg (fBRW_PLOTFAIL_PLOT.at 0) = f.1 ∧
    e.rg (fBRW_PLOTFAIL_TEST.at 0) = f.2 % 16

theorem isPlot_lt {p : Nat} (h : isPlot p = true) : p < 2048 := by
  simp only [isPlot, Bool.and_eq_true, decide_eq_true_eq] at h
  exact h.1

theorem plotsNumbered_assigned {d : Dev} {x : Option (Nat × Nat)} (hx : ∀ e ∈ x, isPlot e.1 = true)
    (hd : d.boot.failed = x.toList) {l : Licence} (hw : l.west ≤ 512) (he : l.east ≤ 512) :
    PlotsNumbered x l (plotsNumbered (failRows d) (numberHalf (goodOf (x.toList.map (·.1)) 0) 0 l.west)
      (numberHalf (goodOf (x.toList.map (·.1)) 1) 512 l.east)) := by
  have enough := goodOf_length x (h := 0) (by decide)
  refine ⟨fun n hn => plotsNumbered_phys_west _ (by omega) hn, fun n hn => plotsNumbered_phys_east _ hw hn, ?_, ?_⟩
  · rw [plotsNumbered_inService, plotsNumbered_length _ x hw he]
    exact Nat.mod_eq_of_lt (by omega)
  · rintro e he
    obtain ⟨valid, plot, test⟩ := failRows_one (e := e) (by rw [hd, Option.mem_def.mp he]; rfl) (isPlot_lt (hx e he))
    have keep := fun f hf => plotsNumbered_rg (failRows d) (numberHalf (goodOf (x.toList.map (·.1)) 0) 0 l.west)
      (numberHalf (goodOf (x.toList.map (·.1)) 1) 512 l.east) (stepReg_plotFail f hf).1 (stepReg_plotFail f hf).2
    exact ⟨(keep _ (by simp)).trans valid, (keep _ (by simp)).trans plot, (keep _ (by simp)).trans test⟩

theorem plotsStep_assigns {d : Dev} (hr : ∀ r ∈ d.flash.repairs, r.kind ≠ 1 ∧ r.kind ≠ 2) (hf : d.boot.failed = [])
    {l : Licence} (hl : d.licence = some l) (hw : l.west ≤ 512) (he : l.east ≤ 512) {x : Option (Nat × Nat)}
    (hx : ∀ e ∈ x, isPlot e.1 = true) : PlotsNumbered x l (plotsStep d x.toList) := by
  rw [plotsStep_unrepaired (fun r h => (hr r h).2) hf]
  generalize ho : ({ d with boot := { d.boot with failed := x.toList } } : Dev) = o
  have failed : o.boot.failed = x.toList := by rw [← ho]
  have licence : o.licence = some l := by rw [← ho]; exact hl
  have repairs : ∀ r ∈ o.flash.repairs, r.kind ≠ 1 := by rw [← ho]; exact fun r h => (hr r h).1
  have rows := failRows_only o
  rw [plotsAssign_full (by rw [rows.flash]; exact repairs) (rows.licence.trans licence) (by rw [rows.boot, failed]) rfl
    (plotsNumbered_length _ x hw he)]
  exact plotsNumbered_assigned hx failed hw he

theorem PlotsNumbered.outcome {x : Option (Nat × Nat)} {l : Licence} {d : Dev} (h : PlotsNumbered x l d) (code : Nat) :
    PlotsNumbered x l (brwOutcome d code) := h

theorem stepPlots_numbers {s : State} (h : Live s) (hd : s.dev.rg fBRW_STATUS_STATE = 2)
    (hk : s.dev.rg fBRW_STATUS_LAST_DONE + 1 = 7) (hf : s.dev.boot.failed = [])
    (hr : ∀ r ∈ s.dev.flash.repairs, r.kind ≠ 1 ∧ r.kind ≠ 2) {l : Licence} (hl : s.dev.licence = some l) (hw : l.west ≤ 512)
    (he : l.east ≤ 512) {x : Option (Nat × Nat)} (hx : ∀ e ∈ x, isPlot e.1 = true) :
    Completes (.stepPlots x.toList) s fun t => t.dev.boot.outcome = some 0 ∧ PlotsNumbered x l t.dev := by
  have side := stepBegun_side s.dev 7
  have plots : x.toList.filter (fun e => isPlot e.1) = x.toList :=
    List.filter_eq_self.mpr fun e h => hx e (Option.mem_toList.mp h)
  refine bringStep_completes (act := fun _ d => brwOutcome (plotsStep d (x.toList.filter fun e => isPlot e.1)) 0)
    rfl h hd hk (by decide) ?_
  rw [plots]
  exact ⟨brwOutcome_outcome _ _, (plotsStep_assigns (by rw [side.flash]; exact hr) ((stepBegun_failed _ _).trans hf)
    (side.licence.trans hl) hw he hx).outcome 0⟩

/-! ## GDDR (R291, R296) -/

theorem pprRun_none {d : Dev} (h : ∀ r ∈ d.flash.repairs, r.kind ≠ 4) (c : Nat) (results : List (Nat × Nat × Nat)) :
    pprRun d c results = d := by
  have rows : d.flash.repairs.filter (fun r => r.kind = 4 && r.unit = c) = [] :=
    List.filter_eq_nil_iff.mpr fun r hr => by simp [h r hr]
  unfold pprRun
  rw [rows]
  rfl

/-- A controller trains, or does not. -/
def gddrTrain (down : List Nat) (d : Dev) (c : Nat) : Dev :=
  if down.contains c then recordErr (d.rs (fGDC_STATUS_STATE.at c) 5) 8 c 0x090A else d.rs (fGDC_STATUS_STATE.at c) 2

theorem gddrTrain_only (down : List Nat) (d : Dev) (c : Nat) : RegsOnly d (gddrTrain down d c) :=
  RegsOnly.ite _ ((RegsOnly.rs _ _ _).trans (RegsOnly.recordErr _ _ _ _)) (RegsOnly.rs _ _ _)

theorem gddrTrain_foldl_only (down l : List Nat) (d : Dev) : RegsOnly d (l.foldl (gddrTrain down) d) :=
  List.foldlRecOn (motive := RegsOnly d) l _ (RegsOnly.refl d) fun _ he c _ => he.trans (gddrTrain_only down _ c)

/-- Without rows to repair, training is all that a controller does. -/
theorem foldl_gddrTrain {down : List Nat} (l : List Nat) {d : Dev} (h : ∀ r ∈ d.flash.repairs, r.kind ≠ 4) :
    l.foldl (fun d c => if down.contains c then recordErr (d.rs (fGDC_STATUS_STATE.at c) 5) 8 c 0x090A
      else pprRun (d.rs (fGDC_STATUS_STATE.at c) 2) c []) d = l.foldl (gddrTrain down) d := by
  induction l generalizing d with
  | nil => rfl
  | cons c t ih =>
    have one : (if down.contains c then recordErr (d.rs (fGDC_STATUS_STATE.at c) 5) 8 c 0x090A
        else pprRun (d.rs (fGDC_STATUS_STATE.at c) 2) c []) = gddrTrain down d c := by
      unfold gddrTrain
      rw [pprRun_none (d := d.rs (fGDC_STATUS_STATE.at c) 2) h]
    rw [List.foldl_cons, List.foldl_cons, one, ih (by rw [(gddrTrain_only down d c).flash]; exact h)]

theorem stepReg_gdcState {c : Nat} (hc : c < 24) : StepReg (fGDC_STATUS_STATE.at c).key := by
  simp only [StepReg, outsideRecord, Fld.at, Fld.key, fGDC_STATUS_STATE]
  omega

theorem gddrTrain_state (down : List Nat) (d : Dev) {c : Nat} (hc : c < 24) :
    (gddrTrain down d c).rg (fGDC_STATUS_STATE.at c) = if c ∈ down then 5 else 2 := by
  unfold gddrTrain
  by_cases h : c ∈ down
  · rw [if_pos (List.contains_iff_mem.mpr h), if_pos h,
      ((StepSide.refl _).recordErr 8 c 0x090A).regs _ (stepReg_gdcState hc), Dev.rg_rs_same]
    rfl
  · rw [if_neg (mt List.contains_iff_mem.mp h), if_neg h, Dev.rg_rs_same]
    rfl

theorem gddrTrain_state_ne (down : List Nat) (d : Dev) {a c : Nat} (h : a ≠ c) (hc : c < 24) :
    (gddrTrain down d a).rg (fGDC_STATUS_STATE.at c) = d.rg (fGDC_STATUS_STATE.at c) := by
  have other : (fGDC_STATUS_STATE.at c).key ≠ (fGDC_STATUS_STATE.at a).key := by
    simp only [Fld.at, Fld.key, fGDC_STATUS_STATE]
    omega
  unfold gddrTrain
  split_ifs
  · rw [((StepSide.refl _).recordErr 8 a 0x090A).regs _ (stepReg_gdcState hc), Dev.rg_rs_ne _ other]
  · rw [Dev.rg_rs_ne _ other]

theorem SawClass.gddrTrain {d : Dev} (h : SawClass 9 d) (down : List Nat) (c : Nat) : SawClass 9 (gddrTrain down d c) :=
  SawClass.ite _ (recordErr_sawClass _ 8 c rfl (by decide)) (h.rs _ _ (by
    simp only [Fld.at, Fld.key, fGDC_STATUS_STATE, fERR_CLASS_SEEN_SEEN]
    omega))

theorem gddrTrain_down {down : List Nat} {c : Nat} (h : c ∈ down) (d : Dev) : SawClass 9 (gddrTrain down d c) := by
  unfold Machine.gddrTrain
  rw [if_pos (List.contains_iff_mem.mpr h)]
  exact recordErr_sawClass _ 8 c rfl (by decide)

theorem foldl_gddrTrain_sawClass {down : List Nat} (l : List Nat) (d : Dev) (h : SawClass 9 d ∨ ∃ c ∈ l, c ∈ down) :
    SawClass 9 (l.foldl (gddrTrain down) d) := by
  induction l generalizing d with
  | nil => exact h.resolve_right fun ⟨c, hc, _⟩ => absurd hc List.not_mem_nil
  | cons a t ih =>
    refine ih _ ?_
    rcases h with h | ⟨c, hc, hd⟩
    · exact .inl (h.gddrTrain down a)
    · rcases List.mem_cons.mp hc with rfl | hc
      · exact .inl (gddrTrain_down hd d)
      · exact .inr ⟨c, hc, hd⟩

/-- The device with memory clear and every controller tried. -/
def gddrTried (d : Dev) (down : List Nat) : Dev := (List.range 24).foldl (gddrTrain down) { d with gddr := [] }

theorem gddrStep_eq {d : Dev} (h : ∀ r ∈ d.flash.repairs, r.kind ≠ 4) (down : List Nat) :
    gddrStep d down [] = brwOutcome { gddrTried d down with
      retired := (((gddrTried d down).flash.repairs.filter fun r => r.kind = 4).flatMap
        fun r => rowGranules r.unit r.bank r.row).dedup }
      (if (List.range 24).any (down.contains ·) then 0x090A else 0) := by
  have fold := foldl_gddrTrain (down := down) (List.range 24) (d := { d with gddr := [] }) h
  unfold gddrStep gddrTried
  dsimp only
  rw [← fold]

/-- What GDDR leaves in memory, in the controllers and in the record. -/
def GddrTried (down : List Nat) (e : Dev) : Prop :=
  e.gddr = [] ∧ (∀ c, c < 24 → e.rg (fGDC_STATUS_STATE.at c) = if c ∈ down then 5 else 2) ∧ (down ≠ [] → SawClass 9 e)

theorem gddrTried_spec (d : Dev) {down : List Nat} (hd : ∀ c ∈ down, c < 24) : GddrTried down (gddrTried d down) := by
  refine ⟨(gddrTrain_foldl_only down _ _).gddr, fun c hc => ?_, fun some => ?_⟩
  · exact foldl_rg_set (c := c) _ (List.mem_range.mpr hc) (fun e => gddrTrain_state down e hc)
      (fun e a _ ha => gddrTrain_state_ne down e ha hc) _
  · obtain ⟨c, hc⟩ := List.exists_mem_of_ne_nil _ some
    exact foldl_gddrTrain_sawClass _ _ (.inr ⟨c, List.mem_range.mpr (hd c hc), hc⟩)

theorem GddrTried.done {down : List Nat} {d : Dev} (h : GddrTried down d) (l : List Nat) (code : Nat) :
    GddrTried down (brwOutcome { d with retired := l } code) := h

theorem any_down {down : List Nat} (hd : ∀ c ∈ down, c < 24) : (List.range 24).any (down.contains ·) = true ↔ down ≠ [] := by
  rw [List.any_eq_true]
  constructor
  · rintro ⟨c, -, hc⟩ rfl
    exact absurd (List.contains_iff_mem.mp hc) List.not_mem_nil
  · intro some
    obtain ⟨c, hc⟩ := List.exists_mem_of_ne_nil _ some
    exact ⟨c, List.mem_range.mpr (hd c hc), List.contains_iff_mem.mpr hc⟩

theorem stepGddr_tries {s : State} (h : Live s) (hd : s.dev.rg fBRW_STATUS_STATE = 2)
    (hk : s.dev.rg fBRW_STATUS_LAST_DONE + 1 = 8) (hr : ∀ r ∈ s.dev.flash.repairs, r.kind ≠ 4) {down : List Nat}
    (hc : ∀ c ∈ down, c < 24) : Completes (.stepGddr down []) s fun t =>
      t.dev.boot.outcome = some (if down = [] then 0 else 0x090A) ∧ GddrTried down t.dev := by
  refine bringStep_completes (act := fun _ d => gddrStep d down []) rfl h hd hk (by decide) ?_
  rw [gddrStep_eq (by rw [(stepBegun_side s.dev 8).flash]; exact hr)]
  refine ⟨(brwOutcome_outcome _ _).trans ?_, (gddrTried_spec _ hc).done _ _⟩
  by_cases none : down = []
  · rw [if_neg (fun some => (any_down hc).mp some none), if_pos none]
  · rw [if_pos ((any_down hc).mpr none), if_neg none]

end Sys2Proof.Machine
end

section
/-! PROOFS. The bring-up steps SHED, HANDSHAKE and RUN, and the steps together. -/

namespace Sys2Proof.Machine

/-! ## SHED (R531 to R533) -/

theorem imageCheck_congr {d e : Dev} (h : e.flash = d.flash) (k : e.rg fTRU_STATUS_KEY_VALID = d.rg fTRU_STATUS_KEY_VALID)
    (f : Fuses) (b : List Byte) : imageCheck f e b = imageCheck f d b := by
  unfold imageCheck
  rw [sigCode_congr h k]

/-- A refused image has a code of the trust area. -/
theorem imageCheck_class {f : Fuses} {d : Dev} {b : List Byte} (h : imageCheck f d b ≠ 0) : imageCheck f d b / 256 = 5 := by
  unfold imageCheck sigCode at h ⊢
  dsimp only at h ⊢
  split_ifs at h ⊢
  · rfl
  · rfl
  · rfl
  · exact absurd rfl h

theorem imageCheck_form {f : Fuses} {d : Dev} {b : List Byte} (h : imageCheck f d b = 0) :
    128 ≤ imageLen b ∧ imageLen b ≤ 505819 := by
  have form : imageForm b = true := by
    by_contra bad
    unfold imageCheck at h
    rw [Bool.eq_false_of_not_eq_true bad, if_pos (by rfl)] at h
    exact absurd h (by decide)
  simp only [imageForm, Bool.and_eq_true, decide_eq_true_eq] at form
  omega

theorem flRead_length (d : Dev) (a n : Nat) : (flRead d a n).length = n := flBytes_length _ _ _

theorem sramFlips_clean {d : Dev} (h : d.shed.sramErr = []) (w : Nat) : sramFlips d w = 0 := by
  unfold sramFlips
  rw [h, SMap.get_nil, popCount_zero]

theorem sramScrub_clean {d : Dev} (h : d.shed.sramErr = []) (ws : List Nat) : sramScrub d ws = d :=
  List.foldlRecOn (motive := fun e : Dev => e = d) ws _ rfl fun e he w _ => by
    rw [he, sramFlips_clean h, if_neg (by decide)]

theorem sramWrite_clean {d : Dev} (h : d.shed.sramErr = []) (core off : Nat) (bytes : List Byte) :
    (sramWrite d core off bytes).1.shed.sram = memWrite d.shed.sram off bytes := by
  have sound : ∀ (p : Nat → Bool) (l : List Nat), l.find? (fun w => p w && decide (2 ≤ sramFlips d w)) = none := fun p l =>
    List.find?_eq_none.mpr fun w _ => by rw [sramFlips_clean h]; simp
  unfold sramWrite
  dsimp only
  rw [sound]
  dsimp only
  rw [sramScrub_clean h]
  split_ifs <;> rfl

/-- What a running image leaves. -/
def ImageRuns (b : List Byte) (slot : Nat) (e : Dev) : Prop :=
  e.rg fSHD_FW_VERSION = recV b 8 4 ∧ e.rg fTRU_STATUS_SLOT_BOOTED = slot ∧ e.trust.region = 0 ∧
    e.trust.image = b.take 128 ∧ memRead e.shed.sram 0 (imageLen b + sigBytes) = imageWhole b

theorem ImageRuns.side {b : List Byte} {slot : Nat} {d e : Dev} (h : ImageRuns b slot d) (k : StepSide d e) :
    ImageRuns b slot e := by
  unfold ImageRuns
  rw [k.regs _ (stepReg_fields fSHD_FW_VERSION (by simp)), k.regs _ (stepReg_fields fTRU_STATUS_SLOT_BOOTED (by simp)), k.trust,
    k.shed]
  exact h

/-- The device with an image in region 0, and its header kept. -/
def imageHeld (d : Dev) (img : List Byte) : Dev :=
  { imageLoad d 0 img with trust := { (imageLoad d 0 img).trust with region := 0, image := img.take 128 } }

theorem imageRun_eq (d : Dev) (b : List Byte) (slot pushedIn : Nat) :
    imageRun d b slot pushedIn = (((setMeas (imageHeld d (imageWhole b)) 1 (imageWhole b)).rs fSHD_FW_VERSION
      (recV (imageWhole b) 8 4)).rs fTRU_STATUS_SLOT_BOOTED slot).rs fTRU_STATUS_PUSHED pushedIn := by
  unfold imageRun imageHeld
  with_reducible rfl

theorem recV_take {b : List Byte} {i n k : Nat} (h : i + n ≤ k) : recV (b.take k) i n = recV b i n := by
  unfold recV
  rw [List.drop_take, List.take_take, Nat.min_eq_left (by omega)]

theorem imageRun_runs {d : Dev} (h : d.shed.sramErr = []) {b : List Byte} (hb : b.length = 524288)
    (hl : 128 ≤ imageLen b ∧ imageLen b ≤ 505819) {slot : Nat} (hs : slot < 2) (pushedIn : Nat) :
    ImageRuns b slot (imageRun d b slot pushedIn) := by
  have length : (imageWhole b).length = imageLen b + sigBytes := by
    unfold imageWhole sigBytes
    rw [List.length_take]
    omega
  have version : recV (imageWhole b) 8 4 = recV b 8 4 := recV_take (by omega)
  have header : (imageWhole b).take 128 = b.take 128 := by
    unfold imageWhole
    rw [List.take_take, Nat.min_eq_left (by omega)]
  have held : memRead (imageHeld d (imageWhole b)).shed.sram 0 (imageLen b + sigBytes) = imageWhole b := by
    have written : (imageHeld d (imageWhole b)).shed.sram = memWrite d.shed.sram 0 (imageWhole b) := sramWrite_clean h 0 0 _
    rw [written, ← length, memRead_memWrite]
  have measured := (StepSide.refl (imageHeld d (imageWhole b))).setMeas (m := 1) (by decide) (imageWhole b)
  have region : (imageHeld d (imageWhole b)).trust.region = 0 := rfl
  have image : (imageHeld d (imageWhole b)).trust.image = (imageWhole b).take 128 := rfl
  rw [imageRun_eq, version]
  generalize setMeas (imageHeld d (imageWhole b)) 1 (imageWhole b) = e at measured
  generalize imageHeld d (imageWhole b) = o at held measured region image
  refine ⟨?_, ?_, ?_, ?_, ?_⟩
  · rw [Dev.rg_rs_ne _ (by decide), Dev.rg_rs_ne _ (by decide), Dev.rg_rs_same]
    exact Nat.mod_eq_of_lt (recV_lt b 8 4)
  · rw [Dev.rg_rs_ne _ (by decide), Dev.rg_rs_same]
    exact Nat.mod_eq_of_lt hs
  · change e.trust.region = 0
    rw [measured.trust, region]
  · change e.trust.image = b.take 128
    rw [measured.trust, image, header]
  · change memRead e.shed.sram 0 (imageLen b + sigBytes) = imageWhole b
    rw [measured.shed, held]

/-- The warning of an image from the other slot. -/
def shedWarned (d : Dev) : Dev := { d with boot := { d.boot with warn := 0x0515 } }

/-- The step with the active image refused. -/
def shedOther (f : Fuses) (d : Dev) (slot : Nat) : Dev :=
  let b := flRead d (flSLOT (1 - slot)) 524288
  let tb := imageCheck f d b
  if tb = 0 then brwOutcome (shedWarned (truErr (imageRun d b (1 - slot) 0) 0x0515)) 0
  else brwOutcome (truErr d tb) 0x0112

/-- The step with the active slot read. -/
def shedChoose (f : Fuses) (d : Dev) (slot : Nat) : Dev :=
  let a := flRead d (flSLOT slot) 524288
  let ta := imageCheck f d a
  if ta = 0 then brwOutcome (imageRun d a slot 0) 0 else shedOther f (truErr d ta) slot

theorem shedStep_flash {d : Dev} (q : Machine.pushed d = (d, none, 0)) {slot : Nat} (hs : slot < 2)
    (hp : pairRead d flSELECT magicS = (d, some slot)) (f : Fuses) :
    shedStep f d = shedChoose f (d.rs fTRU_STATUS_SLOT_ACTIVE slot) slot := by
  unfold shedStep shedChoose shedOther shedWarned
  rw [q]
  dsimp only
  rw [if_neg zero_not_ne, hp]
  dsimp only
  rw [Option.getD_some, Nat.min_eq_right (by omega)]

theorem StepSide.imageCheck {o d : Dev} (h : StepSide o d) (f : Fuses) (b : List Byte) :
    Machine.imageCheck f d b = Machine.imageCheck f o b :=
  imageCheck_congr h.flash (h.regs _ (stepReg_fields _ (by simp))) f b

section
variable {o d : Dev} (side : StepSide o d) {slot : Nat} {f : Fuses} {a b : List Byte}
  (ha : flRead o (flSLOT slot) 524288 = a) (hb : flRead o (flSLOT (1 - slot)) 524288 = b)
include side

include ha in
theorem shedChoose_first (good : imageCheck f o a = 0) : shedChoose f d slot = brwOutcome (imageRun d a slot 0) 0 := by
  unfold shedChoose
  dsimp only
  rw [flRead_congr side.flash, ha, side.imageCheck, good, if_pos rfl]

include ha in
theorem shedChoose_other (bad : imageCheck f o a ≠ 0) :
    shedChoose f d slot = shedOther f (truErr d (imageCheck f o a)) slot := by
  unfold shedChoose
  dsimp only
  rw [flRead_congr side.flash, ha, side.imageCheck, if_neg bad]

include hb in
theorem shedOther_second (good : imageCheck f o b = 0) :
    shedOther f d slot = brwOutcome (shedWarned (truErr (imageRun d b (1 - slot) 0) 0x0515)) 0 := by
  unfold shedOther
  dsimp only
  rw [flRead_congr side.flash, hb, side.imageCheck, good, if_pos rfl]

include hb in
theorem shedOther_none (bad : imageCheck f o b ≠ 0) :
    shedOther f d slot = brwOutcome (truErr d (imageCheck f o b)) 0x0112 := by
  unfold shedOther
  dsimp only
  rw [flRead_congr side.flash, hb, side.imageCheck, if_neg bad]

end

theorem StepSide.shedWarned {o d : Dev} (h : StepSide o d) : StepSide o (shedWarned d) := h.boot _

theorem shedWarned_warn (d : Dev) (code : Nat) : (brwOutcome (shedWarned d) code).boot.warn = 0x0515 := rfl

theorem SawClass.shedWarned {k : Nat} {d : Dev} (h : SawClass k d) : SawClass k (shedWarned d) := h.of_rg rfl

section
variable {s : State} (h : Live s) (hd : s.dev.rg fBRW_STATUS_STATE = 2) (src : s.dev.rg fBRW_STRAPS_BOOT_SRC = 0)
  (hk : s.dev.rg fBRW_STATUS_LAST_DONE + 1 = 9) {seq slot : Nat} (hs : slot < 2)
  (hp : ∀ c, c < 3 → pairGood magicS (flRead s.dev (flSELECT + c * 0x1000) 64) = some (seq, slot))
include h hd src hk hs hp

/-- SHED comes to the choice of an image on a device that differs in the step's own registers. -/
theorem stepShed_completes {P : State → Prop}
    (hP : ∀ d, StepSide s.dev d → P { s with dev := shedChoose s.fused d slot }) : Completes .stepShed s P := by
  have side := stepBegun_side s.dev 9
  have pair : pairRead (stepBegun s.dev 9) flSELECT magicS = (stepBegun s.dev 9, some slot) :=
    pairRead_good fun c hc => by rw [flRead_congr side.flash]; exact hp c hc
  refine bringStep_completes (act := shedStep) rfl h hd hk (by decide) ?_
  rw [shedStep_flash (side.pushed src) hs pair]
  exact hP _ (side.rs (by unfold StepReg outsideRecord; decide) slot)

variable {a b : List Byte} (clean : s.dev.shed.sramErr = []) (ha : flRead s.dev (flSLOT slot) 524288 = a)
  (hb : flRead s.dev (flSLOT (1 - slot)) 524288 = b)
include ha

include clean in
theorem stepShed_first (good : imageCheck s.fused s.dev a = 0) :
    Completes .stepShed s fun t => t.dev.boot.outcome = some 0 ∧ ImageRuns a slot t.dev := by
  refine stepShed_completes h hd src hk hs hp fun d side => ?_
  have runs : ImageRuns a slot (imageRun d a slot 0) := imageRun_runs (by rw [side.shed]; exact clean)
    (ha ▸ flRead_length _ _ _) (imageCheck_form good) hs 0
  rw [shedChoose_first side ha good]
  exact ⟨brwOutcome_outcome _ _, runs.side ((StepSide.refl _).brwOutcome 0)⟩

include clean hb in
theorem stepShed_second (bad : imageCheck s.fused s.dev a ≠ 0) (good : imageCheck s.fused s.dev b = 0) :
    Completes .stepShed s fun t => (t.dev.boot.outcome = some 0 ∧ ImageRuns b (1 - slot) t.dev) ∧
      t.dev.boot.warn = 0x0515 ∧ SawClass 5 t.dev := by
  refine stepShed_completes h hd src hk hs hp fun d side => ?_
  have told := side.truErr (imageCheck s.fused s.dev a)
  have runs : ImageRuns b (1 - slot) (imageRun (truErr d (imageCheck s.fused s.dev a)) b (1 - slot) 0) :=
    imageRun_runs (by rw [told.shed]; exact clean) (hb ▸ flRead_length _ _ _) (imageCheck_form good) (by omega) 0
  rw [shedChoose_other side ha bad, shedOther_second told hb good]
  exact ⟨⟨brwOutcome_outcome _ _, runs.side (((StepSide.refl _).truErr 0x0515).shedWarned.brwOutcome 0)⟩,
    shedWarned_warn _ _, (truErr_sawClass _ rfl).shedWarned.outcome 0⟩

include hb in
theorem stepShed_none (bad : imageCheck s.fused s.dev a ≠ 0) (other : imageCheck s.fused s.dev b ≠ 0) :
    Completes .stepShed s fun t => t.dev.boot.outcome = some 0x0112 ∧ SawClass 5 t.dev ∧ t.dev.shed.sram = s.dev.shed.sram := by
  refine stepShed_completes h hd src hk hs hp fun d side => ?_
  have told := (side.truErr (imageCheck s.fused s.dev a)).truErr (imageCheck s.fused s.dev b)
  rw [shedChoose_other side ha bad, shedOther_none (side.truErr _) hb other]
  exact ⟨brwOutcome_outcome _ _, (truErr_sawClass _ (imageCheck_class other)).outcome _,
    congrArg Shed.sram (told.brwOutcome 0x0112).shed⟩

end

/-! ## HANDSHAKE and RUN (R365, R366, R411) -/

theorem stepHandshake_opens {s : State} (h : Live s) (hd : s.dev.rg fBRW_STATUS_STATE = 2)
    (hk : s.dev.rg fBRW_STATUS_LAST_DONE + 1 = 11) :
    Completes .stepHandshake s fun t => t.dev.rg fCPL_MBX_STATUS_IN_READY = 1 :=
  bringStep_completes (act := fun _ d => d.rs fCPL_MBX_STATUS_IN_READY 1) rfl h hd hk (by decide) (Dev.rg_rs_same _ _ _)

theorem stepRun_beats {s : State} (h : Live s) (hd : s.dev.rg fBRW_STATUS_STATE = 2)
    (hk : s.dev.rg fBRW_STATUS_LAST_DONE + 1 = 12) :
    Completes .stepRun s fun t => t.dev.boot.outcome = some 0 ∧ t.dev.cpl.hbOn = true ∧ t.dev.cpl.missed = 0 :=
  bringStep_completes (act := fun _ d => brwOutcome { d with cpl := { d.cpl with hbOn := true, missed := 0 } } 0)
    rfl h hd hk (by decide) ⟨rfl, rfl, rfl⟩

/-! ## The steps together -/

theorem filter_good (x : Option (Nat × Nat)) (h : Nat) :
    (List.range 2048).filter (fun p => isPlot p && decide (p / 1024 = h) && x.all fun e => decide (e.1 ≠ p)) =
      goodOf (x.toList.map (·.1)) h := by
  rw [goodOf_option, halfPlots, List.filter_filter]
  exact List.filter_congr fun p _ => Bool.and_comm _ _

/-- Settles O47: each step is its actions on the device that GO has begun, which differs from the device before it only in the
step's own registers. -/
theorem bringUpSteps : Obligations.BringUpSteps := by
  unfold Obligations.BringUpSteps
  intro s h hd src
  dsimp only
  refine ⟨?_, ?_, ?_, ?_, ?_, ?_, ?_, ?_, ?_, ?_, ?_⟩
  case refine_1 =>
    exact fun hk => ⟨stepConfig_noTable h hd src hk, stepConfig_noKey h hd src hk, stepConfig_badForm h hd src hk,
      stepConfig_loads h hd src hk⟩
  case refine_2 =>
    exact fun hk seq index _ hc hr => ⟨stepLicence_none h hd src hk hc hr,
      fun held form sig bound => stepLicence_loads h hd src hk hc hr held rfl rfl form sig bound⟩
  case refine_3 =>
    exact fun hk => ⟨halvesPartnerTimeout_fails h hd hk, fun ports lt a b x y u hi hp ha hu =>
      stepHalves_compares h hd hk hi hp ha hu lt⟩
  case refine_4 => exact fun hk => stepClocks_outcome h hd hk
  case refine_5 => exact fun hk good => stepLanes_starts h hd hk good
  case refine_6 =>
    exact fun hk hr => ⟨stepBeds_clears h hd hk hr, fun p ch bank row hp hc hb hrow lt =>
      stepBeds_remaps h hd hk hr hp hc hb hrow rfl lt⟩
  case refine_7 =>
    intro hk hf hr l hl hw he x hx
    rw [filter_good, filter_good]
    exact stepPlots_numbers h hd hk hf hr hl hw he hx
  case refine_8 => exact fun hk hr down hc => stepGddr_tries h hd hk hr hc
  case refine_9 =>
    exact fun hk seq slot hs clean hp => ⟨stepShed_first h hd src hk hs hp clean rfl,
      stepShed_second h hd src hk hs hp clean rfl rfl, stepShed_none h hd src hk hs hp rfl rfl⟩
  case refine_10 => exact fun hk => stepHandshake_opens h hd hk
  case refine_11 => exact fun hk => stepRun_beats h hd hk

end Sys2Proof.Machine
end

section
/-! PROOFS. Codes in bytes, runs of sparse maps, and sums modulo a power of two: what the number formats need. -/

namespace Sys2Proof.Machine

/-! ## Codes in bytes (R11, R46, R55) -/

theorem leValue_take_add_drop (b : List Byte) (k : Nat) :
    leValue b = leValue (b.take k) + 256 ^ k * leValue (b.drop k) := by
  induction b generalizing k with
  | nil => simp [leValue]
  | cons x t ih =>
    cases k with
    | zero => simp [leValue]
    | succ k =>
      simp only [List.take_succ_cons, List.drop_succ_cons, leValue, pow_succ']
      rw [ih k]
      ring

theorem leValue_take_lt (b : List Byte) (k : Nat) : leValue (b.take k) < 256 ^ k :=
  (leValue_lt _).trans_le (Nat.pow_le_pow_right (by decide) (List.length_take_le _ _))

theorem leValue_div (b : List Byte) (k : Nat) : leValue b / 256 ^ k = leValue (b.drop k) := by
  rw [leValue_take_add_drop b k, Nat.add_mul_div_left _ _ (Nat.pow_pos (by decide)),
    Nat.div_eq_of_lt (leValue_take_lt b k), Nat.zero_add]

theorem leValue_mod (b : List Byte) (k : Nat) : leValue b % 256 ^ k = leValue (b.take k) := by
  rw [leValue_take_add_drop b k, Nat.add_mul_mod_self_left, Nat.mod_eq_of_lt (leValue_take_lt b k)]

@[simp] theorem unpackCodes_length (b n : Nat) (bytes : List Byte) : (unpackCodes b n bytes).length = n := by
  simp [unpackCodes]

/-- A code of `m` whole bytes is those bytes' value. -/
theorem unpackCodes_bytes (m n : Nat) (bytes : List Byte) :
    unpackCodes (8 * m) n bytes = (List.range n).map (fun i => leValue ((bytes.drop (m * i)).take m)) := by
  have byte : ∀ j, 2 ^ (8 * j) = 256 ^ j := fun j => pow_mul 2 8 j
  refine List.map_congr_left fun i _ => ?_
  rw [Nat.mul_assoc, byte, byte, leValue_div, leValue_mod]

theorem leValue_one (b : List Byte) : leValue (b.take 1) = (b.getD 0 0).toNat := by
  cases b <;> simp [leValue]

theorem unpackCodes_byte_getD {n k : Nat} (h : k < n) (bytes : List Byte) :
    (unpackCodes 8 n bytes).getD k 0 = (bytes.getD k 0).toNat := by
  have codes := unpackCodes_bytes 1 n bytes
  rw [Nat.mul_one] at codes
  rw [codes, List.getD_eq_getElem _ _ (by simpa using h)]
  simp [leValue_one]

@[simp] theorem packCodes_length (b : Nat) (codes : List Nat) : (packCodes b codes).length = (codes.length * b + 7) / 8 := by
  simp [packCodes, leBytes_length]

/-- Words written out in bytes, cut again where they were joined. -/
theorem take_drop_flatMap_leBytes (n : Nat) (vals : List Nat) {i : Nat} (h : i < vals.length) :
    ((vals.flatMap (leBytes n)).drop (n * i)).take n = leBytes n vals[i] := by
  induction vals generalizing i with
  | nil => exact absurd h (Nat.not_lt_zero i)
  | cons v t ih =>
    have first : (leBytes n v).length = n := leBytes_length n v
    cases i with
    | zero => simp [first]
    | succ i =>
      rw [List.flatMap_cons, show n * (i + 1) = (leBytes n v).length + n * i by rw [first]; ring, List.drop_length_add_append]
      simpa using ih (by simpa using h)

theorem length_flatMap_leBytes (n : Nat) (vals : List Nat) : (vals.flatMap (leBytes n)).length = n * vals.length := by
  simp [List.length_flatMap, leBytes_length, Nat.mul_comm]

/-- The words that a run of their bytes holds. -/
theorem words_of_flatMap_leBytes (n : Nat) (vals : List Nat) :
    (List.range vals.length).map (fun i => leValue (((vals.flatMap (leBytes n)).drop (n * i)).take n)) =
      vals.map (· % 256 ^ n) := by
  refine List.ext_getElem (by simp) fun i hi _ => ?_
  simp only [List.length_map, List.length_range] at hi
  simp [take_drop_flatMap_leBytes n vals hi, leValue_leBytes]

theorem leBytes_getElem? {n j : Nat} (h : j < n) (v : Nat) : (leBytes n v)[j]? = some (BitVec.ofNat 8 (v / 2 ^ (8 * j))) := by
  induction n generalizing v j with
  | zero => exact absurd h (Nat.not_lt_zero j)
  | succ n ih =>
    cases j with
    | zero => simp [leBytes]
    | succ j =>
      have weight : 2 ^ (8 * (j + 1)) = 256 * 2 ^ (8 * j) := by ring
      rw [leBytes, List.getElem?_cons_succ, ih (Nat.lt_of_succ_lt_succ h), Nat.div_div_eq_div_mul, weight]

/-- Byte `j` of word `i` of a run of words. -/
theorem flatMap_leBytes_getElem? {n i j : Nat} (vals : List Nat) (hi : i < vals.length) (hj : j < n) :
    (vals.flatMap (leBytes n))[n * i + j]? = some (BitVec.ofNat 8 (vals[i] / 2 ^ (8 * j))) := by
  rw [← leBytes_getElem? hj, ← take_drop_flatMap_leBytes n vals hi, List.getElem?_take_of_lt hj, List.getElem?_drop]

/-! ## Parts of a run of memory -/

theorem memRead_drop (m : List Host.Cell) (a n k : Nat) : (memRead m a n).drop k = memRead m (a + k) (n - k) := by
  refine List.ext_getElem (by simp [memRead]) fun i _ _ => ?_
  simp [memRead, Nat.add_assoc]

theorem memRead_take (m : List Host.Cell) (a : Nat) {n k : Nat} (h : k ≤ n) : (memRead m a n).take k = memRead m a k := by
  refine List.ext_getElem (by simpa [memRead] using h) fun i _ _ => ?_
  simp [memRead]

theorem memRead_getD (m : List Host.Cell) (a : Nat) {n i : Nat} (h : i < n) : (memRead m a n).getD i 0 = memGet m (a + i) := by
  rw [List.getD_eq_getElem _ _ (by rwa [memRead_length])]
  simp [memRead]

theorem memRead_append (m : List Host.Cell) (a n k : Nat) : memRead m a n ++ memRead m (a + n) k = memRead m a (n + k) := by
  simp [memRead, List.range_add, Nat.add_assoc]

/-! ## A run of writes to a sparse map -/

/-- A run of writes to other keys leaves a key alone. -/
theorem SMap.get_foldl_set_out {α β : Type} [DecidableEq α] (d e : α) (key : β → Nat) (val : SMap α → β → α) {k : Nat}
    (l : List β) (m : SMap α) (h : ∀ x ∈ l, k ≠ key x) :
    SMap.get e (l.foldl (fun m x => SMap.set d m (key x) (val m x)) m) k = SMap.get e m k := by
  induction l generalizing m with
  | nil => rfl
  | cons x t ih =>
    rw [List.foldl_cons, ih _ fun y hy => h y (List.mem_cons_of_mem _ hy), SMap.get_set_ne _ _ _ (h x List.mem_cons_self)]

/-- A run of writes to distinct keys, each value made from what the key held: every key has its value. -/
theorem SMap.get_foldl_set_in {α β : Type} [DecidableEq α] (d : α) (key : β → Nat) (val : α → β → α) {x : β} (l : List β)
    (m : SMap α) (distinct : (l.map key).Nodup) (hx : x ∈ l) :
    SMap.get d (l.foldl (fun m x => SMap.set d m (key x) (val (SMap.get d m (key x)) x)) m) (key x) =
      val (SMap.get d m (key x)) x := by
  induction l generalizing m with
  | nil => exact absurd hx List.not_mem_nil
  | cons y t ih =>
    simp only [List.map_cons, List.nodup_cons, List.mem_map, not_exists, not_and] at distinct
    obtain ⟨fresh, rest⟩ := distinct
    rw [List.foldl_cons]
    rcases List.mem_cons.mp hx with rfl | ht
    · rw [SMap.get_foldl_set_out d d key (fun m x => val (SMap.get d m (key x)) x) t _ fun z hz => Ne.symm (fresh z hz),
        SMap.get_set_same]
    · rw [ih _ rest ht, SMap.get_set_ne _ _ _ (fresh x ht)]

/-! ## Sums modulo 2^w (R77, R108) -/

theorem signedOf_modEq (w n : Nat) : signedOf w n ≡ n [ZMOD ((2 ^ w : Nat) : Int)] := by
  unfold signedOf
  split
  · simpa using (Int.natCast_mod n (2 ^ w) ▸ Int.mod_modEq (n : Int) _ : ((n % 2 ^ w : Nat) : Int) ≡ n [ZMOD _])
  · exact Int.natCast_mod n (2 ^ w) ▸ Int.mod_modEq (n : Int) _

theorem codeOf_congr {w : Nat} {a b : Int} (h : a ≡ b [ZMOD ((2 ^ w : Nat) : Int)]) : codeOf w a = codeOf w b :=
  congrArg Int.toNat h

theorem signedOf_codeOf_modEq (w : Nat) (z : Int) : signedOf w (codeOf w z) ≡ z [ZMOD ((2 ^ w : Nat) : Int)] := by
  have code : ((codeOf w z : Nat) : Int) = z % ((2 ^ w : Nat) : Int) :=
    Int.toNat_of_nonneg (Int.emod_nonneg _ (by positivity))
  exact (signedOf_modEq w _).trans (code ▸ Int.mod_modEq z _)

/-- A code is the number modulo 2^w, written with powers of integers. -/
theorem codeOf_eq (w : Nat) (z : Int) : codeOf w z = (z % 2 ^ w).toNat := by rw [codeOf, Nat.cast_pow, Nat.cast_ofNat]

theorem codeOf_lt (w : Nat) (z : Int) : codeOf w z < 2 ^ w := by
  have := Int.emod_lt_of_pos z (show (0 : Int) < ((2 ^ w : Nat) : Int) by positivity)
  have := Int.emod_nonneg z (show ((2 ^ w : Nat) : Int) ≠ 0 by positivity)
  unfold codeOf
  omega

theorem foldl_add_eq_sum {α : Type} (f : α → Int) (l : List α) (z : Int) :
    l.foldl (fun z x => z + f x) z = z + (l.map f).sum := by
  induction l generalizing z with
  | nil => simp
  | cons x t ih => simp [ih, Int.add_assoc]

/-- A sum whose words wrap at 32 bits is the sum modulo 2^32 (R77). -/
theorem foldl_wrap_modEq (f : Nat → Int) (l : List Nat) (s : Int × Nat) :
    (l.foldl (fun (s : Int × Nat) k =>
      if s.1 + f k < -(2 ^ 31 : Int) ∨ (2 ^ 31 : Int) ≤ s.1 + f k then (signedOf 32 (codeOf 32 (s.1 + f k)), flagINT_WRAP)
      else (s.1 + f k, s.2)) s).1 ≡ s.1 + (l.map f).sum [ZMOD ((2 ^ 32 : Nat) : Int)] := by
  induction l generalizing s with
  | nil => simp
  | cons k t ih =>
    rw [List.foldl_cons, List.map_cons, List.sum_cons, ← Int.add_assoc]
    refine (ih _).trans (Int.ModEq.add_right _ ?_)
    split
    · exact signedOf_codeOf_modEq 32 _
    · rfl

end Sys2Proof.Machine
end

section
/-! PROOFS. Plots that run: what the bookkeeping of units and flags leaves alone, reads and writes of sound memories, and the
one rule of issue. -/

namespace Sys2Proof.Machine

/-! ## Marks, checks and flags of formats (R80, R140, R161) -/

/-- A register key outside PLOT_FMT_STATUS. -/
def outsideFmt (k : Nat) : Prop := k < 0xf00 * 64 ∨ 0xf08 * 64 ≤ k

/-- The second plot differs from the first at most in marks and checks of units and in the flags of formats. -/
structure MarksOnly (a b : Plot) : Prop where
  only : b = { a with regs := b.regs, units := b.units, deps := b.deps, nextCheck := b.nextCheck }
  regs : ∀ g : Fld, outsideFmt g.key → b.rg g = a.rg g

theorem MarksOnly.refl (a : Plot) : MarksOnly a a := ⟨rfl, fun _ _ => rfl⟩

theorem MarksOnly.trans {a b c : Plot} (h : MarksOnly a b) (k : MarksOnly b c) : MarksOnly a c := by
  refine ⟨?_, fun g hg => (k.regs g hg).trans (h.regs g hg)⟩
  rw [k.only, h.only]

theorem MarksOnly.marks {a : Plot} (u : SMap UnitSt) (l : List Dep) (n : Nat) :
    MarksOnly a { a with units := u, deps := l, nextCheck := n } := ⟨rfl, fun _ _ => rfl⟩

theorem MarksOnly.foldl {α : Type} (l : List α) (f : Plot → α → Plot) (a : Plot) (hf : ∀ b x, MarksOnly b (f b x)) :
    MarksOnly a (l.foldl f a) :=
  List.foldlRecOn l f (MarksOnly.refl a) fun b hb x _ => hb.trans (hf b x)

theorem MarksOnly.setUnit (a : Plot) (u : Nat) (s : UnitSt) : MarksOnly a (a.setUnit u s) := MarksOnly.marks _ _ _

theorem MarksOnly.ite {a b c : Plot} (p : Prop) [Decidable p] (h : MarksOnly a b) (k : MarksOnly a c) :
    MarksOnly a (if p then b else c) := by split <;> assumption

theorem MarksOnly.markRead (a : Plot) (us : List Nat) : MarksOnly a (markRead a us) :=
  MarksOnly.foldl us _ a fun b _ => MarksOnly.ite _ (MarksOnly.setUnit b _ _) (MarksOnly.refl b)

theorem MarksOnly.markWrite (a : Plot) (us : List Nat) (whole : Nat → Bool) : MarksOnly a (markWrite a us whole) :=
  MarksOnly.foldl us _ a fun b _ => MarksOnly.setUnit b _ _

theorem MarksOnly.openCheck (a : Plot) (written reads extra : List Nat) (bad : Bool) :
    MarksOnly a (openCheck a written reads extra bad).1 :=
  (MarksOnly.foldl written _ a fun b _ => MarksOnly.setUnit b _ _).trans (MarksOnly.marks _ _ _)

theorem MarksOnly.flag (a : Plot) (c : Bool) {f : Fld} (hf : ¬ outsideFmt f.key) :
    MarksOnly a (if c then a.rs f 1 else a) :=
  MarksOnly.ite _ ⟨rfl, fun _ hg => Plot.rg_rs_ne a (fun e => hf (e ▸ hg)) 1⟩ (MarksOnly.refl a)

theorem MarksOnly.fmtFlags (a : Plot) (fl : Nat) : MarksOnly a (fmtFlags a fl) := by
  have one {f : Fld} (hf : ¬ outsideFmt f.key) (b : Nat) (a : Plot) : MarksOnly a (if bitOf fl b then a.rs f 1 else a) :=
    MarksOnly.flag a _ hf
  have at_ {f : Fld} (ho : f.off = 0xf00) (hl : f.lo < 64) : ¬ outsideFmt f.key := by
    rw [outsideFmt, Fld.key, ho]; omega
  exact (one (f := fPLOT_FMT_STATUS_SNAN) (at_ rfl (by decide)) 0 _).trans
    ((one (f := fPLOT_FMT_STATUS_NAN_IN) (at_ rfl (by decide)) 1 _).trans
    ((one (f := fPLOT_FMT_STATUS_NAN_OUT) (at_ rfl (by decide)) 2 _).trans
    ((one (f := fPLOT_FMT_STATUS_UNDERFLOW) (at_ rfl (by decide)) 3 _).trans
    ((one (f := fPLOT_FMT_STATUS_SAT) (at_ rfl (by decide)) 4 _).trans
    ((one (f := fPLOT_FMT_STATUS_INT_WRAP) (at_ rfl (by decide)) 5 _).trans
    ((one (f := fPLOT_FMT_STATUS_MX_NAN) (at_ rfl (by decide)) 6 _).trans
    (one (f := fPLOT_FMT_STATUS_OK4_SCALE) (at_ rfl (by decide)) 7 _)))))))

theorem markRead_regs (a : Plot) (us : List Nat) : (markRead a us).regs = a.regs :=
  List.foldlRecOn us _ (motive := fun b : Plot => b.regs = a.regs) rfl fun b hb u _ => by dsimp only; split <;> exact hb

theorem MarksOnly.sound {a b : Plot} (h : MarksOnly a b) (hs : Sound a) : Sound b := by
  obtain ⟨scrErr, accErr, disarmed⟩ := hs
  refine ⟨?_, ?_, (h.regs _ (by unfold outsideFmt; decide)).trans disarmed⟩
  · rw [h.only]; exact scrErr
  · rw [h.only]; exact accErr

theorem MarksOnly.loops {a b : Plot} (h : MarksOnly a b) : b.loops = a.loops := by rw [h.only]

/-! ## Reads and writes of sound memories (R106, R139) -/

theorem accBad_of_accErr_nil {pl : Plot} (h : pl.accErr = []) (w : Nat) : accBad pl w = false := by
  rw [accBad, h, SMap.get_nil, popCount_zero]
  rfl

/-- A read of sound memories gives its bytes and changes nothing. -/
theorem plotRead_sound {d : Dev} {p : Nat} (hs : Sound (d.plot p)) (pc a n : Nat) :
    plotRead d p pc a n = (d, localBytes d p a n) := by
  obtain ⟨scrErr, accErr, -⟩ := hs
  by_cases none : n = 0
  · subst none
    simp [plotRead, localBytes]
  · have scr : scrBad (d.plot p) = fun _ => false := funext (scrBad_of_scrErr_nil scrErr)
    have acc : accBad (d.plot p) = fun _ => false := funext (accBad_of_accErr_nil accErr)
    simp [plotRead, none, scr, acc]

/-- A write of bytes of sound scratch. -/
theorem plotWrite_scratch {d : Dev} {p a : Nat} (hs : Sound (d.plot p)) (ha : a < 2 ^ 20) (pc : Nat) {bytes : List Byte}
    (hb : bytes ≠ []) :
    plotWrite d p pc a bytes = { d with scr := memWrite d.scr (scrBase p + a) bytes }.setPlot p (d.plot p) := by
  rw [plotWrite, if_neg (by simpa using hb), if_pos (show a < 0x100000 from ha), scrWrite_sound hs a hb]
  rfl

/-- Words of the sound accumulator file written from word `w` on. -/
def accPut (acc : SMap Nat) (w : Nat) (vals : List Nat) : SMap Nat :=
  ((List.range vals.length).zip vals).foldl (fun m e => SMap.set 0 m (w + e.1) (e.2 % 2 ^ 32)) acc

theorem accWrite_sound {pl : Plot} (hs : Sound pl) (w : Nat) (vals : List Nat) :
    accWrite pl w vals = { pl with acc := accPut pl.acc w vals } := by
  obtain ⟨-, accErr, disarmed⟩ := hs
  have flip : flipArmed pl 2 = false := by simp [flipArmed, disarmed]
  have errs := foldl_set_zero_nil (((List.range vals.length).zip vals).map (fun e => w + e.1))
  rw [List.foldl_map] at errs
  unfold accWrite
  split
  · rename_i none
    rw [List.isEmpty_iff.mp none]
    rfl
  · simp only [flip, accErr, errs, Bool.false_eq_true, if_false, accPut]

theorem get_accPut_out (acc : SMap Nat) {w k : Nat} {vals : List Nat} (h : k < w ∨ w + vals.length ≤ k) :
    SMap.get 0 (accPut acc w vals) k = SMap.get 0 acc k := by
  refine SMap.get_foldl_set_out 0 0 (fun e : Nat × Nat => w + e.1) (fun _ e => e.2 % 2 ^ 32) _ _ fun e he => ?_
  have := List.mem_range.mp (List.of_mem_zip he).1
  omega

theorem get_accPut_in (acc : SMap Nat) (w : Nat) {vals : List Nat} {i : Nat} (h : i < vals.length) :
    SMap.get 0 (accPut acc w vals) (w + i) = vals[i] % 2 ^ 32 := by
  have distinct : (((List.range vals.length).zip vals).map (fun e => w + e.1)).Nodup := by
    have keys : ((List.range vals.length).zip vals).map (fun e => w + e.1) = (List.range vals.length).map (w + ·) := by
      conv_rhs => rw [← List.map_fst_zip (l₁ := List.range vals.length) (l₂ := vals) (by simp), List.map_map]
      rfl
    rw [keys]
    exact List.nodup_range.map fun _ _ => Nat.add_left_cancel
  have member : (i, vals[i]) ∈ (List.range vals.length).zip vals :=
    List.mem_iff_getElem.mpr ⟨i, by simpa using h, by simp⟩
  exact SMap.get_foldl_set_in 0 (fun e : Nat × Nat => w + e.1) (fun _ e => e.2 % 2 ^ 32) _ acc distinct member

/-- A write of whole words of the sound accumulator file. -/
theorem plotWrite_acc {d : Dev} {p : Nat} (hs : Sound (d.plot p)) (pc w : Nat) {vals : List Nat} (hv : vals ≠ []) :
    plotWrite d p pc (0x100000 + 4 * w) (vals.flatMap (leBytes 4)) =
      d.setPlot p { d.plot p with acc := accPut (d.plot p).acc w (vals.map (· % 2 ^ 32)) } := by
  have some_ : 0 < vals.length := List.length_pos_iff.mpr hv
  have size := length_flatMap_leBytes 4 vals
  have filled : (vals.flatMap (leBytes 4)).isEmpty = false := by
    rw [List.isEmpty_eq_false_iff_exists_mem]
    exact ⟨_, List.getElem_mem (n := 0) (by omega)⟩
  have start : (0x100000 + 4 * w - 0x100000) / 4 = w := by omega
  have words : (0x100000 + 4 * w - 0x100000 + 4 * vals.length - 1) / 4 - w + 1 = vals.length := by omega
  have lead : 0x100000 + 4 * w - 0x100000 - w * 4 = 0 := by omega
  have word : 256 ^ 4 = 2 ^ 32 := by norm_num
  rw [plotWrite, if_neg (by simp [filled]), if_neg (by omega)]
  simp only [start, size, words, lead, List.take_zero, List.nil_append, Nat.zero_add]
  rw [List.drop_of_length_le (by simp [Nat.mul_comm]), List.append_nil, words_of_flatMap_leBytes, accWrite_sound hs, word]

/-! ## One instruction issued (R129 to R131, R143) -/

/-- The device after an instruction that has had its effect: it is counted, and the plot has gone on. -/
def Dev.goneOn (e : Dev) (p op pc : Nat) : Dev := (e.modPlot p (countIssue · op)).modPlot p (advance · pc)

@[simp] theorem Dev.goneOn_plot_same (e : Dev) (p op pc : Nat) :
    (e.goneOn p op pc).plot p = advance (countIssue (e.plot p) op) pc := by simp [Dev.goneOn]

theorem Dev.goneOn_plot_ne (e : Dev) {p q : Nat} (h : q ≠ p) (op pc : Nat) : (e.goneOn p op pc).plot q = e.plot q := by
  rw [Dev.goneOn, Dev.plot_modPlot_ne _ h, Dev.plot_modPlot_ne _ h]

theorem countIssue_only (pl : Plot) (op : Nat) : countIssue pl op = { pl with regs := (countIssue pl op).regs } := by
  unfold countIssue
  dsimp only
  split_ifs <;> rfl

theorem countIssue_advance_only (pl : Plot) (op pc : Nat) : advance (countIssue pl op) pc =
    { pl with regs := (advance (countIssue pl op) pc).regs, loops := (advanceLoops pc pl.loops).1 } := by
  have loops : (countIssue pl op).loops = pl.loops := by rw [countIssue_only]
  unfold advance
  dsimp only
  rw [loops]
  conv_lhs => rw [countIssue_only]
  rfl

theorem advance_rg (pl : Plot) (pc : Nat) {g : Fld} (h : g.key ≠ fPLOT_SEQ_STATUS_PC.key) :
    (advance pl pc).rg g = pl.rg g := Plot.rg_rs_ne { pl with loops := (advanceLoops pc pl.loops).1 } h _

/-- A plot whose loops an instruction has left alone has gone on. -/
theorem wentOn_advance {a b : Plot} (h : b.loops = a.loops) (op : Nat) : WentOn a (advance (countIssue b op) a.pc) := by
  have loops : (countIssue b op).loops = a.loops := by rw [countIssue_only, ← h]
  exact ⟨by rw [← loops]; rfl, by rw [← loops]; exact Plot.rg_rs_same _ _ _⟩

/-- The opcode of a word, and its FUNC where it has one, are among those of R142. -/
def wordLegal (w : Nat) : Bool :=
  !(!opcodeKnown (w / 2 ^ 58) || (w / 2 ^ 58 = 0x18 && !vopKnown (bitsOf w 52 6)) ||
    (w / 2 ^ 58 = 0x1C && 5 ≤ bitsOf w 55 3) || (w / 2 ^ 58 = 0x08 && 5 ≤ bitsOf w 55 3))

/-- The opcodes without FUNC are legal as they are. -/
theorem wordLegal_of_op {w op : Nat} (hop : w / 2 ^ 58 = op) (known : (opcodeKnown op && !([0x08, 0x18, 0x1C].contains op)) = true) :
    wordLegal w = true := by
  simp only [Bool.and_eq_true, Bool.not_eq_true', List.contains_eq_mem, decide_eq_false_iff_not, List.mem_cons,
    List.not_mem_nil, or_false, not_or] at known
  obtain ⟨known, wait, vop, att⟩ := known
  rw [wordLegal, hop]
  simp [known, wait, vop, att]

theorem wordLegal_of_vop {w : Nat} (hop : w / 2 ^ 58 = 0x18) (known : vopKnown (bitsOf w 52 6) = true) :
    wordLegal w = true := by
  have vop : opcodeKnown 0x18 = true := rfl
  rw [wordLegal, hop]
  simp [known, vop]

/-- A running plot issues an instruction that has its effect. -/
theorem issueWord_done {d e : Dev} {p w op : Nat} {mine : Nat → Bool} {run : Dev → Nat → Nat → Issued} (h : Issues d p w)
    (hop : w / 2 ^ 58 = op) (legal : wordLegal w = true) (hm : mine w = true) (hr : run d (d.plot p).pc w = .done e) :
    issueWord d p mine false run = e.goneOn p op (d.plot p).pc := by
  obtain ⟨plot, running, free, fetched⟩ := h
  have issues : (!isPlot p || (d.plot p).seq ≠ seqRUNNING || (d.plot p).wait ≠ .none) = false := by
    simp [plot, free, Plot.seq, running, seqRUNNING]
  rw [Plot.pc] at fetched hr
  rw [wordLegal, Bool.not_eq_true', hop] at legal
  unfold issueWord
  simp only [issues, fetched, Bool.false_eq_true, if_false, hop, legal, hm, Bool.not_true, show ¬ 2 ≤ 0 by decide,
    zero_ne_one, hr]
  rfl

/-- A command that issues an instruction which has its effect. -/
theorem issue_gives {c : Instr} {s : State} {e : Dev} {p w op : Nat} {mine : Nat → Bool} {run : Dev → Nat → Nat → Issued}
    (live : Live s) (hc : exec c s = onDev s fun d => issueWord d p mine false run) (h : Issues s.dev p w)
    (hop : w / 2 ^ 58 = op) (legal : wordLegal w = true) (hm : mine w = true)
    (hr : run s.dev (s.dev.plot p).pc w = .done e) : Gives c s (e.goneOn p op (s.dev.plot p).pc) := by
  rw [Gives, hc, onDev_live live, issueWord_done h hop legal hm hr]

end Sys2Proof.Machine
end

section
/-! PROOFS. The stationary set: MCFG, a load from scratch, its end, and the swap (R84, R98, R100, R144 to R146). -/

namespace Sys2Proof.Machine

/-! ## Only one plot changes -/

theorem OnlyPlot.setPlot (d : Dev) (p : Nat) (pl : Plot) : OnlyPlot p d (d.setPlot p pl) :=
  ⟨rfl, fun _ h => Dev.plot_setPlot_ne d h pl⟩

theorem OnlyPlot.trans {p : Nat} {d e f : Dev} (h : OnlyPlot p d e) (k : OnlyPlot p e f) : OnlyPlot p d f := by
  obtain ⟨only, others⟩ := h
  obtain ⟨only', others'⟩ := k
  refine ⟨?_, fun q hq => (others' q hq).trans (others q hq)⟩
  rw [only', only]

theorem OnlyPlot.goneOn {p : Nat} {d e : Dev} (h : OnlyPlot p d e) (op pc : Nat) : OnlyPlot p d (e.goneOn p op pc) :=
  h.trans ((OnlyPlot.setPlot e p _).trans (OnlyPlot.setPlot _ p _))

/-- An instruction that changes registers of its plot, its count aside, has run. -/
theorem ran_goneOn {p op pc : Nat} {fs : List Fld} {s : State} {e : Dev} (only : OnlyPlot p s.dev e)
    (h : ∀ g : Fld, g.key ∉ (fs ++ [fPLOT_SEQ_STATUS_PC, fPLOT_UNIT_ICNT_COUNT.at 3]).map Fld.key →
      (countIssue (e.plot p) op).rg g = (s.dev.plot p).rg g) : Ran p fs s { s with dev := e.goneOn p op pc } := by
  refine ⟨rfl, rfl, only.goneOn op pc, fun g hg => ?_⟩
  have pcKey : g.key ≠ fPLOT_SEQ_STATUS_PC.key := fun e => hg (by simp [e])
  rw [Dev.goneOn_plot_same, advance_rg _ _ pcKey, h g hg]

/-! ## MCFG (R84, R145) -/

theorem exec_mcfg (p : Nat) (s : State) :
    exec (.mcfg p) s = onDev s fun d => issueWord d p (isOp 0x12) false fun d _ w => mcfgRun d p w := rfl

theorem arrK_le (f : Nat) : arrK f ≤ 128 := by unfold arrK; split_ifs <;> decide

theorem arrN_le (f : Nat) : arrN f ≤ 128 := by unfold arrN; split_ifs <;> decide

/-- The word of an MCFG by its fields. -/
theorem mcfgWord_fields {st x k n stride r : Nat} (hs : st < 14) (hx : x < 13) (hk : k < 256) (hn : n < 256)
    (hd : stride < 256) (hr : r < 2) {w : Nat}
    (hw : 0x12 * 2 ^ 58 + st * 2 ^ 54 + x * 2 ^ 50 + k * 2 ^ 42 + n * 2 ^ 34 + stride * 2 ^ 26 + r * 2 ^ 25 = w) :
    w / 2 ^ 58 = 0x12 ∧ bitsOf w 54 4 = st ∧ bitsOf w 50 4 = x ∧ bitsOf w 42 8 = k ∧ bitsOf w 34 8 = n ∧
      bitsOf w 26 8 = stride ∧ bitsOf w 0 25 = 0 ∧ bitOf w 25 = (r == 1) := by
  subst hw
  have flag : bitOf (0x12 * 2 ^ 58 + st * 2 ^ 54 + x * 2 ^ 50 + k * 2 ^ 42 + n * 2 ^ 34 + stride * 2 ^ 26 + r * 2 ^ 25) 25 =
      (r == 1) := by
    unfold bitOf
    congr 1
    omega
  refine ⟨?_, ?_, ?_, ?_, ?_, ?_, ?_, flag⟩
  · omega
  all_goals unfold bitsOf; omega

/-- MCFG of a legal pair sets the configuration in force. -/
theorem mcfg_sets {s : State} {p st x k n stride r : Nat} (live : Live s) (pair : arrPair st x = true) (hs : st < 14)
    (hx : x < 13) (lic : fmtLicensed s.dev st = true) (hk : k ≤ arrK st) (hn : n ≤ arrN st) (hd : stride < 256) (hr : r < 2)
    (h : Issues s.dev p
      (0x12 * 2 ^ 58 + st * 2 ^ 54 + x * 2 ^ 50 + k * 2 ^ 42 + n * 2 ^ 34 + stride * 2 ^ 26 + r * 2 ^ 25)) :
    Completes (.mcfg p) s (fun t => Ran p [] s t ∧ WentOn (s.dev.plot p) (t.dev.plot p) ∧
      (t.dev.plot p).mat = ⟨st, x, k, n, stride, r == 1⟩) := by
  generalize hw : 0x12 * 2 ^ 58 + st * 2 ^ 54 + x * 2 ^ 50 + k * 2 ^ 42 + n * 2 ^ 34 + stride * 2 ^ 26 + r * 2 ^ 25 = w at h
  obtain ⟨op, stat, strm, klen, nlen, strideBits, rest, flag⟩ := mcfgWord_fields hs hx
    (hk.trans_lt ((arrK_le st).trans_lt (by decide))) (hn.trans_lt ((arrN_le st).trans_lt (by decide))) hd hr hw
  have run : mcfgRun s.dev p w = .done (s.dev.modPlot p fun pl => { pl with mat := ⟨st, x, k, n, stride, r == 1⟩ }) := by
    unfold mcfgRun
    simp only [stat, strm, klen, nlen, strideBits, rest, flag, ne_eq, not_true_eq_false, if_false, lic, pair, Bool.not_true,
      Bool.false_eq_true, Nat.not_le.mpr hs, Nat.not_le.mpr hx, Nat.not_lt.mpr hk, Nat.not_lt.mpr hn, or_self]
  refine (issue_gives live (exec_mcfg p s) h op (wordLegal_of_op op (by decide)) (decide_eq_true op) run).completes
    ⟨ran_goneOn (OnlyPlot.setPlot _ _ _) fun g hg => ?_, ?_, ?_⟩
  · rw [Dev.plot_modPlot_same]
    exact Plot.rg_rs_ne _ (fun e => hg (by simp [e])) _
  · rw [Dev.goneOn_plot_same, Dev.plot_modPlot_same]
    exact wentOn_advance rfl _
  · rw [Dev.goneOn_plot_same, Dev.plot_modPlot_same, countIssue_advance_only]

/-! ## LDS of an INT8 tile from scratch (R95, R100, R146) -/

theorem exec_lds (p : Nat) (s : State) :
    exec (.lds p) s = onDev s fun d => issueWord d p (isOp 0x10) false fun d pc w => ldsRun d p pc w := rfl

theorem tileChecks_fmt (t : Tile) : (tileChecks t).fmt = t.fmt := by unfold tileChecks; dsimp only; split <;> rfl

theorem tileChecks_codes (t : Tile) : (tileChecks t).codes = t.codes := by unfold tileChecks; dsimp only; split <;> rfl

theorem tilePlain_fmt (f klen nlen : Nat) (i : Bool) (bytes : List Byte) : (tilePlain f klen nlen i bytes).fmt = f :=
  tileChecks_fmt _

theorem tilePlain_codes_length (f klen nlen : Nat) (i : Bool) (bytes : List Byte) :
    (tilePlain f klen nlen i bytes).codes.length = arrK f * arrN f := by
  rw [tilePlain, tileChecks_codes]
  simp

/-- The word of an LDS of INT8 from scratch by its fields. -/
theorem ldsWord_fields {off : Nat} (ho : off * 32 + 8192 ≤ 2 ^ 20) {w : Nat}
    (hw : 0x10 * 2 ^ 58 + 11 * 2 ^ 54 + 2 ^ 53 + off * 2 ^ 23 = w) :
    w / 2 ^ 58 = 0x10 ∧ bitsOf w 54 4 = 11 ∧ bitOf w 53 = true ∧ bitsOf w 52 1 = 0 ∧ bitsOf w 48 4 = 0 ∧
      bitsOf w 44 4 = 0 ∧ bitsOf w 23 21 = off ∧ bitsOf w 2 21 = 0 ∧ bitsOf w 0 2 = 0 := by
  subst hw
  have flag : bitOf (0x10 * 2 ^ 58 + 11 * 2 ^ 54 + 2 ^ 53 + off * 2 ^ 23) 53 = true := by
    unfold bitOf
    rw [beq_iff_eq]
    omega
  refine ⟨?_, ?_, flag, ?_, ?_, ?_, ?_, ?_, ?_⟩
  · omega
  all_goals unfold bitsOf; omega

theorem opAddr_zero (pl : Plot) (off unit : Nat) : pl.opAddr 0 off unit = off * unit % 2 ^ 32 := by
  simp [Plot.opAddr, Plot.idx]

theorem ldsBytes_int8 : ldsBytes 11 = 8192 := rfl

/-- The load that an LDS of INT8 from scratch makes: its tile, and the checks that it depends on. -/
def int8Load (d : Dev) (p pc w off : Nat) : Load :=
  let pl := d.plot p
  let us := ldsUnits pl w
  let marked := Machine.markRead pl us
  ⟨{ tilePlain 11 pl.mat.klen pl.mat.nlen (pl.mat.strm ≠ 10) (localBytes d p (off * 32) 8192) with
      deps := (us.flatMap (fun u => (marked.unit u).opens)).eraseDups, bad := us.any (fun u => (marked.unit u).failed) }, 0, pc⟩

theorem int8Load_fmt (d : Dev) (p pc w off : Nat) : (int8Load d p pc w off).tile.fmt = 11 := tilePlain_fmt _ _ _ _ _

theorem int8Load_codes_length (d : Dev) (p pc w off : Nat) : (int8Load d p pc w off).tile.codes.length = 8192 := by
  have length := tilePlain_codes_length 11 (d.plot p).mat.klen (d.plot p).mat.nlen ((d.plot p).mat.strm ≠ 10)
    (localBytes d p (off * 32) 8192)
  rw [show arrK 11 * arrN 11 = 8192 by decide] at length
  rw [← length, int8Load]

/-- An LDS of INT8 from sound scratch into an EMPTY shadow begins to fill it. -/
theorem ldsRun_fills {d : Dev} {p off w : Nat} (ho : off * 32 + 8192 ≤ 2 ^ 20) (hs : Sound (d.plot p))
    (free : (d.plot p).waitLoad = none) (empty : (d.plot p).rg fPLOT_ARR_STATUS_SHADOW = 0)
    (hw : 0x10 * 2 ^ 58 + 11 * 2 ^ 54 + 2 ^ 53 + off * 2 ^ 23 = w) (pc : Nat) :
    ldsRun d p pc w = .done (d.setPlot p
      (beginLoad (markRead (d.plot p) (ldsUnits (d.plot p) w)) (int8Load d p pc w off) shFILLING)) := by
  obtain ⟨-, fmt, scratch, half, ia, ih, offBits, hoff, low⟩ := ldsWord_fields ho hw
  have address : off * 32 % 2 ^ 32 = off * 32 := Nat.mod_eq_of_lt (by omega)
  have fits : inLocal (off * 32) 8192 = true := by
    simp only [inLocal, inScratch, Bool.or_eq_true, decide_eq_true_eq]
    omega
  have aligned : off * 32 % 32 = 0 := by omega
  have tile : ldsTile d p pc w = (d, ⟨tilePlain 11 (d.plot p).mat.klen (d.plot p).mat.nlen ((d.plot p).mat.strm ≠ 10)
      (localBytes d p (off * 32) 8192), 0, pc⟩) := by
    simp only [ldsTile, fmt, scratch, ia, offBits, opAddr_zero, address, ldsRead, plotRead_sound hs, ldsBytes_int8, if_true,
      show ¬ (11 = 13) by decide, if_false, decide_true, Bool.true_or, Bool.true_and]
  have state : (markRead (d.plot p) (ldsUnits (d.plot p) w)).shadowState = shEMPTY :=
    ((MarksOnly.markRead _ _).regs _ (by unfold outsideFmt; decide)).trans empty
  have lic : fmtLicensed d 11 = true := rfl
  have waits : (d.plot p).waitLoad.isSome = false := by rw [free]; rfl
  unfold ldsRun
  simp only [fmt, scratch, half, ia, offBits, low, opAddr_zero, address, ldsBytes_int8, lic, fits, aligned, tile, state, waits,
    ne_eq, not_true_eq_false, if_true, if_false, Bool.not_true, Bool.false_and, Bool.or_false, Bool.false_eq_true, hoff, ih,
    show ¬ (14 ≤ 11) by decide, show ¬ (11 = 13) by decide, decide_false, false_and, true_or, or_false, and_false, int8Load]

theorem countIssue_lds (pl : Plot) : countIssue pl 0x10 =
    (pl.count (fPLOT_UNIT_ICNT_COUNT.at 3) 1).count (fPLOT_UNIT_ICNT_COUNT.at 0) 1 := rfl

theorem beginLoad_loops (pl : Plot) (l : Load) (st : Nat) : (beginLoad pl l st).loops = pl.loops := rfl

theorem beginLoad_rg_same (pl : Plot) (l : Load) {st : Nat} (h : st < 8) :
    (beginLoad pl l st).rg fPLOT_ARR_STATUS_SHADOW = st := (Plot.rg_rs_same _ _ _).trans (Nat.mod_eq_of_lt h)

theorem beginLoad_rg_ne (pl : Plot) (l : Load) (st : Nat) {g : Fld} (h : g.key ≠ fPLOT_ARR_STATUS_SHADOW.key) :
    (beginLoad pl l st).rg g = pl.rg g := Plot.rg_rs_ne pl h st

theorem lds_fills {s : State} {p off : Nat} (live : Live s) (ho : off * 32 + 8192 ≤ 2 ^ 20) (hs : Sound (s.dev.plot p))
    (free : (s.dev.plot p).waitLoad = none) (empty : (s.dev.plot p).rg fPLOT_ARR_STATUS_SHADOW = 0)
    (h : Issues s.dev p (0x10 * 2 ^ 58 + 11 * 2 ^ 54 + 2 ^ 53 + off * 2 ^ 23)) :
    Completes (.lds p) s (fun t =>
      Ran p [fPLOT_ARR_STATUS_SHADOW, fPLOT_UNIT_ICNT_COUNT.at 0] s t ∧ WentOn (s.dev.plot p) (t.dev.plot p) ∧
      (t.dev.plot p).rg fPLOT_ARR_STATUS_SHADOW = 1 ∧ (t.dev.plot p).loading = true ∧
      ∃ x : Tile, (t.dev.plot p).shadow = some x ∧ x.fmt = 11 ∧ x.codes.length = 8192) := by
  generalize hw : 0x10 * 2 ^ 58 + 11 * 2 ^ 54 + 2 ^ 53 + off * 2 ^ 23 = w at h
  have run := ldsRun_fills ho hs free empty hw (s.dev.plot p).pc
  have op := (ldsWord_fields ho hw).1
  have tileFmt := int8Load_fmt s.dev p (s.dev.plot p).pc w off
  have tileCodes := int8Load_codes_length s.dev p (s.dev.plot p).pc w off
  have marks := MarksOnly.markRead (s.dev.plot p) (ldsUnits (s.dev.plot p) w)
  have markRegs : (markRead (s.dev.plot p) (ldsUnits (s.dev.plot p) w)).regs = (s.dev.plot p).regs := markRead_regs _ _
  generalize int8Load s.dev p (s.dev.plot p).pc w off = l at run tileFmt tileCodes
  generalize markRead (s.dev.plot p) (ldsUnits (s.dev.plot p) w) = pl at run marks markRegs
  have loops := (beginLoad_loops pl l shFILLING).trans marks.loops
  refine (issue_gives live (exec_lds p s) h op (wordLegal_of_op op (by decide)) (decide_eq_true op) run).completes ⟨?_, ?_⟩
  · refine ran_goneOn (OnlyPlot.setPlot _ _ _) fun g hg => ?_
    simp only [List.cons_append, List.nil_append, List.map_cons, List.map_nil, List.mem_cons, List.not_mem_nil, or_false,
      not_or] at hg
    obtain ⟨shadow, count0, -, count3⟩ := hg
    rw [Dev.plot_setPlot_same, countIssue_lds]
    refine (Plot.rg_rs_ne _ count0 _).trans ((Plot.rg_rs_ne _ count3 _).trans ((beginLoad_rg_ne _ _ _ shadow).trans ?_))
    rw [Plot.rg, markRegs, Plot.rg]
  · simp only [Dev.goneOn_plot_same, Dev.plot_setPlot_same]
    refine ⟨wentOn_advance loops _, ?_, ?_⟩
    · rw [advance_rg _ _ (by decide), countIssue_lds]
      exact (Plot.rg_rs_ne _ (by decide) _).trans ((Plot.rg_rs_ne _ (by decide) _).trans (beginLoad_rg_same _ _ (by decide)))
    · rw [countIssue_advance_only]
      exact ⟨rfl, _, rfl, tileFmt, tileCodes⟩

/-! ## The end of a load (R97, R100) -/

theorem exec_shadowLoadDone (p : Nat) (s : State) :
    exec (.shadowLoadDone p) s = onDev s fun d => shadowLoadDone d p := rfl

theorem shadowLoadDone_gives {s : State} (live : Live s) (p : Nat) :
    Gives (.shadowLoadDone p) s (shadowLoadDone s.dev p) := by
  rw [Gives, exec_shadowLoadDone, onDev_live live]

/-- A load without an error makes the shadow FULL. -/
theorem shadowLoadDone_full {d : Dev} {p : Nat} (filling : (d.plot p).rg fPLOT_ARR_STATUS_SHADOW = 1)
    (good : (d.plot p).shadowErr = 0) : shadowLoadDone d p =
      d.setPlot p { (d.plot p).rs fPLOT_ARR_STATUS_SHADOW shFULL with loading := false } := by
  have state : (d.plot p).shadowState = shFILLING := filling
  rw [shadowLoadDone, if_neg (not_not.mpr state), if_pos good]

/-- A load whose data the bed could not correct leaves the shadow in ERROR and stops its instruction. -/
theorem shadowLoadDone_error {d : Dev} {p : Nat} (filling : (d.plot p).rg fPLOT_ARR_STATUS_SHADOW = 1)
    (bad : (d.plot p).shadowErr = 0x0B03) : shadowLoadDone d p =
      stopAt (arrErr (d.setPlot p { (d.plot p).rs fPLOT_ARR_STATUS_SHADOW shERROR with
        loading := false, shadow := none, keptHdr := none }) p fPLOT_ARR_ERR_SHADOW_DATA) p (d.plot p).shadowPc 0x0B03 := by
  have state : (d.plot p).shadowState = shFILLING := filling
  rw [shadowLoadDone, if_neg (not_not.mpr state), if_neg (by rw [bad]; decide), bad]
  rfl

theorem OnlyPlotRegs.rs (a : Plot) (f : Fld) (v : Nat) : OnlyPlotRegs [f] a (a.rs f v) :=
  ⟨rfl, fun _ hg => Plot.rg_rs_ne a (by simpa using hg) v⟩

/-- An error of the array sets its bit, and at most the array's interrupt beside it. -/
theorem arrErr_plot (d : Dev) (p : Nat) (f : Fld) :
    (arrErr d p f).plot p = (d.plot p).rs f 1 ∨ (arrErr d p f).plot p = ((d.plot p).rs f 1).rs fPLOT_IRQ_ARR 1 := by
  unfold arrErr plotIrq
  split
  · right
    simp
  · left
    simp

/-- A stop leaves alone every register of its plot outside the sequencer's and the counters, and the shadow. -/
theorem stopSeq_plot_rg (d : Dev) (p pc code : Nat) {g : Fld} (h : 0x18 * 64 ≤ g.key) :
    ((stopSeq d p pc code).plot p).rg g = (d.plot p).rg g := by
  have ne {f : Fld} (hf : f.key < 0x18 * 64) : g.key ≠ f.key := by omega
  have stopped (pl : Plot) : ((pl.rs fPLOT_SEQ_STOP_PC pc).rs fPLOT_SEQ_STOP_CODE code).rg g = pl.rg g := by
    rw [Plot.rg_rs_ne _ (ne (by decide)), Plot.rg_rs_ne _ (ne (by decide))]
  unfold stopSeq
  dsimp only
  split_ifs
  · rw [Dev.plot_setPlot_same]
    exact (stopped _).trans (Plot.rg_rs_ne _ (ne (by decide)) _)
  · rw [Dev.plot_setPlot_same, stopped]
  · rfl

theorem stopSeq_plot_shadow (d : Dev) (p pc code : Nat) : ((stopSeq d p pc code).plot p).shadow = (d.plot p).shadow := by
  unfold stopSeq
  dsimp only
  split_ifs
  · rw [Dev.plot_setPlot_same]
    rfl
  · rw [Dev.plot_setPlot_same]
    rfl
  · rfl

theorem stopAt_plot_rg (d : Dev) (p pc code : Nat) {g : Fld} (h : 0x18 * 64 ≤ g.key) (hb : outsideBank 0x3800 g.key) :
    ((stopAt d p pc code).plot p).rg g = (d.plot p).rg g := by
  rw [stopAt, stopSeq_plot_rg _ _ _ _ h]
  split
  · rfl
  · exact recordErr_plot_rg _ _ _ _ _ _ hb

theorem stopAt_plot_shadow (d : Dev) (p pc code : Nat) : ((stopAt d p pc code).plot p).shadow = (d.plot p).shadow := by
  rw [stopAt, stopSeq_plot_shadow]
  split
  · rfl
  · rw [(RegsOnly.recordPlot d p code).2 p]

theorem shadowLoadDone_fails {d : Dev} {p : Nat} (filling : (d.plot p).rg fPLOT_ARR_STATUS_SHADOW = 1)
    (bad : (d.plot p).shadowErr = 0x0B03) :
    ((shadowLoadDone d p).plot p).rg fPLOT_ARR_STATUS_SHADOW = 4 ∧ ((shadowLoadDone d p).plot p).shadow = none ∧
      ((shadowLoadDone d p).plot p).rg fPLOT_ARR_ERR_SHADOW_DATA = 1 := by
  have bank {g : Fld} (h : g.key < 0x3800 * 64) : outsideBank 0x3800 g.key := .inl (by omega)
  rw [shadowLoadDone_error filling bad, stopAt_plot_rg _ _ _ _ (by decide) (bank (by decide)), stopAt_plot_shadow,
    stopAt_plot_rg _ _ _ _ (by decide) (bank (by decide))]
  generalize hd : d.setPlot p _ = e
  have state : (e.plot p).rg fPLOT_ARR_STATUS_SHADOW = 4 := by
    rw [← hd, Dev.plot_setPlot_same]
    exact Plot.rg_rs_same (d.plot p) _ shERROR
  have gone : (e.plot p).shadow = none := by rw [← hd, Dev.plot_setPlot_same]
  rcases arrErr_plot e p fPLOT_ARR_ERR_SHADOW_DATA with h | h
  · rw [h, Plot.rg_rs_ne _ (by decide), Plot.rg_rs_same]
    exact ⟨state, gone, rfl⟩
  · rw [h, Plot.rg_rs_ne _ (by decide), Plot.rg_rs_ne _ (by decide), Plot.rg_rs_ne _ (by decide), Plot.rg_rs_same]
    exact ⟨state, gone, rfl⟩

/-! ## The swap (R98 to R100) -/

theorem swapStart_gives {s : State} {p : Nat} (live : Live s) (plot : isPlot p = true)
    (full : (s.dev.plot p).rg fPLOT_ARR_STATUS_SHADOW = 2) (next : nextSwaps (s.dev.plot p) = true) :
    Gives (.swapStart p) s (s.dev.setPlot p { beginSwap (s.dev.plot p) with swapTaken := true }) := by
  have ready : (isPlot p && (s.dev.plot p).shadowState = shFULL && nextSwaps (s.dev.plot p)) = true := by
    simp [plot, next, Plot.shadowState, full, shFULL]
  rw [Gives, show exec (.swapStart p) s = execSwapStart p s from rfl, execSwapStart, onDev_live live, if_pos ready]

theorem beginSwap_of_no_load {pl : Plot} (h : pl.waitLoad = none) : beginSwap pl =
    { pl.rs fPLOT_ARR_STATUS_SHADOW shSWAPPING with live := pl.shadow, shadow := none, loading := false } := by
  unfold beginSwap
  dsimp only
  rw [Plot.rs_waitLoad, h]

theorem swapDone_gives {s : State} {p : Nat} (live : Live s) (swapping : (s.dev.plot p).rg fPLOT_ARR_STATUS_SHADOW = 3) :
    Gives (.swapDone p) s (s.dev.setPlot p
      ((s.dev.plot p).rs fPLOT_ARR_STATUS_SHADOW (if (s.dev.plot p).loading then shFILLING else shEMPTY))) := by
  rw [Gives, show exec (.swapDone p) s = execSwapDone p s from rfl, execSwapDone, onDev_live live]
  exact congrArg (fun d => Host.Outcome.next { s with dev := d }) (if_pos swapping)

/-- Settles O1: MCFG, the load, its end and the two ends of the swap, each by what it makes of the plot. -/
theorem stationarySet : Obligations.StationarySet := by
  unfold Obligations.StationarySet
  intro s p live
  refine ⟨fun st x k n stride r pair hs hx lic hk hn hd hr h => mcfg_sets live pair hs hx lic hk hn hd hr h,
    fun off ho hs free empty h => lds_fills live ho hs free empty h, fun filling => ⟨fun good => ?_, fun bad => ?_⟩,
    fun plot full next free => ?_, fun swapping => ?_⟩
  · refine (shadowLoadDone_full filling good ▸ shadowLoadDone_gives live p).completes ⟨OnlyPlot.setPlot _ _ _, ?_, ?_⟩
    · rw [Dev.plot_setPlot_same]
      exact OnlyPlotRegs.rs { s.dev.plot p with loading := false } _ shFULL
    · rw [Dev.plot_setPlot_same]
      exact Plot.rg_rs_same (s.dev.plot p) _ shFULL
  · exact (shadowLoadDone_gives live p).completes (shadowLoadDone_fails filling bad)
  · refine (swapStart_gives live plot full next).completes ⟨OnlyPlot.setPlot _ _ _, ?_⟩
    rw [Dev.plot_setPlot_same, beginSwap_of_no_load free]
    exact ⟨rfl, rfl, Plot.rg_rs_same (s.dev.plot p) _ shSWAPPING⟩
  · refine (swapDone_gives live swapping).completes ⟨OnlyPlot.setPlot _ _ _, ?_⟩
    rw [Dev.plot_setPlot_same]
    refine ⟨OnlyPlotRegs.rs _ _ _, (Plot.rg_rs_same _ _ _).trans ?_⟩
    split <;> rfl

end Sys2Proof.Machine
end

section
/-! PROOFS. One row of an INT8 product (R77, R90, R106 to R108). -/

namespace Sys2Proof.Machine

theorem exec_mmul (p : Nat) (s : State) :
    exec (.mmul p) s = onDev s fun d => issueWord d p (isOp 0x11) false fun d pc w => mmulRun d p pc w := rfl

/-! ## Units of fresh memories (R140, R161) -/

theorem mem_unitsOf_scratch {a n u : Nat} (h : a + n ≤ 2 ^ 20) (hu : u ∈ unitsOf a n) : u < 4096 := by
  unfold unitsOf linesOf at hu
  split_ifs at hu with inScr none none
  · exact absurd hu List.not_mem_nil
  · obtain ⟨i, hi, rfl⟩ := List.mem_map.mp hu
    have := List.mem_range.mp hi
    omega
  · exact absurd hu List.not_mem_nil
  · omega

theorem mem_unitsOf_acc {a n u : Nat} (h : 2 ^ 20 ≤ a) (hu : u ∈ unitsOf a n) : 4096 ≤ u := by
  unfold unitsOf at hu
  rw [if_neg (by omega)] at hu
  split_ifs at hu
  · exact absurd hu List.not_mem_nil
  · obtain ⟨i, -, rfl⟩ := List.mem_map.mp hu
    omega

/-- Writes of units that carry no mark, none of them read by the same instruction, are in no conflict. -/
theorem regionConflict_fresh {pl : Plot} (h : pl.units = []) {reads writes : List Nat} (hd : ∀ u ∈ writes, u ∉ reads) :
    regionConflict pl reads writes = false := by
  refine List.any_eq_false.mpr fun u hu => ?_
  have idle : pl.unit u = UnitSt.idle := by rw [Plot.unit, h, SMap.get_nil]
  simp [idle, UnitSt.idle, hd u hu]

/-! ## The words of a row -/

/-- The words that a streamed row of an INT8 pair writes in OVERWRITE mode. -/
def rowWords (m : MatCfg) (t : Tile) (x : StreamRow) : List Nat :=
  (List.range (arrN m.stat)).map (fun c => (mmulWord m 0 t x c 0).1)

/-- A word of an INT8 product is the sum of the products modulo 2^32, whatever it wraps on its way. -/
theorem mmulWord_int8 (klen nlen stride : Nat) (mode : Nat) (t : Tile) (x : StreamRow) (n old : Nat) :
    (mmulWord ⟨11, 11, klen, nlen, stride, false⟩ mode t x n old).1 =
      codeOf 32 (signedOf 32 old + ((List.range (min klen 128)).map (fun k => signedOf 8 (x.codes.getD k 0) *
        if nlen ≤ n then 0 else signedOf 8 (t.codes.getD (k * 64 + n) 0))).sum) :=
  codeOf_congr (foldl_wrap_modEq (fun k => signedOf 8 (x.codes.getD k 0) *
    if nlen ≤ n then 0 else signedOf 8 (t.codes.getD (k * 64 + n) 0)) (List.range (min klen 128)) (signedOf 32 old, 0))

/-- The words that a row of INT8 bytes makes, as the accumulators hold them. -/
def int8Row (klen nlen stride : Nat) (t : Tile) (bytes : List Byte) : List Nat :=
  (rowWords ⟨11, 11, klen, nlen, stride, false⟩ t (parseRow ⟨11, 11, klen, nlen, stride, false⟩ bytes)).map (· % 2 ^ 32)

theorem int8Row_length (klen nlen stride : Nat) (t : Tile) (bytes : List Byte) :
    (int8Row klen nlen stride t bytes).length = 64 := by simp [int8Row, rowWords, arrN]

theorem int8Row_getElem {klen nlen stride n : Nat} (hk : klen ≤ 128) (t : Tile) (bytes : List Byte)
    (h : n < (int8Row klen nlen stride t bytes).length) : (int8Row klen nlen stride t bytes)[n] =
      if n < nlen then (((List.range klen).map (fun k =>
        signedOf 8 (bytes.getD k 0).toNat * signedOf 8 (t.codes.getD (k * 64 + n) 0))).sum % 2 ^ 32).toNat else 0 := by
  have start : signedOf 32 0 = 0 := rfl
  have codes : (parseRow ⟨11, 11, klen, nlen, stride, false⟩ bytes).codes = unpackCodes 8 128 bytes := rfl
  simp only [int8Row, rowWords, List.getElem_map, List.getElem_range, mmulWord_int8, start, Int.zero_add, Nat.min_eq_left hk,
    codes, Nat.mod_eq_of_lt (codeOf_lt 32 _)]
  by_cases inside : n < nlen
  · simp only [if_neg (Nat.not_le.mpr inside), if_pos inside, codeOf_eq]
    refine congrArg (fun z : Int => (z % 2 ^ 32).toNat) (congrArg List.sum (List.map_congr_left fun k hk' => ?_))
    rw [unpackCodes_byte_getD ((List.mem_range.mp hk').trans_le hk)]
  · simp [inside, Nat.not_lt.mp inside, codeOf]

theorem leValue_zeros_slice (n i k : Nat) : leValue (((zeros n).drop i).take k) = 0 := by
  have zero : ∀ j, leValue (zeros j) = 0 := fun j => by
    induction j with
    | zero => rfl
    | succ j ih => rw [zeros, List.replicate_succ, leValue, ← zeros, ih]; rfl
  rw [zeros, List.drop_replicate, List.take_replicate]
  exact zero _

/-- A streamed row in OVERWRITE mode, with no injection armed: an event, marks, one more open check and the words. -/
theorem mmulRow_overwrite {d : Dev} {p pc w : Nat} (mode : bitsOf w 32 2 = 0) (disarmed : (d.plot p).rg fPLOT_ARR_INJECT_ARM = 0)
    (t : Tile) (i : Nat) (x : StreamRow) (reads : List Nat) :
    ∃ pl c, MarksOnly ((plotEvent d p 0x010 1 none none).plot p) pl ∧ mmulRow d p pc w t i x reads =
      plotWrite ((plotEvent d p 0x010 1 none none).setPlot p { pl with rowChecks := pl.rowChecks ++ [c] }) p pc
        (0x100000 + (bitsOf w 41 8 + i) * 512 + bitsOf w 34 7 * 4) ((rowWords (d.plot p).mat t x).flatMap (leBytes 4)) := by
  generalize he : plotEvent d p 0x010 1 none none = e
  have unarmed : (e.plot p).rg fPLOT_ARR_INJECT_ARM = 0 := by
    rw [← he, plotEvent_plot_rg _ _ _ _ _ _ _ _ (.inl (by decide)), disarmed]
  have old (n c : Nat) :
      ((List.range n).map (fun c => leValue (((zeros (n * 4)).drop (4 * c)).take 4))).getD c 0 = 0 := by
    simp only [leValue_zeros_slice, List.map_const', List.getD_eq_getElem?_getD, List.getElem?_replicate]
    split <;> rfl
  unfold mmulRow rowWords
  simp only [mode, if_true, he, unarmed, zero_ne_one, decide_false, Bool.false_and, Bool.false_eq_true, if_false, old,
    List.map_map, Function.comp_def]
  exact ⟨_, _, (MarksOnly.fmtFlags _ _).trans ((MarksOnly.openCheck _ _ _ _ _).trans
    ((MarksOnly.markRead _ _).trans (MarksOnly.markWrite _ _ _))), rfl⟩

/-! ## The instruction -/

/-- The word of an MMUL of one row in OVERWRITE mode by its fields. -/
theorem mmulWord_fields {base off : Nat} (hb : base < 256) (ho : off * 16 + 128 ≤ 2 ^ 20) {w : Nat}
    (hw : 0x11 * 2 ^ 58 + 1 * 2 ^ 49 + base * 2 ^ 41 + off * 2 ^ 11 = w) :
    w / 2 ^ 58 = 0x11 ∧ bitsOf w 49 9 = 1 ∧ bitsOf w 41 8 = base ∧ bitsOf w 34 7 = 0 ∧ bitsOf w 32 2 = 0 ∧
      bitOf w 31 = false ∧ bitsOf w 27 4 = 0 ∧ bitsOf w 11 16 = off ∧ bitsOf w 0 11 = 0 := by
  subst hw
  have swap : bitOf (0x11 * 2 ^ 58 + 1 * 2 ^ 49 + base * 2 ^ 41 + off * 2 ^ 11) 31 = false := by
    unfold bitOf
    rw [beq_eq_false_iff_ne]
    omega
  refine ⟨?_, ?_, ?_, ?_, ?_, swap, ?_, ?_, ?_⟩
  · omega
  all_goals unfold bitsOf; omega

theorem rowBytes_int8 : rowBytes 11 11 false = 128 := rfl

/-- Nothing stops an MMUL of one INT8 row over a live INT8 tile, from scratch and into accumulators without marks. -/
theorem mmulStop_int8 {pl : Plot} {base off klen nlen stride w : Nat} {x : Tile}
    (mat : pl.mat = ⟨11, 11, klen, nlen, stride, false⟩) (hd : stride = 0 ∨ 128 ≤ stride * 16) (tile : pl.live = some x)
    (fmt : x.fmt = 11) (int : x.intKind = true) (fresh : pl.units = []) (hb : base < 256) (ho : off * 16 + 128 ≤ 2 ^ 20)
    (hw : 0x11 * 2 ^ 58 + 1 * 2 ^ 49 + base * 2 ^ 41 + off * 2 ^ 11 = w) : mmulStop pl w = 0 := by
  obtain ⟨-, rows, baseBits, col, mode, swap, ix, offBits, low⟩ := mmulWord_fields hb ho hw
  have address : off * 16 % 2 ^ 32 = off * 16 := Nat.mod_eq_of_lt (by omega)
  have aligned : off * 16 % 16 = 0 := by omega
  have fits : inLocal (off * 16) ((1 - 1) * stride * 16 + 128) = true := by
    simp only [inLocal, inScratch, Bool.or_eq_true, decide_eq_true_eq]
    omega
  have strideOk : ¬ (stride ≠ 0 ∧ stride * 16 < 128) := by omega
  have pair : arrInt 11 11 = true := rfl
  have columns : arrN 11 = 64 := rfl
  have clear : regionConflict pl ((List.range 1).flatMap (fun i => unitsOf (off * 16 + i * stride * 16) 128) ++ [])
      ((List.range 1).flatMap (fun i => unitsOf (0x100000 + (base + i) * 512 + 0 * 4) (64 * 4))) = false := by
    refine regionConflict_fresh fresh fun u hu hr => ?_
    simp only [List.range_one, List.flatMap_cons, List.flatMap_nil, List.append_nil, Nat.zero_mul, Nat.add_zero] at hu hr
    exact absurd (mem_unitsOf_scratch (by omega) hr) (Nat.not_lt.mpr (mem_unitsOf_acc (by omega) hu))
  unfold mmulStop
  simp only [mat, rows, baseBits, col, mode, swap, ix, offBits, low, opAddr_zero, address, aligned, rowBytes_int8, fits, tile,
    fmt, int, pair, columns, clear, strideOk, Bool.false_and, Bool.false_eq_true, if_false, if_true, ne_eq, not_true_eq_false,
    false_and, or_self, Option.isNone_some, Option.any_some, decide_false, Bool.or_self, Nat.zero_mod, Nat.zero_add,
    Bool.not_true, show ¬ (0 = 3) by decide, show ¬ (0 = 2) by decide, show ¬ (256 < 1) by decide, show ¬ (1 = 0) by decide,
    show ¬ (128 < 64) by decide, show ¬ (256 < base + 1) by omega]

/-- The single streamed row of an MMUL is read before it is written. -/
theorem mmulRows_one {d : Dev} {p w : Nat} (hs : Sound (d.plot p)) (rows : bitsOf w 49 9 = 1) (pc : Nat) (t : Tile)
    {a : Nat} (ha : (d.plot p).opAddr (bitsOf w 27 4) (bitsOf w 11 16) 16 = a)
    {n : Nat} (hn : rowBytes (d.plot p).mat.stat (d.plot p).mat.strm (d.plot p).mat.rowscale = n) :
    mmulRows d p pc w t = mmulRow d p pc w t 0 (parseRow (d.plot p).mat (localBytes d p a n)) (unitsOf a n) := by
  unfold mmulRows
  simp [rows, ha, hn, plotRead_sound hs]

/-- One row of accumulator words has been written from word `w` on, its check opened, and no other memory changed. -/
structure RowWritten (p w : Nat) (vals : List Nat) (d e : Dev) : Prop where
  stores : SameStores { d with tray := e.tray } e
  acc : (e.plot p).acc = accPut (d.plot p).acc w vals
  loops : (e.plot p).loops = (d.plot p).loops
  checks : (e.plot p).rowChecks.length = (d.plot p).rowChecks.length + 1
  others : ∀ q, q ≠ p → (e.plot q).acc = (d.plot q).acc ∧ (e.plot q).units = (d.plot q).units

/-- After the event of the row, its marks and its open check, the write of its words is the row's. -/
theorem RowWritten.of_marks {p w : Nat} {vals : List Nat} {d e : Dev} {pl : Plot} {c : RowCheck} (regs : RegsOnly d e)
    (marks : MarksOnly (e.plot p) pl) : RowWritten p w vals d
      ((e.setPlot p { pl with rowChecks := pl.rowChecks ++ [c] }).setPlot p
        { pl with rowChecks := pl.rowChecks ++ [c], acc := accPut pl.acc w vals }) := by
  have plot := regs.2 p
  have acc : pl.acc = (d.plot p).acc := by rw [marks.only, plot]
  have loops : pl.loops = (d.plot p).loops := by rw [marks.only, plot]
  have checks : pl.rowChecks = (d.plot p).rowChecks := by rw [marks.only, plot]
  refine ⟨⟨regs.scr, regs.bed, regs.gddr, regs.flash, rfl⟩, ?_, ?_, ?_, fun q hq => ?_⟩
  · rw [Dev.plot_setPlot_same, acc]
  · rw [Dev.plot_setPlot_same, loops]
  · rw [Dev.plot_setPlot_same, checks, List.length_append, List.length_singleton]
  · rw [Dev.plot_setPlot_ne _ hq, Dev.plot_setPlot_ne _ hq, regs.2 q]
    exact ⟨rfl, rfl⟩

theorem SameStores.goneOn {d e : Dev} (h : SameStores { d with tray := e.tray } e) (p op pc : Nat) :
    SameStores { d with tray := (e.goneOn p op pc).tray } (e.goneOn p op pc) := h

/-- The streamed row of an MMUL of INT8 in OVERWRITE mode, from sound scratch to the accumulators. -/
theorem mmulRows_int8 {d : Dev} {p base off klen nlen stride w : Nat} (hs : Sound (d.plot p))
    (mat : (d.plot p).mat = ⟨11, 11, klen, nlen, stride, false⟩) (disarmed : (d.plot p).rg fPLOT_ARR_INJECT_ARM = 0)
    (hb : base < 256) (ho : off * 16 + 128 ≤ 2 ^ 20)
    (hw : 0x11 * 2 ^ 58 + 1 * 2 ^ 49 + base * 2 ^ 41 + off * 2 ^ 11 = w) (pc : Nat) (t : Tile) :
    RowWritten p (base * 128) (int8Row klen nlen stride t (memRead d.scr (scrBase p + off * 16) 128)) d (mmulRows d p pc w t) := by
  obtain ⟨-, rows, baseBits, col, mode, -, ix, offBits, -⟩ := mmulWord_fields hb ho hw
  have address : (d.plot p).opAddr (bitsOf w 27 4) (bitsOf w 11 16) 16 = off * 16 := by
    rw [ix, offBits, opAddr_zero, Nat.mod_eq_of_lt (by omega)]
  have size : rowBytes (d.plot p).mat.stat (d.plot p).mat.strm (d.plot p).mat.rowscale = 128 := by rw [mat]; exact rowBytes_int8
  have place : 0x100000 + (bitsOf w 41 8 + 0) * 512 + bitsOf w 34 7 * 4 = 0x100000 + 4 * (base * 128) := by
    rw [baseBits, col]; omega
  obtain ⟨pl, c, marks, streamed⟩ := mmulRow_overwrite (pc := pc) mode disarmed t 0
    (parseRow (d.plot p).mat (localBytes d p (off * 16) 128)) (unitsOf (off * 16) 128)
  have regs := RegsOnly.plotEvent d p 0x010 1 none none
  have kept := plotEvent_plot_rg d p 0x010 1 none none p
  generalize plotEvent d p 0x010 1 none none = e at marks streamed regs kept
  have sound : Sound (e.plot p) := by
    rw [Sound, kept _ (.inl (by decide)), regs.2 p]
    exact hs
  have sound' : Sound ((e.setPlot p { pl with rowChecks := pl.rowChecks ++ [c] }).plot p) := by
    rw [Dev.plot_setPlot_same]
    exact marks.sound sound
  rw [mmulRows_one hs rows pc t address size, streamed, place, mat, localBytes_scratch hs.1 (by omega),
    plotWrite_acc sound' pc (base * 128) (by simp [rowWords, arrN]), Dev.plot_setPlot_same]
  exact RowWritten.of_marks regs marks

/-- An MMUL of one INT8 row over a live INT8 tile streams its row. -/
theorem mmulRun_int8 {d : Dev} {p base off klen nlen stride w : Nat} {x : Tile}
    (mat : (d.plot p).mat = ⟨11, 11, klen, nlen, stride, false⟩) (hd : stride = 0 ∨ 128 ≤ stride * 16)
    (tile : (d.plot p).live = some x) (fmt : x.fmt = 11) (int : x.intKind = true) (fresh : (d.plot p).units = [])
    (hb : base < 256) (ho : off * 16 + 128 ≤ 2 ^ 20)
    (hw : 0x11 * 2 ^ 58 + 1 * 2 ^ 49 + base * 2 ^ 41 + off * 2 ^ 11 = w) (pc : Nat) : mmulRun d p pc w =
      .done (mmulRows (d.setPlot p { d.plot p with swapTaken := false }) p pc w x) := by
  obtain ⟨-, rows, -, -, -, swap, -, -, -⟩ := mmulWord_fields hb ho hw
  have stop := mmulStop_int8 mat hd tile fmt int fresh hb ho hw
  unfold mmulRun
  simp only [swap, stop, rows, Bool.false_and, Bool.false_eq_true, if_false, ne_eq, not_true_eq_false, one_ne_zero,
    show ¬ (0 = 0x0B08) by decide, tile]

/-- An MMUL of one INT8 row writes the words of the row. -/
theorem mmul_int8_gives {s : State} {p base off klen nlen stride w : Nat} {x : Tile} (live : Live s) (hs : Sound (s.dev.plot p))
    (mat : (s.dev.plot p).mat = ⟨11, 11, klen, nlen, stride, false⟩) (hd : stride = 0 ∨ 128 ≤ stride * 16)
    (tile : (s.dev.plot p).live = some x) (fmt : x.fmt = 11) (int : x.intKind = true) (fresh : (s.dev.plot p).units = [])
    (disarmed : (s.dev.plot p).rg fPLOT_ARR_INJECT_ARM = 0) (hb : base < 256) (ho : off * 16 + 128 ≤ 2 ^ 20)
    (hw : 0x11 * 2 ^ 58 + 1 * 2 ^ 49 + base * 2 ^ 41 + off * 2 ^ 11 = w) (h : Issues s.dev p w) :
    ∃ e, Gives (.mmul p) s (e.goneOn p 0x11 (s.dev.plot p).pc) ∧
      RowWritten p (base * 128) (int8Row klen nlen stride x (memRead s.dev.scr (scrBase p + off * 16) 128))
        (s.dev.setPlot p { s.dev.plot p with swapTaken := false }) e := by
  have op := (mmulWord_fields hb ho hw).1
  have run := mmulRun_int8 mat hd tile fmt int fresh hb ho hw (s.dev.plot p).pc
  have plot : (s.dev.setPlot p { s.dev.plot p with swapTaken := false }).plot p = { s.dev.plot p with swapTaken := false } :=
    Dev.plot_setPlot_same _ _ _
  exact ⟨_, issue_gives live (exec_mmul p s) h op (wordLegal_of_op op (by decide)) (decide_eq_true op) run,
    mmulRows_int8 (d := s.dev.setPlot p { s.dev.plot p with swapTaken := false }) (by rw [plot]; exact hs) (by rw [plot]; exact mat)
      (by rw [plot]; exact disarmed) hb ho hw (s.dev.plot p).pc x⟩

/-- Settles O2: the row's words are the sums modulo 2^32, and the write of the row puts nothing else. -/
theorem integerMatrixRow : Obligations.IntegerMatrixRow := by
  unfold Obligations.IntegerMatrixRow
  intro s p base off klen nlen stride x live hs mat hk hn hd tile fmt int fresh disarmed hb ho h
  obtain ⟨e, gives, ⟨scr, bed, gddr, flash, -⟩, acc, loops, checks, others⟩ :=
    mmul_int8_gives live hs mat hd tile fmt int fresh disarmed hb ho rfl h
  rw [Dev.plot_setPlot_same] at acc loops checks
  have stores : SameStores { s.dev with tray := e.tray } e := ⟨scr, bed, gddr, flash, rfl⟩
  refine gives.completes ⟨?_, stores.goneOn p _ _, fun n hn => ?_, fun k hk => ?_, ?_, fun q hq => ?_⟩
  · rw [Dev.goneOn_plot_same]
    exact wentOn_advance loops _
  · rw [Dev.goneOn_plot_same, countIssue_advance_only, acc]
    have inRow : n < (int8Row klen nlen stride x (memRead s.dev.scr (scrBase p + off * 16) 128)).length := by
      rwa [int8Row_length]
    rw [get_accPut_in _ _ inRow, int8Row_getElem hk]
    split
    · rw [← codeOf_eq, ← codeOf_eq, Nat.mod_eq_of_lt (codeOf_lt 32 _)]
      refine congrArg (codeOf 32) (congrArg List.sum (List.map_congr_left fun k hk' => ?_))
      rw [memRead_getD _ _ ((List.mem_range.mp hk').trans_le hk), scrBase]
    · rfl
  · rw [Dev.goneOn_plot_same, countIssue_advance_only, acc]
    exact get_accPut_out _ (by rwa [int8Row_length])
  · rw [Dev.goneOn_plot_same, countIssue_advance_only]
    exact checks
  · rw [Dev.goneOn_plot_ne _ hq, ← Dev.plot_setPlot_ne s.dev hq]
    exact others q hq

end Sys2Proof.Machine
end

section
/-! PROOFS. The vector operations: the pieces of a result, their writes, and the one rule of the thirty (R120, R121, R147). -/

namespace Sys2Proof.Machine

/-! ## Runs of bytes written to scratch -/

/-- A memory with pieces written in turn, each at its offset from `base`. -/
def putPieces (m : List Host.Cell) (base : Nat) (l : List ((Nat × Nat) × List Byte)) : List Host.Cell :=
  l.foldl (fun m e => memWrite m (base + e.1.1) e.2) m

theorem memGet_putPieces_out (base c : Nat) (l : List ((Nat × Nat) × List Byte)) (m : List Host.Cell)
    (h : ∀ e ∈ l, c < base + e.1.1 ∨ base + e.1.1 + e.2.length ≤ c) : memGet (putPieces m base l) c = memGet m c := by
  induction l generalizing m with
  | nil => rfl
  | cons e t ih =>
    rw [putPieces, List.foldl_cons, ← putPieces, ih _ fun x hx => h x (List.mem_cons_of_mem _ hx),
      memGet_memWrite_out _ _ _ _ (h e List.mem_cons_self)]

/-- Pieces that lie one after another keep what was written. -/
theorem memGet_putPieces_in (base : Nat) {e : (Nat × Nat) × List Byte} {i : Nat} (l : List ((Nat × Nat) × List Byte))
    (m : List Host.Cell) (apart : l.Pairwise fun x y => x.1.1 + x.2.length ≤ y.1.1) (he : e ∈ l) (hi : i < e.2.length) :
    memGet (putPieces m base l) (base + e.1.1 + i) = e.2[i] := by
  induction l generalizing m with
  | nil => exact absurd he List.not_mem_nil
  | cons x t ih =>
    obtain ⟨first, rest⟩ := List.pairwise_cons.mp apart
    rw [putPieces, List.foldl_cons, ← putPieces]
    rcases List.mem_cons.mp he with rfl | ht
    · rw [memGet_putPieces_out _ _ _ _ fun y hy => .inl (by have := first y hy; omega), memGet_memWrite_in _ _ _ _ hi]
    · exact ih _ rest ht

/-- Only scratch has changed, as the pieces say. -/
structure PiecesWritten (p : Nat) (l : List ((Nat × Nat) × List Byte)) (d e : Dev) : Prop where
  only : e = { d with scr := putPieces d.scr (scrBase p) l, plots := e.plots }
  plots : ∀ q, e.plot q = d.plot q

/-- The writes of pieces of sound scratch. -/
theorem foldl_plotWrite_pieces (p pc : Nat) (l : List ((Nat × Nat) × List Byte)) {d : Dev} (hs : Sound (d.plot p))
    (h : ∀ e ∈ l, e.1.1 + e.2.length ≤ 2 ^ 20) :
    PiecesWritten p l d (l.foldl (fun d e => plotWrite d p pc e.1.1 e.2) d) := by
  induction l generalizing d with
  | nil => exact ⟨rfl, fun _ => rfl⟩
  | cons e t ih =>
    have one : PiecesWritten p [e] d (plotWrite d p pc e.1.1 e.2) := by
      by_cases none : e.2 = []
      · rw [none]
        exact ⟨by rw [putPieces, List.foldl_cons, none]; rfl, fun _ => rfl⟩
      · have some_ : 0 < e.2.length := List.length_pos_iff.mpr none
        have fits := h e List.mem_cons_self
        rw [plotWrite_scratch hs (by omega) pc none]
        exact ⟨rfl, Dev.plot_setPlot_self { d with scr := memWrite d.scr (scrBase p + e.1.1) e.2 } p⟩
    obtain ⟨only, plots⟩ := one
    obtain ⟨only', plots'⟩ := ih (d := plotWrite d p pc e.1.1 e.2) (by rw [plots]; exact hs)
      fun x hx => h x (List.mem_cons_of_mem _ hx)
    refine ⟨?_, fun q => (plots' q).trans (plots q)⟩
    rw [List.foldl_cons, only', only]
    rfl

/-! ## The sizes of results (R60, R121, R147) -/

theorem decodeElems_length (f n : Nat) (r : Rnd) (sat : Bool) (bytes : List Byte) (means : Option (List Nat)) :
    (decodeElems f n r sat bytes means).1.length = n := by
  unfold decodeElems
  split_ifs <;> simp

/-- A source decoded element by element has as many as the operation names. -/
theorem vopSources_a_length {v : Vop} (hg : v.group ≠ .integer) (hf : v.fmtA ≠ 13) (ra rb rc : List Byte) :
    (vopSources v ra rb rc).a.length = v.len := by
  simp [vopSources, hg, hf, decodeElems_length]

theorem vopSources_b_length {v : Vop} (hg : v.group ≠ .integer) (hf : v.fmtA ≠ 13) (hb : v.usesB = true)
    (ra rb rc : List Byte) : (vopSources v ra rb rc).b.length = v.len := by
  simp [vopSources, hg, hf, hb, decodeElems_length]

theorem vopSources_c_length {v : Vop} (hg : v.group ≠ .integer) (hs : v.group ≠ .select) (hf : v.fmtA ≠ 13)
    (hc : v.usesC = true) (ra rb rc : List Byte) : (vopSources v ra rb rc).c.length = v.len := by
  simp [vopSources, hg, hs, hf, hc, decodeElems_length]

theorem vopSources_means_length {v : Vop} {ra rb rc : List Byte} {m : List Nat} (h : (vopSources v ra rb rc).means = some m) :
    m.length = v.len := by
  unfold vopSources at h
  dsimp only at h
  split_ifs at h <;> cases h <;> simp

theorem vopOut_lengths (v : Vop) (rs : List (FVal × Nat)) (r : Rnd) (sat : Bool) :
    (vopOut v rs r sat).1.map List.length = [(rs.length * fmtBits v.fmtD + 7) / 8] := by
  simp [vopOut]

theorem blocksOf_length (n : Nat) (xs : List FVal) : (blocksOf n xs).length = (xs.length + n - 1) / n := by simp [blocksOf]

theorem quantMX_length {f n : Nat} {r : Rnd} {sat : Bool} {x : List FVal} (h : x.length = n) :
    (quantMX f r sat x).1.length = n := by
  unfold quantMX
  dsimp only
  split <;> simp [h]

theorem quantOK4_length {n : Nat} {r : Rnd} {x : List FVal} (h : x.length = n) : (quantOK4 r x).1.length = n := by
  unfold quantOK4
  dsimp only
  split <;> simp [h]

theorem flatMap_blocks_length {n : Nat} (q : List FVal → List Nat × Nat × Nat) (hq : ∀ x, x.length = n → (q x).1.length = n)
    (xs : List FVal) : (((blocksOf n xs).map q).flatMap (·.1)).length = (xs.length + n - 1) / n * n := by
  have each : ((blocksOf n xs).map q).map (fun b => b.1.length) = List.replicate ((xs.length + n - 1) / n) n := by
    rw [List.eq_replicate_iff]
    refine ⟨by simp [blocksOf_length], fun k hk => ?_⟩
    simp only [blocksOf, List.map_map, List.mem_map, Function.comp_apply] at hk
    obtain ⟨i, -, rfl⟩ := hk
    exact hq _ (by simp)
  rw [List.length_flatMap, each, List.sum_replicate, smul_eq_mul]

/-- The result of an operation has the bytes of its destination's pieces, for operands that are decoded element by element. -/
def Shaped (g : VGroup) (usesB usesC : Bool) (result : Vop → VSrc → List (List Byte) × Nat) : Prop :=
  ∀ (v : Vop) (ra rb rc : List Byte) (d : Nat), v.group = g → v.usesB = usesB → v.usesC = usesC →
    (v.fmtA ≠ 13 ∨ v.group = .integer) → (result v (vopSources v ra rb rc)).1.map List.length = (v.pieces d).map Prod.snd

theorem Vop.pieces_plain {v : Vop} (h : v.group = .arith ∨ v.group = .select ∨ v.group = .convert) (d : Nat) :
    v.pieces d = [(d, (v.len * fmtBits v.fmtD + 7) / 8)] := by
  rcases h with h | h | h <;> simp [Vop.pieces, h]

theorem Vop.pieces_words {v : Vop} (h : v.group = .compare ∨ v.group = .integer) (d : Nat) :
    v.pieces d = [(d, 4 * v.len)] := by
  rcases h with h | h <;> simp [Vop.pieces, h]

theorem words_bytes (n : Nat) : (n * 32 + 7) / 8 = 4 * n := by omega

theorem shaped_vop1 (op : FVal → FVal × Nat) :
    Shaped .arith false false (vop1 op) := by
  intro v ra rb rc d hg _ _ hf
  have a := vopSources_a_length (by rw [hg]; decide) (hf.resolve_right (by rw [hg]; decide)) ra rb rc
  rw [vop1, vopOut_lengths, List.length_map, a, Vop.pieces_plain (.inl hg)]
  rfl

theorem shaped_vop2 (op : FVal → FVal → FVal × Nat) :
    Shaped .arith true false (vop2 op) := by
  intro v ra rb rc d hg hb _ hf
  have plain := hf.resolve_right (by rw [hg]; decide)
  have a := vopSources_a_length (by rw [hg]; decide) plain ra rb rc
  have b := vopSources_b_length (by rw [hg]; decide) plain hb ra rb rc
  rw [vop2, vopOut_lengths, List.length_map, List.length_zip, a, b, Nat.min_self, Vop.pieces_plain (.inl hg)]
  rfl

theorem shaped_fma : Shaped .arith true true
    fun v s => vopOut v ((s.a.zip (s.b.zip s.c)).map (fun e => fmaExact e.1 e.2.1 e.2.2)) .rne false := by
  intro v ra rb rc d hg hb hc hf
  have plain := hf.resolve_right (by rw [hg]; decide)
  have a := vopSources_a_length (by rw [hg]; decide) plain ra rb rc
  have b := vopSources_b_length (by rw [hg]; decide) plain hb ra rb rc
  have c := vopSources_c_length (by rw [hg]; decide) (by rw [hg]; decide) plain hc ra rb rc
  dsimp only
  rw [vopOut_lengths, List.length_map, List.length_zip, List.length_zip, a, b, c, Nat.min_self, Nat.min_self,
    Vop.pieces_plain (.inl hg)]
  rfl

theorem shaped_cmp (op : FVal → FVal → Bool) :
    Shaped .compare true false (vopCmp op) := by
  intro v ra rb rc d hg hb _ hf
  have plain := hf.resolve_right (by rw [hg]; decide)
  have a := vopSources_a_length (by rw [hg]; decide) plain ra rb rc
  have b := vopSources_b_length (by rw [hg]; decide) plain hb ra rb rc
  simp [vopCmp, a, b, Vop.pieces_words (.inl hg), words_bytes]

theorem shaped_sel : Shaped .select true true
    fun v s => vopOut v ((s.a.zip (s.b.zip (unpackCodes 32 v.len s.rawC))).map (fun e =>
      let x := if e.2.2 ≠ 0 then e.1 else e.2.1
      (x, x.nanFlags))) .rne false := by
  intro v ra rb rc d hg hb _ hf
  have plain := hf.resolve_right (by rw [hg]; decide)
  have a := vopSources_a_length (by rw [hg]; decide) plain ra rb rc
  have b := vopSources_b_length (by rw [hg]; decide) plain hb ra rb rc
  dsimp only
  rw [vopOut_lengths, List.length_map, List.length_zip, List.length_zip, a, b, unpackCodes_length, Nat.min_self, Nat.min_self,
    Vop.pieces_plain (.inr (.inl hg))]
  rfl

theorem shaped_reduce (id : FVal) (op opBf : FVal → FVal → FVal × Nat) :
    Shaped .reduce false false (vopReduce id op opBf) := by
  intro v ra rb rc d hg _ _ _
  rw [vopReduce, vopOut_lengths]
  simp [Vop.pieces, hg]

theorem shaped_convert : Shaped .convert false false vopConvert := by
  intro v ra rb rc d hg _ _ hf
  have a := vopSources_a_length (by rw [hg]; decide) (hf.resolve_right (by rw [hg]; decide)) ra rb rc
  rw [vopConvert, vopOut_lengths, List.length_map, a, Vop.pieces_plain (.inr (.inr hg))]
  rfl

theorem shaped_int (op : Nat → Nat → Nat) :
    Shaped .integer true false (vopInt op) := by
  intro v ra rb rc d hg _ _ _
  simp [vopInt, Vop.pieces_words (.inr hg), words_bytes]

theorem shaped_qmx : Shaped .qmx false false vopQuantMX := by
  intro v ra rb rc d hg _ _ hf
  have a := vopSources_a_length (by rw [hg]; decide) (hf.resolve_right (by rw [hg]; decide)) ra rb rc
  have codes := flatMap_blocks_length (n := 32) (quantMX v.fmtD v.rnd v.sat) (fun _ => quantMX_length) (vopSources v ra rb rc).a
  have bytes (nb fb : Nat) : (nb * 32 * fb + 7) / 8 = nb * (4 * fb) := by
    rw [show nb * 32 * fb = nb * (4 * fb) * 8 by ring]; omega
  have pieces : (v.pieces d).map Prod.snd = [(v.len + 31) / 32 * (4 * fmtBits v.fmtD), (v.len + 31) / 32] := by
    simp [Vop.pieces, hg]
  rw [pieces]
  simp only [vopQuantMX, List.map_cons, List.map_nil, packCodes_length, codes, List.length_map, blocksOf_length, a, bytes]
  rfl

theorem shaped_qok4 : Shaped .qok4 false false vopQuantOK4 := by
  intro v ra rb rc d hg _ _ hf
  have a := vopSources_a_length (by rw [hg]; decide) (hf.resolve_right (by rw [hg]; decide)) ra rb rc
  have bytes (nb : Nat) : (nb * 16 * 4 + 7) / 8 = nb * 8 := by omega
  have sized (xs : List FVal) (h : xs.length = v.len) :
      ((((blocksOf 16 xs).map (quantOK4 v.rnd)).flatMap (·.1)).length * 4 + 7) / 8 = (v.len + 15) / 16 * 8 ∧
        (((blocksOf 16 xs).map (quantOK4 v.rnd)).map (fun b => BitVec.ofNat 8 b.2.1)).length = (v.len + 15) / 16 := by
    rw [flatMap_blocks_length _ (fun _ => quantOK4_length), List.length_map, List.length_map, blocksOf_length, h, bytes]
    exact ⟨rfl, rfl⟩
  have pieces : (v.pieces d).map Prod.snd = [(v.len + 15) / 16 * 8, (v.len + 15) / 16] := by simp [Vop.pieces, hg]
  rw [pieces]
  unfold vopQuantOK4
  simp only [List.map_cons, List.map_nil, packCodes_length]
  cases hm : (vopSources v ra rb rc).means with
  | none =>
    obtain ⟨codes, scales⟩ := sized (((vopSources v ra rb rc).a.map (fun x => (x, x.nanFlags))).map (·.1)) (by simp [a])
    rw [codes, scales]
  | some m =>
    obtain ⟨codes, scales⟩ := sized ((((vopSources v ra rb rc).a.zip m).map
      (fun e => add32 e.1 (decodeFp fmtBf16 e.2).neg)).map (·.1)) (by simp [a, vopSources_means_length hm])
    rw [codes, scales]

/-- Every row of the table makes the bytes of its pieces. -/
theorem shaped_vectorOps : ∀ o ∈ vectorOps, Shaped o.group o.usesB o.usesC o.result := by
  simp only [vectorOps, List.forall_mem_cons]
  exact ⟨shaped_vop2 _, shaped_vop2 _, shaped_vop2 _, shaped_fma, shaped_vop2 _, shaped_vop2 _,
    shaped_vop1 _, shaped_vop1 _, shaped_cmp _, shaped_cmp _, shaped_cmp _, shaped_sel,
    shaped_vop1 _, shaped_vop1 _, shaped_vop1 _, shaped_vop1 _, shaped_vop2 _, shaped_reduce _ _ _,
    shaped_reduce _ _ _, shaped_reduce _ _ _, shaped_convert, shaped_qmx, shaped_qok4,
    shaped_int _, shaped_int _, shaped_int _, shaped_int _, shaped_int _, shaped_int _,
    shaped_int _, fun _ h => absurd h List.not_mem_nil⟩

/-! ## The rows of the table -/

/-- Every row's command issues its operation. -/
theorem exec_vectorOp : ∀ o ∈ vectorOps, ∀ (p : Nat) (s : State), exec (o.command p) s = onDev s fun d =>
    issueWord d p (isVop o.func) false fun d pc w => vopRun o.group o.usesB o.usesC o.result d p pc w := by
  simp only [vectorOps, List.forall_mem_cons]
  refine ⟨?_, ?_, ?_, ?_, ?_, ?_, ?_, ?_, ?_, ?_, ?_, ?_, ?_, ?_, ?_, ?_, ?_, ?_, ?_, ?_, ?_, ?_, ?_, ?_, ?_, ?_, ?_, ?_, ?_, ?_,
    fun _ h => absurd h List.not_mem_nil⟩
  all_goals exact fun _ _ => rfl

theorem vopKnown_vectorOps : ∀ o ∈ vectorOps, vopKnown o.func = true := by
  simp only [vectorOps, List.forall_mem_cons]
  decide

/-! ## Where a result lies (R147) -/

/-- The second piece begins where the first has ended. -/
theorem Vop.pieces_apart (v : Vop) (d : Nat) : (v.pieces d).Pairwise fun x y => x.1 + x.2 ≤ y.1 := by
  cases hg : v.group <;> simp only [Vop.pieces, hg, List.pairwise_cons, List.Pairwise.nil, List.mem_singleton, List.not_mem_nil,
    forall_eq, false_imp_iff, implies_true, and_self, and_true]
  all_goals omega

theorem foldl_max_ge {α : Type} (f : α → Nat) (l : List α) (z : Nat) :
    z ≤ l.foldl (fun n e => max n (f e)) z ∧ ∀ x ∈ l, f x ≤ l.foldl (fun n e => max n (f e)) z := by
  induction l generalizing z with
  | nil => exact ⟨Nat.le_refl z, fun _ h => absurd h List.not_mem_nil⟩
  | cons x t ih =>
    obtain ⟨base, rest⟩ := ih (max z (f x))
    refine ⟨(Nat.le_max_left _ _).trans base, fun y hy => ?_⟩
    rcases List.mem_cons.mp hy with rfl | ht
    · exact (Nat.le_max_right _ _).trans base
    · exact rest y ht

/-- An operation that nothing stops has its whole destination in one local range. -/
theorem Vop.inLocal_of_stop {v : Vop} {d : Dev} {pl : Plot} {w : Nat} (h : v.stop d pl w = 0) (hl : 0 < v.len) :
    inLocal (pl.idx v.id) ((v.pieces (pl.idx v.id)).foldl (fun n e => max n (e.1 + e.2 - pl.idx v.id)) 0) = true := by
  unfold Vop.stop at h
  dsimp only [Vop.addrs] at h
  split_ifs at h with _ _ none _ outside
  · contradiction
  · omega
  all_goals
    simp only [Bool.or_eq_true, not_or, Bool.not_eq_true', Bool.not_eq_false] at outside
    exact outside.2

/-- The pieces of a destination in scratch fit there. -/
theorem Vop.pieces_fit {v : Vop} {d : Dev} {pl : Plot} {w : Nat} (h : v.stop d pl w = 0) (hl : 0 < v.len)
    (hd : pl.idx v.id < 2 ^ 20) : ∀ a ∈ v.pieces (pl.idx v.id), a.1 + a.2 ≤ 2 ^ 20 := by
  intro a ha
  have fits := Vop.inLocal_of_stop h hl
  have within := (foldl_max_ge (fun e : Nat × Nat => e.1 + e.2 - pl.idx v.id) (v.pieces (pl.idx v.id)) 0).2 a ha
  simp only [inLocal, inScratch, inAcc, Bool.or_eq_true, Bool.and_eq_true, decide_eq_true_eq] at fits
  omega

/-- The pieces of a destination beside bytes of their sizes. -/
theorem mem_zip_length {pieces : List (Nat × Nat)} {out : List (List Byte)} (h : out.map List.length = pieces.map Prod.snd)
    {e : (Nat × Nat) × List Byte} (he : e ∈ pieces.zip out) : e.2.length = e.1.2 := by
  induction pieces generalizing out with
  | nil => simp at he
  | cons a t ih =>
    cases out with
    | nil => simp at he
    | cons b r =>
      simp only [List.map_cons, List.cons.injEq] at h
      obtain ⟨first, rest⟩ := h
      rcases List.mem_cons.mp he with rfl | ht
      · exact first
      · exact ih rest ht

theorem zip_pieces_apart {pieces : List (Nat × Nat)} {out : List (List Byte)} (h : out.map List.length = pieces.map Prod.snd)
    (apart : pieces.Pairwise fun x y => x.1 + x.2 ≤ y.1) :
    (pieces.zip out).Pairwise fun x y => x.1.1 + x.2.length ≤ y.1.1 := by
  have same : pieces.length = out.length := by simpa using congrArg List.length h.symm
  rw [← List.map_fst_zip same.le, List.pairwise_map] at apart
  exact apart.imp_of_mem fun hx _ hxy => by rwa [mem_zip_length h hx]

/-! ## The instruction (R119, R126) -/

/-- A VOP with sound memories that nothing stops: marks, one more open check, and the writes of its pieces. -/
theorem vopRun_sound {d : Dev} {p w : Nat} {g : VGroup} {usesB usesC : Bool} (run : Vop → VSrc → List (List Byte) × Nat)
    (hs : Sound (d.plot p)) (hl : 0 < (vopOf g usesB usesC w).len) (stop : (vopOf g usesB usesC w).stop d (d.plot p) w = 0)
    (plain : (vopOf g usesB usesC w).fmtA ≠ 13 ∨ g = .integer) (pc : Nat) :
    ∃ pl c, MarksOnly (d.plot p) pl ∧ vopRun g usesB usesC run d p pc w = .done
      ((((vopOf g usesB usesC w).pieces ((d.plot p).idx (vopOf g usesB usesC w).id)).zip
        (run (vopOf g usesB usesC w) (vectorSources d p (vopOf g usesB usesC w))).1).foldl
          (fun d e => plotWrite d p pc e.1.1 e.2) (d.setPlot p { pl with vecChecks := pl.vecChecks ++ [c] })) := by
  have group : (vopOf g usesB usesC w).group = g := rfl
  have whole (c : Prop) : ¬ ((vopOf g usesB usesC w).group ≠ .integer ∧ (vopOf g usesB usesC w).fmtA = 13 ∧ c) := by
    rw [group]
    exact fun h => plain.elim (fun k => k h.2.1) h.1
  unfold vopRun vectorSources
  simp only [stop, ne_eq, not_true_eq_false, if_false, hl.ne', plotRead_sound hs, whole]
  exact ⟨_, _, (MarksOnly.fmtFlags _ _).trans ((MarksOnly.openCheck _ _ _ _ _).trans
    ((MarksOnly.markRead _ _).trans (MarksOnly.markWrite _ _ _))), rfl⟩

/-- The word of a row of the table. -/
theorem isVop_fields {func w : Nat} (h : isVop func w = true) : w / 2 ^ 58 = 0x18 ∧ bitsOf w 52 6 = func := by
  simpa only [isVop, isOp, Bool.and_eq_true, decide_eq_true_eq] using h

/-- Only scratch and plot `p` have changed: scratch as the pieces say, the plot by an open vector check and marks that
no later instruction's place depends on. -/
structure VopDone (p : Nat) (l : List ((Nat × Nat) × List Byte)) (d e : Dev) : Prop where
  only : e = { d with scr := putPieces d.scr (scrBase p) l, plots := e.plots }
  loops : (e.plot p).loops = (d.plot p).loops
  checks : (e.plot p).vecChecks.length = (d.plot p).vecChecks.length + 1
  others : ∀ q, q ≠ p → e.plot q = d.plot q

theorem VopDone.stores {p : Nat} {l : List ((Nat × Nat) × List Byte)} {d e : Dev} (h : VopDone p l d e) (op pc : Nat) : SameStores { d with scr := (e.goneOn p op pc).scr } (e.goneOn p op pc) := by
  have same : SameStores { d with scr := e.scr } e := by
    rw [h.only]
    exact ⟨rfl, rfl, rfl, rfl, rfl⟩
  exact same

/-- What a VOP with sound memories that nothing stops has done. -/
theorem vopRun_done {d : Dev} {p w : Nat} {g : VGroup} {usesB usesC : Bool} {run : Vop → VSrc → List (List Byte) × Nat}
    (shaped : Shaped g usesB usesC run) (hs : Sound (d.plot p)) (hl : 0 < (vopOf g usesB usesC w).len)
    (stop : (vopOf g usesB usesC w).stop d (d.plot p) w = 0) (plain : (vopOf g usesB usesC w).fmtA ≠ 13 ∨ g = .integer)
    (hd : (d.plot p).idx (vopOf g usesB usesC w).id < 2 ^ 20) (pc : Nat) :
    ∃ e, vopRun g usesB usesC run d p pc w = .done e ∧
      VopDone p (((vopOf g usesB usesC w).pieces ((d.plot p).idx (vopOf g usesB usesC w).id)).zip
        (run (vopOf g usesB usesC w) (vectorSources d p (vopOf g usesB usesC w))).1) d e := by
  obtain ⟨pl, c, marks, ran⟩ := vopRun_sound run hs hl stop plain pc
  have sizes : (run (vopOf g usesB usesC w) (vectorSources d p (vopOf g usesB usesC w))).1.map List.length =
      ((vopOf g usesB usesC w).pieces ((d.plot p).idx (vopOf g usesB usesC w).id)).map Prod.snd :=
    shaped _ _ _ _ _ rfl rfl rfl plain
  have opened : (d.setPlot p { pl with vecChecks := pl.vecChecks ++ [c] }).plot p = { pl with vecChecks := pl.vecChecks ++ [c] } :=
    Dev.plot_setPlot_same ..
  have vecs : pl.vecChecks = (d.plot p).vecChecks := by rw [marks.only]
  obtain ⟨only, plots⟩ := foldl_plotWrite_pieces p pc _ (d := d.setPlot p { pl with vecChecks := pl.vecChecks ++ [c] })
    (by rw [opened]; exact marks.sound hs) fun e he => by
      rw [mem_zip_length sizes he]
      exact Vop.pieces_fit stop hl hd e.1 (List.of_mem_zip he).1
  refine ⟨_, ran, only.trans rfl, ?_, ?_, fun q hq => (plots q).trans (Dev.plot_setPlot_ne _ hq _)⟩
  · rw [plots, opened]
    exact marks.loops
  · rw [plots, opened, List.length_append, vecs]
    rfl

/-- Settles O4: the pieces of a result lie apart and in scratch, and the operation writes them and nothing else. -/
theorem vectorOperations : Obligations.VectorOperations := by
  unfold Obligations.VectorOperations
  intro o ho s p w live issues word
  dsimp only
  intro hs hl stop plain hd
  obtain ⟨op, func⟩ := isVop_fields word
  have shaped := shaped_vectorOps o ho
  obtain ⟨e, run, effect⟩ := vopRun_done shaped hs hl stop plain hd (s.dev.plot p).pc
  have sizes : (o.result (vopOf o.group o.usesB o.usesC w) (vectorSources s.dev p (vopOf o.group o.usesB o.usesC w))).1.map
      List.length = ((vopOf o.group o.usesB o.usesC w).pieces ((s.dev.plot p).idx (vopOf o.group o.usesB o.usesC w).id)).map
        Prod.snd := shaped _ _ _ _ _ rfl rfl rfl plain
  have gives := issue_gives live (exec_vectorOp o ho p s) issues op
    (wordLegal_of_vop op (func ▸ vopKnown_vectorOps o ho)) word run
  have scr : (e.goneOn p 0x18 (s.dev.plot p).pc).scr = putPieces s.dev.scr (scrBase p) _ :=
    congrArg Dev.scr effect.only
  refine ⟨_, gives, ?_, ?_, ?_, ?_, ?_, ?_⟩
  · rw [Dev.goneOn_plot_same]
    exact wentOn_advance effect.loops _
  · exact effect.stores _ _
  · intro j a b ha hb i hi
    have member := List.mem_of_getElem? (List.getElem?_zip_eq_some (z := (a, b)) |>.mpr ⟨ha, hb⟩)
    have back := memGet_putPieces_in (e := (a, b)) (scrBase p) _ s.dev.scr (zip_pieces_apart sizes (Vop.pieces_apart _ _))
      member hi
    rw [List.getElem?_eq_getElem hi, ← back, ← scr]
    rfl
  · intro c hc
    rw [scr]
    refine memGet_putPieces_out _ _ _ _ fun x hx => ?_
    rw [mem_zip_length sizes hx]
    exact hc x.1 (List.of_mem_zip hx).1
  · rw [Dev.goneOn_plot_same, countIssue_advance_only]
    exact effect.checks
  · exact fun q hq => (e.goneOn_plot_ne hq _ _).trans (effect.others q hq)

end Sys2Proof.Machine
end

section
/-! PROOFS. Tines that run: the one rule of issue, where a tine goes, and reads of sound beds and scratch. -/

namespace Sys2Proof.Machine

/-! ## One tine's state -/

@[simp] theorem Plot.tine_setTine_same (pl : Plot) (k : Nat) (x : Tine) : (pl.setTine k x).tine k = x :=
  SMap.get_set_same Tine.reset pl.tines k x

theorem Plot.tine_setTine_ne (pl : Plot) {j k : Nat} (h : j ≠ k) (x : Tine) : (pl.setTine k x).tine j = pl.tine j :=
  SMap.get_set_ne Tine.reset Tine.reset pl.tines h x

@[simp] theorem Dev.tine_modTine_same (d : Dev) (p k : Nat) (f : Tine → Tine) :
    ((d.modTine p k f).plot p).tine k = f ((d.plot p).tine k) := by simp [Dev.modTine]

theorem Dev.tine_modTine_ne (d : Dev) (p : Nat) {j k : Nat} (h : j ≠ k) (f : Tine → Tine) :
    ((d.modTine p k f).plot p).tine j = (d.plot p).tine j := by simp [Dev.modTine, Plot.tine_setTine_ne _ h]

/-! ## Where a tine goes (R188) -/

theorem tineAdvance_go_only (x : Tine) (pc : Nat) (l : List LoopSt) : tineAdvance.go x pc l =
    { x with loops := (tineAdvance.go x pc l).loops, pc := (tineAdvance.go x pc l).pc } := by
  induction l with
  | nil => rfl
  | cons a t ih =>
    unfold tineAdvance.go
    split_ifs
    · rfl
    · exact ih
    · rfl

theorem tineAdvance_go_pc (x y : Tine) (pc : Nat) (l : List LoopSt) : (tineAdvance.go x pc l).pc = (tineAdvance.go y pc l).pc := by
  induction l with
  | nil => rfl
  | cons a t ih =>
    unfold tineAdvance.go
    split_ifs
    · rfl
    · exact ih
    · rfl

theorem tineAdvance_only (x : Tine) (pc : Nat) :
    tineAdvance x pc = { x with loops := (tineAdvance x pc).loops, pc := (tineAdvance x pc).pc } := tineAdvance_go_only x pc x.loops

@[simp] theorem tineAdvance_acc (x : Tine) (pc : Nat) : (tineAdvance x pc).acc = x.acc := by rw [tineAdvance_only]

@[simp] theorem tineAdvance_checks (x : Tine) (pc : Nat) : (tineAdvance x pc).checks = x.checks := by rw [tineAdvance_only]

/-- Where a tine goes depends on its loops alone. -/
theorem tineAdvance_pc {x y : Tine} (h : y.loops = x.loops) : (tineAdvance y x.pc).pc = x.goesOn.pc := by
  rw [tineAdvance, h]
  exact tineAdvance_go_pc y x x.pc x.loops

/-! ## One instruction issued (R185, R187) -/

/-- The device after a tine's instruction has been counted. -/
def Dev.tineCounted (e : Dev) (p k : Nat) : Dev := e.modPlot p (·.count (fPLOT_UNIT_ICNT_COUNT.at (4 + k)) 1)

/-- The device after a tine's instruction that has had its effect: it is counted, and the tine has gone on. -/
def Dev.tineOn (e : Dev) (p k pc : Nat) : Dev := (e.tineCounted p k).modTine p k (tineAdvance · pc)

theorem Dev.tineCounted_plot (e : Dev) (p k : Nat) :
    (e.tineCounted p k).plot p = (e.plot p).count (fPLOT_UNIT_ICNT_COUNT.at (4 + k)) 1 := Dev.plot_modPlot_same ..

@[simp] theorem Dev.tineCounted_tine (e : Dev) (p k j : Nat) : ((e.tineCounted p k).plot p).tine j = (e.plot p).tine j := by
  rw [Dev.tineCounted_plot]
  rfl

@[simp] theorem Dev.tineOn_tine_same (e : Dev) (p k pc : Nat) :
    ((e.tineOn p k pc).plot p).tine k = tineAdvance ((e.plot p).tine k) pc := by
  rw [Dev.tineOn, Dev.tine_modTine_same, Dev.tineCounted_tine]

theorem Dev.tineOn_tine_ne (e : Dev) (p pc : Nat) {j k : Nat} (h : j ≠ k) :
    ((e.tineOn p k pc).plot p).tine j = (e.plot p).tine j := by
  rw [Dev.tineOn, Dev.tine_modTine_ne _ _ h, Dev.tineCounted_tine]

theorem SameStores.tineOn {d e : Dev} (h : SameStores d e) (p k pc : Nat) : SameStores d (e.tineOn p k pc) := h

/-- A running tine issues an instruction that has its effect. -/
theorem tineStep_done {d e : Dev} {p k w : Nat} {mine : Nat → Bool} {run : Dev → Nat → Nat → TineRes} (hold : Bool)
    (h : TineIssues d p k w) (known : w / 2 ^ 27 < 0x0E) (hm : mine w = true)
    (hr : run d ((d.plot p).tine k).pc w = .done e) : tineStep d p k mine hold run =
      if hold then e.tineCounted p k else e.tineOn p k ((d.plot p).tine k).pc := by
  obtain ⟨plot, tine, running, free, mode, fetched⟩ := h
  have runs : (!isPlot p || 16 ≤ k || (d.plot p).rg (fBED_TINE_STATUS_STATE.bit k) ≠ 1 || ((d.plot p).tine k).wait ≠ .none ||
      (d.plot p).chMode (k / 4) ≠ chTINE) = false := by
    simp [plot, running, free, mode, chTINE, tine]
  unfold tineStep
  simp only [runs, fetched, Bool.false_eq_true, if_false, show ¬ 2 ≤ 0 by decide, Nat.not_le.mpr known, hm, Bool.not_true, hr]
  rfl

theorem tineStep_gives {c : Instr} {s : State} {e : Dev} {p k w op : Nat} {run : Dev → Nat → Nat → TineRes} (live : Live s)
    (hc : exec c s = onDev s fun d => tineStep d p k (isTOp op) false run) (h : TineIssues s.dev p k w)
    (hop : w / 2 ^ 27 = op) (known : op < 0x0E) (hr : run s.dev ((s.dev.plot p).tine k).pc w = .done e) :
    Gives c s (e.tineOn p k ((s.dev.plot p).tine k).pc) := by
  rw [Gives, hc, onDev_live live, tineStep_done false h (hop ▸ known) (decide_eq_true hop) hr]
  rfl

/-- The same for an instruction after which the tine waits. -/
theorem tineStep_holds {c : Instr} {s : State} {e : Dev} {p k w op : Nat} {run : Dev → Nat → Nat → TineRes} (live : Live s)
    (hc : exec c s = onDev s fun d => tineStep d p k (isTOp op) true run) (h : TineIssues s.dev p k w)
    (hop : w / 2 ^ 27 = op) (known : op < 0x0E) (hr : run s.dev ((s.dev.plot p).tine k).pc w = .done e) :
    Gives c s (e.tineCounted p k) := by
  rw [Gives, hc, onDev_live live, tineStep_done true h (hop ▸ known) (decide_eq_true hop) hr]
  rfl

/-! ## Reads of beds without a column in error (R173, R174) -/

theorem bedReadCol_clean {d : Dev} {p : Nat} (h : (d.plot p).bedErr = []) (col : Nat) (scrub : Bool) :
    bedReadCol d p col scrub = (d, memRead d.bed (bedBase p + col * 32) 32, false) := by
  have clean : decodeCol [] = .clean := rfl
  simp [bedReadCol, h, SMap.get_nil, clean, symMask, memRead]

/-- Columns read in turn join to the bytes they hold. -/
theorem foldl_bedReadCol_clean {d : Dev} {p : Nat} (h : (d.plot p).bedErr = []) (first m : Nat) :
    ((List.range m).map (· + first)).foldl (fun (s : Dev × List Byte × Bool) col =>
      let q := bedReadCol s.1 p col false
      (q.1, s.2.1 ++ q.2.1, s.2.2 || q.2.2)) (d, [], false) = (d, memRead d.bed (bedBase p + first * 32) (m * 32), false) := by
  induction m with
  | zero => simp [memRead]
  | succ m ih =>
    have next : bedBase p + (m + first) * 32 = bedBase p + first * 32 + m * 32 := by ring
    rw [List.range_succ, List.map_append, List.foldl_append, ih]
    simp only [List.map_cons, List.map_nil, List.foldl_cons, List.foldl_nil, bedReadCol_clean h, next, memRead_append,
      Bool.or_self, Nat.succ_mul]

/-- A read of a bed without a column in error gives its bytes and changes nothing. -/
theorem bedRead_clean {d : Dev} {p : Nat} (h : (d.plot p).bedErr = []) (off n : Nat) :
    bedRead d p off n false = (d, memRead d.bed (bedBase p + off) n, 0) := by
  unfold bedRead colsOf
  split
  next none => simp [none, memRead]
  next some_ =>
    have inside : n ≤ ((off + n - 1) / 32 - off / 32 + 1) * 32 - off % 32 := by omega
    have start : bedBase p + off / 32 * 32 + off % 32 = bedBase p + off := by omega
    rw [foldl_bedReadCol_clean h]
    simp [memRead_drop, memRead_take _ _ inside, start]

end Sys2Proof.Machine
end

section
/-! PROOFS. TACT, TMV of an INT8 group and TRED (R189 to R191, R195). -/

namespace Sys2Proof.Machine

/-! ## Words in rows of one stride -/

/-- The words of the rows before `n` of a table, each made anew from what it held. -/
def gridSet (stride m : Nat) (val : Nat → Nat → Nat → Nat) (n : Nat) (acc : SMap Nat) : SMap Nat :=
  (List.range n).foldl (fun s i => (List.range m).foldl (fun s o =>
    SMap.set 0 s (i * stride + o) (val i o (SMap.get 0 s (i * stride + o)))) s) acc

theorem gridSet_succ (stride m : Nat) (val : Nat → Nat → Nat → Nat) (n : Nat) (acc : SMap Nat) :
    gridSet stride m val (n + 1) acc = (List.range m).foldl (fun s o =>
      SMap.set 0 s (n * stride + o) (val n o (SMap.get 0 s (n * stride + o)))) (gridSet stride m val n acc) := by
  rw [gridSet, List.range_succ, List.foldl_append]
  rfl

theorem get_gridSet_out {stride m n k : Nat} (hm : m ≤ stride) (val : Nat → Nat → Nat → Nat) (acc : SMap Nat)
    (h : n * stride ≤ k) : SMap.get 0 (gridSet stride m val n acc) k = SMap.get 0 acc k := by
  induction n with
  | zero => rfl
  | succ n ih =>
    rw [Nat.succ_mul] at h
    rw [gridSet_succ, SMap.get_foldl_set_out 0 0 (fun o => n * stride + o)
      (fun s o => val n o (SMap.get 0 s (n * stride + o))) _ _ fun o ho => ?_, ih (by omega)]
    have := List.mem_range.mp ho
    omega

/-- Every word of the rows has its value. -/
theorem get_gridSet {stride m n i o : Nat} (hm : m ≤ stride) (val : Nat → Nat → Nat → Nat) (acc : SMap Nat) (hi : i < n)
    (ho : o < m) : SMap.get 0 (gridSet stride m val n acc) (i * stride + o) = val i o (SMap.get 0 acc (i * stride + o)) := by
  induction n with
  | zero => exact absurd hi (Nat.not_lt_zero i)
  | succ n ih =>
    rw [gridSet_succ]
    rcases Nat.lt_succ_iff_lt_or_eq.mp hi with before | rfl
    · have below : i * stride + stride ≤ n * stride := Nat.succ_mul i stride ▸ Nat.mul_le_mul_right stride before
      rw [SMap.get_foldl_set_out 0 0 (fun o => n * stride + o) (fun s o => val n o (SMap.get 0 s (n * stride + o))) _ _
        fun o' _ => by omega, ih before]
    · have distinct : ((List.range m).map (i * stride + ·)).Nodup := List.nodup_range.map fun _ _ => Nat.add_left_cancel
      rw [SMap.get_foldl_set_in 0 (fun o => i * stride + o) (fun old o => val i o old) _ _ distinct (List.mem_range.mpr ho),
        get_gridSet_out hm val acc (Nat.le_add_right _ _)]

/-! ## TACT (R189) -/

theorem exec_tact (p k : Nat) (s : State) : exec (.tact p k) s = onDev s fun d => tineStep d p k (isTOp 0x05) true fun d _ w =>
    if bitsOf w 0 13 ≠ 0 then .stop d 0x0D0A false
    else if 8 < bitsOf w 20 4 ∨ 64 < bitsOf w 13 7 then .stop d 0x0D0B false
    else if bitsOf w 20 4 ≠ 0 && bitsOf w 13 7 ≠ 0 &&
        !inData (((d.plot p).tine k).reg (bitsOf w 24 3)) (bitsOf w 20 4 * (bitsOf w 13 7 * 32 + 16)) then .stop d 0x0D10 false
    else .done (d.modTine p k (fun x => { x with wait := .act })) := rfl

/-- The fields of a TACT. -/
theorem tact_fields {r rows kb w : Nat} (hr : r < 8) (hrows : rows ≤ 8) (hkb : kb ≤ 64)
    (hw : 0x05 * 2 ^ 27 + r * 2 ^ 24 + rows * 2 ^ 20 + kb * 2 ^ 13 = w) :
    bitsOf w 0 13 = 0 ∧ bitsOf w 20 4 = rows ∧ bitsOf w 13 7 = kb ∧ bitsOf w 24 3 = r ∧ w / 2 ^ 27 = 0x05 := by
  unfold bitsOf
  omega

/-- A tine that only its instruction has changed. -/
theorem tineRan_counted {s : State} (p k : Nat) (f : Tine → Tine) :
    TineRan p k [] f s { s with dev := (s.dev.modTine p k f).tineCounted p k } := by
  refine ⟨rfl, rfl, (OnlyPlot.setPlot _ p _).trans (OnlyPlot.setPlot _ p _), ?_, ?_, fun j hj => ?_, fun g hg => ?_⟩
  · dsimp only
    rw [Dev.tineCounted_plot, Dev.modTine, Dev.plot_modPlot_same]
    rfl
  · simp
  · simp [Dev.tine_modTine_ne _ _ hj]
  · dsimp only
    rw [Dev.tineCounted_plot, Dev.modTine, Dev.plot_modPlot_same, Plot.count, Plot.rg_rs_ne _ (by simpa using hg)]
    rfl

theorem tact_gives {s : State} {p k r rows kb w : Nat} (live : Live s) (hr : r < 8) (hrows : rows ≤ 8) (hkb : kb ≤ 64)
    (fits : rows = 0 ∨ kb = 0 ∨ inData (((s.dev.plot p).tine k).reg r) (rows * (kb * 32 + 16)) = true)
    (hw : 0x05 * 2 ^ 27 + r * 2 ^ 24 + rows * 2 ^ 20 + kb * 2 ^ 13 = w) (h : TineIssues s.dev p k w) :
    Gives (.tact p k) s ((s.dev.modTine p k fun x => { x with wait := .act }).tineCounted p k) := by
  obtain ⟨rest, frows, fkb, freg, op⟩ := tact_fields hr hrows hkb hw
  have data : (rows ≠ 0 && kb ≠ 0 && !inData (((s.dev.plot p).tine k).reg r) (rows * (kb * 32 + 16))) = false := by
    rcases fits with rfl | rfl | fits <;> simp [*]
  refine tineStep_holds live (exec_tact p k s) h op (by decide) ?_
  simp only [rest, frows, fkb, freg, data, ne_eq, not_true_eq_false, if_false, not_lt.mpr hrows, not_lt.mpr hkb, or_self,
    Bool.false_eq_true]

/-! ## TMV (R190, R191) -/

/-- A byte of a row of a bed. -/
theorem bedLoc_add (p ch bank row n : Nat) : bedBase p + bedLoc ch bank row 0 + n = p * 2 ^ 26 + bedLoc ch bank row n := by
  unfold bedBase bedLoc
  omega

/-- A group's row of weights, of an integer format, is the bank's row. -/
theorem groupRead_int8 {d : Dev} {p : Nat} (h : (d.plot p).bedErr = []) (k b row sideRow g : Nat) :
    groupRead d p k b 11 row sideRow g =
      (d, memRead d.bed (bedBase p + bedLoc (k / 4) (2 * (k % 4) + b) (row + g) 0) 2048, [], 0) := by
  have side : sideBytes 11 = 0 := rfl
  have empty (a : Nat) : memRead d.bed a 0 = [] := rfl
  simp only [groupRead, side, bedRead_clean h, empty, Nat.max_self]

/-- The sum over k of the products of row `r` of the activations with output `o` of two banks' rows of INT8 weights. -/
def thinPart (act : SMap Nat) (koff : Nat) (even odd : List Byte) (r o : Nat) : Int :=
  (List.range 32).foldl (fun z k => z + signedOf 8 (SMap.get 0 act (r * 2048 + (koff + 0) * 32 + k)) *
    (if o < 64 then tineWeight 11 even [] k o else tineWeight 11 odd [] k (o - 64))) 0

/-- The accumulator words and flags of a thin product of integers, whose part of each word is `part`. -/
def thinRes (acc : SMap Nat) (rows : Nat) (part : Nat → Nat → Int) : SMap Nat × Nat :=
  (List.range rows).foldl (fun (s : SMap Nat × Nat) r =>
    (List.range 128).foldl (fun (s : SMap Nat × Nat) o =>
      let z := signedOf 32 (SMap.get 0 s.1 (r * 256 + o)) + part r o
      (SMap.set 0 s.1 (r * 256 + o) (codeOf 32 z),
        s.2 ||| if z < -(2 ^ 31 : Int) ∨ (2 ^ 31 : Int) ≤ z then flagINT_WRAP else 0)) s) (acc, 0)

/-- The device after a group pair of integers. -/
def thinDone (d : Dev) (p k : Nat) (res : SMap Nat × Nat) (c : TineCheck) : Dev :=
  addTineCheck (d.modPlot p fun pl =>
    (fmtFlags pl res.2).setTine k { (fmtFlags pl res.2).tine k with acc := res.1, intTmv := true }) p k c

/-- The row of a bed that a bank of tine `k` reads at address `a`. -/
def thinRow (d : Dev) (p k b a : Nat) : List Byte := memRead d.bed (bedBase p + bedLoc (k / 4) (2 * (k % 4) + b) (a + 0) 0) 2048

/-- The first group pair of INT8, from sound beds and without a tally. -/
theorem tmvPair_int8 {d : Dev} {p k w koff : Nat} (h : (d.plot p).bedErr = []) (fmt : bitsOf w 20 4 = 11)
    (hk : bitsOf w 0 6 = koff) (tally : bitOf w 6 = false) :
    ∃ c, tmvPair d p k w 0 = .done (thinDone d p k (thinRes ((d.plot p).tine k).acc ((d.plot p).chan (k / 4)).actRows
      (thinPart ((d.plot p).chan (k / 4)).act koff (thinRow d p k 0 (((d.plot p).tine k).reg (bitsOf w 24 3)))
        (thinRow d p k 1 (((d.plot p).tine k).reg (bitsOf w 24 3))))) c) := by
  unfold tmvPair
  have narrow : tineOutputs 11 = 64 := rfl
  have notE4 : ¬ (11 = 9 ∨ 11 = 10) := by decide
  have notOq4 : ¬ 11 = 13 := by decide
  simp only [fmt, hk, tally, groupRead_int8 h, bedRead_clean h, narrow, notE4, notOq4, ne_eq, not_true_eq_false, or_self,
    if_false, true_or, if_true, decide_false, Bool.false_and, Bool.false_eq_true, Nat.or_zero]
  exact ⟨_, rfl⟩

theorem thinRes_acc (acc : SMap Nat) (rows : Nat) (part : Nat → Nat → Int) : (thinRes acc rows part).1 =
    gridSet 256 128 (fun r o old => codeOf 32 (signedOf 32 old + part r o)) rows acc := by
  unfold thinRes gridSet
  refine (List.foldl_hom Prod.fst fun s r => ?_).symm
  exact List.foldl_hom Prod.fst fun _ _ => rfl

theorem tineWeight_int8 (d : Dev) {p k b a j o : Nat} (hj : j < 32) (ho : o < 64) :
    tineWeight 11 (thinRow d p k b a) [] j o =
      signedOf 8 (memGet d.bed (p * 2 ^ 26 + bedLoc (k / 4) (2 * (k % 4) + b) a (64 * j + o))).toNat := by
  rw [tineWeight, if_pos (.inl rfl), thinRow, memRead_getD _ _ (by omega), bedLoc_add, Nat.add_zero]

/-- The part of a word, over the bytes of the beds. -/
theorem thinPart_eq (d : Dev) {p k a o : Nat} (act : SMap Nat) (koff r : Nat) (ho : o < 128) :
    thinPart act koff (thinRow d p k 0 a) (thinRow d p k 1 a) r o = ((List.range 32).map (fun j =>
      signedOf 8 (SMap.get 0 act (r * 2048 + koff * 32 + j)) * signedOf 8 (memGet d.bed
        (p * 2 ^ 26 + bedLoc (k / 4) (2 * (k % 4) + o / 64) a (64 * j + o % 64))).toNat)).sum := by
  rw [thinPart, foldl_add_eq_sum, Int.zero_add]
  refine congrArg List.sum (List.map_congr_left fun j hj => ?_)
  have below := List.mem_range.mp hj
  split
  next even => rw [tineWeight_int8 d below even, Nat.div_eq_of_lt even, Nat.mod_eq_of_lt even, Nat.add_zero]
  next odd =>
    rw [tineWeight_int8 d below (by omega), show o / 64 = 1 by omega, show o % 64 = o - 64 by omega, Nat.add_zero]

theorem codeOf_signed_add (old : Nat) (z : Int) : codeOf 32 (signedOf 32 old + z) = (((old : Int) + z) % 2 ^ 32).toNat := by
  rw [codeOf_congr (Int.ModEq.add_right z (signedOf_modEq 32 old)), codeOf_eq]

theorem fmtFlags_tine (pl : Plot) (fl j : Nat) : (fmtFlags pl fl).tine j = pl.tine j := by
  rw [Plot.tine, (MarksOnly.fmtFlags pl fl).only]
  rfl

theorem thinDone_tine (d : Dev) (p k : Nat) (res : SMap Nat × Nat) (c : TineCheck) : ((thinDone d p k res c).plot p).tine k =
    { (d.plot p).tine k with acc := res.1, intTmv := true, checks := ((d.plot p).tine k).checks ++ [c] } := by
  simp [thinDone, addTineCheck, fmtFlags_tine]

theorem thinDone_tine_ne (d : Dev) (p : Nat) {j k : Nat} (h : j ≠ k) (res : SMap Nat × Nat) (c : TineCheck) :
    ((thinDone d p k res c).plot p).tine j = (d.plot p).tine j := by
  simp [thinDone, addTineCheck, Dev.tine_modTine_ne _ _ h, Plot.tine_setTine_ne _ h, fmtFlags_tine]

theorem SameStores.thinDone (d : Dev) (p k : Nat) (res : SMap Nat × Nat) (c : TineCheck) :
    SameStores d (thinDone d p k res c) := ⟨rfl, rfl, rfl, rfl, rfl⟩

theorem exec_tmv (p k : Nat) (s : State) :
    exec (.tmv p k) s = onDev s fun d => tineStep d p k (isTOp 0x06) false fun d _ w => tmvRun d p k w := rfl

/-- The fields of a TMV of one INT8 group. -/
theorem tmv_fields {r h c koff w : Nat} (hr : r < 8) (hh : h < 8) (hc : c < 8) (hk : koff < 64)
    (hw : 0x06 * 2 ^ 27 + r * 2 ^ 24 + 11 * 2 ^ 20 + 1 * 2 ^ 13 + h * 2 ^ 10 + c * 2 ^ 7 + koff = w) :
    (bitsOf w 20 4 = 11 ∧ bitsOf w 13 7 = 1 ∧ bitsOf w 24 3 = r) ∧ (bitsOf w 10 3 = h ∧ bitsOf w 7 3 = c) ∧
      bitsOf w 0 6 = koff ∧ bitOf w 6 = false ∧ w / 2 ^ 27 = 0x06 := by
  simp only [bitsOf, bitOf, beq_eq_false_iff_ne]
  omega

theorem tmvRun_int8 {d : Dev} {p k r h c koff w : Nat} (hr : r < 8) (hh : h < 8) (hc : c < 8) (hk : koff < 64)
    (hw : 0x06 * 2 ^ 27 + r * 2 ^ 24 + 11 * 2 ^ 20 + 1 * 2 ^ 13 + h * 2 ^ 10 + c * 2 ^ 7 + koff = w)
    (clean : (d.plot p).bedErr = []) (tw : ((d.plot p).tine k).reg r + 1 ≤ 1024) (th : ((d.plot p).tine k).reg h ≤ 1023)
    (tc : ((d.plot p).tine k).reg c ≤ 1023) :
    ∃ ck, tmvRun d p k w = .done (thinDone d p k (thinRes ((d.plot p).tine k).acc ((d.plot p).chan (k / 4)).actRows
      (thinPart ((d.plot p).chan (k / 4)).act koff (thinRow d p k 0 (((d.plot p).tine k).reg r))
        (thinRow d p k 1 (((d.plot p).tine k).reg r)))) ck) := by
  obtain ⟨⟨fmt, groups, rw_⟩, ⟨rh, rc⟩, off, tally, -⟩ := tmv_fields hr hh hc hk hw
  have known : ([9, 10, 11, 12, 13].contains 11) = true := rfl
  have licensed : fmtLicensed d 11 = true := rfl
  have side : sideBytes 11 = 0 := rfl
  have fits : ¬ (64 < 1 ∨ 64 < koff + 1) := by omega
  have inBed : ¬ (1024 < ((d.plot p).tine k).reg r + 1 ∨ 1023 < ((d.plot p).tine k).reg h + 0 ∨
      1023 < ((d.plot p).tine k).reg c + (1 - 1) / 32) := by omega
  obtain ⟨ck, pair⟩ := tmvPair_int8 (k := k) clean fmt off tally
  rw [rw_] at pair
  refine ⟨ck, ?_⟩
  unfold tmvRun
  simp only [fmt, groups, rw_, rh, rc, off, known, licensed, side, fits, inBed, Bool.not_true, Bool.false_eq_true, if_false,
    if_true, one_ne_zero, List.range_one, List.foldl_cons, List.foldl_nil, pair]


/-! ## TRED of integer words (R195) -/

theorem exec_tred (p k : Nat) (s : State) : exec (.tred p k) s = onDev s fun d => tineStep d p k (isTOp 0x0A) false fun d _ w =>
    let x := (d.plot p).tine k
    let cols := bitsOf w 12 8
    let row := x.reg (bitsOf w 24 3)
    let op := bitsOf w 21 3
    if bitOf w 11 ∨ 4 ≤ op then .stop d 0x0D0A false
    else if cols = 0 then .done d
    else if 1023 < row + (cols - 1) / 64 then .stop d 0x0D10 false
    else
      let r := bedRead d p (bedLoc (k / 4) (2 * (k % 4) + bitsOf w 20 1) row 0) (32 * cols) false
      if r.2.2 ≠ 0 then .stop r.1 0x0D01 true
      else
        let q := tredWords op (unpackCodes 32 (8 * cols) r.2.1)
        let d := r.1.modPlot p (fun pl =>
          let x := pl.tine k
          fmtFlags (pl.setTine k { x with acc := SMap.set 0 x.acc (bitsOf w 0 11) q.1 }) q.2)
        .done (addTineCheck d p k ⟨0, 0, 0, false, []⟩) := rfl

/-- The fields of a TRED with operation 3. -/
theorem tred_fields {r b cols dst w : Nat} (hr : r < 8) (hb : b < 2) (hc : cols < 256) (hd : dst < 2 ^ 11)
    (hw : 0x0A * 2 ^ 27 + r * 2 ^ 24 + 3 * 2 ^ 21 + b * 2 ^ 20 + cols * 2 ^ 12 + dst = w) :
    (bitsOf w 12 8 = cols ∧ bitsOf w 24 3 = r ∧ bitsOf w 20 1 = b) ∧ (bitsOf w 21 3 = 3 ∧ bitOf w 11 = false) ∧
      bitsOf w 0 11 = dst ∧ w / 2 ^ 27 = 0x0A := by
  simp only [bitsOf, bitOf, beq_eq_false_iff_ne]
  omega

/-- Operation 3 is the sum of the words modulo 2^32. -/
theorem tredWords_sum (ws : List Nat) : tredWords 3 ws = (ws.sum % 2 ^ 32, 0) := by
  have fold (l : List Nat) (z : Nat) : l.foldl (fun z w => (z + w) % 2 ^ 32) (z % 2 ^ 32) = (z + l.sum) % 2 ^ 32 := by
    induction l generalizing z with
    | nil => simp
    | cons w t ih => rw [List.foldl_cons, Nat.mod_add_mod, ih, List.sum_cons, Nat.add_assoc]
  have all := fold ws 0
  rw [Nat.zero_add] at all
  exact congrArg (·, 0) all

/-- The words of the columns that a TRED reads. -/
theorem tred_codes (m : List Host.Cell) (a cols : Nat) : unpackCodes 32 (8 * cols) (memRead m a (32 * cols)) =
    (List.range (8 * cols)).map (fun i => leValue (memRead m (a + 4 * i) 4)) := by
  rw [show 32 = 8 * 4 from rfl, unpackCodes_bytes]
  refine List.map_congr_left fun i hi => ?_
  have := List.mem_range.mp hi
  rw [memRead_drop, memRead_take _ _ (by omega)]

/-- The device after a reduction has written word `dst`. -/
def tredDone (d : Dev) (p k dst v : Nat) : Dev :=
  addTineCheck (d.modPlot p fun pl => fmtFlags (pl.setTine k { pl.tine k with acc := SMap.set 0 (pl.tine k).acc dst v }) 0)
    p k ⟨0, 0, 0, false, []⟩

theorem tredDone_tine (d : Dev) (p k dst v : Nat) : ((tredDone d p k dst v).plot p).tine k =
    { (d.plot p).tine k with acc := SMap.set 0 ((d.plot p).tine k).acc dst v,
                             checks := ((d.plot p).tine k).checks ++ [⟨0, 0, 0, false, []⟩] } := by
  simp [tredDone, addTineCheck, fmtFlags_tine]

theorem SameStores.tredDone (d : Dev) (p k dst v : Nat) : SameStores d (tredDone d p k dst v) := ⟨rfl, rfl, rfl, rfl, rfl⟩

theorem tred_gives {s : State} {p k r b cols dst w : Nat} (live : Live s) (hr : r < 8) (hb : b < 2) (some_ : 0 < cols)
    (hc : cols < 256) (hd : dst < 2 ^ 11) (clean : (s.dev.plot p).bedErr = [])
    (inBed : ((s.dev.plot p).tine k).reg r + (cols - 1) / 64 ≤ 1023)
    (hw : 0x0A * 2 ^ 27 + r * 2 ^ 24 + 3 * 2 ^ 21 + b * 2 ^ 20 + cols * 2 ^ 12 + dst = w) (h : TineIssues s.dev p k w) :
    Gives (.tred p k) s ((tredDone s.dev p k dst (((List.range (8 * cols)).map (fun i => leValue (memRead s.dev.bed
      (bedBase p + bedLoc (k / 4) (2 * (k % 4) + b) (((s.dev.plot p).tine k).reg r) 0 + 4 * i) 4))).sum % 2 ^ 32)).tineOn p k
        ((s.dev.plot p).tine k).pc) := by
  obtain ⟨⟨fcols, freg, fbank⟩, ⟨fop, rest⟩, fdst, op⟩ := tred_fields hr hb hc hd hw
  refine tineStep_gives live (exec_tred p k s) h op (by decide) ?_
  have legal : ¬ (false = true ∨ 4 ≤ 3) := by decide
  simp only [fcols, freg, fbank, fop, rest, fdst, legal, if_false, some_.ne', not_lt.mpr inBed, bedRead_clean clean,
    ne_eq, not_true_eq_false, tred_codes, tredWords_sum]
  rfl

end Sys2Proof.Machine
end

section
/-! PROOFS. TOUT: what the checks of units leave of a tine, and its writes of scratch (R140, R193). -/

namespace Sys2Proof.Machine

theorem inData_iff {a n : Nat} : inData a n = true ↔ 0x8000 ≤ a ∧ a + n ≤ 2 ^ 20 := by simp [inData]

/-! ## What the checks of units leave of a plot (R140) -/

/-- The second plot has the memories' errors of the first, and its tines are at the same place. -/
structure TinesKept (a b : Plot) : Prop where
  scrErr : b.scrErr = a.scrErr
  accErr : b.accErr = a.accErr
  flip : b.rg fPLOT_MEM_FLIP_ARM = a.rg fPLOT_MEM_FLIP_ARM
  pc : ∀ j, (b.tine j).pc = (a.tine j).pc
  loops : ∀ j, (b.tine j).loops = (a.tine j).loops

theorem TinesKept.refl (a : Plot) : TinesKept a a := ⟨rfl, rfl, rfl, fun _ => rfl, fun _ => rfl⟩

theorem TinesKept.trans {a b c : Plot} (h : TinesKept a b) (k : TinesKept b c) : TinesKept a c :=
  ⟨k.scrErr.trans h.scrErr, k.accErr.trans h.accErr, k.flip.trans h.flip, fun j => (k.pc j).trans (h.pc j),
    fun j => (k.loops j).trans (h.loops j)⟩

theorem TinesKept.sound {a b : Plot} (h : TinesKept a b) (hs : Sound a) : Sound b := by
  obtain ⟨scrErr, accErr, disarmed⟩ := hs
  exact ⟨h.scrErr.trans scrErr, h.accErr.trans accErr, h.flip.trans disarmed⟩

theorem MarksOnly.tinesKept {a b : Plot} (h : MarksOnly a b) : TinesKept a b := by
  have tines (j : Nat) : b.tine j = a.tine j := by
    rw [h.only]
    rfl
  refine ⟨?_, ?_, h.regs _ (by unfold outsideFmt; decide), fun j => by rw [tines], fun j => by rw [tines]⟩
  · rw [h.only]
  · rw [h.only]

theorem TinesKept.setTine (a : Plot) (k : Nat) {x : Tine} (hp : x.pc = (a.tine k).pc) (hl : x.loops = (a.tine k).loops) :
    TinesKept a (a.setTine k x) := by
  refine ⟨rfl, rfl, rfl, fun j => ?_, fun j => ?_⟩
  all_goals
    by_cases h : j = k
    · subst h
      rw [Plot.tine_setTine_same]
      assumption
    · rw [Plot.tine_setTine_ne a h]

/-- A check decided changes what tines depend on, and nothing of where they are. -/
theorem TinesKept.resolveCheck (a : Plot) (id : Nat) (failed : Bool) : TinesKept a (resolveCheck a id failed) := by
  have tine (j : Nat) : (Machine.resolveCheck a id failed).tine j = if (a.tine j).deps.contains id then
      { a.tine j with deps := (a.tine j).deps.erase id, bad := (a.tine j).bad || failed } else a.tine j :=
    SMap.get_map (fun x : Tine => if x.deps.contains id then
      { x with deps := x.deps.erase id, bad := x.bad || failed } else x) rfl a.tines j
  refine ⟨rfl, rfl, rfl, fun j => ?_, fun j => ?_⟩
  all_goals
    rw [tine]
    split <;> rfl

theorem TinesKept.settleChecks (n : Nat) (a : Plot) : TinesKept a (settleChecks n a) := by
  induction n generalizing a with
  | zero => exact TinesKept.refl a
  | succ n ih =>
    unfold Machine.settleChecks
    split
    · exact (TinesKept.resolveCheck a _ _).trans (ih _)
    · exact TinesKept.refl a

theorem TinesKept.closeCheck_pass (a : Plot) (id : Nat) : TinesKept a (closeCheck a id true) :=
  (MarksOnly.marks a.units (a.deps.map fun x => if x.id = id then { x with own := true } else x) a.nextCheck).tinesKept.trans
    (TinesKept.settleChecks _ _)

/-! ## A tine's writes of scratch (R140, R193) -/

/-- The effect of a tine's write of sound scratch. -/
structure TineWrote (p a : Nat) (bytes : List Byte) (d e : Dev) : Prop where
  only : e = { d with scr := memWrite d.scr (scrBase p + a) bytes, plots := e.plots }
  kept : TinesKept (d.plot p) (e.plot p)

theorem TineWrote.stores {p a : Nat} {bytes : List Byte} {d e : Dev} (h : TineWrote p a bytes d e) (k pc : Nat) :
    SameStores { d with scr := (e.tineOn p k pc).scr } (e.tineOn p k pc) := by
  have same : SameStores { d with scr := e.scr } e := by
    rw [h.only]
    exact ⟨rfl, rfl, rfl, rfl, rfl⟩
  exact same

theorem tineWrite_sound {d : Dev} {p a : Nat} {bytes : List Byte} (hs : Sound (d.plot p)) (fits : a + bytes.length ≤ 2 ^ 20)
    (k : Nat) : TineWrote p a bytes d (tineWrite d p k a bytes) := by
  have write (pl : Plot) (pc : Nat) (kept : TinesKept (d.plot p) pl) :
      TineWrote p a bytes d (plotWrite (d.setPlot p pl) p pc a bytes) := by
    obtain ⟨only, plots⟩ := foldl_plotWrite_pieces (d := d.setPlot p pl) p pc [((a, bytes.length), bytes)]
      (by rw [Dev.plot_setPlot_same]; exact kept.sound hs) (fun e he => by rw [List.mem_singleton.mp he]; exact fits)
    refine ⟨only.trans rfl, ?_⟩
    rw [show (plotWrite (d.setPlot p pl) p pc a bytes).plot p = pl from (plots p).trans (Dev.plot_setPlot_same ..)]
    exact kept
  have opened := (MarksOnly.openCheck (d.plot p) (unitsOf a bytes.length) [] ((d.plot p).tine k).deps
    ((d.plot p).tine k).bad).trans (MarksOnly.markWrite _ (unitsOf a bytes.length) (coversUnit a bytes.length))
  have listed (b : Plot) (l : List Issue) : TinesKept b { b with issues := l } :=
    ⟨rfl, rfl, rfl, fun _ => rfl, fun _ => rfl⟩
  unfold tineWrite
  dsimp only
  refine write _ _ ?_
  split
  · exact (opened.tinesKept.trans (listed _ _)).trans (TinesKept.closeCheck_pass _ _)
  · exact (opened.tinesKept.trans (listed _ _)).trans (TinesKept.setTine _ k rfl rfl)

/-! ## TOUT of integer words (R193) -/

theorem exec_tout (p k : Nat) (s : State) : exec (.tout p k) s = onDev s fun d => tineStep d p k (isTOp 0x08) false fun d _ w =>
    if bitsOf w 0 21 ≠ 0 ∨ 2 ≤ bitsOf w 21 2 then .stop d 0x0D0A false
    else if bitsOf w 21 2 = 0 then toutWeights d p k w else toutPartials d p k w := rfl

/-- The fields of a TOUT of words as they are. -/
theorem tout_fields {r w : Nat} (hr : r < 8) (hw : 0x08 * 2 ^ 27 + r * 2 ^ 24 = w) :
    bitsOf w 0 21 = 0 ∧ bitsOf w 21 2 = 0 ∧ bitsOf w 24 3 = r ∧ bitOf w 23 = false ∧ w / 2 ^ 27 = 0x08 := by
  simp only [bitsOf, bitOf, beq_eq_false_iff_ne]
  omega

/-- Rows of `m` numbered on are the numbers themselves. -/
theorem flatMap_range_map {α : Type} (f : Nat → α) (n m : Nat) :
    (List.range n).flatMap (fun r => (List.range m).map (fun o => f (r * m + o))) = (List.range (n * m)).map f := by
  induction n with
  | zero => simp
  | succ n ih =>
    rw [List.range_succ, List.flatMap_append, ih, Nat.succ_mul, List.range_add]
    simp

/-- The bytes of the accumulator words of `n` rows. -/
def toutBytes (acc : SMap Nat) (n : Nat) : List Byte := ((List.range (n * 256)).map (SMap.get 0 acc)).flatMap (leBytes 4)

theorem toutBytes_length (acc : SMap Nat) (n : Nat) : (toutBytes acc n).length = n * 1024 := by
  rw [toutBytes, length_flatMap_leBytes, List.length_map, List.length_range]
  ring

theorem toutBytes_getElem? (acc : SMap Nat) {n i o j : Nat} (hi : i < n) (ho : o < 256) (hj : j < 4) :
    (toutBytes acc n)[(i * 256 + o) * 4 + j]? = some (BitVec.ofNat 8 (SMap.get 0 acc (i * 256 + o) / 2 ^ (8 * j))) := by
  have word : i * 256 + o < ((List.range (n * 256)).map (SMap.get 0 acc)).length := by
    rw [List.length_map, List.length_range]
    omega
  rw [toutBytes, Nat.mul_comm _ 4, flatMap_leBytes_getElem? _ word hj, List.getElem_map, List.getElem_range]

theorem memGet_toutBytes (m : List Host.Cell) (a : Nat) (acc : SMap Nat) {n i o j : Nat} (hi : i < n) (ho : o < 256)
    (hj : j < 4) : memGet (memWrite m a (toutBytes acc n)) (a + ((i * 256 + o) * 4 + j)) =
      BitVec.ofNat 8 (SMap.get 0 acc (i * 256 + o) / 2 ^ (8 * j)) := by
  obtain ⟨inside, byte⟩ := List.getElem?_eq_some_iff.mp (toutBytes_getElem? acc hi ho hj)
  rw [memGet_memWrite_in _ _ _ _ inside, byte]

theorem toutWeights_words {d : Dev} {p k n w r : Nat} (freg : bitsOf w 24 3 = r) (last : bitOf w 23 = false)
    (rows : ((d.plot p).chan (k / 4)).actRows = n)
    (free : tineWriteStop (d.plot p) k (((d.plot p).tine k).reg r + k * n * 1024) (n * 1024) = 0) :
    ∃ fl, toutWeights d p k w = .done (tineWrite (d.modPlot p (fmtFlags · fl)) p k
      (((d.plot p).tine k).reg r + k * n * 1024) (toutBytes ((d.plot p).tine k).acc n)) := by
  have bytes : ((List.range n).flatMap fun r => (List.range 256).map fun o =>
      (SMap.get 0 ((d.plot p).tine k).acc (r * 256 + o), 0)).flatMap (fun e : Nat × Nat => leBytes 4 e.1) =
        toutBytes ((d.plot p).tine k).acc n := by
    rw [flatMap_range_map (fun i => (SMap.get 0 ((d.plot p).tine k).acc i, 0)), toutBytes, List.flatMap_map, List.flatMap_map]
  unfold toutWeights
  simp only [freg, last, rows, free, Bool.false_and, Bool.false_eq_true, if_false, ne_eq, not_true_eq_false, bytes]
  exact ⟨_, rfl⟩

/-- A tine whose lines nothing has touched may write. -/
theorem tineWriteStop_fresh {pl : Plot} {k a n : Nat} (fits : inData a n = true) (fresh : pl.units = [])
    (inbound : (tineIssue pl k).any (·.outbound) = false) : tineWriteStop pl k a n = 0 := by
  have clear := regionConflict_fresh fresh (reads := []) (writes := unitsOf a n) fun _ _ => List.not_mem_nil
  simp [tineWriteStop, fits, inbound, clear]

theorem tout_gives {s : State} {p k r n w : Nat} (live : Live s) (hr : r < 8) (hs : Sound (s.dev.plot p))
    (rows : ((s.dev.plot p).chan (k / 4)).actRows = n)
    (fits : inData (((s.dev.plot p).tine k).reg r + k * n * 1024) (n * 1024) = true) (fresh : (s.dev.plot p).units = [])
    (inbound : (tineIssue (s.dev.plot p) k).any (·.outbound) = false) (hw : 0x08 * 2 ^ 27 + r * 2 ^ 24 = w)
    (h : TineIssues s.dev p k w) : ∃ e, Gives (.tout p k) s (e.tineOn p k ((s.dev.plot p).tine k).pc) ∧
      TineWrote p (((s.dev.plot p).tine k).reg r + k * n * 1024) (toutBytes ((s.dev.plot p).tine k).acc n) s.dev e := by
  obtain ⟨rest, op2, freg, last, op⟩ := tout_fields hr hw
  obtain ⟨fl, words⟩ := toutWeights_words freg last rows (tineWriteStop_fresh fits fresh inbound)
  have flagged : TinesKept (s.dev.plot p) ((s.dev.modPlot p (fmtFlags · fl)).plot p) := by
    rw [Dev.plot_modPlot_same]
    exact (MarksOnly.fmtFlags _ fl).tinesKept
  have inside : ((s.dev.plot p).tine k).reg r + k * n * 1024 + (toutBytes ((s.dev.plot p).tine k).acc n).length ≤ 2 ^ 20 := by
    rw [toutBytes_length]
    exact (inData_iff.mp fits).2
  obtain ⟨only, kept⟩ := tineWrite_sound (flagged.sound hs) inside k
  refine ⟨_, tineStep_gives live (exec_tout p k s) h op (by decide) ?_, only.trans rfl, flagged.trans kept⟩
  have legal : ¬ (0 ≠ 0 ∨ 2 ≤ 0) := by decide
  simp only [rest, op2, legal, if_false, if_true, words]

end Sys2Proof.Machine
end

section
/-! PROOFS. The load of activations, and the tine products of integers (R189 to R195, R198). -/

namespace Sys2Proof.Machine

/-! ## Tines changed alike -/

/-- The plot with each tine of a list changed by `f`. -/
def Plot.onTines (pl : Plot) (ts : List Nat) (f : Tine → Tine) : Plot :=
  ts.foldl (fun pl t => pl.setTine t (f (pl.tine t))) pl

theorem Plot.onTines_only (pl : Plot) (ts : List Nat) (f : Tine → Tine) :
    pl.onTines ts f = { pl with tines := (pl.onTines ts f).tines } := by
  induction ts generalizing pl with
  | nil => rfl
  | cons t r ih => exact ih (pl.setTine t (f (pl.tine t)))

theorem Plot.regs_onTines (pl : Plot) (ts : List Nat) (f : Tine → Tine) : (pl.onTines ts f).regs = pl.regs := by
  rw [Plot.onTines_only]

theorem Plot.chan_onTines (pl : Plot) (ts : List Nat) (f : Tine → Tine) (ch : Nat) :
    (pl.onTines ts f).chan ch = pl.chan ch := by
  rw [Plot.chan, Plot.onTines_only]
  rfl

theorem Plot.tine_onTines_out (pl : Plot) {ts : List Nat} (f : Tine → Tine) {j : Nat} (h : j ∉ ts) :
    (pl.onTines ts f).tine j = pl.tine j := by
  induction ts generalizing pl with
  | nil => rfl
  | cons t r ih =>
    simp only [List.mem_cons, not_or] at h
    obtain ⟨ne, rest⟩ := h
    exact (ih (pl.setTine t (f (pl.tine t))) rest).trans (Plot.tine_setTine_ne pl ne _)

theorem Plot.tine_onTines_in (pl : Plot) {ts : List Nat} (f : Tine → Tine) {j : Nat} (distinct : ts.Nodup) (h : j ∈ ts) :
    (pl.onTines ts f).tine j = f (pl.tine j) := by
  induction ts generalizing pl with
  | nil => exact absurd h List.not_mem_nil
  | cons t r ih =>
    obtain ⟨fresh, rest⟩ := List.nodup_cons.mp distinct
    have first : (pl.onTines (t :: r) f) = (pl.setTine t (f (pl.tine t))).onTines r f := rfl
    rw [first]
    rcases List.mem_cons.mp h with rfl | hr
    · rw [Plot.tine_onTines_out _ f fresh, Plot.tine_setTine_same]
    · rw [ih _ rest hr, Plot.tine_setTine_ne pl (ne_of_mem_of_not_mem hr fresh)]

theorem TinesKept.onTines (a : Plot) (ts : List Nat) {f : Tine → Tine} (hp : ∀ x, (f x).pc = x.pc)
    (hl : ∀ x, (f x).loops = x.loops) : TinesKept a (a.onTines ts f) :=
  List.foldlRecOn ts _ (TinesKept.refl a) fun b hb t _ => hb.trans (TinesKept.setTine b t (hp _) (hl _))

theorem foldl_modTine (d : Dev) (p : Nat) (ts : List Nat) (f : Tine → Tine) :
    OnlyPlot p d (ts.foldl (fun d t => d.modTine p t f) d) ∧
      (ts.foldl (fun d t => d.modTine p t f) d).plot p = (d.plot p).onTines ts f := by
  induction ts generalizing d with
  | nil => exact ⟨⟨rfl, fun _ _ => rfl⟩, rfl⟩
  | cons t r ih =>
    obtain ⟨only, plot⟩ := ih (d.modTine p t f)
    refine ⟨(OnlyPlot.setPlot d p _).trans only, plot.trans ?_⟩
    rw [Dev.modTine, Dev.plot_modPlot_same]
    rfl

/-! ## The load of activations (R189) -/

/-- Row `i` of rows of `len` bytes. -/
def actRow (bytes : List Byte) (len i : Nat) : List Byte := (bytes.drop (i * len)).take len

theorem actRow_memRead (m : List Host.Cell) (a len : Nat) {rows i : Nat} (h : i < rows) :
    actRow (memRead m a (rows * len)) len i = memRead m (a + i * len) len := by
  have below : i * len + len ≤ rows * len := Nat.succ_mul i len ▸ Nat.mul_le_mul_right len h
  rw [actRow, memRead_drop, memRead_take _ _ (by omega)]

/-- The activation codes with the rows of a load. -/
def actCodes (rows kb : Nat) (bytes : List Byte) (act : SMap Nat) : SMap Nat :=
  (List.range rows).foldl (fun m i => ((List.range (kb * 32)).zip (actRow bytes (kb * 32 + 16) i)).foldl
    (fun m e => SMap.set 0 m (i * 2048 + e.1) e.2.toNat) m) act

/-- The row scales with those of a load. -/
def actScales (rows kb : Nat) (bytes : List Byte) (sc : SMap Nat) : SMap Nat :=
  (List.range rows).foldl (fun m i =>
    SMap.set 0 m i (leValue (((actRow bytes (kb * 32 + 16) i).drop (kb * 32)).take 4))) sc

theorem zip_range_getD (n : Nat) (l : List Byte) (h : n ≤ l.length) :
    (List.range n).zip l = (List.range n).map (fun i => (i, l.getD i 0)) := by
  refine List.ext_getElem (by simpa using h) fun i hi _ => ?_
  simp only [List.length_zip, List.length_range] at hi
  simp [List.getElem?_eq_getElem (show i < l.length by omega)]

theorem get_actCodes (m : List Host.Cell) (a : Nat) {rows kb i e : Nat} (act : SMap Nat) (hkb : kb ≤ 64) (hi : i < rows)
    (he : e < kb * 32) : SMap.get 0 (actCodes rows kb (memRead m a (rows * (kb * 32 + 16))) act) (i * 2048 + e) =
      (memGet m (a + i * (kb * 32 + 16) + e)).toNat := by
  have grid : actCodes rows kb (memRead m a (rows * (kb * 32 + 16))) act =
      gridSet 2048 (kb * 32) (fun i e _ => (memGet m (a + i * (kb * 32 + 16) + e)).toNat) rows act := by
    refine List.foldl_ext _ _ _ fun s i hi => ?_
    rw [actRow_memRead m a _ (List.mem_range.mp hi), zip_range_getD _ _ (by rw [memRead_length]; omega), List.foldl_map]
    refine List.foldl_ext _ _ _ fun s e he => ?_
    have := List.mem_range.mp he
    rw [memRead_getD _ _ (by omega)]
  rw [grid, get_gridSet (by omega) _ _ hi he]

theorem get_actScales (m : List Host.Cell) (a : Nat) {rows kb i : Nat} (sc : SMap Nat) (hi : i < rows) :
    SMap.get 0 (actScales rows kb (memRead m a (rows * (kb * 32 + 16))) sc) i =
      leValue (memRead m (a + i * (kb * 32 + 16) + kb * 32) 4) := by
  have distinct : ((List.range rows).map fun i => i).Nodup := by rw [List.map_id']; exact List.nodup_range
  have put := SMap.get_foldl_set_in 0 (fun i => i) (fun _ i =>
    leValue (((actRow (memRead m a (rows * (kb * 32 + 16))) (kb * 32 + 16) i).drop (kb * 32)).take 4)) (List.range rows) sc
    distinct (List.mem_range.mpr hi)
  rw [actScales, put, actRow_memRead m a _ hi, memRead_drop, memRead_take _ _ (by omega)]

/-- The plot with a channel's activations loaded. -/
def actLoaded (pl : Plot) (ch rows kb : Nat) (bytes : List Byte) : Plot :=
  pl.setChan ch { pl.chan ch with
    actRows := rows
    actKb := kb
    act := actCodes rows kb bytes (pl.chan ch).act
    actScale := actScales rows kb bytes (pl.chan ch).actScale }

theorem actLoaded_chan (pl : Plot) (ch rows kb : Nat) (bytes : List Byte) : (actLoaded pl ch rows kb bytes).chan ch =
    { pl.chan ch with
      actRows := rows
      actKb := kb
      act := actCodes rows kb bytes (pl.chan ch).act
      actScale := actScales rows kb bytes (pl.chan ch).actScale } := SMap.get_set_same ..

theorem exec_tactLoad (p ch : Nat) (s : State) : exec (.tactLoad p ch) s =
    onDev s fun d => if isPlot p && ch < 4 then tactLoad d p ch else d := rfl

/-- The four tines of a channel. -/
def chTines (ch : Nat) : List Nat := (List.range 4).map (· + 4 * ch)

theorem chTines_nodup (ch : Nat) : (chTines ch).Nodup := List.nodup_range.map fun _ _ => Nat.add_right_cancel

theorem mem_chTines {ch j : Nat} (h : j < 4) : 4 * ch + j ∈ chTines ch :=
  List.mem_map.mpr ⟨j, List.mem_range.mpr h, Nat.add_comm _ _⟩

/-- A tine that has its activations goes on. -/
def actGoOn (x : Tine) : Tine := { tineAdvance x x.pc with wait := .none }

/-- A tine that depends on what another has read. -/
def dependsAs (lead x : Tine) : Tine := { x with deps := (x.deps ++ lead.deps).eraseDups, bad := x.bad || lead.bad }

/-- A tine's read of sound scratch gives its bytes; the tine stays where it is. -/
theorem tineRead_sound {d : Dev} {p a : Nat} (hs : Sound (d.plot p)) (ha : a < 2 ^ 20) (k n : Nat) :
    ∃ pl, TinesKept (d.plot p) pl ∧ pl.regs = (d.plot p).regs ∧
      tineRead d p k a n = (d.setPlot p pl, memRead d.scr (scrBase p + a) n) := by
  have read {pl : Plot} (kept : TinesKept (d.plot p) pl) (pc : Nat) :
      plotRead (d.setPlot p pl) p pc a n = (d.setPlot p pl, memRead d.scr (scrBase p + a) n) := by
    have same : (d.setPlot p pl).plot p = pl := Dev.plot_setPlot_same ..
    have sound : Sound ((d.setPlot p pl).plot p) := same.symm ▸ kept.sound hs
    rw [plotRead_sound sound, localBytes_scratch sound.1 ha]
    rfl
  have kept := (TinesKept.setTine (d.plot p) k (x := { (d.plot p).tine k with
    deps := (((d.plot p).tine k).deps ++ (unitsOf a n).flatMap fun u => ((d.plot p).unit u).opens).eraseDups
    bad := ((d.plot p).tine k).bad || (unitsOf a n).any fun u => ((d.plot p).unit u).failed }) rfl rfl).trans
      (MarksOnly.markRead _ (unitsOf a n)).tinesKept
  exact ⟨_, kept, markRead_regs _ _, read kept _⟩

/-- A load from sound scratch: the channel has its rows, and the four tines, which depend on what was read, go on. -/
theorem tactLoad_sound {d : Dev} {p ch r rows kb w : Nat} (hs : Sound (d.plot p)) (hr : r < 8) (some_ : 0 < rows)
    (hrows : rows ≤ 8) (groups : 0 < kb) (hkb : kb ≤ 64)
    (fits : inData (((d.plot p).tine (4 * ch)).reg r) (rows * (kb * 32 + 16)) = true)
    (waits : ∀ j, j < 4 → ((d.plot p).tine (4 * ch + j)).wait = .act ∧
      (d.plot p).rg (fBED_TINE_STATUS_STATE.bit (4 * ch + j)) = 1)
    (hw : 0x05 * 2 ^ 27 + r * 2 ^ 24 + rows * 2 ^ 20 + kb * 2 ^ 13 = w)
    (fetched : tineFetch (d.plot p) (4 * ch) ((d.plot p).tine (4 * ch)).pc = (w, 0)) :
    ∃ pl lead, TinesKept (d.plot p) pl ∧ pl.regs = (d.plot p).regs ∧
      tactLoad d p ch = (chTines ch).foldl (fun d t => d.modTine p t actGoOn) ((d.setPlot p pl).modPlot p fun pl =>
        (actLoaded pl ch rows kb (memRead d.scr (scrBase p + ((d.plot p).tine (4 * ch)).reg r)
          (rows * (kb * 32 + 16)))).onTines (chTines ch) (dependsAs lead)) := by
  obtain ⟨-, frows, fkb, freg, -⟩ := tact_fields hr hrows hkb hw
  obtain ⟨-, inside⟩ := inData_iff.mp fits
  have size : 0 < rows * (kb * 32 + 16) := Nat.mul_pos some_ (by omega)
  obtain ⟨pl, kept, regs, read⟩ := tineRead_sound hs (a := ((d.plot p).tine (4 * ch)).reg r) (by omega) (4 * ch)
    (rows * (kb * 32 + 16))
  have all : ((List.range 4).map (· + 4 * ch)).all (fun t => ((d.plot p).tine t).wait = .act &&
      (d.plot p).rg (fBED_TINE_STATUS_STATE.bit t) = 1) = true := by
    refine List.all_eq_true.mpr fun t ht => ?_
    obtain ⟨j, hj, rfl⟩ := List.mem_map.mp ht
    rw [Nat.add_comm]
    simpa using waits j (List.mem_range.mp hj)
  have loads : ¬ (rows = 0 ∨ kb = 0) := by omega
  refine ⟨pl, ((d.setPlot p pl).plot p).tine (4 * ch), kept, regs, ?_⟩
  unfold tactLoad
  simp only [all, fetched, frows, fkb, freg, read, loads, Bool.not_true, Bool.false_eq_true, if_false]
  rfl

theorem actGoOn_pc {x y : Tine} (hp : y.pc = x.pc) (hl : y.loops = x.loops) : (actGoOn y).pc = x.goesOn.pc := by
  rw [actGoOn, hp]
  exact tineAdvance_pc hl

/-- The plot after a load. -/
theorem tactLoad_gives {s : State} {p ch r rows kb w : Nat} (live : Live s) (plot : isPlot p = true) (hch : ch < 4)
    (hs : Sound (s.dev.plot p)) (hr : r < 8) (some_ : 0 < rows) (hrows : rows ≤ 8) (groups : 0 < kb) (hkb : kb ≤ 64)
    (fits : inData (((s.dev.plot p).tine (4 * ch)).reg r) (rows * (kb * 32 + 16)) = true)
    (waits : ∀ j, j < 4 → ((s.dev.plot p).tine (4 * ch + j)).wait = .act ∧
      (s.dev.plot p).rg (fBED_TINE_STATUS_STATE.bit (4 * ch + j)) = 1)
    (hw : 0x05 * 2 ^ 27 + r * 2 ^ 24 + rows * 2 ^ 20 + kb * 2 ^ 13 = w)
    (fetched : tineFetch (s.dev.plot p) (4 * ch) ((s.dev.plot p).tine (4 * ch)).pc = (w, 0)) :
    ∃ pl lead e, TinesKept (s.dev.plot p) pl ∧ pl.regs = (s.dev.plot p).regs ∧ Gives (.tactLoad p ch) s e ∧
      OnlyPlot p s.dev e ∧ e.plot p = ((actLoaded pl ch rows kb (memRead s.dev.scr
        (scrBase p + ((s.dev.plot p).tine (4 * ch)).reg r) (rows * (kb * 32 + 16)))).onTines (chTines ch)
          (dependsAs lead)).onTines (chTines ch) actGoOn := by
  obtain ⟨pl, lead, kept, regs, load⟩ := tactLoad_sound hs hr some_ hrows groups hkb fits waits hw fetched
  obtain ⟨only, result⟩ := foldl_modTine ((s.dev.setPlot p pl).modPlot p fun pl =>
    (actLoaded pl ch rows kb (memRead s.dev.scr (scrBase p + ((s.dev.plot p).tine (4 * ch)).reg r)
      (rows * (kb * 32 + 16)))).onTines (chTines ch) (dependsAs lead)) p (chTines ch) actGoOn
  refine ⟨pl, lead, _, kept, regs, ?_, ((OnlyPlot.setPlot s.dev p pl).trans (OnlyPlot.setPlot _ p _)).trans only, ?_⟩
  · rw [Gives, exec_tactLoad, onDev_live live, if_pos (by simp [plot, hch]), load]
  · rw [result, Dev.plot_modPlot_same, Dev.plot_setPlot_same]

/-- The tines of the channel after a load. -/
theorem tine_actLoaded {a pl : Plot} (kept : TinesKept a pl) (ch rows kb : Nat) (bytes : List Byte) (lead : Tine) {j : Nat}
    (hj : j < 4) {x : Tine} (hx : x = ((((actLoaded pl ch rows kb bytes).onTines (chTines ch) (dependsAs lead)).onTines
      (chTines ch) actGoOn).tine (4 * ch + j))) : x.wait = .none ∧ x.pc = (a.tine (4 * ch + j)).goesOn.pc := by
  have loaded : TinesKept a (actLoaded pl ch rows kb bytes) := kept.trans ⟨rfl, rfl, rfl, fun _ => rfl, fun _ => rfl⟩
  have depends := loaded.trans (TinesKept.onTines _ (chTines ch) (f := dependsAs lead) (fun _ => rfl) fun _ => rfl)
  rw [hx, Plot.tine_onTines_in _ _ (chTines_nodup ch) (mem_chTines hj)]
  exact ⟨rfl, actGoOn_pc (depends.pc _) (depends.loops _)⟩

/-- Settles O16: TACT waits, the load fills the channel, a thin product adds to its words, TOUT stores them, and TRED sums. -/
theorem tineProducts : Obligations.TineProducts := by
  unfold Obligations.TineProducts
  intro s p k r live hr hs
  dsimp only
  refine ⟨?_, ?_, ?_, ?_, ?_⟩
  · intro rows kb hrows hkb fits issues
    exact ⟨_, tact_gives live hr hrows hkb fits rfl issues, tineRan_counted p k _⟩
  · rintro ch rows kb plot hch rfl some_ hrows groups hkb fits waits fetched
    obtain ⟨pl, lead, e, kept, regs, gives, only, result⟩ :=
      tactLoad_gives live plot hch hs hr some_ hrows groups hkb fits waits rfl fetched
    refine ⟨_, gives, only, ?_, ?_, ?_, ?_, ?_, ?_⟩
    all_goals dsimp only
    · rw [result, Plot.regs_onTines, Plot.regs_onTines]
      exact regs
    · rw [result, Plot.chan_onTines, Plot.chan_onTines, actLoaded_chan]
    · rw [result, Plot.chan_onTines, Plot.chan_onTines, actLoaded_chan]
    · intro i b hi hb
      rw [result, Plot.chan_onTines, Plot.chan_onTines, actLoaded_chan]
      exact get_actCodes _ _ _ hkb hi hb
    · intro i hi
      rw [result, Plot.chan_onTines, Plot.chan_onTines, actLoaded_chan]
      exact get_actScales _ _ _ hi
    · intro j hj
      exact tine_actLoaded kept ch rows kb _ lead hj (congrArg (·.tine (4 * ch + j)) result)
  · intro h c koff hh hc hk tw th tc clean few issues
    obtain ⟨ck, run⟩ := tmvRun_int8 hr hh hc hk rfl clean tw th tc
    refine ⟨_, tineStep_gives live (exec_tmv p k s) issues (tmv_fields hr hh hc hk rfl).2.2.2.2 (by decide) run, ?_, ?_, ?_,
      ?_, ?_⟩
    · exact (SameStores.thinDone s.dev p k _ ck).tineOn p k _
    · rw [Dev.tineOn_tine_same, thinDone_tine]
      exact tineAdvance_pc rfl
    · rw [Dev.tineOn_tine_same, tineAdvance_checks, thinDone_tine, List.length_append]
      rfl
    · intro i o hi ho
      rw [Dev.tineOn_tine_same, tineAdvance_acc, thinDone_tine, thinRes_acc, get_gridSet (by decide) _ _ hi ho,
        codeOf_signed_add, thinPart_eq s.dev _ _ _ ho]
    · exact fun j hj => (Dev.tineOn_tine_ne _ p _ hj).trans (thinDone_tine_ne s.dev p hj _ ck)
  · intro n rows fits fresh inbound issues
    obtain ⟨e, gives, only, kept⟩ := tout_gives live hr hs rows fits fresh inbound rfl issues
    have scr : (e.tineOn p k ((s.dev.plot p).tine k).pc).scr = memWrite s.dev.scr (scrBase p + _) _ := congrArg Dev.scr only
    have size := toutBytes_length ((s.dev.plot p).tine k).acc n
    refine ⟨_, gives, ?_, ?_, ?_, ?_⟩
    · rw [Dev.tineOn_tine_same]
      exact tineAdvance_pc (kept.loops k)
    · exact TineWrote.stores ⟨only, kept⟩ k _
    · intro i o j hi ho hj
      rw [scr, Nat.add_assoc _ _ j]
      exact memGet_toutBytes s.dev.scr _ _ hi ho hj
    · intro b hb
      rw [scr, memGet_memWrite_out _ _ _ _ (by rw [size]; exact hb)]
  · intro b cols dst hb some_ hc hd inBed clean issues
    refine ⟨_, tred_gives live hr hb some_ hc hd clean inBed rfl issues, ?_, ?_, ?_, ?_⟩
    · exact (SameStores.tredDone s.dev p k dst _).tineOn p k _
    · rw [Dev.tineOn_tine_same, tredDone_tine]
      exact tineAdvance_pc rfl
    · rw [Dev.tineOn_tine_same, tineAdvance_acc, tredDone_tine, SMap.get_set_same]
      simp only [bedLoc_add]
    · intro v hv
      rw [Dev.tineOn_tine_same, tineAdvance_acc, tredDone_tine, SMap.get_set_ne _ _ _ hv]

end Sys2Proof.Machine
end

section
/-! PROOFS. The checks of the array and of the vector unit: the comparison of an integer row, and what the close of a check
does (R112, R115, R117, R126, R135). -/

namespace Sys2Proof.Machine

/-! ## The check of an integer row (R111, R112) -/

theorem codeOf_eq_codeOf_iff {w : Nat} {a b : Int} : codeOf w a = codeOf w b ↔ a ≡ b [ZMOD ((2 ^ w : Nat) : Int)] := by
  refine ⟨fun h => ?_, codeOf_congr⟩
  exact (signedOf_codeOf_modEq w a).symm.trans (h ▸ signedOf_codeOf_modEq w b)

/-- The check of an integer pair compares two sums modulo 2^32. -/
theorem rowCheck_integer {m : MatCfg} (pair : arrInt m.stat m.strm = true) (mode : Nat) (t : Tile) (x : StreamRow)
    (old new : List Nat) : (rowCheck m mode t x old new).1 = true ↔
      ((List.range (min m.klen (arrK m.stat))).map (fun k =>
        intElem m.strm (x.codes.getD k 0) * signedOf 32 (t.c.getD k 0))).sum + (old.map (signedOf 32)).sum ≡
        (new.map (signedOf 32)).sum [ZMOD ((2 ^ 32 : Nat) : Int)] := by
  rw [rowCheck, if_pos pair, decide_eq_true_iff, codeOf_eq_codeOf_iff]
  simp only [foldl_add_eq_sum, Int.zero_add]

/-- Settles O56: the codes compared are equal when the sums differ by a multiple of 2^32. -/
theorem integerRowCheck : Obligations.IntegerRowCheck := by
  unfold Obligations.IntegerRowCheck
  intro m mode t x old new stat strm
  have pair : arrInt m.stat m.strm = true := by simp [arrInt, stat, strm]
  dsimp only
  rw [rowCheck_integer pair, Int.add_comm, Int.modEq_iff_add_fac]
  rfl

/-! ## A check decided (R115, R119, R140) -/

/-- The second plot differs from the first at most in what carries the numbers of open checks: units, tines, the attention
pipeline, tiles and the open checks themselves. -/
def ChecksOnly (a b : Plot) : Prop :=
  b = { a with units := b.units, tines := b.tines, att := b.att, live := b.live, shadow := b.shadow,
               waitLoad := b.waitLoad, deps := b.deps }

theorem ChecksOnly.trans {a b c : Plot} (h : ChecksOnly a b) (k : ChecksOnly b c) : ChecksOnly a c := by
  unfold ChecksOnly at *
  rw [k, h]

theorem ChecksOnly.resolveCheck (a : Plot) (id : Nat) (failed : Bool) : ChecksOnly a (resolveCheck a id failed) := rfl

theorem ChecksOnly.settleChecks (n : Nat) (a : Plot) : ChecksOnly a (settleChecks n a) := by
  induction n generalizing a with
  | zero => rfl
  | succ n ih =>
    unfold Machine.settleChecks
    split
    · exact (ChecksOnly.resolveCheck a _ _).trans (ih _)
    · rfl

theorem ChecksOnly.closeCheck (a : Plot) (id : Nat) (pass : Bool) : ChecksOnly a (closeCheck a id pass) := by
  unfold Machine.closeCheck
  refine ChecksOnly.trans ?_ (ChecksOnly.settleChecks _ _)
  cases pass
  · exact ChecksOnly.resolveCheck a id true
  · rfl

theorem ChecksOnly.rg {a b : Plot} (h : ChecksOnly a b) (g : Fld) : b.rg g = a.rg g := by rw [h]; rfl

/-! ## An error of the array that stops the sequencer (R117, R126, R135) -/

/-- A running plot that is stopped with a code changes registers and what it waits for, and nothing else. -/
theorem stopAt_running {d : Dev} {p : Nat} (running : (d.plot p).rg fPLOT_SEQ_STATUS_STATE = 2) (pc : Nat) {code : Nat}
    (hc : code ≠ 0) : (stopAt d p pc code).plot p =
      { ((((recordPlot d p code).plot p).rs fPLOT_SEQ_STATUS_STATE seqSTOPPING).rs fPLOT_SEQ_STOP_PC pc).rs
          fPLOT_SEQ_STOP_CODE code with wait := .none } := by
  have still : ((recordPlot d p code).plot p).seq = seqRUNNING :=
    (recordErr_plot_rg _ _ _ _ _ _ (.inl (by decide))).trans running
  rw [stopAt, if_neg hc, stopSeq, if_pos still, Dev.plot_setPlot_same]

/-- A register key above the sequencer's and below the event counters: the array and PLOT_IRQ lie here, and a stop
changes none. -/
def arrayReg (k : Nat) : Prop := 0x18 * 64 ≤ k ∧ k < 0x3800 * 64

/-- Plot `a` after an error of the array that sets the bit `f` and stops its sequencer at `pc` with `code`. -/
structure ArrayStopped (f : Fld) (pc code : Nat) (a b : Plot) : Prop where
  only : b = { a with regs := b.regs, wait := b.wait }
  flag : b.rg f = 1 % 2 ^ f.w
  kept : ∀ g : Fld, arrayReg g.key → g.key ≠ f.key → g.key ≠ fPLOT_IRQ_ARR.key → b.rg g = a.rg g
  state : b.rg fPLOT_SEQ_STATUS_STATE = 3
  stopCode : b.rg fPLOT_SEQ_STOP_CODE = code % 2 ^ 16
  stopPc : b.rg fPLOT_SEQ_STOP_PC = pc % 2 ^ 13

theorem arrErr_rg_same (d : Dev) (p : Nat) {f : Fld} (hf : f.key ≠ fPLOT_IRQ_ARR.key) :
    ((arrErr d p f).plot p).rg f = 1 % 2 ^ f.w := by
  rcases arrErr_plot d p f with h | h
  · rw [h, Plot.rg_rs_same]
  · rw [h, Plot.rg_rs_ne _ hf, Plot.rg_rs_same]

theorem arrErr_rg_ne (d : Dev) (p : Nat) {f g : Fld} (hf : g.key ≠ f.key) (irq : g.key ≠ fPLOT_IRQ_ARR.key) :
    ((arrErr d p f).plot p).rg g = (d.plot p).rg g := by
  rcases arrErr_plot d p f with h | h
  · rw [h, Plot.rg_rs_ne _ hf]
  · rw [h, Plot.rg_rs_ne _ irq, Plot.rg_rs_ne _ hf]

theorem arrErr_only (d : Dev) (p : Nat) (f : Fld) :
    (arrErr d p f).plot p = { d.plot p with regs := ((arrErr d p f).plot p).regs } := by
  rcases arrErr_plot d p f with h | h
  · rw [h]; rfl
  · rw [h]; rfl

/-- A bit of PLOT_ARR_ERR set on a running plot, and the stop that follows it. -/
theorem stopAt_arrErr {d : Dev} {p : Nat} (running : (d.plot p).rg fPLOT_SEQ_STATUS_STATE = 2) {f : Fld}
    (hf : arrayReg f.key) (irq : f.key ≠ fPLOT_IRQ_ARR.key) (pc : Nat) {code : Nat} (hc : code ≠ 0) :
    ArrayStopped f pc code (d.plot p) ((stopAt (arrErr d p f) p pc code).plot p) := by
  have kept {g : Fld} (hg : arrayReg g.key) : ((stopAt (arrErr d p f) p pc code).plot p).rg g = ((arrErr d p f).plot p).rg g :=
    stopAt_plot_rg _ _ _ _ hg.1 (.inl (hg.2.trans (by decide)))
  have still : ((arrErr d p f).plot p).rg fPLOT_SEQ_STATUS_STATE = 2 :=
    (arrErr_rg_ne d p (fun e => absurd (e ▸ hf.1) (by decide)) (by decide)).trans running
  have stop := stopAt_running still pc hc
  refine ⟨?_, (kept hf).trans (arrErr_rg_same d p irq), fun g hg ne irq' => (kept hg).trans (arrErr_rg_ne d p ne irq'),
    ?_, ?_, ?_⟩
  · rw [stop, (RegsOnly.recordPlot _ p code).2 p, arrErr_only]
    rfl
  · rw [stop]
    exact (Plot.rg_rs_ne _ (by decide) _).trans ((Plot.rg_rs_ne _ (by decide) _).trans (Plot.rg_rs_same _ _ _))
  · rw [stop]
    exact Plot.rg_rs_same _ _ _
  · rw [stop]
    exact (Plot.rg_rs_ne _ (by decide) _).trans (Plot.rg_rs_same _ _ _)

/-! ## The close of a row check (R115, R117) -/

theorem exec_arrCheckClose (p : Nat) (upset : Bool) (s : State) :
    exec (.arrCheckClose p upset) s = onDev s fun d => arrCheckClose d p upset := rfl

theorem arrCheckClose_gives {s : State} (live : Live s) (p : Nat) (upset : Bool) :
    Gives (.arrCheckClose p upset) s (arrCheckClose s.dev p upset) := by
  rw [Gives, exec_arrCheckClose, onDev_live live]

/-- A row check that passes and compared the sums closes, and nothing is recorded. -/
theorem arrCheckClose_pass {d : Dev} {p : Nat} {c : RowCheck} {l : List RowCheck} (oldest : (d.plot p).rowChecks = c :: l)
    (pass : c.pass = true) (finite : c.nonfinite = false) :
    arrCheckClose d p false = d.setPlot p (closeCheck { d.plot p with rowChecks := l } c.id true) := by
  unfold arrCheckClose
  simp [oldest, pass, finite]

/-- A row check whose sums an upset has parted closes as failed. -/
theorem arrCheckClose_upset {d : Dev} {p : Nat} {c : RowCheck} {l : List RowCheck} (oldest : (d.plot p).rowChecks = c :: l) :
    arrCheckClose d p true = arrMismatch (d.setPlot p (closeCheck (if c.nonfinite then
      { d.plot p with rowChecks := l }.count fPLOT_ARR_EVCNT_NONFINITE_ROWS 1 else { d.plot p with rowChecks := l }) c.id false))
      p c := by
  unfold arrCheckClose
  simp [oldest]

/-- A key outside PLOT_ARR_SIG and PLOT_ARR_EVCNT, where a failed row check leaves its record. -/
def outsideSig (k : Nat) : Prop := k < 0x818 * 64 ∨ 0x838 * 64 ≤ k

/-- What a failed row check has captured or counted before its error is set: the plot differs in PLOT_ARR_SIG and
PLOT_ARR_EVCNT at most, and the first failure captures its instruction. -/
structure Captured (c : RowCheck) (a b : Plot) : Prop where
  only : b = { a with regs := b.regs }
  kept : ∀ g : Fld, outsideSig g.key → b.rg g = a.rg g
  instr : a.rg fPLOT_ARR_ERR_CHECK_MISMATCH = 0 → b.rg fPLOT_ARR_SIG_ROW_INSTR = c.instr % 2 ^ 13

/-- The fields of PLOT_ARR_SIG, in the order of their capture. -/
def sigFields : List Fld :=
  [fPLOT_ARR_SIG_ROW_INJECTED, fPLOT_ARR_SIG_ROW_NONFINITE, fPLOT_ARR_SIG_ROW_FMT_STAT, fPLOT_ARR_SIG_ROW_FMT_STRM,
    fPLOT_ARR_SIG_ROW_MODE, fPLOT_ARR_SIG_ROW_ACC_ROW, fPLOT_ARR_SIG_ROW_STREAM_ROW, fPLOT_ARR_SIG_ROW_INSTR,
    fPLOT_ARR_SIG_SUMS_ACTUAL, fPLOT_ARR_SIG_SUMS_PREDICTED, fPLOT_ARR_SIG_TAU_TAU]

theorem sigFields_key : ∀ f ∈ sigFields, ¬ outsideSig f.key := by
  unfold outsideSig
  decide

/-- A field that no write of a run of writes to a plot's registers reaches. -/
theorem foldl_rs_rg_ne (l : List (Fld × Nat)) (a : Plot) {g : Fld} (h : ∀ f ∈ l.map Prod.fst, g.key ≠ f.key) :
    (l.foldl (fun pl e => pl.rs e.1 e.2) a).rg g = a.rg g :=
  List.foldlRecOn (motive := fun b : Plot => b.rg g = a.rg g) l _ rfl fun b hb e he =>
    (Plot.rg_rs_ne b (h e.1 (List.mem_map_of_mem he)) e.2).trans hb

theorem arrMismatch_captures (d : Dev) (p : Nat) (c : RowCheck) : ∃ pl, Captured c (d.plot p) pl ∧
    arrMismatch d p c = stopAt (arrErr (d.setPlot p pl) p fPLOT_ARR_ERR_CHECK_MISMATCH) p c.instr 0x0B01 := by
  have ne {f g : Fld} (hg : outsideSig g.key) (hf : ¬ outsideSig f.key) : g.key ≠ f.key := fun e => hf (e ▸ hg)
  refine ⟨_, ?_, rfl⟩
  split
  · refine ⟨rfl, fun g hg => ?_, fun _ => ?_⟩
    · exact foldl_rs_rg_ne _ _ fun f hf => ne hg (sigFields_key f hf)
    · simp only [List.foldl_cons, List.foldl_nil]
      rw [Plot.rg_rs_ne _ (by decide), Plot.rg_rs_ne _ (by decide), Plot.rg_rs_ne _ (by decide)]
      exact Plot.rg_rs_same _ _ _
  · rename_i later
    exact ⟨rfl, fun g hg => Plot.rg_rs_ne _ (ne hg (by unfold outsideSig; decide)) _, fun first => absurd first later⟩

/-- A row check that fails on a running plot. -/
theorem arrCheckClose_fails {d : Dev} {p : Nat} {c : RowCheck} {l : List RowCheck} (oldest : (d.plot p).rowChecks = c :: l)
    (hc : c.instr < 8192) (running : (d.plot p).rg fPLOT_SEQ_STATUS_STATE = 2) :
    let b := (arrCheckClose d p true).plot p
    b.rowChecks = l ∧ b.rg fPLOT_ARR_ERR_CHECK_MISMATCH = 1 ∧
      ((d.plot p).rg fPLOT_ARR_ERR_CHECK_MISMATCH = 0 → b.rg fPLOT_ARR_SIG_ROW_INSTR = c.instr) ∧
      b.rg fPLOT_SEQ_STATUS_STATE = 3 ∧ b.rg fPLOT_SEQ_STOP_CODE = 0x0B01 ∧ b.rg fPLOT_SEQ_STOP_PC = c.instr := by
  rw [arrCheckClose_upset oldest]
  generalize hk : closeCheck _ c.id false = k
  have rows : k.rowChecks = l := by
    rw [← hk, ChecksOnly.closeCheck]
    split <;> rfl
  have regs {g : Fld} (hg : outsideSig g.key) : k.rg g = (d.plot p).rg g := by
    rw [← hk, (ChecksOnly.closeCheck _ _ _).rg]
    split
    · exact Plot.rg_rs_ne _ (fun e => absurd (e ▸ hg) (by unfold outsideSig; decide)) _
    · rfl
  have fits : c.instr % 2 ^ 13 = c.instr := Nat.mod_eq_of_lt hc
  obtain ⟨pl, captured, fails⟩ := arrMismatch_captures (d.setPlot p k) p c
  rw [Dev.plot_setPlot_same] at captured
  have state : pl.rg fPLOT_SEQ_STATUS_STATE = 2 :=
    (captured.kept _ (.inl (by decide))).trans ((regs (.inl (by decide))).trans running)
  have stopped := stopAt_arrErr (d := (d.setPlot p k).setPlot p pl) (p := p) (by rw [Dev.plot_setPlot_same, state])
    (f := fPLOT_ARR_ERR_CHECK_MISMATCH) ⟨by decide, by decide⟩ (by decide) c.instr (code := 0x0B01) (by decide)
  rw [Dev.plot_setPlot_same, ← fails] at stopped
  refine ⟨?_, stopped.flag, fun first => ?_, stopped.state, stopped.stopCode, stopped.stopPc.trans fits⟩
  · rw [stopped.only, captured.only]
    exact rows
  · rw [stopped.kept _ ⟨by decide, by decide⟩ (by decide) (by decide),
      captured.instr ((regs (.inl (by decide))).trans first), fits]

/-! ## The close of a vector check (R126) -/

theorem exec_vecCheckClose (p upset : Nat) (s : State) :
    exec (.vecCheckClose p upset) s = onDev s fun d => vecCheckClose d p upset := rfl

theorem vecCheckClose_gives {s : State} (live : Live s) (p upset : Nat) :
    Gives (.vecCheckClose p upset) s (vecCheckClose s.dev p upset) := by
  rw [Gives, exec_vecCheckClose, onDev_live live]

theorem vecCheckClose_pass {d : Dev} {p : Nat} {c : UnitCheck} {l : List UnitCheck} (oldest : (d.plot p).vecChecks = c :: l) :
    vecCheckClose d p 0 = d.setPlot p (closeCheck { d.plot p with vecChecks := l } c.id true) := by
  unfold vecCheckClose
  simp [oldest]

theorem vecCheckClose_residue {d : Dev} {p : Nat} {c : UnitCheck} {l : List UnitCheck}
    (oldest : (d.plot p).vecChecks = c :: l) : vecCheckClose d p 1 =
      stopAt (arrErr (d.setPlot p (closeCheck { d.plot p with vecChecks := l } c.id false)) p fPLOT_ARR_ERR_VEC_RESIDUE) p c.pc
        0x0B06 := by
  unfold vecCheckClose
  simp [oldest]

/-- A vector check that fails on a running plot. -/
theorem vecCheckClose_fails {d : Dev} {p : Nat} {c : UnitCheck} {l : List UnitCheck} (oldest : (d.plot p).vecChecks = c :: l)
    (running : (d.plot p).rg fPLOT_SEQ_STATUS_STATE = 2) :
    let b := (vecCheckClose d p 1).plot p
    b.vecChecks = l ∧ b.rg fPLOT_ARR_ERR_VEC_RESIDUE = 1 ∧ b.rg fPLOT_SEQ_STATUS_STATE = 3 ∧
      b.rg fPLOT_SEQ_STOP_CODE = 0x0B06 := by
  rw [vecCheckClose_residue oldest]
  have closed := ChecksOnly.closeCheck { d.plot p with vecChecks := l } c.id false
  generalize closeCheck _ c.id false = k at closed
  have state : k.rg fPLOT_SEQ_STATUS_STATE = 2 := (closed.rg _).trans running
  have stopped := stopAt_arrErr (d := d.setPlot p k) (p := p) (by rw [Dev.plot_setPlot_same, state])
    (f := fPLOT_ARR_ERR_VEC_RESIDUE) ⟨by decide, by decide⟩ (by decide) c.pc (code := 0x0B06) (by decide)
  rw [Dev.plot_setPlot_same] at stopped
  refine ⟨?_, stopped.flag, stopped.state, stopped.stopCode⟩
  rw [stopped.only, closed]

/-- Settles O3: a check that passes changes what carries its number; one that fails sets its bit and stops the sequencer. -/
theorem checksClose : Obligations.ChecksClose := by
  unfold Obligations.ChecksClose
  intro s p live
  refine ⟨fun c l oldest => ⟨fun pass finite => ?_, fun hc running => ?_⟩, fun c l oldest => ⟨?_, fun running => ?_⟩⟩
  · refine (arrCheckClose_pass oldest pass finite ▸ arrCheckClose_gives live p false).completes ⟨OnlyPlot.setPlot _ _ _, ?_⟩
    rw [Dev.plot_setPlot_same, ChecksOnly.closeCheck]
    exact ⟨rfl, rfl⟩
  · exact (arrCheckClose_gives live p true).completes (arrCheckClose_fails oldest hc running)
  · refine (vecCheckClose_pass oldest ▸ vecCheckClose_gives live p 0).completes ⟨OnlyPlot.setPlot _ _ _, ?_⟩
    rw [Dev.plot_setPlot_same, ChecksOnly.closeCheck]
    exact ⟨rfl, rfl⟩
  · exact (vecCheckClose_gives live p 1).completes (vecCheckClose_fails oldest running)

end Sys2Proof.Machine
end

section
/-! PROOFS. The sequencer's own instructions: index registers, jumps, loops, fences and waits (R129 to R150, R158). -/

namespace Sys2Proof.Machine

/-! ## Instructions counted for scratch and accumulators alone (R482) -/

/-- Opcodes whose instructions use neither the array, the vector unit nor the attention pipeline. -/
def plainOp (op : Nat) : Bool := !([0x10, 0x11, 0x18, 0x1C].contains op)

theorem countIssue_plain {op : Nat} (h : plainOp op = true) (pl : Plot) :
    countIssue pl op = pl.count (fPLOT_UNIT_ICNT_COUNT.at 3) 1 := by
  simp only [plainOp, Bool.not_eq_true', List.contains_eq_mem, decide_eq_false_iff_not, List.mem_cons, List.not_mem_nil,
    or_false, not_or] at h
  obtain ⟨lds, mmul, vop, att⟩ := h
  simp [countIssue, lds, mmul, vop, att]

/-- A plain instruction whose plot differs from the old one in `fs` and the program counter has run. -/
theorem countIssue_plain_rg {op : Nat} (plain : plainOp op = true) {fs : List Fld} {a b : Plot}
    (h : ∀ g : Fld, g.key ∉ (fs ++ [fPLOT_SEQ_STATUS_PC]).map Fld.key → b.rg g = a.rg g) {g : Fld}
    (hg : g.key ∉ (fs ++ [fPLOT_SEQ_STATUS_PC, fPLOT_UNIT_ICNT_COUNT.at 3]).map Fld.key) :
    (countIssue b op).rg g = a.rg g := by
  simp only [List.map_append, List.map_cons, List.map_nil, List.mem_append, List.mem_cons, List.not_mem_nil, or_false,
    not_or] at hg h
  obtain ⟨others, pc, count⟩ := hg
  rw [countIssue_plain plain]
  exact (Plot.rg_rs_ne _ count _).trans (h g ⟨others, pc⟩)

theorem ran_goneOn_plain {p op pc : Nat} {fs : List Fld} {s : State} {e : Dev} (plain : plainOp op = true)
    (only : OnlyPlot p s.dev e)
    (h : ∀ g : Fld, g.key ∉ (fs ++ [fPLOT_SEQ_STATUS_PC]).map Fld.key → (e.plot p).rg g = (s.dev.plot p).rg g) :
    Ran p fs s { s with dev := e.goneOn p op pc } := ran_goneOn only fun _ hg => countIssue_plain_rg plain h hg

/-! ## Instructions that set the program counter themselves (R143, R150) -/

/-- The device after an instruction that has had its effect and leaves the program counter to it. -/
def Dev.counted (e : Dev) (p op : Nat) : Dev := e.modPlot p (countIssue · op)

@[simp] theorem Dev.counted_plot_same (e : Dev) (p op : Nat) : (e.counted p op).plot p = countIssue (e.plot p) op := by
  simp [Dev.counted]

theorem issueWord_holds {d e : Dev} {p w op : Nat} {mine : Nat → Bool} {run : Dev → Nat → Nat → Issued} (h : Issues d p w)
    (hop : w / 2 ^ 58 = op) (legal : wordLegal w = true) (hm : mine w = true) (hr : run d (d.plot p).pc w = .done e) :
    issueWord d p mine true run = e.counted p op := by
  obtain ⟨plot, running, free, fetched⟩ := h
  have issues : (!isPlot p || (d.plot p).seq ≠ seqRUNNING || (d.plot p).wait ≠ .none) = false := by
    simp [plot, free, Plot.seq, running, seqRUNNING]
  rw [Plot.pc] at fetched hr
  rw [wordLegal, Bool.not_eq_true', hop] at legal
  unfold issueWord
  simp only [issues, fetched, Bool.false_eq_true, if_false, hop, legal, hm, Bool.not_true, show ¬ 2 ≤ 0 by decide,
    zero_ne_one, hr]
  rfl

theorem issue_holds {c : Instr} {s : State} {e : Dev} {p w op : Nat} {mine : Nat → Bool} {run : Dev → Nat → Nat → Issued}
    (live : Live s) (hc : exec c s = onDev s fun d => issueWord d p mine true run) (h : Issues s.dev p w)
    (hop : w / 2 ^ 58 = op) (legal : wordLegal w = true) (hm : mine w = true)
    (hr : run s.dev (s.dev.plot p).pc w = .done e) : Gives c s (e.counted p op) := by
  rw [Gives, hc, onDev_live live, issueWord_holds h hop legal hm hr]

theorem ran_counted {p op : Nat} {fs : List Fld} {s : State} {e : Dev} (plain : plainOp op = true) (only : OnlyPlot p s.dev e)
    (h : ∀ g : Fld, g.key ∉ (fs ++ [fPLOT_SEQ_STATUS_PC]).map Fld.key → (e.plot p).rg g = (s.dev.plot p).rg g) :
    Ran p fs s { s with dev := e.counted p op } := by
  refine ⟨rfl, rfl, only.trans (OnlyPlot.setPlot _ _ _), fun g hg => ?_⟩
  rw [Dev.counted_plot_same]
  exact countIssue_plain_rg plain h hg

/-! ## Index registers (R133, R142) -/

theorem Plot.setIdx_only (pl : Plot) (r v : Nat) : pl.setIdx r v = { pl with regs := (pl.setIdx r v).regs } := by
  unfold Plot.setIdx
  split <;> rfl

theorem Plot.setIdx_rg_ne (pl : Plot) {r : Nat} {g : Fld} (h : g.key ≠ (fPLOT_SEQ_IDX_VALUE.at r).key) (v : Nat) :
    (pl.setIdx r v).rg g = pl.rg g := by
  unfold Plot.setIdx
  split
  · rfl
  · exact Plot.rg_rs_ne _ h v

theorem Plot.idx_setIdx_same (pl : Plot) (r v : Nat) : (pl.setIdx r v).idx r = if r = 0 then 0 else v % 2 ^ 32 := by
  unfold Plot.setIdx Plot.idx
  split
  · rfl
  · exact Plot.rg_rs_same _ _ _

theorem idx_congr {a b : Plot} {r : Nat} (h : b.rg (fPLOT_SEQ_IDX_VALUE.at r) = a.rg (fPLOT_SEQ_IDX_VALUE.at r)) :
    b.idx r = a.idx r := by rw [Plot.idx, Plot.idx, h]

/-- An instruction that writes index register `r` and goes on. -/
theorem setIdx_completes {c : Instr} {s : State} {p w op r v : Nat} {run : Dev → Nat → Nat → Issued} (live : Live s)
    (hc : exec c s = onDev s fun d => issueWord d p (isOp op) false run) (h : Issues s.dev p w) (hop : w / 2 ^ 58 = op)
    (known : (opcodeKnown op && !([0x08, 0x18, 0x1C].contains op)) = true) (plain : plainOp op = true) (hr : r < 16)
    (hrun : run s.dev (s.dev.plot p).pc w = .done (s.dev.modPlot p (·.setIdx r v))) :
    Completes c s (fun t => Ran p [fPLOT_SEQ_IDX_VALUE.at r] s t ∧ WentOn (s.dev.plot p) (t.dev.plot p) ∧
      (t.dev.plot p).idx r = if r = 0 then 0 else v % 2 ^ 32) := by
  have pcKey : (fPLOT_SEQ_IDX_VALUE.at r).key ≠ fPLOT_SEQ_STATUS_PC.key := by
    simp only [Fld.at, Fld.key, fPLOT_SEQ_IDX_VALUE, fPLOT_SEQ_STATUS_PC]; omega
  have countKey : (fPLOT_SEQ_IDX_VALUE.at r).key ≠ (fPLOT_UNIT_ICNT_COUNT.at 3).key := by
    simp only [Fld.at, Fld.key, fPLOT_SEQ_IDX_VALUE, fPLOT_UNIT_ICNT_COUNT]; omega
  refine (issue_gives live hc h hop (wordLegal_of_op hop known) (decide_eq_true hop) hrun).completes
    ⟨ran_goneOn_plain plain (OnlyPlot.setPlot _ _ _) fun g hg => ?_, ?_, ?_⟩
  · rw [Dev.plot_modPlot_same]
    exact Plot.setIdx_rg_ne _ (fun e => hg (by simp [e])) v
  · rw [Dev.goneOn_plot_same, Dev.plot_modPlot_same]
    exact wentOn_advance (by rw [Plot.setIdx_only]) _
  · rw [Dev.goneOn_plot_same, Dev.plot_modPlot_same, ← Plot.idx_setIdx_same (s.dev.plot p) r v]
    refine idx_congr ?_
    rw [advance_rg _ _ pcKey, countIssue_plain plain]
    exact Plot.rg_rs_ne _ countKey _

theorem exec_nop (p : Nat) (s : State) : exec (.nop p) s = onDev s fun d => issueWord d p (isOp 0x00) false
    fun d _ w => if bitsOf w 0 58 ≠ 0 then .stop 0x0C01 else .done d := rfl

/-- A NOP goes on and changes nothing else. -/
theorem nop_gives {s : State} {p : Nat} (live : Live s) (h : Issues s.dev p 0) :
    Gives (.nop p) s (s.dev.goneOn p 0 (s.dev.plot p).pc) :=
  issue_gives live (exec_nop p s) h rfl (wordLegal_of_op rfl (by decide)) rfl rfl

theorem ran_nop {s : State} (p pc : Nat) : Ran p [] s { s with dev := s.dev.goneOn p 0 pc } :=
  ran_goneOn_plain rfl ⟨rfl, fun _ _ => rfl⟩ fun _ _ => rfl

theorem exec_seti (p : Nat) (s : State) : exec (.seti p) s = onDev s fun d => issueWord d p (isOp 0x04) false fun d _ w =>
    if bitsOf w 0 22 ≠ 0 then .stop 0x0C01
    else .done (d.modPlot p (fun pl => pl.setIdx (bitsOf w 54 4) (bitsOf w 22 32))) := rfl

theorem seti_fields {r v w : Nat} (hr : r < 16) (hv : v < 2 ^ 32) (hw : 0x04 * 2 ^ 58 + r * 2 ^ 54 + v * 2 ^ 22 = w) :
    w / 2 ^ 58 = 0x04 ∧ bitsOf w 54 4 = r ∧ bitsOf w 22 32 = v ∧ bitsOf w 0 22 = 0 := by
  unfold bitsOf
  omega

theorem exec_addi (p : Nat) (s : State) : exec (.addi p) s = onDev s fun d => issueWord d p (isOp 0x05) false fun d _ w =>
    if bitsOf w 0 30 ≠ 0 then .stop 0x0C01
    else .done (d.modPlot p (fun pl => pl.setIdx (bitsOf w 54 4)
      (codeOf 32 ((pl.idx (bitsOf w 54 4) : Int) + signedOf 24 (bitsOf w 30 24))))) := rfl

theorem addi_fields {r k w : Nat} (hr : r < 16) (hk : k < 2 ^ 24) (hw : 0x05 * 2 ^ 58 + r * 2 ^ 54 + k * 2 ^ 30 = w) :
    w / 2 ^ 58 = 0x05 ∧ bitsOf w 54 4 = r ∧ bitsOf w 30 24 = k ∧ bitsOf w 0 30 = 0 := by
  unfold bitsOf
  omega

/-- The immediate of ADDI is read back from its code. -/
theorem signedOf_emod_24 {k : Int} (lo : -(2 ^ 23) ≤ k) (hi : k < 2 ^ 23) : signedOf 24 (k % 2 ^ 24).toNat = k := by
  unfold signedOf bitOf
  split
  next neg =>
    rw [beq_iff_eq] at neg
    omega
  next pos =>
    rw [beq_iff_eq] at pos
    omega

theorem exec_ldi (p : Nat) (s : State) : exec (.ldi p) s = onDev s fun d => issueWord d p (isOp 0x06) false fun d pc w =>
    if bitsOf w 0 42 ≠ 0 then .stop 0x0C01
    else .done ((plotRead d p pc (bitsOf w 42 12 * 8) 8).1.modPlot p (fun pl =>
      pl.setIdx (bitsOf w 54 4) (leValue ((plotRead d p pc (bitsOf w 42 12 * 8) 8).2.take 4)))) := rfl

theorem ldi_fields {r n w : Nat} (hr : r < 16) (hn : n < 4096) (hw : 0x06 * 2 ^ 58 + r * 2 ^ 54 + n * 2 ^ 42 = w) :
    w / 2 ^ 58 = 0x06 ∧ bitsOf w 54 4 = r ∧ bitsOf w 42 12 = n ∧ bitsOf w 0 42 = 0 := by
  unfold bitsOf
  omega

theorem seti_completes {s : State} {p r v w : Nat} (live : Live s) (hr : r < 16) (hv : v < 2 ^ 32)
    (hw : 0x04 * 2 ^ 58 + r * 2 ^ 54 + v * 2 ^ 22 = w) (h : Issues s.dev p w) :
    Completes (.seti p) s (fun t => Ran p [fPLOT_SEQ_IDX_VALUE.at r] s t ∧ WentOn (s.dev.plot p) (t.dev.plot p) ∧
      (t.dev.plot p).idx r = if r = 0 then 0 else v) := by
  obtain ⟨op, reg, imm, rest⟩ := seti_fields hr hv hw
  rw [← Nat.mod_eq_of_lt hv]
  refine setIdx_completes live (exec_seti p s) h op (by decide) (by decide) hr ?_
  simp only [rest, reg, imm, ne_eq, not_true_eq_false, if_false]

theorem addi_completes {s : State} {p r w : Nat} {k : Int} (live : Live s) (hr : r < 16) (lo : -(2 ^ 23) ≤ k) (hi : k < 2 ^ 23)
    (hw : 0x05 * 2 ^ 58 + r * 2 ^ 54 + (k % 2 ^ 24).toNat * 2 ^ 30 = w) (h : Issues s.dev p w) :
    Completes (.addi p) s (fun t => Ran p [fPLOT_SEQ_IDX_VALUE.at r] s t ∧ WentOn (s.dev.plot p) (t.dev.plot p) ∧
      ((t.dev.plot p).idx r : Int) = if r = 0 then 0 else (((s.dev.plot p).idx r : Int) + k) % 2 ^ 32) := by
  obtain ⟨op, reg, imm, rest⟩ := addi_fields hr (by omega) hw
  obtain ⟨t, ht, ran, went, value⟩ := setIdx_completes (v := codeOf 32 (((s.dev.plot p).idx r : Int) + k)) live
    (exec_addi p s) h op (by decide) (by decide) hr (by
      simp only [rest, reg, imm, signedOf_emod_24 lo hi, ne_eq, not_true_eq_false, if_false]
      rfl)
  refine ⟨t, ht, ran, went, ?_⟩
  rw [value, Nat.mod_eq_of_lt (codeOf_lt 32 _)]
  split
  · rfl
  · rw [codeOf_eq]
    omega

theorem ldi_completes {s : State} {p r n w : Nat} (live : Live s) (hr : r < 16) (hn : n < 4096) (hs : Sound (s.dev.plot p))
    (hw : 0x06 * 2 ^ 58 + r * 2 ^ 54 + n * 2 ^ 42 = w) (h : Issues s.dev p w) :
    Completes (.ldi p) s (fun t => Ran p [fPLOT_SEQ_IDX_VALUE.at r] s t ∧ WentOn (s.dev.plot p) (t.dev.plot p) ∧
      (t.dev.plot p).idx r = if r = 0 then 0 else leValue (memRead s.dev.scr (scrBase p + n * 8) 4)) := by
  obtain ⟨op, reg, place, rest⟩ := ldi_fields hr hn hw
  have scratch : n * 8 < 2 ^ 20 := by omega
  have fits := leValue_lt (memRead s.dev.scr (scrBase p + n * 8) 4)
  rw [memRead_length] at fits
  rw [← Nat.mod_eq_of_lt fits]
  refine setIdx_completes live (exec_ldi p s) h op (by decide) (by decide) hr ?_
  simp only [rest, reg, place, plotRead_sound hs, localBytes_scratch hs.1 scratch, memRead_take _ _ (by decide : 4 ≤ 8), ne_eq,
    not_true_eq_false, if_false]

/-- Settles O5: each instruction runs from its word, and the value written is the one its rule gives. -/
theorem indexInstructions : Obligations.IndexInstructions := by
  unfold Obligations.IndexInstructions
  intro s p r live hr
  refine ⟨fun issues => ?_, fun v hv issues => seti_completes live hr hv rfl issues,
    fun k lo hi issues => addi_completes live hr lo hi rfl issues,
    fun n hn sound issues => ldi_completes live hr hn sound rfl issues⟩
  refine (nop_gives live issues).completes ⟨ran_nop p _, ?_⟩
  rw [Dev.goneOn_plot_same]
  exact wentOn_advance rfl _

/-! ## JMP, LOOP and the loop-back (R143) -/

theorem exec_jmp (p : Nat) (s : State) :
    exec (.jmp p) s = onDev s fun d => issueWord d p (isOp 0x02) true fun d _ w => jmpRun d p w := rfl

theorem jmp_fields {a w : Nat} (ha : a < 8192) (hw : 0x02 * 2 ^ 58 + a * 2 ^ 45 = w) :
    w / 2 ^ 58 = 0x02 ∧ bitsOf w 45 13 = a ∧ bitsOf w 0 45 = 0 := by
  unfold bitsOf
  omega

theorem exec_loop (p : Nat) (s : State) :
    exec (.loop p) s = onDev s fun d => issueWord d p (isOp 0x03) true fun d pc w => loopRun d p pc w := rfl

theorem loop_fields {last n w : Nat} (hl : last < 8192) (hn : n < 2 ^ 24)
    (hw : 0x03 * 2 ^ 58 + last * 2 ^ 45 + n * 2 ^ 21 = w) :
    w / 2 ^ 58 = 0x03 ∧ bitsOf w 45 13 = last ∧ bitsOf w 21 24 = n ∧ bitsOf w 0 21 = 0 := by
  unfold bitsOf
  omega

theorem Plot.pc_count (pl : Plot) {op : Nat} (plain : plainOp op = true) : (countIssue pl op).pc = pl.pc := by
  rw [countIssue_plain plain]
  exact Plot.rg_rs_ne _ (by decide) _

theorem countIssue_loops (pl : Plot) (op : Nat) : (countIssue pl op).loops = pl.loops := by rw [countIssue_only]

theorem countIssue_wait (pl : Plot) (op : Nat) : (countIssue pl op).wait = pl.wait := by rw [countIssue_only]

/-- An instruction that sets the program counter and the active loops, and nothing else. -/
theorem branch_completes {c : Instr} {s : State} {p w op target : Nat} {loops : List LoopSt}
    {run : Dev → Nat → Nat → Issued} (live : Live s)
    (hc : exec c s = onDev s fun d => issueWord d p (isOp op) true run) (h : Issues s.dev p w) (hop : w / 2 ^ 58 = op)
    (known : (opcodeKnown op && !([0x08, 0x18, 0x1C].contains op)) = true) (plain : plainOp op = true) (ht : target < 8192)
    (hrun : run s.dev (s.dev.plot p).pc w =
      .done (s.dev.setPlot p ({ s.dev.plot p with loops := loops }.rs fPLOT_SEQ_STATUS_PC target))) :
    Completes c s (fun t => Ran p [] s t ∧ (t.dev.plot p).pc = target ∧ (t.dev.plot p).loops = loops) := by
  refine (issue_holds live hc h hop (wordLegal_of_op hop known) (decide_eq_true hop) hrun).completes
    ⟨ran_counted plain (OnlyPlot.setPlot _ _ _) fun g hg => ?_, ?_, ?_⟩
  · rw [Dev.plot_setPlot_same]
    exact Plot.rg_rs_ne { s.dev.plot p with loops := loops } (by simpa using hg) target
  · rw [Dev.counted_plot_same, Dev.plot_setPlot_same, Plot.pc_count _ plain]
    exact (Plot.rg_rs_same _ _ _).trans (Nat.mod_eq_of_lt ht)
  · rw [Dev.counted_plot_same, Dev.plot_setPlot_same, countIssue_loops]
    rfl

theorem jmp_completes {s : State} {p a w : Nat} (live : Live s) (ha : a < 8192) (outside : (s.dev.plot p).loops = [])
    (hw : 0x02 * 2 ^ 58 + a * 2 ^ 45 = w) (h : Issues s.dev p w) :
    Completes (.jmp p) s (fun t => Ran p [] s t ∧ (t.dev.plot p).pc = a ∧ (t.dev.plot p).loops = []) := by
  obtain ⟨op, target, rest⟩ := jmp_fields ha hw
  have same : ({ s.dev.plot p with loops := [] } : Plot) = s.dev.plot p := by rw [← outside]
  refine branch_completes live (exec_jmp p s) h op (by decide) (by decide) ha ?_
  simp only [jmpRun, target, rest, outside, ne_eq, not_true_eq_false, if_false, if_true, same]
  rfl

theorem loop_completes {s : State} {p last n w : Nat} (live : Live s) (after : (s.dev.plot p).pc < last) (hl : last < 8192)
    (some_ : 0 < n) (hn : n < 2 ^ 24) (outside : (s.dev.plot p).loops = [])
    (hw : 0x03 * 2 ^ 58 + last * 2 ^ 45 + n * 2 ^ 21 = w) (h : Issues s.dev p w) :
    Completes (.loop p) s (fun t => Ran p [] s t ∧ (t.dev.plot p).pc = (s.dev.plot p).pc + 1 ∧
      (t.dev.plot p).loops = [⟨(s.dev.plot p).pc + 1, last, n⟩]) := by
  obtain ⟨op, fin, count, rest⟩ := loop_fields hl hn hw
  refine branch_completes live (exec_loop p s) h op (by decide) (by decide) (by omega) ?_
  simp only [loopRun, fin, count, rest, outside, some_.ne', Nat.not_le.mpr after, ne_eq, not_true_eq_false, if_false,
    decide_false, Bool.not_true, Bool.or_self, List.length_nil, show ¬ 4 ≤ 0 by decide, Bool.and_false, Bool.false_eq_true]

/-- Where the innermost body that ends here goes. -/
theorem advanceLoops_last (pc first n : Nat) : advanceLoops pc [⟨first, pc, n⟩] =
    if 1 < n then ([⟨first, pc, n - 1⟩], first) else ([], (pc + 1) % 8192) := by
  simp [advanceLoops]

/-- A NOP at the last index of the innermost body: back to its first index while executions are left. -/
theorem nop_loopBack {s : State} {p first n : Nat} (live : Live s) (hf : first < 8192)
    (body : (s.dev.plot p).loops = [⟨first, (s.dev.plot p).pc, n⟩]) (h : Issues s.dev p 0) :
    Completes (.nop p) s (fun t => Ran p [] s t ∧
      if 1 < n then (t.dev.plot p).pc = first ∧ (t.dev.plot p).loops = [⟨first, (s.dev.plot p).pc, n - 1⟩]
      else (t.dev.plot p).pc = ((s.dev.plot p).pc + 1) % 8192 ∧ (t.dev.plot p).loops = []) := by
  have went : WentOn (s.dev.plot p) (advance (countIssue (s.dev.plot p) 0) (s.dev.plot p).pc) := wentOn_advance rfl 0
  obtain ⟨loops, pc⟩ := went
  rw [body, advanceLoops_last] at loops pc
  refine (nop_gives live h).completes ⟨ran_nop p _, ?_⟩
  rw [Dev.goneOn_plot_same]
  split
  next again =>
    rw [if_pos again] at loops pc
    exact ⟨pc.trans (Nat.mod_eq_of_lt hf), loops⟩
  next done =>
    rw [if_neg done] at loops pc
    exact ⟨pc.trans (Nat.mod_mod _ _), loops⟩

/-- Settles O6: a branch sets the counter and the loops, and a body's last NOP goes by `advanceLoops`. -/
theorem jumpsAndLoops : Obligations.JumpsAndLoops := by
  unfold Obligations.JumpsAndLoops
  intro s p live
  exact ⟨fun a ha outside issues => jmp_completes live ha outside rfl issues,
    fun last n after hl some_ hn outside issues => loop_completes live after hl some_ hn outside rfl issues,
    fun first n hf body issues => nop_loopBack live hf body issues⟩

end Sys2Proof.Machine
end

section
/-! PROOFS. Fences, waits and halts: what holds issue, and what resumes it (R136, R150, R158, R163). -/

namespace Sys2Proof.Machine

/-! ## Instructions that hold issue (R150, R158) -/

/-- An instruction after which the plot is `b`, which differs from the old plot in what it waits for, and at most in its
program counter. -/
theorem hold_completes {c : Instr} {s : State} {b : Plot} {p w op : Nat} {mine : Nat → Bool}
    {run : Dev → Nat → Nat → Issued} (live : Live s) (hc : exec c s = onDev s fun d => issueWord d p mine true run)
    (h : Issues s.dev p w) (hop : w / 2 ^ 58 = op) (plain : plainOp op = true) (legal : wordLegal w = true)
    (hm : mine w = true) (hrun : run s.dev (s.dev.plot p).pc w = .done (s.dev.setPlot p b))
    (hb : ∀ g : Fld, g.key ≠ fPLOT_SEQ_STATUS_PC.key → b.rg g = (s.dev.plot p).rg g) :
    Completes c s (fun t => Ran p [] s t ∧ (t.dev.plot p).wait = b.wait) := by
  refine (issue_holds live hc h hop legal hm hrun).completes
    ⟨ran_counted plain (OnlyPlot.setPlot _ _ _) fun g hg => ?_, ?_⟩
  · rw [Dev.plot_setPlot_same]
    exact hb g (by simpa using hg)
  · rw [Dev.counted_plot_same, Dev.plot_setPlot_same, countIssue_wait]

theorem isReferee_none {d : Dev} (h : d.referee = none) (p : Nat) : d.isReferee p = false := by rw [Dev.isReferee, h]; rfl

theorem fence_fields {k w : Nat} (hk : k < 5) (hw : 0x08 * 2 ^ 58 + k * 2 ^ 55 = w) :
    w / 2 ^ 58 = 0x08 ∧ bitsOf w 55 3 = k ∧ bitsOf w 0 55 = 0 := by
  unfold bitsOf
  omega

theorem wordLegal_of_fence {w : Nat} (hop : w / 2 ^ 58 = 0x08) (hk : bitsOf w 55 3 < 5) : wordLegal w = true := by
  have known : opcodeKnown 0x08 = true := rfl
  rw [wordLegal, hop]
  simp [known, hk]

theorem fence_completes {c : Instr} {s : State} {p k w : Nat} (live : Live s) (free : s.dev.referee = none)
    (hc : exec c s = onDev s fun d => issueWord d p (isFence k) true fun d _ w => fenceRun d p w k) (hk : k < 5)
    (hw : 0x08 * 2 ^ 58 + k * 2 ^ 55 = w) (h : Issues s.dev p w) :
    Completes c s (fun t => Ran p [] s t ∧ (t.dev.plot p).wait = .fence k) := by
  obtain ⟨op, kind, rest⟩ := fence_fields hk hw
  refine hold_completes (b := { s.dev.plot p with wait := .fence k }) live hc h op rfl
    (wordLegal_of_fence op (kind ▸ hk)) (by rw [isFence, isOp, decide_eq_true op, decide_eq_true kind]; rfl) ?_ fun _ _ => rfl
  simp only [fenceRun, rest, isReferee_none free, Bool.false_eq_true, and_false, ne_eq, not_true_eq_false, if_false]
  rfl

theorem exec_halt (p : Nat) (s : State) : exec (.halt p) s = onDev s fun d => issueWord d p (isOp 0x01) true fun d pc w =>
    if bitsOf w 0 58 ≠ 0 then .stop 0x0C01
    else if d.isReferee p then .stop 0
    else .done (d.modPlot p (fun pl => { pl.rs fPLOT_SEQ_STATUS_PC (pc + 1) with wait := .halt })) := rfl

theorem halt_completes {s : State} {p : Nat} (live : Live s) (free : s.dev.referee = none)
    (h : Issues s.dev p (0x01 * 2 ^ 58)) : Completes (.halt p) s (fun t => Ran p [] s t ∧ (t.dev.plot p).wait = .halt) := by
  refine hold_completes (b := { (s.dev.plot p).rs fPLOT_SEQ_STATUS_PC ((s.dev.plot p).pc + 1) with wait := .halt }) live
    (exec_halt p s) h rfl rfl (wordLegal_of_op rfl rfl) rfl ?_ fun g hg => Plot.rg_rs_ne _ hg _
  have rest : bitsOf (0x01 * 2 ^ 58) 0 58 = 0 := rfl
  simp only [rest, isReferee_none free, ne_eq, not_true_eq_false, Bool.false_eq_true, if_false]
  rfl

theorem exec_wait (p : Nat) (s : State) : exec (.wait p) s = onDev s fun d => issueWord d p (isOp 0x0D) true fun d _ w =>
    if bitsOf w 0 14 ≠ 0 then .stop 0x0C01
    else .done (d.modPlot p (fun pl =>
      { pl with wait := .wait (bitsOf w 50 8) ((pl.idx (bitsOf w 14 4) + bitsOf w 18 32) % 2 ^ 32) })) := rfl

theorem wait_fields {c v i w : Nat} (hc : c < 256) (hv : v < 2 ^ 32) (hi : i < 16)
    (hw : 0x0D * 2 ^ 58 + c * 2 ^ 50 + v * 2 ^ 18 + i * 2 ^ 14 = w) :
    w / 2 ^ 58 = 0x0D ∧ bitsOf w 50 8 = c ∧ bitsOf w 18 32 = v ∧ bitsOf w 14 4 = i ∧ bitsOf w 0 14 = 0 := by
  unfold bitsOf
  omega

theorem wait_completes {s : State} {p c v i w : Nat} (live : Live s) (hc : c < 256) (hv : v < 2 ^ 32) (hi : i < 16)
    (hw : 0x0D * 2 ^ 58 + c * 2 ^ 50 + v * 2 ^ 18 + i * 2 ^ 14 = w) (h : Issues s.dev p w) :
    Completes (.wait p) s (fun t => Ran p [] s t ∧
      (t.dev.plot p).wait = .wait c (((s.dev.plot p).idx i + v) % 2 ^ 32)) := by
  obtain ⟨op, ctr, target, idx, rest⟩ := wait_fields hc hv hi hw
  refine hold_completes (b := { s.dev.plot p with wait := .wait c (((s.dev.plot p).idx i + v) % 2 ^ 32) }) live
    (exec_wait p s) h op rfl (wordLegal_of_op op rfl) (decide_eq_true op) ?_ fun _ _ => rfl
  simp only [ctr, target, idx, rest, ne_eq, not_true_eq_false, if_false]
  rfl

/-! ## The checkpoint (R163) -/

/-- The registers that a checkpoint writes. -/
def ckptFields : List Fld := [fPLOT_ARR_STATUS_SHADOW, fPLOT_SEQ_REPLAY_OUT_DONE, fPLOT_SEQ_REPLAY_CKPT_PC]

theorem takeCheckpoint_rg_ne (pl : Plot) (pc : Nat) {g : Fld} (h : g.key ∉ ckptFields.map Fld.key) :
    (takeCheckpoint pl pc).rg g = pl.rg g := by
  simp only [ckptFields, List.map_cons, List.map_nil, List.mem_cons, List.not_mem_nil, or_false, not_or] at h
  obtain ⟨shadow, outDone, ckptPc⟩ := h
  exact (Plot.rg_rs_ne _ ckptPc _).trans ((Plot.rg_rs_ne _ outDone _).trans (Plot.rg_rs_ne pl shadow shEMPTY))

theorem takeCheckpoint_ckptPc (pl : Plot) {pc : Nat} (h : pc < 8192) :
    (takeCheckpoint pl pc).rg fPLOT_SEQ_REPLAY_CKPT_PC = pc := (Plot.rg_rs_same _ _ _).trans (Nat.mod_eq_of_lt h)

@[simp] theorem takeCheckpoint_loops (pl : Plot) (pc : Nat) : (takeCheckpoint pl pc).loops = pl.loops := rfl
@[simp] theorem takeCheckpoint_wait (pl : Plot) (pc : Nat) : (takeCheckpoint pl pc).wait = pl.wait := rfl
@[simp] theorem takeCheckpoint_live (pl : Plot) (pc : Nat) : (takeCheckpoint pl pc).live = none := rfl
@[simp] theorem takeCheckpoint_suppress (pl : Plot) (pc : Nat) : (takeCheckpoint pl pc).suppress = 0 := rfl
@[simp] theorem takeCheckpoint_ckpt_loops (pl : Plot) (pc : Nat) : (takeCheckpoint pl pc).ckpt.loops = pl.loops := rfl

/-! ## The end of a wait (R150, R158) -/

/-- The plot goes on after the instruction at which it has waited. -/
def Plot.resumed (pl : Plot) : Plot := advance { pl with wait := .none } pl.pc

@[simp] theorem Plot.resumed_wait (pl : Plot) : pl.resumed.wait = .none := rfl

theorem Plot.wentOn_resumed (pl : Plot) : WentOn pl pl.resumed := ⟨rfl, Plot.rg_rs_same _ _ _⟩

theorem Plot.resumed_pc_lt (pl : Plot) : pl.resumed.pc < 8192 := by
  rw [pl.wentOn_resumed.2]
  exact Nat.mod_lt _ (by decide)

theorem fenceCheck_of_closed {pl : Plot} (h : ∀ e ∈ pl.units, e.2.opens = [] ∧ e.2.failed = false) : fenceCheck pl = true := by
  rw [fenceCheck, Bool.not_eq_true', unitsUnclosed, List.any_eq_false]
  intro e he
  obtain ⟨opens, failed⟩ := h e he
  simp [opens, failed]

theorem exec_fenceSatisfied (p : Nat) (s : State) : exec (.fenceSatisfied p) s = onDev s fun d => fenceSatisfied d p := rfl

/-- A fence of any kind whose plot has nothing open, outstanding or unreleased is satisfied. -/
theorem fenceSatisfied_resumes {d : Dev} {p k : Nat} (running : (d.plot p).rg fPLOT_SEQ_STATUS_STATE = 2)
    (waits : (d.plot p).wait = .fence k) (closed : ∀ e ∈ (d.plot p).units, e.2.opens = [] ∧ e.2.failed = false)
    (dmas : (d.plot p).dmas = []) (issues : (d.plot p).issues = []) (idle : fenceIdle (d.plot p) = true) :
    fenceSatisfied d p = d.setPlot p
      (if k = 4 then takeCheckpoint (d.plot p).resumed (d.plot p).resumed.pc else (d.plot p).resumed) := by
  have state : (d.plot p).seq = seqRUNNING := running
  have check := fenceCheck_of_closed closed
  have dma : fenceDma (d.plot p) = true := by rw [fenceDma, dmas]; rfl
  have tine : fenceTine (d.plot p) = true := by rw [fenceTine, issues]; rfl
  have all : fenceAll (d.plot p) = true := by rw [fenceAll, check, dma, tine]; rfl
  unfold fenceSatisfied
  simp only [state, waits, check, dma, tine, all, idle, ne_eq, not_true_eq_false, if_false, Bool.and_self, ite_self, if_true]
  rfl

theorem fenceSatisfied_completes {s : State} {p k : Nat} (live : Live s)
    (running : (s.dev.plot p).rg fPLOT_SEQ_STATUS_STATE = 2) (waits : (s.dev.plot p).wait = .fence k)
    (closed : ∀ e ∈ (s.dev.plot p).units, e.2.opens = [] ∧ e.2.failed = false) (dmas : (s.dev.plot p).dmas = [])
    (issues : (s.dev.plot p).issues = []) (idle : fenceIdle (s.dev.plot p) = true) :
    Completes (.fenceSatisfied p) s (fun t =>
      OnlyPlot p s.dev t.dev ∧ (t.dev.plot p).wait = .none ∧ WentOn (s.dev.plot p) (t.dev.plot p) ∧
      (k = 4 → (t.dev.plot p).rg fPLOT_SEQ_REPLAY_CKPT_PC = (t.dev.plot p).pc ∧ (t.dev.plot p).suppress = 0 ∧
        (t.dev.plot p).ckpt.loops = (t.dev.plot p).loops ∧ (t.dev.plot p).live = none)) := by
  have gives : Gives (.fenceSatisfied p) s (fenceSatisfied s.dev p) := by rw [Gives, exec_fenceSatisfied, onDev_live live]
  rw [fenceSatisfied_resumes running waits closed dmas issues idle] at gives
  obtain ⟨loops, pc⟩ := (s.dev.plot p).wentOn_resumed
  refine gives.completes ⟨OnlyPlot.setPlot _ _ _, ?_⟩
  rw [Dev.plot_setPlot_same]
  split
  next ckpt =>
    have kept : (takeCheckpoint (s.dev.plot p).resumed (s.dev.plot p).resumed.pc).pc = (s.dev.plot p).resumed.pc :=
      takeCheckpoint_rg_ne _ _ (by decide)
    refine ⟨rfl, ⟨loops, kept.trans pc⟩, fun _ => ⟨?_, rfl, rfl, rfl⟩⟩
    rw [kept, takeCheckpoint_ckptPc _ (s.dev.plot p).resumed_pc_lt]
  next other => exact ⟨rfl, ⟨loops, pc⟩, fun ckpt => absurd ckpt other⟩

theorem exec_waitSatisfied (p : Nat) (s : State) : exec (.waitSatisfied p) s = onDev s fun d =>
    match (d.plot p).wait with
    | .wait c t =>
      if (d.plot p).seq = seqRUNNING && waitMet (d.syncGet p c) t then
        d.setPlot p (advance { d.plot p with wait := .none } ((d.plot p).rg fPLOT_SEQ_STATUS_PC))
      else d
    | _ => d := rfl

/-- A counter has reached a target when it is less than half of its range ahead. -/
theorem waitMet_iff (counter target : Nat) : waitMet counter target = true ↔ (counter + 2 ^ 32 - target) % 2 ^ 32 < 2 ^ 31 := by
  generalize hn : (counter + 2 ^ 32 - target) % 2 ^ 32 = n
  have bound : n < 2 ^ 32 := hn ▸ Nat.mod_lt _ (by decide)
  rw [waitMet, hn, decide_eq_true_iff]
  unfold signedOf bitOf
  split
  next neg =>
    rw [beq_iff_eq] at neg
    omega
  next pos =>
    rw [beq_iff_eq] at pos
    omega

theorem waitSatisfied_completes {s : State} {p c v : Nat} (live : Live s)
    (running : (s.dev.plot p).rg fPLOT_SEQ_STATUS_STATE = 2) (waits : (s.dev.plot p).wait = .wait c v)
    (met : (s.dev.syncGet p c + 2 ^ 32 - v) % 2 ^ 32 < 2 ^ 31) :
    Completes (.waitSatisfied p) s (fun t =>
      OnlyPlot p s.dev t.dev ∧ (t.dev.plot p).wait = .none ∧ WentOn (s.dev.plot p) (t.dev.plot p)) := by
  have state : (s.dev.plot p).seq = seqRUNNING := running
  have gives : Gives (.waitSatisfied p) s (s.dev.setPlot p (s.dev.plot p).resumed) := by
    rw [Gives, exec_waitSatisfied, onDev_live live]
    simp only [waits, state, (waitMet_iff _ _).mpr met, decide_true, Bool.and_self, if_true]
    rfl
  refine gives.completes ⟨OnlyPlot.setPlot _ _ _, ?_⟩
  rw [Dev.plot_setPlot_same]
  exact ⟨rfl, Plot.wentOn_resumed _⟩

/-! ## A stop leaves the stores alone (R135) -/

theorem stopSeq_only (d : Dev) (p pc code : Nat) : stopSeq d p pc code = { d with plots := (stopSeq d p pc code).plots } := by
  unfold stopSeq
  dsimp only
  split_ifs <;> rfl

theorem SameStores.recordPlot (d : Dev) (p code : Nat) :
    SameStores { d with tray := (recordPlot d p code).tray } (recordPlot d p code) := by
  have regs := RegsOnly.recordPlot d p code
  exact ⟨regs.scr, regs.bed, regs.gddr, regs.flash, rfl⟩

theorem SameStores.stopAt (d : Dev) (p pc code : Nat) :
    SameStores { d with tray := (stopAt d p pc code).tray } (stopAt d p pc code) := by
  unfold Machine.stopAt
  rw [stopSeq_only]
  split
  · exact ⟨rfl, rfl, rfl, rfl, rfl⟩
  · exact SameStores.recordPlot d p code

theorem exec_syncTimeout (p : Nat) (s : State) : exec (.syncTimeout p) s = onDev s fun d =>
    match (d.plot p).wait with
    | .wait c t =>
      if (d.plot p).seq = seqRUNNING && !waitMet (d.syncGet p c) t then
        stopAt d p ((d.plot p).rg fPLOT_SEQ_STATUS_PC) 0x0C20 else d
    | _ => d := rfl

/-- What the stop of a running plot leaves in its sequencer's registers. -/
theorem stopAt_running_rg {d : Dev} {p : Nat} (running : (d.plot p).rg fPLOT_SEQ_STATUS_STATE = 2) (pc : Nat) {code : Nat}
    (hc : code ≠ 0) (fits : code < 2 ^ 16) :
    ((stopAt d p pc code).plot p).rg fPLOT_SEQ_STATUS_STATE = 3 ∧ ((stopAt d p pc code).plot p).rg fPLOT_SEQ_STOP_CODE = code ∧
      ((stopAt d p pc code).plot p).rg fPLOT_SEQ_STOP_PC = pc % 8192 := by
  rw [stopAt_running running pc hc]
  refine ⟨?_, (Plot.rg_rs_same _ _ _).trans (Nat.mod_eq_of_lt fits),
    (Plot.rg_rs_ne _ (by decide) _).trans (Plot.rg_rs_same _ _ _)⟩
  exact (Plot.rg_rs_ne _ (by decide) _).trans ((Plot.rg_rs_ne _ (by decide) _).trans (Plot.rg_rs_same _ _ _))

theorem syncTimeout_completes {s : State} {p c v : Nat} (live : Live s)
    (running : (s.dev.plot p).rg fPLOT_SEQ_STATUS_STATE = 2) (waits : (s.dev.plot p).wait = .wait c v)
    (short : 2 ^ 31 ≤ (s.dev.syncGet p c + 2 ^ 32 - v) % 2 ^ 32) :
    Completes (.syncTimeout p) s (fun t => (t.dev.plot p).rg fPLOT_SEQ_STATUS_STATE = 3 ∧
      (t.dev.plot p).rg fPLOT_SEQ_STOP_CODE = 0x0C20 ∧ (t.dev.plot p).rg fPLOT_SEQ_STOP_PC = (s.dev.plot p).pc % 8192 ∧
      SameStores { s.dev with tray := t.dev.tray } t.dev) := by
  have state : (s.dev.plot p).seq = seqRUNNING := running
  have unmet : waitMet (s.dev.syncGet p c) v = false := by
    rw [← Bool.not_eq_true, waitMet_iff]
    exact Nat.not_lt.mpr short
  have gives : Gives (.syncTimeout p) s (stopAt s.dev p (s.dev.plot p).pc 0x0C20) := by
    rw [Gives, exec_syncTimeout, onDev_live live]
    simp only [waits, state, unmet, decide_true, Bool.not_false, Bool.and_self, if_true]
    rfl
  obtain ⟨stopped, code, pc⟩ := stopAt_running_rg running (s.dev.plot p).pc (code := 0x0C20) (by decide) (by decide)
  exact gives.completes ⟨stopped, code, pc, SameStores.stopAt _ _ _ _⟩

/-! ## Interrupts of a plot (R513) -/

/-- A register key outside PLOT_IRQ. -/
def outsideIrq (k : Nat) : Prop := k < 0xf50 * 64 ∨ 0xf58 * 64 ≤ k

/-- The second device differs from the first in PLOT_IRQ of plot `p` at most. -/
structure IrqOnly (p : Nat) (d e : Dev) : Prop where
  others : OnlyPlot p d e
  only : e.plot p = { d.plot p with regs := (e.plot p).regs }
  regs : ∀ g : Fld, outsideIrq g.key → (e.plot p).rg g = (d.plot p).rg g

theorem IrqOnly.plotIrq (d : Dev) (p i : Nat) : IrqOnly p d (plotIrq d p i) := by
  have flag {f : Fld} (hf : ¬ outsideIrq f.key) (v : Nat) (e : Dev) (he : e = d.modPlot p fun pl => pl.rs f v) :
      IrqOnly p d e := by
    subst he
    refine ⟨OnlyPlot.setPlot _ _ _, ?_, fun g hg => ?_⟩
    · rw [Dev.plot_modPlot_same]
      rfl
    · rw [Dev.plot_modPlot_same]
      exact Plot.rg_rs_ne _ (fun e => hf (e ▸ hg)) v
  unfold Machine.plotIrq outsideIrq at *
  split_ifs
  · exact flag (f := fPLOT_IRQ_SEQ_STOP) (by decide) _ _ rfl
  · exact flag (f := fPLOT_IRQ_SEQ_DONE) (by decide) _ _ rfl
  · exact flag (f := fPLOT_IRQ_ARR) (by decide) _ _ rfl
  · exact flag (f := fPLOT_IRQ_TINE) (by decide) _ _ rfl
  · exact flag (f := fPLOT_IRQ_ATT) (by decide) _ _ rfl
  · exact flag (f := fPLOT_IRQ_BED_CH) (by decide) (withBit ((d.plot p).rg fPLOT_IRQ_BED_CH) (i - 16)) _ rfl
  · exact ⟨⟨rfl, fun _ _ => rfl⟩, rfl, fun _ _ => rfl⟩

/-! ## The end of a HALT (R136) -/

theorem packRun_none {d : Dev} (h : d.sed.packs = []) (p : Nat) : packRun d p = none := by rw [packRun, h]; rfl

theorem OnlyPlot.sed {p : Nat} {d e : Dev} (h : OnlyPlot p d e) : e.sed = d.sed := by rw [h.1]

theorem exec_haltWaitEnd (p : Nat) (s : State) : exec (.haltWaitEnd p) s = execHaltWaitEnd p s := rfl

/-- A plot that has halted with nothing open or outstanding becomes IDLE. -/
theorem haltWaitEnd_idle {d : Dev} {p : Nat} (running : (d.plot p).rg fPLOT_SEQ_STATUS_STATE = 2)
    (waits : (d.plot p).wait = .halt) (units : (d.plot p).units = []) (dmas : (d.plot p).dmas = [])
    (issues : (d.plot p).issues = []) : haltWaitEnd d p =
      plotIrq (d.setPlot p { (d.plot p).rs fPLOT_SEQ_STATUS_STATE seqIDLE with wait := .none }) p 1 := by
  have state : (d.plot p).seq = seqRUNNING := running
  have all : fenceAll (d.plot p) = true := by
    rw [fenceAll, fenceCheck_of_closed (by simp [units]), fenceDma, dmas, fenceTine, issues]
    rfl
  unfold haltWaitEnd
  simp only [state, waits, all, decide_true, Bool.and_self, if_true]

theorem haltWaitEnd_completes {s : State} {p : Nat} (live : Live s) (none : s.dev.sed.packs = [])
    (running : (s.dev.plot p).rg fPLOT_SEQ_STATUS_STATE = 2) (waits : (s.dev.plot p).wait = .halt)
    (units : (s.dev.plot p).units = []) (dmas : (s.dev.plot p).dmas = []) (issues : (s.dev.plot p).issues = []) :
    Completes (.haltWaitEnd p) s (fun t => OnlyPlot p s.dev t.dev ∧ (t.dev.plot p).rg fPLOT_SEQ_STATUS_STATE = 1 ∧
      (t.dev.plot p).wait = .none) := by
  have halted := haltWaitEnd_idle running waits units dmas issues
  have irq := IrqOnly.plotIrq (s.dev.setPlot p { (s.dev.plot p).rs fPLOT_SEQ_STATUS_STATE seqIDLE with wait := .none }) p 1
  rw [← halted] at irq
  have only := (OnlyPlot.setPlot s.dev p _).trans irq.others
  have gives : Gives (.haltWaitEnd p) s (haltWaitEnd s.dev p) := by
    rw [Gives, exec_haltWaitEnd, execHaltWaitEnd, onDev_live live]
    simp only [packRun_none (only.sed ▸ none), ite_self]
  refine gives.completes ⟨only, (irq.regs _ (.inl (by decide))).trans ?_, ?_⟩
  · rw [Dev.plot_setPlot_same]
    exact Plot.rg_rs_same (s.dev.plot p) _ seqIDLE
  · dsimp only
    rw [irq.only, Dev.plot_setPlot_same]

/-- Settles O7: each instruction waits for what its word says, and each event ends its wait as the rule gives. -/
theorem fencesAndWaits : Obligations.FencesAndWaits := by
  unfold Obligations.FencesAndWaits
  intro s p live free
  exact ⟨fence_completes live free rfl (by decide) rfl, fence_completes live free rfl (by decide) rfl,
    fence_completes live free rfl (by decide) rfl, fence_completes live free rfl (by decide) rfl,
    fence_completes live free rfl (by decide) rfl, halt_completes live free,
    fun c v i hc hv hi issues => wait_completes live hc hv hi rfl issues,
    fun k _ running waits closed dmas issues idle => fenceSatisfied_completes live running waits closed dmas issues idle,
    fun c v running waits met => waitSatisfied_completes live running waits met,
    fun c v running waits short => syncTimeout_completes live running waits short,
    fun none running waits units dmas issues => haltWaitEnd_completes live none running waits units dmas issues⟩

end Sys2Proof.Machine
end

section
/-! PROOFS. What a plot sends: SIGNAL and DMA at their issue (R152 to R161). -/

namespace Sys2Proof.Machine

/-! ## SIGNAL (R157, R160) -/

theorem exec_signal (p : Nat) (s : State) :
    exec (.signal p) s = onDev s fun d => issueWord d p (isOp 0x0C) false fun d pc w => signalRun d p pc w := rfl

theorem signal_fields {n c a w : Nat} (hn : n < 1024) (hc : c < 256) (ha : a < 2 ^ 16)
    (hw : 0x0C * 2 ^ 58 + n * 2 ^ 31 + c * 2 ^ 23 + a * 2 ^ 7 = w) :
    w / 2 ^ 58 = 0x0C ∧ bitOf w 41 = false ∧ bitsOf w 42 16 = 0 ∧ bitsOf w 31 10 = n ∧ bitsOf w 23 8 = c ∧
      bitsOf w 7 16 = a ∧ bitsOf w 0 7 = 0 := by
  simp only [bitsOf, bitOf, beq_eq_false_iff_ne]
  omega

/-- Outside a replay and a referee an outbound operation joins the queue. -/
theorem queueOut_joins {pl : Plot} (live : pl.suppress = 0) (k : OutKind) (pc : Nat) :
    queueOut false pl k pc = ({ pl with outq := pl.outq ++ [⟨k, pc⟩] }, false) := by
  simp [queueOut, live]

/-- A SIGNAL of a number that this device carries joins the outbound queue. -/
theorem signalRun_joins {d : Dev} {p n c a w : Nat} (free : d.referee = none) (live : (d.plot p).suppress = 0) (hn : n < 1024)
    (hc : c < 256) (ha : a < 2 ^ 16) (present : (d.phys n).isSome = true)
    (hw : 0x0C * 2 ^ 58 + n * 2 ^ 31 + c * 2 ^ 23 + a * 2 ^ 7 = w) (pc : Nat) : signalRun d p pc w =
      .done (d.setPlot p { d.plot p with outq := (d.plot p).outq ++ [⟨.signal 0 false n c a, pc⟩] }) := by
  obtain ⟨-, remote, dev, number, ctr, add, rest⟩ := signal_fields hn hc ha hw
  have found : (d.phys n).isNone = false := by rw [← Option.not_isSome, present]; rfl
  simp only [signalRun, remote, dev, number, ctr, add, rest, isRemote, found, isReferee_none free, queueOut_joins live,
    Bool.false_and, Bool.and_false, Bool.false_eq_true, ne_eq, not_true_eq_false, if_false]

theorem signal_completes {s : State} {p n c a w : Nat} (live : Live s) (free : s.dev.referee = none)
    (unsuppressed : (s.dev.plot p).suppress = 0) (hn : n < 1024) (hc : c < 256) (ha : a < 2 ^ 16)
    (present : (s.dev.phys n).isSome = true) (hw : 0x0C * 2 ^ 58 + n * 2 ^ 31 + c * 2 ^ 23 + a * 2 ^ 7 = w)
    (h : Issues s.dev p w) :
    Completes (.signal p) s (fun t => Ran p [] s t ∧ WentOn (s.dev.plot p) (t.dev.plot p) ∧
      (t.dev.plot p).outq = (s.dev.plot p).outq ++ [⟨.signal 0 false n c a, (s.dev.plot p).pc⟩]) := by
  have op := (signal_fields hn hc ha hw).1
  have run := signalRun_joins free unsuppressed hn hc ha present hw (s.dev.plot p).pc
  refine (issue_gives live (exec_signal p s) h op (wordLegal_of_op op rfl) (decide_eq_true op) run).completes
    ⟨ran_goneOn_plain rfl (OnlyPlot.setPlot _ _ _) fun g _ => ?_, ?_, ?_⟩
  · rw [Dev.plot_setPlot_same]
    rfl
  · rw [Dev.goneOn_plot_same, Dev.plot_setPlot_same]
    exact wentOn_advance rfl _
  · rw [Dev.goneOn_plot_same, Dev.plot_setPlot_same, countIssue_advance_only]

/-! ## A descriptor accepted (R154, R160, R161) -/

theorem markWrite_regs (a : Plot) (us : List Nat) (whole : Nat → Bool) : (markWrite a us whole).regs = a.regs :=
  List.foldlRecOn us _ (motive := fun b : Plot => b.regs = a.regs) rfl fun _ hb _ _ => hb

/-- The second plot has accepted one more descriptor than the first, inbound or not. -/
structure Accepted (inbound : Bool) (a b : Plot) : Prop where
  regs : b.regs = a.regs
  loops : b.loops = a.loops
  dmas : b.dmas.length = a.dmas.length + 1
  outq : if inbound then b.outq = a.outq else b.outq.length = a.outq.length + 1

theorem acceptDesc_accepts {d : Dev} {p : Nat} (free : d.referee = none) (live : (d.plot p).suppress = 0) (pc : Nat)
    (ctr : Option Nat) (i : Nat) (x : Desc) : OnlyPlot p d (acceptDesc d p pc ctr i x) ∧
      Accepted (x.inbound d p) (d.plot p) ((acceptDesc d p pc ctr i x).plot p) := by
  unfold acceptDesc
  dsimp only
  generalize hm : markWrite (markRead (d.plot p) (x.srcUnits d p)) (x.dstUnits d p) _ = m
  have marks : MarksOnly (d.plot p) m := hm ▸ (MarksOnly.markRead _ _).trans (MarksOnly.markWrite _ _ _)
  have regs : m.regs = (d.plot p).regs := by rw [← hm, markWrite_regs, markRead_regs]
  have dmas : m.dmas = (d.plot p).dmas := by rw [marks.only]
  have outq : m.outq = (d.plot p).outq := by rw [marks.only]
  have replays : m.suppress = 0 := by rw [marks.only]; exact live
  cases x.inbound d p
  · rw [isReferee_none free, queueOut_joins (by exact replays)]
    refine ⟨OnlyPlot.setPlot _ _ _, ?_⟩
    simp only [Bool.false_eq_true, if_false, Dev.plot_setPlot_same]
    exact ⟨regs, marks.loops, by simp [dmas], by simp [outq]⟩
  · refine ⟨OnlyPlot.setPlot _ _ _, ?_⟩
    simp only [if_true, Dev.plot_setPlot_same]
    exact ⟨regs, marks.loops, by simp [dmas], by simp [outq]⟩

/-! ## DMA of one descriptor (R152) -/

theorem exec_dma (p : Nat) (s : State) :
    exec (.dma p) s = onDev s fun d => issueWord d p (isOp 0x20) false fun d pc w => dmaRun d p pc w := rfl

theorem dma_fields {i w : Nat} (hi : i < 256) (hw : 0x20 * 2 ^ 58 + i * 2 ^ 50 + 1 * 2 ^ 42 = w) :
    w / 2 ^ 58 = 0x20 ∧ bitsOf w 50 8 = i ∧ bitsOf w 42 8 = 1 ∧ bitOf w 33 = false ∧ bitsOf w 0 33 = 0 := by
  simp only [bitsOf, bitOf, beq_eq_false_iff_ne]
  omega

/-- The 64 bytes of descriptor `i`. -/
def descBytes (d : Dev) (p i : Nat) : List Byte := memRead d.scr (scrBase p + (0x1000 + i * 64)) 64

/-- One descriptor that passes its checks is accepted. -/
theorem dmaRun_accepts {d : Dev} {p i w : Nat} (running : (d.plot p).rg fPLOT_SEQ_STATUS_STATE = 2) (hs : Sound (d.plot p))
    (hi : i < 256) (legal : (parseDesc (descBytes d p i)).2 = false)
    (passes : descStop d p ((parseDesc (descBytes d p i)).1.localise d) false = 0)
    (hw : 0x20 * 2 ^ 58 + i * 2 ^ 50 + 1 * 2 ^ 42 = w) (pc : Nat) : dmaRun d p pc w =
      .done (acceptDesc d p pc none i ((parseDesc (descBytes d p i)).1.localise d)) := by
  obtain ⟨-, first, count, noCtr, rest⟩ := dma_fields hi hw
  have state : (d.plot p).seq = seqRUNNING := running
  have scratch : 0x1000 + i * 64 < 2 ^ 20 := by omega
  have bytes : ((localBytes d p (0x1000 + i * 64) (1 * 64)).drop (0 * 64)).take 64 = descBytes d p i := by
    rw [localBytes_scratch hs.1 scratch, memRead_drop, memRead_take _ _ (by decide), Nat.zero_mul, Nat.add_zero,
      descBytes]
  unfold dmaRun
  simp only [first, count, noCtr, rest, plotRead_sound hs, state, List.range_one, List.map_cons, List.map_nil, bytes,
    firstBadDesc, legal, passes, ne_eq, not_true_eq_false, if_false, if_true, one_ne_zero, Bool.false_eq_true,
    show ¬ 256 < i + 1 by omega, List.foldl_cons, List.foldl_nil, Nat.add_zero]

theorem dma_completes {s : State} {p i w : Nat} (live : Live s) (free : s.dev.referee = none)
    (unsuppressed : (s.dev.plot p).suppress = 0) (hi : i < 256) (hs : Sound (s.dev.plot p))
    (hw : 0x20 * 2 ^ 58 + i * 2 ^ 50 + 1 * 2 ^ 42 = w) (h : Issues s.dev p w) {x : Desc}
    (hx : (parseDesc (descBytes s.dev p i)).1.localise s.dev = x) (legal : (parseDesc (descBytes s.dev p i)).2 = false)
    (passes : descStop s.dev p x false = 0) :
    Completes (.dma p) s (fun t => Ran p [] s t ∧ WentOn (s.dev.plot p) (t.dev.plot p) ∧
      (t.dev.plot p).dmas.length = (s.dev.plot p).dmas.length + 1 ∧
      (x.inbound s.dev p = true → (t.dev.plot p).outq = (s.dev.plot p).outq) ∧
      (x.inbound s.dev p = false → (t.dev.plot p).outq.length = (s.dev.plot p).outq.length + 1)) := by
  subst hx
  have op := (dma_fields hi hw).1
  have run := dmaRun_accepts h.2.1 hs hi legal passes hw (s.dev.plot p).pc
  obtain ⟨only, regs, loops, dmas, outq⟩ := acceptDesc_accepts free unsuppressed (s.dev.plot p).pc none i
    ((parseDesc (descBytes s.dev p i)).1.localise s.dev)
  refine (issue_gives live (exec_dma p s) h op (wordLegal_of_op op rfl) (decide_eq_true op) run).completes
    ⟨ran_goneOn_plain rfl only fun g _ => by rw [Plot.rg, regs, Plot.rg], ?_⟩
  rw [Dev.goneOn_plot_same]
  refine ⟨wentOn_advance loops _, ?_⟩
  rw [countIssue_advance_only]
  exact ⟨dmas, fun inb => by rw [inb, if_pos rfl] at outq; exact outq,
    fun out => by rw [out, if_neg Bool.false_ne_true] at outq; exact outq⟩

/-- Settles O8: a SIGNAL joins the queue, and a DMA accepts its descriptor on the side that its destination says. -/
theorem signalAndDma : Obligations.SignalAndDma := by
  unfold Obligations.SignalAndDma
  intro s p live free unsuppressed
  refine ⟨fun n c a hn hc ha present issues => signal_completes live free unsuppressed hn hc ha present rfl issues,
    fun i hi sound issues => ?_⟩
  have bytes : memRead s.dev.scr (p * 2 ^ 20 + 0x1000 + i * 64) 64 = descBytes s.dev p i := by
    rw [descBytes, scrBase, Nat.add_assoc]
  rw [bytes]
  exact fun legal passes => dma_completes live free unsuppressed hi sound rfl issues rfl legal passes

end Sys2Proof.Machine
end

section
/-! PROOFS. The commands of PLOT_SEQ_CTRL, and the end of a drain (R136, R163 to R165). -/

namespace Sys2Proof.Machine

/-! ## Index registers written in turn (R133) -/

/-- The registers below the index registers: those of PLOT_SEQ_CTRL to PLOT_SEQ_REPLAY. -/
theorem foldl_setIdx_rg_low {α : Type} (l : List α) (key val : α → Nat) (pl : Plot) {g : Fld} (hg : g.key < 0x40 * 64) :
    (l.foldl (fun pl e => pl.setIdx (key e) (val e)) pl).rg g = pl.rg g :=
  List.foldlRecOn l _ (motive := fun b : Plot => b.rg g = pl.rg g) rfl fun b hb e _ =>
    (Plot.setIdx_rg_ne b (by simp only [Fld.at, Fld.key, fPLOT_SEQ_IDX_VALUE] at hg ⊢; omega) (val e)).trans hb

theorem Plot.idx_setIdx_ne (pl : Plot) {r k : Nat} (h : r ≠ k) (v : Nat) : (pl.setIdx k v).idx r = pl.idx r :=
  idx_congr (Plot.setIdx_rg_ne pl (by simp only [Fld.at, Fld.key, fPLOT_SEQ_IDX_VALUE]; omega) v)

/-- Every index register but I0 set to 0. -/
def Plot.idxCleared (pl : Plot) : Plot := (List.range 15).foldl (fun pl i => pl.setIdx (i + 1) 0) pl

theorem Plot.idx_idxCleared (pl : Plot) {r : Nat} (hr : r < 16) : pl.idxCleared.idx r = 0 := by
  have zero (b : Plot) (k : Nat) (h : b.idx r = 0 ∨ r = k) : (b.setIdx k 0).idx r = 0 := by
    by_cases same : r = k
    · rw [← same, Plot.idx_setIdx_same]
      exact ite_self 0
    · rw [Plot.idx_setIdx_ne b same]
      exact h.resolve_right same
  have cleared (l : List Nat) : ∀ b : Plot, b.idx r = 0 ∨ r ∈ l.map (· + 1) →
      (l.foldl (fun pl i => pl.setIdx (i + 1) 0) b).idx r = 0 := by
    induction l with
    | nil => exact fun b h => h.resolve_right List.not_mem_nil
    | cons i t ih =>
      intro b h
      rw [List.map_cons, List.mem_cons, ← or_assoc] at h
      exact ih _ (h.imp (zero b (i + 1)) id)
  refine cleared (List.range 15) pl ?_
  rcases Nat.eq_zero_or_pos r with rfl | pos
  · exact .inl (if_pos rfl)
  · exact .inr (List.mem_map.mpr ⟨r - 1, List.mem_range.mpr (by omega), by omega⟩)

/-! ## START (R136, R163) -/

/-- The plot from which START takes its checkpoint. -/
def Plot.fresh (pl : Plot) : Plot :=
  { pl.idxCleared with
    loops := [], mat := MatCfg.reset, att := AttPipe.reset, wait := .none, abortPending := false,
    units := (pl.idxCleared.units.map (fun e => (e.1, { e.2 with wrote := false }))).filter (fun e => e.2 ≠ UnitSt.idle) }

theorem Plot.fresh_rg (pl : Plot) (g : Fld) : pl.fresh.rg g = pl.idxCleared.rg g := by simp only [Plot.rg, Plot.fresh]

/-- A plot started at `pc`. -/
def Plot.started (pl : Plot) (pc : Nat) : Plot :=
  ((((takeCheckpoint pl.fresh pc).rs fPLOT_SEQ_STOP_CODE 0).rs fPLOT_DMA_ERR_CODE 0).rs fPLOT_SEQ_STATUS_PC pc).rs
    fPLOT_SEQ_STATUS_STATE seqRUNNING

theorem seqStart_idle {d : Dev} {p : Nat} (idle : (d.plot p).rg fPLOT_SEQ_STATUS_STATE = 1) (pc : Nat) : seqStart d p pc =
    (d.setPlot p ((d.plot p).rs fPLOT_SEQ_CTRL_PC pc)).setPlot p (((d.plot p).rs fPLOT_SEQ_CTRL_PC pc).started pc) := by
  have state : ((d.plot p).rs fPLOT_SEQ_CTRL_PC pc).seq = seqIDLE := (Plot.rg_rs_ne _ (by decide) _).trans idle
  unfold seqStart
  simp only [state, show ¬ seqIDLE = seqUNSOWN by decide, ne_eq, not_true_eq_false, if_false]
  rfl

theorem Plot.started_rg_ne (pl : Plot) (pc : Nat) {g : Fld}
    (h : g.key ∉ ([fPLOT_SEQ_STOP_CODE, fPLOT_DMA_ERR_CODE, fPLOT_SEQ_STATUS_PC, fPLOT_SEQ_STATUS_STATE] : List Fld).map Fld.key) :
    (pl.started pc).rg g = (takeCheckpoint pl.fresh pc).rg g := by
  simp only [List.map_cons, List.map_nil, List.mem_cons, List.not_mem_nil, or_false, not_or] at h
  obtain ⟨code, err, pcKey, state⟩ := h
  rw [Plot.started, Plot.rg_rs_ne _ state, Plot.rg_rs_ne _ pcKey, Plot.rg_rs_ne _ err, Plot.rg_rs_ne _ code]

theorem Plot.idx_started (pl : Plot) (pc : Nat) {r : Nat} (hr : r < 16) : (pl.started pc).idx r = 0 := by
  have kept : (pl.started pc).rg (fPLOT_SEQ_IDX_VALUE.at r) = pl.idxCleared.rg (fPLOT_SEQ_IDX_VALUE.at r) := by
    rw [Plot.started_rg_ne, takeCheckpoint_rg_ne, Plot.fresh_rg]
    all_goals
      simp only [ckptFields, List.map_cons, List.map_nil, List.mem_cons, List.not_mem_nil, or_false, not_or, Fld.at, Fld.key,
        fPLOT_SEQ_IDX_VALUE, fPLOT_ARR_STATUS_SHADOW, fPLOT_SEQ_REPLAY_OUT_DONE, fPLOT_SEQ_REPLAY_CKPT_PC, fPLOT_SEQ_STOP_CODE, fPLOT_DMA_ERR_CODE,
        fPLOT_SEQ_STATUS_PC, fPLOT_SEQ_STATUS_STATE]
      omega
  rw [idx_congr kept, Plot.idx_idxCleared pl hr]

theorem exec_start (p pc : Nat) (s : State) :
    exec (.start p pc) s = onDev s fun d => if isPlot p then seqStart (wakePlot d p) p (pc % 8192) else d := rfl

theorem start_completes {s : State} {p pc : Nat} (live : Live s) (plot : isPlot p = true)
    (awake : (s.dev.plot p).rg fPLOT_PWR_STATE = 0) (hpc : pc < 8192) (idle : (s.dev.plot p).rg fPLOT_SEQ_STATUS_STATE = 1) :
    Completes (.start p pc) s (fun t => OnlyPlot p s.dev t.dev ∧ (t.dev.plot p).rg fPLOT_SEQ_STATUS_STATE = 2 ∧
      (t.dev.plot p).pc = pc ∧ (t.dev.plot p).rg fPLOT_SEQ_REPLAY_CKPT_PC = pc ∧ (t.dev.plot p).loops = [] ∧
      (t.dev.plot p).live = none ∧ (∀ i, i < 16 → (t.dev.plot p).idx i = 0) ∧
      (t.dev.plot p).rg fPLOT_SEQ_STOP_CODE = 0) := by
  have gives : Gives (.start p pc) s (seqStart s.dev p pc) := by
    rw [Gives, exec_start, onDev_live live, if_pos plot, wakePlot_awake awake, Nat.mod_eq_of_lt hpc]
  rw [seqStart_idle idle] at gives
  refine gives.completes ⟨(OnlyPlot.setPlot _ _ _).trans (OnlyPlot.setPlot _ _ _), ?_⟩
  rw [Dev.plot_setPlot_same]
  generalize (s.dev.plot p).rs fPLOT_SEQ_CTRL_PC pc = pl
  refine ⟨Plot.rg_rs_same _ _ _, ?_, ?_, rfl, rfl, fun i hi => pl.idx_started pc hi, ?_⟩
  · exact (Plot.rg_rs_ne _ (by decide) _).trans ((Plot.rg_rs_same _ _ _).trans (Nat.mod_eq_of_lt hpc))
  · rw [Plot.started_rg_ne _ _ (by decide)]
    exact takeCheckpoint_ckptPc _ hpc
  · exact (Plot.rg_rs_ne _ (by decide) _).trans ((Plot.rg_rs_ne _ (by decide) _).trans
      ((Plot.rg_rs_ne _ (by decide) _).trans (Plot.rg_rs_same _ _ 0)))

/-! ## REPLAY, ABORT and CLEAR_FAILED (R136, R165) -/

theorem clearFailedUnits_failed (pl : Plot) : ∀ e ∈ (clearFailedUnits pl).units, e.2.failed = false := by
  intro e he
  obtain ⟨x, -, rfl⟩ := List.mem_map.mp (List.mem_filter.mp he).1
  rfl

/-- Clearing the marks fails no unit. -/
theorem clearMarks_failed {pl : Plot} (h : ∀ e ∈ pl.units, e.2.failed = false) :
    ∀ e ∈ (clearMarks pl).units, e.2.failed = false := by
  intro e he
  obtain ⟨x, hx, rfl⟩ := List.mem_map.mp (List.mem_filter.mp he).1
  exact h x hx

theorem clearMarks_marks (pl : Plot) : ∀ e ∈ (clearMarks pl).units, e.2.read = false ∧ e.2.born = false := by
  intro e he
  obtain ⟨x, -, rfl⟩ := List.mem_map.mp (List.mem_filter.mp he).1
  exact ⟨rfl, rfl⟩

/-- The index registers of a checkpoint restored. -/
def Plot.idxRestored (pl : Plot) : Plot := ((List.range 15).zip pl.ckpt.idx).foldl (fun pl e => pl.setIdx (e.1 + 1) e.2) pl

/-- The plot to which REPLAY restores its checkpoint, but for where it runs. -/
def Plot.restored (pl : Plot) : Plot :=
  let b := clearMarks (clearFailedUnits (dropTiles pl.idxRestored))
  { b with
    loops := pl.ckpt.loops, mat := pl.ckpt.mat, wait := .none, att := { AttPipe.reset with cfg := pl.ckpt.att },
    suppress := b.rg fPLOT_SEQ_REPLAY_OUT_DONE }

theorem Plot.restored_rg_low (pl : Plot) {g : Fld} (hg : g.key < 0x40 * 64) : pl.restored.rg g = pl.rg g := by
  have shadow : g.key ≠ fPLOT_ARR_STATUS_SHADOW.key := by
    simp only [Fld.key, fPLOT_ARR_STATUS_SHADOW] at hg ⊢
    omega
  exact (Plot.rg_rs_ne pl.idxRestored shadow shEMPTY).trans (foldl_setIdx_rg_low _ _ _ _ hg)

/-- A plot replayed from its checkpoint. -/
def Plot.replayed (pl : Plot) : Plot :=
  (pl.restored.rs fPLOT_SEQ_STATUS_PC (pl.restored.rg fPLOT_SEQ_REPLAY_CKPT_PC)).rs fPLOT_SEQ_STATUS_STATE seqRUNNING

theorem seqReplay_stopped {d : Dev} {p : Nat} (stopped : (d.plot p).rg fPLOT_SEQ_STATUS_STATE = 4) :
    seqReplay d p = d.setPlot p (d.plot p).replayed := by
  have state : (d.plot p).seq = seqSTOPPED := stopped
  unfold seqReplay
  simp only [state, show ¬ seqSTOPPED = seqUNSOWN by decide, ne_eq, not_true_eq_false, if_false]
  rfl

theorem exec_replay (p : Nat) (s : State) :
    exec (.replay p) s = onDev s fun d => if isPlot p then seqReplay (wakePlot d p) p else d := rfl

theorem replay_completes {s : State} {p : Nat} (live : Live s) (plot : isPlot p = true)
    (awake : (s.dev.plot p).rg fPLOT_PWR_STATE = 0) (stopped : (s.dev.plot p).rg fPLOT_SEQ_STATUS_STATE = 4) :
    Completes (.replay p) s (fun t => OnlyPlot p s.dev t.dev ∧ (t.dev.plot p).rg fPLOT_SEQ_STATUS_STATE = 2 ∧
      (t.dev.plot p).pc = (s.dev.plot p).rg fPLOT_SEQ_REPLAY_CKPT_PC % 8192 ∧
      (t.dev.plot p).loops = (s.dev.plot p).ckpt.loops ∧ (t.dev.plot p).mat = (s.dev.plot p).ckpt.mat ∧
      (t.dev.plot p).suppress = (s.dev.plot p).rg fPLOT_SEQ_REPLAY_OUT_DONE ∧
      (∀ e ∈ (t.dev.plot p).units, e.2.failed = false)) := by
  have gives : Gives (.replay p) s (s.dev.setPlot p (s.dev.plot p).replayed) := by
    rw [Gives, exec_replay, onDev_live live, if_pos plot, wakePlot_awake awake, seqReplay_stopped stopped]
  refine gives.completes ⟨OnlyPlot.setPlot _ _ _, ?_⟩
  rw [Dev.plot_setPlot_same]
  generalize s.dev.plot p = pl
  refine ⟨Plot.rg_rs_same _ _ _, ?_, rfl, rfl, ?_, clearMarks_failed (clearFailedUnits_failed (dropTiles pl.idxRestored))⟩
  · rw [← pl.restored_rg_low (g := fPLOT_SEQ_REPLAY_CKPT_PC) (by decide)]
    exact (Plot.rg_rs_ne _ (by decide) _).trans (Plot.rg_rs_same _ _ _)
  · exact pl.restored_rg_low (by decide)

theorem exec_abort (p : Nat) (s : State) :
    exec (.abort p) s = onDev s fun d => if isPlot p then seqAbort (wakePlot d p) p else d := rfl

theorem abort_gives {s : State} {p : Nat} (live : Live s) (plot : isPlot p = true)
    (awake : (s.dev.plot p).rg fPLOT_PWR_STATE = 0) : Gives (.abort p) s (seqAbort s.dev p) := by
  rw [Gives, exec_abort, onDev_live live, if_pos plot, wakePlot_awake awake]

theorem abort_running {s : State} {p : Nat} (live : Live s) (plot : isPlot p = true)
    (awake : (s.dev.plot p).rg fPLOT_PWR_STATE = 0) (running : (s.dev.plot p).rg fPLOT_SEQ_STATUS_STATE = 2) :
    Completes (.abort p) s (fun t => OnlyPlot p s.dev t.dev ∧ (t.dev.plot p).rg fPLOT_SEQ_STATUS_STATE = 3 ∧
      (t.dev.plot p).abortPending = true ∧ (t.dev.plot p).rg fPLOT_SEQ_STOP_CODE = 0) := by
  have state : (s.dev.plot p).seq = seqRUNNING := running
  have gives := abort_gives live plot awake
  rw [seqAbort, if_pos state] at gives
  refine gives.completes ⟨OnlyPlot.setPlot _ _ _, ?_⟩
  rw [Dev.plot_setPlot_same]
  refine ⟨?_, rfl, (Plot.rg_rs_ne _ (by decide) _).trans (Plot.rg_rs_same _ _ 0)⟩
  exact (Plot.rg_rs_ne _ (by decide) _).trans ((Plot.rg_rs_ne _ (by decide) _).trans (Plot.rg_rs_same _ _ _))

theorem abort_stopped {s : State} {p : Nat} (live : Live s) (plot : isPlot p = true)
    (awake : (s.dev.plot p).rg fPLOT_PWR_STATE = 0) (stopped : (s.dev.plot p).rg fPLOT_SEQ_STATUS_STATE = 4) :
    Completes (.abort p) s (fun t => OnlyPlot p s.dev t.dev ∧ (t.dev.plot p).rg fPLOT_SEQ_STATUS_STATE = 1 ∧
      (∀ e ∈ (t.dev.plot p).units, e.2.read = false ∧ e.2.born = false)) := by
  have state : (s.dev.plot p).seq = seqSTOPPED := stopped
  have gives := abort_gives live plot awake
  rw [seqAbort, state, if_neg (by decide), if_pos rfl] at gives
  refine gives.completes ⟨OnlyPlot.setPlot _ _ _, ?_⟩
  rw [Dev.plot_setPlot_same]
  exact ⟨Plot.rg_rs_same (s.dev.plot p) _ seqIDLE, clearMarks_marks _⟩

theorem exec_clearFailed (p : Nat) (s : State) :
    exec (.clearFailed p) s = onDev s fun d => if isPlot p then seqClearFailed (wakePlot d p) p else d := rfl

theorem clearFailed_completes {s : State} {p : Nat} (live : Live s) (plot : isPlot p = true)
    (awake : (s.dev.plot p).rg fPLOT_PWR_STATE = 0)
    (still : (s.dev.plot p).rg fPLOT_SEQ_STATUS_STATE = 1 ∨ (s.dev.plot p).rg fPLOT_SEQ_STATUS_STATE = 4) :
    Completes (.clearFailed p) s (fun t => OnlyPlot p s.dev t.dev ∧
      (∀ e ∈ (t.dev.plot p).units, e.2.failed = false) ∧ (t.dev.plot p).regs = (s.dev.plot p).regs) := by
  have state : (s.dev.plot p).seq = seqIDLE ∨ (s.dev.plot p).seq = seqSTOPPED := still
  have gives : Gives (.clearFailed p) s (s.dev.setPlot p (clearFailedUnits (s.dev.plot p))) := by
    rw [Gives, exec_clearFailed, onDev_live live, if_pos plot, wakePlot_awake awake, seqClearFailed, if_pos state]
  refine gives.completes ⟨OnlyPlot.setPlot _ _ _, ?_⟩
  rw [Dev.plot_setPlot_same]
  exact ⟨clearFailedUnits_failed _, rfl⟩

/-! ## The end of a drain (R136, R164) -/

/-- A drained plot without its unreleased operations. -/
def Plot.drained (pl : Plot) : Plot :=
  { pl with outq := [], dmas := pl.dmas.filter (·.released), issues := pl.issues.filter (·.released) }

theorem exec_seqDrainDone (p : Nat) (s : State) : exec (.seqDrainDone p) s = execSeqDrainDone p s := rfl

theorem seqDrainDone_gives {s : State} {p : Nat} (live : Live s) (none : s.dev.sed.packs = [])
    (only : OnlyPlot p s.dev (seqDrainDone s.dev p)) : Gives (.seqDrainDone p) s (seqDrainDone s.dev p) := by
  rw [Gives, exec_seqDrainDone, execSeqDrainDone, onDev_live live]
  simp only [packRun_none (only.sed ▸ none), ite_self]

/-- An aborted plot that has drained is IDLE. -/
theorem seqDrainDone_aborted {d : Dev} {p : Nat} (stopping : (d.plot p).rg fPLOT_SEQ_STATUS_STATE = 3)
    (drained : issuedDrained (d.plot p) = true) (aborted : (d.plot p).abortPending = true) : seqDrainDone d p =
      d.setPlot p (clearMarks { (d.plot p).drained.rs fPLOT_SEQ_STATUS_STATE seqIDLE with abortPending := false }) := by
  have state : (d.plot p).seq = seqSTOPPING := stopping
  unfold seqDrainDone
  simp only [state, drained, aborted, decide_true, Bool.and_self, Bool.true_or, if_true]
  rfl

/-- A plot that has drained with nothing left to release is STOPPED. -/
theorem seqDrainDone_stopped {d : Dev} {p : Nat} (stopping : (d.plot p).rg fPLOT_SEQ_STATUS_STATE = 3)
    (drained : issuedDrained (d.plot p) = true) (kept : (d.plot p).abortPending = false) (empty : (d.plot p).outq = []) :
    seqDrainDone d p = plotIrq (d.setPlot p ((d.plot p).drained.rs fPLOT_SEQ_STATUS_STATE seqSTOPPED)) p 0 := by
  have state : (d.plot p).seq = seqSTOPPING := stopping
  have blocked : outBlocked d p (d.plot p) = true := by rw [outBlocked, empty]
  unfold seqDrainDone
  simp only [state, drained, blocked, decide_true, Bool.and_self, Bool.or_true, if_true]
  exact if_neg (by simp [kept])

theorem seqDrainDone_idle {s : State} {p : Nat} (live : Live s) (none : s.dev.sed.packs = [])
    (stopping : (s.dev.plot p).rg fPLOT_SEQ_STATUS_STATE = 3) (drained : issuedDrained (s.dev.plot p) = true)
    (aborted : (s.dev.plot p).abortPending = true) :
    Completes (.seqDrainDone p) s (fun t => OnlyPlot p s.dev t.dev ∧ (t.dev.plot p).rg fPLOT_SEQ_STATUS_STATE = 1 ∧
      (t.dev.plot p).outq = [] ∧ (t.dev.plot p).abortPending = false) := by
  have ends := seqDrainDone_aborted stopping drained aborted
  have only : OnlyPlot p s.dev (seqDrainDone s.dev p) := ends ▸ OnlyPlot.setPlot _ _ _
  refine (seqDrainDone_gives live none only).completes ⟨only, ?_⟩
  dsimp only
  rw [ends, Dev.plot_setPlot_same]
  exact ⟨Plot.rg_rs_same (s.dev.plot p).drained _ seqIDLE, rfl, rfl⟩

theorem seqDrainDone_stops {s : State} {p : Nat} (live : Live s) (none : s.dev.sed.packs = [])
    (stopping : (s.dev.plot p).rg fPLOT_SEQ_STATUS_STATE = 3) (drained : issuedDrained (s.dev.plot p) = true)
    (kept : (s.dev.plot p).abortPending = false) (empty : (s.dev.plot p).outq = []) :
    Completes (.seqDrainDone p) s (fun t => OnlyPlot p s.dev t.dev ∧ (t.dev.plot p).rg fPLOT_SEQ_STATUS_STATE = 4) := by
  have irq := IrqOnly.plotIrq (s.dev.setPlot p ((s.dev.plot p).drained.rs fPLOT_SEQ_STATUS_STATE seqSTOPPED)) p 0
  rw [← seqDrainDone_stopped stopping drained kept empty] at irq
  have only := (OnlyPlot.setPlot s.dev p _).trans irq.others
  refine (seqDrainDone_gives live none only).completes ⟨only, (irq.regs _ (.inl (by decide))).trans ?_⟩
  rw [Dev.plot_setPlot_same]
  exact Plot.rg_rs_same (s.dev.plot p).drained _ seqSTOPPED

/-- Settles O9: each command by the plot that it makes of an awake one. -/
theorem sequencerCommands : Obligations.SequencerCommands := by
  unfold Obligations.SequencerCommands
  intro s p live plot awake
  exact ⟨fun pc hpc idle => start_completes live plot awake hpc idle, fun stopped => replay_completes live plot awake stopped,
    fun running => abort_running live plot awake running, fun stopped => abort_stopped live plot awake stopped,
    fun still => clearFailed_completes live plot awake still, fun none stopping drained =>
      ⟨fun aborted => seqDrainDone_idle live none stopping drained aborted,
        fun kept empty => seqDrainDone_stops live none stopping drained kept empty⟩⟩

end Sys2Proof.Machine
end

section
/-! PROOFS. The three packets of a sow (R136, R166 to R169). -/

namespace Sys2Proof.Machine

/-! ## BEGIN (R136, R168) -/

theorem exec_sowBegin (p gen lib base count crc : Nat) (s : State) : exec (.sowBegin p gen lib base count crc) s =
    onDev s fun d => if isPlot p then sowBegin d p gen lib base count crc else d := rfl

/-- A plot at the begin of a sow. -/
def Plot.sowBegun (pl : Plot) (gen : Nat) : Plot :=
  (((pl.rs fPLOT_SEQ_STATUS_STATE seqUNSOWN).rs fPLOT_SOW_STATUS_GEN gen).rs fPLOT_SOW_STATUS_PACKETS 0).rs fPLOT_SOW_STATUS_STATE 1

theorem Plot.sowBegun_state (pl : Plot) (gen : Nat) : (pl.sowBegun gen).rg fPLOT_SEQ_STATUS_STATE = 0 := by
  rw [Plot.sowBegun, Plot.rg_rs_ne _ (by decide), Plot.rg_rs_ne _ (by decide), Plot.rg_rs_ne _ (by decide),
    Plot.rg_rs_same]
  rfl

theorem Plot.sowBegun_gen (pl : Plot) {gen : Nat} (hg : gen < 2 ^ fPLOT_SOW_STATUS_GEN.w) :
    (pl.sowBegun gen).rg fPLOT_SOW_STATUS_GEN = gen := by
  rw [Plot.sowBegun, Plot.rg_rs_ne _ (by decide), Plot.rg_rs_ne _ (by decide), Plot.rg_rs_same, Nat.mod_eq_of_lt hg]

theorem Plot.sowBegun_packets (pl : Plot) (gen : Nat) : (pl.sowBegun gen).rg fPLOT_SOW_STATUS_PACKETS = 0 := by
  rw [Plot.sowBegun, Plot.rg_rs_ne _ (by decide), Plot.rg_rs_same]
  rfl

theorem sowBegin_completes {s : State} {p gen base count : Nat} (live : Live s) (plot : isPlot p = true)
    (hg : gen < 2 ^ fPLOT_SOW_STATUS_GEN.w) (fits : base + count ≤ 8192)
    (quiet : (s.dev.plot p).rg fPLOT_SEQ_STATUS_STATE ≤ 1) (lib crc : Nat) :
    Completes (.sowBegin p gen lib base count crc) s (fun t => OnlyPlot p s.dev t.dev ∧
      (t.dev.plot p).rg fPLOT_SEQ_STATUS_STATE = 0 ∧ (t.dev.plot p).rg fPLOT_SOW_STATUS_STATE = 1 ∧
      (t.dev.plot p).rg fPLOT_SOW_STATUS_GEN = gen ∧ (t.dev.plot p).rg fPLOT_SOW_STATUS_PACKETS = 0) := by
  have idle : ¬ ((s.dev.plot p).seq = seqRUNNING ∨ (s.dev.plot p).seq = seqSTOPPING) := by
    unfold Plot.seq seqRUNNING seqSTOPPING
    omega
  have gives : Gives (.sowBegin p gen lib base count crc) s (sowBegin s.dev p gen lib base count crc) := by
    rw [Gives, exec_sowBegin, onDev_live live, if_pos plot]
  rw [sowBegin, if_neg idle, if_neg (Nat.not_lt.mpr fits)] at gives
  refine gives.completes ⟨OnlyPlot.setPlot _ _ _, ?_⟩
  rw [Dev.plot_setPlot_same]
  exact ⟨Plot.sowBegun_state _ gen, Plot.rg_rs_same _ _ 1, Plot.sowBegun_gen _ hg, Plot.sowBegun_packets _ gen⟩

/-! ## DATA (R168) -/

theorem exec_sowData (p gen seq : Nat) (words : List Nat) (s : State) : exec (.sowData p gen seq words) s =
    onDev s fun d => if isPlot p then sowData d p gen seq words else d := rfl

/-- A word stored in program memory while no flip is armed. -/
theorem pmStore_disarmed {pl : Plot} (h : pl.rg fPLOT_MEM_FLIP_ARM = 0) (i w : Nat) : pmStore pl i w =
    { pl with pm := SMap.set 0xFFFFFFFFFFFFFFFF pl.pm i (w % 2 ^ 64), pmErr := SMap.set 0 pl.pmErr i 0 } := by
  have unarmed (m e : SMap Nat) : flipArmed { pl with pm := m, pmErr := e } 1 = false := by
    have same : ({ pl with pm := m, pmErr := e } : Plot).rg fPLOT_MEM_FLIP_ARM = 0 := h
    simp [flipArmed, same]
  unfold pmStore
  simp only [unarmed, Bool.false_eq_true, if_false]

theorem fetchWord_congr {a b : Plot} {i : Nat} (pm : SMap.get 0xFFFFFFFFFFFFFFFF b.pm i = SMap.get 0xFFFFFFFFFFFFFFFF a.pm i)
    (err : SMap.get 0 b.pmErr i = SMap.get 0 a.pmErr i) : fetchWord b i = fetchWord a i := by
  simp only [fetchWord, pm, err]

/-- A word stored without error is fetched as it is. -/
theorem fetchWord_stored {pl : Plot} {i w : Nat} (pm : SMap.get 0xFFFFFFFFFFFFFFFF pl.pm i = w)
    (err : SMap.get 0 pl.pmErr i = 0) : fetchWord pl i = (w, 0) := by
  simp [fetchWord, pm, err, popCount_zero]

/-- The plot after the only word of a sow. -/
def sownWord (pl : Plot) (base w : Nat) (sow : Sow) : Plot :=
  { (pmStore pl base w).rs fPLOT_SOW_STATUS_PACKETS (satAdd 256 ((pmStore pl base w).rg fPLOT_SOW_STATUS_PACKETS) 1) with
    sow := some sow }

/-- The memory of a plot without an armed flip after the only word of a sow. -/
theorem sownWord_stores {pl : Plot} (disarmed : pl.rg fPLOT_MEM_FLIP_ARM = 0) (base w : Nat) (sow : Sow) :
    (sownWord pl base w sow).pm = SMap.set 0xFFFFFFFFFFFFFFFF pl.pm base (w % 2 ^ 64) ∧
      (sownWord pl base w sow).pmErr = SMap.set 0 pl.pmErr base 0 := by
  have stored := pmStore_disarmed disarmed base w
  exact ⟨congrArg Plot.pm stored, congrArg Plot.pmErr stored⟩

theorem sowData_word {d : Dev} {p gen lib base crc : Nat} (hb : base < 8192)
    (open_ : (d.plot p).sow = some ⟨gen, lib, base, 1, crc, 0, [], 0⟩) (w : Nat) :
    sowData d p gen 0 [w] = d.setPlot p (sownWord (d.plot p) base w ⟨gen, lib, base, 1, crc, 1, [w], 0⟩) := by
  have place : (base + 32 * 0 + 0) % 8192 = base := by omega
  have words : ([w].take 32).take (1 - 32 * 0) = [w] := rfl
  have numbered : (List.range [w].length).zip [w] = [(0, w)] := rfl
  unfold sowData
  simp only [open_, ne_eq, not_true_eq_false, if_false, if_true, words, numbered, List.foldl_cons, List.foldl_nil, place,
    List.nil_append, Nat.zero_add]
  rfl

theorem sowData_completes {s : State} {p gen lib base crc w : Nat} (live : Live s) (plot : isPlot p = true) (hw : w < 2 ^ 64)
    (hb : base < 8192) (open_ : (s.dev.plot p).sow = some ⟨gen, lib, base, 1, crc, 0, [], 0⟩)
    (disarmed : (s.dev.plot p).rg fPLOT_MEM_FLIP_ARM = 0) :
    Completes (.sowData p gen 0 [w]) s (fun t => OnlyPlot p s.dev t.dev ∧
      fetchWord (t.dev.plot p) base = (w, 0) ∧ (t.dev.plot p).sow = some ⟨gen, lib, base, 1, crc, 1, [w], 0⟩ ∧
      ∀ i, i ≠ base → fetchWord (t.dev.plot p) i = fetchWord (s.dev.plot p) i) := by
  have gives : Gives (.sowData p gen 0 [w]) s (sowData s.dev p gen 0 [w]) := by
    rw [Gives, exec_sowData, onDev_live live, if_pos plot]
  rw [sowData_word hb open_] at gives
  refine gives.completes ⟨OnlyPlot.setPlot _ _ _, ?_⟩
  rw [Dev.plot_setPlot_same]
  obtain ⟨pm, err⟩ := sownWord_stores disarmed base w ⟨gen, lib, base, 1, crc, 1, [w], 0⟩
  refine ⟨fetchWord_stored ?_ ?_, rfl, fun i hi => fetchWord_congr ?_ ?_⟩
  · rw [pm, SMap.get_set_same, Nat.mod_eq_of_lt hw]
  · rw [err, SMap.get_set_same]
  · rw [pm, SMap.get_set_ne _ _ _ hi]
  · rw [err, SMap.get_set_ne _ _ _ hi]

/-! ## END (R167 to R169) -/

theorem exec_sowEnd (p gen packets : Nat) (s : State) :
    exec (.sowEnd p gen packets) s = onDev s fun d => if isPlot p then sowEnd d p gen packets else d := rfl

theorem sowEnd_gives {s : State} {p : Nat} (live : Live s) (plot : isPlot p = true) (gen packets : Nat) :
    Gives (.sowEnd p gen packets) s (sowEnd s.dev p gen packets) := by
  rw [Gives, exec_sowEnd, onDev_live live, if_pos plot]

theorem crc64Byte_lt {c : Nat} (hc : c < 2 ^ 64) (b : Nat) : crc64Byte c b < 2 ^ 64 := by
  refine List.foldlRecOn (motive := fun c => c < 2 ^ 64) _ _ hc fun c _ i _ => ?_
  have shifted : c * 2 % 2 ^ 64 < 2 ^ 64 := Nat.mod_lt _ (by decide)
  dsimp only
  split
  · exact Nat.xor_lt_two_pow shifted (by decide)
  · exact shifted

/-- A CRC-64 has 64 bits. -/
theorem crc64_lt (bytes : List Byte) : crc64 0 bytes < 2 ^ 64 :=
  List.foldlRecOn (motive := fun c => c < 2 ^ 64) bytes _ (by decide) fun _ hc b _ => crc64Byte_lt hc b.toNat

/-- A plot whose sow has ended with a result. -/
def Plot.sowEnded (pl : Plot) (res crc : Nat) : Plot :=
  { (pl.rs fPLOT_SOW_STATUS_RESULT res).rs fPLOT_SOW_CRC_CRC crc with sow := none }

/-- A plot that holds the library of a sow without fault. -/
def Plot.sown (pl : Plot) (lib : Nat) : Plot :=
  (((pl.rs fPLOT_SOW_STATUS_STATE 2).rs fPLOT_SOW_LIB_LIB_ID lib).rs fPLOT_SEQ_STATUS_PM_CORR 0).rs fPLOT_SEQ_STATUS_STATE seqIDLE

theorem Plot.sown_fields (pl : Plot) (crc : Nat) {lib : Nat} (hl : lib < 2 ^ fPLOT_SOW_LIB_LIB_ID.w) :
    (((pl.sowEnded 0 crc).sown lib).rg fPLOT_SEQ_STATUS_STATE = 1) ∧
      (((pl.sowEnded 0 crc).sown lib).rg fPLOT_SOW_STATUS_STATE = 2) ∧
      (((pl.sowEnded 0 crc).sown lib).rg fPLOT_SOW_STATUS_RESULT = 0) ∧
      (((pl.sowEnded 0 crc).sown lib).rg fPLOT_SOW_LIB_LIB_ID = lib) := by
  have res : (pl.sowEnded 0 crc).rg fPLOT_SOW_STATUS_RESULT = 0 :=
    (Plot.rg_rs_ne (pl.rs fPLOT_SOW_STATUS_RESULT 0) (by decide) crc).trans (Plot.rg_rs_same _ _ 0)
  generalize pl.sowEnded 0 crc = b at res
  refine ⟨Plot.rg_rs_same _ _ 1, ?_, ?_, ?_⟩ <;> rw [Plot.sown, Plot.rg_rs_ne _ (by decide), Plot.rg_rs_ne _ (by decide)]
  · rw [Plot.rg_rs_ne _ (by decide), Plot.rg_rs_same]
    rfl
  · rw [Plot.rg_rs_ne _ (by decide), Plot.rg_rs_ne _ (by decide), res]
  · rw [Plot.rg_rs_same, Nat.mod_eq_of_lt hl]

/-- A sow of one packet whose CRC agrees: but for the round of the device's sows, only the plot changes. -/
theorem sowEnd_agrees {d : Dev} {p gen lib base count : Nat} {ws : List Nat} (some_ : 0 < count) (hc : count ≤ 32)
    (open_ : (d.plot p).sow = some ⟨gen, lib, base, count, crc64 0 (ws.flatMap (leBytes 8)), 1, ws, 0⟩)
    (packets : (d.plot p).rg fPLOT_SOW_STATUS_PACKETS = 1) : { sowEnd d p gen 1 with sowRound := d.sowRound } =
      d.setPlot p (((d.plot p).sowEnded 0 (crc64 0 (ws.flatMap (leBytes 8)))).sown lib) := by
  have one : 1 = (count + 31) / 32 := by omega
  have crc : crc64 0 (ws.flatMap (leBytes 8)) % 2 ^ 64 = crc64 0 (ws.flatMap (leBytes 8)) := Nat.mod_eq_of_lt (crc64_lt _)
  unfold sowEnd
  simp only [open_, packets, crc, ← one, ne_eq, not_true_eq_false, if_false, and_self, if_true]
  rfl

/-- A sow without fault on its way whose CRC differs. -/
theorem sowEnd_differs {d : Dev} {p gen lib base count crc : Nat} {ws : List Nat} (hc : crc < 2 ^ 64)
    (differs : crc64 0 (ws.flatMap (leBytes 8)) ≠ crc) (open_ : (d.plot p).sow = some ⟨gen, lib, base, count, crc, 1, ws, 0⟩) :
    sowEnd d p gen 1 = recordPlot (d.setPlot p (((d.plot p).sowEnded 0x0C38 (crc64 0 (ws.flatMap (leBytes 8)))).rs
      fPLOT_SOW_STATUS_STATE 3)) p 0x0C38 := by
  unfold sowEnd
  simp only [open_, Nat.mod_eq_of_lt hc, differs, and_false, ne_eq, not_true_eq_false, if_false,
    show ¬ 0x0C38 = 0 by decide]
  rfl

theorem sowEnd_sown {s : State} {p gen lib base count : Nat} {ws : List Nat} (live : Live s) (plot : isPlot p = true)
    (some_ : 0 < count) (hc : count ≤ 32) (hl : lib < 2 ^ fPLOT_SOW_LIB_LIB_ID.w)
    (open_ : (s.dev.plot p).sow = some ⟨gen, lib, base, count, crc64 0 (ws.flatMap (leBytes 8)), 1, ws, 0⟩)
    (packets : (s.dev.plot p).rg fPLOT_SOW_STATUS_PACKETS = 1) :
    Completes (.sowEnd p gen 1) s (fun t => (t.dev.plot p).rg fPLOT_SEQ_STATUS_STATE = 1 ∧
      (t.dev.plot p).rg fPLOT_SOW_STATUS_STATE = 2 ∧ (t.dev.plot p).rg fPLOT_SOW_STATUS_RESULT = 0 ∧
      (t.dev.plot p).rg fPLOT_SOW_LIB_LIB_ID = lib ∧ (t.dev.plot p).sow = none ∧ SameStores s.dev t.dev) := by
  have ends := sowEnd_agrees some_ hc open_ packets
  have held : (sowEnd s.dev p gen 1).plot p =
      ((s.dev.plot p).sowEnded 0 (crc64 0 (ws.flatMap (leBytes 8)))).sown lib :=
    (congrArg (·.plot p) ends).trans (Dev.plot_setPlot_same _ _ _)
  have stores : SameStores s.dev { sowEnd s.dev p gen 1 with sowRound := s.dev.sowRound } := by
    rw [ends]
    exact ⟨rfl, rfl, rfl, rfl, rfl⟩
  obtain ⟨state, sow, res, library⟩ := Plot.sown_fields (s.dev.plot p) (crc64 0 (ws.flatMap (leBytes 8))) hl
  refine (sowEnd_gives live plot gen 1).completes ?_
  rw [held]
  exact ⟨state, sow, res, library, rfl, stores⟩

theorem sowEnd_failed {s : State} {p gen lib base count crc : Nat} {ws : List Nat} (live : Live s) (plot : isPlot p = true)
    (hc : crc < 2 ^ 64) (differs : crc64 0 (ws.flatMap (leBytes 8)) ≠ crc)
    (open_ : (s.dev.plot p).sow = some ⟨gen, lib, base, count, crc, 1, ws, 0⟩)
    (unsown : (s.dev.plot p).rg fPLOT_SEQ_STATUS_STATE = 0) :
    Completes (.sowEnd p gen 1) s (fun t => (t.dev.plot p).rg fPLOT_SEQ_STATUS_STATE = 0 ∧
      (t.dev.plot p).rg fPLOT_SOW_STATUS_STATE = 3 ∧ (t.dev.plot p).rg fPLOT_SOW_STATUS_RESULT = 0x0C38) := by
  have gives := sowEnd_gives live plot gen 1
  rw [sowEnd_differs hc differs open_] at gives
  refine gives.completes ?_
  have state : ((s.dev.plot p).sowEnded 0x0C38 (crc64 0 (ws.flatMap (leBytes 8)))).rg fPLOT_SEQ_STATUS_STATE = 0 :=
    (Plot.rg_rs_ne ((s.dev.plot p).rs fPLOT_SOW_STATUS_RESULT 0x0C38) (by decide) _).trans
      ((Plot.rg_rs_ne _ (by decide) _).trans unsown)
  have res : ((s.dev.plot p).sowEnded 0x0C38 (crc64 0 (ws.flatMap (leBytes 8)))).rg fPLOT_SOW_STATUS_RESULT = 0x0C38 :=
    (Plot.rg_rs_ne ((s.dev.plot p).rs fPLOT_SOW_STATUS_RESULT 0x0C38) (by decide) _).trans (Plot.rg_rs_same _ _ _)
  dsimp only [recordPlot]
  rw [recordErr_plot_rg _ _ _ _ _ _ (.inl (by decide)), recordErr_plot_rg _ _ _ _ _ _ (.inl (by decide)),
    recordErr_plot_rg _ _ _ _ _ _ (.inl (by decide)), Dev.plot_setPlot_same]
  refine ⟨?_, Plot.rg_rs_same _ _ 3, ?_⟩
  · rw [Plot.rg_rs_ne _ (by decide), state]
  · rw [Plot.rg_rs_ne _ (by decide), res]

/-- Settles O11: the three packets of a sow, by what each does to its plot. -/
theorem sowing : Obligations.Sowing := by
  intro s p gen lib base count crc live plot hg
  exact ⟨fun fits quiet => sowBegin_completes live plot hg fits quiet lib crc,
    fun w hw hb open_ disarmed => sowData_completes live plot hw hb open_ disarmed,
    fun ws _ some_ hc hl open_ packets => sowEnd_sown live plot some_ hc hl open_ packets,
    fun ws hc differs open_ unsown => sowEnd_failed live plot hc differs open_ unsown⟩

end Sys2Proof.Machine
end

section
/-! PROOFS. The way of an issue through a channel: TISSUE, the modes of a bed channel, and completion (R178 to R186). -/

namespace Sys2Proof.Machine

/-! ## A fold over a block's first members -/

/-- A fold whose step for `j` makes anew what is seen at `j` and leaves alone what is seen elsewhere: at each place of the
range, what the fold leaves is made from what was there. -/
theorem foldl_range_view {σ γ : Type} {n : Nat} {step : σ → Nat → σ} {view : σ → Nat → γ} {Q : σ → Prop}
    {P : Nat → γ → Prop} {new : Nat → γ → γ}
    (h : ∀ a j, j < n → Q a → P j (view a j) → Q (step a j) ∧ view (step a j) j = new j (view a j) ∧
      ∀ k, k < n → k ≠ j → view (step a j) k = view a k)
    {a : σ} (hq : Q a) (hp : ∀ k, k < n → P k (view a k)) :
    Q ((List.range n).foldl step a) ∧ ∀ k, k < n → view ((List.range n).foldl step a) k = new k (view a k) := by
  have upto (m : Nat) (hm : m ≤ n) : Q ((List.range m).foldl step a) ∧ ∀ k, k < n →
      view ((List.range m).foldl step a) k = if k < m then new k (view a k) else view a k := by
    induction m with
    | zero => exact ⟨hq, fun k _ => rfl⟩
    | succ m ih =>
      obtain ⟨kept, seen⟩ := ih (by omega)
      have here : view ((List.range m).foldl step a) m = view a m := by rw [seen m hm, if_neg (Nat.lt_irrefl m)]
      obtain ⟨kept', own, other⟩ := h _ m hm kept (here ▸ hp m hm)
      rw [List.range_succ, List.foldl_append, List.foldl_cons, List.foldl_nil]
      refine ⟨kept', fun k hk => ?_⟩
      by_cases last : k = m
      · rw [last, own, here, if_pos (Nat.lt_succ_self m)]
      · rw [other k hk last, seen k hk]
        simp only [show k < m + 1 ↔ k < m by omega]
  obtain ⟨kept, seen⟩ := upto n le_rfl
  exact ⟨kept, fun k hk => by rw [seen k hk, if_pos hk]⟩

/-! ## Plots of which some registers have changed -/

theorem OnlyPlotRegs.refl (fs : List Fld) (a : Plot) : OnlyPlotRegs fs a a := ⟨rfl, fun _ _ => rfl⟩

theorem OnlyPlotRegs.chan {fs : List Fld} {a b : Plot} (h : OnlyPlotRegs fs a b) (ch : Nat) : b.chan ch = a.chan ch := by
  have same : b.channels = a.channels := by rw [h.1]
  rw [Plot.chan, Plot.chan, same]

theorem OnlyPlotRegs.trans {fs : List Fld} {a b c : Plot} (h : OnlyPlotRegs fs a b) (k : OnlyPlotRegs fs b c) :
    OnlyPlotRegs fs a c := by
  obtain ⟨only, others⟩ := h
  obtain ⟨only', others'⟩ := k
  refine ⟨?_, fun g hg => (others' g hg).trans (others g hg)⟩
  rw [only', only]

theorem OnlyPlotRegs.rs_of_mem {fs : List Fld} {f : Fld} (hf : f ∈ fs) (a : Plot) (v : Nat) : OnlyPlotRegs fs a (a.rs f v) :=
  ⟨rfl, fun _ hg => Plot.rg_rs_ne a (fun e => hg (by rw [e]; exact List.mem_map_of_mem hf)) v⟩

theorem OnlyPlotRegs.foldl {α : Type} {fs : List Fld} {l : List α} {f : Plot → α → Plot}
    (h : ∀ b, ∀ x ∈ l, OnlyPlotRegs fs b (f b x)) (a : Plot) : OnlyPlotRegs fs a (l.foldl f a) :=
  List.foldlRecOn (motive := OnlyPlotRegs fs a) l f (OnlyPlotRegs.refl fs a) fun b hb x hx => hb.trans (h b x hx)

/-- The states of the four tines of a channel. -/
def tineStates (ch : Nat) : List Fld := (List.range 4).map fun k => fBED_TINE_STATUS_STATE.bit (4 * ch + k)

theorem mem_tineStates {ch k : Nat} (hk : k ∈ List.range 4) : fBED_TINE_STATUS_STATE.bit (4 * ch + k) ∈ tineStates ch :=
  List.mem_map_of_mem hk

theorem chMode_not_tineStates (c : Nat) {ch : Nat} (hc : ch < 4) :
    (fBED_CH_STATUS_MODE.at c).key ∉ (tineStates ch).map Fld.key := by
  simp only [tineStates, List.map_map, List.mem_map, List.mem_range, not_exists, not_and, Function.comp_apply]
  intro k hk
  simp only [Fld.at, Fld.bit, Fld.key, fBED_CH_STATUS_MODE, fBED_TINE_STATUS_STATE]
  omega

/-! ## The mode of a channel -/

theorem Plot.chMode_setMode_same (pl : Plot) (ch m : Nat) : (pl.setMode ch m).chMode ch = m % 8 := Plot.rg_rs_same _ _ _

theorem chMode_key_ne {c ch : Nat} (h : c ≠ ch) : (fBED_CH_STATUS_MODE.at c).key ≠ (fBED_CH_STATUS_MODE.at ch).key := by
  simp only [Fld.at, Fld.key, fBED_CH_STATUS_MODE]
  omega

theorem Plot.chMode_setMode_ne (pl : Plot) {c ch : Nat} (h : c ≠ ch) (m : Nat) : (pl.setMode ch m).chMode c = pl.chMode c :=
  Plot.rg_rs_ne _ (chMode_key_ne h) _

/-! ## TISSUE (R185) -/

/-- The modes of the four channels. -/
def chModes : List Fld := (List.range 4).map fun c => fBED_CH_STATUS_MODE.at c

/-- An issue reaches one channel, if it names it. -/
def Plot.reached (id m : Nat) (pl : Plot) (ch : Nat) : Plot :=
  if bitOf m ch then
    if pl.chMode ch = 0 then (pl.setChan ch { pl.chan ch with queue := (pl.chan ch).queue ++ [id] }).setMode ch 1
    else pl.setChan ch { pl.chan ch with queue := (pl.chan ch).queue ++ [id] }
  else pl

theorem issueArrives_eq (pl : Plot) (id m : Nat) : issueArrives pl id m = (List.range 4).foldl (Plot.reached id m) pl := rfl

/-- The plots differ in their channels and in the channels' modes at most. -/
def OnlyChannels (a b : Plot) : Prop :=
  b = { a with regs := b.regs, channels := b.channels } ∧ ∀ g : Fld, g.key ∉ chModes.map Fld.key → b.rg g = a.rg g

theorem OnlyChannels.setChan {a b : Plot} (h : OnlyChannels a b) (ch : Nat) (c : Channel) : OnlyChannels a (b.setChan ch c) := by
  obtain ⟨only, others⟩ := h
  exact ⟨by rw [only]; rfl, others⟩

theorem OnlyChannels.setMode {a b : Plot} (h : OnlyChannels a b) {ch : Nat} (hc : ch < 4) (m : Nat) :
    OnlyChannels a (b.setMode ch m) := by
  obtain ⟨only, others⟩ := h
  have named : fBED_CH_STATUS_MODE.at ch ∈ chModes := List.mem_map_of_mem (List.mem_range.mpr hc)
  refine ⟨by rw [only]; rfl, fun g hg => (Plot.rg_rs_ne _ ?_ m).trans (others g hg)⟩
  exact fun e => hg (e ▸ List.mem_map_of_mem named)

/-- What an issue makes of a channel and its mode. -/
def reachedView (id m c : Nat) (v : Channel × Nat) : Channel × Nat :=
  if bitOf m c then ({ v.1 with queue := v.1.queue ++ [id] }, if v.2 = 0 then 1 else v.2) else v

theorem Plot.reached_view (id m : Nat) (a b : Plot) (ch : Nat) (hc : ch < 4) (h : OnlyChannels a b) :
    OnlyChannels a (b.reached id m ch) ∧
      ((b.reached id m ch).chan ch, (b.reached id m ch).chMode ch) = reachedView id m ch (b.chan ch, b.chMode ch) ∧
      ∀ k, k < 4 → k ≠ ch → ((b.reached id m ch).chan k, (b.reached id m ch).chMode k) = (b.chan k, b.chMode k) := by
  unfold Plot.reached reachedView
  by_cases named : bitOf m ch = true
  · by_cases memory : b.chMode ch = 0
    · simp only [named, memory, if_true]
      refine ⟨(h.setChan ch _).setMode hc 1, ?_, fun k _ ne => ?_⟩
      · rw [Plot.chMode_setMode_same]
        exact congrArg (·, 1) (Plot.chan_setChan_same _ _ _)
      · rw [Plot.chMode_setMode_ne _ ne]
        exact congrArg (·, b.chMode k) (Plot.chan_setChan_ne _ ne _)
    · simp only [named, memory, if_true, if_false]
      refine ⟨h.setChan ch _, congrArg (·, b.chMode ch) (Plot.chan_setChan_same _ _ _), fun k _ ne => ?_⟩
      exact congrArg (·, b.chMode k) (Plot.chan_setChan_ne _ ne _)
  · simp only [named]
    exact ⟨h, rfl, fun _ _ _ => rfl⟩

theorem issueArrives_view (pl : Plot) (id m : Nat) : OnlyChannels pl (issueArrives pl id m) ∧ ∀ k, k < 4 →
    ((issueArrives pl id m).chan k, (issueArrives pl id m).chMode k) = reachedView id m k (pl.chan k, pl.chMode k) := by
  rw [issueArrives_eq]
  exact foldl_range_view (view := fun b k => (b.chan k, b.chMode k)) (Q := OnlyChannels pl) (P := fun _ _ => True)
    (new := reachedView id m) (fun b j hj h _ => Plot.reached_view id m pl b j hj h) ⟨rfl, fun _ _ => rfl⟩ fun _ _ => trivial

theorem exec_tissue (p : Nat) (s : State) :
    exec (.tissue p) s = onDev s fun d => issueWord d p (isOp 0x24) false fun d pc w => tissueRun d p pc w := rfl

theorem tissue_fields {m a e w : Nat} (hm : m < 16) (ha : a < 64) (he : e < 2 ^ 14)
    (hw : 0x24 * 2 ^ 58 + m * 2 ^ 54 + a * 2 ^ 48 + e * 2 ^ 34 = w) :
    w / 2 ^ 58 = 0x24 ∧ bitsOf w 54 4 = m ∧ bitsOf w 48 6 = a ∧ bitsOf w 34 14 = e ∧ bitOf w 33 = false ∧
      bitOf w 24 = false ∧ bitsOf w 0 24 = 0 := by
  unfold bitsOf bitOf
  simp only [beq_eq_false_iff_ne]
  omega

/-- A plot with one more issue. -/
def Plot.issued (pl : Plot) (i : Issue) : Plot := { pl with nextIssue := pl.nextIssue + 1, issues := pl.issues ++ [i] }

/-- A TISSUE that names a channel and neither writes outbound nor advances a counter. -/
theorem tissueRun_queues {d : Dev} {p pc m a e w : Nat} (some_ : 0 < m) (chans : bitsOf w 54 4 = m) (arg : bitsOf w 48 6 = a)
    (entry : bitsOf w 34 14 = e) (out : bitOf w 33 = false) (counter : bitOf w 24 = false) (rest : bitsOf w 0 24 = 0) :
    tissueRun d p pc w = .done (d.setPlot p (issueArrives
      ((d.plot p).issued ⟨(d.plot p).nextIssue, pc, m, a, e, false, none, true, [], 0, false⟩) (d.plot p).nextIssue m)) := by
  unfold tissueRun
  simp only [chans, arg, entry, out, counter, rest, ne_eq, not_true_eq_false, if_false, Nat.ne_of_gt some_,
    Bool.false_eq_true, Bool.not_false]
  rfl

theorem tissue_completes {s : State} {p m a e w : Nat} (live : Live s) (some_ : 0 < m) (hm : m < 16) (ha : a < 64)
    (he : e < 2 ^ 14) (hw : 0x24 * 2 ^ 58 + m * 2 ^ 54 + a * 2 ^ 48 + e * 2 ^ 34 = w) (h : Issues s.dev p w) :
    Completes (.tissue p) s (fun t => Ran p chModes s t ∧ WentOn (s.dev.plot p) (t.dev.plot p) ∧
      (t.dev.plot p).issues = (s.dev.plot p).issues ++
        [⟨(s.dev.plot p).nextIssue, (s.dev.plot p).pc, m, a, e, false, none, true, [], 0, false⟩] ∧
      ∀ c, c < 4 → ((t.dev.plot p).chan c, (t.dev.plot p).chMode c) =
        reachedView (s.dev.plot p).nextIssue m c ((s.dev.plot p).chan c, (s.dev.plot p).chMode c)) := by
  obtain ⟨op, chans, arg, entry, out, counter, rest⟩ := tissue_fields hm ha he hw
  have gives := issue_gives live (exec_tissue p s) h op (wordLegal_of_op op (by decide)) (decide_eq_true op)
    (tissueRun_queues some_ chans arg entry out counter rest)
  obtain ⟨⟨only, others⟩, seen⟩ := issueArrives_view ((s.dev.plot p).issued
    ⟨(s.dev.plot p).nextIssue, (s.dev.plot p).pc, m, a, e, false, none, true, [], 0, false⟩) (s.dev.plot p).nextIssue m
  generalize issueArrives _ _ _ = b at gives only others seen
  have loops : b.loops = (s.dev.plot p).loops := by rw [only]; rfl
  refine gives.completes ⟨ran_goneOn_plain rfl (OnlyPlot.setPlot _ _ _) fun g hg => ?_, ?_⟩
  · rw [Dev.plot_setPlot_same]
    exact others g fun named => hg (by rw [List.map_append]; exact List.mem_append_left _ named)
  · simp only [Dev.goneOn_plot_same, Dev.plot_setPlot_same]
    refine ⟨wentOn_advance loops _, ?_, fun c hc => ?_⟩
    · rw [countIssue_advance_only, only]
      rfl
    · have pcKey : (fBED_CH_STATUS_MODE.at c).key ≠ fPLOT_SEQ_STATUS_PC.key := by
        simp only [Fld.at, Fld.key, fBED_CH_STATUS_MODE, fPLOT_SEQ_STATUS_PC]; omega
      have countKey : (fBED_CH_STATUS_MODE.at c).key ≠ (fPLOT_UNIT_ICNT_COUNT.at 3).key := by
        simp only [Fld.at, Fld.key, fBED_CH_STATUS_MODE, fPLOT_UNIT_ICNT_COUNT]; omega
      have mode : (advance (countIssue b 0x24) (s.dev.plot p).pc).chMode c = b.chMode c := by
        rw [Plot.chMode, advance_rg _ _ pcKey, countIssue_plain rfl]
        exact Plot.rg_rs_ne _ countKey _
      have chan : (advance (countIssue b 0x24) (s.dev.plot p).pc).chan c = b.chan c := by
        rw [countIssue_advance_only]
        rfl
      rw [mode, chan]
      exact seen c hc

/-! ## The ends of a batch and of its pause (R178) -/

theorem exec_batchLimitExpiry (p ch : Nat) (s : State) : exec (.batchLimitExpiry p ch) s = onDev s fun d =>
    if isPlot p && ch < 4 && (d.plot p).chMode ch = chTINE then
      d.setPlot p (if ((d.plot p).chan ch).hold.isEmpty
        then (d.plot p).setChan ch { (d.plot p).chan ch with batchOver := true }
        else preempt ((d.plot p).setChan ch { (d.plot p).chan ch with batchOver := true }) ch)
    else d := rfl

/-- The tines of a channel that run are paused. -/
def Plot.pauseTines (pl : Plot) (ch : Nat) : Plot :=
  (List.range 4).foldl (fun pl k =>
    if pl.rg (fBED_TINE_STATUS_STATE.bit (4 * ch + k)) = 1 then pl.rs (fBED_TINE_STATUS_STATE.bit (4 * ch + k)) 2 else pl) pl

theorem Plot.pauseTines_only (pl : Plot) (ch : Nat) : OnlyPlotRegs (tineStates ch) pl (pl.pauseTines ch) :=
  OnlyPlotRegs.foldl (fun b k hk => by
    split
    · exact OnlyPlotRegs.rs_of_mem (mem_tineStates hk) b 2
    · exact OnlyPlotRegs.refl _ b) pl

theorem tineState_key_ne {j k : Nat} (h : k ≠ j) :
    (fBED_TINE_STATUS_STATE.bit k).key ≠ (fBED_TINE_STATUS_STATE.bit j).key := by
  simp only [Fld.bit, Fld.key, fBED_TINE_STATUS_STATE]
  omega

/-- A state of 1 made 2. -/
theorem Plot.rg_rs_if (pl : Plot) {f : Fld} (hf : f.w = 2) :
    (if pl.rg f = 1 then pl.rs f 2 else pl).rg f = if pl.rg f = 1 then 2 else pl.rg f := by
  split
  · rw [Plot.rg_rs_same, hf]
    rfl
  · rfl

theorem Plot.pauseTines_state (pl : Plot) (ch : Nat) {k : Nat} (hk : k < 4) :
    (pl.pauseTines ch).rg (fBED_TINE_STATUS_STATE.bit (4 * ch + k)) ≠ 1 := by
  have paused := (foldl_range_view (n := 4) (view := fun (b : Plot) k => b.rg (fBED_TINE_STATUS_STATE.bit (4 * ch + k)))
    (step := fun pl k => if pl.rg (fBED_TINE_STATUS_STATE.bit (4 * ch + k)) = 1
      then pl.rs (fBED_TINE_STATUS_STATE.bit (4 * ch + k)) 2 else pl)
    (Q := fun _ => True) (P := fun _ _ => True) (new := fun _ v => if v = 1 then 2 else v) (a := pl)
    (fun b j _ _ _ => ⟨trivial, Plot.rg_rs_if b rfl, fun k _ ne => by
      split
      · exact Plot.rg_rs_ne _ (tineState_key_ne (by omega)) 2
      · rfl⟩) trivial fun _ _ => trivial).2 k hk
  rw [Plot.pauseTines, paused]
  split <;> omega

theorem preempt_eq (pl : Plot) (ch : Nat) : preempt pl ch =
    (((pl.setMode ch chTO_MEMORY).count (fBED_CH_CNT_PREEMPTS.at ch) 1).setChan ch
      { pl.chan ch with suspended := true, heldAtPause := (pl.chan ch).hold.length }).pauseTines ch := rfl

theorem preempt_gives (pl : Plot) {ch : Nat} (hc : ch < 4) : (preempt pl ch).chMode ch = 3 ∧
    (preempt pl ch).chan ch = { pl.chan ch with suspended := true, heldAtPause := (pl.chan ch).hold.length } ∧
    ∀ k, k < 4 → (preempt pl ch).rg (fBED_TINE_STATUS_STATE.bit (4 * ch + k)) ≠ 1 := by
  have countKey : (fBED_CH_STATUS_MODE.at ch).key ≠ (fBED_CH_CNT_PREEMPTS.at ch).key := by
    simp only [Fld.at, Fld.key, fBED_CH_STATUS_MODE, fBED_CH_CNT_PREEMPTS]; omega
  have marked : ((pl.setMode ch chTO_MEMORY).count (fBED_CH_CNT_PREEMPTS.at ch) 1).chMode ch = 3 :=
    (Plot.rg_rs_ne (pl.setMode ch chTO_MEMORY) countKey _).trans (Plot.rg_rs_same _ _ 3)
  rw [preempt_eq]
  generalize (pl.setMode ch chTO_MEMORY).count (fBED_CH_CNT_PREEMPTS.at ch) 1 = a at marked
  have paused := Plot.pauseTines_only (a.setChan ch
    { pl.chan ch with suspended := true, heldAtPause := (pl.chan ch).hold.length }) ch
  refine ⟨(paused.2 _ (chMode_not_tineStates ch hc)).trans marked, ?_, fun k hk => Plot.pauseTines_state _ ch hk⟩
  rw [paused.chan, Plot.chan_setChan_same]

theorem batchLimitExpiry_completes {s : State} {p ch : Nat} (live : Live s) (plot : isPlot p = true) (hc : ch < 4)
    (tine : (s.dev.plot p).chMode ch = 2) : Completes (.batchLimitExpiry p ch) s (fun t => OnlyPlot p s.dev t.dev ∧
      ((t.dev.plot p).chan ch).batchOver = true ∧ ((t.dev.plot p).chan ch).hold = ((s.dev.plot p).chan ch).hold ∧
      (((s.dev.plot p).chan ch).hold = [] → (t.dev.plot p).regs = (s.dev.plot p).regs) ∧
      (((s.dev.plot p).chan ch).hold ≠ [] → (t.dev.plot p).chMode ch = 3 ∧ ((t.dev.plot p).chan ch).suspended = true ∧
        ((t.dev.plot p).chan ch).heldAtPause = ((s.dev.plot p).chan ch).hold.length ∧
        ∀ k, k < 4 → (t.dev.plot p).rg (fBED_TINE_STATUS_STATE.bit (4 * ch + k)) ≠ 1)) := by
  have gives := exec_batchLimitExpiry p ch s
  rw [onDev_live live, if_pos (by simp [plot, hc, tine, chTINE])] at gives
  refine Gives.completes gives ⟨OnlyPlot.setPlot _ _ _, ?_⟩
  simp only [Dev.plot_setPlot_same]
  by_cases empty : ((s.dev.plot p).chan ch).hold = []
  · rw [if_pos (List.isEmpty_iff.mpr empty), Plot.chan_setChan_same]
    exact ⟨rfl, rfl, fun _ => rfl, fun some_ => absurd empty some_⟩
  · obtain ⟨mode, chan, tines⟩ := preempt_gives ((s.dev.plot p).setChan ch { (s.dev.plot p).chan ch with batchOver := true }) hc
    rw [Plot.chan_setChan_same] at chan
    rw [if_neg (fun e => empty (List.isEmpty_iff.mp e)), chan]
    exact ⟨rfl, rfl, fun none => absurd none empty, fun _ => ⟨mode, rfl, rfl, tines⟩⟩

theorem exec_channelToMemoryDone (p ch : Nat) (s : State) : exec (.channelToMemoryDone p ch) s =
    onDev s fun d => if isPlot p && ch < 4 then channelToMemoryDone d p ch else d := rfl

/-- A change of mode as the whole of a command's effect. -/
theorem setMode_completes {c : Instr} {s : State} {d : Dev} {p ch m : Nat} (hm : m < 8) (only : OnlyPlot p s.dev d)
    (moved : d.plot p = (s.dev.plot p).setMode ch m) (gives : Gives c s d) : Completes c s (fun t => OnlyPlot p s.dev t.dev ∧
      OnlyPlotRegs [fBED_CH_STATUS_MODE.at ch] (s.dev.plot p) (t.dev.plot p) ∧ (t.dev.plot p).chMode ch = m) := by
  refine gives.completes ⟨only, ?_⟩
  rw [moved]
  exact ⟨OnlyPlotRegs.rs _ _ _, (Plot.chMode_setMode_same _ ch m).trans (Nat.mod_eq_of_lt hm)⟩

theorem channelToMemoryDone_suspended {s : State} {p ch : Nat} (live : Live s) (plot : isPlot p = true) (hc : ch < 4)
    (mode : (s.dev.plot p).chMode ch = 3) (suspended : ((s.dev.plot p).chan ch).suspended = true) :
    Gives (.channelToMemoryDone p ch) s (s.dev.setPlot p ((s.dev.plot p).setMode ch 4)) := by
  rw [Gives, exec_channelToMemoryDone, onDev_live live, if_pos (by simp [plot, hc]), channelToMemoryDone]
  simp only [mode, suspended, chTO_MEMORY, ne_eq, not_true_eq_false, if_false, if_true]
  rfl

theorem channelToMemoryDone_finished {s : State} {p ch : Nat} (live : Live s) (plot : isPlot p = true) (hc : ch < 4)
    (mode : (s.dev.plot p).chMode ch = 3) (suspended : ((s.dev.plot p).chan ch).suspended = false)
    (hold : ((s.dev.plot p).chan ch).hold = []) (router : ((s.dev.plot p).chan ch).router = [])
    (queue : ((s.dev.plot p).chan ch).queue = []) :
    Gives (.channelToMemoryDone p ch) s
      ((s.dev.setPlot p ((s.dev.plot p).setMode ch 0)).setPlot p ((s.dev.plot p).setMode ch 0)) := by
  have queue' : (((s.dev.plot p).setMode ch 0).chan ch).queue = [] := queue
  rw [Gives, exec_channelToMemoryDone, onDev_live live, if_pos (by simp [plot, hc]), channelToMemoryDone]
  simp only [mode, suspended, hold, router, chTO_MEMORY, chMEMORY, ne_eq, not_true_eq_false, if_false, Bool.false_eq_true,
    List.length_nil, Nat.add_zero, holdServe, Dev.modPlot, Dev.plot_setPlot_same, queue', List.isEmpty_nil, if_true]

end Sys2Proof.Machine
end

section
/-! PROOFS. The start of an issue, the service of held reads, and completion (R178 to R186). -/

namespace Sys2Proof.Machine

@[simp] theorem Plot.rg_setChan (pl : Plot) (ch : Nat) (c : Channel) (g : Fld) : (pl.setChan ch c).rg g = pl.rg g := rfl

theorem Plot.chMode_setChan (pl : Plot) (ch k : Nat) (c : Channel) : (pl.setChan ch c).chMode k = pl.chMode k := rfl

theorem Plot.chan_setMode (pl : Plot) (ch m k : Nat) : (pl.setMode ch m).chan k = pl.chan k := rfl

theorem OnlyPlotRegs.setChan {fs : List Fld} {a b : Plot} (h : OnlyPlotRegs fs a b) (ch : Nat) (c : Channel) :
    b.setChan ch c = { a with regs := b.regs, channels := (b.setChan ch c).channels } := by
  rw [h.1]
  rfl

/-! ## CHANNEL_TO_TINE_DONE (R178, R185) -/

theorem exec_channelToTineDone (p ch : Nat) (s : State) : exec (.channelToTineDone p ch) s =
    onDev s fun d => if isPlot p && ch < 4 then channelToTineDone d p ch else d := rfl

/-- The owed counts of the eight banks of a channel. -/
def owedCounts (ch : Nat) : List Fld := (List.range 8).map fun b => (fBED_CH_OWED_OWED.at ch).bit b

/-- Each bank of a channel that owes a refresh has performed one. -/
def Plot.refreshed (pl : Plot) (ch : Nat) : Plot :=
  (List.range 8).foldl (fun pl b =>
    pl.rs ((fBED_CH_OWED_OWED.at ch).bit b) (pl.rg ((fBED_CH_OWED_OWED.at ch).bit b) - 1)) pl

theorem Plot.refreshed_only (pl : Plot) (ch : Nat) : OnlyPlotRegs (owedCounts ch) pl (pl.refreshed ch) :=
  OnlyPlotRegs.foldl (fun b _ hx => OnlyPlotRegs.rs_of_mem (List.mem_map_of_mem hx) b _) pl

theorem Plot.refreshed_owed (pl : Plot) (ch : Nat)
    (few : ∀ b, b < 8 → pl.rg ((fBED_CH_OWED_OWED.at ch).bit b) ≤ 4) {b : Nat} (hb : b < 8) :
    (pl.refreshed ch).rg ((fBED_CH_OWED_OWED.at ch).bit b) = pl.rg ((fBED_CH_OWED_OWED.at ch).bit b) - 1 := by
  have key {j k : Nat} (ne : k ≠ j) : ((fBED_CH_OWED_OWED.at ch).bit k).key ≠ ((fBED_CH_OWED_OWED.at ch).bit j).key := by
    simp only [Fld.at, Fld.bit, Fld.key, fBED_CH_OWED_OWED]
    omega
  exact (foldl_range_view (n := 8) (view := fun (a : Plot) k => a.rg ((fBED_CH_OWED_OWED.at ch).bit k))
    (step := fun pl b => pl.rs ((fBED_CH_OWED_OWED.at ch).bit b) (pl.rg ((fBED_CH_OWED_OWED.at ch).bit b) - 1))
    (Q := fun _ => True) (P := fun _ v => v ≤ 4) (new := fun _ v => v - 1) (a := pl)
    (fun a j _ _ hv => ⟨trivial, (Plot.rg_rs_same _ _ _).trans (Nat.mod_eq_of_lt (show _ - 1 < 2 ^ 3 by omega)),
      fun k _ ne => Plot.rg_rs_ne _ (key ne) _⟩) trivial few).2 b hb

/-- The four tines of a channel start at `entry`. -/
def Plot.tinesStarted (pl : Plot) (ch entry : Nat) : Plot :=
  (List.range 4).foldl (fun pl k => (pl.setTine (4 * ch + k) { Tine.reset with pc := entry }).rs
    (fBED_TINE_STATUS_STATE.bit (4 * ch + k)) 1) pl

/-- The plots differ in their tines and in the states of these tines at most. -/
def OnlyTines (ch : Nat) (a b : Plot) : Prop :=
  b = { a with regs := b.regs, tines := b.tines } ∧ ∀ g : Fld, g.key ∉ (tineStates ch).map Fld.key → b.rg g = a.rg g

theorem OnlyTines.start {ch : Nat} {a b : Plot} (h : OnlyTines ch a b) {k : Nat} (hk : k < 4) (x : Tine) :
    OnlyTines ch a ((b.setTine (4 * ch + k) x).rs (fBED_TINE_STATUS_STATE.bit (4 * ch + k)) 1) := by
  obtain ⟨only, others⟩ := h
  obtain ⟨-, kept⟩ := OnlyPlotRegs.rs_of_mem (mem_tineStates (List.mem_range.mpr hk) : _ ∈ tineStates ch)
    (b.setTine (4 * ch + k) x) 1
  exact ⟨by rw [only]; rfl, fun g hg => (kept g hg).trans (others g hg)⟩

theorem OnlyTines.chan {ch : Nat} {a b : Plot} (h : OnlyTines ch a b) (c : Nat) : b.chan c = a.chan c := by
  have same : b.channels = a.channels := by rw [h.1]
  rw [Plot.chan, Plot.chan, same]

theorem Plot.tinesStarted_view (pl : Plot) (ch entry : Nat) : OnlyTines ch pl (pl.tinesStarted ch entry) ∧ ∀ k, k < 4 →
    ((pl.tinesStarted ch entry).tine (4 * ch + k),
      (pl.tinesStarted ch entry).rg (fBED_TINE_STATUS_STATE.bit (4 * ch + k))) = ({ Tine.reset with pc := entry }, 1) :=
  foldl_range_view (n := 4) (view := fun (b : Plot) k => (b.tine (4 * ch + k), b.rg (fBED_TINE_STATUS_STATE.bit (4 * ch + k))))
    (step := fun pl k => (pl.setTine (4 * ch + k) { Tine.reset with pc := entry }).rs
      (fBED_TINE_STATUS_STATE.bit (4 * ch + k)) 1)
    (Q := OnlyTines ch pl) (P := fun _ _ => True) (new := fun _ _ => ({ Tine.reset with pc := entry }, 1)) (a := pl)
    (fun b j hj h _ => ⟨h.start hj _,
      Prod.ext (Plot.tine_setTine_same b _ _) (Plot.rg_rs_same (b.setTine (4 * ch + j) _) _ 1), fun k _ ne => Prod.ext
        (Plot.tine_setTine_ne b (by omega) _) (Plot.rg_rs_ne (b.setTine (4 * ch + j) _) (tineState_key_ne (by omega)) 1)⟩)
    ⟨rfl, fun _ _ => rfl⟩ fun _ _ => trivial

/-- A channel in tine mode, its refreshes caught up, with no issue yet. -/
def Plot.toTine (pl : Plot) (ch : Nat) : Plot :=
  ((pl.setMode ch chTINE).refreshed ch).setChan ch { pl.chan ch with suspended := false, batchOver := false }

theorem Plot.toTine_only (pl : Plot) (ch : Nat) :
    pl.toTine ch = { pl with regs := (pl.toTine ch).regs, channels := (pl.toTine ch).channels } := by
  have only := (Plot.refreshed_only (pl.setMode ch chTINE) ch).setChan ch
    { pl.chan ch with suspended := false, batchOver := false }
  rw [← Plot.setChan_regs, ← Plot.toTine] at only
  exact only

theorem Plot.toTine_rg (pl : Plot) {ch : Nat} {g : Fld} (owed : g.key ∉ (owedCounts ch).map Fld.key)
    (mode : g.key ≠ (fBED_CH_STATUS_MODE.at ch).key) : (pl.toTine ch).rg g = pl.rg g := by
  rw [Plot.toTine, Plot.rg_setChan, (Plot.refreshed_only _ ch).2 g owed]
  exact Plot.rg_rs_ne pl mode 2

theorem Plot.toTine_sound {pl : Plot} (hs : Sound pl) {ch : Nat} (hc : ch < 4) : Sound (pl.toTine ch) := by
  obtain ⟨scr, acc, flip⟩ := hs
  have owed : fPLOT_MEM_FLIP_ARM.key ∉ (owedCounts ch).map Fld.key := by
    simp only [owedCounts, List.map_map, List.mem_map, List.mem_range, not_exists, not_and, Function.comp_apply, Fld.at,
      Fld.bit, Fld.key, fBED_CH_OWED_OWED, fPLOT_MEM_FLIP_ARM]
    omega
  have mode : fPLOT_MEM_FLIP_ARM.key ≠ (fBED_CH_STATUS_MODE.at ch).key := by
    simp only [Fld.at, Fld.key, fBED_CH_STATUS_MODE, fPLOT_MEM_FLIP_ARM]
    omega
  refine ⟨?_, ?_, (Plot.toTine_rg pl owed mode).trans flip⟩
  · rw [Plot.toTine_only]
    exact scr
  · rw [Plot.toTine_only]
    exact acc

/-- The only issue of a channel starts on it. -/
def Plot.issueStarted (pl : Plot) (ch : Nat) (i : Issue) (args : List Nat) : Plot :=
  ((pl.setChan ch { pl.chan ch with queue := [], cur := some i.id, args := args }).tinesStarted ch i.entry).rs
    fBED_TINE_STOP_CODE 0

theorem startIssue_sound {d : Dev} {p ch : Nat} {i : Issue} (hs : Sound (d.plot p)) (queue : ((d.plot p).chan ch).queue = [i.id])
    (issues : (d.plot p).issues = [i]) (harg : i.arg < 64) : startIssue d p ch = d.setPlot p ((d.plot p).issueStarted ch i
      (unpackCodes 64 16 (memRead d.scr (scrBase p + (0x5000 + i.arg * 128)) 128))) := by
  have scratch : 0x5000 + i.arg * 128 < 2 ^ 20 := by omega
  unfold startIssue
  simp only [queue, issues, List.find?_cons, decide_true, plotRead_sound hs, localBytes_scratch hs.1 scratch]
  rfl

theorem channelToTineDone_starts {d : Dev} {p ch : Nat} (mode : (d.plot p).chMode ch = 1)
    (idle : ((d.plot p).chan ch).cur = none) :
    channelToTineDone d p ch = startIssue (d.setPlot p ((d.plot p).toTine ch)) p ch := by
  have chan : ((((d.plot p).setMode ch chTINE)).refreshed ch).chan ch = (d.plot p).chan ch :=
    (Plot.refreshed_only ((d.plot p).setMode ch chTINE) ch).chan ch
  unfold channelToTineDone
  rw [if_neg (by simp [mode, chTO_TINE])]
  rw [Plot.refreshed] at chan
  simp only [chan, idle, Plot.toTine, Plot.refreshed]

theorem Plot.issueStarted_chan (pl : Plot) (ch : Nat) (i : Issue) (args : List Nat) :
    (pl.issueStarted ch i args).chan ch = { pl.chan ch with queue := [], cur := some i.id, args := args } :=
  ((Plot.tinesStarted_view _ ch i.entry).1.chan ch).trans (Plot.chan_setChan_same _ _ _)

theorem Plot.issueStarted_rg (pl : Plot) {ch : Nat} {g : Fld} (i : Issue) (args : List Nat)
    (tines : g.key ∉ (tineStates ch).map Fld.key) (stop : g.key ≠ fBED_TINE_STOP_CODE.key) :
    (pl.issueStarted ch i args).rg g = pl.rg g := by
  rw [Plot.issueStarted, Plot.rg_rs_ne _ stop, (Plot.tinesStarted_view _ ch i.entry).1.2 g tines, Plot.rg_setChan]

theorem Plot.issueStarted_tine (pl : Plot) {ch k : Nat} (i : Issue) (args : List Nat) (hc : ch < 4) (hk : k < 4) :
    (pl.issueStarted ch i args).tine (4 * ch + k) = { Tine.reset with pc := i.entry } ∧
      (pl.issueStarted ch i args).rg (fBED_TINE_STATUS_STATE.bit (4 * ch + k)) = 1 := by
  have stop : (fBED_TINE_STATUS_STATE.bit (4 * ch + k)).key ≠ fBED_TINE_STOP_CODE.key := by
    simp only [Fld.bit, Fld.key, fBED_TINE_STATUS_STATE, fBED_TINE_STOP_CODE]
    omega
  obtain ⟨tine, state⟩ := Prod.mk.inj ((Plot.tinesStarted_view
    (pl.setChan ch { pl.chan ch with queue := [], cur := some i.id, args := args }) ch i.entry).2 k hk)
  rw [Plot.issueStarted, Plot.rg_rs_ne _ stop]
  exact ⟨tine, state⟩

theorem owed_key_ne_mode (ch b : Nat) : ((fBED_CH_OWED_OWED.at ch).bit b).key ≠ (fBED_CH_STATUS_MODE.at ch).key := by
  simp only [Fld.at, Fld.bit, Fld.key, fBED_CH_OWED_OWED, fBED_CH_STATUS_MODE]
  omega

theorem owed_not_tineStates {ch b : Nat} (hc : ch < 4) (hb : b < 8) :
    ((fBED_CH_OWED_OWED.at ch).bit b).key ∉ (tineStates ch).map Fld.key := by
  simp only [tineStates, List.map_map, List.mem_map, List.mem_range, not_exists, not_and, Function.comp_apply, Fld.at,
    Fld.bit, Fld.key, fBED_CH_OWED_OWED, fBED_TINE_STATUS_STATE]
  omega

theorem chMode_not_owedCounts (ch : Nat) : (fBED_CH_STATUS_MODE.at ch).key ∉ (owedCounts ch).map Fld.key := by
  simp only [owedCounts, List.map_map, List.mem_map, List.mem_range, not_exists, not_and, Function.comp_apply, Fld.at,
    Fld.bit, Fld.key, fBED_CH_OWED_OWED, fBED_CH_STATUS_MODE]
  omega

theorem Plot.toTine_chMode (pl : Plot) (ch : Nat) : (pl.toTine ch).chMode ch = 2 := by
  rw [Plot.chMode, Plot.toTine, Plot.rg_setChan, (Plot.refreshed_only _ ch).2 _ (chMode_not_owedCounts ch)]
  exact Plot.rg_rs_same _ _ 2

theorem Plot.toTine_owed (pl : Plot) (ch : Nat) (few : ∀ b, b < 8 → pl.rg ((fBED_CH_OWED_OWED.at ch).bit b) ≤ 4) {b : Nat}
    (hb : b < 8) : (pl.toTine ch).rg ((fBED_CH_OWED_OWED.at ch).bit b) = pl.rg ((fBED_CH_OWED_OWED.at ch).bit b) - 1 := by
  have before (c : Nat) : (pl.setMode ch chTINE).rg ((fBED_CH_OWED_OWED.at ch).bit c) =
      pl.rg ((fBED_CH_OWED_OWED.at ch).bit c) := Plot.rg_rs_ne _ (owed_key_ne_mode ch c) _
  rw [Plot.toTine, Plot.rg_setChan, Plot.refreshed_owed _ ch (fun c h => by rw [before]; exact few c h) hb, before]

theorem Plot.toTine_chan (pl : Plot) (ch : Nat) :
    (pl.toTine ch).chan ch = { pl.chan ch with suspended := false, batchOver := false } := Plot.chan_setChan_same _ _ _

theorem channelToTineDone_sound {d : Dev} {p ch : Nat} {i : Issue} (hc : ch < 4) (hs : Sound (d.plot p))
    (mode : (d.plot p).chMode ch = 1) (idle : ((d.plot p).chan ch).cur = none) (queue : ((d.plot p).chan ch).queue = [i.id])
    (issues : (d.plot p).issues = [i]) (harg : i.arg < 64) : channelToTineDone d p ch =
      (d.setPlot p ((d.plot p).toTine ch)).setPlot p (((d.plot p).toTine ch).issueStarted ch i
        (unpackCodes 64 16 (memRead d.scr (p * 2 ^ 20 + 0x5000 + i.arg * 128) 128))) := by
  have ready : (d.setPlot p ((d.plot p).toTine ch)).plot p = (d.plot p).toTine ch := Dev.plot_setPlot_same _ _ _
  have listed : ((d.plot p).toTine ch).issues = [i] := by rw [Plot.toTine_only]; exact issues
  have place : scrBase p + (0x5000 + i.arg * 128) = p * 2 ^ 20 + 0x5000 + i.arg * 128 := by unfold scrBase; omega
  rw [channelToTineDone_starts mode idle, startIssue_sound (i := i) (by rw [ready]; exact Plot.toTine_sound hs hc)
    (by rw [ready, Plot.toTine_chan]; exact queue) (by rw [ready, listed]) harg, ready, place, Dev.setPlot_scr]

theorem channelToTineDone_completes {s : State} {p ch : Nat} (live : Live s) (plot : isPlot p = true) (hc : ch < 4)
    {i : Issue} (hs : Sound (s.dev.plot p)) (mode : (s.dev.plot p).chMode ch = 1)
    (idle : ((s.dev.plot p).chan ch).cur = none) (queue : ((s.dev.plot p).chan ch).queue = [i.id])
    (issues : (s.dev.plot p).issues = [i]) (harg : i.arg < 64)
    (few : ∀ b, b < 8 → (s.dev.plot p).rg ((fBED_CH_OWED_OWED.at ch).bit b) ≤ 4) :
    Completes (.channelToTineDone p ch) s (fun t => OnlyPlot p s.dev t.dev ∧ (t.dev.plot p).chMode ch = 2 ∧
      ((t.dev.plot p).chan ch).cur = some i.id ∧ ((t.dev.plot p).chan ch).queue = [] ∧
      ((t.dev.plot p).chan ch).args = unpackCodes 64 16 (memRead s.dev.scr (p * 2 ^ 20 + 0x5000 + i.arg * 128) 128) ∧
      (∀ k, k < 4 → (t.dev.plot p).tine (4 * ch + k) = { Tine.reset with pc := i.entry } ∧
        (t.dev.plot p).rg (fBED_TINE_STATUS_STATE.bit (4 * ch + k)) = 1) ∧
      ∀ b, b < 8 → (t.dev.plot p).rg ((fBED_CH_OWED_OWED.at ch).bit b) =
        (s.dev.plot p).rg ((fBED_CH_OWED_OWED.at ch).bit b) - 1) := by
  have gives : Gives (.channelToTineDone p ch) s (channelToTineDone s.dev p ch) := by
    rw [Gives, exec_channelToTineDone, onDev_live live, if_pos (by simp [plot, hc])]
  rw [channelToTineDone_sound hc hs mode idle queue issues harg] at gives
  refine gives.completes ⟨(OnlyPlot.setPlot _ _ _).trans (OnlyPlot.setPlot _ _ _), ?_⟩
  rw [Dev.plot_setPlot_same]
  generalize unpackCodes 64 16 _ = args
  rw [Plot.issueStarted_chan]
  refine ⟨?_, rfl, rfl, rfl, fun k hk => Plot.issueStarted_tine _ i _ hc hk, fun b hb => ?_⟩
  · rw [Plot.chMode, Plot.issueStarted_rg _ i args (chMode_not_tineStates ch hc) ?_]
    · exact Plot.toTine_chMode _ ch
    · simp only [Fld.at, Fld.key, fBED_CH_STATUS_MODE, fBED_TINE_STOP_CODE]
      omega
  · rw [Plot.issueStarted_rg _ i args (owed_not_tineStates hc hb) ?_]
    · exact Plot.toTine_owed _ ch few hb
    · simp only [Fld.at, Fld.bit, Fld.key, fBED_CH_OWED_OWED, fBED_TINE_STOP_CODE]
      omega

/-! ## HELD_QUEUE_SERVED (R178, R179) -/

theorem exec_heldQueueServed (p ch : Nat) (s : State) : exec (.heldQueueServed p ch) s =
    onDev s fun d => if isPlot p && ch < 4 then heldQueueServed d p ch else d := rfl

/-- A read of one column that is stored without error. -/
theorem bedRead_column {d : Dev} {p off : Nat} (clean : SMap.get [] (d.plot p).bedErr (off / 32) = []) (aligned : off % 32 = 0) :
    bedRead d p off 32 false = (d, memRead d.bed (bedBase p + off) 32, 0) := by
  have col : bedReadCol d p (off / 32) false = (d, memRead d.bed (bedBase p + off / 32 * 32) 32, false) := by
    have decoded : decodeCol [] = .clean := rfl
    simp [bedReadCol, clean, decoded, symMask, memRead]
  have place : off / 32 * 32 = off := by omega
  have cols : colsOf off 32 = [off / 32] := by
    rw [colsOf, if_neg (by decide), show (off + 32 - 1) / 32 - off / 32 + 1 = 1 by omega]
    simp
  have whole : (memRead d.bed (bedBase p + off) 32).take 32 = memRead d.bed (bedBase p + off) 32 := memRead_take _ _ le_rfl
  simp [bedRead, cols, col, aligned, place, whole]

/-- A plot's read of one sound column is answered with the column's bytes. -/
theorem bedPerform_read {d : Dev} {p q : Nat} {r : FabReq} (hm : r.master = .plot q) (hop : r.op = .read 32)
    (clean : SMap.get [] (d.plot p).bedErr (r.addr % 2 ^ 26 / 32) = []) (aligned : r.addr % 32 = 0) : ∃ e, RegsOnly d e ∧
      bedPerform d p r = e.says (.fabReply r 0 (memRead d.bed (p * 2 ^ 26 + r.addr % 2 ^ 26) 32)) := by
  have only : RegsOnly d (plotEvent (lateOther d r) p 0x110 ((32 + 31) / 32) (some r.cls) (some r.addr)) :=
    RegsOnly.trans (RegsOnly.ite _ (RegsOnly.count _ _ _) (RegsOnly.refl d)) (RegsOnly.plotEvent _ _ _ _ _ _)
  refine ⟨_, only, ?_⟩
  have weeder : reqScrub r = false := by rw [reqScrub, hm]
  unfold bedPerform
  simp only [hop, weeder]
  generalize plotEvent _ _ _ _ _ _ = e at only ⊢
  have kept : (e.plot p).bedErr = (d.plot p).bedErr := by rw [only.2 p]
  rw [bedRead_column (off := bedOffset r.addr) (by rw [kept]; exact clean) (by unfold bedOffset; omega), fabAnswer_plot _ hm,
    only.bed]
  rfl

/-- One held request served: the hold queue of the channel is empty, and the request is performed. -/
theorem holdServe_one {d : Dev} {p ch : Nat} {r : FabReq} (hold : ((d.plot p).chan ch).hold = [r])
    (router : ((d.plot p).chan ch).router = []) : holdServe 1 d p ch = bedPerform (d.setPlot p
      ((d.plot p).setChan ch { (d.plot p).chan ch with hold := [] })) p r := by
  have refilled : holdRefill { (d.plot p).chan ch with hold := [] } = { (d.plot p).chan ch with hold := [] } := by
    simp [holdRefill, router]
  simp only [holdServe, hold, refilled]
  rfl

/-- After the service of its held queue, a channel whose issue is not complete returns to its tines. -/
theorem heldQueueServed_returns {d e : Dev} {p ch i : Nat} (mode : (d.plot p).chMode ch = 4)
    (served : holdServe ((d.plot p).chan ch).heldAtPause d p ch = e) (cur : ((e.plot p).chan ch).cur = some i) :
    heldQueueServed d p ch =
      e.setPlot p (((e.plot p).setChan ch { (e.plot p).chan ch with heldAtPause := 0 }).setMode ch 1) := by
  unfold heldQueueServed
  simp only [mode, chHELD, served, Dev.modPlot, cur, ne_eq, not_true_eq_false, if_false, Option.isSome_some, Bool.true_or,
    if_true]
  rfl

theorem heldQueueServed_completes {s : State} {p ch : Nat} (live : Live s) (plot : isPlot p = true) (hc : ch < 4)
    {r : FabReq} {q i : Nat} (mode : (s.dev.plot p).chMode ch = 4) (hold : ((s.dev.plot p).chan ch).hold = [r])
    (router : ((s.dev.plot p).chan ch).router = []) (held : ((s.dev.plot p).chan ch).heldAtPause = 1)
    (cur : ((s.dev.plot p).chan ch).cur = some i) (hm : r.master = .plot q) (hop : r.op = .read 32) (aligned : r.addr % 32 = 0)
    (clean : SMap.get [] (s.dev.plot p).bedErr (r.addr % 2 ^ 26 / 32) = []) :
    Completes (.heldQueueServed p ch) s (fun t =>
      t.dev.outs = s.dev.outs ++ [.fabReply r 0 (memRead s.dev.bed (p * 2 ^ 26 + r.addr % 2 ^ 26) 32)] ∧
      ((t.dev.plot p).chan ch).hold = [] ∧ (t.dev.plot p).chMode ch = 1 ∧
      SameStores { s.dev with tray := t.dev.tray } t.dev) := by
  have gives : Gives (.heldQueueServed p ch) s (heldQueueServed s.dev p ch) := by
    rw [Gives, exec_heldQueueServed, onDev_live live, if_pos (by simp [plot, hc])]
  obtain ⟨e, only, performed⟩ := bedPerform_read (d := s.dev.setPlot p ((s.dev.plot p).setChan ch
    { (s.dev.plot p).chan ch with hold := [] })) (p := p) hm hop (by rw [Dev.plot_setPlot_same]; exact clean) aligned
  have chan : (e.plot p).chan ch = { (s.dev.plot p).chan ch with hold := [] } := by
    rw [only.2 p, Dev.plot_setPlot_same]
    exact Plot.chan_setChan_same _ _ _
  have served := (congrArg (holdServe · s.dev p ch) held).trans ((holdServe_one hold router).trans performed)
  rw [heldQueueServed_returns mode served ((congrArg Channel.cur chan).trans cur)] at gives
  refine gives.completes ⟨congrArg (· ++ _) only.outs, ?_, ?_, only.scr, only.bed, only.gddr, only.flash, rfl⟩
  · rw [Dev.plot_setPlot_same]
    exact (congrArg Channel.hold (Plot.chan_setChan_same _ _ _)).trans (congrArg Channel.hold chan)
  · rw [Dev.plot_setPlot_same]
    exact Plot.rg_rs_same _ _ 1

/-! ## TINE_ISSUE_COMPLETE (R178, R186) -/

theorem exec_tineIssueComplete (p : Nat) (s : State) :
    exec (.tineIssueComplete p) s = onDev s fun d => tineIssueComplete d p := rfl

/-- The tines of a channel that have not failed are idle. -/
def Plot.tinesLeft (pl : Plot) (ch : Nat) : Plot :=
  (List.range 4).foldl (fun pl k =>
    if pl.rg (fBED_TINE_STATUS_STATE.bit (4 * ch + k)) = 3 then pl else pl.rs (fBED_TINE_STATUS_STATE.bit (4 * ch + k)) 0) pl

theorem Plot.tinesLeft_only (pl : Plot) (ch : Nat) : OnlyPlotRegs (tineStates ch) pl (pl.tinesLeft ch) :=
  OnlyPlotRegs.foldl (fun b k hk => by
    split
    · exact OnlyPlotRegs.refl _ b
    · exact OnlyPlotRegs.rs_of_mem (mem_tineStates hk) b 0) pl

/-- A channel whose last issue is complete leaves tine mode. -/
def Plot.left (pl : Plot) (ch : Nat) : Plot :=
  ((pl.setChan ch { pl.chan ch with cur := none, suspended := false }).tinesLeft ch).setMode ch chTO_MEMORY

theorem Plot.tinesLeft_chMode (pl : Plot) {ch : Nat} (hc : ch < 4) (k : Nat) : (pl.tinesLeft ch).chMode k = pl.chMode k :=
  (Plot.tinesLeft_only pl ch).2 _ (chMode_not_tineStates k hc)

theorem Plot.left_issues (pl : Plot) (ch : Nat) : (pl.left ch).issues = pl.issues := by
  have same : ((pl.setChan ch { pl.chan ch with cur := none, suspended := false }).tinesLeft ch).issues = pl.issues := by
    rw [(Plot.tinesLeft_only _ ch).1, Plot.setChan_issues]
  rw [Plot.left, Plot.setMode, Plot.rs_issues, same]

theorem Plot.left_view (pl : Plot) {ch : Nat} (hc : ch < 4) :
    ((pl.left ch).chan ch, (pl.left ch).chMode ch) = ({ pl.chan ch with cur := none, suspended := false }, 3) ∧
      ∀ k, k ≠ ch → ((pl.left ch).chan k, (pl.left ch).chMode k) = (pl.chan k, pl.chMode k) := by
  have chan (k : Nat) : (pl.left ch).chan k =
      (pl.setChan ch { pl.chan ch with cur := none, suspended := false }).chan k := by
    rw [Plot.left, Plot.chan_setMode, (Plot.tinesLeft_only _ ch).chan k]
  refine ⟨?_, fun k ne => ?_⟩
  · rw [chan, Plot.chan_setChan_same, Plot.left, Plot.chMode_setMode_same]
    rfl
  · rw [chan, Plot.chan_setChan_ne _ ne, Plot.left, Plot.chMode_setMode_ne _ ne, Plot.tinesLeft_chMode _ hc,
      Plot.chMode_setChan]

theorem channelNext_leaves {d : Dev} {p ch : Nat} (hc : ch < 4) (mode : (d.plot p).chMode ch = 2)
    (queue : ((d.plot p).chan ch).queue = []) : channelNext d p ch = d.setPlot p ((d.plot p).left ch) := by
  have still : (((d.plot p).setChan ch { (d.plot p).chan ch with cur := none, suspended := false }).tinesLeft ch).chMode ch =
      chTINE := (Plot.tinesLeft_chMode _ hc ch).trans mode
  rw [Plot.left]
  unfold channelNext
  rw [Plot.tinesLeft] at still ⊢
  dsimp only
  rw [if_neg (not_not_intro still), if_pos (List.isEmpty_iff.mpr queue)]

/-- What the end of an issue makes of a channel and its mode. -/
def leftView (m c : Nat) (v : Channel × Nat) : Channel × Nat :=
  if bitOf m c then ({ v.1 with cur := none, suspended := false }, 3) else v

theorem channelsLeave {d : Dev} {p m : Nat}
    (last : ∀ k, k < 4 → bitOf m k = true → ((d.plot p).chan k).queue = [] ∧ (d.plot p).chMode k = 2) :
    OnlyPlot p d ((List.range 4).foldl (fun d ch => if bitOf m ch then channelNext d p ch else d) d) ∧
      (((List.range 4).foldl (fun d ch => if bitOf m ch then channelNext d p ch else d) d).plot p).issues = (d.plot p).issues ∧
      ∀ k, k < 4 →
        ((((List.range 4).foldl (fun d ch => if bitOf m ch then channelNext d p ch else d) d).plot p).chan k,
          (((List.range 4).foldl (fun d ch => if bitOf m ch then channelNext d p ch else d) d).plot p).chMode k) =
        leftView m k ((d.plot p).chan k, (d.plot p).chMode k) := by
  rw [← and_assoc]
  refine foldl_range_view (view := fun (e : Dev) k => ((e.plot p).chan k, (e.plot p).chMode k))
    (Q := fun e => OnlyPlot p d e ∧ (e.plot p).issues = (d.plot p).issues)
    (P := fun k v => bitOf m k = true → v.1.queue = [] ∧ v.2 = 2) (new := leftView m) (fun e j hj kept hv => ?_)
    ⟨⟨rfl, fun _ _ => rfl⟩, rfl⟩ last
  by_cases named : bitOf m j = true
  · obtain ⟨queue, mode⟩ := hv named
    obtain ⟨only, issues⟩ := kept
    obtain ⟨own, other⟩ := Plot.left_view (e.plot p) hj
    simp only [leftView, named, if_true, channelNext_leaves hj mode queue, Dev.plot_setPlot_same]
    exact ⟨⟨only.trans (OnlyPlot.setPlot _ _ _), (Plot.left_issues _ _).trans issues⟩, own, fun k _ ne => other k ne⟩
  · simp only [leftView, named]
    exact ⟨kept, rfl, fun _ _ _ => rfl⟩

theorem syncGet_syncAdd_same (d : Dev) (p c v : Nat) : (d.syncAdd p c v).syncGet p c = (d.syncGet p c + v) % 2 ^ 32 :=
  SMap.get_set_same _ _ _ _

theorem issueTines_mem {m t : Nat} (h : t ∈ issueTines m) : t < 16 ∧ bitOf m (t / 4) = true := by
  simpa [issueTines] using h

/-- The only issue of a plot, ended and with nothing left to apply, advances its counter and leaves its channels. -/
theorem tineIssueComplete_only {d : Dev} {p c : Nat} {i : Issue} (issues : (d.plot p).issues = [i]) (released : i.released = true)
    (stop : i.stop = 0) (ctr : i.ctr = some c)
    (runs : ∀ k, k < 4 → bitOf i.chmask k = true → ((d.plot p).chan k).cur = some i.id)
    (tines : ∀ k, k < 16 → bitOf i.chmask (k / 4) = true → ((d.plot p).tine k).ended = true ∧
      ((d.plot p).tine k).checks = [] ∧ ((d.plot p).tine k).wbuf = []) : tineIssueComplete d p =
      (List.range 4).foldl (fun d ch => if bitOf i.chmask ch then channelNext d p ch else d)
        ((d.setPlot p { d.plot p with issues := [] }).syncAdd p c 1) := by
  have ended : issueEnded (d.plot p) i = true := by
    simp only [issueEnded, released, stop, Bool.true_and, ne_eq, not_true_eq_false, decide_false, Bool.false_or,
      Bool.and_eq_true, List.all_eq_true, List.mem_range, Bool.or_eq_true, Bool.not_eq_true', decide_eq_true_eq]
    refine ⟨fun k hk => ?_, fun t ht => ?_⟩
    · by_cases named : bitOf i.chmask k = true
      · exact .inr (runs k hk named)
      · exact .inl (Bool.eq_false_of_not_eq_true named)
    · obtain ⟨inside, named⟩ := issueTines_mem ht
      obtain ⟨halted, checks, -⟩ := tines t inside named
      exact ⟨halted, List.isEmpty_iff.mpr checks⟩
  have written : (issueTines i.chmask).all (fun t => ((d.plot p).tine t).wbuf.isEmpty) = true := by
    rw [List.all_eq_true]
    intro t ht
    obtain ⟨inside, named⟩ := issueTines_mem ht
    obtain ⟨-, -, empty⟩ := tines t inside named
    exact List.isEmpty_iff.mpr empty
  unfold tineIssueComplete
  simp only [issues, List.find?_cons, ended, written, Bool.or_true, Bool.true_and, List.filter_cons, List.filter_nil, ne_eq,
    not_true_eq_false, decide_false, Bool.false_eq_true, if_false, stop, ctr]

theorem tineIssueComplete_completes {s : State} {p c : Nat} (live : Live s) {i : Issue} (issues : (s.dev.plot p).issues = [i])
    (released : i.released = true) (stop : i.stop = 0) (ctr : i.ctr = some c)
    (runs : ∀ k, k < 4 → bitOf i.chmask k = true → ((s.dev.plot p).chan k).cur = some i.id ∧
      ((s.dev.plot p).chan k).queue = [] ∧ (s.dev.plot p).chMode k = 2)
    (tines : ∀ k, k < 16 → bitOf i.chmask (k / 4) = true → ((s.dev.plot p).tine k).ended = true ∧
      ((s.dev.plot p).tine k).checks = [] ∧ ((s.dev.plot p).tine k).wbuf = []) :
    Completes (.tineIssueComplete p) s (fun t => (t.dev.plot p).issues = [] ∧
      t.dev.syncGet p c = (s.dev.syncGet p c + 1) % 2 ^ 32 ∧ SameStores s.dev t.dev ∧
      ∀ k, k < 4 → bitOf i.chmask k = true → ((t.dev.plot p).chan k).cur = none ∧ (t.dev.plot p).chMode k = 3) := by
  have gives : Gives (.tineIssueComplete p) s (tineIssueComplete s.dev p) := by
    rw [Gives, exec_tineIssueComplete, onDev_live live]
  have here : ((s.dev.setPlot p { s.dev.plot p with issues := [] }).syncAdd p c 1).plot p =
      { s.dev.plot p with issues := [] } := Dev.plot_setPlot_same _ _ _
  obtain ⟨⟨only, -⟩, none, seen⟩ := channelsLeave (d := (s.dev.setPlot p { s.dev.plot p with issues := [] }).syncAdd p c 1)
    (p := p) (m := i.chmask) (fun k hk named => by rw [here]; exact (runs k hk named).2)
  rw [tineIssueComplete_only issues released stop ctr (fun k hk named => (runs k hk named).1) tines] at gives
  generalize List.foldl _ _ _ = e at gives only none seen
  refine gives.completes ⟨?_, ?_, ?_, fun k hk named => ?_⟩
  · rw [none, here]
  · rw [only]
    exact syncGet_syncAdd_same _ p c 1
  · rw [only]
    exact ⟨rfl, rfl, rfl, rfl, rfl⟩
  · have left := seen k hk
    rw [leftView, if_pos named] at left
    obtain ⟨chan, mode⟩ := Prod.mk.inj left
    exact ⟨congrArg Channel.cur chan, mode⟩

/-- Settles O12: the way of an issue through a channel, one command after the other. -/
theorem tineWorkOfAChannel : Obligations.TineWorkOfAChannel := by
  intro s p ch live plot hc
  refine ⟨fun m a e some_ hm ha he h => ?_,
    fun i hs mode idle queue issues harg few =>
      channelToTineDone_completes live plot hc hs mode idle queue issues harg few,
    fun tine => batchLimitExpiry_completes live plot hc tine,
    fun mode => ⟨fun suspended =>
      setMode_completes (by decide) (OnlyPlot.setPlot _ _ _) (Dev.plot_setPlot_same _ _ _)
        (channelToMemoryDone_suspended live plot hc mode suspended),
      fun suspended hold router queue =>
        setMode_completes (by decide) ((OnlyPlot.setPlot _ _ _).trans (OnlyPlot.setPlot _ _ _)) (Dev.plot_setPlot_same _ _ _)
          (channelToMemoryDone_finished live plot hc mode suspended hold router queue)⟩,
    fun r q i mode hold router held cur hm hop aligned clean =>
      heldQueueServed_completes live plot hc mode hold router held cur hm hop aligned clean,
    fun i c issues released stop ctr runs tines =>
      tineIssueComplete_completes live issues released stop ctr runs tines⟩
  obtain ⟨t, ht, ran, went, listed, seen⟩ := tissue_completes live some_ hm ha he rfl h
  refine ⟨t, ht, ran, went, listed, fun c hc => ?_⟩
  have view := seen c hc
  rw [reachedView] at view
  refine ⟨fun named => ?_, fun other => ?_⟩
  · rw [if_pos named] at view
    obtain ⟨chan, mode⟩ := Prod.mk.inj view
    exact ⟨congrArg Channel.queue chan, mode⟩
  · rw [if_neg (by rw [other]; decide)] at view
    exact Prod.mk.inj view

end Sys2Proof.Machine
end

section
/-! PROOFS. The write buffer of a tine, the tallies' way to scratch, and the close of a tine's check (R196 to R201). -/

namespace Sys2Proof.Machine

/-! ## Instructions that set their tine alone -/

/-- Only tine `k` of the plot differs, and it is `y`. -/
structure TineSet (p k : Nat) (y : Tine) (d e : Dev) : Prop where
  others : OnlyPlot p d e
  plot : e.plot p = { d.plot p with tines := (e.plot p).tines }
  tine : (e.plot p).tine k = y
  rest : ∀ j, j ≠ k → (e.plot p).tine j = (d.plot p).tine j

theorem TineSet.refl (p k : Nat) (d : Dev) : TineSet p k ((d.plot p).tine k) d d :=
  ⟨⟨rfl, fun _ _ => rfl⟩, rfl, rfl, fun _ _ => rfl⟩

theorem TineSet.modTine (p k : Nat) (f : Tine → Tine) (d : Dev) : TineSet p k (f ((d.plot p).tine k)) d (d.modTine p k f) := by
  refine ⟨OnlyPlot.setPlot _ _ _, ?_, Dev.tine_modTine_same _ _ _ _, fun j hj => Dev.tine_modTine_ne _ _ hj _⟩
  rw [Dev.modTine, Dev.plot_modPlot_same]
  rfl

/-- A tine that its instruction has set, and that has gone on, has run. -/
theorem TineSet.ran {s : State} {e : Dev} {p k : Nat} {f : Tine → Tine} {y : Tine} (h : TineSet p k y s.dev e)
    (hf : f ((s.dev.plot p).tine k) = tineAdvance y ((s.dev.plot p).tine k).pc) :
    TineRan p k [] f s { s with dev := e.tineOn p k ((s.dev.plot p).tine k).pc } := by
  obtain ⟨others, plot, tine, rest⟩ := h
  have after : (e.tineOn p k ((s.dev.plot p).tine k).pc).plot p = ((e.plot p).count (fPLOT_UNIT_ICNT_COUNT.at (4 + k)) 1).setTine
      k (tineAdvance ((e.plot p).tine k) ((s.dev.plot p).tine k).pc) := by
    rw [Dev.tineOn, Dev.modTine, Dev.plot_modPlot_same, Dev.tineCounted_plot]
    rfl
  refine ⟨rfl, rfl, (others.trans (OnlyPlot.setPlot _ p _)).trans (OnlyPlot.setPlot _ p _), ?_, ?_, fun j hj => ?_,
    fun g hg => ?_⟩
  · dsimp only
    rw [after, plot]
    rfl
  · rw [Dev.tineOn_tine_same, tine, hf]
  · rw [Dev.tineOn_tine_ne _ _ _ hj, rest j hj]
  · dsimp only
    rw [after]
    refine (Plot.rg_rs_ne (e.plot p) (by simpa using hg) _).trans ?_
    rw [plot]
    rfl

/-! ## TPACK and TADD (R149, R196) -/

theorem exec_tpack (p k : Nat) (s : State) :
    exec (.tpack p k) s = onDev s fun d => tineStep d p k (isTOp 0x0B) false fun d _ w => bufferWords d p k w false := rfl

theorem exec_tadd (p k : Nat) (s : State) :
    exec (.tadd p k) s = onDev s fun d => tineStep d p k (isTOp 0x0C) false fun d _ w => bufferWords d p k w true := rfl

/-- The fields of a TPACK or TADD. -/
theorem buffer_fields {op r col b ty first q w : Nat} (hr : r < 8) (hcol : col < 64) (hb : b < 2) (hty : ty < 2)
    (hfirst : first < 2 ^ 11) (hq : q < 8)
    (hw : op * 2 ^ 27 + r * 2 ^ 24 + col * 2 ^ 18 + b * 2 ^ 17 + ty * 2 ^ 16 + first * 2 ^ 5 + q * 2 ^ 2 = w) :
    w / 2 ^ 27 = op ∧ bitsOf w 24 3 = r ∧ bitsOf w 18 6 = col ∧ bitsOf w 17 1 = b ∧ bitsOf w 16 1 = ty ∧
      bitsOf w 5 11 = first ∧ bitsOf w 2 3 = q ∧ bitsOf w 0 2 = 0 := by
  unfold bitsOf
  omega

/-- A tine whose buffer holds `n` accumulator words from `first` on, for the places from `start` on. -/
def Tine.buffered (x : Tine) (start first n : Nat) (add : Option Nat) : Tine :=
  { x with wbuf := (List.range n).map fun i => ⟨start + i * 4, 4, SMap.get 0 x.acc (first + i), add⟩ }

/-- A run of `or` with 0. -/
theorem foldl_or_zero {α : Type} (l : List α) : l.foldl (fun f _ => f ||| 0) 0 = 0 :=
  List.foldlRecOn (motive := fun f => f = 0) l _ rfl fun f hf _ _ => by rw [hf]; rfl

theorem fmtFlags_zero (pl : Plot) : fmtFlags pl 0 = pl := by
  unfold fmtFlags
  simp [bitOf]

/-- Whole words go into an empty buffer of an OUTBOUND issue as they are. -/
theorem bufferWords_sets {d : Dev} {p k w a n first : Nat} {add : Bool} (words : add = true ∨ bitsOf w 16 1 = 0)
    (rest : bitsOf w 0 2 = 0) (hn : ((d.plot p).tine k).reg (bitsOf w 2 3) = n) (hfirst : bitsOf w 5 11 = first)
    (ha : ((d.plot p).tine k).reg (bitsOf w 24 3) = a) (out : (tineIssue (d.plot p) k).any (·.outbound) = true)
    (empty : ((d.plot p).tine k).wbuf = []) (row : a ≤ 1023) (inside : first + n ≤ 2048)
    (bank : a * 2048 + bitsOf w 18 6 * 32 + n * 4 ≤ 2 ^ 21) (fits : n * 4 ≤ 8192) : ∃ e, bufferWords d p k w add = .done e ∧
      TineSet p k (((d.plot p).tine k).buffered (bedLoc (k / 4) (2 * (k % 4) + bitsOf w 17 1) 0 0 +
        (a * 2048 + bitsOf w 18 6 * 32)) first n (if add then some (bitsOf w 16 1) else none)) d e := by
  have size : (if !add && bitsOf w 16 1 = 1 then 2 else 4) = 4 := by
    rcases words with h | h <;> simp [h]
  by_cases none : n = 0
  · refine ⟨d, ?_, ?_⟩
    · unfold bufferWords
      simp only [rest, out, hn, none, ne_eq, not_true_eq_false, if_false, Bool.not_true, Bool.false_eq_true, if_true]
    · rw [none, show ((d.plot p).tine k).buffered _ first 0 _ = { (d.plot p).tine k with wbuf := [] } from rfl, ← empty]
      exact TineSet.refl p k d
  · refine ⟨_, ?_, TineSet.modTine p k (·.buffered (bedLoc (k / 4) (2 * (k % 4) + bitsOf w 17 1) 0 0 +
      (a * 2048 + bitsOf w 18 6 * 32)) first n (if add then some (bitsOf w 16 1) else .none)) d⟩
    have legal : ¬ (1023 < a ∨ 2048 < first + n ∨ 2 ^ 21 < a * 2048 + bitsOf w 18 6 * 32 + n * 4) := by omega
    have room : ¬ 8192 < 0 + n * 4 := by omega
    unfold bufferWords
    simp only [size, rest, out, hn, hfirst, ha, none, legal, empty, room, ne_eq, not_true_eq_false, if_false, Bool.not_true,
      Bool.false_eq_true, List.foldl_nil, show ¬ 4 = 2 by decide, List.map_map, List.nil_append, List.foldl_map,
      foldl_or_zero, fmtFlags_zero]
    rfl

/-- A tine issues a TPACK or TADD of whole words into its empty buffer. -/
theorem buffer_completes {c : Instr} {s : State} {p k op r q first col b n ty w : Nat} {add : Bool} (live : Live s)
    (hc : exec c s = onDev s fun d => tineStep d p k (isTOp op) false fun d _ w => bufferWords d p k w add)
    (known : op < 0x0E) (words : add = true ∨ ty = 0) (hr : r < 8) (hq : q < 8) (hfirst : first < 2 ^ 11) (hcol : col < 64)
    (hb : b < 2) (hty : ty < 2) (hn : ((s.dev.plot p).tine k).reg q = n) (empty : ((s.dev.plot p).tine k).wbuf = [])
    (row : ((s.dev.plot p).tine k).reg r ≤ 1023) (inside : first + n ≤ 2048)
    (bank : ((s.dev.plot p).tine k).reg r * 2048 + col * 32 + n * 4 ≤ 2 ^ 21) (fits : n * 4 ≤ 8192)
    (out : (tineIssue (s.dev.plot p) k).any (·.outbound) = true)
    (hw : op * 2 ^ 27 + r * 2 ^ 24 + col * 2 ^ 18 + b * 2 ^ 17 + ty * 2 ^ 16 + first * 2 ^ 5 + q * 2 ^ 2 = w)
    (h : TineIssues s.dev p k w) : Completes c s (TineRan p k [] (fun x => (x.buffered
      (bedLoc (k / 4) (2 * (k % 4) + b) 0 0 + (((s.dev.plot p).tine k).reg r * 2048 + col * 32)) first n
      (if add then some ty else none)).goesOn) s) := by
  obtain ⟨hop, reg, column, bankBit, kind, start, count, rest⟩ := buffer_fields hr hcol hb hty hfirst hq hw
  obtain ⟨e, done, set⟩ := bufferWords_sets (d := s.dev) (p := p) (k := k) (w := w) (add := add) (by rwa [kind]) rest
    (by rwa [count]) start (by rw [reg]) out empty row inside (by rwa [column]) fits
  rw [kind, bankBit, column] at set
  exact (tineStep_gives live hc h hop known done).completes (set.ran rfl)

/-! ## TCRC with OP 1 (R197) -/

theorem exec_tcrcWrite (p k : Nat) (s : State) : exec (.tcrcWrite p k) s =
    onDev s fun d => tineStep d p k (fun w => isTOp 0x0D w && bitOf w 26) false fun d _ w =>
      if bitsOf w 0 23 ≠ 0 then .stop d 0x0D0A false
      else if tineWriteStop (d.plot p) k (((d.plot p).tine k).reg (bitsOf w 23 3)) 16 ≠ 0 then
        .stop d (tineWriteStop (d.plot p) k (((d.plot p).tine k).reg (bitsOf w 23 3)) 16) false
      else .done (tineWrite d p k (((d.plot p).tine k).reg (bitsOf w 23 3))
        (leBytes 8 ((d.plot p).rg (fBED_TINE_TALLY_EVEN_CRC.at k)) ++ leBytes 8 ((d.plot p).rg (fBED_TINE_TALLY_ODD_CRC.at k)))) :=
  rfl

theorem tcrcWrite_fields {r w : Nat} (hr : r < 8) (hw : 0x0D * 2 ^ 27 + 2 ^ 26 + r * 2 ^ 23 = w) :
    w / 2 ^ 27 = 0x0D ∧ bitOf w 26 = true ∧ bitsOf w 23 3 = r ∧ bitsOf w 0 23 = 0 := by
  simp only [bitsOf, bitOf, beq_iff_eq]
  omega

/-- The two tallies of a tine, as they go to scratch. -/
def tallyBytes (pl : Plot) (k : Nat) : List Byte :=
  leBytes 8 (pl.rg (fBED_TINE_TALLY_EVEN_CRC.at k)) ++ leBytes 8 (pl.rg (fBED_TINE_TALLY_ODD_CRC.at k))

theorem tallyBytes_length (pl : Plot) (k : Nat) : (tallyBytes pl k).length = 16 := by simp [tallyBytes, leBytes]

theorem tcrcWrite_gives {s : State} {p k r w : Nat} (live : Live s) (hr : r < 8) (hs : Sound (s.dev.plot p))
    (fresh : (s.dev.plot p).units = []) (data : inData (((s.dev.plot p).tine k).reg r) 16 = true)
    (inbound : (tineIssue (s.dev.plot p) k).any (·.outbound) = false) (hw : 0x0D * 2 ^ 27 + 2 ^ 26 + r * 2 ^ 23 = w)
    (h : TineIssues s.dev p k w) : ∃ e, Gives (.tcrcWrite p k) s (e.tineOn p k ((s.dev.plot p).tine k).pc) ∧
      TineWrote p (((s.dev.plot p).tine k).reg r) (tallyBytes (s.dev.plot p) k) s.dev e := by
  obtain ⟨hop, writes, reg, rest⟩ := tcrcWrite_fields hr hw
  refine ⟨_, ?_, tineWrite_sound hs (by rw [tallyBytes_length]; exact (inData_iff.mp data).2) k⟩
  rw [Gives, exec_tcrcWrite, onDev_live live, tineStep_done false h (by rw [hop]; decide)
    (by rw [isTOp, hop, writes]; rfl) (by
      simp only [rest, reg, tineWriteStop_fresh data fresh inbound, ne_eq, not_true_eq_false, if_false]
      rfl)]
  rfl

theorem tcrcWrite_completes {s : State} {p k r w : Nat} (live : Live s) (hr : r < 8) (hs : Sound (s.dev.plot p))
    (fresh : (s.dev.plot p).units = []) (data : inData (((s.dev.plot p).tine k).reg r) 16 = true)
    (inbound : (tineIssue (s.dev.plot p) k).any (·.outbound) = false) (hw : 0x0D * 2 ^ 27 + 2 ^ 26 + r * 2 ^ 23 = w)
    (h : TineIssues s.dev p k w) : Completes (.tcrcWrite p k) s (fun t =>
      ((t.dev.plot p).tine k).pc = ((s.dev.plot p).tine k).goesOn.pc ∧ SameStores { s.dev with scr := t.dev.scr } t.dev ∧
      memRead t.dev.scr (p * 2 ^ 20 + ((s.dev.plot p).tine k).reg r) 16 = tallyBytes (s.dev.plot p) k ∧
      ∀ b, b < p * 2 ^ 20 + ((s.dev.plot p).tine k).reg r ∨ p * 2 ^ 20 + ((s.dev.plot p).tine k).reg r + 16 ≤ b →
        memGet t.dev.scr b = memGet s.dev.scr b) := by
  obtain ⟨e, gives, wrote⟩ := tcrcWrite_gives live hr hs fresh data inbound hw h
  have scr : e.scr = memWrite s.dev.scr (p * 2 ^ 20 + ((s.dev.plot p).tine k).reg r) (tallyBytes (s.dev.plot p) k) := by
    rw [wrote.only]
    rfl
  have length := tallyBytes_length (s.dev.plot p) k
  refine gives.completes ⟨?_, wrote.stores k _, ?_, fun b hb => ?_⟩
  · rw [Dev.tineOn_tine_same]
    exact tineAdvance_pc (wrote.kept.loops k)
  · have stored := memRead_memWrite (tallyBytes (s.dev.plot p) k) s.dev.scr (p * 2 ^ 20 + ((s.dev.plot p).tine k).reg r)
    rw [length, ← scr] at stored
    exact stored
  · have untouched := memGet_memWrite_out (tallyBytes (s.dev.plot p) k) s.dev.scr (p * 2 ^ 20 + ((s.dev.plot p).tine k).reg r) b
      (by rwa [length])
    rw [← scr] at untouched
    exact untouched

/-! ## TINE_CHECK_CLOSE (R200, R201) -/

theorem exec_tineCheckClose (p k upset : Nat) (s : State) : exec (.tineCheckClose p k upset) s =
    onDev s fun d => if isPlot p && k < 16 then tineCheckClose d p k upset else d := rfl

theorem resolveCheck_tine_checks (a : Plot) (id : Nat) (failed : Bool) (j : Nat) :
    ((resolveCheck a id failed).tine j).checks = (a.tine j).checks := by
  have tine : (resolveCheck a id failed).tine j = if (a.tine j).deps.contains id then
      { a.tine j with deps := (a.tine j).deps.erase id, bad := (a.tine j).bad || failed } else a.tine j :=
    SMap.get_map (fun x : Tine => if x.deps.contains id then
      { x with deps := x.deps.erase id, bad := x.bad || failed } else x) rfl a.tines j
  rw [tine]
  split <;> rfl

theorem settleChecks_tine_checks (n : Nat) (a : Plot) (j : Nat) :
    ((settleChecks n a).tine j).checks = (a.tine j).checks := by
  induction n generalizing a with
  | zero => rfl
  | succ n ih =>
    unfold settleChecks
    split
    · rw [ih, resolveCheck_tine_checks]
    · rfl

theorem closeCheck_tine_checks (a : Plot) (id : Nat) (pass : Bool) (j : Nat) :
    ((closeCheck a id pass).tine j).checks = (a.tine j).checks := by
  unfold closeCheck
  rw [settleChecks_tine_checks]
  split
  · rfl
  · exact resolveCheck_tine_checks a id true j

/-- Checks closed in turn change no register and no tine's open checks. -/
theorem foldl_closeCheck (ids : List Nat) (pass : Bool) (a : Plot) :
    (ids.foldl (fun pl id => closeCheck pl id pass) a).regs = a.regs ∧
      ∀ j, ((ids.foldl (fun pl id => closeCheck pl id pass) a).tine j).checks = (a.tine j).checks :=
  List.foldlRecOn (motive := fun b : Plot => b.regs = a.regs ∧ ∀ j, (b.tine j).checks = (a.tine j).checks) ids _
    ⟨rfl, fun _ => rfl⟩ fun b hb id _ => by
      refine ⟨?_, fun j => by rw [closeCheck_tine_checks, hb.2]⟩
      rw [ChecksOnly.closeCheck b id pass]
      exact hb.1

theorem tineCheckClose_passes {s : State} {p k : Nat} {c : TineCheck} {rest : List TineCheck} (live : Live s)
    (plot : isPlot p = true) (hk : k < 16) (checks : ((s.dev.plot p).tine k).checks = c :: rest) (code : c.code = 0)
    (finite : c.nonfinite = false) : Completes (.tineCheckClose p k 0) s (fun t => OnlyPlot p s.dev t.dev ∧
      (t.dev.plot p).regs = (s.dev.plot p).regs ∧ ((t.dev.plot p).tine k).checks = rest) := by
  have gives : Gives (.tineCheckClose p k 0) s (tineCheckClose s.dev p k 0) := by
    rw [Gives, exec_tineCheckClose, onDev_live live, if_pos (by simp [plot, hk])]
  unfold tineCheckClose at gives
  simp only [checks, code, finite, if_true, Bool.false_eq_true, if_false] at gives
  refine gives.completes ⟨OnlyPlot.setPlot _ _ _, ?_⟩
  rw [Dev.plot_setPlot_same]
  obtain ⟨regs, kept⟩ := foldl_closeCheck c.ids true
    ((s.dev.plot p).setTine k { (s.dev.plot p).tine k with checks := rest })
  refine ⟨regs, (kept k).trans ?_⟩
  rw [Plot.tine_setTine_same]

/-- BED_TINE_STOP holds its first stop. -/
def Plot.tineStopped (pl : Plot) (k idx code : Nat) : Plot :=
  ((pl.rs fBED_TINE_STOP_CODE code).rs fBED_TINE_STOP_TID k).rs fBED_TINE_STOP_INDEX idx

/-- One tine of an issue that stops. -/
def Plot.tineHalted (k : Nat) (pl : Plot) (x : Nat) : Plot :=
  let f := fBED_TINE_STATUS_STATE.bit x
  let pl := if x = k then pl.rs f 3 else if pl.rg f = 1 then pl.rs f 2 else pl
  let q := pl.tine x
  let pl := (q.checks.flatMap (·.ids)).foldl (fun pl id => closeCheck pl id false) pl
  pl.setTine x { q with wbuf := [], wait := .none, checks := [] }

/-- The issue of a tine that stops: its lines are FAILED, and its tines stop. -/
def Plot.issueStopped (pl : Plot) (i : Issue) (k code : Nat) : Plot :=
  let pl := (issueTines i.chmask).foldl (Plot.tineHalted k) (i.lines.foldl unitFail pl)
  { pl with issues := pl.issues.map (fun x =>
      if x.id = i.id then { x with stop := if x.stop = 0 then code else x.stop } else x) }

theorem tineStop_first {d : Dev} {p k idx code : Nat} {i : Issue} (issue : tineIssue (d.plot p) k = some i)
    (first : (d.plot p).rg fBED_TINE_STOP_CODE = 0) : tineStop d p k idx code false =
      stopAt (plotIrq (d.setPlot p (((d.plot p).tineStopped k idx code).issueStopped i k code)) p 9) p i.pc code := by
  unfold tineStop
  simp only [issue, first, ne_eq, not_true_eq_false, if_false, Bool.false_eq_true]
  rfl

/-- The registers other than the states of tines. -/
def outsideTineStates (k : Nat) : Prop := k < 0x2410 * 64 ∨ 0x2410 * 64 + 32 ≤ k

theorem Plot.tineHalted_rg (k : Nat) (pl : Plot) {x : Nat} (hx : x < 16) {g : Fld} (hg : outsideTineStates g.key) :
    (pl.tineHalted k x).rg g = pl.rg g := by
  have key : g.key ≠ (fBED_TINE_STATUS_STATE.bit x).key := by
    simp only [Fld.bit, Fld.key, fBED_TINE_STATUS_STATE, outsideTineStates] at hg ⊢
    omega
  have closed (ids : List Nat) (a : Plot) : (ids.foldl (fun pl id => closeCheck pl id false) a).rg g = a.rg g := by
    rw [Plot.rg, (foldl_closeCheck ids false a).1, Plot.rg]
  unfold Plot.tineHalted
  refine (closed _ _).trans ?_
  split_ifs
  · exact Plot.rg_rs_ne pl key 3
  · exact Plot.rg_rs_ne pl key 2
  · rfl

theorem Plot.issueStopped_rg (pl : Plot) (i : Issue) (k code : Nat) {g : Fld} (hg : outsideTineStates g.key) :
    (pl.issueStopped i k code).rg g = pl.rg g := by
  have failed : (i.lines.foldl unitFail pl).rg g = pl.rg g :=
    List.foldlRecOn (motive := fun b : Plot => b.rg g = pl.rg g) i.lines _ rfl fun b hb _ _ => hb
  have halted : ((issueTines i.chmask).foldl (Plot.tineHalted k) (i.lines.foldl unitFail pl)).rg g = pl.rg g :=
    List.foldlRecOn (motive := fun b : Plot => b.rg g = pl.rg g) _ _ failed fun b hb x hx =>
      (Plot.tineHalted_rg k b (issueTines_mem hx).1 hg).trans hb
  exact halted

/-- The first stop of a tine of a running plot. -/
theorem tineStop_running {d : Dev} {p k idx code : Nat} {i : Issue} (hk : k < 16) (issue : tineIssue (d.plot p) k = some i)
    (first : (d.plot p).rg fBED_TINE_STOP_CODE = 0) (running : (d.plot p).rg fPLOT_SEQ_STATUS_STATE = 2)
    (nonzero : code ≠ 0) (fits : code < 2 ^ 16) (pc : i.pc < 8192) :
    ((tineStop d p k idx code false).plot p).rg fBED_TINE_STOP_CODE = code ∧
      ((tineStop d p k idx code false).plot p).rg fBED_TINE_STOP_TID = k ∧
      ((tineStop d p k idx code false).plot p).rg fPLOT_SEQ_STATUS_STATE = 3 ∧
      ((tineStop d p k idx code false).plot p).rg fPLOT_SEQ_STOP_CODE = code ∧
      ((tineStop d p k idx code false).plot p).rg fPLOT_SEQ_STOP_PC = i.pc ∧
      SameStores { d with tray := (tineStop d p k idx code false).tray } (tineStop d p k idx code false) := by
  have irq := IrqOnly.plotIrq (d.setPlot p (((d.plot p).tineStopped k idx code).issueStopped i k code)) p 9
  rw [tineStop_first issue first]
  generalize plotIrq _ _ _ = e at irq
  have before {g : Fld} (out : outsideIrq g.key) (states : outsideTineStates g.key) :
      (e.plot p).rg g = ((d.plot p).tineStopped k idx code).rg g := by
    rw [irq.regs g out, Dev.plot_setPlot_same, Plot.issueStopped_rg _ _ _ _ states]
  have state : (e.plot p).rg fPLOT_SEQ_STATUS_STATE = 2 := by
    rw [before (.inl (by decide)) (.inl (by decide)), Plot.tineStopped, Plot.rg_rs_ne _ (by decide), Plot.rg_rs_ne _ (by decide),
      Plot.rg_rs_ne _ (by decide), running]
  obtain ⟨stopped, codeOf, pcOf⟩ := stopAt_running_rg state i.pc nonzero fits
  refine ⟨?_, ?_, stopped, codeOf, pcOf.trans (Nat.mod_eq_of_lt pc), ?_⟩
  · rw [stopAt_plot_rg _ _ _ _ (by decide) (.inl (by decide)), before (.inr (by decide)) (.inr (by decide)), Plot.tineStopped,
      Plot.rg_rs_ne _ (by decide), Plot.rg_rs_ne _ (by decide), Plot.rg_rs_same]
    exact Nat.mod_eq_of_lt fits
  · rw [stopAt_plot_rg _ _ _ _ (by decide) (.inl (by decide)), before (.inr (by decide)) (.inr (by decide)), Plot.tineStopped,
      Plot.rg_rs_ne _ (by decide), Plot.rg_rs_same]
    exact Nat.mod_eq_of_lt hk
  · have stores := SameStores.stopAt e p i.pc code
    rw [irq.others.1] at stores ⊢
    exact stores

/-- The attention pipeline records only errors of its own. -/
theorem attErr_other (d : Dev) (p page row : Nat) {code : Nat} (h : code / 256 ≠ 0x0E) : attErr d p code page row = d := by
  unfold attErr
  exact if_pos (.inl h)

theorem tineCheckClose_upset {s : State} {p k : Nat} {c : TineCheck} {rest : List TineCheck} (live : Live s)
    (plot : isPlot p = true) (hk : k < 16) (checks : ((s.dev.plot p).tine k).checks = c :: rest) (code : c.code = 0)
    (finite : c.nonfinite = false) (page : c.page = 0) :
    Gives (.tineCheckClose p k 1) s
      (tineStop (s.dev.setPlot p (s.dev.plot p)) p k ((s.dev.plot p).tine k).pc 0x0D08 false) := by
  rw [Gives, exec_tineCheckClose, onDev_live live, if_pos (by simp [plot, hk])]
  unfold tineCheckClose
  simp only [checks, code, finite, page, one_ne_zero, if_false, if_true, ne_eq, not_true_eq_false, decide_false,
    show ¬ 0x0E00 ≤ 0 by decide, Bool.or_self, Bool.false_eq_true, show ¬ 0x0D08 = 0 by decide]
  rw [attErr_other _ _ _ _ (by decide)]

theorem tineCheckClose_fails {s : State} {p k : Nat} {c : TineCheck} {rest : List TineCheck} {i : Issue} (live : Live s)
    (plot : isPlot p = true) (hk : k < 16) (checks : ((s.dev.plot p).tine k).checks = c :: rest) (code : c.code = 0)
    (finite : c.nonfinite = false) (page : c.page = 0) (issue : tineIssue (s.dev.plot p) k = some i) (pc : i.pc < 8192)
    (running : (s.dev.plot p).rg fPLOT_SEQ_STATUS_STATE = 2) (first : (s.dev.plot p).rg fBED_TINE_STOP_CODE = 0) :
    Completes (.tineCheckClose p k 1) s (fun t => (t.dev.plot p).rg fBED_TINE_STOP_CODE = 0x0D08 ∧
      (t.dev.plot p).rg fBED_TINE_STOP_TID = k ∧ (t.dev.plot p).rg fPLOT_SEQ_STATUS_STATE = 3 ∧
      (t.dev.plot p).rg fPLOT_SEQ_STOP_CODE = 0x0D08 ∧ (t.dev.plot p).rg fPLOT_SEQ_STOP_PC = i.pc ∧
      SameStores { s.dev with tray := t.dev.tray } t.dev) := by
  have same : (s.dev.setPlot p (s.dev.plot p)).plot p = s.dev.plot p := Dev.plot_setPlot_same _ _ _
  exact (tineCheckClose_upset live plot hk checks code finite page).completes (tineStop_running hk (by rw [same, issue])
    (by rw [same, first]) (by rw [same, running]) (by decide) (by decide) pc)

/-- Settles O17: the write buffer, the tallies' way to scratch, and the close of a tine's oldest check. -/
theorem tineBuffersAndChecks : Obligations.TineBuffersAndChecks := by
  intro s p k r live hr
  refine ⟨fun q first col b n hq hfirst hcol hb hn empty row inside bank fits out => ⟨fun h => ?_, fun ty hty h => ?_⟩,
    fun hs fresh data inbound h => tcrcWrite_completes live hr hs fresh data inbound rfl h,
    fun c rest plot hk checks code finite page => ⟨tineCheckClose_passes live plot hk checks code finite,
      fun i issue pc running first =>
        tineCheckClose_fails live plot hk checks code finite page issue pc running first⟩⟩
  · exact buffer_completes (add := false) live (exec_tpack p k s) (by decide) (.inr rfl) hr hq hfirst hcol hb (by decide) hn
      empty row inside bank fits out (by omega) h
  · exact buffer_completes (add := true) live (exec_tadd p k s) (by decide) (.inl rfl) hr hq hfirst hcol hb hty hn
      empty row inside bank fits out (by omega) h

end Sys2Proof.Machine
end

section
/-! PROOFS. Descriptors within a plot's own scratch, the fill of an attention stream, and the release of a SIGNAL (R151 to R160,
R239). -/

namespace Sys2Proof.Machine

/-! ## A source in the plot's own scratch (R151, R154) -/

theorem onDevFused_gives {c : Instr} {s : State} {f : Fuses → Dev → Dev} (live : Live s) (hc : exec c s = onDevFused s f) :
    Gives c s (f s.fused s.dev) := by
  rw [Gives, hc, onDevFused_live live]

theorem ownScratch_scrWindow {d : Dev} {p n off : Nat} (own : d.ownNumber p = some n) (hn : n < 1024) (ho : off < 2 ^ 20) :
    d.ownScratch p (scrWindow n + off) = some off := by
  rw [Dev.ownScratch, decodeAddr_scrWindow hn ho]
  exact if_pos own

/-- A range of sound scratch all of whose lines are CLOSED is read as it is. -/
theorem fetchOwn_closed {d : Dev} {p a k : Nat} (hs : Sound (d.plot p)) (ha : a < 2 ^ 20)
    (closed : ∀ u ∈ linesOf a k, unitState (d.plot p) u = 0) (pc : Nat) (rep : List Nat) :
    fetchOwn d p pc a k rep = .got d (memRead d.scr (scrBase p + a) k) rep := by
  have lines : unitsOf a k = linesOf a k := if_pos ha
  have sound : unitsFailed (d.plot p) (linesOf a k) = false := by
    rw [unitsFailed, List.any_eq_false]
    intro u hu
    rw [closed u hu]
    decide
  have ready : unitsClosed (d.plot p) (linesOf a k) = true := by
    rw [unitsClosed, List.all_eq_true]
    intro u hu
    rw [closed u hu]
    decide
  unfold fetchOwn
  simp only [lines, sound, ready, plotRead_sound hs, localBytes_scratch hs.1 ha, Bool.false_eq_true, if_false, Bool.not_true]

/-- The first bytes of a descriptor's source in the plot's own scratch. -/
theorem fetchSrc_own {f : Fuses} {d : Dev} {p n a k : Nat} {run : DmaRun} (own : d.ownNumber p = some n) (hn : n < 1024)
    (hs : Sound (d.plot p)) (ha : a < 2 ^ 20) (space : run.d.srcSpace = 0) (addr : run.d.srcAddr = scrWindow n + a)
    (closed : ∀ u ∈ linesOf a k, unitState (d.plot p) u = 0) (rep : List Nat) :
    fetchSrc f d p run 0 0 k rep = .got d (memRead d.scr (scrBase p + a) k) rep := by
  have place : run.d.srcAt 0 0 = scrWindow n + a := by rw [Desc.srcAt, addr]; omega
  unfold fetchSrc
  simp only [place, space, zero_ne_one, if_false, Nat.not_le.mpr (scrWindow_lt_hostBase hn ha), ownScratch_scrWindow own hn ha,
    fetchOwn_closed hs ha closed]

/-! ## A descriptor from scratch to scratch (R155) -/

theorem exec_dmaDescComplete (p desc : Nat) (rep : List Nat) (s : State) : exec (.dmaDescComplete p desc rep) s =
    onDevFused s fun f d => match (d.plot p).dmas.find? (fun x => x.desc = desc) with
      | some run => dmaStep f d p run rep
      | none => d := rfl

/-- Bytes for the plot's own scratch are written as an instruction writes them. -/
theorem storeDst_scratch {f : Fuses} {d : Dev} {p a off : Nat} {run : DmaRun} (own : d.ownScratch p a = some off)
    (bytes : List Byte) (rep : List Nat) :
    storeDst f d p run a bytes rep = some (plotWrite d p run.pc off bytes, 0, rep) := by
  unfold storeDst
  simp only [own]

theorem storeDst_own {f : Fuses} {d : Dev} {p n b : Nat} {run : DmaRun} (own : d.ownNumber p = some n) (hn : n < 1024)
    (hs : Sound (d.plot p)) (hb : b < 2 ^ 20) {bytes : List Byte} (some_ : bytes ≠ []) (rep : List Nat) :
    storeDst f d p run (scrWindow n + b) bytes rep =
      some ({ d with scr := memWrite d.scr (scrBase p + b) bytes }.setPlot p (d.plot p), 0, rep) := by
  rw [storeDst_scratch (ownScratch_scrWindow own hn hb), plotWrite_scratch hs hb run.pc some_]

/-- A descriptor of one row within the plot's scratch moves it and completes. -/
theorem moveRows_scratch {f : Fuses} {d : Dev} {p n a b k : Nat} {run : DmaRun} (own : d.ownNumber p = some n) (hn : n < 1024)
    (hs : Sound (d.plot p)) (some_ : 0 < k) (ha : a < 2 ^ 20) (hb : b < 2 ^ 20) (space : run.d.srcSpace = 0)
    (src : run.d.srcAddr = scrWindow n + a) (dst : run.d.dstAddr = scrWindow n + b) (length : run.d.length = k)
    (closed : ∀ u ∈ linesOf a k, unitState (d.plot p) u = 0) (rep : List Nat) : moveRows f p run [0] d rep =
      some (runClean ({ d with scr := memWrite d.scr (scrBase p + b) (memRead d.scr (scrBase p + a) k) }.setPlot p (d.plot p))
        p run) := by
  have place : run.d.dstAt 0 0 = scrWindow n + b := by rw [Desc.dstAt, dst]; omega
  have bytes : memRead d.scr (scrBase p + a) k ≠ [] := by
    rw [← List.length_pos_iff, memRead_length]
    exact some_
  unfold moveRows
  simp only [length, fetchSrc_own own hn hs ha space src closed, place, storeDst_own own hn hs hb bytes]
  rfl

/-- A descriptor of one row within the plot's scratch goes on as far as its rows do. -/
theorem dmaStep_scratch {f : Fuses} {d : Dev} {p n a b k : Nat} {run : DmaRun} (own : d.ownNumber p = some n) (hn : n < 1024)
    (hs : Sound (d.plot p)) (some_ : 0 < k) (ha : a < 2 ^ 20) (hb : b < 2 ^ 20) (out : run.outbound = false) (err : run.err = 0)
    (desc : run.d = { run.d with
      srcAddr := scrWindow n + a, dstAddr := scrWindow n + b, length := k, rows := 1, dstRemote := false, srcRemote := false,
      srcSpace := 0, dstSpace := 0, kind := 0 })
    (closed : ∀ u ∈ linesOf a k, unitState (d.plot p) u = 0) (rep : List Nat) : dmaStep f d p run rep =
      runClean ({ d with scr := memWrite d.scr (scrBase p + b) (memRead d.scr (scrBase p + a) k) }.setPlot p (d.plot p))
        p run := by
  have src : run.d.srcAddr = scrWindow n + a := congrArg Desc.srcAddr desc
  have dst : run.d.dstAddr = scrWindow n + b := congrArg Desc.dstAddr desc
  have length : run.d.length = k := congrArg Desc.length desc
  have rows : run.d.rows = 1 := congrArg Desc.rows desc
  have dstLocal : run.d.dstRemote = false := congrArg Desc.dstRemote desc
  have srcLocal : run.d.srcRemote = false := congrArg Desc.srcRemote desc
  have srcSpace : run.d.srcSpace = 0 := congrArg Desc.srcSpace desc
  have dstSpace : run.d.dstSpace = 0 := congrArg Desc.dstSpace desc
  have full : run.d.empty = false := by simp [Desc.empty, rows, length, Nat.ne_of_gt some_]
  have srcDevice : run.d.srcHost = false := by simp [Desc.srcHost, src, scrWindow_lt_hostBase hn ha]
  have dstDevice : run.d.dstHost = false := by simp [Desc.dstHost, dst, scrWindow_lt_hostBase hn hb]
  unfold dmaStep
  simp only [out, err, full, srcLocal, srcDevice, dstSpace, dstLocal, dstDevice, rows, Bool.false_eq_true, false_and, if_false,
    ne_eq, not_true_eq_false, show ¬ 0 = 2 by decide, List.range_one,
    moveRows_scratch own hn hs some_ ha hb srcSpace src dst length closed, Option.getD_some]

/-- A local descriptor without a check that completes leaves the engine and advances its counter. -/
theorem runClean_local {d : Dev} {p c : Nat} {run : DmaRun} (out : run.outbound = false) (unchecked : run.check = none)
    (counter : run.ctr = some c) : runClean d p run = ({ d with
      cpl := { d.cpl with reqs := d.cpl.reqs.filter (fun r => !ofRun p run.id r) } }.setPlot p
        { d.plot p with dmas := (d.plot p).dmas.filter (fun x => x.id ≠ run.id) }).syncAdd p c 1 := by
  unfold runClean runEnd
  simp only [out, unchecked, counter, Bool.false_eq_true, if_false]
  rfl

/-- The first descriptor leaves the list. -/
theorem filter_others {run : DmaRun} {others : List DmaRun} {id : Nat} (hid : run.id = id) (fresh : ∀ x ∈ others, x.id ≠ id) :
    (run :: others).filter (fun x => x.id ≠ run.id) = others := by
  rw [List.filter_cons_of_neg (by simp), List.filter_eq_self]
  intro x hx
  simp [hid, fresh x hx]

theorem dmaDescComplete_completes {s : State} {p n a b k c id : Nat} {run : DmaRun} {others : List DmaRun} (live : Live s)
    (own : s.dev.ownNumber p = some n) (hn : n < 1024) (hs : Sound (s.dev.plot p)) (some_ : 0 < k) (ha : a + k ≤ 2 ^ 20)
    (hb : b + k ≤ 2 ^ 20) (listed : (s.dev.plot p).dmas = run :: others) (hid : run.id = id)
    (fresh : ∀ x ∈ others, x.id ≠ id) (out : run.outbound = false) (err : run.err = 0) (unchecked : run.check = none)
    (counter : run.ctr = some c) (desc : run.d = { run.d with
      srcAddr := scrWindow n + a, dstAddr := scrWindow n + b, length := k, rows := 1, dstRemote := false, srcRemote := false,
      srcSpace := 0, dstSpace := 0, kind := 0 })
    (closed : ∀ u ∈ linesOf a k, unitState (s.dev.plot p) u = 0) (rep : List Nat) :
    Completes (.dmaDescComplete p run.desc rep) s (fun t =>
      memRead t.dev.scr (scrBase p + b) k = memRead s.dev.scr (scrBase p + a) k ∧
      (∀ x, x < scrBase p + b ∨ scrBase p + b + k ≤ x → memGet t.dev.scr x = memGet s.dev.scr x) ∧
      t.dev.plot p = { s.dev.plot p with dmas := others } ∧ (∀ y, y ≠ p → t.dev.plot y = s.dev.plot y) ∧
      t.dev.syncGet p c = (s.dev.syncGet p c + 1) % 2 ^ 32 ∧ t.dev.outs = s.dev.outs) := by
  have gives := onDevFused_gives live (exec_dmaDescComplete p run.desc rep s)
  have first : (s.dev.plot p).dmas.find? (fun x => x.desc = run.desc) = some run := by
    rw [listed]
    exact List.find?_cons_of_pos (by simp)
  rw [first] at gives
  dsimp only at gives
  rw [dmaStep_scratch own hn hs some_ (by omega) (by omega) out err desc closed, runClean_local out unchecked counter,
    Dev.plot_setPlot_same, listed, filter_others hid fresh] at gives
  have length : (memRead s.dev.scr (scrBase p + a) k).length = k := memRead_length _ _ _
  generalize memRead s.dev.scr (scrBase p + a) k = bytes at gives length
  refine gives.completes ⟨?_, fun x hx => memGet_memWrite_out bytes _ _ x (by rwa [length]), Dev.plot_setPlot_same _ _ _,
    fun y hy => (Dev.plot_setPlot_ne _ hy _).trans (Dev.plot_setPlot_ne s.dev hy _), syncGet_syncAdd_same _ p c 1, rfl⟩
  have stored := memRead_memWrite bytes s.dev.scr (scrBase p + b)
  rw [length] at stored
  exact stored

/-! ## The fill of an attention stream (R239) -/

theorem exec_streamRecordArrival (p stream : Nat) (rep : List Nat) (s : State) :
    exec (.streamRecordArrival p stream rep) s = onDevFused s fun f d =>
      match (d.plot p).dmas.find? (fun y =>
        y.d.dstSpace = 2 && y.d.stream = stream && decide (y.moved < y.d.total) && y.err = 0) with
      | some run => streamArrive f d p run rep
      | none => if (d.plot p).att.waiting then kvIssue d p else d := rfl

/-- The one part of a row that nothing has been moved of. -/
theorem rowParts_whole {k : Nat} (some_ : 0 < k) : rowParts k (k + 1) 0 k = [(0, 0, k)] := by
  have rest : rowParts k k (0 + k) (k - k) = [] := by
    cases k with
    | zero => rfl
    | succ k => rw [rowParts, if_pos (.inl (Nat.sub_self _))]
  rw [rowParts, if_neg (by omega)]
  simp only [Nat.zero_mod, Nat.sub_zero, Nat.min_self, Nat.zero_div, rest]

/-- A plot whose stream has taken bytes from a descriptor. -/
def Plot.streamed (pl : Plot) (run : DmaRun) (bytes : List Byte) : Plot :=
  let st := SMap.get Stream.reset pl.streams run.d.stream
  { pl with
    streams := SMap.set Stream.reset pl.streams run.d.stream { st with bytes := st.bytes ++ bytes },
    dmas := pl.dmas.map (fun x => if x.id = run.id then { x with moved := x.moved + bytes.length } else x) }

theorem fetchParts_one {f : Fuses} {p : Nat} {run : DmaRun} {i o n : Nat} {d e : Dev} {b : List Byte} {rep left : List Nat}
    (got : fetchSrc f d p run i o n rep = .got e b left) : fetchParts f p run [(i, o, n)] d rep = (e, b, none) := by
  unfold fetchParts
  simp only [got, fetchParts, List.append_nil]

/-- One row of the plot's own scratch enters a stream with room for it. -/
theorem streamArrive_scratch {f : Fuses} {d : Dev} {p n a k : Nat} {run : DmaRun} (own : d.ownNumber p = some n) (hn : n < 1024)
    (hs : Sound (d.plot p)) (some_ : 0 < k) (ha : a < 2 ^ 20) (moved : run.moved = 0)
    (desc : run.d = { run.d with
      srcAddr := scrWindow n + a, length := k, rows := 1, srcRemote := false, srcSpace := 0, dstSpace := 2 })
    (idle : (d.plot p).att.waiting = false) (closed : ∀ u ∈ linesOf a k, unitState (d.plot p) u = 0)
    (room : (SMap.get Stream.reset (d.plot p).streams run.d.stream).bytes.length + k ≤ 16384) (rep : List Nat) :
    ∃ pl, streamArrive f d p run rep =
      (d.setPlot p pl).setPlot p ((d.plot p).streamed run (memRead d.scr (scrBase p + a) k)) := by
  have src : run.d.srcAddr = scrWindow n + a := congrArg Desc.srcAddr desc
  have length : run.d.length = k := congrArg Desc.length desc
  have rows : run.d.rows = 1 := congrArg Desc.rows desc
  have srcLocal : run.d.srcRemote = false := congrArg Desc.srcRemote desc
  have srcSpace : run.d.srcSpace = 0 := congrArg Desc.srcSpace desc
  have srcDevice : run.d.srcHost = false := by simp [Desc.srcHost, src, scrWindow_lt_hostBase hn ha]
  have total : run.d.total = k := by simp [Desc.total, rows, length]
  have whole : min (streamRoom - (SMap.get Stream.reset (d.plot p).streams run.d.stream).bytes.length) (k - 0) = k := by
    unfold streamRoom
    omega
  unfold streamArrive
  simp only [srcDevice, srcLocal, total, moved, whole, length, rowParts_whole some_, Bool.false_eq_true, if_false,
    fetchParts_one (fetchSrc_own own hn hs ha srcSpace src closed rep), modRun, Dev.modPlot, Dev.plot_setPlot_same, idle]
  exact ⟨_, rfl⟩

theorem streamRecordArrival_completes {s : State} {p n a k id : Nat} {run : DmaRun} {others : List DmaRun} (live : Live s)
    (own : s.dev.ownNumber p = some n) (hn : n < 1024) (hs : Sound (s.dev.plot p)) (some_ : 0 < k) (ha : a + k ≤ 2 ^ 20)
    (listed : (s.dev.plot p).dmas = run :: others) (hid : run.id = id) (err : run.err = 0) (moved : run.moved = 0)
    (fresh : ∀ x ∈ others, x.id ≠ id) (desc : run.d = { run.d with
      srcAddr := scrWindow n + a, length := k, rows := 1, srcRemote := false, srcSpace := 0, dstSpace := 2 })
    (idle : (s.dev.plot p).att.waiting = false) (closed : ∀ u ∈ linesOf a k, unitState (s.dev.plot p) u = 0)
    (room : (SMap.get Stream.reset (s.dev.plot p).streams run.d.stream).bytes.length + k ≤ 16384) (rep : List Nat) :
    Completes (.streamRecordArrival p run.d.stream rep) s (fun t =>
      SMap.get Stream.reset (t.dev.plot p).streams run.d.stream =
        { SMap.get Stream.reset (s.dev.plot p).streams run.d.stream with
          bytes := (SMap.get Stream.reset (s.dev.plot p).streams run.d.stream).bytes ++ memRead s.dev.scr (scrBase p + a) k } ∧
      (t.dev.plot p).dmas = { run with moved := k } :: others ∧ t.dev.scr = s.dev.scr ∧ t.dev.regs = s.dev.regs) := by
  have gives := onDevFused_gives live (exec_streamRecordArrival p run.d.stream rep s)
  have length : run.d.length = k := congrArg Desc.length desc
  have rows : run.d.rows = 1 := congrArg Desc.rows desc
  have space : run.d.dstSpace = 2 := congrArg Desc.dstSpace desc
  have total : run.d.total = k := by simp [Desc.total, rows, length]
  have first : (s.dev.plot p).dmas.find? (fun y =>
      y.d.dstSpace = 2 && y.d.stream = run.d.stream && decide (y.moved < y.d.total) && y.err = 0) = some run := by
    rw [listed]
    exact List.find?_cons_of_pos (by simp [space, moved, total, err, some_])
  obtain ⟨pl, arrives⟩ := streamArrive_scratch (f := s.fused) own hn hs some_ (by omega) moved desc idle closed room rep
  rw [first] at gives
  dsimp only at gives
  rw [arrives] at gives
  have bytes : (memRead s.dev.scr (scrBase p + a) k).length = k := memRead_length _ _ _
  generalize memRead s.dev.scr (scrBase p + a) k = b at gives bytes
  refine gives.completes ?_
  rw [Dev.plot_setPlot_same]
  refine ⟨SMap.get_set_same _ _ _ _, ?_, rfl, rfl⟩
  have kept : others.map (fun x => if x.id = run.id then { x with moved := x.moved + b.length } else x) = others :=
    (List.map_congr_left fun x hx => if_neg (hid ▸ fresh x hx)).trans (List.map_id _)
  unfold Plot.streamed
  rw [listed, List.map_cons, kept, if_pos rfl, moved, bytes, Nat.zero_add]

/-! ## The release of a SIGNAL of this device (R157, R160) -/

theorem exec_outboundRelease (p : Nat) (rep : List Nat) (s : State) :
    exec (.outboundRelease p rep) s = onDevFused s fun f d => outboundRelease f d p rep := rfl

/-- The plot whose oldest outbound operation has been released and counted. -/
def Plot.releasedHead (pl : Plot) (rest : List OutOp) : Plot :=
  { pl with outq := rest }.rs fPLOT_SEQ_REPLAY_OUT_DONE (pl.rg fPLOT_SEQ_REPLAY_OUT_DONE + 1)

theorem releaseHead_below {d : Dev} {p : Nat} {o : OutOp} {rest : List OutOp} (queued : (d.plot p).outq = o :: rest)
    (below : (d.plot p).rg fPLOT_SEQ_REPLAY_OUT_DONE + 1 < 2 ^ 24) :
    releaseHead d p = some (d.setPlot p ((d.plot p).releasedHead rest)) := by
  unfold releaseHead
  simp only [Nat.not_le.mpr below, if_false, queued, List.drop_succ_cons, List.drop_zero]
  rfl

theorem Plot.sleep_releasedHead (pl : Plot) (rest : List OutOp) : (pl.releasedHead rest).sleep = pl.sleep :=
  Plot.rg_rs_ne { pl with outq := rest } (by decide) _

/-- A SIGNAL of a counter of this device is released once no outbound descriptor is on its way. -/
theorem outboundRelease_signal {f : Fuses} {d : Dev} {p q dev dst ctr add pc : Nat} {rest : List OutOp}
    (queued : (d.plot p).outq = ⟨.signal dev false dst ctr add, pc⟩ :: rest)
    (still : ∀ x ∈ (d.plot p).dmas, x.outbound = false ∨ x.released = false) (target : d.phys dst = some q)
    (awake : (d.plot q).sleep = 0) (below : (d.plot p).rg fPLOT_SEQ_REPLAY_OUT_DONE + 1 < 2 ^ 24) (rep : List Nat) :
    outboundRelease f d p rep = (d.setPlot p ((d.plot p).releasedHead rest)).syncAdd q ctr add := by
  have quiet : (d.plot p).dmas.any (fun x => x.outbound && x.released) = false := by
    rw [List.any_eq_false]
    intro x hx
    rcases still x hx with h | h <;> simp [h]
  have awake' : ((d.setPlot p ((d.plot p).releasedHead rest)).plot q).sleep = 0 := by
    by_cases own : q = p
    · rw [own, Dev.plot_setPlot_same, Plot.sleep_releasedHead, ← own, awake]
    · rw [Dev.plot_setPlot_ne _ own, awake]
  unfold outboundRelease
  simp only [queued, quiet, target, releaseHead_below queued below, wakePlot_awake awake', Bool.false_eq_true, if_false]

theorem outboundRelease_completes {s : State} {p q dev dst ctr add pc : Nat} {rest : List OutOp} (live : Live s)
    (queued : (s.dev.plot p).outq = ⟨.signal dev false dst ctr add, pc⟩ :: rest)
    (still : ∀ x ∈ (s.dev.plot p).dmas, x.outbound = false ∨ x.released = false) (target : s.dev.phys dst = some q)
    (awake : (s.dev.plot q).sleep = 0) (below : (s.dev.plot p).rg fPLOT_SEQ_REPLAY_OUT_DONE + 1 < 2 ^ 24) (rep : List Nat) :
    Completes (.outboundRelease p rep) s (fun t =>
      t.dev.syncGet q ctr = (s.dev.syncGet q ctr + add) % 2 ^ 32 ∧ (t.dev.plot p).outq = rest ∧
      (t.dev.plot p).rg fPLOT_SEQ_REPLAY_OUT_DONE = (s.dev.plot p).rg fPLOT_SEQ_REPLAY_OUT_DONE + 1 ∧
      OnlyPlot p { s.dev with sync := t.dev.sync } t.dev ∧ OnlyPlotRegs [fPLOT_SEQ_REPLAY_OUT_DONE]
        { s.dev.plot p with outq := rest } (t.dev.plot p)) := by
  have gives := onDevFused_gives live (exec_outboundRelease p rep s)
  rw [outboundRelease_signal queued still target awake below] at gives
  have after : ((s.dev.setPlot p ((s.dev.plot p).releasedHead rest)).syncAdd q ctr add).plot p =
      (s.dev.plot p).releasedHead rest := Dev.plot_setPlot_same _ _ _
  refine gives.completes ?_
  dsimp only
  rw [after]
  exact ⟨syncGet_syncAdd_same _ q ctr add, rfl, (Plot.rg_rs_same _ _ _).trans (Nat.mod_eq_of_lt below),
    ⟨rfl, fun y hy => Dev.plot_setPlot_ne s.dev hy _⟩, OnlyPlotRegs.rs _ _ _⟩

/-- Settles O34: a descriptor within a plot, the fill of a stream, and the release of a SIGNAL. -/
theorem plotTransfers : Obligations.PlotTransfers := by
  intro s p n a k pc id rep live own hn some_ ha hs
  exact ⟨fun run b c others hb listed hid fresh out err unchecked counter desc closed =>
      dmaDescComplete_completes live own hn hs some_ ha hb listed hid fresh out err unchecked counter desc closed rep,
    fun run others listed hid err moved fresh desc idle closed room =>
      streamRecordArrival_completes live own hn hs some_ ha listed hid err moved fresh desc idle closed room rep,
    fun dev dst ctr add q rest queued still target awake below =>
      outboundRelease_completes live queued still target awake below rep⟩

end Sys2Proof.Machine
end

section
/-! PROOFS. The tine instructions that touch their tine alone, or its state and tallies beside it (R182 to R188, R197). -/

namespace Sys2Proof.Machine

/-! ## A tine and registers of its plot -/

/-- Only tine `k` of the plot, which is now `y`, and these of the plot's registers differ. -/
structure TineTouched (p k : Nat) (fs : List Fld) (y : Tine) (d e : Dev) : Prop where
  others : OnlyPlot p d e
  plot : e.plot p = { d.plot p with regs := (e.plot p).regs, tines := (e.plot p).tines }
  tine : (e.plot p).tine k = y
  rest : ∀ j, j ≠ k → (e.plot p).tine j = (d.plot p).tine j
  regs : ∀ g : Fld, g.key ∉ fs.map Fld.key → (e.plot p).rg g = (d.plot p).rg g

theorem TineTouched.refl (p k : Nat) (fs : List Fld) (d : Dev) : TineTouched p k fs ((d.plot p).tine k) d d :=
  ⟨⟨rfl, fun _ _ => rfl⟩, rfl, rfl, fun _ _ => rfl, fun _ _ => rfl⟩

theorem TineTouched.modTine {p k : Nat} {fs : List Fld} {y : Tine} {d e : Dev} (h : TineTouched p k fs y d e)
    (f : Tine → Tine) : TineTouched p k fs (f y) d (e.modTine p k f) := by
  obtain ⟨others, plot, tine, rest, regs⟩ := h
  have after : (e.modTine p k f).plot p = (e.plot p).setTine k (f ((e.plot p).tine k)) := Dev.plot_modPlot_same _ _ _
  refine ⟨others.trans (OnlyPlot.setPlot _ _ _), ?_, ?_, fun j hj => ?_, fun g hg => ?_⟩
  · rw [after, plot]
    rfl
  · rw [Dev.tine_modTine_same, tine]
  · rw [Dev.tine_modTine_ne _ _ hj, rest j hj]
  · rw [after]
    exact regs g hg

theorem TineTouched.setRegs {p k : Nat} {fs : List Fld} {y : Tine} {d e : Dev} (h : TineTouched p k fs y d e) {b : Plot}
    (hb : OnlyPlotRegs fs (e.plot p) b) : TineTouched p k fs y d (e.setPlot p b) := by
  obtain ⟨others, plot, tine, rest, regs⟩ := h
  obtain ⟨only, kept⟩ := hb
  have tines (j : Nat) : b.tine j = (e.plot p).tine j := by
    rw [only]
    rfl
  refine ⟨others.trans (OnlyPlot.setPlot _ _ _), ?_, ?_, fun j hj => ?_, fun g hg => ?_⟩ <;> rw [Dev.plot_setPlot_same]
  · rw [only, plot]
  · rw [tines, tine]
  · rw [tines, rest j hj]
  · rw [kept g hg, regs g hg]

theorem TineTouched.tineCounted {p k : Nat} {fs : List Fld} {y : Tine} {d e : Dev} (h : TineTouched p k fs y d e)
    (hf : fPLOT_UNIT_ICNT_COUNT.at (4 + k) ∈ fs) : TineTouched p k fs y d (e.tineCounted p k) :=
  h.setRegs (OnlyPlotRegs.rs_of_mem hf _ _)

theorem TineTouched.ran {s : State} {e : Dev} {p k : Nat} {fs : List Fld} {f : Tine → Tine}
    (h : TineTouched p k (fs ++ [fPLOT_UNIT_ICNT_COUNT.at (4 + k)]) (f ((s.dev.plot p).tine k)) s.dev e) :
    TineRan p k fs f s { s with dev := e } :=
  ⟨rfl, rfl, h.others, h.plot, h.tine, h.rest, h.regs⟩

theorem TineTouched.ran_tineOn {s : State} {e : Dev} {p k : Nat} {fs : List Fld} {f : Tine → Tine} {y : Tine}
    (h : TineTouched p k (fs ++ [fPLOT_UNIT_ICNT_COUNT.at (4 + k)]) y s.dev e)
    (hf : f ((s.dev.plot p).tine k) = tineAdvance y ((s.dev.plot p).tine k).pc) :
    TineRan p k fs f s { s with dev := e.tineOn p k ((s.dev.plot p).tine k).pc } := by
  have on := (h.tineCounted (by simp)).modTine (tineAdvance · ((s.dev.plot p).tine k).pc)
  rw [← hf] at on
  exact on.ran

/-- A tine instruction that changes its tine and goes on. -/
theorem tineStep_completes {c : Instr} {s : State} {p k w op : Nat} {run : Dev → Nat → Nat → TineRes} {f : Tine → Tine}
    (live : Live s) (hc : exec c s = onDev s fun d => tineStep d p k (isTOp op) false run) (h : TineIssues s.dev p k w)
    (hop : w / 2 ^ 27 = op) (known : op < 0x0E) (hpc : (f ((s.dev.plot p).tine k)).pc = ((s.dev.plot p).tine k).pc)
    (hr : run s.dev ((s.dev.plot p).tine k).pc w = .done (s.dev.modTine p k f)) :
    Completes c s (TineRan p k [] (fun x => (f x).goesOn) s) := by
  have touched := (TineTouched.refl p k ([] ++ [fPLOT_UNIT_ICNT_COUNT.at (4 + k)]) s.dev).modTine f
  refine (tineStep_gives live hc h hop known hr).completes (touched.ran_tineOn ?_)
  rw [Tine.goesOn, hpc]

theorem Completes.imp {c : Instr} {s : State} {P Q : State → Prop} (h : Completes c s P) (hq : ∀ t, P t → Q t) :
    Completes c s Q := by
  obtain ⟨t, gives, holds⟩ := h
  exact ⟨t, gives, hq t holds⟩

/-! ## Address registers (R182) -/

theorem Tine.setReg_pc (x : Tine) (i v : Nat) : (x.setReg i v).pc = x.pc := by
  unfold Tine.setReg
  split <;> rfl

theorem Tine.setReg_congr (x : Tine) (i : Nat) {u v : Nat} (h : u % 2 ^ 32 = v % 2 ^ 32) : x.setReg i u = x.setReg i v := by
  unfold Tine.setReg
  rw [h]

theorem Tine.reg_setReg_same {x : Tine} {i : Nat} (hi : i < x.regs.length) (v : Nat) :
    (x.setReg i v).reg i = if i = 0 then 0 else v % 2 ^ 32 := by
  unfold Tine.setReg Tine.reg
  split_ifs
  · rfl
  · simp [hi]

theorem Tine.reg_goesOn (x : Tine) (i : Nat) : x.goesOn.reg i = x.reg i := by
  rw [Tine.goesOn, tineAdvance_only]
  rfl

theorem Tine.reg_setReg_goesOn {x : Tine} {r : Nat} (hr : r < 8) (eight : x.regs.length = 8) {v : Nat} (hv : v < 2 ^ 32) :
    (x.setReg r v).goesOn.reg r = if r = 0 then 0 else v := by
  rw [Tine.reg_goesOn, Tine.reg_setReg_same (by omega), Nat.mod_eq_of_lt hv]

theorem exec_tset (p k : Nat) (s : State) : exec (.tset p k) s = onDev s fun d => tineStep d p k (isTOp 0x01) false
    fun d _ w => .done (d.modTine p k (fun x => x.setReg (bitsOf w 24 3) (bitsOf w 0 24))) := rfl

/-- The opcode, the register and the 24-bit immediate of a tine word. -/
theorem tineImm_fields {op r v w : Nat} (hr : r < 8) (hv : v < 2 ^ 24) (hw : op * 2 ^ 27 + r * 2 ^ 24 + v = w) :
    w / 2 ^ 27 = op ∧ bitsOf w 24 3 = r ∧ bitsOf w 0 24 = v := by
  unfold bitsOf
  omega

theorem tset_completes {s : State} {p k r v w : Nat} (live : Live s) (hr : r < 8) (hv : v < 2 ^ 24)
    (eight : ((s.dev.plot p).tine k).regs.length = 8) (hw : 0x01 * 2 ^ 27 + r * 2 ^ 24 + v = w) (h : TineIssues s.dev p k w) :
    Completes (.tset p k) s (fun t => TineRan p k [] (fun x => (x.setReg r v).goesOn) s t ∧
      ((t.dev.plot p).tine k).reg r = if r = 0 then 0 else v) := by
  obtain ⟨hop, reg, imm⟩ := tineImm_fields hr hv hw
  have ran := tineStep_completes (f := fun x => x.setReg r v) live (exec_tset p k s) h hop (by decide) (Tine.setReg_pc _ _ _)
    (by rw [reg, imm])
  refine ran.imp fun t ran => ⟨ran, ?_⟩
  obtain ⟨-, -, -, -, tine, -, -⟩ := ran
  rw [tine, Tine.reg_setReg_goesOn hr eight (by omega)]

theorem exec_taddi (p k : Nat) (s : State) : exec (.taddi p k) s = onDev s fun d => tineStep d p k (isTOp 0x02) false
    fun d _ w => .done (d.modTine p k (fun x => x.setReg (bitsOf w 24 3)
      (codeOf 32 ((x.reg (bitsOf w 24 3) : Int) + signedOf 24 (bitsOf w 0 24))))) := rfl

theorem taddi_completes {s : State} {p k r w : Nat} {z : Int} (live : Live s) (hr : r < 8) (lo : -(2 ^ 23) ≤ z)
    (hi : z < 2 ^ 23) (eight : ((s.dev.plot p).tine k).regs.length = 8)
    (hw : 0x02 * 2 ^ 27 + r * 2 ^ 24 + (z % 2 ^ 24).toNat = w) (h : TineIssues s.dev p k w) :
    Completes (.taddi p k) s (fun t =>
      TineRan p k [] (fun x => (x.setReg r (((x.reg r : Int) + z) % 2 ^ 32).toNat).goesOn) s t ∧
      (((t.dev.plot p).tine k).reg r : Int) = if r = 0 then 0 else ((((s.dev.plot p).tine k).reg r : Int) + z) % 2 ^ 32) := by
  obtain ⟨hop, reg, imm⟩ := tineImm_fields hr (by omega) hw
  have ran := tineStep_completes (f := fun x => x.setReg r (((x.reg r : Int) + z) % 2 ^ 32).toNat) live (exec_taddi p k s) h
    hop (by decide) (Tine.setReg_pc _ _ _) (by simp only [reg, imm, signedOf_emod_24 lo hi, codeOf_eq])
  refine ran.imp fun t ran => ⟨ran, ?_⟩
  obtain ⟨-, -, -, -, tine, -, -⟩ := ran
  rw [tine, Tine.reg_setReg_goesOn hr eight (by omega)]
  split <;> omega

theorem exec_tlda (p k : Nat) (s : State) : exec (.tlda p k) s = onDev s fun d => tineStep d p k (isTOp 0x03) false
    fun d _ w => if bitsOf w 0 19 ≠ 0 then .stop d 0x0D0A false else .done (d.modTine p k (fun x => x.setReg (bitsOf w 24 3)
      (if bitOf w 19 then ((d.plot p).chan (k / 4)).args.getD (bitsOf w 20 4) 0 / 2 ^ 32
        else ((d.plot p).chan (k / 4)).args.getD (bitsOf w 20 4) 0 % 2 ^ 32))) := rfl

theorem tlda_fields {r j h w : Nat} (hr : r < 8) (hj : j < 16) (hh : h < 2)
    (hw : 0x03 * 2 ^ 27 + r * 2 ^ 24 + j * 2 ^ 20 + h * 2 ^ 19 = w) :
    bitOf w 19 = (h == 1) ∧ w / 2 ^ 27 = 0x03 ∧ bitsOf w 24 3 = r ∧ bitsOf w 20 4 = j ∧ bitsOf w 0 19 = 0 := by
  constructor
  · unfold bitOf
    congr 1
    omega
  · unfold bitsOf
    omega

/-- The half of an argument that TLDA takes. -/
theorem argument_half (a : Nat) {h : Nat} (hh : h < 2) :
    (if (h == 1) = true then a / 2 ^ 32 else a % 2 ^ 32) % 2 ^ 32 = a / 2 ^ (32 * h) % 2 ^ 32 % 2 ^ 32 := by
  rw [Nat.mod_mod]
  interval_cases h <;> simp

theorem tlda_completes {s : State} {p k r j h w : Nat} (live : Live s) (hr : r < 8) (hj : j < 16) (hh : h < 2)
    (hw : 0x03 * 2 ^ 27 + r * 2 ^ 24 + j * 2 ^ 20 + h * 2 ^ 19 = w) (issues : TineIssues s.dev p k w) :
    Completes (.tlda p k) s (TineRan p k [] (fun x => (x.setReg r
      (((s.dev.plot p).chan (k / 4)).args.getD j 0 / 2 ^ (32 * h) % 2 ^ 32)).goesOn) s) := by
  obtain ⟨half, hop, reg, arg, rest⟩ := tlda_fields hr hj hh hw
  refine tineStep_completes (f := fun x => x.setReg r (((s.dev.plot p).chan (k / 4)).args.getD j 0 / 2 ^ (32 * h) % 2 ^ 32))
    live (exec_tlda p k s) issues hop (by decide) (Tine.setReg_pc _ _ _) ?_
  simp only [rest, reg, arg, half, ne_eq, not_true_eq_false, if_false]
  exact congrArg (fun f => TineRes.done (s.dev.modTine p k f)) (funext fun x => x.setReg_congr r (argument_half _ hh))

/-! ## TEND, TLOOP and TCLR (R186 to R188) -/

theorem exec_tend (p k : Nat) (s : State) : exec (.tend p k) s = onDev s fun d => tineStep d p k (isTOp 0x00) true
    fun d _ w => if bitsOf w 0 27 ≠ 0 then .stop d 0x0D0A false
      else .done ((d.modTine p k (fun x => { x with ended := true })).modPlot p (·.rs (fBED_TINE_STATUS_STATE.bit k) 0)) := rfl

theorem tend_completes {s : State} {p k : Nat} (live : Live s) (h : TineIssues s.dev p k 0) :
    Completes (.tend p k) s (fun t =>
      TineRan p k [fBED_TINE_STATUS_STATE.bit k] (fun x => { x with ended := true }) s t ∧
      (t.dev.plot p).rg (fBED_TINE_STATUS_STATE.bit k) = 0) := by
  have touched := (((TineTouched.refl p k ([fBED_TINE_STATUS_STATE.bit k] ++ [fPLOT_UNIT_ICNT_COUNT.at (4 + k)])
    s.dev).modTine fun x => { x with ended := true }).setRegs
      (OnlyPlotRegs.rs_of_mem (f := fBED_TINE_STATUS_STATE.bit k) (by simp) _ 0)).tineCounted (by simp)
  refine (tineStep_holds live (exec_tend p k s) h rfl (by decide) rfl).completes ⟨touched.ran, ?_⟩
  have key : (fBED_TINE_STATUS_STATE.bit k).key ≠ (fPLOT_UNIT_ICNT_COUNT.at (4 + k)).key := by
    obtain ⟨-, hk, -⟩ := h
    simp only [Fld.bit, Fld.at, Fld.key, fBED_TINE_STATUS_STATE, fPLOT_UNIT_ICNT_COUNT]
    omega
  dsimp only
  rw [Dev.tineCounted_plot, Dev.plot_modPlot_same]
  exact (Plot.rg_rs_ne _ key _).trans (Plot.rg_rs_same _ _ 0)

theorem exec_tloop (p k : Nat) (s : State) : exec (.tloop p k) s = onDev s fun d => tineStep d p k (isTOp 0x04) true
    fun d pc w =>
      if bitsOf w 13 14 ≤ pc || !(match ((d.plot p).tine k).loops with
          | [] => true
          | l :: _ => decide (bitsOf w 13 14 ≤ l.last)) ||
        (bitsOf w 0 13 ≠ 0 && 2 ≤ ((d.plot p).tine k).loops.length) then .stop d 0x0D0C false
      else if bitsOf w 0 13 = 0 then .done (d.modTine p k (fun x => tineAdvance x (bitsOf w 13 14)))
      else .done (d.modTine p k (fun x =>
        { x with loops := ⟨pc + 1, bitsOf w 13 14, bitsOf w 0 13⟩ :: x.loops, pc := pc + 1 })) := rfl

theorem tloop_fields {last n w : Nat} (hl : last < 2 ^ 14) (hn : n < 2 ^ 13) (hw : 0x04 * 2 ^ 27 + last * 2 ^ 13 + n = w) :
    w / 2 ^ 27 = 0x04 ∧ bitsOf w 13 14 = last ∧ bitsOf w 0 13 = n := by
  unfold bitsOf
  omega

theorem tloop_completes {s : State} {p k last n w : Nat} (live : Live s) (ahead : ((s.dev.plot p).tine k).pc < last)
    (hl : last < 2 ^ 14) (some_ : 0 < n) (hn : n < 2 ^ 13) (outside : ((s.dev.plot p).tine k).loops = [])
    (hw : 0x04 * 2 ^ 27 + last * 2 ^ 13 + n = w) (h : TineIssues s.dev p k w) :
    Completes (.tloop p k) s
      (TineRan p k [] (fun x => { x with loops := [⟨x.pc + 1, last, n⟩], pc := x.pc + 1 }) s) := by
  obtain ⟨hop, fin, count⟩ := tloop_fields hl hn hw
  have touched := ((TineTouched.refl p k ([] ++ [fPLOT_UNIT_ICNT_COUNT.at (4 + k)]) s.dev).modTine fun x => { x with
    loops := ⟨((s.dev.plot p).tine k).pc + 1, last, n⟩ :: x.loops, pc := ((s.dev.plot p).tine k).pc + 1 }).tineCounted (by simp)
  rw [outside] at touched
  refine (tineStep_holds live (exec_tloop p k s) h hop (by decide) ?_).completes touched.ran
  simp [fin, count, outside, Nat.not_le.mpr ahead, Nat.ne_of_gt some_]

theorem exec_tclr (p k : Nat) (s : State) : exec (.tclr p k) s = onDev s fun d => tineStep d p k (isTOp 0x07) false
    fun d _ w => if bitsOf w 0 27 ≠ 0 then .stop d 0x0D0A false
      else .done (d.modTine p k (fun x => { x with acc := [], att := [], intTmv := false })) := rfl

theorem tclr_completes {s : State} {p k : Nat} (live : Live s) (h : TineIssues s.dev p k (0x07 * 2 ^ 27)) :
    Completes (.tclr p k) s (TineRan p k [] (fun x => { x with acc := [], att := [], intTmv := false }.goesOn) s) :=
  tineStep_completes live (exec_tclr p k s) h rfl (by decide) rfl rfl

/-! ## TCRC with OP 0 (R197) -/

theorem exec_tcrcClear (p k : Nat) (s : State) : exec (.tcrcClear p k) s =
    onDev s fun d => tineStep d p k (fun w => isTOp 0x0D w && !bitOf w 26) false fun d _ w =>
      if bitsOf w 0 23 ≠ 0 then .stop d 0x0D0A false
      else .done (d.modPlot p fun pl =>
        (pl.rs (fBED_TINE_TALLY_EVEN_CRC.at k) 0).rs (fBED_TINE_TALLY_ODD_CRC.at k) 0) := rfl

theorem Dev.tineOn_rg (e : Dev) {p k : Nat} {g : Fld} (hg : g.key ≠ (fPLOT_UNIT_ICNT_COUNT.at (4 + k)).key) (pc : Nat) :
    ((e.tineOn p k pc).plot p).rg g = (e.plot p).rg g := by
  rw [Dev.tineOn, Dev.modTine, Dev.plot_modPlot_same, Dev.tineCounted_plot]
  exact Plot.rg_rs_ne _ hg _

theorem tcrcClear_completes {s : State} {p k : Nat} (live : Live s) (h : TineIssues s.dev p k (0x0D * 2 ^ 27)) :
    Completes (.tcrcClear p k) s (fun t =>
      TineRan p k [fBED_TINE_TALLY_EVEN_CRC.at k, fBED_TINE_TALLY_ODD_CRC.at k] Tine.goesOn s t ∧
      (t.dev.plot p).rg (fBED_TINE_TALLY_EVEN_CRC.at k) = 0 ∧ (t.dev.plot p).rg (fBED_TINE_TALLY_ODD_CRC.at k) = 0) := by
  have gives : Gives (.tcrcClear p k) s ((s.dev.modPlot p fun pl =>
      (pl.rs (fBED_TINE_TALLY_EVEN_CRC.at k) 0).rs (fBED_TINE_TALLY_ODD_CRC.at k) 0).tineOn p k
        ((s.dev.plot p).tine k).pc) := by
    rw [Gives, exec_tcrcClear, onDev_live live, tineStep_done false h (by decide) rfl rfl]
    rfl
  have touched := (TineTouched.refl p k ([fBED_TINE_TALLY_EVEN_CRC.at k, fBED_TINE_TALLY_ODD_CRC.at k] ++
    [fPLOT_UNIT_ICNT_COUNT.at (4 + k)]) s.dev).setRegs ((OnlyPlotRegs.rs_of_mem (f := fBED_TINE_TALLY_EVEN_CRC.at k) (by simp)
      (s.dev.plot p) 0).trans (OnlyPlotRegs.rs_of_mem (f := fBED_TINE_TALLY_ODD_CRC.at k) (by simp) _ 0))
  obtain ⟨-, hk, -⟩ := h
  have evenOdd : (fBED_TINE_TALLY_EVEN_CRC.at k).key ≠ (fBED_TINE_TALLY_ODD_CRC.at k).key := by
    simp only [Fld.at, Fld.key, fBED_TINE_TALLY_EVEN_CRC, fBED_TINE_TALLY_ODD_CRC]
    omega
  have evenCount : (fBED_TINE_TALLY_EVEN_CRC.at k).key ≠ (fPLOT_UNIT_ICNT_COUNT.at (4 + k)).key := by
    simp only [Fld.at, Fld.key, fBED_TINE_TALLY_EVEN_CRC, fPLOT_UNIT_ICNT_COUNT]
    omega
  have oddCount : (fBED_TINE_TALLY_ODD_CRC.at k).key ≠ (fPLOT_UNIT_ICNT_COUNT.at (4 + k)).key := by
    simp only [Fld.at, Fld.key, fBED_TINE_TALLY_ODD_CRC, fPLOT_UNIT_ICNT_COUNT]
    omega
  refine gives.completes ⟨touched.ran_tineOn rfl, ?_, ?_⟩
  · rw [Dev.tineOn_rg _ evenCount, Dev.plot_modPlot_same, Plot.rg_rs_ne _ evenOdd]
    exact Plot.rg_rs_same _ _ 0
  · rw [Dev.tineOn_rg _ oddCount, Dev.plot_modPlot_same]
    exact Plot.rg_rs_same _ _ 0

/-- Settles O15: each instruction by the one rule of issue, its change of the tine and of the registers that it names. -/
theorem tineRegistersAndLoops : Obligations.TineRegistersAndLoops := by
  intro s p k r live hr
  exact ⟨fun h => tend_completes live h,
    fun v hv eight h => tset_completes live hr hv eight rfl h,
    fun z lo hi eight h => taddi_completes live hr lo hi eight rfl h,
    fun j half hj hh h => tlda_completes live hr hj hh rfl h,
    fun last n ahead hl some_ hn outside h => tloop_completes live ahead hl some_ hn outside rfl h,
    fun h => tclr_completes live h, fun h => tcrcClear_completes live h⟩

end Sys2Proof.Machine
end

section
/-! PROOFS. Writes to the registers of a bed: BED_CH_CFG, BED_CH_FLIP and BED_TINE_PM_DATA (R177, R184, R210). -/

namespace Sys2Proof.Machine

/-- A write to one field of a register array leaves the register's other fields alone. -/
theorem Plot.rg_rs_at_ne (pl : Plot) {f g : Fld} (off : g.off = f.off) (stride : g.s1 = f.s1) (lo : g.lo ≠ f.lo) (i v : Nat) :
    (pl.rs (f.at i) v).rg (g.at i) = pl.rg (g.at i) := by
  refine Plot.rg_rs_ne pl ?_ v
  simp only [Fld.at, Fld.key, off, stride]
  omega

/-! ## BED_CH_CFG (R210) -/

theorem exec_bedChCfgWrite (p ch v : Nat) (s : State) : exec (.bedChCfgWrite p ch v) s =
    onDev s fun d => if isPlot p && ch < 4 then writeBedCfg (wakePlot d p) p ch v else d := rfl

theorem bedChCfgWrite_gives {s : State} {p ch : Nat} (live : Live s) (plot : isPlot p = true) (hc : ch < 4)
    (awake : (s.dev.plot p).rg fPLOT_PWR_STATE = 0) (v : Nat) :
    Gives (.bedChCfgWrite p ch v) s (writeBedCfg s.dev p ch v) := by
  rw [Gives, exec_bedChCfgWrite, onDev_live live, if_pos (by simp [plot, hc]), wakePlot_awake awake]

theorem bedCfg_fields {thr lim : Nat} (ht : thr < 256) (hl : lim < 128) :
    bitsOf (thr * 2 ^ 8 + lim) 8 8 = thr ∧ bitsOf (thr * 2 ^ 8 + lim) 0 7 = lim := by
  unfold bitsOf
  omega

theorem bedChCfgWrite_sets {s : State} {p ch thr lim : Nat} (live : Live s) (plot : isPlot p = true) (hc : ch < 4)
    (awake : (s.dev.plot p).rg fPLOT_PWR_STATE = 0) (some_ : 0 < thr) (ht : thr < 256) (hl : lim ≤ 80) :
    Completes (.bedChCfgWrite p ch (thr * 2 ^ 8 + lim)) s (fun t => OnlyPlot p s.dev t.dev ∧
      OnlyPlotRegs [fBED_CH_CFG_REMAP_THRESHOLD.at ch, fBED_CH_CFG_BATCH_LIMIT.at ch] (s.dev.plot p) (t.dev.plot p) ∧
      (t.dev.plot p).rg (fBED_CH_CFG_REMAP_THRESHOLD.at ch) = thr ∧
      (t.dev.plot p).rg (fBED_CH_CFG_BATCH_LIMIT.at ch) = lim) := by
  obtain ⟨thrBits, limBits⟩ := bedCfg_fields ht (show lim < 128 by omega)
  have written : writeBedCfg s.dev p ch (thr * 2 ^ 8 + lim) = s.dev.setPlot p
      (((s.dev.plot p).rs (fBED_CH_CFG_REMAP_THRESHOLD.at ch) thr).rs (fBED_CH_CFG_BATCH_LIMIT.at ch) lim) := by
    simp only [writeBedCfg, thrBits, limBits, show ¬ (thr = 0 ∨ 80 < lim) by omega, if_false]
    rfl
  have gives := bedChCfgWrite_gives live plot hc awake (thr * 2 ^ 8 + lim)
  rw [written] at gives
  refine gives.completes ⟨OnlyPlot.setPlot _ _ _, ?_⟩
  rw [Dev.plot_setPlot_same]
  refine ⟨(OnlyPlotRegs.rs_of_mem (by simp) _ _).trans (OnlyPlotRegs.rs_of_mem (by simp) _ _), ?_, ?_⟩
  · simp (disch := decide) only [Plot.rg_rs_at_ne]
    exact (Plot.rg_rs_same _ _ _).trans (Nat.mod_eq_of_lt ht)
  · exact (Plot.rg_rs_same _ _ _).trans (Nat.mod_eq_of_lt (show lim < 2 ^ 7 by omega))

theorem bedChCfgWrite_refuses {s : State} {p ch thr lim : Nat} (live : Live s) (plot : isPlot p = true) (hc : ch < 4)
    (awake : (s.dev.plot p).rg fPLOT_PWR_STATE = 0) (hl : lim < 128) (ht : thr < 256) (out : thr = 0 ∨ 80 < lim) :
    Completes (.bedChCfgWrite p ch (thr * 2 ^ 8 + lim)) s (fun t =>
      (t.dev.plot p).rg (fBED_CH_CFG_REMAP_THRESHOLD.at ch) = (s.dev.plot p).rg (fBED_CH_CFG_REMAP_THRESHOLD.at ch) ∧
      (t.dev.plot p).rg (fBED_CH_CFG_BATCH_LIMIT.at ch) = (s.dev.plot p).rg (fBED_CH_CFG_BATCH_LIMIT.at ch)) := by
  obtain ⟨thrBits, limBits⟩ := bedCfg_fields ht hl
  have refused : writeBedCfg s.dev p ch (thr * 2 ^ 8 + lim) = recordPlot s.dev p 0x0D21 := by
    simp only [writeBedCfg, thrBits, limBits, out, if_true]
  have gives := bedChCfgWrite_gives live plot hc awake (thr * 2 ^ 8 + lim)
  rw [refused] at gives
  refine gives.completes ⟨recordErr_plot_rg _ _ _ _ _ _ ?_, recordErr_plot_rg _ _ _ _ _ _ ?_⟩
  · simp only [outsideBank, Fld.at, Fld.key, fBED_CH_CFG_REMAP_THRESHOLD]
    omega
  · simp only [outsideBank, Fld.at, Fld.key, fBED_CH_CFG_BATCH_LIMIT]
    omega

/-! ## BED_CH_FLIP (R177) -/

theorem exec_bedChFlipWrite (p ch v : Nat) (s : State) : exec (.bedChFlipWrite p ch v) s = onDev s fun d =>
    if isPlot p && ch < 4 then (wakePlot d p).modPlot p (fun pl => writeBedFlip pl ch v) else d := rfl

/-- The fields of BED_CH_FLIP take the bits of the word written. -/
theorem writeBedFlip_rg (pl : Plot) (ch v : Nat) :
    (writeBedFlip pl ch v).rg (fBED_CH_FLIP_ARM.at ch) = bitsOf v 30 1 ∧
      (writeBedFlip pl ch v).rg (fBED_CH_FLIP_SYM_A.at ch) = bitsOf v 8 6 ∧
      (writeBedFlip pl ch v).rg (fBED_CH_FLIP_MASK_A.at ch) = bitsOf v 0 8 ∧
      (writeBedFlip pl ch v).rg (fBED_CH_FLIP_SYM_B.at ch) = bitsOf v 24 6 ∧
      (writeBedFlip pl ch v).rg (fBED_CH_FLIP_MASK_B.at ch) = bitsOf v 16 8 := by
  have fits (n lo w : Nat) : bitsOf n lo w % 2 ^ w = bitsOf n lo w := Nat.mod_mod _ _
  unfold writeBedFlip
  refine ⟨?_, ?_, ?_, ?_, ?_⟩ <;> simp (disch := decide) only [Plot.rg_rs_at_ne, Plot.rg_rs_same]
  all_goals exact fits _ _ _

theorem bedFlip_fields {arm sa ma sb mb v : Nat} (harm : arm < 2) (hsa : sa < 64) (hma : ma < 256) (hsb : sb < 64)
    (hmb : mb < 256) (hv : arm * 2 ^ 30 + sb * 2 ^ 24 + mb * 2 ^ 16 + sa * 2 ^ 8 + ma = v) :
    bitsOf v 30 1 = arm ∧ bitsOf v 8 6 = sa ∧ bitsOf v 0 8 = ma ∧ bitsOf v 24 6 = sb ∧ bitsOf v 16 8 = mb := by
  unfold bitsOf
  omega

theorem bedChFlipWrite_completes {s : State} {p ch : Nat} (live : Live s) (plot : isPlot p = true) (hc : ch < 4)
    (awake : (s.dev.plot p).rg fPLOT_PWR_STATE = 0) (v : Nat) : Completes (.bedChFlipWrite p ch v) s (fun t =>
      OnlyPlot p s.dev t.dev ∧ (t.dev.plot p).rg (fBED_CH_FLIP_ARM.at ch) = bitsOf v 30 1 ∧
      (t.dev.plot p).rg (fBED_CH_FLIP_SYM_A.at ch) = bitsOf v 8 6 ∧
      (t.dev.plot p).rg (fBED_CH_FLIP_MASK_A.at ch) = bitsOf v 0 8 ∧
      (t.dev.plot p).rg (fBED_CH_FLIP_SYM_B.at ch) = bitsOf v 24 6 ∧
      (t.dev.plot p).rg (fBED_CH_FLIP_MASK_B.at ch) = bitsOf v 16 8) := by
  have gives : Gives (.bedChFlipWrite p ch v) s (s.dev.setPlot p (writeBedFlip (s.dev.plot p) ch v)) := by
    rw [Gives, exec_bedChFlipWrite, onDev_live live, if_pos (by simp [plot, hc]), wakePlot_awake awake]
    rfl
  refine gives.completes ⟨OnlyPlot.setPlot _ _ _, ?_⟩
  rw [Dev.plot_setPlot_same]
  exact writeBedFlip_rg _ ch v

/-! ## BED_TINE_PM_DATA (R184) -/

theorem exec_bedTinePmDataWrite (p v : Nat) (s : State) : exec (.bedTinePmDataWrite p v) s =
    onDev s fun d => if isPlot p then writeTinePm (wakePlot d p) p v else d := rfl

/-- A channel whose tine store holds one more word, without error. -/
def Channel.pmStored (c : Channel) (i v : Nat) : Channel :=
  { c with pm := SMap.set 0xFFFFFFFF c.pm i (v % 2 ^ 32), pmErr := SMap.set 0 c.pmErr i 0 }

/-- A word goes to the store of one channel, if the mask names it; an armed flip hits it. -/
def Plot.tinePmWrite (m i v : Nat) (pl : Plot) (ch : Nat) : Plot :=
  if bitOf m ch then
    let flip := flipArmed pl 3 && pl.rg fPLOT_MEM_FLIP_CHANNEL = ch
    let pl := pl.setChan ch { pl.chan ch with
      pm := SMap.set 0xFFFFFFFF (pl.chan ch).pm i (v % 2 ^ 32),
      pmErr := SMap.set 0 (pl.chan ch).pmErr i (if flip then flipMask pl 39 else 0) }
    if flip then pl.rs fPLOT_MEM_FLIP_ARM 0 else pl
  else pl

theorem Plot.tinePmWrite_disarmed {pl : Plot} (h : pl.rg fPLOT_MEM_FLIP_ARM = 0) (m i v ch : Nat) :
    pl.tinePmWrite m i v ch = if bitOf m ch then pl.setChan ch ((pl.chan ch).pmStored i v) else pl := by
  have disarmed : flipArmed pl 3 = false := by simp [flipArmed, h]
  simp only [Plot.tinePmWrite, disarmed, Bool.false_and, Bool.false_eq_true, if_false, Channel.pmStored]

/-- No tine of a named channel runs or is paused. -/
theorem writeTinePm_idle {d : Dev} {p : Nat} (idle : ∀ k, k < 16 → (d.plot p).rg (fBED_TINE_STATUS_STATE.bit k) = 0) (v : Nat) :
    writeTinePm d p v = d.setPlot p ((List.range 4).foldl (Plot.tinePmWrite ((d.plot p).rg fBED_TINE_PM_ADDR_CHMASK)
      ((d.plot p).rg fBED_TINE_PM_ADDR_INDEX) v) (d.plot p)) := by
  have quiet : (issueTines ((d.plot p).rg fBED_TINE_PM_ADDR_CHMASK)).any (fun t =>
      (d.plot p).rg (fBED_TINE_STATUS_STATE.bit t) = 1 || (d.plot p).rg (fBED_TINE_STATUS_STATE.bit t) = 2) = false :=
    List.any_eq_false.mpr fun t ht => by simp [idle t (issueTines_mem ht).1]
  unfold writeTinePm
  simp only [quiet, Bool.false_eq_true, if_false]
  rfl

/-- While no flip is armed the word reaches the stores of the channels named, and nothing else changes. -/
theorem tinePmWrites_view {pl : Plot} (disarmed : pl.rg fPLOT_MEM_FLIP_ARM = 0) (m i v : Nat) :
    ((List.range 4).foldl (Plot.tinePmWrite m i v) pl).regs = pl.regs ∧ ∀ c, c < 4 →
      ((List.range 4).foldl (Plot.tinePmWrite m i v) pl).chan c =
        if bitOf m c then (pl.chan c).pmStored i v else pl.chan c :=
  foldl_range_view (view := fun (b : Plot) c => b.chan c) (Q := fun b => b.regs = pl.regs) (P := fun _ _ => True)
    (new := fun c x => if bitOf m c then x.pmStored i v else x)
    (fun b j _ regs _ => by
      have same : b.rg fPLOT_MEM_FLIP_ARM = 0 := by rw [Plot.rg, regs, ← Plot.rg, disarmed]
      rw [Plot.tinePmWrite_disarmed same]
      by_cases named : bitOf m j = true
      · simp only [named, if_true]
        exact ⟨regs, Plot.chan_setChan_same _ _ _, fun k _ ne => Plot.chan_setChan_ne _ ne _⟩
      · simp only [named]
        exact ⟨regs, rfl, fun _ _ _ => rfl⟩) rfl fun _ _ => trivial

theorem tineFetch_pmStored {pl : Plot} {c i v : Nat} {x : Channel} (stored : pl.chan c = x.pmStored i v) (hv : v < 2 ^ 32) :
    tineFetch pl (4 * c) i = (v, 0) := by
  simp [tineFetch, stored, Channel.pmStored, popCount_zero]
  exact hv

theorem tineFetch_pmStored_ne {a b : Plot} {c i j v : Nat} (stored : b.chan c = (a.chan c).pmStored i v) (hj : j ≠ i) :
    tineFetch b (4 * c) j = tineFetch a (4 * c) j := by
  have place : 4 * c / 4 = c := by omega
  simp only [tineFetch, place, stored, Channel.pmStored, SMap.get_set_ne _ _ _ hj]

theorem tineFetch_congr {a b : Plot} {c : Nat} (same : b.chan c = a.chan c) (j : Nat) :
    tineFetch b (4 * c) j = tineFetch a (4 * c) j := by
  have place : 4 * c / 4 = c := by omega
  simp only [tineFetch, place, same]

theorem bedTinePmDataWrite_completes {s : State} {p v i m : Nat} (live : Live s) (plot : isPlot p = true)
    (awake : (s.dev.plot p).rg fPLOT_PWR_STATE = 0) (hv : v < 2 ^ 32)
    (index : (s.dev.plot p).rg fBED_TINE_PM_ADDR_INDEX = i) (mask : (s.dev.plot p).rg fBED_TINE_PM_ADDR_CHMASK = m)
    (idle : ∀ k, k < 16 → (s.dev.plot p).rg (fBED_TINE_STATUS_STATE.bit k) = 0)
    (disarmed : (s.dev.plot p).rg fPLOT_MEM_FLIP_ARM = 0) :
    Completes (.bedTinePmDataWrite p v) s (fun t => OnlyPlot p s.dev t.dev ∧ (t.dev.plot p).regs = (s.dev.plot p).regs ∧
      ∀ c, c < 4 → (bitOf m c = true → tineFetch (t.dev.plot p) (4 * c) i = (v, 0)) ∧
        (bitOf m c = false → (t.dev.plot p).chan c = (s.dev.plot p).chan c) ∧
        ∀ j, j ≠ i → tineFetch (t.dev.plot p) (4 * c) j = tineFetch (s.dev.plot p) (4 * c) j) := by
  have gives : Gives (.bedTinePmDataWrite p v) s (writeTinePm s.dev p v) := by
    rw [Gives, exec_bedTinePmDataWrite, onDev_live live, if_pos plot, wakePlot_awake awake]
  rw [writeTinePm_idle idle, index, mask] at gives
  obtain ⟨regs, chans⟩ := tinePmWrites_view disarmed m i v
  refine gives.completes ⟨OnlyPlot.setPlot _ _ _, ?_⟩
  rw [Dev.plot_setPlot_same]
  refine ⟨regs, fun c hc => ?_⟩
  have chan := chans c hc
  by_cases named : bitOf m c = true
  · rw [if_pos named] at chan
    exact ⟨fun _ => tineFetch_pmStored chan hv, fun other => absurd (named.symm.trans other) (by decide),
      fun j hj => tineFetch_pmStored_ne chan hj⟩
  · rw [if_neg named] at chan
    exact ⟨fun yes => absurd yes named, fun _ => chan, fun j _ => tineFetch_congr chan j⟩

/-- Settles O14: the range check of BED_CH_CFG, the fields of BED_CH_FLIP, and the stores that BED_TINE_PM_DATA reaches. -/
theorem bedRegisterWrites : Obligations.BedRegisterWrites := by
  intro s p ch live plot hc awake
  refine ⟨fun thr lim some_ ht hl => bedChCfgWrite_sets live plot hc awake some_ ht hl,
    fun thr lim hl ht out => bedChCfgWrite_refuses live plot hc awake hl ht out,
    fun arm sa ma sb mb harm hsa hma hsb hmb => ?_,
    fun v i m hv index mask idle disarmed =>
      bedTinePmDataWrite_completes live plot awake hv index mask idle disarmed⟩
  have written := bedChFlipWrite_completes live plot hc awake (arm * 2 ^ 30 + sb * 2 ^ 24 + mb * 2 ^ 16 + sa * 2 ^ 8 + ma)
  obtain ⟨armBit, symA, maskA, symB, maskB⟩ := bedFlip_fields harm hsa hma hsb hmb rfl
  rwa [armBit, symA, maskA, symB, maskB] at written

end Sys2Proof.Machine
end

section
/-! PROOFS. Refresh of a bed's banks: the owed counts, the start and the end of a refresh (R202 to R206). -/

namespace Sys2Proof.Machine

/-! ## Masks of banks -/

theorem bitOf_zero (i : Nat) : bitOf 0 i = false := by simp [bitOf]

theorem withBit_zero (i : Nat) : withBit 0 i = 2 ^ i := by simp [withBit, bitOf_zero]

theorem bitOf_clearBit (n b k : Nat) : bitOf (clearBit n b) k = (bitOf n k && decide (k ≠ b)) := by
  by_cases set : bitOf n b = true
  · rw [clearBit, if_pos set]
    have weight := Nat.two_pow_pos b
    simp only [bitOf, beq_iff_eq] at set
    have quotient : (n - 2 ^ b) / 2 ^ b = n / 2 ^ b - 1 := by simpa using Nat.sub_mul_div n (2 ^ b) 1
    have clear : bitOf (n - 2 ^ b) b = false := by
      simp only [bitOf, quotient, beq_eq_false_iff_ne]
      omega
    have atLeast : 2 ^ b ≤ n := by
      by_contra less
      rw [Nat.div_eq_of_lt (by omega)] at set
      omega
    by_cases same : k = b
    · simp [same, clear]
    · have others := bitOf_add_two_pow_ne clear same
      rw [Nat.sub_add_cancel atLeast] at others
      simp [others, same]
  · rw [clearBit, if_neg set]
    by_cases same : k = b
    · simp [same, Bool.eq_false_iff.mpr set]
    · simp [same]

/-! ## REFRESH_DUE (R204, R206) -/

theorem exec_refreshDue (p ch b : Nat) (s : State) : exec (.refreshDue p ch b) s =
    onDev s fun d => if isPlot p && ch < 4 && b < 8 then refreshDue d p ch b else d := rfl

theorem refreshDue_gives {s : State} {p ch b : Nat} (live : Live s) (plot : isPlot p = true) (hc : ch < 4) (hb : b < 8) :
    Gives (.refreshDue p ch b) s (refreshDue s.dev p ch b) := by
  rw [Gives, exec_refreshDue, onDev_live live, if_pos (by simp [plot, hc, hb])]

theorem refreshDue_postponed {s : State} {p ch b : Nat} (live : Live s) (plot : isPlot p = true) (hc : ch < 4) (hb : b < 8)
    (few : (s.dev.plot p).rg ((fBED_CH_OWED_OWED.at ch).bit b) < 4) : Completes (.refreshDue p ch b) s (fun t =>
      OnlyPlot p s.dev t.dev ∧ OnlyPlotRegs [(fBED_CH_OWED_OWED.at ch).bit b] (s.dev.plot p) (t.dev.plot p) ∧
      (t.dev.plot p).rg ((fBED_CH_OWED_OWED.at ch).bit b) = (s.dev.plot p).rg ((fBED_CH_OWED_OWED.at ch).bit b) + 1) := by
  have gives := refreshDue_gives live plot hc hb
  have owes : refreshDue s.dev p ch b = s.dev.setPlot p ((s.dev.plot p).rs ((fBED_CH_OWED_OWED.at ch).bit b)
      ((s.dev.plot p).rg ((fBED_CH_OWED_OWED.at ch).bit b) + 1)) := by
    simp only [refreshDue, Dev.modPlot, few, if_true]
  rw [owes] at gives
  refine gives.completes ⟨OnlyPlot.setPlot _ _ _, ?_⟩
  rw [Dev.plot_setPlot_same]
  exact ⟨OnlyPlotRegs.rs _ _ _, (Plot.rg_rs_same _ _ _).trans (Nat.mod_eq_of_lt (show _ + 1 < 2 ^ 3 by omega))⟩

theorem refreshDue_forced {s : State} {p ch b : Nat} (live : Live s) (plot : isPlot p = true) (hc : ch < 4) (hb : b < 8)
    (many : 4 ≤ (s.dev.plot p).rg ((fBED_CH_OWED_OWED.at ch).bit b)) : Completes (.refreshDue p ch b) s (fun t =>
      OnlyPlot p s.dev t.dev ∧ bitOf ((t.dev.plot p).chan ch).refreshing b = true ∧
      (t.dev.plot p).rg (fBED_CH_CNT_FORCED_REFRESH.at ch) =
        min 65535 ((s.dev.plot p).rg (fBED_CH_CNT_FORCED_REFRESH.at ch) + 1)) := by
  have gives := refreshDue_gives live plot hc hb
  have forces : refreshDue s.dev p ch b = s.dev.setPlot p (((s.dev.plot p).setChan ch { (s.dev.plot p).chan ch with
      refreshing := withBit ((s.dev.plot p).chan ch).refreshing b }).count (fBED_CH_CNT_FORCED_REFRESH.at ch) 1) := by
    simp only [refreshDue, Dev.modPlot, Nat.not_lt.mpr many, if_false]
  rw [forces] at gives
  refine gives.completes ⟨OnlyPlot.setPlot _ _ _, ?_⟩
  rw [Dev.plot_setPlot_same]
  refine ⟨?_, (Plot.rg_rs_same _ _ _).trans (Nat.mod_eq_of_lt ?_)⟩
  · exact (congrArg (fun c : Channel => bitOf c.refreshing b) (Plot.chan_setChan_same _ _ _)).trans (bitOf_withBit_same _ _)
  · exact Nat.lt_of_le_of_lt (Nat.min_le_left _ _) (by decide : 65535 < 2 ^ 16)

/-! ## REFRESH_START (R205) -/

theorem exec_refreshStart (p ch b : Nat) (s : State) : exec (.refreshStart p ch b) s = onDev s fun d => d.modPlot p fun pl =>
    if isPlot p && ch < 4 && b < 8 && refreshMay pl ch b then
      (pl.setChan ch { pl.chan ch with refreshing := withBit (pl.chan ch).refreshing b }).rs
        ((fBED_CH_OWED_OWED.at ch).bit b) (pl.rg ((fBED_CH_OWED_OWED.at ch).bit b) - 1)
    else pl := rfl

/-- In tine mode an owed refresh may start while no bank of the channel refreshes. -/
theorem refreshMay_tine {pl : Plot} {ch b : Nat} (mode : pl.chMode ch = 2)
    (owes : 0 < pl.rg ((fBED_CH_OWED_OWED.at ch).bit b)) (none : (pl.chan ch).refreshing = 0) : refreshMay pl ch b = true := by
  simp [refreshMay, mode, chTINE, owes, none, bitOf_zero]

theorem refreshStart_completes {s : State} {p ch b : Nat} (live : Live s) (plot : isPlot p = true) (hc : ch < 4) (hb : b < 8)
    (mode : (s.dev.plot p).chMode ch = 2) (owes : 0 < (s.dev.plot p).rg ((fBED_CH_OWED_OWED.at ch).bit b))
    (few : (s.dev.plot p).rg ((fBED_CH_OWED_OWED.at ch).bit b) ≤ 4) (none : ((s.dev.plot p).chan ch).refreshing = 0) :
    Completes (.refreshStart p ch b) s (fun t => OnlyPlot p s.dev t.dev ∧ ((t.dev.plot p).chan ch).refreshing = 2 ^ b ∧
      (t.dev.plot p).rg ((fBED_CH_OWED_OWED.at ch).bit b) = (s.dev.plot p).rg ((fBED_CH_OWED_OWED.at ch).bit b) - 1) := by
  have gives : Gives (.refreshStart p ch b) s (s.dev.setPlot p (((s.dev.plot p).setChan ch { (s.dev.plot p).chan ch with
      refreshing := withBit ((s.dev.plot p).chan ch).refreshing b }).rs ((fBED_CH_OWED_OWED.at ch).bit b)
        ((s.dev.plot p).rg ((fBED_CH_OWED_OWED.at ch).bit b) - 1))) := by
    rw [Gives, exec_refreshStart, onDev_live live, Dev.modPlot,
      if_pos (by simp [plot, hc, hb, refreshMay_tine mode owes none])]
  refine gives.completes ⟨OnlyPlot.setPlot _ _ _, ?_⟩
  rw [Dev.plot_setPlot_same]
  refine ⟨?_, (Plot.rg_rs_same _ _ _).trans (Nat.mod_eq_of_lt (show _ - 1 < 2 ^ 3 by omega))⟩
  have set := congrArg Channel.refreshing (Plot.chan_setChan_same (s.dev.plot p) ch { (s.dev.plot p).chan ch with
    refreshing := withBit ((s.dev.plot p).chan ch).refreshing b })
  rw [none, withBit_zero] at set
  rw [none, withBit_zero]
  exact set

/-! ## REFRESH_DONE (R202) -/

theorem exec_refreshDone (p ch b : Nat) (s : State) : exec (.refreshDone p ch b) s = onDev s fun d =>
    if isPlot p && ch < 4 && b < 8 then d.modPlot p fun pl =>
      pl.setChan ch { pl.chan ch with refreshing := clearBit (pl.chan ch).refreshing b } else d := rfl

theorem refreshDone_completes {s : State} {p ch b : Nat} (live : Live s) (plot : isPlot p = true) (hc : ch < 4) (hb : b < 8) :
    Completes (.refreshDone p ch b) s (fun t => OnlyPlot p s.dev t.dev ∧ (t.dev.plot p).regs = (s.dev.plot p).regs ∧
      ∀ k, bitOf ((t.dev.plot p).chan ch).refreshing k =
        (bitOf ((s.dev.plot p).chan ch).refreshing k && decide (k ≠ b))) := by
  have gives : Gives (.refreshDone p ch b) s (s.dev.setPlot p ((s.dev.plot p).setChan ch { (s.dev.plot p).chan ch with
      refreshing := clearBit ((s.dev.plot p).chan ch).refreshing b })) := by
    rw [Gives, exec_refreshDone, onDev_live live, if_pos (by simp [plot, hc, hb])]
    rfl
  refine gives.completes ⟨OnlyPlot.setPlot _ _ _, ?_⟩
  rw [Dev.plot_setPlot_same, Plot.chan_setChan_same]
  exact ⟨rfl, bitOf_clearBit _ b⟩

end Sys2Proof.Machine
end

section
/-! PROOFS. Columns of a bed that are stored again, the spare rows, and the write buffers applied (R173, R175, R196, R208). -/

namespace Sys2Proof.Machine

/-! ## Columns stored with fresh check bytes (R172, R177) -/

/-- A key that is no channel's BED_CH_FLIP.ARM. -/
def outsideBedFlip (k : Nat) : Prop := ∀ c, k ≠ (fBED_CH_FLIP_ARM.at c).key

/-- Only the error patterns of plot `p`'s columns differ, and BED_CH_FLIP.ARM of its channels. -/
structure ColumnsOnly (p : Nat) (d e : Dev) : Prop where
  others : OnlyPlot p d e
  plot : e.plot p = { d.plot p with regs := (e.plot p).regs, bedErr := (e.plot p).bedErr }
  regs : ∀ g : Fld, outsideBedFlip g.key → (e.plot p).rg g = (d.plot p).rg g

theorem ColumnsOnly.refl (p : Nat) (d : Dev) : ColumnsOnly p d d := ⟨⟨rfl, fun _ _ => rfl⟩, rfl, fun _ _ => rfl⟩

theorem ColumnsOnly.trans {p : Nat} {d e f : Dev} (h : ColumnsOnly p d e) (k : ColumnsOnly p e f) : ColumnsOnly p d f := by
  refine ⟨h.others.trans k.others, ?_, fun g hg => (k.regs g hg).trans (h.regs g hg)⟩
  rw [k.plot, h.plot]

theorem ColumnsOnly.chan {p : Nat} {d e : Dev} (h : ColumnsOnly p d e) (ch : Nat) :
    (e.plot p).chan ch = (d.plot p).chan ch := by
  rw [h.plot]
  rfl

theorem ColumnsOnly.bedEncode (d : Dev) (p col : Nat) : ColumnsOnly p d (bedReadCol.bedEncode d p col) := by
  refine ⟨OnlyPlot.setPlot _ _ _, ?_, fun g hg => ?_⟩ <;>
    rw [bedReadCol.bedEncode, Dev.plot_modPlot_same] <;> dsimp only <;> split
  · rfl
  · rfl
  · exact Plot.rg_rs_ne _ (hg _) _
  · rfl

theorem bedEncode_bedErr_ne (d : Dev) (p : Nat) {c col : Nat} (h : c ≠ col) :
    SMap.get [] ((bedReadCol.bedEncode d p col).plot p).bedErr c = SMap.get [] (d.plot p).bedErr c := by
  rw [bedReadCol.bedEncode, Dev.plot_modPlot_same]
  dsimp only
  split
  · exact SMap.get_set_ne [] [] _ h _
  · exact SMap.get_set_ne [] [] _ h []

/-! ## REMAP_COPY_START (R208) -/

theorem exec_remapCopyStart (p ch : Nat) (s : State) : exec (.remapCopyStart p ch) s =
    onDev s fun d => if isPlot p && ch < 4 then remapCopyStart d p ch else d := rfl

theorem remapCopyStart_copies {d : Dev} {p ch b row n : Nat} (mode : (d.plot p).chMode ch = 0 ∨ (d.plot p).chMode ch = 4)
    (none : ((d.plot p).chan ch).copying = none) (suspects : ((d.plot p).chan ch).suspects = [⟨b, row, n⟩])
    (reached : (d.plot p).rg (fBED_CH_CFG_REMAP_THRESHOLD.at ch) ≤ n)
    (spare : (d.plot p).rg ((fBED_CH_SPARES_USED.at ch).bit b) < 8) :
    remapCopyStart d p ch = d.setPlot p ((d.plot p).setChan ch { (d.plot p).chan ch with
      copying := some (b, row, (d.plot p).rg ((fBED_CH_SPARES_USED.at ch).bit b)) }) := by
  have may : ((d.plot p).chMode ch = chMEMORY ∨ (d.plot p).chMode ch = chHELD) ∧
      ((d.plot p).chan ch).copying.isNone = true := ⟨mode, by rw [none]; rfl⟩
  simp only [remapCopyStart, Dev.modPlot, may, and_self, if_true, suspects, List.find?_cons, reached, spare, decide_true,
    Bool.and_self]

theorem remapCopyStart_completes {s : State} {p ch b row n : Nat} (live : Live s) (plot : isPlot p = true) (hc : ch < 4)
    (mode : (s.dev.plot p).chMode ch = 0 ∨ (s.dev.plot p).chMode ch = 4) (none : ((s.dev.plot p).chan ch).copying = none)
    (suspects : ((s.dev.plot p).chan ch).suspects = [⟨b, row, n⟩])
    (reached : (s.dev.plot p).rg (fBED_CH_CFG_REMAP_THRESHOLD.at ch) ≤ n)
    (spare : (s.dev.plot p).rg ((fBED_CH_SPARES_USED.at ch).bit b) < 8) :
    Completes (.remapCopyStart p ch) s (fun t => OnlyPlot p s.dev t.dev ∧ (t.dev.plot p).regs = (s.dev.plot p).regs ∧
      ((t.dev.plot p).chan ch).copying = some (b, row, (s.dev.plot p).rg ((fBED_CH_SPARES_USED.at ch).bit b))) := by
  have gives : Gives (.remapCopyStart p ch) s (remapCopyStart s.dev p ch) := by
    rw [Gives, exec_remapCopyStart, onDev_live live, if_pos (by simp [plot, hc])]
  rw [remapCopyStart_copies mode none suspects reached spare] at gives
  refine gives.completes ⟨OnlyPlot.setPlot _ _ _, ?_⟩
  rw [Dev.plot_setPlot_same, Plot.chan_setChan_same]
  exact ⟨rfl, rfl⟩

/-! ## REMAP_COPY_DONE (R208) -/

theorem exec_remapCopyDone (p ch : Nat) (s : State) : exec (.remapCopyDone p ch) s =
    onDev s fun d => if isPlot p && ch < 4 then remapCopyDone d p ch else d := rfl

theorem remapColumn_clean {d : Dev} {p col : Nat} (clean : SMap.get [] (d.plot p).bedErr col = []) :
    remapColumn d p col = bedReadCol.bedEncode d p col := by
  have decoded : decodeCol [] = .clean := rfl
  simp only [remapColumn, clean, decoded]

/-- The columns of a row without an error are stored again, one after another. -/
theorem remapColumns_clean {d : Dev} {p first : Nat} (clean : ∀ c, first ≤ c → SMap.get [] (d.plot p).bedErr c = []) (m : Nat) :
    ColumnsOnly p d ((List.range m).foldl (fun d i => remapColumn d p (first + i)) d) ∧ ∀ c, first + m ≤ c →
      SMap.get [] (((List.range m).foldl (fun d i => remapColumn d p (first + i)) d).plot p).bedErr c = [] := by
  induction m with
  | zero => exact ⟨ColumnsOnly.refl p d, clean⟩
  | succ m ih =>
    obtain ⟨only, ahead⟩ := ih
    rw [List.range_succ, List.foldl_append, List.foldl_cons, List.foldl_nil, remapColumn_clean (ahead _ le_rfl)]
    refine ⟨only.trans (ColumnsOnly.bedEncode _ _ _), fun c hc => ?_⟩
    rw [bedEncode_bedErr_ne _ _ (by omega), ahead c (by omega)]

/-- The plot once the copy of a row is done. -/
def Plot.remapped (pl : Plot) (ch bank row spare : Nat) : Plot :=
  let pl := (pl.setChan ch { pl.chan ch with
    copying := none, remaps := (pl.chan ch).remaps ++ [(bank, row, spare)],
    suspects := (pl.chan ch).suspects.filter (fun s => !(s.bank = bank && s.row = row)) }).rs
      ((fBED_CH_SPARES_USED.at ch).bit bank) (pl.rg ((fBED_CH_SPARES_USED.at ch).bit bank) + 1)
  if (pl.chan ch).suspects.any (fun s => decide (pl.rg (fBED_CH_CFG_REMAP_THRESHOLD.at ch) ≤ s.count) &&
    decide (pl.rg ((fBED_CH_SPARES_USED.at ch).bit s.bank) < 8)) then pl else pl.rs (fBED_CH_STATUS_REMAP_PENDING.at ch) 0

/-- The repair map takes one more entry. -/
def Dev.repaired (d : Dev) (r : Repair) : Dev :=
  { d with flash := { d.flash with repairs := d.flash.repairs ++ [r], repairSeq := d.flash.repairSeq + 1 } }

theorem remapCopyDone_eq {d : Dev} {p ch bank row spare : Nat}
    (copying : ((d.plot p).chan ch).copying = some (bank, row, spare)) :
    remapCopyDone d p ch = (plotIrq (recordPlot (((List.range 64).foldl (fun d i => remapColumn d p
      (ch * 2 ^ 19 + bank * 2 ^ 16 + row * 64 + i)) d).modPlot p (·.remapped ch bank row spare)) p 0x0D05) p (16 + ch)).repaired
        ⟨3, p, ch, bank, row⟩ := by
  unfold remapCopyDone
  simp only [copying]
  rfl

theorem Plot.remapped_only (pl : Plot) (ch bank row spare : Nat) : ∃ m, pl.remapped ch bank row spare =
    { pl.setChan ch { pl.chan ch with
      copying := none, remaps := (pl.chan ch).remaps ++ [(bank, row, spare)],
      suspects := (pl.chan ch).suspects.filter (fun s => !(s.bank = bank && s.row = row)) } with regs := m } := by
  unfold Plot.remapped
  dsimp only
  split <;> exact ⟨_, rfl⟩

theorem Plot.remapped_spares (pl : Plot) {ch bank : Nat} (row spare : Nat)
    (free : pl.rg ((fBED_CH_SPARES_USED.at ch).bit bank) < 8) :
    (pl.remapped ch bank row spare).rg ((fBED_CH_SPARES_USED.at ch).bit bank) =
      pl.rg ((fBED_CH_SPARES_USED.at ch).bit bank) + 1 := by
  have pending : ((fBED_CH_SPARES_USED.at ch).bit bank).key ≠ (fBED_CH_STATUS_REMAP_PENDING.at ch).key := by
    simp only [Fld.at, Fld.bit, Fld.key, fBED_CH_SPARES_USED, fBED_CH_STATUS_REMAP_PENDING]
    omega
  have used (a : Plot) : (a.rs ((fBED_CH_SPARES_USED.at ch).bit bank) (pl.rg ((fBED_CH_SPARES_USED.at ch).bit bank) + 1)).rg
      ((fBED_CH_SPARES_USED.at ch).bit bank) = pl.rg ((fBED_CH_SPARES_USED.at ch).bit bank) + 1 :=
    (Plot.rg_rs_same _ _ _).trans (Nat.mod_eq_of_lt (show _ + 1 < 2 ^ 4 by omega))
  unfold Plot.remapped
  dsimp only
  split
  · exact used _
  · rw [Plot.rg_rs_ne _ pending]
    exact used _

/-- What the end of a copy records and raises leaves alone. -/
theorem remap_recorded (d : Dev) (p ch : Nat) {g : Fld} (bank : outsideBank 0x3800 g.key) (irq : outsideIrq g.key) :
    ((plotIrq (recordPlot d p 0x0D05) p (16 + ch)).plot p).rg g = (d.plot p).rg g ∧
      (∀ c, ((plotIrq (recordPlot d p 0x0D05) p (16 + ch)).plot p).chan c = (d.plot p).chan c) ∧
      (plotIrq (recordPlot d p 0x0D05) p (16 + ch)).bed = d.bed ∧
      (plotIrq (recordPlot d p 0x0D05) p (16 + ch)).flash = d.flash := by
  have recorded := RegsOnly.recordPlot d p 0x0D05
  have kept : ((recordPlot d p 0x0D05).plot p).rg g = (d.plot p).rg g := recordErr_plot_rg _ _ _ _ _ _ bank
  generalize recordPlot d p 0x0D05 = e at recorded kept
  have raised := IrqOnly.plotIrq e p (16 + ch)
  refine ⟨(raised.regs g irq).trans kept, fun c => ?_, ?_, ?_⟩
  · rw [raised.only, Plot.chan, Plot.chan, recorded.2 p]
  · rw [raised.others.1, recorded.bed]
  · rw [raised.others.1, recorded.flash]

theorem remapCopyDone_completes {s : State} {p ch b row sp n : Nat} (live : Live s) (plot : isPlot p = true) (hc : ch < 4)
    (hb : b < 8) (copying : ((s.dev.plot p).chan ch).copying = some (b, row, sp))
    (suspects : ((s.dev.plot p).chan ch).suspects = [⟨b, row, n⟩]) (clean : (s.dev.plot p).bedErr = [])
    (spare : (s.dev.plot p).rg ((fBED_CH_SPARES_USED.at ch).bit b) < 8) :
    Completes (.remapCopyDone p ch) s (fun t => ((t.dev.plot p).chan ch).copying = none ∧
      ((t.dev.plot p).chan ch).remaps = ((s.dev.plot p).chan ch).remaps ++ [(b, row, sp)] ∧
      ((t.dev.plot p).chan ch).suspects = [] ∧
      (t.dev.plot p).rg ((fBED_CH_SPARES_USED.at ch).bit b) = (s.dev.plot p).rg ((fBED_CH_SPARES_USED.at ch).bit b) + 1 ∧
      t.dev.bed = s.dev.bed ∧ t.dev.flash = { s.dev.flash with
        repairs := s.dev.flash.repairs ++ [⟨3, p, ch, b, row⟩], repairSeq := s.dev.flash.repairSeq + 1 }) := by
  have gives : Gives (.remapCopyDone p ch) s (remapCopyDone s.dev p ch) := by
    rw [Gives, exec_remapCopyDone, onDev_live live, if_pos (by simp [plot, hc])]
  rw [remapCopyDone_eq copying] at gives
  obtain ⟨copied, -⟩ := remapColumns_clean (d := s.dev) (p := p) (first := ch * 2 ^ 19 + b * 2 ^ 16 + row * 64)
    (fun c _ => by rw [clean, SMap.get_nil]) 64
  generalize (List.range 64).foldl _ s.dev = e at gives copied
  have flip : outsideBedFlip ((fBED_CH_SPARES_USED.at ch).bit b).key := fun c => by
    simp only [Fld.at, Fld.bit, Fld.key, fBED_CH_SPARES_USED, fBED_CH_FLIP_ARM]
    omega
  have outside : outsideBank 0x3800 ((fBED_CH_SPARES_USED.at ch).bit b).key ∧
      outsideIrq ((fBED_CH_SPARES_USED.at ch).bit b).key := by
    simp only [outsideBank, outsideIrq, Fld.at, Fld.bit, Fld.key, fBED_CH_SPARES_USED]
    omega
  obtain ⟨bank, irq⟩ := outside
  have used := copied.regs _ flip
  obtain ⟨rg, chan, bed, flash⟩ := remap_recorded (e.modPlot p (·.remapped ch b row sp)) p ch bank irq
  rw [Dev.plot_modPlot_same, Plot.remapped_spares _ _ _ (used ▸ spare), used] at rg
  obtain ⟨m, remapped⟩ := (e.plot p).remapped_only ch b row sp
  have chan := chan ch
  rw [Dev.plot_modPlot_same, remapped, copied.chan] at chan
  have chan := chan.trans (Plot.chan_setChan_same (e.plot p) ch _)
  refine gives.completes ⟨congrArg Channel.copying chan, congrArg Channel.remaps chan, ?_, rg, ?_, ?_⟩
  · refine (congrArg Channel.suspects chan).trans ?_
    simp [suspects]
  · have same : e.bed = s.dev.bed := by rw [copied.others.1]
    exact bed.trans same
  · have same : e.flash = s.dev.flash := by rw [copied.others.1]
    exact congrArg (fun f : Flash => ({ f with
      repairs := f.repairs ++ [⟨3, p, ch, b, row⟩], repairSeq := f.repairSeq + 1 } : Flash)) (flash.trans same)

/-! ## A word written into a column (R175) -/

theorem bedReadCol_column {d : Dev} {p col : Nat} (clean : SMap.get [] (d.plot p).bedErr col = []) :
    bedReadCol d p col false = (d, memRead d.bed (bedBase p + col * 32) 32, false) := by
  have decoded : decodeCol [] = .clean := rfl
  simp [bedReadCol, clean, decoded, symMask, memRead]

theorem memRead_getElem (m : List Host.Cell) (a : Nat) {n i : Nat} (h : i < (memRead m a n).length) :
    (memRead m a n)[i] = memGet m (a + i) := by simp [memRead]

/-- Bytes merged into what a run of memory holds, as the run is written back. -/
theorem memGet_memWrite_merged (m : List Host.Cell) (a : Nat) {n k : Nat} (bytes : List Byte) (fits : k + bytes.length ≤ n)
    (c : Nat) : memGet (memWrite m a ((memRead m a n).take k ++ bytes ++ (memRead m a n).drop (k + bytes.length))) c =
      memGet (memWrite m (a + k) bytes) c := by
  have head : ((memRead m a n).take k).length = k := by
    rw [List.length_take, memRead_length]
    omega
  have whole : ((memRead m a n).take k ++ bytes ++ (memRead m a n).drop (k + bytes.length)).length = n := by
    rw [List.length_append, List.length_append, head, List.length_drop, memRead_length]
    omega
  by_cases inside : a ≤ c ∧ c < a + n
  · obtain ⟨i, rfl⟩ := Nat.exists_eq_add_of_le inside.1
    have hi : i < n := by omega
    rw [memGet_memWrite_in _ _ _ _ (by omega)]
    by_cases before : i < k
    · rw [memGet_memWrite_out _ _ _ _ (by omega), List.getElem_append_left (by rw [List.length_append]; omega),
        List.getElem_append_left (by omega), List.getElem_take, memRead_getElem]
    by_cases within : i < k + bytes.length
    · rw [List.getElem_append_left (by rw [List.length_append]; omega), List.getElem_append_right (by omega),
        ← memGet_memWrite_in bytes m (a + k)]
      congr 1
      omega
    · rw [memGet_memWrite_out _ _ _ _ (by omega), List.getElem_append_right (by rw [List.length_append]; omega),
        List.getElem_drop, memRead_getElem]
      congr 1
      rw [List.length_append]
      omega
  · rw [memGet_memWrite_out _ _ _ _ (by omega), memGet_memWrite_out _ _ _ _ (by omega)]

/-- A part of a column without error is written: the column is stored again, and no other byte of the bed differs. -/
theorem bedWriteCol_part {d : Dev} {p col k : Nat} {bytes : List Byte} (clean : SMap.get [] (d.plot p).bedErr col = [])
    (part : bytes.length < 32) (fits : k + bytes.length ≤ 32) : ∃ m, ColumnsOnly p { d with bed := m }
      (bedWriteCol d p col k bytes).1 ∧ ∀ c, memGet m c = memGet (memWrite d.bed (bedBase p + col * 32 + k) bytes) c := by
  simp only [bedWriteCol, Nat.ne_of_lt part, if_false, bedReadCol_column clean, Bool.false_eq_true]
  exact ⟨_, ColumnsOnly.bedEncode _ p col, fun c => memGet_memWrite_merged _ _ _ fits c⟩

/-- A write within one column. -/
theorem bedWrite_within {p off : Nat} (d : Dev) {bytes : List Byte} (some_ : 0 < bytes.length)
    (fits : off % 32 + bytes.length ≤ 32) :
    (bedWrite d p off bytes).1 = (bedWriteCol d p (off / 32) (off % 32) bytes).1 := by
  have cols : colsOf off bytes.length = [off / 32] := by
    rw [colsOf, if_neg (by omega), show (off + bytes.length - 1) / 32 - off / 32 + 1 = 1 by omega]
    simp
  have low : max off (off / 32 * 32) = off := by omega
  have high : min (off + bytes.length) (off / 32 * 32 + 32) = off + bytes.length := by omega
  have start : off - off / 32 * 32 = off % 32 := by omega
  simp [bedWrite, cols, low, high, start]

/-! ## TINE_BUFFER_APPLY (R196) -/

theorem exec_tineBufferApply (p : Nat) (s : State) :
    exec (.tineBufferApply p) s = onDev s fun d => tineBufferApply d p := rfl

/-- A buffered word that is stored goes to its four bytes of the bed. -/
theorem applyWord_stores {d : Dev} {p a : Nat} (v : Nat) (aligned : a % 4 = 0)
    (clean : SMap.get [] (d.plot p).bedErr (a / 32) = []) : ∃ m, ColumnsOnly p { d with bed := m }
      (applyWord d p ⟨a, 4, v, none⟩) ∧ ∀ c, memGet m c = memGet (memWrite d.bed (p * 2 ^ 26 + a) (leBytes 4 v)) c := by
  have four := leBytes_length 4 v
  obtain ⟨m, only, bytes⟩ := bedWriteCol_part (k := a % 32) (bytes := leBytes 4 v) clean (by omega) (by omega)
  rw [← bedWrite_within d (by omega) (by omega)] at only
  have place : bedBase p + a / 32 * 32 + a % 32 = p * 2 ^ 26 + a := by
    unfold bedBase
    omega
  rw [place] at bytes
  exact ⟨m, only, bytes⟩

theorem foldl_idle {σ α : Type} {f : σ → α → σ} {l : List α} (idle : ∀ s, ∀ j ∈ l, f s j = s) (s : σ) : l.foldl f s = s :=
  List.foldlRecOn (motive := fun x => x = s) l f rfl fun x hx j hj => (idle x j hj).trans hx

/-- A fold of which one member alone has an effect. -/
theorem foldl_only {σ α : Type} {f : σ → α → σ} {l : List α} {k : α} (nodup : l.Nodup) (mem : k ∈ l)
    (idle : ∀ s, ∀ j ∈ l, j ≠ k → f s j = s) (s : σ) : l.foldl f s = f s k := by
  obtain ⟨before, after, rfl⟩ := List.append_of_mem mem
  obtain ⟨-, right, apart⟩ := List.nodup_append.mp nodup
  have first : before.foldl f s = s := foldl_idle (fun s j hj => idle s j (by simp [hj]) (apart j hj k (by simp))) s
  rw [List.foldl_append, List.foldl_cons, first]
  refine foldl_idle (fun s j hj => idle s j (by simp [hj]) ?_) _
  rintro rfl
  exact (List.nodup_cons.mp right).1 hj

theorem issueTines_nodup (m : Nat) : (issueTines m).Nodup := List.nodup_range.filter _

theorem mem_issueTines {m k : Nat} (hk : k < 16) (named : bitOf m (k / 4) = true) : k ∈ issueTines m :=
  List.mem_filter.mpr ⟨List.mem_range.mpr hk, named⟩

/-- The tines of an issue have ended with every check closed and passed, and tine `k` alone has words in its buffer. -/
def BufferReady (pl : Plot) (i : Issue) (k : Nat) (ws : List BedWrite) : Prop :=
  ∀ j, j < 16 → bitOf i.chmask (j / 4) = true → (pl.tine j).ended = true ∧ (pl.tine j).checks = [] ∧
    (pl.tine j).deps = [] ∧ (pl.tine j).bad = false ∧ (pl.tine j).wbuf = if j = k then ws else []

/-- The first issue that has ended without a stop is found. -/
theorem applied_found {pl : Plot} {i : Issue} {k : Nat} {ws : List BedWrite} (issues : pl.issues = [i])
    (released : i.released = true) (passed : i.stop = 0) (fresh : i.applied = false)
    (current : ∀ c, c < 4 → bitOf i.chmask c = true → (pl.chan c).cur = some i.id) (ready : BufferReady pl i k ws) :
    pl.issues.find? (fun i => issueEnded pl i && i.stop = 0 && !i.applied &&
      (issueTines i.chmask).all (fun t => (pl.tine t).deps.isEmpty && !(pl.tine t).bad)) = some i := by
  have channels : (List.range 4).all (fun c => !bitOf i.chmask c || decide ((pl.chan c).cur = some i.id)) = true := by
    rw [List.all_eq_true]
    intro c hc
    by_cases named : bitOf i.chmask c = true
    · simp [current c (List.mem_range.mp hc) named]
    · simp [named]
  have ended : (issueTines i.chmask).all (fun t => (pl.tine t).ended && (pl.tine t).checks.isEmpty) = true := by
    rw [List.all_eq_true]
    intro j hj
    obtain ⟨ended, checks, -⟩ := ready j (issueTines_mem hj).1 (issueTines_mem hj).2
    simp [ended, checks]
  have sound : (issueTines i.chmask).all (fun t => (pl.tine t).deps.isEmpty && !(pl.tine t).bad) = true := by
    rw [List.all_eq_true]
    intro j hj
    obtain ⟨-, -, deps, bad, -⟩ := ready j (issueTines_mem hj).1 (issueTines_mem hj).2
    simp [deps, bad]
  rw [issues]
  refine List.find?_cons_of_pos ?_
  rw [issueEnded, channels, ended, sound, released, passed, fresh]
  rfl

/-- The only words buffered are applied, and the issue is marked. -/
theorem tineBufferApply_applies {d : Dev} {p k : Nat} {i : Issue} {b : BedWrite} (issues : (d.plot p).issues = [i])
    (released : i.released = true) (passed : i.stop = 0) (fresh : i.applied = false)
    (current : ∀ c, c < 4 → bitOf i.chmask c = true → ((d.plot p).chan c).cur = some i.id)
    (ready : BufferReady (d.plot p) i k [b]) (hk : k < 16) (named : bitOf i.chmask (k / 4) = true) :
    tineBufferApply d p = (applyWord d p b).modPlot p (fun pl => { pl with
      issues := pl.issues.map (fun x => if x.id = i.id then { x with applied := true } else x) }) := by
  have wbuf {j : Nat} (hj : j ∈ issueTines i.chmask) : ((d.plot p).tine j).wbuf = if j = k then [b] else [] := by
    obtain ⟨-, -, -, -, wbuf⟩ := ready j (issueTines_mem hj).1 (issueTines_mem hj).2
    exact wbuf
  have member := mem_issueTines hk named
  have words : (issueTines i.chmask).foldl (fun e t => ((d.plot p).tine t).wbuf.foldl (fun e b => applyWord e p b) e) d =
      applyWord d p b := by
    refine (foldl_only (issueTines_nodup _) member (fun e j hj ne => ?_) d).trans ?_
    · rw [wbuf hj, if_neg ne]
      rfl
    · rw [wbuf member, if_pos rfl]
      rfl
  unfold tineBufferApply
  simp only [applied_found issues released passed fresh current ready, words]

theorem tineBufferApply_completes {s : State} {p k a v : Nat} {i : Issue} (live : Live s)
    (issues : (s.dev.plot p).issues = [i]) (released : i.released = true) (passed : i.stop = 0) (fresh : i.applied = false)
    (current : ∀ c, c < 4 → bitOf i.chmask c = true → ((s.dev.plot p).chan c).cur = some i.id)
    (ready : BufferReady (s.dev.plot p) i k [⟨a, 4, v, none⟩]) (hk : k < 16) (named : bitOf i.chmask (k / 4) = true)
    (aligned : a % 4 = 0) (clean : SMap.get [] (s.dev.plot p).bedErr (a / 32) = []) :
    Completes (.tineBufferApply p) s (fun t =>
      (∀ j, j < 4 → memGet t.dev.bed (p * 2 ^ 26 + a + j) = BitVec.ofNat 8 (v / 2 ^ (8 * j))) ∧
      (∀ c, c < p * 2 ^ 26 + a ∨ p * 2 ^ 26 + a + 4 ≤ c → memGet t.dev.bed c = memGet s.dev.bed c) ∧
      (t.dev.plot p).issues = [{ i with applied := true }] ∧ SameStores { s.dev with bed := t.dev.bed } t.dev) := by
  have gives : Gives (.tineBufferApply p) s (tineBufferApply s.dev p) := by
    rw [Gives, exec_tineBufferApply, onDev_live live]
  rw [tineBufferApply_applies issues released passed fresh current ready hk named] at gives
  obtain ⟨m, only, bytes⟩ := applyWord_stores v aligned clean
  generalize applyWord s.dev p ⟨a, 4, v, none⟩ = e at gives only
  have bed : e.bed = m := by rw [only.others.1]
  have four := leBytes_length 4 v
  refine gives.completes ⟨fun j hj => ?_, fun c hc => ?_, ?_, ?_⟩
  · have byte : (leBytes 4 v)[j]'(by omega) = BitVec.ofNat 8 (v / 2 ^ (8 * j)) :=
      (List.getElem_eq_iff _).mpr (leBytes_getElem? hj v)
    rw [Dev.modPlot, Dev.setPlot_bed, bed, bytes, memGet_memWrite_in _ _ _ _ (by omega), byte]
  · rw [Dev.modPlot, Dev.setPlot_bed, bed, bytes, memGet_memWrite_out _ _ _ _ (by omega)]
  · have kept : (e.plot p).issues = [i] := by
      rw [only.plot]
      exact issues
    simp [Dev.plot_modPlot_same, kept]
  · rw [only.others.1]
    exact ⟨rfl, rfl, rfl, rfl, rfl⟩

/-- Settles O13: buffered words applied to the bed, the owed counts and the refreshes, and the copy of a suspect row. -/
theorem bedUpkeep : Obligations.BedUpkeep := by
  intro s p ch b live plot hc hb
  exact ⟨fun i k a v issues released passed fresh current ready hk named aligned _ clean =>
      tineBufferApply_completes live issues released passed fresh current ready hk named aligned clean,
    fun few => refreshDue_postponed live plot hc hb few, fun many => refreshDue_forced live plot hc hb many,
    fun mode owes few none => refreshStart_completes live plot hc hb mode owes few none,
    refreshDone_completes live plot hc hb,
    fun row n mode none suspects reached spare => remapCopyStart_completes live plot hc mode none suspects reached spare,
    fun row sp n copying _ suspects clean spare =>
      remapCopyDone_completes live plot hc hb copying suspects clean spare⟩

end Sys2Proof.Machine
end

section
/-! PROOFS. The list that a TATT reads, and what a tine's reads leave of units and of the tine (R198, R231, R232). -/

namespace Sys2Proof.Machine

/-! ## READ marks (R141, R161) -/

theorem Plot.unit_setUnit_same (pl : Plot) (u : Nat) (s : UnitSt) : (pl.setUnit u s).unit u = s :=
  SMap.get_set_same UnitSt.idle pl.units u s

theorem Plot.unit_setUnit_ne (pl : Plot) {u v : Nat} (h : v ≠ u) (s : UnitSt) : (pl.setUnit u s).unit v = pl.unit v :=
  SMap.get_set_ne UnitSt.idle UnitSt.idle pl.units h s

theorem unitState_congr {a b : Plot} {u : Nat} (failed : (b.unit u).failed = (a.unit u).failed)
    (opens : (b.unit u).opens = (a.unit u).opens) : unitState b u = unitState a u := by
  have state (pl : Plot) : unitState pl u = if (pl.unit u).failed then 2 else if (pl.unit u).opens.isEmpty then 0 else 1 := rfl
  rw [state, state, failed, opens]

theorem unitState_of_idle {pl : Plot} (h : pl.units = []) (u : Nat) : unitState pl u = 0 := by
  rw [unitState, h, SMap.get_nil]
  rfl

/-- A READ mark says nothing of a unit's check state. -/
theorem markRead_unitState (a : Plot) (us : List Nat) (u : Nat) : unitState (markRead a us) u = unitState a u := by
  refine List.foldlRecOn (motive := fun b : Plot => unitState b u = unitState a u) us _ rfl fun b hb v _ => ?_
  dsimp only
  split
  · refine Eq.trans ?_ hb
    by_cases h : u = v
    · subst h
      exact unitState_congr (by rw [Plot.unit_setUnit_same]) (by rw [Plot.unit_setUnit_same])
    · exact unitState_congr (by rw [Plot.unit_setUnit_ne _ h]) (by rw [Plot.unit_setUnit_ne _ h])
  · exact hb

/-- Units that are not read keep their marks. -/
theorem markRead_unit_out (a : Plot) {us : List Nat} {u : Nat} (h : u ∉ us) : (markRead a us).unit u = a.unit u := by
  refine List.foldlRecOn (motive := fun b : Plot => b.unit u = a.unit u) us _ rfl fun b hb v hv => ?_
  dsimp only
  split
  · exact (Plot.unit_setUnit_ne b (ne_of_mem_of_not_mem hv h).symm _).trans hb
  · exact hb

theorem markRead_only (a : Plot) (us : List Nat) : markRead a us = { a with units := (markRead a us).units } := by
  refine List.foldlRecOn (motive := fun b : Plot => b = { a with units := b.units }) us _ rfl fun b hb v _ => ?_
  dsimp only
  split
  · rw [hb]
    rfl
  · exact hb

/-! ## A tine's read of scratch (R198) -/

/-- Tine `k` has read units of `us`: they may carry READ marks, and the tine depends on what they hold. -/
structure TineReads (p k : Nat) (us : List Nat) (d e : Dev) : Prop where
  others : OnlyPlot p d e
  plot : e.plot p = { d.plot p with units := (e.plot p).units, tines := (e.plot p).tines }
  tine : (e.plot p).tine k =
    { (d.plot p).tine k with deps := ((e.plot p).tine k).deps, bad := ((e.plot p).tine k).bad }
  state : ∀ u, unitState (e.plot p) u = unitState (d.plot p) u
  marks : ∀ u, u ∉ us → (e.plot p).unit u = (d.plot p).unit u
  kept : TinesKept (d.plot p) (e.plot p)

theorem TineReads.scr {p k : Nat} {us : List Nat} {d e : Dev} (h : TineReads p k us d e) : e.scr = d.scr := by
  rw [h.others.1]

theorem TineReads.sound {p k : Nat} {us : List Nat} {d e : Dev} (h : TineReads p k us d e) (hs : Sound (d.plot p)) :
    Sound (e.plot p) := h.kept.sound hs

theorem TineReads.issue {p k : Nat} {us : List Nat} {d e : Dev} (h : TineReads p k us d e) (t : Nat) :
    tineIssue (e.plot p) t = tineIssue (d.plot p) t := by
  rw [h.plot]
  rfl

theorem TineReads.bedErr {p k : Nat} {us : List Nat} {d e : Dev} (h : TineReads p k us d e) :
    (e.plot p).bedErr = (d.plot p).bedErr := by rw [h.plot]

theorem tineRead_reads {d : Dev} {p a : Nat} (hs : Sound (d.plot p)) (ha : a < 2 ^ 20) (k n : Nat) :
    ∃ e, tineRead d p k a n = (e, memRead d.scr (scrBase p + a) n) ∧ TineReads p k (unitsOf a n) d e := by
  let x := (d.plot p).tine k
  let y : Tine := { x with
    deps := (x.deps ++ (unitsOf a n).flatMap fun u => ((d.plot p).unit u).opens).eraseDups
    bad := x.bad || (unitsOf a n).any fun u => ((d.plot p).unit u).failed }
  let pl := markRead ((d.plot p).setTine k y) (unitsOf a n)
  have marked := MarksOnly.markRead ((d.plot p).setTine k y) (unitsOf a n)
  have same : (d.setPlot p pl).plot p = pl := Dev.plot_setPlot_same ..
  have sound : Sound ((d.setPlot p pl).plot p) := same.symm ▸ marked.sound hs
  have tine : pl.tine k = y := by
    rw [show pl = _ from markRead_only _ _]
    exact Plot.tine_setTine_same _ k y
  refine ⟨d.setPlot p pl, ?_, OnlyPlot.setPlot d p pl, ?_, ?_, fun u => ?_, fun u hu => ?_, ?_⟩
  · change plotRead (d.setPlot p pl) p _ a n = _
    rw [plotRead_sound sound, localBytes_scratch sound.1 ha]
    rfl
  · rw [same, show pl = _ from markRead_only _ _]
    rfl
  · rw [same, tine]
  · rw [same]
    exact markRead_unitState _ _ u
  · rw [same]
    exact markRead_unit_out _ hu
  · rw [same]
    exact (TinesKept.setTine (d.plot p) k (x := y) rfl rfl).trans marked.tinesKept

/-! ## The list of a TATT (R231, R232) -/

/-- The fields of a TATT over one entry. -/
theorem tatt_fields {r w : Nat} (hr : r < 8) (hw : 0x09 * 2 ^ 27 + r * 2 ^ 24 + 1 * 2 ^ 14 = w) :
    bitsOf w 0 14 = 0 ∧ bitsOf w 14 10 = 1 ∧ bitsOf w 24 3 = r ∧ w / 2 ^ 27 = 0x09 := by
  unfold bitsOf
  omega

/-- A chain of refusals that ends in 0 has not refused. -/
theorem passes_of_ite {c : Prop} [Decidable c] {x y : Nat} (h : (if c then x else y) = 0) (hx : x ≠ 0) : ¬ c ∧ y = 0 := by
  split at h
  · exact absurd h hx
  · exact ⟨‹¬ c›, h⟩

/-- What a list without a stop says of where its parts lie. -/
theorem tattStop_passes {w a : Nat} {h : AttList} {e : AttEntry} (one : bitsOf w 14 10 = 1) (some_ : 0 < h.rows)
    (pass : tattStop w a h [e] = 0) : inData a 144 = true ∧
      inData h.qaddr (if h.op = 1 then 512 else 256 * h.rows) = true ∧ (h.op = 1 → inData h.out 4 = true) ∧
      (e.kind = 1 → inData e.addr (64 + (h.prow + h.rows) * 528) = true) := by
  unfold tattStop at pass
  simp only [one, some_.ne', if_false] at pass
  obtain ⟨-, pass⟩ := passes_of_ite pass (by decide)
  obtain ⟨list, pass⟩ := passes_of_ite pass (by decide)
  obtain ⟨-, pass⟩ := passes_of_ite pass (by decide)
  obtain ⟨-, pass⟩ := passes_of_ite pass (by decide)
  obtain ⟨-, pass⟩ := passes_of_ite pass (by decide)
  obtain ⟨-, pass⟩ := passes_of_ite pass (by decide)
  obtain ⟨query, pass⟩ := passes_of_ite pass (by decide)
  obtain ⟨out, pass⟩ := passes_of_ite pass (by decide)
  obtain ⟨place, -⟩ := passes_of_ite pass (by decide)
  refine ⟨by simpa using list, by simpa using query, fun op => by simpa [op] using out, fun kind => ?_⟩
  simpa [kind] using place

/-- The word `w` of a TATT over one entry, in scratch that no unit of the region has touched: its header is `h` and its
entry `x`, and nothing in them stops it. -/
structure EntryList (d : Dev) (p k w : Nat) (h : AttList) (x : AttEntry) : Prop where
  sound : Sound (d.plot p)
  fresh : (d.plot p).units = []
  hop : w / 2 ^ 27 = 0x09
  one : bitsOf w 14 10 = 1
  list : parseList (memRead d.scr (scrBase p + ((d.plot p).tine k).reg (bitsOf w 24 3)) 128) = h
  entry : parseEntries false 1 (memRead d.scr (scrBase p + (((d.plot p).tine k).reg (bitsOf w 24 3) + 128)) 16) = [x]
  pass : tattStop w (((d.plot p).tine k).reg (bitsOf w 24 3)) h [x] = 0

/-- The list as a tine reads it. -/
theorem EntryList.read {d : Dev} {p k w : Nat} {h : AttList} {x : AttEntry} (l : EntryList d p k w h x)
    (fits : inData (((d.plot p).tine k).reg (bitsOf w 24 3)) 144 = true) :
    ∃ e, tattList d p k w = (e, h, [x]) ∧ TineReads p k (unitsOf (((d.plot p).tine k).reg (bitsOf w 24 3)) 144) d e := by
  obtain ⟨-, inside⟩ := inData_iff.mp fits
  obtain ⟨e, read, reads⟩ := tineRead_reads l.sound (a := ((d.plot p).tine k).reg (bitsOf w 24 3)) (by omega) k 144
  refine ⟨e, ?_, reads⟩
  unfold tattList
  simp only [l.one, Nat.mul_one, Nat.reduceAdd, fits, Bool.not_true, Bool.false_eq_true, if_false, read, memRead_drop,
    memRead_take _ _ (show 128 ≤ 144 by decide), Nat.reduceSub, Nat.add_assoc, l.list, l.entry]

/-- Which command a TATT is, by the OP in its list header. -/
theorem EntryList.isTatt {d : Dev} {p k w : Nat} {h : AttList} {x : AttEntry} (l : EntryList d p k w h x) (op : h.op < 2) :
    isTatt d p k h.op w = true := by
  have byte : h.op = (scrByte d p (((d.plot p).tine k).reg (bitsOf w 24 3))).toNat := by
    have first (b : List Byte) : (parseList b).op = leValue ((b.drop 0).take 1) := rfl
    rw [scrByte_of_scrErr_nil l.sound.1, ← l.list, first, List.drop_zero, leValue_one, memRead_getD _ _ (by decide),
      Nat.add_zero]
  unfold Machine.isTatt isTOp
  simp only [l.hop, ← byte]
  interval_cases h.op <;> rfl

end Sys2Proof.Machine
end

section
/-! PROOFS. TATT: the fold of one CLOSED partial record, and a wait that such a record ends (R224, R231 to R233). -/

namespace Sys2Proof.Machine

/-! ## The fold of a CLOSED partial record (R224, R233) -/

/-- A fold in progress: only the plot has changed, its memories are sound and its units CLOSED, and its tine is `y` but for
what it depends on. -/
structure TineFolds (p k : Nat) (y : Tine) (d e : Dev) : Prop where
  others : OnlyPlot p d e
  sound : Sound (e.plot p)
  closed : ∀ u, unitState (e.plot p) u = 0
  tine : (e.plot p).tine k = { y with deps := ((e.plot p).tine k).deps, bad := ((e.plot p).tine k).bad }

theorem TineFolds.scr {p k : Nat} {y : Tine} {d e : Dev} (h : TineFolds p k y d e) : e.scr = d.scr := by rw [h.others.1]

theorem TineFolds.att {p k : Nat} {y : Tine} {d e : Dev} (h : TineFolds p k y d e) : ((e.plot p).tine k).att = y.att := by
  rw [h.tine]

theorem TineReads.folds {p k : Nat} {us : List Nat} {d e : Dev} (h : TineReads p k us d e) (hs : Sound (d.plot p))
    (fresh : (d.plot p).units = []) : TineFolds p k ((d.plot p).tine k) d e :=
  ⟨h.others, h.sound hs, fun u => (h.state u).trans (unitState_of_idle fresh u), h.tine⟩

theorem TineFolds.read {p k : Nat} {us : List Nat} {y : Tine} {d e f : Dev} (h : TineFolds p k y d e)
    (r : TineReads p k us e f) : TineFolds p k y d f := by
  refine ⟨h.others.trans r.others, r.sound h.sound, fun u => (r.state u).trans (h.closed u), ?_⟩
  rw [r.tine, h.tine]

theorem TineFolds.modTine {p k : Nat} {y : Tine} {d e : Dev} (h : TineFolds p k y d e) {f : Tine → Tine}
    (hf : ∀ l b, f { y with deps := l, bad := b } = { f y with deps := l, bad := b }) :
    TineFolds p k (f y) d (e.modTine p k f) := by
  refine ⟨h.others.trans (OnlyPlot.setPlot _ _ _), ?_, fun u => ?_, ?_⟩
  · rw [Dev.modTine, Dev.plot_modPlot_same]
    exact h.sound
  · rw [Dev.modTine, Dev.plot_modPlot_same]
    exact h.closed u
  · rw [Dev.tine_modTine_same, h.tine, hf]

theorem fmtFlags_units (pl : Plot) (fl : Nat) : (fmtFlags pl fl).units = pl.units := by
  have flag (c : Bool) (f : Fld) (b : Plot) : (if c then b.rs f 1 else b).units = b.units := by split <;> rfl
  simp only [fmtFlags, flag]

/-- The tine set, with flags of formats. -/
theorem TineFolds.setTine {p k : Nat} {y z x : Tine} {d e : Dev} (h : TineFolds p k y d e) (fl : Nat)
    (hx : x = { z with deps := x.deps, bad := x.bad }) :
    TineFolds p k z d (e.modPlot p fun pl => fmtFlags (pl.setTine k x) fl) := by
  refine ⟨h.others.trans (OnlyPlot.setPlot _ _ _), ?_, fun u => ?_, ?_⟩
  · rw [Dev.plot_modPlot_same]
    exact (MarksOnly.fmtFlags _ fl).sound h.sound
  · rw [Dev.plot_modPlot_same, unitState, fmtFlags_units]
    exact h.closed u
  · rw [Dev.plot_modPlot_same, fmtFlags_tine, Plot.tine_setTine_same]
    exact hx

/-- The partials of a record carry no failed check. -/
def recordParts (sts : List AttState) : List PartialRes := sts.map fun st => ⟨st, 0, 0, false⟩

theorem recordParts_code (sts : List AttState) (r : Nat) :
    ((recordParts sts).getD r ⟨AttState.empty, 0, 0, false⟩).code = 0 := by
  unfold recordParts
  rw [List.getD_eq_getElem?_getD, List.getElem?_map]
  cases sts[r]? <;> rfl

/-- A record merged: the tine's states, and one more check of its own. -/
def Tine.merged (x : Tine) (page : Nat) (sts : List AttState) : Tine :=
  { x with att := (x.att.zip sts).map fun e => (attMerge e.1 e.2).1, checks := x.checks ++ [⟨0, page, 0, false, []⟩] }

theorem TineFolds.merge {p k : Nat} {y : Tine} {d e : Dev} (h : TineFolds p k y d e) (page : Nat) (sts : List AttState) :
    TineFolds p k (y.merged page sts) d (tattMerge e p k page (recordParts sts)) := by
  have passes : (List.range (recordParts sts).length).find? (fun r =>
      ((recordParts sts).getD r ⟨AttState.empty, 0, 0, false⟩).code ≠ 0) = none :=
    List.find?_eq_none.mpr fun r _ => by rw [recordParts_code]; decide
  have finite : (recordParts sts).any (·.nonfinite) = false := by simp [recordParts]
  have states : ((((e.plot p).tine k).att.zip (recordParts sts)).map fun e => attMerge e.1 e.2.st).map (·.1) =
      (y.att.zip sts).map fun e => (attMerge e.1 e.2).1 := by
    rw [h.att, recordParts, List.zip_map_right, List.map_map, List.map_map]
    rfl
  unfold tattMerge addTineCheck
  simp only [passes, finite, states, Option.map_none, Option.getD_none]
  exact (h.setTine (z := { y with att := (y.att.zip sts).map fun e => (attMerge e.1 e.2).1 }) _ (by rw [h.tine])).modTine
    (f := fun x => { x with checks := x.checks ++ [⟨0, page, 0, false, []⟩] }) fun _ _ => rfl

/-- An entry that names a partial record whose lines are CLOSED and whose TAG is the list's. -/
theorem tattEntry_record {p k : Nat} {y : Tine} {d e : Dev} {h : AttList} {x : AttEntry} (f : TineFolds p k y d e)
    (kind : x.kind = 1) (some_ : 0 < h.rows) (place : inData x.addr (64 + (h.prow + h.rows) * 528) = true)
    (tag : leValue (memRead d.scr (scrBase p + x.addr) 4) = h.tag) (q : List (List FVal)) :
    ∃ g, tattEntry e p k h q x = (.done g, false) ∧ TineFolds p k (y.merged x.page ((List.range h.rows).map fun i =>
      parseRowRecord (memRead d.scr (scrBase p + (x.addr + 64 + h.prow * 528 + 528 * i)) 528))) d g := by
  obtain ⟨-, inside⟩ := inData_iff.mp place
  have whole : recordState (e.plot p) x.addr h.prow h.rows = 0 := by
    have shut (us : List Nat) : unitsFailed (e.plot p) us = false ∧ unitsClosed (e.plot p) us = true :=
      ⟨List.any_eq_false.mpr fun u _ => by simp [f.closed u], List.all_eq_true.mpr fun u _ => by simp [f.closed u]⟩
    simp only [recordState, shut, Bool.false_eq_true, if_false, if_true]
  have tagged : leValue (localBytes e p x.addr 4) = h.tag := by
    rw [localBytes_scratch f.sound.1 (by omega), f.scr, tag]
  obtain ⟨g, read, reads⟩ := tineRead_reads f.sound (a := x.addr + 64 + h.prow * 528) (by omega) k (h.rows * 528)
  have parts : ((List.range h.rows).map fun i => (⟨parseRowRecord
      (((memRead e.scr (scrBase p + (x.addr + 64 + h.prow * 528)) (h.rows * 528)).drop (528 * i)).take 528), 0, 0, false⟩ :
        PartialRes)) = recordParts ((List.range h.rows).map fun i =>
          parseRowRecord (memRead d.scr (scrBase p + (x.addr + 64 + h.prow * 528 + 528 * i)) 528)) := by
    rw [recordParts, List.map_map]
    refine List.map_congr_left fun i hi => ?_
    have := List.mem_range.mp hi
    rw [memRead_drop, memRead_take _ _ (by omega), f.scr, Nat.add_assoc (scrBase p)]
    rfl
  refine ⟨_, ?_, (f.read reads).merge _ _⟩
  unfold tattEntry
  simp only [kind, whole, tagged, read, parts, one_ne_zero, zero_ne_one, OfNat.zero_ne_ofNat, if_false, ne_eq,
    not_true_eq_false, or_self]

/-! ## ATTEND over one record (R233) -/

/-- A list of one entry whose entry is a partial record that is CLOSED and carries the list's TAG. -/
structure RecordList (d : Dev) (p k w : Nat) (h : AttList) (x : AttEntry) : Prop extends EntryList d p k w h x where
  attend : h.op = 0
  some_ : 0 < h.rows
  kind : x.kind = 1
  tag : leValue (memRead d.scr (scrBase p + x.addr) 4) = h.tag

/-- The states of the rows that a list's partial record holds. -/
def recordStates (d : Dev) (p : Nat) (h : AttList) (x : AttEntry) : List AttState :=
  (List.range h.rows).map fun i =>
    parseRowRecord (memRead d.scr (scrBase p + (x.addr + 64 + h.prow * 528 + 528 * i)) 528)

/-- A tine that begins the rows of a list. -/
def Tine.attBegun (h : AttList) (x : Tine) : Tine :=
  { x with att := List.replicate h.rows AttState.empty, attTag := h.tag }

/-- The tine as an ATTEND finds it at its first entry: it begins its rows, unless it has waited for the entry. -/
def Tine.attStarted (x : Tine) (h : AttList) : Tine :=
  if x.attDone = 0 ∧ x.wait = .none then x.attBegun h else x

/-- The tine after the last entry of its list: the entry is done, and the tine goes on. -/
def Dev.attEnded (e : Dev) (p k pc : Nat) : Dev :=
  (e.modTine p k fun x => { x with attDone := x.attDone + 1 }).modTine p k fun x =>
    { tineAdvance x pc with attDone := 0, wait := .none }

theorem OnlyPlot.attEnded {p : Nat} {d e : Dev} (h : OnlyPlot p d e) (k pc : Nat) : OnlyPlot p d (e.attEnded p k pc) :=
  (h.trans (OnlyPlot.setPlot _ _ _)).trans (OnlyPlot.setPlot _ _ _)

theorem tattFold_one {e g : Dev} {p k : Nat} {h : AttList} {q : List (List FVal)} {x : AttEntry} (pc : Nat)
    (entry : tattEntry e p k h q x = (.done g, false)) : tattFold [x] e p k pc h q = .done (g.attEnded p k pc) := by
  rw [tattFold, entry]
  rfl

theorem tattAttend_record {d : Dev} {p k w : Nat} {h : AttList} {x : AttEntry} (l : RecordList d p k w h x)
    (done : ((d.plot p).tine k).attDone = 0) (pc : Nat) :
    ∃ e, TineFolds p k ((((d.plot p).tine k).attStarted h).merged x.page (recordStates d p h x)) d e ∧
      tattAttend d p k pc w = .done (e.attEnded p k pc) := by
  obtain ⟨l, attend, some_, kind, tag⟩ := l
  have pass := l.pass
  obtain ⟨fits, query, -, place⟩ := tattStop_passes l.one some_ pass
  rw [attend, if_neg (by decide)] at query
  obtain ⟨-, inside⟩ := inData_iff.mp query
  obtain ⟨a, read, reads⟩ := l.read fits
  obtain ⟨b, qread, qreads⟩ := tineRead_reads (reads.sound l.sound) (a := h.qaddr) (by omega) k (256 * h.rows)
  have folds := (reads.folds l.sound l.fresh).read qreads
  have doneKept : ((b.plot p).tine k).attDone = 0 := by rw [folds.tine]; exact done
  have waitKept : ((b.plot p).tine k).wait = ((d.plot p).tine k).wait := by rw [folds.tine]
  have started : TineFolds p k (((d.plot p).tine k).attStarted h) d
      (if ((d.plot p).tine k).wait = .none then b.modTine p k (Tine.attBegun h) else b) := by
    unfold Tine.attStarted
    simp only [done, true_and]
    split
    · exact folds.modTine fun _ _ => rfl
    · exact folds
  obtain ⟨e, entryDone, merged⟩ := tattEntry_record started kind some_ (place kind) tag
    ((List.range h.rows).map fun i => (unpackCodes 16 128
      (((memRead a.scr (scrBase p + h.qaddr) (256 * h.rows)).drop (256 * i)).take 256)).map (decodeFp fmtBf16))
  refine ⟨e, merged, ?_⟩
  unfold tattAttend
  simp only [read, pass, some_.ne', qread, doneKept, waitKept, ne_eq, not_true_eq_false, if_false, true_and, List.drop_zero]
  exact tattFold_one pc entryDone

/-- The tine after a fold of one record. -/
theorem attended_tine {p k : Nat} {x y : Tine} {d e : Dev} (f : TineFolds p k y d e) (loops : y.loops = x.loops) :
    let z := ((e.attEnded p k x.pc).plot p).tine k
    z.att = y.att ∧ z.attTag = y.attTag ∧ z.pc = x.goesOn.pc ∧ z.wait = .none ∧ z.checks = y.checks := by
  dsimp only
  rw [Dev.attEnded, Dev.tine_modTine_same, Dev.tine_modTine_same]
  refine ⟨?_, ?_, tineAdvance_pc ?_, rfl, ?_⟩
  · rw [tineAdvance_only, f.tine]
  · rw [tineAdvance_only, f.tine]
  · rw [f.tine]
    exact loops
  · rw [tineAdvance_only, f.tine]

theorem attMerge_empty (st : AttState) : (attMerge AttState.empty st).1 = st := rfl

/-- Empty states take the states they are merged with. -/
theorem merge_replicate_empty (sts : List AttState) :
    ((List.replicate sts.length AttState.empty).zip sts).map (fun e => (attMerge e.1 e.2).1) = sts := by
  induction sts with
  | nil => rfl
  | cons st t ih => rw [List.length_cons, List.replicate_succ, List.zip_cons_cons, List.map_cons, attMerge_empty, ih]

theorem exec_tattAttend (p k : Nat) (s : State) : exec (.tattAttend p k) s =
    onDev s fun d => tineStep d p k (isTatt d p k 0) true fun d pc w => tattAttend d p k pc w := rfl

theorem exec_partialRecordValid (p k : Nat) (s : State) : exec (.partialRecordValid p k) s =
    onDev s fun d => if isPlot p && k < 16 then partialRecordValid d p k else d := rfl

theorem recordStates_length (d : Dev) (p : Nat) (h : AttList) (x : AttEntry) : (recordStates d p h x).length = h.rows := by
  simp [recordStates]

theorem tattAttend_completes {s : State} {p k w : Nat} {h : AttList} {x : AttEntry} (live : Live s)
    (l : RecordList s.dev p k w h x) (done : ((s.dev.plot p).tine k).attDone = 0)
    (issues : TineIssues s.dev p k w) : Completes (.tattAttend p k) s (fun t => OnlyPlot p s.dev t.dev ∧
      ((t.dev.plot p).tine k).att = recordStates s.dev p h x ∧ ((t.dev.plot p).tine k).attTag = h.tag ∧
      ((t.dev.plot p).tine k).pc = ((s.dev.plot p).tine k).goesOn.pc ∧ ((t.dev.plot p).tine k).wait = .none ∧
      ((t.dev.plot p).tine k).checks.length = ((s.dev.plot p).tine k).checks.length + 1) := by
  obtain ⟨e, folds, run⟩ := tattAttend_record l done ((s.dev.plot p).tine k).pc
  have free : ((s.dev.plot p).tine k).wait = .none := issues.2.2.2.1
  have mine : isTatt s.dev p k 0 w = true := l.attend ▸ l.isTatt (by rw [l.attend]; decide)
  have gives : Gives (.tattAttend p k) s ((e.attEnded p k ((s.dev.plot p).tine k).pc).tineCounted p k) := by
    rw [Gives, exec_tattAttend, onDev_live live, tineStep_done true issues (by rw [l.hop]; decide) mine run]
    rfl
  have start : ((s.dev.plot p).tine k).attStarted h = ((s.dev.plot p).tine k).attBegun h := if_pos ⟨done, free⟩
  rw [start] at folds
  obtain ⟨att, tag, pc, wait, checks⟩ := attended_tine folds (x := (s.dev.plot p).tine k) rfl
  have merged := merge_replicate_empty (recordStates s.dev p h x)
  rw [recordStates_length] at merged
  refine gives.completes ⟨(folds.others.attEnded k _).trans (OnlyPlot.setPlot _ _ _), ?_⟩
  dsimp only
  rw [Dev.tineCounted_tine]
  exact ⟨att.trans merged, tag, pc, wait, by rw [checks]; exact List.length_append⟩

theorem partialRecordValid_completes {s : State} {p k w : Nat} {h : AttList} {x : AttEntry} (live : Live s)
    (l : RecordList s.dev p k w h x) (plot : isPlot p = true) (hk : k < 16)
    (waits : ((s.dev.plot p).tine k).wait = .partialRec) (done : ((s.dev.plot p).tine k).attDone = 0)
    (running : (s.dev.plot p).rg (fBED_TINE_STATUS_STATE.bit k) = 1)
    (fetched : tineFetch (s.dev.plot p) k ((s.dev.plot p).tine k).pc = (w, 0)) :
    Completes (.partialRecordValid p k) s (fun t => OnlyPlot p s.dev t.dev ∧ ((t.dev.plot p).tine k).att =
        (((s.dev.plot p).tine k).att.zip (recordStates s.dev p h x)).map (fun e => (attMerge e.1 e.2).1) ∧
      ((t.dev.plot p).tine k).pc = ((s.dev.plot p).tine k).goesOn.pc ∧ ((t.dev.plot p).tine k).wait = .none) := by
  obtain ⟨e, folds, run⟩ := tattAttend_record l done ((s.dev.plot p).tine k).pc
  have gives : Gives (.partialRecordValid p k) s (e.attEnded p k ((s.dev.plot p).tine k).pc) := by
    rw [Gives, exec_partialRecordValid, onDev_live live, if_pos (by simp [plot, hk])]
    unfold partialRecordValid
    simp only [waits, running, fetched, run, ne_eq, not_true_eq_false, or_self, if_false]
  have kept : ((s.dev.plot p).tine k).attStarted h = (s.dev.plot p).tine k := if_neg (by simp [waits])
  rw [kept] at folds
  obtain ⟨att, -, pc, wait, -⟩ := attended_tine folds (x := (s.dev.plot p).tine k) rfl
  exact gives.completes ⟨folds.others.attEnded k _, att, pc, wait⟩

end Sys2Proof.Machine
end

section
/-! PROOFS. TATT: the score of a summary, the wait that expires, and the obligation (R222, R233, R234). -/

namespace Sys2Proof.Machine

/-! ## SCORE over one summary (R222, R234) -/

theorem exec_tattScore (p k : Nat) (s : State) : exec (.tattScore p k) s =
    onDev s fun d => tineStep d p k (isTatt d p k 1) false fun d _ w => tattScore d p k w := rfl

/-- Lines that a list does not touch, in a plot that has touched none, may be written. -/
theorem tineWriteStop_reads {p k a n : Nat} {us : List Nat} {d e : Dev} (reads : TineReads p k us d e)
    (fits : inData a n = true) (fresh : (d.plot p).units = []) (apart : ∀ u ∈ us, u ∉ unitsOf a n)
    (inbound : (tineIssue (d.plot p) k).any (·.outbound) = false) : tineWriteStop (e.plot p) k a n = 0 := by
  have clear : regionConflict (e.plot p) [] (unitsOf a n) = false := by
    refine List.any_eq_false.mpr fun u hu => ?_
    have idle : (e.plot p).unit u = UnitSt.idle := by
      rw [reads.marks u fun h => apart u h hu, Plot.unit, fresh, SMap.get_nil]
    simp [idle, UnitSt.idle]
  simp [tineWriteStop, fits, reads.issue, inbound, clear]

/-- The score of the summary that an entry names, for the query at `a`. -/
def entryScore (d : Dev) (p k a : Nat) (x : AttEntry) : Nat :=
  code32 (summaryScore ((unpackCodes 32 128 (memRead d.scr (scrBase p + a) 512)).map val32)
    (memRead d.bed (bedBase p + bedLoc (k / 4) (2 * (k % 4) + x.bank) x.frame (x.slot * 512)) 512)).1

/-- A list of one summary, in lines other than those of its score, over a bed without a column in error. -/
structure ScoreList (d : Dev) (p k w : Nat) (h : AttList) (x : AttEntry) : Prop extends EntryList d p k w h x where
  score : h.op = 1
  rows : h.rows = 1
  apart : ∀ u ∈ unitsOf (((d.plot p).tine k).reg (bitsOf w 24 3)) 144, u ∉ unitsOf h.out 4
  clean : (d.plot p).bedErr = []
  inbound : (tineIssue (d.plot p) k).any (·.outbound) = false

theorem tattScore_one {d : Dev} {p k w : Nat} {h : AttList} {x : AttEntry} (l : ScoreList d p k w h x) :
    ∃ e, tattScore d p k w = .done e ∧ TineWrote p h.out (leBytes 4 (entryScore d p k h.qaddr x)) d e := by
  obtain ⟨l, score, rows, apart, clean, inbound⟩ := l
  have pass := l.pass
  obtain ⟨fits, query, out, -⟩ := tattStop_passes l.one (by omega) pass
  rw [if_pos score] at query
  obtain ⟨-, inside⟩ := inData_iff.mp query
  obtain ⟨a, read, reads⟩ := l.read fits
  obtain ⟨b, qread, qreads⟩ := tineRead_reads (reads.sound l.sound) (a := h.qaddr) (by omega) k 512
  have may := tineWriteStop_reads reads (out score) l.fresh apart inbound
  have bed := bedRead_clean (d := b) (p := p) (by rw [qreads.bedErr, reads.bedErr, clean])
  have bytes : (summaryScore ((unpackCodes 32 128 (memRead a.scr (scrBase p + h.qaddr) 512)).map val32)
      (memRead b.bed (bedBase p + bedLoc (k / 4) (2 * (k % 4) + x.bank) x.frame (x.slot * 512)) 512)) =
        summaryScore ((unpackCodes 32 128 (memRead d.scr (scrBase p + h.qaddr) 512)).map val32)
          (memRead d.bed (bedBase p + bedLoc (k / 4) (2 * (k % 4) + x.bank) x.frame (x.slot * 512)) 512) := by
    rw [reads.scr, qreads.others.1, reads.others.1]
  have run : ∃ fl, tattScore d p k w = .done (tineWrite (addTineCheck (b.modPlot p (fmtFlags · fl)) p k
      ⟨0, 0, 0, false, []⟩) p k h.out (leBytes 4 (entryScore d p k h.qaddr x))) := by
    unfold tattScore entryScore
    simp only [read, pass, rows, one_ne_zero, List.isEmpty_cons, Bool.false_eq_true, or_self, if_false, ne_eq,
      not_true_eq_false, List.length_singleton, Nat.mul_one, may, qread, List.foldl_cons, List.foldl_nil, bed, Nat.max_self,
      bytes, List.nil_append, List.flatMap_cons, List.flatMap_nil, List.append_nil]
    exact ⟨_, rfl⟩
  obtain ⟨fl, run⟩ := run
  refine ⟨_, run, ?_⟩
  have kept : TinesKept (d.plot p) ((addTineCheck (b.modPlot p (fmtFlags · fl)) p k ⟨0, 0, 0, false, []⟩).plot p) := by
    rw [addTineCheck, Dev.modTine, Dev.plot_modPlot_same, Dev.plot_modPlot_same]
    exact ((reads.kept.trans qreads.kept).trans (MarksOnly.fmtFlags _ fl).tinesKept).trans (TinesKept.setTine _ k rfl rfl)
  obtain ⟨only, after⟩ := tineWrite_sound (a := h.out) (bytes := leBytes 4 (entryScore d p k h.qaddr x))
    (kept.sound l.sound) (by rw [leBytes_length]; exact (inData_iff.mp (out score)).2) k
  refine ⟨only.trans ?_, kept.trans after⟩
  rw [show (addTineCheck (b.modPlot p (fmtFlags · fl)) p k ⟨0, 0, 0, false, []⟩).scr = b.scr from rfl, qreads.scr,
    reads.scr]
  rw [addTineCheck, Dev.modTine, Dev.modPlot, Dev.modPlot, qreads.others.1, reads.others.1]
  rfl

theorem tattScore_completes {s : State} {p k w : Nat} {h : AttList} {x : AttEntry} (live : Live s)
    (l : ScoreList s.dev p k w h x)
    (issues : TineIssues s.dev p k w) : Completes (.tattScore p k) s (fun t =>
      memRead t.dev.scr (scrBase p + h.out) 4 = leBytes 4 (entryScore s.dev p k h.qaddr x) ∧
      (∀ b, b < scrBase p + h.out ∨ scrBase p + h.out + 4 ≤ b → memGet t.dev.scr b = memGet s.dev.scr b) ∧
      SameStores { s.dev with scr := t.dev.scr } t.dev ∧
      ((t.dev.plot p).tine k).pc = ((s.dev.plot p).tine k).goesOn.pc) := by
  obtain ⟨e, run, wrote⟩ := tattScore_one l
  have mine : isTatt s.dev p k 1 w = true := l.score ▸ l.isTatt (by rw [l.score]; decide)
  have gives : Gives (.tattScore p k) s (e.tineOn p k ((s.dev.plot p).tine k).pc) := by
    rw [Gives, exec_tattScore, onDev_live live, tineStep_done false issues (by rw [l.hop]; decide) mine run]
    rfl
  have scr : e.scr = memWrite s.dev.scr (scrBase p + h.out) (leBytes 4 (entryScore s.dev p k h.qaddr x)) := by rw [wrote.only]
  have four := leBytes_length 4 (entryScore s.dev p k h.qaddr x)
  refine gives.completes ⟨?_, fun b hb => ?_, wrote.stores k _, ?_⟩
  · have back := memRead_memWrite (leBytes 4 (entryScore s.dev p k h.qaddr x)) s.dev.scr (scrBase p + h.out)
    rw [four] at back
    exact scr ▸ back
  · change memGet e.scr b = _
    rw [scr, memGet_memWrite_out _ _ _ _ (by omega)]
  · dsimp only
    rw [Dev.tineOn_tine_same]
    exact tineAdvance_pc (wrote.kept.loops k)

/-! ## A wait that expires (R233, R248) -/

/-- A register key outside PLOT_ATT_ERR. -/
def outsideAttErr (k : Nat) : Prop := k < 0x2810 * 64 ∨ 0x2818 * 64 ≤ k

/-- A code of the attention class captured: PLOT_ATT_ERR is valid, and at most PLOT_IRQ has changed beside it. -/
structure AttCaptured (p : Nat) (d e : Dev) : Prop where
  others : OnlyPlot p d e
  only : e.plot p = { d.plot p with regs := (e.plot p).regs }
  regs : ∀ g : Fld, outsideAttErr g.key → outsideIrq g.key → (e.plot p).rg g = (d.plot p).rg g
  valid : (e.plot p).rg fPLOT_ATT_ERR_VALID = 1

theorem attErr_captures (d : Dev) (p page row : Nat) {code : Nat} (cls : code / 256 = 0x0E) :
    AttCaptured p d (attErr d p code page row) := by
  unfold attErr
  dsimp only
  split
  next kept => exact ⟨⟨rfl, fun _ _ => rfl⟩, rfl, fun _ _ _ => rfl, kept.resolve_left (not_not_intro cls)⟩
  next empty =>
    let pl := ((((d.plot p).rs fPLOT_ATT_ERR_VALID 1).rs fPLOT_ATT_ERR_CODE code).rs fPLOT_ATT_ERR_PAGE page).rs
      fPLOT_ATT_ERR_ROW row
    have irq := IrqOnly.plotIrq (d.setPlot p pl) p 10
    have same : (d.setPlot p pl).plot p = pl := Dev.plot_setPlot_same ..
    refine ⟨(OnlyPlot.setPlot d p pl).trans irq.others, ?_, fun g hg out => (irq.regs g out).trans ?_,
      (irq.regs _ (.inr (by decide))).trans ?_⟩
    · rw [irq.only, same]
      rfl
    · have ne {f : Fld} (hf : ¬ outsideAttErr f.key) : g.key ≠ f.key := fun e => hf (e ▸ hg)
      unfold outsideAttErr at ne
      rw [same, Plot.rg_rs_ne _ (ne (by decide)), Plot.rg_rs_ne _ (ne (by decide)), Plot.rg_rs_ne _ (ne (by decide)),
        Plot.rg_rs_ne _ (ne (by decide))]
    · rw [same, Plot.rg_rs_ne _ (by decide), Plot.rg_rs_ne _ (by decide), Plot.rg_rs_ne _ (by decide), Plot.rg_rs_same]
      rfl

/-- What the first stop of a tine leaves of the registers above the sequencer's. -/
theorem tineStop_rg {d : Dev} {p k : Nat} {i : Issue} (idx code : Nat) (issue : tineIssue (d.plot p) k = some i)
    (first : (d.plot p).rg fBED_TINE_STOP_CODE = 0) {g : Fld} (seq : 0x18 * 64 ≤ g.key) (bank : outsideBank 0x3800 g.key)
    (irq : outsideIrq g.key) (states : outsideTineStates g.key) :
    ((tineStop d p k idx code false).plot p).rg g = ((d.plot p).tineStopped k idx code).rg g := by
  rw [tineStop_first issue first, stopAt_plot_rg _ _ _ _ seq bank, (IrqOnly.plotIrq _ p 9).regs g irq,
    Dev.plot_setPlot_same, Plot.issueStopped_rg _ _ _ _ states]

/-- What it leaves of the sequencer of a running plot. -/
theorem tineStop_seq {d : Dev} {p k : Nat} {i : Issue} (idx : Nat) {code : Nat} (issue : tineIssue (d.plot p) k = some i)
    (first : (d.plot p).rg fBED_TINE_STOP_CODE = 0) (running : (d.plot p).rg fPLOT_SEQ_STATUS_STATE = 2)
    (nonzero : code ≠ 0) (fits : code < 2 ^ 16) :
    ((tineStop d p k idx code false).plot p).rg fPLOT_SEQ_STATUS_STATE = 3 ∧
      ((tineStop d p k idx code false).plot p).rg fPLOT_SEQ_STOP_CODE = code := by
  rw [tineStop_first issue first]
  obtain ⟨state, stop, -⟩ := stopAt_running_rg (pc := i.pc) (p := p)
    (d := plotIrq (d.setPlot p (((d.plot p).tineStopped k idx code).issueStopped i k code)) p 9) (by
      rw [(IrqOnly.plotIrq _ p 9).regs _ (.inl (by decide)), Dev.plot_setPlot_same,
        Plot.issueStopped_rg _ _ _ _ (.inl (by decide)), Plot.tineStopped, Plot.rg_rs_ne _ (by decide),
        Plot.rg_rs_ne _ (by decide), Plot.rg_rs_ne _ (by decide), running]) nonzero fits
  exact ⟨state, stop⟩

theorem exec_attPartialTimeout (p k : Nat) (s : State) : exec (.attPartialTimeout p k) s = onDev s fun d =>
    if isPlot p && k < 16 && ((d.plot p).tine k).wait = .partialRec && (d.plot p).rg (fBED_TINE_STATUS_STATE.bit k) = 1 then
      tineStop (attErr d p 0x0E03 0 0) p k ((d.plot p).tine k).pc 0x0E03 false
    else d := rfl

theorem attPartialTimeout_stops {s : State} {p k : Nat} {i : Issue} (live : Live s) (plot : isPlot p = true) (hk : k < 16)
    (waits : ((s.dev.plot p).tine k).wait = .partialRec) (running : (s.dev.plot p).rg (fBED_TINE_STATUS_STATE.bit k) = 1)
    (issue : tineIssue (s.dev.plot p) k = some i) (seq : (s.dev.plot p).rg fPLOT_SEQ_STATUS_STATE = 2)
    (first : (s.dev.plot p).rg fBED_TINE_STOP_CODE = 0) :
    Completes (.attPartialTimeout p k) s (fun t => (t.dev.plot p).rg fBED_TINE_STOP_CODE = 0x0E03 ∧
      (t.dev.plot p).rg fPLOT_SEQ_STATUS_STATE = 3 ∧ (t.dev.plot p).rg fPLOT_SEQ_STOP_CODE = 0x0E03 ∧
      (t.dev.plot p).rg fPLOT_ATT_ERR_VALID = 1) := by
  have captured := attErr_captures s.dev p 0 0 (code := 0x0E03) (by decide)
  have gives : Gives (.attPartialTimeout p k) s
      (tineStop (attErr s.dev p 0x0E03 0 0) p k ((s.dev.plot p).tine k).pc 0x0E03 false) := by
    rw [Gives, exec_attPartialTimeout, onDev_live live, if_pos (by simp [plot, hk, waits, running])]
  generalize attErr s.dev p 0x0E03 0 0 = d at captured gives
  have issue' : tineIssue (d.plot p) k = some i := by
    rw [captured.only]
    exact issue
  have first' : (d.plot p).rg fBED_TINE_STOP_CODE = 0 :=
    (captured.regs _ (.inl (by decide)) (.inr (by decide))).trans first
  obtain ⟨state, code⟩ := tineStop_seq ((s.dev.plot p).tine k).pc issue' first'
    ((captured.regs _ (.inl (by decide)) (.inl (by decide))).trans seq) (code := 0x0E03) (by decide) (by decide)
  refine gives.completes ⟨?_, state, code, ?_⟩
  · dsimp only
    rw [tineStop_rg _ _ issue' first' (by decide) (.inl (by decide)) (.inr (by decide)) (.inr (by decide)), Plot.tineStopped,
      Plot.rg_rs_ne _ (by decide), Plot.rg_rs_ne _ (by decide), Plot.rg_rs_same]
    rfl
  · dsimp only
    rw [tineStop_rg _ _ issue' first' (by decide) (.inl (by decide)) (.inr (by decide)) (.inr (by decide)), Plot.tineStopped,
      Plot.rg_rs_ne _ (by decide), Plot.rg_rs_ne _ (by decide), Plot.rg_rs_ne _ (by decide), captured.valid]

/-- Settles O18: one record folded by a TATT that starts and by one that has waited, a wait that expires, and one score. -/
theorem tineAttention : Obligations.TineAttention := by
  intro s p k r live hr hs
  refine ⟨fun i plot hk waits running issue seq first => attPartialTimeout_stops live plot hk waits running issue seq first,
    fun h x fresh list entry pass => ?_⟩
  obtain ⟨-, one, freg, hop⟩ := tatt_fields hr rfl
  have l : EntryList s.dev p k _ h x :=
    ⟨hs, fresh, hop, one, by rw [freg]; exact list, by rw [freg]; exact entry, by rw [freg]; exact pass⟩
  refine ⟨fun attend some_ kind tag => ⟨fun done issues => ?_, fun plot hk waits done running fetched => ?_⟩,
    fun score rows apart clean inbound issues => ?_⟩
  · exact tattAttend_completes live ⟨l, attend, some_, kind, tag⟩ done issues
  · exact partialRecordValid_completes live ⟨l, attend, some_, kind, tag⟩ plot hk waits done running fetched
  · exact tattScore_completes live ⟨l, score, rows, by rw [freg]; exact apart, clean, inbound⟩ issues

end Sys2Proof.Machine
end

section
/-! PROOFS. The words of ATT and its reads; ACFG, QLOAD and CLEAR (R142, R236, R237). -/

namespace Sys2Proof.Machine

/-! ## One ATT issued -/

/-- The word of an ATT of sub-operation `sub` with I0 as its index register, by its fields. -/
structure AttWord (sub off n f w : Nat) : Prop where
  op : w / 2 ^ 58 = 0x1C
  sub : bitsOf w 55 3 = sub
  index : bitsOf w 51 4 = 0
  off : bitsOf w 35 16 = off
  count : bitsOf w 26 9 = n
  fmt : bitsOf w 22 4 = f
  low : bitsOf w 0 17 = 0

theorem attWord {sub off n f w : Nat} (hs : sub < 5) (ho : off < 2 ^ 16) (hn : n < 512) (hf : f < 16)
    (hw : 0x1C * 2 ^ 58 + sub * 2 ^ 55 + off * 2 ^ 35 + n * 2 ^ 26 + f * 2 ^ 22 = w) : AttWord sub off n f w := by
  subst hw
  constructor
  · omega
  all_goals unfold bitsOf; omega

theorem AttWord.legal {sub off n f w : Nat} (h : AttWord sub off n f w) (hs : sub < 5) : wordLegal w = true := by
  have known : opcodeKnown 0x1C = true := rfl
  rw [wordLegal, h.op, h.sub]
  simp [known, hs]

theorem AttWord.isAtt {sub off n f w : Nat} (h : AttWord sub off n f w) : isAtt sub w = true := by
  rw [Machine.isAtt, isOp, decide_eq_true h.op, decide_eq_true h.sub]
  rfl

theorem AttWord.addr {sub off n f w : Nat} (h : AttWord sub off n f w) (ho : off < 2 ^ 16) (pl : Plot) :
    attAddr pl w = off * 16 := by
  rw [attAddr, h.index, h.off, opAddr_zero, Nat.mod_eq_of_lt (by omega)]

theorem AttWord.attCount {sub off n f w : Nat} (h : AttWord sub off n f w) : attCount w = n := h.count

theorem countIssue_att (pl : Plot) : countIssue pl 0x1C =
    (pl.count (fPLOT_UNIT_ICNT_COUNT.at 3) 1).count (fPLOT_UNIT_ICNT_COUNT.at 2) 1 := rfl

/-- An ATT that has its effect on plot `p` alone, and on no register but the program counter, has run. -/
theorem ran_att {p pc : Nat} {s : State} {e : Dev} (only : OnlyPlot p s.dev e) (regs : (e.plot p).regs = (s.dev.plot p).regs) :
    Ran p [fPLOT_UNIT_ICNT_COUNT.at 2] s { s with dev := e.goneOn p 0x1C pc } := by
  refine ran_goneOn only fun g hg => ?_
  simp only [List.cons_append, List.nil_append, List.map_cons, List.map_nil, List.mem_cons, List.not_mem_nil, or_false,
    not_or] at hg
  obtain ⟨pipeline, -, scratch⟩ := hg
  rw [countIssue_att]
  refine (Plot.rg_rs_ne _ pipeline _).trans ((Plot.rg_rs_ne _ scratch _).trans ?_)
  rw [Plot.rg, regs, Plot.rg]

/-! ## Reads of scratch by the pipeline (R141, R161) -/

theorem OnlyPlot.attReads (d : Dev) (p : Nat) (us : List Nat) : OnlyPlot p d (attReads d p us) := OnlyPlot.setPlot d p _

theorem attReads_plot (d : Dev) (p : Nat) (us : List Nat) :
    (attReads d p us).plot p = { d.plot p with units := ((attReads d p us).plot p).units } := by
  rw [attReads, Dev.plot_modPlot_same]
  exact markRead_only _ us

theorem attReads_sound {d : Dev} {p : Nat} (hs : Sound (d.plot p)) (us : List Nat) : Sound ((attReads d p us).plot p) := by
  rw [attReads_plot]
  exact hs

/-- A read of sound scratch by the pipeline leaves READ marks and nothing else. -/
theorem attReads_read {d : Dev} {p a : Nat} (hs : Sound (d.plot p)) (ha : a < 2 ^ 20) (us : List Nat) (pc n : Nat) :
    plotRead (attReads d p us) p pc a n = (attReads d p us, memRead d.scr (scrBase p + a) n) := by
  have sound := attReads_sound hs us
  rw [plotRead_sound sound, localBytes_scratch sound.1 ha]
  rfl

/-! ## ACFG (R236) -/

theorem exec_acfg (p : Nat) (s : State) : exec (.acfg p) s =
    onDev s fun d => issueWord d p (isAtt 0) false fun d pc w => attStop d p (acfgRun d p pc w) := rfl

/-- The device with a configuration block in force. -/
def attConfigured (d : Dev) (p : Nat) (c : AttCfg) : Dev :=
  d.modPlot p fun pl => { pl with att := { pl.att with cfg := some c, fresh := true, loaded := false } }

theorem acfgRun_sets {d : Dev} {p off q w : Nat} (hs : Sound (d.plot p)) (ho : off < 2 ^ 16) (hq : q ≤ 128)
    (word : AttWord 0 off q 0 w) (fits : inData (off * 16) 640 = true)
    (good : (parseAcfg q (memRead d.scr (scrBase p + off * 16) 640)).2 = false) (pc : Nat) : acfgRun d p pc w =
      .done (attConfigured (attReads d p (unitsOf (off * 16) 640)) p
        (parseAcfg q (memRead d.scr (scrBase p + off * 16) 640)).1) := by
  unfold acfgRun
  simp only [word.low, word.addr ho, word.attCount, attReads_read hs (show off * 16 < 2 ^ 20 by omega), fits, good,
    Nat.not_lt.mpr hq, ne_eq, not_true_eq_false, if_false, Nat.mul_mod_left, Bool.not_true, Bool.false_eq_true]
  rfl

theorem acfg_completes {s : State} {p off q w : Nat} (live : Live s) (hs : Sound (s.dev.plot p)) (ho : off < 2 ^ 16)
    (hq : q ≤ 128) (word : AttWord 0 off q 0 w) (fits : inData (off * 16) 640 = true)
    (good : (parseAcfg q (memRead s.dev.scr (scrBase p + off * 16) 640)).2 = false) (issues : Issues s.dev p w) :
    Completes (.acfg p) s (fun t => Ran p [fPLOT_UNIT_ICNT_COUNT.at 2] s t ∧ WentOn (s.dev.plot p) (t.dev.plot p) ∧
      (t.dev.plot p).att = { (s.dev.plot p).att with
        cfg := some (parseAcfg q (memRead s.dev.scr (scrBase p + off * 16) 640)).1, fresh := true, loaded := false }) := by
  have run := acfgRun_sets hs ho hq word fits good (s.dev.plot p).pc
  have gives := issue_gives live (exec_acfg p s) issues word.op (word.legal (by decide)) word.isAtt (by rw [run]; rfl)
  generalize (parseAcfg q (memRead s.dev.scr (scrBase p + off * 16) 640)).1 = c at gives
  have plot : (attConfigured (attReads s.dev p (unitsOf (off * 16) 640)) p c).plot p = { s.dev.plot p with
      units := ((attReads s.dev p (unitsOf (off * 16) 640)).plot p).units
      att := { (s.dev.plot p).att with cfg := some c, fresh := true, loaded := false } } := by
    rw [attConfigured, Dev.plot_modPlot_same, attReads_plot]
  refine gives.completes ⟨ran_att ((OnlyPlot.attReads _ p _).trans (OnlyPlot.setPlot _ p _)) (by rw [plot]), ?_, ?_⟩
  · rw [Dev.goneOn_plot_same]
    exact wentOn_advance (by rw [plot]) _
  · rw [Dev.goneOn_plot_same, plot, countIssue_advance_only]

/-! ## QLOAD (R237) -/

theorem exec_qload (p : Nat) (s : State) : exec (.qload p) s =
    onDev s fun d => issueWord d p (isAtt 1) false fun d pc w => attStop d p (qloadRun d p pc w) := rfl

/-- The query rows at `a` of the scratch at `base`. -/
def queryRows (m : List Host.Cell) (base a n : Nat) : List (List Nat) :=
  (List.range n).map fun i => unpackCodes 16 128 (memRead m (base + (a + 256 * i)) 256)

theorem queryRows_of_bytes (m : List Host.Cell) (base a n : Nat) : (List.range n).map (fun i =>
    unpackCodes 16 128 (((memRead m (base + a) (256 * n)).drop (256 * i)).take 256)) = queryRows m base a n := by
  refine List.map_congr_left fun i hi => ?_
  have := List.mem_range.mp hi
  rw [memRead_drop, memRead_take _ _ (by omega), Nat.add_assoc]

/-- A device whose plot `p` has loaded query rows: nothing else has changed, but for READ marks and what the rows depend
on. -/
structure QueryLoaded (p : Nat) (rows : List (List Nat)) (d e : Dev) : Prop where
  others : OnlyPlot p d e
  only : e.plot p = { d.plot p with units := (e.plot p).units, att := (e.plot p).att }
  att : (e.plot p).att = { (d.plot p).att with
    loaded := true, qrows := rows, deps := (e.plot p).att.deps, bad := (e.plot p).att.bad }

theorem qloadRun_loads {d : Dev} {p off n w : Nat} {c : AttCfg} (hs : Sound (d.plot p)) (ho : off < 2 ^ 16)
    (word : AttWord 1 off n 0 w) (cfg : (d.plot p).att.cfg = some c) (hq : c.q = n) (some_ : 0 < n)
    (fits : inScratch (off * 16) (256 * n) = true) (pc : Nat) :
    ∃ e, qloadRun d p pc w = .done e ∧ QueryLoaded p (queryRows d.scr (scrBase p) (off * 16) n) d e := by
  have rows : attQ (d.plot p) = n := by rw [attQ, cfg]; exact hq
  have inside : inLocal (off * 16) (256 * n) = true := by rw [inLocal, fits]; rfl
  have set : (d.plot p).att.cfg.isNone = false := by rw [cfg]; rfl
  unfold qloadRun
  simp only [word.low, word.addr ho, word.attCount, attReads_read hs (show off * 16 < 2 ^ 20 by omega), inside, rows, set,
    some_.ne', ne_eq, not_true_eq_false, if_false, Nat.mul_mod_left, Bool.not_true, Bool.false_eq_true, queryRows_of_bytes,
    Bool.false_or, decide_false, Issued.done.injEq, exists_eq_left']
  refine ⟨(OnlyPlot.attReads _ p _).trans (OnlyPlot.setPlot _ p _), ?_, ?_⟩ <;> rw [Dev.plot_modPlot_same, attReads_plot]

theorem qload_completes {s : State} {p off n w : Nat} {c : AttCfg} (live : Live s) (hs : Sound (s.dev.plot p))
    (ho : off < 2 ^ 16) (word : AttWord 1 off n 0 w) (cfg : (s.dev.plot p).att.cfg = some c) (hq : c.q = n) (some_ : 0 < n)
    (fits : inScratch (off * 16) (256 * n) = true) (issues : Issues s.dev p w) :
    Completes (.qload p) s (fun t => Ran p [fPLOT_UNIT_ICNT_COUNT.at 2] s t ∧ WentOn (s.dev.plot p) (t.dev.plot p) ∧
      (t.dev.plot p).att.loaded = true ∧ (t.dev.plot p).att.rows = (s.dev.plot p).att.rows ∧
      (t.dev.plot p).att.qrows = queryRows s.dev.scr (scrBase p) (off * 16) n) := by
  obtain ⟨e, run, others, only, att⟩ := qloadRun_loads hs ho word cfg hq some_ fits (s.dev.plot p).pc
  have gives := issue_gives live (exec_qload p s) issues word.op (word.legal (by decide)) word.isAtt (by rw [run]; rfl)
  refine gives.completes ⟨ran_att others (by rw [only]), ?_, ?_⟩
  · rw [Dev.goneOn_plot_same]
    exact wentOn_advance (by rw [only]) _
  · rw [Dev.goneOn_plot_same, countIssue_advance_only, att]
    exact ⟨rfl, rfl, rfl⟩

/-! ## CLEAR (R237) -/

theorem exec_attClear (p : Nat) (s : State) : exec (.attClear p) s = onDev s fun d => issueWord d p (isAtt 4) false
    fun d _ w => if bitsOf w 0 17 ≠ 0 then .stop 0x0C01
      else .done (d.modPlot p fun pl => { pl with att := { pl.att with
        rows := [], fresh := false, loaded := false, deps := [], bad := false } }) := rfl

theorem attClear_completes {s : State} {p w : Nat} (live : Live s) (word : AttWord 4 0 0 0 w) (issues : Issues s.dev p w) :
    Completes (.attClear p) s (fun t => Ran p [fPLOT_UNIT_ICNT_COUNT.at 2] s t ∧ WentOn (s.dev.plot p) (t.dev.plot p) ∧
      (t.dev.plot p).att = { (s.dev.plot p).att with
        rows := [], fresh := false, loaded := false, deps := [], bad := false }) := by
  have gives := issue_gives live (exec_attClear p s) issues word.op (word.legal (by decide)) word.isAtt
    (if_neg (not_not.mpr word.low))
  refine gives.completes ⟨ran_att (OnlyPlot.setPlot _ p _) (by rw [Dev.plot_modPlot_same]), ?_, ?_⟩
  · rw [Dev.goneOn_plot_same]
    exact wentOn_advance (by rw [Dev.plot_modPlot_same]) _
  · rw [Dev.goneOn_plot_same, Dev.plot_modPlot_same, countIssue_advance_only]

end Sys2Proof.Machine
end

section
/-! PROOFS. KVPAGES over one partial record in FOLD 1 (R224, R237, R240). -/

namespace Sys2Proof.Machine

/-! ## The running state after a merge (R224, R237) -/

/-- The running state with the first `q` rows merged with the states of a record, as the pipeline writes it. -/
def mergedRows (rows : SMap AttState) (q : Nat) (st : Nat → AttState) : SMap AttState :=
  (List.range q).foldl (fun m r => SMap.set AttState.empty m r (attMerge (SMap.get AttState.empty rows r) (st r)).1) rows

theorem get_mergedRows_in (rows : SMap AttState) {q r : Nat} (st : Nat → AttState) (h : r < q) :
    SMap.get AttState.empty (mergedRows rows q st) r = (attMerge (SMap.get AttState.empty rows r) (st r)).1 :=
  SMap.get_foldl_set_in AttState.empty id (fun _ r => (attMerge (SMap.get AttState.empty rows r) (st r)).1) (List.range q) rows
    (by rw [List.map_id]; exact List.nodup_range) (List.mem_range.mpr h)

theorem get_mergedRows_out (rows : SMap AttState) {q r : Nat} (st : Nat → AttState) (h : q ≤ r) :
    SMap.get AttState.empty (mergedRows rows q st) r = SMap.get AttState.empty rows r :=
  SMap.get_foldl_set_out AttState.empty AttState.empty id
    (fun _ r => (attMerge (SMap.get AttState.empty rows r) (st r)).1) (List.range q) rows
    fun x hx => by have := List.mem_range.mp hx; simp only [id]; omega

/-- One entry has been merged: nothing but the plot has changed, which has one more check, and its running state has the
rows of the entry merged in. -/
structure EntryMerged (p q : Nat) (st : Nat → AttState) (d e : Dev) : Prop where
  others : OnlyPlot p d e
  loops : (e.plot p).loops = (d.plot p).loops
  checks : (e.plot p).attChecks.length = (d.plot p).attChecks.length + 1
  rows : (e.plot p).att.rows = mergedRows (d.plot p).att.rows q st

theorem kvApply_merges (d : Dev) (p pc i : Nat) {c : AttCfg} (tee : List Byte) (e : AttEntry) {k : KvPart}
    (fold : c.fold = 1) (record : k.record = none) : EntryMerged p c.q
      (fun r => (k.parts.getD r ⟨AttState.empty, 0, 0, false⟩).st) d (kvApply d p pc i c tee e k) := by
  unfold kvApply
  simp only [fold, one_ne_zero, if_false, record]
  have opened := MarksOnly.openCheck (d.plot p) [] k.reads (d.plot p).att.deps (d.plot p).att.bad
  generalize openCheck (d.plot p) [] k.reads (d.plot p).att.deps (d.plot p).att.bad = o at opened
  generalize hm : fmtFlags { o.1 with attChecks := _ } _ = m
  have flagged := hm ▸ MarksOnly.fmtFlags { o.1 with attChecks := _ } _
  refine ⟨OnlyPlot.setPlot d p _, ?_, ?_, ?_⟩
  all_goals rw [Dev.plot_setPlot_same]
  · rw [flagged.only]
    exact opened.loops
  · dsimp only
    rw [flagged.only]
    dsimp only
    rw [opened.only, List.length_append, List.length_singleton]
  · rw [flagged.only, opened.only, mergedRows, ← List.map_prod_left_eq_zip, List.foldl_map]

/-! ## The run of KVPAGES (R237) -/

theorem exec_kvpages (p : Nat) (s : State) : exec (.kvpages p) s = onDev s fun d => kvIssue d p := rfl

/-- KVPAGES goes on after its last entry. -/
def kvDone (d : Dev) (p pc : Nat) : Dev :=
  d.modPlot p fun pl => advance { pl with att := { pl.att with done := 0, waiting := false } } pc

/-- Row `i` of the partial record at `a` of the scratch at `base`. -/
def recordRow (m : List Host.Cell) (base a i : Nat) : AttState := parseRowRecord (memRead m (base + (a + 64 + 528 * i)) 528)

/-- The word `w` of a KVPAGES of bfloat16 over one entry `x`, a partial record in scratch, on a pipeline that has its
configuration `c`, its query rows and no entry done. -/
structure RecordPages (d : Dev) (p off w : Nat) (c : AttCfg) (x : AttEntry) : Prop where
  sound : Sound (d.plot p)
  place : off < 2 ^ 16
  word : AttWord 2 off 1 2 w
  cfg : (d.plot p).att.cfg = some c
  fresh : (d.plot p).att.fresh = true
  loaded : (d.plot p).att.loaded = true
  start : (d.plot p).att.done = 0
  fold : c.fold = 1
  untee : c.tee = 0
  fits : inData (off * 16) 16 = true
  entry : parseEntries true 1 (memRead d.scr (scrBase p + off * 16) 16) = [x]
  kind : x.kind = 1
  legal : x.reserved = false
  record : inData x.addr (64 + c.q * 528) = true

theorem RecordPages.passes {d : Dev} {p off w : Nat} {c : AttCfg} {x : AttEntry} (h : RecordPages d p off w c x) :
    kvStop w c [x] = 0 := by
  have rises : pagesRise [x] = true := rfl
  unfold kvStop
  simp [h.kind, h.legal, h.record, h.fold, h.untee, rises]

/-- The contribution of a partial record in scratch. -/
def recordPart (d : Dev) (p : Nat) (c : AttCfg) (x : AttEntry) : KvPart :=
  ⟨recordParts ((List.range c.q).map (recordRow d.scr (scrBase p) x.addr)), unitsOf x.addr (64 + c.q * 528), none⟩

theorem kvPartial_reads {d : Dev} {p : Nat} {c : AttCfg} {x : AttEntry} (hs : Sound (d.plot p))
    (fits : inData x.addr (64 + c.q * 528) = true) (pc : Nat) :
    kvPartial d p pc c x = .done (attReads d p (unitsOf x.addr (64 + c.q * 528))) (recordPart d p c x) := by
  obtain ⟨-, inside⟩ := inData_iff.mp fits
  unfold kvPartial
  simp only [attReads_read hs (show x.addr < 2 ^ 20 by omega), recordPart, recordParts, List.map_map]
  refine congrArg (fun l => KvRes.done _ ⟨l, _, none⟩) (List.map_congr_left fun i hi => ?_)
  have := List.mem_range.mp hi
  rw [memRead_drop, memRead_take _ _ (by omega), Function.comp_apply, recordRow, Nat.add_assoc, Nat.add_assoc x.addr]

theorem recordPart_st (d : Dev) (p : Nat) {c : AttCfg} (x : AttEntry) {r : Nat} (h : r < c.q) :
    ((recordPart d p c x).parts.getD r ⟨AttState.empty, 0, 0, false⟩).st = recordRow d.scr (scrBase p) x.addr r := by
  simp [recordPart, recordParts, List.getD_eq_getElem?_getD, h]

theorem mergedRows_congr {f g : Nat → AttState} {q : Nat} (rows : SMap AttState) (h : ∀ r, r < q → f r = g r) :
    mergedRows rows q f = mergedRows rows q g := by
  unfold mergedRows
  refine List.foldl_ext _ _ _ fun m r hr => ?_
  rw [h r (List.mem_range.mp hr)]

theorem kvRun_merges {d : Dev} {p off w : Nat} {c : AttCfg} {x : AttEntry} (h : RecordPages d p off w c x) (pc : Nat) :
    ∃ e, kvRun d p pc w = .done (kvDone e p pc) ∧ EntryMerged p c.q (recordRow d.scr (scrBase p) x.addr) d e := by
  have pass := h.passes
  obtain ⟨hs, ho, word, cfg, fresh, loaded, start, fold, untee, fits, entry, kind, -, record⟩ := h
  have lic : fmtLicensed d 2 = true := rfl
  have clear (pl : Plot) (us : List Nat) : regionConflict pl us [] = false := rfl
  have part := kvPartial_reads (attReads_sound hs (unitsOf (off * 16) 16)) record pc
  have run : kvRun d p pc w = .done (kvDone (kvApply (attReads (attReads d p (unitsOf (off * 16) 16)) p
      (unitsOf x.addr (64 + c.q * 528))) p pc 0 c [] x (recordPart d p c x)) p pc) := by
    unfold kvRun
    simp only [word.low, word.addr ho, word.attCount, word.fmt, lic, cfg, fresh, loaded, fits, entry, pass, start, fold, untee,
      attReads_read hs (show off * 16 < 2 ^ 20 by omega), clear, ne_eq, not_true_eq_false, false_and, if_false, if_true,
      Bool.not_true, Bool.false_eq_true, Bool.and_self, Nat.mul_mod_left, one_ne_zero, Nat.mul_one, Bool.and_false,
      decide_true, List.range_one, List.zip_cons_cons, List.zip_nil_right, List.drop_zero, kvFold, kvEntry, kind, part,
      List.nil_append, List.foldl_cons, List.foldl_nil]
    rfl
  obtain ⟨others, loops, checks, rows⟩ := kvApply_merges (attReads (attReads d p (unitsOf (off * 16) 16)) p
    (unitsOf x.addr (64 + c.q * 528))) p pc 0 [] x (k := recordPart d p c x) fold rfl
  rw [attReads_plot, attReads_plot] at loops checks rows
  refine ⟨_, run, ((OnlyPlot.attReads d p _).trans (OnlyPlot.attReads _ p _)).trans others, loops, checks, ?_⟩
  rw [rows]
  exact mergedRows_congr _ fun r hr => recordPart_st d p x hr

/-- An ATT that sets the program counter itself has gone on. -/
theorem wentOn_att {a b : Plot} (h : b.loops = a.loops) : WentOn a (countIssue (advance b a.pc) 0x1C) := by
  refine ⟨?_, ?_⟩
  · rw [countIssue_loops, ← h]
    rfl
  · rw [countIssue_att, ← h]
    exact (Plot.rg_rs_ne _ (by decide) _).trans ((Plot.rg_rs_ne _ (by decide) _).trans (Plot.rg_rs_same _ _ _))

theorem kvpages_completes {s : State} {p off w : Nat} {c : AttCfg} {x : AttEntry} (live : Live s)
    (h : RecordPages s.dev p off w c x) (issues : Issues s.dev p w) :
    Completes (.kvpages p) s (fun t => OnlyPlot p s.dev t.dev ∧ WentOn (s.dev.plot p) (t.dev.plot p) ∧
      (∀ i, i < c.q → SMap.get AttState.empty (t.dev.plot p).att.rows i =
        (attMerge (SMap.get AttState.empty (s.dev.plot p).att.rows i) (recordRow s.dev.scr (scrBase p) x.addr i)).1) ∧
      (∀ i, c.q ≤ i → SMap.get AttState.empty (t.dev.plot p).att.rows i =
        SMap.get AttState.empty (s.dev.plot p).att.rows i) ∧
      (t.dev.plot p).attChecks.length = (s.dev.plot p).attChecks.length + 1) := by
  obtain ⟨e, run, others, loops, checks, rows⟩ := kvRun_merges h (s.dev.plot p).pc
  have gives := issue_holds live (exec_kvpages p s) issues h.word.op (h.word.legal (by decide)) h.word.isAtt
    (e := kvDone e p (s.dev.plot p).pc) (by rw [run])
  have plot : ((kvDone e p (s.dev.plot p).pc).counted p 0x1C).plot p = countIssue (advance { e.plot p with
      att := { (e.plot p).att with done := 0, waiting := false } } (s.dev.plot p).pc) 0x1C := by
    rw [Dev.counted_plot_same, kvDone, Dev.plot_modPlot_same]
  refine gives.completes ⟨others.trans ((OnlyPlot.setPlot _ p _).trans (OnlyPlot.setPlot _ p _)), ?_, fun i hi => ?_,
    fun i hi => ?_, ?_⟩
  · rw [plot]
    exact wentOn_att loops
  all_goals
    dsimp only
    rw [plot, countIssue_only]
  · exact (congrArg (SMap.get AttState.empty · i) rows).trans (get_mergedRows_in _ _ hi)
  · exact (congrArg (SMap.get AttState.empty · i) rows).trans (get_mergedRows_out _ _ hi)
  · exact checks

end Sys2Proof.Machine
end

section
/-! PROOFS. EMIT of outputs in binary32, the close of a check of the pipeline, and the obligation (R224, R237, R247). -/

namespace Sys2Proof.Machine

/-! ## EMIT in OUTFMT 1 (R224, R237) -/

theorem exec_emit (p : Nat) (s : State) : exec (.emit p) s =
    onDev s fun d => issueWord d p (isAtt 3) false fun d pc w => attStop d p (emitRun d p pc w) := rfl

/-- The bytes of a finalised row in binary32. -/
def outputRow (st : AttState) : List Byte := (attFinal st).flatMap fun e => leBytes 4 (code32 e.1)

/-- The finalised rows of the running state, one after another. -/
def outputRows (rows : SMap AttState) (n : Nat) : List Byte :=
  (List.range n).flatMap fun i => outputRow (SMap.get AttState.empty rows i)

theorem emitOutputs_bytes (sts : List AttState) : (emitOutputs false sts).1 = sts.flatMap outputRow := by
  simp only [emitOutputs, Bool.false_eq_true, if_false, List.flatMap_assoc, List.flatMap_map]
  rfl

theorem attFinal_length {st : AttState} (h : st.o.length = 128) : (attFinal st).length = 128 := by
  unfold attFinal
  split <;> simp [h]

theorem outputRow_length {st : AttState} (h : st.o.length = 128) : (outputRow st).length = 512 := by
  simp [outputRow, List.length_flatMap, leBytes_length, attFinal_length h]

theorem outputRows_length {rows : SMap AttState} {n : Nat}
    (h : ∀ i, i < n → (SMap.get AttState.empty rows i).o.length = 128) : (outputRows rows n).length = 512 * n := by
  have row : ∀ i ∈ List.range n, (outputRow (SMap.get AttState.empty rows i)).length = 512 := fun i hi =>
    outputRow_length (h i (List.mem_range.mp hi))
  rw [outputRows, List.length_flatMap, List.map_congr_left row]
  simp [Nat.mul_comm]

/-- The word `w` of an EMIT of `n` rows in OUTFMT 1, to scratch that no unit of the region has touched. -/
structure EmitRows (d : Dev) (p off n w : Nat) (c : AttCfg) : Prop where
  sound : Sound (d.plot p)
  place : off < 2 ^ 16
  word : AttWord 3 off n 0 w
  cfg : (d.plot p).att.cfg = some c
  fresh : (d.plot p).att.fresh = true
  loaded : (d.plot p).att.loaded = true
  outfmt : c.outfmt = 1
  some_ : 0 < n
  rows : n ≤ c.q
  fits : inData (off * 16) (512 * n) = true
  unmarked : (d.plot p).units = []
  full : ∀ i, i < n → (SMap.get AttState.empty (d.plot p).att.rows i).o.length = 128

/-- The plot as an EMIT in OUTFMT 1 has counted its empty rows, set its flags of formats and opened its check. -/
def Plot.emitting (pl : Plot) (empty flags : Nat) (c : UnitCheck) (a n : Nat) : Plot :=
  let pl := pl.count fPLOT_ATT_CNT_EMPTY_ROWS empty
  let o := openCheck (fmtFlags pl flags) (unitsOf a n) [] pl.att.deps pl.att.bad
  markWrite { o.1 with attChecks := o.1.attChecks ++ [c] } (unitsOf a n) (coversUnit a n)

theorem Plot.emitting_marks (pl : Plot) (empty flags : Nat) (c : UnitCheck) (a n : Nat) : MarksOnly
    { pl.count fPLOT_ATT_CNT_EMPTY_ROWS empty with attChecks := pl.attChecks ++ [c] } (pl.emitting empty flags c a n) := by
  have opened := (MarksOnly.fmtFlags (pl.count fPLOT_ATT_CNT_EMPTY_ROWS empty) flags).trans
    (MarksOnly.openCheck _ (unitsOf a n) [] pl.att.deps pl.att.bad)
  have checked : MarksOnly { pl.count fPLOT_ATT_CNT_EMPTY_ROWS empty with attChecks := pl.attChecks ++ [c] }
      { (openCheck (fmtFlags (pl.count fPLOT_ATT_CNT_EMPTY_ROWS empty) flags) (unitsOf a n) [] pl.att.deps pl.att.bad).1 with
        attChecks := (openCheck (fmtFlags (pl.count fPLOT_ATT_CNT_EMPTY_ROWS empty) flags) (unitsOf a n) [] pl.att.deps
          pl.att.bad).1.attChecks ++ [c] } := by
    refine ⟨?_, opened.regs⟩
    rw [opened.only]
    rfl
  exact checked.trans (MarksOnly.markWrite _ _ _)

/-- Bytes written to scratch by plot `p`, which has one more check, some marks and counts. -/
structure PlotEmitted (p a : Nat) (bytes : List Byte) (d e : Dev) : Prop where
  only : e = { d with scr := memWrite d.scr (scrBase p + a) bytes, plots := e.plots }
  loops : (e.plot p).loops = (d.plot p).loops
  att : (e.plot p).att = (d.plot p).att

theorem emitRun_writes {d : Dev} {p off n w : Nat} {c : AttCfg} (h : EmitRows d p off n w c) (pc : Nat) :
    ∃ e, emitRun d p pc w = .done e ∧ PlotEmitted p (off * 16) (outputRows (d.plot p).att.rows n) d e := by
  obtain ⟨hs, ho, word, cfg, fresh, loaded, outfmt, some_, rows, fits, unmarked, full⟩ := h
  obtain ⟨low, inside⟩ := inData_iff.mp fits
  have local_ : inLocal (off * 16) (512 * n) = true := by
    simp only [inLocal, inScratch, Bool.or_eq_true, decide_eq_true_eq]
    omega
  have data : inControl (off * 16) (512 * n) = false := by simp [inControl]; omega
  have clear := regionConflict_fresh unmarked (reads := []) (writes := unitsOf (off * 16) (512 * n)) fun _ _ => List.not_mem_nil
  have bytes : ((List.range n).map fun r => SMap.get AttState.empty (d.plot p).att.rows r).flatMap outputRow =
      outputRows (d.plot p).att.rows n := List.flatMap_map ..
  have run : ∃ empty flags c, emitRun d p pc w = .done (plotWrite (d.setPlot p
      ((d.plot p).emitting empty flags c (off * 16) (512 * n))) p pc (off * 16) (outputRows (d.plot p).att.rows n)) := by
    unfold emitRun
    simp only [word.low, word.addr ho, word.attCount, cfg, fresh, loaded, outfmt, local_, data, clear, some_.ne', one_ne_zero,
      Nat.not_lt.mpr rows, ne_eq, not_true_eq_false, if_false, if_true, Bool.and_self, Bool.not_true, Bool.false_eq_true,
      Nat.mul_mod_left, decide_false, Bool.false_and, Bool.or_self, OfNat.one_ne_ofNat, emitOutputs_bytes, bytes]
    exact ⟨_, _, _, rfl⟩
  obtain ⟨empty, flags, check, run⟩ := run
  have size := outputRows_length full
  refine ⟨_, run, ?_⟩
  have marks := (d.plot p).emitting_marks empty flags check (off * 16) (512 * n)
  generalize (d.plot p).emitting empty flags check (off * 16) (512 * n) = pl at marks
  have sound : Sound ((d.setPlot p pl).plot p) := by
    obtain ⟨scrErr, accErr, disarmed⟩ := hs
    rw [Dev.plot_setPlot_same]
    exact marks.sound ⟨scrErr, accErr, (Plot.rg_rs_ne _ (by decide) _).trans disarmed⟩
  rw [plotWrite_scratch sound (by omega) pc (List.length_pos_iff.mp (by omega))]
  refine ⟨rfl, ?_, ?_⟩
  all_goals rw [Dev.plot_setPlot_same, Dev.plot_setPlot_same, marks.only]
  all_goals rfl

theorem emit_completes {s : State} {p off n w : Nat} {c : AttCfg} (live : Live s) (h : EmitRows s.dev p off n w c)
    (issues : Issues s.dev p w) : Completes (.emit p) s (fun t => WentOn (s.dev.plot p) (t.dev.plot p) ∧
      memRead t.dev.scr (scrBase p + off * 16) (512 * n) = outputRows (s.dev.plot p).att.rows n ∧
      (∀ b, b < scrBase p + off * 16 ∨ scrBase p + off * 16 + 512 * n ≤ b → memGet t.dev.scr b = memGet s.dev.scr b) ∧
      SameStores { s.dev with scr := t.dev.scr } t.dev ∧ (t.dev.plot p).att = (s.dev.plot p).att) := by
  have size := outputRows_length h.full
  obtain ⟨e, run, only, loops, att⟩ := emitRun_writes h (s.dev.plot p).pc
  have gives := issue_gives live (exec_emit p s) issues h.word.op (h.word.legal (by decide)) h.word.isAtt (by rw [run]; rfl)
  have scr : (e.goneOn p 0x1C (s.dev.plot p).pc).scr =
      memWrite s.dev.scr (scrBase p + off * 16) (outputRows (s.dev.plot p).att.rows n) := by
    rw [Dev.goneOn, Dev.modPlot_scr, Dev.modPlot_scr, only]
  refine gives.completes ⟨?_, ?_, fun b hb => ?_, ?_, ?_⟩
  · rw [Dev.goneOn_plot_same]
    exact wentOn_advance loops _
  · dsimp only
    rw [scr, ← size, memRead_memWrite]
  · dsimp only
    rw [scr, memGet_memWrite_out _ _ _ _ (by omega)]
  · rw [only]
    exact ⟨rfl, rfl, rfl, rfl, rfl⟩
  · rw [Dev.goneOn_plot_same, countIssue_advance_only]
    exact att

/-! ## The close of a check (R247 to R249) -/

theorem exec_attCheckClose (p : Nat) (upset : Bool) (s : State) :
    exec (.attCheckClose p upset) s = onDev s fun d => attCheckClose d p upset := rfl

theorem attCheckClose_gives {s : State} (live : Live s) (p : Nat) (upset : Bool) :
    Gives (.attCheckClose p upset) s (attCheckClose s.dev p upset) := by
  rw [Gives, exec_attCheckClose, onDev_live live]

theorem attCheckClose_pass {d : Dev} {p : Nat} {c : UnitCheck} {l : List UnitCheck} (oldest : (d.plot p).attChecks = c :: l)
    (finite : c.nonfinite = false) (pass : c.code = 0) :
    attCheckClose d p false = d.setPlot p (closeCheck { d.plot p with attChecks := l } c.id true) := by
  unfold attCheckClose
  simp [oldest, finite, pass]

theorem attCheckClose_upset {d : Dev} {p : Nat} {c : UnitCheck} {l : List UnitCheck} (oldest : (d.plot p).attChecks = c :: l)
    (finite : c.nonfinite = false) (pass : c.code = 0) : attCheckClose d p true =
      stopAt (attErr (d.setPlot p (closeCheck { d.plot p with attChecks := l } c.id false)) p 0x0E0B c.page c.row) p c.pc
        0x0E0B := by
  unfold attCheckClose
  simp [oldest, finite, pass]

/-- A residue mismatch of merge or finalise on a running plot. -/
theorem attCheckClose_fails {d : Dev} {p : Nat} {c : UnitCheck} {l : List UnitCheck} (oldest : (d.plot p).attChecks = c :: l)
    (finite : c.nonfinite = false) (pass : c.code = 0) (hc : c.pc < 8192)
    (running : (d.plot p).rg fPLOT_SEQ_STATUS_STATE = 2) :
    let b := (attCheckClose d p true).plot p
    b.attChecks = l ∧ b.rg fPLOT_SEQ_STATUS_STATE = 3 ∧ b.rg fPLOT_SEQ_STOP_CODE = 0x0E0B ∧
      b.rg fPLOT_SEQ_STOP_PC = c.pc := by
  rw [attCheckClose_upset oldest finite pass]
  have closed := ChecksOnly.closeCheck { d.plot p with attChecks := l } c.id false
  generalize closeCheck _ c.id false = k at closed
  have captured := attErr_captures (d.setPlot p k) p c.page c.row (code := 0x0E0B) (by decide)
  generalize attErr _ p 0x0E0B c.page c.row = e at captured
  obtain ⟨-, only, regs, -⟩ := captured
  rw [Dev.plot_setPlot_same] at only regs
  have still : (e.plot p).rg fPLOT_SEQ_STATUS_STATE = 2 :=
    (regs _ (.inl (by decide)) (.inl (by decide))).trans ((closed.rg _).trans running)
  obtain ⟨state, code, pc⟩ := stopAt_running_rg still c.pc (code := 0x0E0B) (by decide) (by decide)
  refine ⟨?_, state, code, pc.trans (Nat.mod_eq_of_lt hc)⟩
  rw [stopAt_running still c.pc (by decide)]
  dsimp only
  rw [Plot.rs_attChecks, Plot.rs_attChecks, Plot.rs_attChecks, (RegsOnly.recordPlot e p 0x0E0B).2 p]
  dsimp only
  rw [only, closed]

/-- Settles O19: the sub-operations of ATT, each by what its run makes of the pipeline, and the two ends of a check. -/
theorem attentionPipeline : Obligations.AttentionPipeline := by
  intro s p off live hs ho
  have plain {sub n : Nat} (hsub : sub < 5) (hn : n < 512) :
      AttWord sub off n 0 (0x1C * 2 ^ 58 + sub * 2 ^ 55 + off * 2 ^ 35 + n * 2 ^ 26) :=
    attWord hsub ho hn (by decide) (by rw [Nat.zero_mul, Nat.add_zero])
  refine ⟨fun q hq fits good issues => ?_, fun c n cfg hq some_ most fits issues => ?_,
    fun c x cfg fresh loaded start fold untee _ fits entry kind legal record issues => ?_,
    fun c n cfg fresh loaded outfmt some_ rows hn fits unmarked full issues => ?_, fun issues => ?_,
    fun c l oldest finite => ⟨fun pass => ?_, fun pass hc running => ?_⟩⟩
  · exact acfg_completes live hs ho hq (plain (by decide) (by omega)) fits good issues
  · exact qload_completes live hs ho (plain (by decide) (by omega)) cfg hq some_ fits issues
  · exact kvpages_completes live ⟨hs, ho, attWord (by decide) ho (by decide) (by decide) rfl, cfg, fresh, loaded, start,
      fold, untee, fits, entry, kind, legal, record⟩ issues
  · exact emit_completes live ⟨hs, ho, plain (by decide) hn, cfg, fresh, loaded, outfmt, some_, rows,
      fits, unmarked, full⟩ issues
  · exact attClear_completes live (by constructor <;> decide) issues
  · refine (attCheckClose_pass oldest finite pass ▸ attCheckClose_gives live p false).completes ⟨OnlyPlot.setPlot _ _ _, ?_⟩
    rw [Dev.plot_setPlot_same, ChecksOnly.closeCheck]
    exact ⟨rfl, rfl⟩
  · exact (attCheckClose_gives live p true).completes (attCheckClose_fails oldest finite pass hc running)

end Sys2Proof.Machine
end

section
/-! PROOFS. What a message to the host, an error record and the end of another slot leave of one slot and of its step (R250,
R251, R257, R259). -/

namespace Sys2Proof.Machine

/-! ## A slot and the step that runs -/

/-- The keys of the registers of slot `i`, of the step and of what decides a boundary. -/
def SlotReg (i k : Nat) : Prop :=
  i < 16 ∧ (k / 64 = 0x380100 + 8 * i ∨ k / 64 = 0x380008 ∨
    k ∈ [fAON_DSTATE_STATE, fTRU_UPD_STATE, fSED_CFG_TALLY_EN, fCPL_STATUS_ORPHAN].map Fld.key)

theorem slotReg_iff {i k : Nat} : SlotReg i k ↔ i < 16 ∧ (k / 64 = 0x380100 + 8 * i ∨ k / 64 = 0x380008 ∨
    k = 0x100020 * 64 ∨ k = 0x400200 * 64 + 5 ∨ k = 0x390000 * 64 ∨ k = 0x600000 * 64 + 11) := by
  simp only [SlotReg, List.map_cons, List.map_nil, List.mem_cons, List.not_mem_nil, or_false, Fld.key, fAON_DSTATE_STATE,
    fTRU_UPD_STATE, fSED_CFG_TALLY_EN, fCPL_STATUS_ORPHAN, Nat.add_zero]

theorem SlotReg.ne {i k : Nat} (h : SlotReg i k) {f : Fld} (hf : ¬ SlotReg i f.key) : k ≠ f.key := fun e => hf (e ▸ h)

theorem SlotReg.outsideRecord {i k : Nat} (h : SlotReg i k) : outsideRecord k := by
  rw [slotReg_iff] at h
  unfold Machine.outsideRecord
  omega

theorem SlotReg.outsideBank {i k : Nat} (h : SlotReg i k) (b j : Nat) : outsideBank (bankOffset b j) k := by
  rw [slotReg_iff] at h
  unfold Machine.outsideBank bankOffset
  split_ifs <;> omega

/-- The fields of slot `i`. -/
theorem slotReg_slot {i : Nat} (hi : i < 16) {f : Fld} (hf : f.off = 0x380100) (hs : f.s1 = 8) (hl : f.lo < 64) :
    SlotReg i (f.at i).key := by
  rw [slotReg_iff]
  simp only [Fld.at, Fld.key, hf, hs]
  omega

/-- The fields of the step. -/
theorem slotReg_step {i : Nat} (hi : i < 16) {f : Fld} (hf : f.off = 0x380008) (hl : f.lo < 64) : SlotReg i f.key := by
  rw [slotReg_iff]
  simp only [Fld.key, hf]
  omega

/-- What decides a boundary. -/
theorem slotReg_boundary {i : Nat} (hi : i < 16) {f : Fld}
    (hf : f.key ∈ [fAON_DSTATE_STATE, fTRU_UPD_STATE, fSED_CFG_TALLY_EN, fCPL_STATUS_ORPHAN].map Fld.key) : SlotReg i f.key :=
  ⟨hi, .inr (.inr hf)⟩

/-- STATE of another slot. -/
theorem not_slotReg_state {i k : Nat} (hk : k < 16) (h : k ≠ i) : ¬ SlotReg i (fSTP_SLOT_STATE.at k).key := by
  rw [slotReg_iff]
  simp only [Fld.at, Fld.key, fSTP_SLOT_STATE]
  omega

/-- The registers of slot `i` and of the step, the slot itself, the step, and what waits at the shed are those of `o`, and no
message has been taken back. -/
structure SlotKept (i : Nat) (o d : Dev) : Prop where
  regs : ∀ g : Fld, SlotReg i g.key → d.rg g = o.rg g
  slot : d.slot i = o.slot i
  run : d.steps.run = o.steps.run
  lastNo : d.steps.lastNo = o.steps.lastNo
  jobs : d.steps.jobs = o.steps.jobs
  cfgWait : d.steps.cfgWait = o.steps.cfgWait
  mgmt : d.mgmt = o.mgmt
  outs : ∀ m ∈ o.outs, m ∈ d.outs

theorem SlotKept.refl (i : Nat) (o : Dev) : SlotKept i o o := ⟨fun _ _ => rfl, rfl, rfl, rfl, rfl, rfl, rfl, fun _ h => h⟩

theorem SlotKept.trans {i : Nat} {o d e : Dev} (h : SlotKept i o d) (k : SlotKept i d e) : SlotKept i o e :=
  ⟨fun g hg => (k.regs g hg).trans (h.regs g hg), k.slot.trans h.slot, k.run.trans h.run, k.lastNo.trans h.lastNo,
    k.jobs.trans h.jobs, k.cfgWait.trans h.cfgWait, k.mgmt.trans h.mgmt, fun m hm => k.outs m (h.outs m hm)⟩

/-- An update of registers outside the slot's and the step's, and of any other part of the device. -/
theorem SlotKept.next {i : Nat} {o d e : Dev} (h : SlotKept i o d) (hr : ∀ g : Fld, SlotReg i g.key → e.rg g = d.rg g)
    (hs : e.steps = d.steps) (hm : e.mgmt = d.mgmt) (ho : e.outs = d.outs) : SlotKept i o e :=
  h.trans ⟨hr, by rw [Dev.slot, hs, Dev.slot], by rw [hs], by rw [hs], by rw [hs], by rw [hs], hm,
    by rw [ho]; exact fun _ h => h⟩

theorem SlotKept.other {i : Nat} {o d e : Dev} (h : SlotKept i o d) (hr : e.regs = d.regs) (hs : e.steps = d.steps)
    (hm : e.mgmt = d.mgmt) (ho : e.outs = d.outs) : SlotKept i o e :=
  h.next (fun g _ => by rw [Dev.rg, hr, Dev.rg]) hs hm ho

theorem SlotKept.rs {i : Nat} {o d : Dev} (h : SlotKept i o d) {f : Fld} (hf : ¬ SlotReg i f.key) (v : Nat) :
    SlotKept i o (d.rs f v) := h.next (fun _ hg => Dev.rg_rs_ne d (hg.ne hf) v) rfl rfl rfl

theorem SlotKept.setPlot {i : Nat} {o d : Dev} (h : SlotKept i o d) (p : Nat) (pl : Plot) : SlotKept i o (d.setPlot p pl) :=
  h.other rfl rfl rfl rfl

theorem SlotKept.modPlot {i : Nat} {o d : Dev} (h : SlotKept i o d) (p : Nat) (f : Plot → Plot) :
    SlotKept i o (d.modPlot p f) := h.setPlot _ _

theorem SlotKept.cpl {i : Nat} {o d : Dev} (h : SlotKept i o d) (c : Companion) : SlotKept i o { d with cpl := c } :=
  h.other rfl rfl rfl rfl

theorem SlotKept.scr {i : Nat} {o d : Dev} (h : SlotKept i o d) (m : List Host.Cell) : SlotKept i o { d with scr := m } :=
  h.other rfl rfl rfl rfl

theorem SlotKept.emit {i : Nat} {o d : Dev} (h : SlotKept i o d) (m : Out) : SlotKept i o (d.emit m) :=
  h.trans ⟨fun _ _ => rfl, rfl, rfl, rfl, rfl, rfl, rfl, fun _ hm => List.mem_append_left _ hm⟩

/-- Events, transitions that wait, an orphan entry that does, and other slots, are no part of it. -/
theorem SlotKept.steps {i : Nat} {o d : Dev} (h : SlotKept i o d) {x : Steps}
    (slot : SMap.get Slot.reset x.slots i = SMap.get Slot.reset d.steps.slots i) (run : x.run = d.steps.run)
    (lastNo : x.lastNo = d.steps.lastNo) (jobs : x.jobs = d.steps.jobs) (cfgWait : x.cfgWait = d.steps.cfgWait) :
    SlotKept i o { d with steps := x } :=
  h.trans ⟨fun _ _ => rfl, slot, run, lastNo, jobs, cfgWait, rfl, fun _ hm => hm⟩

theorem SlotKept.events {i : Nat} {o d : Dev} (h : SlotKept i o d) (l : List Event) :
    SlotKept i o { d with steps := { d.steps with events := l } } := h.steps rfl rfl rfl rfl rfl

theorem SlotKept.waiting {i : Nat} {o d : Dev} (h : SlotKept i o d) (l : List Trans) :
    SlotKept i o { d with steps := { d.steps with waiting := l } } := h.steps rfl rfl rfl rfl rfl

theorem SlotKept.setSlot {i k : Nat} {o d : Dev} (h : SlotKept i o d) (hk : k ≠ i) (x : Slot) : SlotKept i o (d.setSlot k x) :=
  h.steps (SMap.get_set_ne _ _ _ hk.symm _) rfl rfl rfl rfl

theorem SlotKept.ite {i : Nat} {o d e : Dev} (c : Prop) [Decidable c] (h : SlotKept i o d) (k : SlotKept i o e) :
    SlotKept i o (if c then d else e) := by split <;> assumption

theorem SlotKept.foldl {i : Nat} {o d : Dev} {α : Type} (h : SlotKept i o d) (l : List α) (f : Dev → α → Dev)
    (hf : ∀ e, ∀ a ∈ l, SlotKept i o e → SlotKept i o (f e a)) : SlotKept i o (l.foldl f d) :=
  List.foldlRecOn l f h fun e he a ha => hf e a ha he

/-! ## Records and counts -/

theorem SlotKept.regsOnly {i : Nat} {o d e : Dev} (h : SlotKept i o d) (k : RegsOnly d e)
    (hr : ∀ g : Fld, SlotReg i g.key → e.rg g = d.rg g) : SlotKept i o e :=
  h.next hr (by rw [k.1]) (by rw [k.1]) (by rw [k.1])

theorem SlotKept.recordErr {i : Nat} {o d : Dev} (h : SlotKept i o d) (k j c : Nat) : SlotKept i o (recordErr d k j c) :=
  h.regsOnly (RegsOnly.recordErr d k j c) fun g hg => recordErr_rg d k j c g hg.outsideRecord fun _ => hg.outsideBank _ _

theorem SlotKept.blockEvent {i : Nat} {o d : Dev} (h : SlotKept i o d) (k j ev n : Nat) (cls addr : Option Nat) :
    SlotKept i o (blockEvent d k j ev n cls addr) :=
  h.regsOnly (RegsOnly.blockEvent d k j ev n cls addr) fun g hg =>
    blockEvent_rg d k j ev n cls addr g hg.outsideRecord (hg.outsideBank k j)

theorem SlotKept.scrWrite {i : Nat} {o d : Dev} (h : SlotKept i o d) (p a : Nat) (bytes : List Byte) :
    SlotKept i o (scrWrite d p a bytes).1 := by
  have put (m : List Host.Cell) (pl : Plot) : SlotKept i o (({ d with scr := m } : Dev).setPlot p pl) :=
    (h.scr m).setPlot p pl
  unfold Machine.scrWrite
  dsimp only
  split
  · exact h
  · split
    · exact put _ _
    · exact (put _ _).recordErr _ _ _

theorem SlotKept.wakePlot {i : Nat} {o d : Dev} (h : SlotKept i o d) (p : Nat) : SlotKept i o (wakePlot d p) := by
  unfold Machine.wakePlot plotReach
  rw [if_neg (show ¬ (0 = 3 ∧ (d.plot p).sleep ≠ 3) from fun e => absurd e.1 (by decide))]
  exact SlotKept.ite _ h ((h.modPlot _ _).modPlot _ _)

/-! ## Messages to the companion -/

theorem SlotKept.setLink {i : Nat} {o d : Dev} (h : SlotKept i o d) (k : Nat) (l : Link) : SlotKept i o (d.setLink k l) :=
  h.other rfl rfl rfl rfl

theorem SlotKept.modLink {i : Nat} {o d : Dev} (h : SlotKept i o d) (k : Nat) (f : Link → Link) :
    SlotKept i o (d.modLink k f) := h.setLink _ _

theorem SlotKept.linkFlit {i : Nat} {o d : Dev} (h : SlotKept i o d) (k : Nat) (units head : List Byte) :
    SlotKept i o (linkFlit d k units head) := by
  unfold Machine.linkFlit flitOut linkEvent
  exact ((h.setLink _ _).emit _).blockEvent _ _ _ _ _ _

theorem SlotKept.linkPump {i : Nat} {o d : Dev} (h : SlotKept i o d) (k : Nat) : SlotKept i o (linkPump d k) := by
  unfold Machine.linkPump
  dsimp only
  split
  · exact h
  · refine SlotKept.modLink (List.foldlRecOn (motive := fun s : Dev × List Nat × List (Nat × List Byte) => SlotKept i o s.1)
      _ _ (h.setLink _ _) fun s hs m _ => ?_) _ _
    split
    · exact hs
    · exact (hs.setLink _ _).foldl _ _ fun _ _ _ he => he.linkFlit _ _ _

theorem SlotKept.linkSend {i : Nat} {o d : Dev} (h : SlotKept i o d) (k cls : Nat) (m : List Byte) :
    SlotKept i o (linkSend d k cls m) := SlotKept.ite _ h ((h.modLink _ _).linkPump _)

theorem SlotKept.notify {i : Nat} {o d : Dev} (h : SlotKept i o d) (vec : Nat) : SlotKept i o (notify d vec) := by
  have sent := h.linkSend 0 2 (cplHeader 0x30 1 0 0 0 vec)
  unfold Machine.notify
  dsimp only
  exact SlotKept.ite _ h (SlotKept.ite _ (h.cpl _) (SlotKept.ite _ sent (sent.cpl _)))

theorem SlotKept.cohSend {i : Nat} {o d : Dev} (h : SlotKept i o d) (opc line : Nat) (data : List Byte) (ring : Nat) :
    SlotKept i o (cohSend d opc line data ring) := by
  unfold Machine.cohSend
  dsimp only
  exact SlotKept.ite _ ((h.cpl _).linkSend _ _ _) ((h.cpl _).linkSend _ _ _)

theorem SlotKept.evictLine {i : Nat} {o d : Dev} (h : SlotKept i o d) (line : Nat) : SlotKept i o (evictLine d line) := by
  have gone : SlotKept i o (setLine d line none) := h.cpl _
  unfold Machine.evictLine
  split
  · exact h
  · exact SlotKept.ite _ (gone.cohSend _ _ _ _) (gone.linkSend _ _ _)

theorem SlotKept.indexLine {i : Nat} {o d : Dev} (h : SlotKept i o d) : SlotKept i o (indexLine d) := by
  unfold Machine.indexLine
  dsimp only
  refine SlotKept.ite _ h (SlotKept.ite _ (SlotKept.notify ?_ _) ?_) <;>
    exact SlotKept.ite _ ((((h.cpl _).evictLine _).cohSend _ _ _ _).notify _) (((h.cpl _).evictLine _).cohSend _ _ _ _)

theorem not_slotReg_producer (i r : Nat) : ¬ SlotReg i (fCPL_RING_IDX_PRODUCER.at r).key := by
  rw [slotReg_iff]
  simp only [Fld.at, Fld.key, fCPL_RING_IDX_PRODUCER]
  omega

theorem SlotKept.publish {i : Nat} {o d : Dev} (h : SlotKept i o d) (r : Nat) (recs : List (List Byte)) :
    SlotKept i o (publish d r recs) := by
  unfold Machine.publish
  dsimp only
  exact SlotKept.ite _ h (((h.cpl _).rs (not_slotReg_producer i r) _).foldl _ _ fun _ _ _ he =>
    (he.evictLine _).cohSend _ _ _ _)

theorem SlotKept.pushEvent {i : Nat} {o d : Dev} (h : SlotKept i o d) (code kind s tag detail : Nat) :
    SlotKept i o (pushEvent d code kind s tag detail) := by
  unfold Machine.pushEvent flushEvents
  exact ((h.events _).publish 2 _).events _

/-! ## Other slots -/

theorem freeItem_only (d : Dev) (a : Nat) : freeItem d a = { d with gddr := (freeItem d a).gddr } := by
  unfold freeItem
  split <;> rfl

theorem SlotKept.freeItem {i : Nat} {o d : Dev} (h : SlotKept i o d) (a : Nat) : SlotKept i o (freeItem d a) := by
  rw [freeItem_only]
  exact h.other rfl rfl rfl rfl

theorem SlotKept.freeSlot {i k : Nat} {o d : Dev} (h : SlotKept i o d) (hk : k < 16) (ne : k ≠ i) :
    SlotKept i o (freeSlot d k) := by
  unfold Machine.freeSlot setSlotSt
  exact ((h.foldl _ _ fun _ _ _ he => he.freeItem _).rs (not_slotReg_state hk ne) 0).setSlot ne _

/-- Another slot whose prompt is empty ends. -/
theorem SlotKept.emptyPrompt {i k : Nat} {o d : Dev} (h : SlotKept i o d) (hk : k < 16) (ne : k ≠ i) :
    SlotKept i o (raiseTrans d (.empty k)) := by
  unfold raiseTrans transNow
  exact SlotKept.ite _ h (SlotKept.ite _ (SlotKept.ite _ h ((h.freeSlot hk ne).pushEvent _ _ _ _ _))
    (h.waiting _))

/-- A slot that is not in PREFILL has no prompt to end. -/
theorem SlotKept.emptyPrompts {i : Nat} {d : Dev} (hi : i < 16) (st : slotSt d i ≠ 1) : SlotKept i d (emptyPrompts d) := by
  refine (SlotKept.refl i d).foldl _ _ fun e k hk he => ?_
  have still : slotSt e i ≠ 1 := by
    rw [slotSt, he.regs _ (slotReg_slot hi rfl rfl (by decide))]
    exact st
  dsimp only
  split
  next empty =>
    refine he.emptyPrompt (List.mem_range.mp hk) fun same => ?_
    exact still (same ▸ empty.1)
  next => exact he

end Sys2Proof.Machine
end

section
/-! PROOFS. STEP_START with one slot that decodes (R253, R258, R260, R262, R272, R273). -/

namespace Sys2Proof.Machine

theorem exec_stepStart (drafts : List (Nat × List Byte)) (opens : List (Nat × Nat × Option Nat × Option (List Nat)))
    (s : State) : exec (.stepStart drafts opens) s = onDev s fun d =>
      if (handoverCheck d).steps.hold = 0 ∧ (handoverCheck d).steps.placement.any (·.fits) ∧
        (handoverCheck d).rg fSHD_FW_STATE = 2 then stepStart (placementSown (handoverCheck d)) drafts opens
      else handoverCheck d := rfl

/-- No handover is pending. -/
theorem handoverCheck_idle {d : Dev} (h : d.rg fTRU_UPD_STATE ≠ 2) : handoverCheck d = d := if_pos (.inl h)

/-- No plot of the placement has lost its programs. -/
theorem placementSown_sown {d : Dev} {pm : Placement} (placed : d.steps.placement = some pm)
    (h : ∀ n p, n < pm.plots → d.phys n = some p → (d.plot p).seq ≠ 0) : placementSown d = d := by
  unfold placementSown
  rw [placed]
  refine List.foldlRecOn (motive := fun e : Dev => e = d) (List.range pm.plots) _ rfl fun e he n hn => ?_
  rw [he]
  split
  next p phys => exact if_neg (h n p (List.mem_range.mp hn) phys)
  next => rfl

/-! ## The boundary evaluation (R253, R258, R273) -/

/-- The entry of a slot whose tree is the root alone. -/
def rootEntry (d : Dev) (i : Nat) : StepEntry := ⟨i, true, ⟨1, [255], [(d.slot i).token]⟩, 0, 0, false⟩

/-- FREE slots do not enter. -/
theorem foldl_slotEnter_free (drafts : List (Nat × List Byte)) (rows : List (Nat × Nat)) {a : Dev × List StepEntry × Nat}
    (l : List Nat) (waiting : a.1.steps.waiting = []) (free : ∀ k ∈ l, slotSt a.1 k = 0) :
    l.foldl (slotEnter drafts rows) a = a := by
  refine List.foldlRecOn (motive := fun b => b = a) l _ rfl fun b hb k hk => ?_
  rw [hb]
  unfold slotEnter
  simp [waiting, free k hk]

/-- The device after slot `i` has entered with the root alone. -/
def slotEntered (d : Dev) (i : Nat) : Dev :=
  setSlotSt (d.setSlot i { d.slot i with plan := ⟨1, [255], [(d.slot i).token]⟩ }) i 2

theorem slotTree_root {d : Dev} {i : Nat} (guide : (d.slot i).guideLive = false) (draft : (d.slot i).draftEn = false)
    (drafts : List (Nat × List Byte)) : slotTree d i drafts = (d, ⟨1, [255], [(d.slot i).token]⟩) := by
  unfold slotTree
  simp only [guide, draft, Bool.false_eq_true, if_false]
  rfl

theorem slotEnter_root {d : Dev} {i : Nat} (guide : (d.slot i).guideLive = false) (draft : (d.slot i).draftEn = false)
    (waiting : d.steps.waiting = []) (events : d.steps.events = []) (st : slotSt d i = 2) (free : 1 ≤ ringFree d 1)
    (drafts : List (Nat × List Byte)) (rows : List (Nat × Nat)) :
    slotEnter drafts rows (d, [], 0) i = (slotEntered d i, [rootEntry d i], 1) := by
  have room (x : Slot) : ringFree (d.setSlot i x) 1 = ringFree d 1 := rfl
  have still : (slotEntered d i).steps.events = [] := events
  unfold slotEnter
  simp only [waiting, events, st, slotTree_root guide draft, List.any_nil, Bool.false_eq_true, if_false, true_or, if_true,
    room, Nat.not_lt.mpr free, Nat.zero_add, List.length_nil]
  rfl

theorem slotEntered_st {d : Dev} {i k : Nat} (h : k ≠ i) : slotSt (slotEntered d i) k = slotSt d k :=
  Dev.rg_rs_ne (d.setSlot i _) (by simp only [Fld.at, Fld.key, fSTP_SLOT_STATE]; omega) 2

/-- The boundary evaluation where slot `i` alone is not FREE. -/
theorem foldl_slotEnter_one {d : Dev} {i : Nat} (hi : i < 16) (guide : (d.slot i).guideLive = false)
    (draft : (d.slot i).draftEn = false) (waiting : d.steps.waiting = []) (events : d.steps.events = [])
    (st : slotSt d i = 2) (others : ∀ k, k < 16 → k ≠ i → slotSt d k = 0) (free : 1 ≤ ringFree d 1)
    (drafts : List (Nat × List Byte)) (rows : List (Nat × Nat)) :
    (List.range 16).foldl (slotEnter drafts rows) (d, [], 0) = (slotEntered d i, [rootEntry d i], 1) := by
  obtain ⟨before, after, split⟩ := List.append_of_mem (List.mem_range.mpr hi)
  have distinct := split ▸ List.nodup_range (n := 16)
  have inside {k : Nat} (h : k ∈ before ++ i :: after) : k < 16 := List.mem_range.mp (split ▸ h)
  obtain ⟨-, tail, apart⟩ := List.nodup_append.mp distinct
  obtain ⟨fresh, -⟩ := List.nodup_cons.mp tail
  rw [split, List.foldl_append, List.foldl_cons, foldl_slotEnter_free _ _ before waiting fun k hk => ?_,
    slotEnter_root guide draft waiting events st free, foldl_slotEnter_free _ _ after waiting fun k hk => ?_]
  · have ne : k ≠ i := fun e => fresh (e ▸ hk)
    exact (slotEntered_st ne).trans (others k (inside (by simp [hk])) ne)
  · exact others k (inside (by simp [hk])) (apart k hk i List.mem_cons_self)

/-! ## The start of the step (R260, R272) -/

theorem SlotKept.foldlWake {i : Nat} {o d : Dev} (h : SlotKept i o d) (l : List Nat) :
    SlotKept i o (l.foldl Machine.wakePlot d) := h.foldl _ _ fun _ _ _ he => he.wakePlot _

/-- The step of one root begins. -/
def rootBegun (d : Dev) (no : Nat) (e : StepEntry) : Dev :=
  let d := { d with steps := { d.steps with run := some ⟨no, [e], [], [], false⟩ } }
  (d.rs (fSTP_SLOT_N.at e.slot) 1).rs fSTP_STATUS_ROWS 1

theorem stepBegin_one {d : Dev} (i : Nat) {no : Nat} {e : StepEntry} (decode : e.decode = true) (one : e.tree.n = 1) :
    SlotKept i (rootBegun ((placementPlots d).foldl wakePlot (d.rs fAON_DSTATE_STATE 1)) no e) (stepBegin d no [e] []) := by
  unfold stepBegin openPages
  simp only [List.foldl_nil, List.foldl_cons, decode, if_true, StepEntry.size, one, Nat.zero_add]
  exact (SlotKept.refl _ _).foldl _ _ fun _ _ _ he => he.scrWrite _ _ _

/-- The device `t` runs the step `no` of the root of slot `i` alone, which `o` was to start. -/
structure StepStarted (o : Dev) (i no : Nat) (t : Dev) : Prop where
  awake : t.rg fAON_DSTATE_STATE = 1
  rows : t.rg fSTP_STATUS_ROWS = 1
  size : t.rg (fSTP_SLOT_N.at i) = 1
  st : slotSt t i = 2
  base : slotBase t i = slotBase o i
  run : t.steps.run = some ⟨no, [rootEntry o i], [], [], false⟩

theorem rootBegun_rg {d : Dev} {no : Nat} {e : StepEntry} {g : Fld} (size : g.key ≠ (fSTP_SLOT_N.at e.slot).key)
    (rows : g.key ≠ fSTP_STATUS_ROWS.key) : (rootBegun d no e).rg g = d.rg g :=
  (Dev.rg_rs_ne _ rows _).trans (Dev.rg_rs_ne { d with steps := _ } size _)

theorem slotField_ne {f g : Fld} (hf : f.off = 0x380100) (hs : f.s1 = 8) (hl : f.lo < 64) (hg : g.off < 0x380100)
    (gl : g.lo < 64) (i : Nat) : g.key ≠ (f.at i).key := by
  simp only [Fld.at, Fld.key, hf, hs]
  omega

theorem stepStarted_begin {d : Dev} {i no : Nat} (hi : i < 16) :
    StepStarted d i no (stepBegin (slotEntered d i) no [rootEntry d i] []) := by
  have begun := stepBegin_one (d := slotEntered d i) i (no := no) (e := rootEntry d i) rfl rfl
  have woken := (SlotKept.refl i ((slotEntered d i).rs fAON_DSTATE_STATE 1)).foldlWake (placementPlots (slotEntered d i))
  generalize (placementPlots (slotEntered d i)).foldl wakePlot ((slotEntered d i).rs fAON_DSTATE_STATE 1) = w at begun woken
  have slot {f : Fld} (hf : f.off = 0x380100) (hs : f.s1 = 8) (hl : f.lo < 64)
      (size : (f.at i).key ≠ (fSTP_SLOT_N.at i).key) :
      (stepBegin (slotEntered d i) no [rootEntry d i] []).rg (f.at i) = (slotEntered d i).rg (f.at i) := by
    have own := slotReg_slot hi hf hs hl
    have below {g : Fld} (hg : g.off < 0x380100) (gl : g.lo < 64) := (slotField_ne hf hs hl hg gl i).symm
    rw [begun.regs _ own, rootBegun_rg (e := rootEntry d i) size (below (by decide) (by decide)), woken.regs _ own,
      Dev.rg_rs_ne _ (below (by decide) (by decide))]
  have apart {f : Fld} (hl : f.lo ≠ 6) (hf : f.off = 0x380100) (hs : f.s1 = 8) : (f.at i).key ≠ (fSTP_SLOT_N.at i).key := by
    simp only [Fld.at, Fld.key, fSTP_SLOT_N, hf, hs]
    omega
  refine ⟨?_, ?_, ?_, ?_, ?_, begun.run⟩
  · have own : SlotReg i fAON_DSTATE_STATE.key := slotReg_boundary hi (by decide)
    rw [begun.regs _ own, rootBegun_rg (e := rootEntry d i) (slotField_ne rfl rfl (by decide) (by decide) (by decide) i) (by decide),
      woken.regs _ own, Dev.rg_rs_same]
    rfl
  · rw [begun.regs _ (slotReg_step hi rfl (by decide)), rootBegun, Dev.rg_rs_same]
    rfl
  · rw [begun.regs _ (slotReg_slot hi rfl rfl (by decide)), rootBegun,
      Dev.rg_rs_ne _ (slotField_ne rfl rfl (by decide) (by decide) (by decide) i).symm]
    exact Dev.rg_rs_same _ _ _
  · exact (slot rfl rfl (by decide) (apart (by decide) rfl rfl)).trans (Dev.rg_rs_same _ _ _)
  · refine (slot rfl rfl (by decide) (apart (by decide) rfl rfl)).trans (Dev.rg_rs_ne (d.setSlot i _) ?_ 2)
    simp only [Fld.at, Fld.key, fSTP_SLOT_BASE, fSTP_SLOT_STATE]
    omega

theorem StepStarted.indexLine {o d : Dev} {i no : Nat} (hi : i < 16) (h : StepStarted o i no d) :
    StepStarted o i no (indexLine d) := by
  have kept := (SlotKept.refl i d).indexLine
  have slot {f : Fld} (hf : f.off = 0x380100) (hs : f.s1 = 8) (hl : f.lo < 64) := kept.regs _ (slotReg_slot hi hf hs hl)
  exact ⟨(kept.regs _ (slotReg_boundary hi (by decide))).trans h.awake,
    (kept.regs _ (slotReg_step hi rfl (by decide))).trans h.rows, (slot rfl rfl (by decide)).trans h.size,
    (slot rfl rfl (by decide)).trans h.st, (slot rfl rfl (by decide)).trans h.base, kept.run.trans h.run⟩

/-- A device that may start a step, in which slot `i` decodes the root alone and every other slot is FREE. -/
structure MayStart (d : Dev) (i : Nat) (pm : Placement) : Prop where
  inside : i < 16
  power : d.rg fAON_DSTATE_STATE = 1 ∨ d.rg fAON_DSTATE_STATE = 2
  released : d.steps.hold = 0
  placed : d.steps.placement = some pm
  fits : pm.fits = true
  firmware : d.rg fSHD_FW_STATE = 2
  settled : d.rg fTRU_UPD_STATE ≠ 2
  idle : d.steps.run = none
  waiting : d.steps.waiting = []
  events : d.steps.events = []
  sown : ∀ n p, n < pm.plots → d.phys n = some p → (d.plot p).seq ≠ 0
  decodes : slotSt d i = 2
  others : ∀ k, k < 16 → k ≠ i → slotSt d k = 0
  guide : (d.slot i).guideLive = false
  draft : (d.slot i).draftEn = false
  room : 1 ≤ ringFree d 1

theorem stepStart_one {d : Dev} {i : Nat} {pm : Placement} (h : MayStart d i pm) (drafts : List (Nat × List Byte)) :
    stepStart d drafts [] = indexLine (stepBegin (slotEntered d i) (d.steps.lastNo + 1) [rootEntry d i] []) := by
  have power : ¬ (d.rg fAON_DSTATE_STATE ≠ 1 ∧ d.rg fAON_DSTATE_STATE ≠ 2) := by
    have := h.power
    tauto
  have number : (slotEntered d i).steps.lastNo = d.steps.lastNo := rfl
  unfold stepStart
  simp only [power, h.released, h.placed, h.idle, ne_eq, not_true_eq_false, Option.isNone_some, Bool.false_eq_true, or_self,
    if_false, foldl_slotEnter_one h.inside h.guide h.draft h.waiting h.events h.decodes h.others h.room, List.isEmpty_cons,
    number]

theorem stepStart_starts {s : State} {i : Nat} {pm : Placement} (live : Live s) (h : MayStart s.dev i pm)
    (drafts : List (Nat × List Byte)) : Completes (.stepStart drafts []) s fun t =>
      StepStarted s.dev i (s.dev.steps.lastNo + 1) t.dev := by
  have gives : Gives (.stepStart drafts []) s
      (indexLine (stepBegin (slotEntered s.dev i) (s.dev.steps.lastNo + 1) [rootEntry s.dev i] [])) := by
    rw [Gives, exec_stepStart, onDev_live live, handoverCheck_idle h.settled, placementSown_sown h.placed h.sown,
      if_pos ⟨h.released, by rw [h.placed]; exact h.fits, h.firmware⟩, stepStart_one h]
  exact gives.completes ((stepStarted_begin h.inside).indexLine h.inside)

/-- While steps are held none starts. -/
theorem stepStart_held {s : State} (live : Live s) (held : s.dev.steps.hold ≠ 0) (settled : s.dev.rg fTRU_UPD_STATE ≠ 2)
    (drafts : List (Nat × List Byte)) (opens : List (Nat × Nat × Option Nat × Option (List Nat))) :
    Gives (.stepStart drafts opens) s s.dev := by
  rw [Gives, exec_stepStart, onDev_live live, handoverCheck_idle settled, if_neg fun h => held h.1]

end Sys2Proof.Machine
end

section
/-! PROOFS. The commit of a step of one slot, and the boundary that follows it (R252, R253, R261, R267). -/

namespace Sys2Proof.Machine

/-! ## Where a slot stands -/

/-- The fields that say where slot `i` stands, what has been counted, and whether anything but the slots changes at the
boundary. -/
def slotFields (i : Nat) : List Fld :=
  [fSTP_SLOT_STATE.at i, fSTP_SLOT_BASE.at i, fSTP_STATUS_STEPS, fSED_CFG_TALLY_EN, fTRU_UPD_STATE, fCPL_STATUS_ORPHAN]

theorem slotFields_reg {i : Nat} (hi : i < 16) : ∀ g ∈ slotFields i, SlotReg i g.key := by
  simp only [slotFields, List.forall_mem_cons, List.not_mem_nil, false_implies, implies_true, and_true]
  exact ⟨slotReg_slot hi rfl rfl (by decide), slotReg_slot hi rfl rfl (by decide), slotReg_step hi rfl (by decide),
    slotReg_boundary hi (by decide), slotReg_boundary hi (by decide), slotReg_boundary hi (by decide)⟩

/-- No step runs and none is to run again; the last boundary is `no`. Slot `i` is `x`, in state `st` with `base` positions
committed, after `n` steps. Nothing that the boundary would take up waits; what has come for the shed and what has been sent
are still those of `o`. -/
structure SlotAt (o : Dev) (i no st base n : Nat) (x : Slot) (d : Dev) : Prop where
  st : slotSt d i = st
  base : slotBase d i = base
  counted : d.rg fSTP_STATUS_STEPS = n
  untallied : d.rg fSED_CFG_TALLY_EN = 0
  settled : d.rg fTRU_UPD_STATE ≠ 2
  served : d.rg fCPL_STATUS_ORPHAN = 0
  slot : d.slot i = x
  run : d.steps.run = none
  lastNo : d.steps.lastNo = no
  jobs : d.steps.jobs = []
  cfgWait : d.steps.cfgWait = none
  mgmt : d.mgmt = o.mgmt
  outs : ∀ m ∈ o.outs, m ∈ d.outs

section
variable {o d e : Dev} {i no st base n : Nat} {x : Slot}

theorem SlotAt.kept (h : SlotAt o i no st base n x d) (hi : i < 16) (k : SlotKept i d e) : SlotAt o i no st base n x e := by
  have regs := fun g hg => k.regs g (slotFields_reg hi g hg)
  simp only [slotFields, List.forall_mem_cons, List.not_mem_nil, false_implies, implies_true, and_true] at regs
  obtain ⟨state, position, steps, tally, update, orphan⟩ := regs
  exact ⟨state.trans h.st, position.trans h.base, steps.trans h.counted, tally.trans h.untallied, update ▸ h.settled,
    orphan.trans h.served, k.slot.trans h.slot, k.run.trans h.run, k.lastNo.trans h.lastNo, k.jobs.trans h.jobs,
    k.cfgWait.trans h.cfgWait, k.mgmt.trans h.mgmt, fun m hm => k.outs m (h.outs m hm)⟩

/-- A register that is none of the slot's fields. -/
theorem SlotAt.rs (h : SlotAt o i no st base n x d) {f : Fld} (hf : ∀ g ∈ slotFields i, g.key ≠ f.key) (v : Nat) :
    SlotAt o i no st base n x (d.rs f v) := by
  have regs := fun g hg => Dev.rg_rs_ne d (hf g hg) v
  simp only [slotFields, List.forall_mem_cons, List.not_mem_nil, false_implies, implies_true, and_true] at regs
  obtain ⟨state, position, steps, tally, update, orphan⟩ := regs
  exact ⟨state.trans h.st, position.trans h.base, steps.trans h.counted, tally.trans h.untallied, update ▸ h.settled,
    orphan.trans h.served, h.slot, h.run, h.lastNo, h.jobs, h.cfgWait, h.mgmt, h.outs⟩

theorem slotFields_ne (i : Nat) {f : Fld} (hf : f = fAON_DSTATE_STATE ∨ f = fSTP_STATUS_ROWS) :
    ∀ g ∈ slotFields i, g.key ≠ f.key := by
  rcases hf with rfl | rfl <;>
    simp only [slotFields, List.forall_mem_cons, List.not_mem_nil, false_implies, implies_true, and_true, Fld.at, Fld.key,
      fSTP_SLOT_STATE, fSTP_SLOT_BASE, fSTP_STATUS_STEPS, fSED_CFG_TALLY_EN, fTRU_UPD_STATE, fCPL_STATUS_ORPHAN,
      fAON_DSTATE_STATE, fSTP_STATUS_ROWS] <;> omega

/-- A field of the slot is none of the step's and of the boundary's. -/
theorem slotField_apart {f : Fld} (hi : i < 16) (hf : f.off = 0x380100) (hs : f.s1 = 8) (hl : f.lo < 64) :
    ∀ g ∈ [fSTP_STATUS_STEPS, fSED_CFG_TALLY_EN, fTRU_UPD_STATE, fCPL_STATUS_ORPHAN], g.key ≠ (f.at i).key := by
  simp only [List.forall_mem_cons, List.not_mem_nil, false_implies, implies_true, and_true, Fld.at, Fld.key, hf, hs,
    fSTP_STATUS_STEPS, fSED_CFG_TALLY_EN, fTRU_UPD_STATE, fCPL_STATUS_ORPHAN]
  omega

theorem SlotAt.setSt (h : SlotAt o i no st base n x d) (hi : i < 16) {v : Nat} (hv : v < 8) :
    SlotAt o i no v base n x (setSlotSt d i v) := by
  have regs := fun g hg => Dev.rg_rs_ne d (slotField_apart (f := fSTP_SLOT_STATE) hi rfl rfl (by decide) g hg) v
  simp only [List.forall_mem_cons, List.not_mem_nil, false_implies, implies_true, and_true] at regs
  obtain ⟨steps, tally, update, orphan⟩ := regs
  have position : (setSlotSt d i v).rg (fSTP_SLOT_BASE.at i) = d.rg (fSTP_SLOT_BASE.at i) :=
    Dev.rg_rs_ne d (by simp only [Fld.at, Fld.key, fSTP_SLOT_BASE, fSTP_SLOT_STATE]; omega) v
  exact ⟨(Dev.rg_rs_same d _ v).trans (Nat.mod_eq_of_lt hv), position.trans h.base, steps.trans h.counted,
    tally.trans h.untallied, update ▸ h.settled, orphan.trans h.served, h.slot, h.run, h.lastNo, h.jobs, h.cfgWait, h.mgmt,
    h.outs⟩

theorem SlotAt.setBase (h : SlotAt o i no st base n x d) (hi : i < 16) {v : Nat} (hv : v < 2 ^ 21) :
    SlotAt o i no st v n x (d.rs (fSTP_SLOT_BASE.at i) v) := by
  have regs := fun g hg => Dev.rg_rs_ne d (slotField_apart (f := fSTP_SLOT_BASE) hi rfl rfl (by decide) g hg) v
  simp only [List.forall_mem_cons, List.not_mem_nil, false_implies, implies_true, and_true] at regs
  obtain ⟨steps, tally, update, orphan⟩ := regs
  have state : (d.rs (fSTP_SLOT_BASE.at i) v).rg (fSTP_SLOT_STATE.at i) = d.rg (fSTP_SLOT_STATE.at i) :=
    Dev.rg_rs_ne d (by simp only [Fld.at, Fld.key, fSTP_SLOT_BASE, fSTP_SLOT_STATE]; omega) v
  exact ⟨state.trans h.st, (Dev.rg_rs_same d _ v).trans (Nat.mod_eq_of_lt hv), steps.trans h.counted,
    tally.trans h.untallied, update ▸ h.settled, orphan.trans h.served, h.slot, h.run, h.lastNo, h.jobs, h.cfgWait, h.mgmt,
    h.outs⟩

theorem SlotAt.setSlot (h : SlotAt o i no st base n x d) (y : Slot) : SlotAt o i no st base n y (d.setSlot i y) :=
  ⟨h.st, h.base, h.counted, h.untallied, h.settled, h.served, SMap.get_set_same _ _ _ _, h.run, h.lastNo, h.jobs, h.cfgWait,
    h.mgmt, h.outs⟩

theorem SlotAt.countStep (h : SlotAt o i no st base n x d) :
    SlotAt o i no st base ((n + 1) % 2 ^ 32) x (d.rs fSTP_STATUS_STEPS (d.rg fSTP_STATUS_STEPS + 1)) := by
  have other {f : Fld} (hf : f.key ≠ fSTP_STATUS_STEPS.key) := Dev.rg_rs_ne d hf (d.rg fSTP_STATUS_STEPS + 1)
  have own {f : Fld} (hf : f.off = 0x380100) (hs : f.s1 = 8) (hl : f.lo < 64) :=
    other (slotField_ne hf hs hl (show fSTP_STATUS_STEPS.off < _ by decide) (by decide) i).symm
  have count : (d.rs fSTP_STATUS_STEPS (d.rg fSTP_STATUS_STEPS + 1)).rg fSTP_STATUS_STEPS = (n + 1) % 2 ^ 32 := by
    rw [Dev.rg_rs_same, h.counted]
    rfl
  exact ⟨(own rfl rfl (by decide)).trans h.st, (own rfl rfl (by decide)).trans h.base, count,
    (other (by decide)).trans h.untallied, other (f := fTRU_UPD_STATE) (by decide) ▸ h.settled,
    (other (by decide)).trans h.served, h.slot, h.run, h.lastNo, h.jobs, h.cfgWait, h.mgmt, h.outs⟩

/-- A slot without pages ends. -/
theorem SlotAt.freed (h : SlotAt o i no st base n x d) (hi : i < 16) (items : x.items = []) :
    SlotAt o i no 0 base n { Slot.reset with tag := x.tag } (freeSlot d i) := by
  have free : freeSlot d i = (setSlotSt d i 0).setSlot i { Slot.reset with tag := x.tag } := by
    unfold freeSlot
    rw [h.slot, items]
    rfl
  rw [free]
  exact (h.setSt hi (by decide)).setSlot _

/-! ## The boundary (R251, R253, R438) -/

theorem SlotAt.idleDevice (h : SlotAt o i no st base n x d) (hi : i < 16) : SlotAt o i no st base n x (idleDevice d) := by
  unfold Machine.idleDevice
  split
  · exact h
  · exact (h.rs (slotFields_ne i (.inl rfl)) 2).kept hi
      ((SlotKept.refl i _).foldl _ _ fun _ _ _ he => he.modPlot _ _)

theorem orphanPark_served (h : d.rg fCPL_STATUS_ORPHAN = 0) : orphanPark d = d := by
  have eff : orphanEff d = false := by
    unfold orphanEff
    rw [h]
    rfl
  unfold orphanPark
  rw [eff]
  rfl

theorem SlotAt.boundary (h : SlotAt o i no st base n x d) (hi : i < 16) (st_ : st ≠ 1) :
    SlotAt o i no st base n x (boundary d) := by
  have begun : SlotAt o i no st base n x { d with steps := { d.steps with orphanWait := false, jobs := [] } } :=
    ⟨h.st, h.base, h.counted, h.untallied, h.settled, h.served, h.slot, h.run, h.lastNo, rfl, h.cfgWait, h.mgmt, h.outs⟩
  have emptied := begun.kept hi (SlotKept.emptyPrompts hi (by rw [begun.st]; exact st_))
  unfold Machine.boundary
  rw [h.cfgWait]
  dsimp only
  rw [h.jobs, List.foldl_nil, orphanPark_served emptied.served]
  exact (emptied.idleDevice hi).kept hi (SlotKept.refl i _).indexLine

theorem SlotAt.afterCommit (h : SlotAt o i no st base n x d) (hi : i < 16) (st_ : st ≠ 1) (now : Nat) :
    SlotAt o i no st base n x (afterCommit d now) := by
  have done := h.boundary hi st_
  have replica : replicaStep d now = d := if_pos h.untallied
  rw [Machine.afterCommit, replica, handoverCheck_idle done.settled]
  exact done

/-! ## The commit of one slot (R252, R257, R267) -/

/-- How the prune of a slot ends: its device, its output records, its events and the state that it takes. -/
abbrev SlotCommit := Dev × List (List Byte) × SlotEnd

/-- The device with the records and the events of slot `i` sent, where this device is the emitter. -/
def slotTold (d : Dev) (i : Nat) (emit : Bool) (c : SlotCommit) : Dev :=
  if emit then c.2.2.1.foldl (fun d v => pushEvent d v.1 v.2.1 i (d.slot i).tag v.2.2) (publish d 1 c.2.1) else d

/-- The device after the commit of slot `i` alone. -/
def slotCommitted (i : Nat) (emit : Bool) (c : SlotCommit) : Dev :=
  let d := slotTold { c.1 with steps := { c.1.steps with run := none, jobs := [] } } i emit c
  let d := if c.2.2.2 = 0 then freeSlot d i else setSlotSt d i c.2.2.2
  (d.rs fSTP_STATUS_STEPS (d.rg fSTP_STATUS_STEPS + 1)).rs fSTP_STATUS_ROWS 0

theorem SlotKept.slotTold (h : SlotKept i o d) (emit : Bool) (c : SlotCommit) : SlotKept i o (slotTold d i emit c) :=
  SlotKept.ite _ ((h.publish _ _).foldl _ _ fun _ _ _ he => he.pushEvent _ _ _ _ _) h

/-- What becomes of a slot that takes state `v`. -/
def Slot.ends (x : Slot) (v : Nat) : Slot := if v = 0 then { Slot.reset with tag := x.tag } else x

theorem slotCommitted_at {c : SlotCommit} (hi : i < 16) (items : x.items = []) (next : c.2.2.2 < 8)
    (h : SlotAt o i no st base n x { c.1 with steps := { c.1.steps with run := none, jobs := [] } }) (emit : Bool) :
    SlotAt o i no c.2.2.2 base ((n + 1) % 2 ^ 32) (x.ends c.2.2.2) (slotCommitted i emit c) := by
  have told := h.kept hi ((SlotKept.refl i _).slotTold emit c)
  have ended : SlotAt o i no c.2.2.2 base n (x.ends c.2.2.2)
      (if c.2.2.2 = 0 then
        freeSlot (slotTold { c.1 with steps := { c.1.steps with run := none, jobs := [] } } i emit c) i
      else setSlotSt (slotTold { c.1 with steps := { c.1.steps with run := none, jobs := [] } } i emit c) i c.2.2.2) := by
    unfold Slot.ends
    split
    next zero => exact zero ▸ told.freed hi items
    next => exact told.setSt hi next
  exact ended.countStep.rs (slotFields_ne i (.inr rfl)) 0

end

/-- The device with the number of its last boundary. -/
def Dev.numbered (d : Dev) (no : Nat) : Dev := { d with steps := { d.steps with lastNo := no } }

/-- The commit of a step of one entry, where no job names its slot. -/
theorem stepCommit_one {d : Dev} {r : StepRun} {e : StepEntry} (run : d.steps.run = some r) (one : r.entries = [e])
    (jobs : d.steps.jobs = []) {results : List (Nat × Walk)} {faults : List (Nat × Nat)} {c : SlotCommit}
    (hc : commitSlot (d.numbered r.no) r e
      (((results.find? (fun x => x.1 = e.slot)).map (·.2)).getD none)
      ((faults.find? (fun x => x.1 = e.slot)).map (·.2)) false = c) (kept : c.1.steps.jobs = []) (emit : Bool) :
    stepCommit d results faults [] emit = slotCommitted e.slot emit c := by
  subst hc
  have calm : cancelTaken (d.numbered r.no) e.slot = false := by
    unfold cancelTaken Dev.numbered
    rw [jobs]
    rfl
  unfold Dev.numbered at calm kept ⊢
  unfold stepCommit
  rw [run]
  simp only [List.foldl_nil, one, List.map_cons, List.map_nil, List.filter_cons, calm, Bool.false_eq_true, if_false,
    List.filter_nil, List.foldl_cons, List.contains_nil, List.nil_append, kept]
  rfl

end Sys2Proof.Machine
end

section
/-! PROOFS. STEP_COMMIT and COMMIT_RESULT_MESSAGE of a step of one slot, and the obligation (R252, R266, R267, R269). -/

namespace Sys2Proof.Machine

/-! ## What the prune of a root comes to (R252, R261, R267) -/

/-- The step of the root of slot `i`. -/
def rootRun (d : Dev) (i no : Nat) : StepRun := ⟨no, [rootEntry d i], [], [], false⟩

/-- A slot after a root that sampled `tok`. -/
def Slot.sampled (d : Dev) (x : Slot) (pos tok : Nat) : Slot :=
  { guideAfter d x 0 tok false with token := tok, emitted := x.emitted + 1, lastPos := some pos }

/-- What ends a slot after its token, and the state that it takes. -/
def sampledEnd : Option Nat → SlotEnd
  | some why => ([(0, 3, why)], 0)
  | none => ([], 2)

/-- The commit of a root that sampled `tok`. -/
def rootSampled (d : Dev) (i no tok : Nat) : SlotCommit :=
  let why := endReason (d.slot i) (slotBase d i + 1) 0 tok
  ((d.rs (fSTP_SLOT_BASE.at i) (slotBase d i + 1)).setSlot i ((d.slot i).sampled d (slotBase d i + 1) tok),
    outRecords no i (d.slot i).tag [(slotBase d i + 1, tok, false)] why.isSome, sampledEnd why)

theorem emitCut_one (x : Slot) (pos tok : Nat) (shoot : Bool) :
    emitCut x pos [(tok, shoot)] = ([(pos, tok, shoot)], endReason x pos 0 tok) := rfl

theorem commitSlot_sampled {d : Dev} {i : Nat} (items : (d.slot i).items = []) (o : Dev) (no tok : Nat) :
    commitSlot d (rootRun o i no) (rootEntry o i) (some ([], tok)) none false = rootSampled d i no tok := by
  unfold commitSlot rootSampled rootRun rootEntry
  simp only [items, Bool.false_eq_true, if_false, List.contains_nil, if_true, List.length_nil, Nat.zero_add, List.map_nil,
    List.nil_append, List.foldl_nil, emitCut_one]
  cases endReason (d.slot i) (slotBase d i + 1) 0 tok <;> rfl

theorem commitSlot_fault (d o : Dev) (i no c : Nat) (res : Walk) :
    commitSlot d (rootRun o i no) (rootEntry o i) res (some c) false = (d, [], [(0x0F30, 8, c)], 5) := rfl

theorem endReason_goes {x : Slot} {pos tok : Nat} (go : tok ∉ x.stops) (more : x.emitted + 1 ≠ x.maxNew) (room : pos < 2 ^ 20) :
    endReason x pos 0 tok = none := by
  unfold endReason
  rw [if_neg (by simpa using go), if_neg more, if_neg (by omega)]

theorem endReason_stops {x : Slot} {tok : Nat} (stop : tok ∈ x.stops) (pos : Nat) : endReason x pos 0 tok = some 0 := by
  unfold endReason
  rw [if_pos (by simpa using stop)]

/-! ## The commit (R267) -/

/-- The device of a step of slot `i` alone, as its step ends. -/
theorem slotAt_ends {d : Dev} {i no : Nat} (h : OneSlotStep d i no) :
    SlotAt d i no (slotSt d i) (slotBase d i) (d.rg fSTP_STATUS_STEPS) (d.slot i)
      { d with steps := { d.steps with lastNo := no, run := none, jobs := [] } } := by
  obtain ⟨-, -, -, -, -, cfgWait, tally, update, orphan⟩ := h
  exact ⟨rfl, rfl, rfl, tally, update, orphan, rfl, rfl, rfl, rfl, cfgWait, rfl, fun _ hm => hm⟩

theorem stepCommit_fault {d : Dev} {i no : Nat} (h : OneSlotStep d i no) (results : List (Nat × Walk)) (c : Nat)
    (emit : Bool) : SlotAt d i no 5 (slotBase d i) ((d.rg fSTP_STATUS_STEPS + 1) % 2 ^ 32) (d.slot i)
      (stepCommit d results [(i, c)] [] emit) := by
  obtain ⟨hi, run, items, -, jobs, -⟩ := id h
  have found : (([(i, c)].find? (fun x : Nat × Nat => x.1 = (rootEntry d i).slot)).map (·.2)) = some c := by
    simp [rootEntry]
  rw [stepCommit_one (r := rootRun d i no) (e := rootEntry d i) run rfl jobs
    (c := (d.numbered no, [], [(0x0F30, 8, c)], 5))
    (by rw [found]; exact commitSlot_fault (d.numbered no) d i no c _) jobs emit]
  exact slotCommitted_at (c := (d.numbered no, [], [(0x0F30, 8, c)], 5)) hi items (show 5 < 8 by decide) (slotAt_ends h) emit

theorem stepCommit_sampled {d : Dev} {i no tok st : Nat} {evs : List (Nat × Nat × Nat)} (h : OneSlotStep d i no)
    (ends : sampledEnd (endReason (d.slot i) (slotBase d i + 1) 0 tok) = (evs, st)) (hst : st < 8) (emit : Bool) :
    ∃ y : Slot, y.token = tok ∧ y.emitted = (d.slot i).emitted + 1 ∧
      SlotAt d i no st (slotBase d i + 1) ((d.rg fSTP_STATUS_STEPS + 1) % 2 ^ 32) (y.ends st)
        (stepCommit d [(i, some ([], tok))] [] [] emit) := by
  obtain ⟨hi, run, items, room, jobs, -⟩ := id h
  have found : ([(i, some ([], tok))].find? (fun x : Nat × Walk => x.1 = (rootEntry d i).slot)).map (·.2) =
      some (some ([], tok)) := by simp [rootEntry]
  rw [stepCommit_one (r := rootRun d i no) (e := rootEntry d i) run rfl jobs
    (c := rootSampled (d.numbered no) i no tok)
    (by rw [found]; exact commitSlot_sampled (d := d.numbered no) items d no tok) jobs emit]
  have state : (rootSampled (d.numbered no) i no tok).2.2.2 = st :=
    congrArg Prod.snd ends
  have at_ := ((slotAt_ends h).setBase hi (v := slotBase d i + 1) (by omega)).setSlot
    ((d.slot i).sampled (d.numbered no) (slotBase d i + 1) tok)
  have done := slotCommitted_at (c := rootSampled (d.numbered no) i no tok)
    (x := (d.slot i).sampled (d.numbered no) (slotBase d i + 1) tok) hi items (by rw [state]; exact hst) at_ emit
  rw [state] at done
  exact ⟨_, rfl, rfl, done⟩

/-! ## The results sent and taken (R267, R394) -/

theorem exec_stepCommit (logits : List (Nat × List (List Nat))) (faults resid : List (Nat × Nat)) (others : List Nat)
    (peers emit : Bool) (now : Nat) (s : State) : exec (.stepCommit logits faults resid others peers emit now) s =
      onDev s fun d => if stepRunning d && checksClosed d && peers then
        afterCommit (stepCommit (sendResults d others (stepResults d logits)) (stepResults d logits) faults resid emit) now
      else d := rfl

theorem exec_commitResultMessage (results : List (Nat × Option (List Nat × Nat))) (faults resid : List (Nat × Nat))
    (emit : Bool) (now : Nat) (s : State) : exec (.commitResultMessage results faults resid emit now) s =
      onDev s fun d => if stepRunning d && checksClosed d then
        match mgmtTake d (fun m => decide (0 < m.type) && decide (m.type < 0x100)) with
        | some (d, _) => afterCommit (stepCommit d results faults resid emit) now
        | none => d
      else d := rfl

theorem sendResults_only (d : Dev) (others : List Nat) (results : List (Nat × Walk)) :
    sendResults d others results = { d with outs := (sendResults d others results).outs } :=
  List.foldlRecOn (motive := fun e : Dev => e = { d with outs := e.outs }) others _ rfl fun e he o _ => by
    rw [he]
    rfl

theorem sendResults_none (d : Dev) (results : List (Nat × Walk)) : sendResults d [] results = d := rfl

theorem foldl_emit_outs (f : Nat → Out) (l : List Nat) (d : Dev) :
    (l.foldl (fun d o => d.emit (f o)) d).outs = d.outs ++ l.map f := by
  induction l generalizing d with
  | nil => simp
  | cons o t ih => rw [List.foldl_cons, ih, List.map_cons, Dev.emit, List.append_assoc, List.singleton_append]

/-- Each of the other devices is sent the result. -/
theorem sendResults_sent (d : Dev) {others : List Nat} {o : Nat} (h : o ∈ others) (i tok : Nat) :
    .commitResult o [(i, [], tok)] ∈ (sendResults d others [(i, some ([], tok))]).outs := by
  rw [show (sendResults d others [(i, some ([], tok))]).outs = d.outs ++ others.map (.commitResult · [(i, [], tok)]) from
    foldl_emit_outs (.commitResult · [(i, [], tok)]) others d]
  exact List.mem_append_right _ (List.mem_map_of_mem h)

theorem OneSlotStep.running {d : Dev} {i no : Nat} (h : OneSlotStep d i no) : stepRunning d = true := by
  obtain ⟨-, run, -⟩ := h
  rw [stepRunning, run]
  rfl

theorem OneSlotStep.sent {d : Dev} {i no : Nat} (h : OneSlotStep d i no) (others : List Nat) (results : List (Nat × Walk)) :
    OneSlotStep (sendResults d others results) i no := by
  rw [sendResults_only]
  exact h

theorem OneSlotStep.results {d : Dev} {i no tok : Nat} (h : OneSlotStep d i no) {logits : List (List Nat)}
    (prune : pruneEntry d (rootEntry d i) logits = some ([], tok)) : stepResults d [(i, logits)] = [(i, some ([], tok))] := by
  obtain ⟨-, run, -⟩ := h
  have found : (([(i, logits)].find? (fun x : Nat × List (List Nat) => x.1 = (rootEntry d i).slot)).map (·.2)).getD [] =
      logits := by simp [rootEntry]
  have entries : stepEntries d = [rootEntry d i] := by
    rw [stepEntries, run]
    rfl
  rw [stepResults, entries, List.map_singleton, found, prune]
  rfl

/-- What a step of the root of slot `i` is to commit: `tok`, with every check closed. -/
structure RootStep (d : Dev) (i no tok : Nat) (logits : List (List Nat)) : Prop where
  step : OneSlotStep d i no
  closed : checksClosed d = true
  prune : pruneEntry d (rootEntry d i) logits = some ([], tok)

theorem stepCommit_gives {s : State} {i no tok : Nat} {logits : List (List Nat)} (live : Live s)
    (h : RootStep s.dev i no tok logits) (faults : List (Nat × Nat)) (others : List Nat) (emit : Bool) (now : Nat) :
    Gives (.stepCommit [(i, logits)] faults [] others true emit now) s
      (afterCommit (stepCommit (sendResults s.dev others [(i, some ([], tok))]) [(i, some ([], tok))] faults [] emit) now) := by
  obtain ⟨step, closed, prune⟩ := h
  rw [Gives, exec_stepCommit, onDev_live live, step.running, closed, step.results prune, Bool.and_self, Bool.and_self,
    if_pos rfl]

/-- The device whose message has been taken. -/
def mgmtTaken (d : Dev) (m : Mgmt) : Dev := linkFree { d with mgmt := [] } (1 + m.port) 3 (1 + (m.body.length + 15) / 16)

theorem mgmtTake_one {d : Dev} {m : Mgmt} {fits : Mgmt → Bool} (one : d.mgmt = [m]) (h : fits m = true) :
    mgmtTake d fits = some (mgmtTaken d m, m) := by
  unfold mgmtTake
  rw [one]
  simp [h, mgmtTaken]

theorem commitResultMessage_gives {s : State} {i no tok : Nat} {logits : List (List Nat)} (live : Live s)
    (h : RootStep s.dev i no tok logits) {m : Mgmt} (one : s.dev.mgmt = [m]) (low : 0 < m.type) (high : m.type < 0x100)
    (emit : Bool) (now : Nat) : Gives (.commitResultMessage [(i, some ([], tok))] [] [] emit now) s
      (afterCommit (stepCommit (mgmtTaken s.dev m) [(i, some ([], tok))] [] [] emit) now) := by
  rw [Gives, exec_commitResultMessage, onDev_live live, h.step.running, h.closed,
    mgmtTake_one one (by simp [low, high]), Bool.and_self, if_pos rfl]

/-! ## The commits (R267, R269) -/

/-- One more position of slot `i` is committed, its token is pending, and one more step is counted. -/
def Committed (o : Dev) (i no tok : Nat) (t : Dev) : Prop :=
  slotBase t i = slotBase o i + 1 ∧ t.steps.run = none ∧ t.steps.lastNo = no ∧
    t.rg fSTP_STATUS_STEPS = (o.rg fSTP_STATUS_STEPS + 1) % 2 ^ 32 ∧ slotSt t i = 2 ∧ (t.slot i).token = tok ∧
    (t.slot i).emitted = (o.slot i).emitted + 1

/-- A slot that goes on. -/
theorem sampled_goes {d : Dev} {i no tok : Nat} (h : OneSlotStep d i no) (go : tok ∉ (d.slot i).stops)
    (more : (d.slot i).emitted + 1 ≠ (d.slot i).maxNew) (emit : Bool) (now : Nat) :
    ∃ t, afterCommit (stepCommit d [(i, some ([], tok))] [] [] emit) now = t ∧ Committed d i no tok t ∧ t.mgmt = d.mgmt ∧
      ∀ m ∈ d.outs, m ∈ t.outs := by
  obtain ⟨hi, -, -, room, -⟩ := id h
  have reason := endReason_goes go more room
  obtain ⟨y, token, emitted, at_⟩ := stepCommit_sampled (evs := []) (st := 2) h (by rw [reason]; rfl) (by decide) emit
  have done := at_.afterCommit hi (by decide) now
  exact ⟨_, rfl, ⟨done.base, done.run, done.lastNo, done.counted, done.st, by rw [done.slot]; exact token,
    by rw [done.slot]; exact emitted⟩, done.mgmt, done.outs⟩

/-- A slot that its token ends. -/
theorem sampled_stops {d : Dev} {i no tok : Nat} (h : OneSlotStep d i no) (stop : tok ∈ (d.slot i).stops)
    (emit : Bool) (now : Nat) : ∃ t, afterCommit (stepCommit d [(i, some ([], tok))] [] [] emit) now = t ∧
      slotSt t i = 0 ∧ t.steps.run = none := by
  obtain ⟨hi, -⟩ := id h
  have reason := endReason_stops stop (slotBase d i + 1)
  obtain ⟨y, -, -, at_⟩ := stepCommit_sampled (evs := [(0, 3, 0)]) (st := 0) h (by rw [reason]; rfl) (by decide) emit
  have done := at_.afterCommit hi (by decide) now
  exact ⟨_, rfl, done.st, done.run⟩

theorem stepCommit_commits {s : State} {i no tok : Nat} {logits : List (List Nat)} (live : Live s)
    (h : RootStep s.dev i no tok logits) (go : tok ∉ (s.dev.slot i).stops)
    (more : (s.dev.slot i).emitted + 1 ≠ (s.dev.slot i).maxNew) (others : List Nat) (emit : Bool) (now : Nat) :
    Completes (.stepCommit [(i, logits)] [] [] others true emit now) s (fun t => Committed s.dev i no tok t.dev ∧
      ∀ o, o ∈ others → .commitResult o [(i, [], tok)] ∈ t.dev.outs) := by
  have gives := stepCommit_gives live h [] others emit now
  have sent := fun o (ho : o ∈ others) => sendResults_sent s.dev ho i tok
  obtain ⟨step, -, -⟩ := h
  have only := sendResults_only s.dev others [(i, some ([], tok))]
  generalize (sendResults s.dev others [(i, some ([], tok))]).outs = l at sent only
  rw [only] at gives
  obtain ⟨t, ended, committed, -, outs⟩ := sampled_goes (d := { s.dev with outs := l }) step go more emit now
  rw [ended] at gives
  exact gives.completes ⟨committed, fun o ho => outs _ (sent o ho)⟩

theorem commitResultMessage_commits {s : State} {i no tok : Nat} {logits : List (List Nat)} (live : Live s)
    (h : RootStep s.dev i no tok logits) (go : tok ∉ (s.dev.slot i).stops)
    (more : (s.dev.slot i).emitted + 1 ≠ (s.dev.slot i).maxNew) {m : Mgmt} (one : s.dev.mgmt = [m]) (low : 0 < m.type)
    (high : m.type < 0x100) (emit : Bool) (now : Nat) :
    Completes (.commitResultMessage [(i, some ([], tok))] [] [] emit now) s (fun t =>
      Committed s.dev i no tok t.dev ∧ t.dev.mgmt = []) := by
  have gives := commitResultMessage_gives live h one low high emit now
  obtain ⟨t, ended, committed, mgmt, -⟩ := sampled_goes (d := mgmtTaken s.dev m) h.step go more emit now
  rw [ended] at gives
  exact gives.completes ⟨committed, mgmt⟩

theorem stepCommit_ends {s : State} {i no tok : Nat} {logits : List (List Nat)} (live : Live s)
    (h : RootStep s.dev i no tok logits) (stop : tok ∈ (s.dev.slot i).stops) (emit : Bool) (now : Nat) :
    Completes (.stepCommit [(i, logits)] [] [] [] true emit now) s (fun t =>
      slotSt t.dev i = 0 ∧ t.dev.steps.run = none) := by
  have gives := stepCommit_gives live h [] [] emit now
  obtain ⟨t, ended, done⟩ := sampled_stops h.step stop emit now
  rw [sendResults_none, ended] at gives
  exact gives.completes done

theorem stepCommit_fails {s : State} {i no tok : Nat} {logits : List (List Nat)} (live : Live s)
    (h : RootStep s.dev i no tok logits) (c : Nat) (emit : Bool) (now : Nat) :
    Completes (.stepCommit [(i, logits)] [(i, c)] [] [] true emit now) s (fun t =>
      slotSt t.dev i = 5 ∧ slotBase t.dev i = slotBase s.dev i ∧ t.dev.steps.run = none) := by
  have gives := stepCommit_gives live h [(i, c)] [] emit now
  rw [sendResults_none] at gives
  obtain ⟨hi, -⟩ := id h.step
  have done := (stepCommit_fault h.step [(i, some ([], tok))] c emit).afterCommit hi (by decide) now
  generalize afterCommit (stepCommit s.dev [(i, some ([], tok))] [(i, c)] [] emit) now = t at gives done
  exact gives.completes ⟨done.st, done.base, done.run⟩

/-- While a check is open, STEP_COMMIT and COMMIT_RESULT_MESSAGE do nothing. -/
theorem commit_open {s : State} (live : Live s) (open_ : checksClosed s.dev = false) (logits : List (Nat × List (List Nat)))
    (results : List (Nat × Option (List Nat × Nat))) (faults resid : List (Nat × Nat)) (others : List Nat)
    (peers emit : Bool) (now : Nat) : Gives (.stepCommit logits faults resid others peers emit now) s s.dev ∧
      Gives (.commitResultMessage results faults resid emit now) s s.dev := by
  refine ⟨?_, ?_⟩
  · rw [Gives, exec_stepCommit, onDev_live live, open_, Bool.and_false, Bool.false_and, if_neg Bool.false_ne_true]
  · rw [Gives, exec_commitResultMessage, onDev_live live, open_, Bool.and_false, if_neg Bool.false_ne_true]

/-- While a check is open on another device, STEP_COMMIT does nothing. -/
theorem stepCommit_peers {s : State} (live : Live s) (logits : List (Nat × List (List Nat))) (faults resid : List (Nat × Nat))
    (others : List Nat) (emit : Bool) (now : Nat) :
    Gives (.stepCommit logits faults resid others false emit now) s s.dev := by
  rw [Gives, exec_stepCommit, onDev_live live, Bool.and_false, if_neg Bool.false_ne_true]

/-- Without a message COMMIT_RESULT_MESSAGE does nothing. -/
theorem commitResultMessage_none {s : State} (live : Live s) (none_ : s.dev.mgmt = [])
    (results : List (Nat × Option (List Nat × Nat))) (faults resid : List (Nat × Nat)) (emit : Bool) (now : Nat) :
    Gives (.commitResultMessage results faults resid emit now) s s.dev := by
  have nothing (fits : Mgmt → Bool) : mgmtTake s.dev fits = none := by
    unfold mgmtTake
    rw [none_]
    rfl
  rw [Gives, exec_commitResultMessage, onDev_live live, nothing]
  split <;> rfl

/-- Settles O21: the start from the boundary evaluation of one slot; a commit by what its prune comes to and by what the
messages and the boundary that follow leave of the slot. -/
theorem oneStep : Obligations.OneStep := by
  refine ⟨fun s i pm drafts live hi power released placed fits firmware settled idle waiting events sown decodes others guide
      draft room => ?_, fun s drafts opens live held settled => stepStart_held live held settled drafts opens,
    fun s i no tok now logits emit live step closed prune => ?_,
    fun s logits results faults resid others emit now live =>
      ⟨fun open_ => commit_open live open_ logits results faults resid others true emit now,
        stepCommit_peers live logits faults resid others emit now,
        fun none_ => commitResultMessage_none live none_ results faults resid emit now⟩⟩
  · obtain ⟨t, ht, started⟩ := stepStart_starts live ⟨hi, power, released, placed, fits, firmware, settled, idle, waiting,
      events, sown, decodes, others, guide, draft, room⟩ drafts
    exact ⟨t, ht, started.awake, started.rows, started.size, started.st, started.base, started.run⟩
  · have h : RootStep s.dev i no tok logits := ⟨step, closed, prune⟩
    exact ⟨fun go more => ⟨fun others => stepCommit_commits live h go more others emit now,
      fun m one low high => commitResultMessage_commits live h go more one low high emit now⟩,
      fun stop => stepCommit_ends live h stop emit now, fun c => stepCommit_fails live h c emit now⟩

end Sys2Proof.Machine
end

section
/-! PROOFS. What a message to the companion, an event record and a reply in the mailbox change of the device (R259, R344, R359
to R363). -/

namespace Sys2Proof.Machine

/-! ## A message on the companion link (R344) -/

/-- A register key of neither the sticky error record and its like nor the counters of the companion link. -/
def outsideFlit (k : Nat) : Prop := outsideRecord k ∧ outsideBank 0x600E00 k

/-- The two devices differ at most in what flits to the companion change: the link, what has been sent, and its counters. -/
structure FlitSide (o d : Dev) : Prop where
  only : d = { o with regs := d.regs, links := d.links, outs := d.outs, tray := d.tray, snap := d.snap }
  regs : ∀ g : Fld, outsideFlit g.key → d.rg g = o.rg g

theorem FlitSide.refl (o : Dev) : FlitSide o o := ⟨rfl, fun _ _ => rfl⟩

theorem FlitSide.trans {o d e : Dev} (h : FlitSide o d) (k : FlitSide d e) : FlitSide o e :=
  ⟨by rw [k.only, h.only], fun g hg => (k.regs g hg).trans (h.regs g hg)⟩

theorem FlitSide.setLink {o d : Dev} (h : FlitSide o d) (k : Nat) (l : Link) : FlitSide o (d.setLink k l) :=
  h.trans ⟨rfl, fun _ _ => rfl⟩

theorem FlitSide.modLink {o d : Dev} (h : FlitSide o d) (k : Nat) (f : Link → Link) : FlitSide o (d.modLink k f) :=
  h.setLink _ _

theorem FlitSide.emit {o d : Dev} (h : FlitSide o d) (m : Out) : FlitSide o (d.emit m) := h.trans ⟨rfl, fun _ _ => rfl⟩

theorem RegsOnly.flitSide {d e : Dev} (h : RegsOnly d e) (hp : e.plots = d.plots)
    (hr : ∀ g : Fld, outsideFlit g.key → e.rg g = d.rg g) : FlitSide d e := ⟨by rw [h.1, hp], hr⟩

/-- An event of the companion link. -/
theorem FlitSide.linkEvent {o d : Dev} (h : FlitSide o d) (ev : Nat) : FlitSide o (linkEvent d 0 ev) :=
  h.trans ((RegsOnly.blockEvent d _ _ ev 1 none none).flitSide (blockEvent_plots d _ _ ev 1 none none) fun g hg =>
    blockEvent_rg d _ _ ev 1 none none g hg.1 hg.2)

theorem FlitSide.linkFlit {o d : Dev} (h : FlitSide o d) (units head : List Byte) : FlitSide o (linkFlit d 0 units head) := by
  unfold Machine.linkFlit flitOut
  exact ((h.setLink _ _).emit _).linkEvent _

theorem FlitSide.linkPump {o d : Dev} (h : FlitSide o d) : FlitSide o (linkPump d 0) := by
  unfold Machine.linkPump
  dsimp only
  split
  · exact h
  · refine FlitSide.modLink (List.foldlRecOn (motive := fun s : Dev × List Nat × List (Nat × List Byte) => FlitSide o s.1)
      _ _ (h.setLink _ _) fun s hs m _ => ?_) _ _
    split
    · exact hs
    · exact List.foldlRecOn (motive := FlitSide o) _ _ (hs.setLink _ _) fun _ he _ _ => he.linkFlit _ _

theorem linkSend_flitSide (d : Dev) (cls : Nat) (m : List Byte) : FlitSide d (linkSend d 0 cls m) := by
  unfold Machine.linkSend
  split
  · exact FlitSide.refl d
  · exact ((FlitSide.refl d).modLink _ _).linkPump

/-! ## Notifications, coherent requests and records (R350, R359, R360) -/

/-- A register key that also is not the producer index of the event ring. -/
def outsideTold (k : Nat) : Prop := outsideFlit k ∧ k ≠ (fCPL_RING_IDX_PRODUCER.at 2).key

/-- The two devices differ at most in what telling the companion changes: the link, its counters, the event ring's index, and
the companion's part but for the message in process and MBX_OUT. -/
structure Told (o d : Dev) : Prop where
  only : d = { o with regs := d.regs, cpl := d.cpl, links := d.links, outs := d.outs, tray := d.tray, snap := d.snap }
  regs : ∀ g : Fld, outsideTold g.key → d.rg g = o.rg g
  mail : d.cpl.mail = o.cpl.mail
  mboxOut : d.cpl.mboxOut = o.cpl.mboxOut

section
variable {o d e : Dev}

theorem Told.refl (o : Dev) : Told o o := ⟨rfl, fun _ _ => rfl, rfl, rfl⟩

theorem Told.trans (h : Told o d) (k : Told d e) : Told o e :=
  ⟨by rw [k.only, h.only], fun g hg => (k.regs g hg).trans (h.regs g hg), k.mail.trans h.mail, k.mboxOut.trans h.mboxOut⟩

theorem FlitSide.told (h : FlitSide o d) : Told o d :=
  ⟨by rw [h.only], fun g hg => h.regs g hg.1, by rw [h.only], by rw [h.only]⟩

theorem Told.cpl (h : Told o d) {c : Companion} (mail : c.mail = d.cpl.mail := by rfl)
    (box : c.mboxOut = d.cpl.mboxOut := by rfl) : Told o { d with cpl := c } := h.trans ⟨rfl, fun _ _ => rfl, mail, box⟩

theorem Told.ite (c : Prop) [Decidable c] (h : Told o d) (k : Told o e) : Told o (if c then d else e) := by
  split <;> assumption

theorem Told.linkSend (h : Told o d) (cls : Nat) (m : List Byte) : Told o (linkSend d 0 cls m) :=
  h.trans (linkSend_flitSide d cls m).told

theorem Told.notify (h : Told o d) (vec : Nat) : Told o (notify d vec) := by
  have sent := h.linkSend 2 (cplHeader 0x30 1 0 0 0 vec)
  unfold Machine.notify
  dsimp only
  exact Told.ite _ h (Told.ite _ h.cpl (Told.ite _ sent sent.cpl))

theorem Told.cohSend (h : Told o d) (opc line : Nat) (data : List Byte) (ring : Nat) :
    Told o (cohSend d opc line data ring) := by
  unfold Machine.cohSend
  dsimp only
  exact Told.ite _ (h.cpl.linkSend _ _) (h.cpl.linkSend _ _)

theorem Told.evictLine (h : Told o d) (line : Nat) : Told o (evictLine d line) := by
  have gone : Told o (setLine d line none) := h.cpl
  unfold Machine.evictLine
  split
  · exact h
  · exact Told.ite _ (gone.cohSend _ _ _ _) (gone.linkSend _ _)

theorem Told.indexLine (h : Told o d) : Told o (indexLine d) := by
  unfold Machine.indexLine
  dsimp only
  refine Told.ite _ h (Told.ite _ (Told.notify ?_ _) ?_) <;>
    exact Told.ite _ (((h.cpl.evictLine _).cohSend _ _ _ _).notify _) ((h.cpl.evictLine _).cohSend _ _ _ _)

theorem Told.producer (h : Told o d) (v : Nat) : Told o (d.rs (fCPL_RING_IDX_PRODUCER.at 2) v) :=
  h.trans ⟨rfl, fun _ hg => Dev.rg_rs_ne d hg.2 v, rfl, rfl⟩

/-- Records of the event ring. -/
theorem Told.publish (h : Told o d) (recs : List (List Byte)) : Told o (publish d 2 recs) := by
  unfold Machine.publish
  dsimp only
  exact Told.ite _ h (List.foldlRecOn (motive := Told o) _ _ (h.cpl.producer _) fun _ he _ _ =>
    (he.evictLine _).cohSend _ _ _ _)

theorem Told.steps (h : Told o d) : d.steps = o.steps := by rw [h.only]

/-! ## An event record (R253, R259) -/

/-- Event `b` has been raised: it stands behind the events that wait while the event ring has no room. -/
structure Announces (o : Dev) (b : List Byte) (d : Dev) : Prop where
  regs : ∀ g : Fld, outsideTold g.key → d.rg g = o.rg g
  steps : d.steps = { o.steps with events := d.steps.events }
  events : ringFree o 2 = 0 → d.steps.events = o.steps.events ++ [⟨b⟩]

theorem Announces.told {b : List Byte} (h : Announces o b d) (k : Told d e) : Announces o b e :=
  ⟨fun g hg => (k.regs g hg).trans (h.regs g hg), by rw [k.steps]; exact h.steps, by rw [k.steps]; exact h.events⟩

theorem Announces.indexLine {b : List Byte} (h : Announces o b d) : Announces o b (indexLine d) := h.told (Told.refl d).indexLine

theorem pushEvent_announces (d : Dev) {s : Nat} (hs : s < 16) (code kind tag detail : Nat) :
    Announces d (eventRecord code kind s tag (slotGen d s) (slotBase d s) d.steps.lastNo detail)
      (pushEvent d code kind s tag detail) := by
  have record : leBytes 2 code ++ leBytes 1 kind ++ leBytes 1 s ++ leBytes 4 tag ++ leBytes 4 (slotGen d (s % 16)) ++
      leBytes 4 (slotBase d (s % 16)) ++ leBytes 8 d.steps.lastNo ++ leBytes 8 detail =
      eventRecord code kind s tag (slotGen d s) (slotBase d s) d.steps.lastNo detail := by
    rw [Nat.mod_eq_of_lt hs]
    rfl
  unfold pushEvent flushEvents
  rw [record]
  generalize eventRecord code kind s tag (slotGen d s) (slotBase d s) d.steps.lastNo detail = b
  have told := (Told.refl ({ d with steps := { d.steps with events := d.steps.events ++ [⟨b⟩] } } : Dev)).publish
  refine ⟨fun g hg => (told _).regs g hg, ?_, fun full => ?_⟩
  · dsimp only
    rw [(told _).steps]
  · have none_ : ringFree ({ d with steps := { d.steps with events := d.steps.events ++ [⟨b⟩] } } : Dev) 2 = 0 := full
    dsimp only
    rw [(told _).steps, none_, Nat.zero_min, List.drop_zero]

end

end Sys2Proof.Machine
end

section
/-! PROOFS. The jobs and the waiting transitions of a slot, STP_CFG, and a step abandoned (R250, R251, R253 to R256, R259, R268,
R274). -/

namespace Sys2Proof.Machine

/-! ## What changes of one slot alone (R250) -/

/-- A register key of slot `i`. -/
def OfSlot (i k : Nat) : Prop := k / 64 = 0x380100 + 8 * i

theorem ofSlot_at {f : Fld} (i : Nat) (hf : f.off = 0x380100) (hs : f.s1 = 8) (hl : f.lo < 64) : OfSlot i (f.at i).key := by
  simp only [OfSlot, Fld.at, Fld.key, hf, hs]
  omega

/-- The two devices differ at most in the registers of slot `i`, in the slots, and in the pages of an item. -/
structure SlotSide (i : Nat) (o d : Dev) : Prop where
  regs : ∀ g : Fld, ¬ OfSlot i g.key → d.rg g = o.rg g
  events : d.steps.events = o.steps.events
  lastNo : d.steps.lastNo = o.steps.lastNo
  waiting : d.steps.waiting = o.steps.waiting

section
variable {o d e : Dev} {i : Nat}

theorem SlotSide.refl (i : Nat) (o : Dev) : SlotSide i o o := ⟨fun _ _ => rfl, rfl, rfl, rfl⟩

theorem SlotSide.trans (h : SlotSide i o d) (k : SlotSide i d e) : SlotSide i o e :=
  ⟨fun g hg => (k.regs g hg).trans (h.regs g hg), k.events.trans h.events, k.lastNo.trans h.lastNo, k.waiting.trans h.waiting⟩

theorem SlotSide.rs (h : SlotSide i o d) {f : Fld} (hf : f.off = 0x380100) (hs : f.s1 = 8) (hl : f.lo < 64) (v : Nat) :
    SlotSide i o (d.rs (f.at i) v) :=
  h.trans ⟨fun g hg => Dev.rg_rs_ne d (g := g) (fun same => hg (by rw [same]; exact ofSlot_at i hf hs hl)) v, rfl, rfl, rfl⟩

theorem SlotSide.setSlot (h : SlotSide i o d) (x : Slot) : SlotSide i o (d.setSlot i x) := h.trans ⟨fun _ _ => rfl, rfl, rfl, rfl⟩

theorem SlotSide.setSt (h : SlotSide i o d) (v : Nat) : SlotSide i o (setSlotSt d i v) := h.rs rfl rfl (by decide) v

theorem not_ofSlot {f : Fld} (hi : i < 16) (hf : f.off < 0x380100 ∨ 0x380180 ≤ f.off) (hl : f.lo < 64) :
    ¬ OfSlot i f.key := by
  simp only [OfSlot, Fld.key]
  omega

/-- The registers of a ring. -/
theorem not_ofSlot_ring {f : Fld} (hi : i < 16) (r : Nat) (hf : 0x600000 ≤ f.off) : ¬ OfSlot i (f.at r).key := by
  simp only [OfSlot, Fld.at, Fld.key]
  omega

theorem ringFree_congr {r : Nat} (h : ∀ f ∈ [fCPL_RING_CFG_ENABLE, fCPL_RING_CFG_LOG2, fCPL_RING_IDX_PRODUCER,
    fCPL_RING_IDX_CONSUMER], e.rg (f.at r) = d.rg (f.at r)) : ringFree e r = ringFree d r := by
  simp only [List.forall_mem_cons, List.not_mem_nil, false_implies, implies_true, and_true] at h
  obtain ⟨enable, log2, producer, consumer⟩ := h
  rw [ringFree, ringEntries, ringFill, enable, log2, producer, consumer, ← ringFill, ← ringEntries, ← ringFree]

theorem SlotSide.ringFree (h : SlotSide i o d) (hi : i < 16) (r : Nat) : ringFree d r = ringFree o r :=
  ringFree_congr fun f hf => h.regs _ (not_ofSlot_ring hi r (by
    revert f
    decide))

/-! ## A slot that ends (R251) -/

theorem foldl_freeItem_only (d : Dev) (l : List Nat) : l.foldl freeItem d = { d with gddr := (l.foldl freeItem d).gddr } :=
  List.foldlRecOn (motive := fun e : Dev => e = { d with gddr := e.gddr }) l _ rfl fun e he a _ => by
    rw [freeItem_only, he]

theorem freeSlot_eq (d : Dev) (i : Nat) : ∃ m, freeSlot d i =
    (setSlotSt { d with gddr := m } i 0).setSlot i { Slot.reset with tag := (d.slot i).tag } :=
  ⟨_, by rw [freeSlot, foldl_freeItem_only]⟩

theorem freeSlot_side (d : Dev) (i : Nat) : SlotSide i d (freeSlot d i) := by
  obtain ⟨m, free⟩ := freeSlot_eq d i
  have pages : SlotSide i d { d with gddr := m } := ⟨fun _ _ => rfl, rfl, rfl, rfl⟩
  rw [free]
  exact (pages.setSt 0).setSlot _

theorem freeSlot_st (d : Dev) (i : Nat) : slotSt (freeSlot d i) i = 0 := by
  obtain ⟨m, free⟩ := freeSlot_eq d i
  rw [free, slotSt]
  exact Dev.rg_rs_same { d with gddr := m } _ 0

/-- Two fields of a slot. -/
theorem slotField_ne_at {f g : Fld} (hf : f.off = g.off) (hs : f.s1 = g.s1) (hl : f.lo ≠ g.lo) (i : Nat) :
    (f.at i).key ≠ (g.at i).key := by
  simp only [Fld.at, Fld.key, hf, hs]
  omega

theorem freeSlot_rg (d : Dev) (i : Nat) {g : Fld} (hg : g.key ≠ (fSTP_SLOT_STATE.at i).key) : (freeSlot d i).rg g = d.rg g := by
  obtain ⟨m, free⟩ := freeSlot_eq d i
  rw [free]
  exact Dev.rg_rs_ne { d with gddr := m } hg 0

theorem freeSlot_gen (d : Dev) (i : Nat) : slotGen (freeSlot d i) i = slotGen d i :=
  freeSlot_rg d i (slotField_ne_at (f := fSTP_SLOT_GEN) (g := fSTP_SLOT_STATE) rfl rfl (by decide) i)

theorem freeSlot_base (d : Dev) (i : Nat) : slotBase (freeSlot d i) i = slotBase d i :=
  freeSlot_rg d i (slotField_ne_at (f := fSTP_SLOT_BASE) (g := fSTP_SLOT_STATE) rfl rfl (by decide) i)

/-! ## A slot that changes with its event (R251, R259) -/

/-- Slot `i` has changed and event `b` has been raised. -/
structure SlotEvent (i : Nat) (o : Dev) (b : List Byte) (d : Dev) : Prop where
  regs : ∀ g : Fld, outsideTold g.key → ¬ OfSlot i g.key → d.rg g = o.rg g
  waiting : d.steps.waiting = o.steps.waiting
  events : ringFree o 2 = 0 → d.steps.events = o.steps.events ++ [⟨b⟩]

theorem SlotSide.event (h : SlotSide i o d) (hi : i < 16) {b : List Byte} (k : Announces d b e) : SlotEvent i o b e :=
  ⟨fun g hg hs => (k.regs g hg).trans (h.regs g hs), by rw [k.steps]; exact h.waiting,
    fun full => by rw [k.events ((h.ringFree hi 2).trans full), h.events]⟩

/-- The fields of slot `i` are not what telling the companion changes. -/
theorem outsideTold_slot {f : Fld} (hi : i < 16) (hf : f.off = 0x380100) (hs : f.s1 = 8) (hl : f.lo < 64) :
    outsideTold (f.at i).key := by
  simp only [outsideTold, outsideFlit, outsideRecord, outsideBank, Fld.at, Fld.key, hf, hs, fCPL_RING_IDX_PRODUCER]
  omega

theorem Announces.st {b : List Byte} (h : Announces o b d) (hi : i < 16) : slotSt d i = slotSt o i :=
  h.regs _ (outsideTold_slot hi rfl rfl (by decide))

theorem Announces.gen {b : List Byte} (h : Announces o b d) (hi : i < 16) : slotGen d i = slotGen o i :=
  h.regs _ (outsideTold_slot hi rfl rfl (by decide))

theorem Announces.base {b : List Byte} (h : Announces o b d) (hi : i < 16) : slotBase d i = slotBase o i :=
  h.regs _ (outsideTold_slot hi rfl rfl (by decide))

theorem Announces.slot {b : List Byte} (h : Announces o b d) (k : Nat) : d.slot k = o.slot k := by
  rw [Dev.slot, h.steps, Dev.slot]

/-- A slot ends with an event. -/
theorem freeSlot_event (d : Dev) (hi : i < 16) (code kind detail : Nat) :
    slotSt (indexLine (pushEvent (freeSlot d i) code kind i (d.slot i).tag detail)) i = 0 ∧
    SlotEvent i d (eventRecord code kind i (d.slot i).tag (slotGen d i) (slotBase d i) d.steps.lastNo detail)
      (indexLine (pushEvent (freeSlot d i) code kind i (d.slot i).tag detail)) := by
  have side := freeSlot_side d i
  have told := (pushEvent_announces (freeSlot d i) hi code kind (d.slot i).tag detail).indexLine
  rw [freeSlot_gen, freeSlot_base, side.lastNo] at told
  exact ⟨(told.st hi).trans (freeSlot_st d i), side.event hi told⟩

end

/-! ## A job that is taken (R253, R255) -/

/-- The device whose job ring has given up its front entry. -/
def jobTaken (d : Dev) : Dev :=
  { d.rs (fCPL_RING_IDX_CONSUMER.at 0) (d.rg (fCPL_RING_IDX_CONSUMER.at 0) + 1) with cpl := { d.cpl with idxDirty := true } }

theorem jobTaken_rg {d : Dev} {g : Fld} (hg : g.key ≠ (fCPL_RING_IDX_CONSUMER.at 0).key) : (jobTaken d).rg g = d.rg g :=
  Dev.rg_rs_ne d hg _

theorem slotField_ne_consumer {i : Nat} {f : Fld} (hi : i < 16) (hf : f.off = 0x380100) (hs : f.s1 = 8) (hl : f.lo < 64) :
    (f.at i).key ≠ (fCPL_RING_IDX_CONSUMER.at 0).key := by
  simp only [Fld.at, Fld.key, hf, hs, fCPL_RING_IDX_CONSUMER]
  omega

theorem jobTaken_st (d : Dev) {i : Nat} (hi : i < 16) : slotSt (jobTaken d) i = slotSt d i :=
  jobTaken_rg (slotField_ne_consumer hi rfl rfl (by decide))

theorem jobTaken_gen (d : Dev) {i : Nat} (hi : i < 16) : slotGen (jobTaken d) i = slotGen d i :=
  jobTaken_rg (slotField_ne_consumer hi rfl rfl (by decide))

theorem jobTaken_base (d : Dev) {i : Nat} (hi : i < 16) : slotBase (jobTaken d) i = slotBase d i :=
  jobTaken_rg (slotField_ne_consumer hi rfl rfl (by decide))

theorem jobTaken_ringFree (d : Dev) : ringFree (jobTaken d) 2 = ringFree d 2 :=
  ringFree_congr fun f hf => jobTaken_rg (by
    revert f
    decide)

theorem jobV_padded {j : Job} (h : j.bytes.length = 128) : ({ j with bytes := padTo 128 (j.bytes.take 128) } : Job) = j := by
  have whole : padTo 128 (j.bytes.take 128) = j.bytes := by
    rw [List.take_of_length_le h.le, padTo, h]
    exact List.append_nil _
  rw [whole]

/-- With no step, event and job, every event entry is free. -/
theorem evFree_idle {d : Dev} (idle : d.steps.run = none) (events : d.steps.events = []) (jobs : d.steps.jobs = []) :
    evFree d = 64 := by
  unfold evFree stepEntries
  rw [events, idle, jobs]
  rfl

theorem evFree_pos {d : Dev} (idle : d.steps.run = none) (events : d.steps.events = []) (jobs : d.steps.jobs = []) :
    0 < evFree d := by
  rw [evFree_idle idle events jobs]
  decide

/-- A job taken while no step runs takes effect at once. -/
theorem jobTake_now {d : Dev} {j : Job} {i op : Nat} (h : TakesJob d j i) (hop : jobV j 0 1 = op) :
    jobTake d op j = indexLine (jobApply (jobTaken d) j) := by
  obtain ⟨-, firmware, enabled, filled, served, idle, events, jobs, -, whole, -⟩ := h
  have room : ¬ evFree d < 16 := by
    rw [evFree_idle idle events jobs]
    decide
  unfold jobTake
  simp only [hop, decide_true, Bool.true_or, Bool.not_true, enabled, filled, served, room, firmware, decide_false,
    Bool.or_self, ne_eq, not_true_eq_false, Bool.false_eq_true, if_false, jobV_padded whole, Dev.rs_steps, idle,
    Option.isSome_none]
  rfl

end Sys2Proof.Machine
end

section
/-! PROOFS. What each job makes of its slot, and the job that is refused (R251, R255, R256). -/

namespace Sys2Proof.Machine

/-! ## What a job comes to -/

section
variable {d : Dev} {j : Job}

theorem jobApply_open (valid : jobInvalid d j = 0) (op : jobV j 0 1 = 1) : jobApply d j =
    if slotSt d (jobV j 1 1) ≠ 0 then jobReject d j 0x0F01
    else if promptBad j 0 Slot.reset ≠ 0 then jobReject d j (promptBad j 0 Slot.reset) else jobOpen d j := by
  unfold jobApply
  simp only [valid, op, ne_eq, not_true_eq_false, if_false, if_true]

/-- A job of a slot in use names its generation. -/
theorem jobApply_stale (valid : jobInvalid d j = 0) (op : jobV j 0 1 ≠ 1) (used : slotSt d (jobV j 1 1) ≠ 0)
    (stale : slotGen d (jobV j 1 1) ≠ jobV j 8 4) : jobApply d j = jobReject d j 0x0F03 := by
  unfold jobApply
  simp only [valid, op, used, stale, ne_eq, not_true_eq_false, not_false_eq_true, and_self, if_false, if_true]

/-- Whether the slot of a job is FREE or has the generation that the job names. -/
def JobCurrent (d : Dev) (j : Job) : Prop := ¬ (slotSt d (jobV j 1 1) ≠ 0 ∧ slotGen d (jobV j 1 1) ≠ jobV j 8 4)

theorem jobApply_append (valid : jobInvalid d j = 0) (op : jobV j 0 1 = 2) (current : JobCurrent d j) : jobApply d j =
    if slotSt d (jobV j 1 1) ≠ 1 ∨ (d.slot (jobV j 1 1)).lastSeen then jobReject d j 0x0F02
    else if promptBad j (slotBase d (jobV j 1 1)) (d.slot (jobV j 1 1)) ≠ 0 then
      jobReject d j (promptBad j (slotBase d (jobV j 1 1)) (d.slot (jobV j 1 1)))
    else (stageTokens d j.staging (j.tokens.take (jobV j 12 4))).setSlot (jobV j 1 1) { d.slot (jobV j 1 1) with
      chunks := addChunk (d.slot (jobV j 1 1)).chunks ⟨j.staging, jobV j 12 4, jobFlag j 0⟩, lastSeen := jobFlag j 0 } := by
  unfold jobApply
  rw [if_neg (by rw [valid]; decide), if_neg (by rw [op]; decide), if_neg current, if_pos op]

theorem jobApply_cancel (valid : jobInvalid d j = 0) (op : jobV j 0 1 = 3) (current : JobCurrent d j) : jobApply d j =
    if slotSt d (jobV j 1 1) = 0 then jobReject d j 0x0F02 else raiseTrans d (.cancel (jobV j 1 1)) := by
  unfold jobApply
  rw [if_neg (by rw [valid]; decide), if_neg (by rw [op]; decide), if_neg current, if_neg (by rw [op]; decide), if_pos op]

theorem jobApply_resume (valid : jobInvalid d j = 0) (op : jobV j 0 1 = 4) (current : JobCurrent d j) : jobApply d j =
    if slotSt d (jobV j 1 1) = 4 then raiseTrans d (.resume (jobV j 1 1)) else jobReject d j 0x0F02 := by
  unfold jobApply
  rw [if_neg (by rw [valid]; decide), if_neg (by rw [op]; decide), if_neg current, if_neg (by rw [op]; decide),
    if_neg (by rw [op]; decide)]

end

/-! ## The tokens queued (R256) -/

/-- The tokens of a list of chunks. -/
def chunkTokens (cs : List Chunk) : Nat := cs.foldl (fun a c => a + c.left) 0

theorem chunkTokens_append (cs : List Chunk) (c : Chunk) : chunkTokens (cs ++ [c]) = chunkTokens cs + c.left := by
  rw [chunkTokens, List.foldl_append]
  rfl

theorem chunkTokens_addChunk (cs : List Chunk) (c : Chunk) : chunkTokens (addChunk cs c) = chunkTokens cs + c.left := by
  unfold addChunk
  split
  next x t empty _ back =>
    have front : cs = t.reverse ++ [x] := by rw [← List.reverse_cons, ← back, List.reverse_reverse]
    rw [List.reverse_cons, chunkTokens_append, front, chunkTokens_append, empty]
    rfl
  next empty _ => rw [empty]; rfl
  next => exact chunkTokens_append cs c

/-! ## OPEN (R251) -/

/-- The registers of slot `i` as OPEN leaves them. -/
def slotPrefill (d : Dev) (i : Nat) : Dev :=
  ((((d.rs (fSTP_SLOT_GEN.at i) (slotGen d i + 1)).rs (fSTP_SLOT_STATE.at i) 1).rs (fSTP_SLOT_BASE.at i) 0).rs
    (fSTP_SLOT_N.at i) 0).rs (fSTP_SLOT_PRIOR.at i) 0

/-- Slot `i` takes the next place in the order of OPENs. -/
def Dev.entered (d : Dev) (i : Nat) (x : Slot) : Dev :=
  { d.setSlot i x with steps := { (d.setSlot i x).steps with nextOrder := d.steps.nextOrder + 1 } }

/-- Slot `i` taken from FREE to PREFILL as `x`. -/
def slotOpened (d : Dev) (i : Nat) (x : Slot) : Dev := (slotPrefill d i).entered i x

/-- What the slot of an OPEN holds, besides its sampling and its guide. -/
structure SlotOpens (j : Job) (x : Slot) : Prop where
  queued : x.queued = jobV j 12 4
  tag : x.tag = jobV j 4 4
  maxNew : x.maxNew = jobV j 24 4
  seed : x.seed = jobV j 40 8
  emitted : x.emitted = 0

theorem foldl_gddr_only {α : Type} (l : List α) (f : Dev → α → List Host.Cell) (d : Dev) :
    l.foldl (fun d a => { d with gddr := f d a }) d =
      { d with gddr := (l.foldl (fun d a => { d with gddr := f d a }) d).gddr } :=
  List.foldlRecOn (motive := fun e : Dev => e = { d with gddr := e.gddr }) l _ rfl fun e he a _ => by rw [he]

theorem jobOpen_eq (d : Dev) (j : Job) : ∃ (m : List Host.Cell) (x : Slot), SlotOpens j x ∧
    jobOpen d j = pushEvent (slotOpened { d with gddr := m } (jobV j 1 1) x) 0 1 (jobV j 1 1) (jobV j 4 4) 0 := by
  have guided : (if jobFlag j 2 then
      stageTokens (stageTokens d j.staging (j.tokens.take (jobV j 12 4))) j.guideStaging (j.guide.take (jobV j 28 4))
      else stageTokens d j.staging (j.tokens.take (jobV j 12 4))) = { d with gddr := (if jobFlag j 2 then
      stageTokens (stageTokens d j.staging (j.tokens.take (jobV j 12 4))) j.guideStaging (j.guide.take (jobV j 28 4))
      else stageTokens d j.staging (j.tokens.take (jobV j 12 4))).gddr } := by
    split <;> rfl
  unfold jobOpen
  dsimp only
  rw [guided, foldl_gddr_only]
  refine ⟨_, _, ?_, rfl⟩
  exact ⟨(chunkTokens_addChunk [] _).trans (Nat.zero_add _), rfl, rfl, rfl, rfl⟩

end Sys2Proof.Machine
end

section
/-! PROOFS. The jobs on a slot, its waiting transitions, STP_CFG, the step abandoned, and the obligation (R251, R253 to R256,
R259, R268, R274). -/

namespace Sys2Proof.Machine

/-! ## The rows of the jobs (R253, R255) -/

/-- The front entry of the job ring has been taken. -/
def JobConsumed (o d : Dev) : Prop :=
  d.rg (fCPL_RING_IDX_CONSUMER.at 0) = (o.rg (fCPL_RING_IDX_CONSUMER.at 0) + 1) % 2 ^ 32

/-- The job of slot `i` has been taken and refused with `code`: no slot has changed, and its event has been raised. -/
def JobRejected (o : Dev) (j : Job) (i code : Nat) (e : Dev) : Prop :=
  JobConsumed o e ∧ e.steps.slots = o.steps.slots ∧
    (∀ k, k < 16 → slotSt e k = slotSt o k ∧ slotGen e k = slotGen o k ∧ slotBase e k = slotBase o k) ∧
    (ringFree o 2 = 0 → e.steps.events =
      [⟨eventRecord code 4 i (jobV j 4 4) (slotGen o i) (slotBase o i) o.steps.lastNo (jobV j 0 1)⟩])

theorem outsideTold_consumer : outsideTold (fCPL_RING_IDX_CONSUMER.at 0).key := by
  unfold outsideTold outsideFlit outsideRecord outsideBank
  decide

theorem jobConsumed_told {d e : Dev}
    (h : e.rg (fCPL_RING_IDX_CONSUMER.at 0) = (jobTaken d).rg (fCPL_RING_IDX_CONSUMER.at 0)) : JobConsumed d e :=
  h.trans (Dev.rg_rs_same d _ _)

theorem SlotEvent.consumed {d e : Dev} {i : Nat} {b : List Byte} (h : SlotEvent i (jobTaken d) b e) (hi : i < 16) :
    JobConsumed d e := jobConsumed_told (h.regs _ outsideTold_consumer (not_ofSlot_ring hi 0 (by decide)))

section
variable {s : State} {j : Job} {i : Nat}

theorem TakesJob.inside (h : TakesJob s.dev j i) : i < 16 := by
  obtain ⟨-, -, -, -, -, -, -, -, -, -, -, hi, -⟩ := h
  exact hi

theorem TakesJob.place (h : TakesJob s.dev j i) : jobV j 1 1 = i := by
  obtain ⟨-, -, -, -, -, -, -, -, -, -, place, -, -⟩ := h
  exact place

theorem TakesJob.events (h : TakesJob s.dev j i) : s.dev.steps.events = [] := by
  obtain ⟨-, -, -, -, -, -, events, -⟩ := h
  exact events

theorem TakesJob.valid (h : TakesJob s.dev j i) : jobInvalid (jobTaken s.dev) j = 0 := by
  obtain ⟨-, -, -, -, -, -, -, -, -, -, -, -, valid⟩ := h
  exact valid

/-- A transition raised while nothing waits for an event entry takes place at once. -/
theorem raiseTrans_now {d : Dev} (idle : d.steps.run = none) (events : d.steps.events = []) (jobs : d.steps.jobs = [])
    (waiting : d.steps.waiting = []) (t : Trans) : raiseTrans d t = transNow d t := by
  unfold raiseTrans
  simp only [waiting, List.contains_nil, Bool.false_eq_true, if_false, List.isEmpty_nil, evFree_pos idle events jobs,
    decide_true, Bool.and_self, if_true]

theorem TakesJob.raises (h : TakesJob s.dev j i) (t : Trans) : raiseTrans (jobTaken s.dev) t = transNow (jobTaken s.dev) t := by
  obtain ⟨-, -, -, -, -, idle, events, jobs, waiting, -⟩ := h
  exact raiseTrans_now (d := jobTaken s.dev) idle events jobs waiting t

/-- The row of a job, by what the job comes to. -/
theorem job_gives {c : Instr} {op : Nat} (row : exec c s = onDev s fun d => jobTake d op j) (h : TakesJob s.dev j i)
    (hop : jobV j 0 1 = op) {e : Dev} (he : jobApply (jobTaken s.dev) j = e) : Gives c s (indexLine e) := by
  obtain ⟨live, -⟩ := id h
  rw [Gives, row, onDev_live live, jobTake_now h hop, he]

theorem jobReject_rejected {o : Dev} (place : jobV j 1 1 = i) (hi : i < 16) (events : o.steps.events = []) (code : Nat) :
    JobRejected o j i code (indexLine (jobReject (jobTaken o) j code)) := by
  have told := (pushEvent_announces (jobTaken o) hi code 4 (jobV j 4 4) (jobV j 0 1)).indexLine
  have taken : (jobTaken o).steps = o.steps := rfl
  rw [jobTaken_gen o hi, jobTaken_base o hi, taken] at told
  rw [jobReject, place]
  generalize indexLine _ = e at told
  refine ⟨jobConsumed_told (told.regs _ outsideTold_consumer), by rw [told.steps, taken],
    fun k hk => ⟨(told.st hk).trans (jobTaken_st o hk), (told.gen hk).trans (jobTaken_gen o hk),
      (told.base hk).trans (jobTaken_base o hk)⟩, fun full => ?_⟩
  rw [told.events ((jobTaken_ringFree o).trans full), taken, events, List.nil_append]

theorem job_rejected {c : Instr} {op code : Nat} (row : exec c s = onDev s fun d => jobTake d op j) (h : TakesJob s.dev j i)
    (hop : jobV j 0 1 = op) (he : jobApply (jobTaken s.dev) j = jobReject (jobTaken s.dev) j code) :
    Completes c s (fun t => JobRejected s.dev j i code t.dev) := by
  have done := jobReject_rejected h.place h.inside h.events code
  have gives := job_gives row h hop he
  exact gives.completes done

theorem exec_open : exec (.open j) s = onDev s fun d => jobTake d 1 j := rfl
theorem exec_append : exec (.append j) s = onDev s fun d => jobTake d 2 j := rfl
theorem exec_cancel : exec (.cancel j) s = onDev s fun d => jobTake d 3 j := rfl
theorem exec_resume : exec (.resume j) s = onDev s fun d => jobTake d 4 j := rfl

/-! ## OPEN -/

theorem SlotSide.entered {o d : Dev} (h : SlotSide i o d) (x : Slot) : SlotSide i o (d.entered i x) :=
  h.trans ⟨fun _ _ => rfl, rfl, rfl, rfl⟩

theorem Dev.rg_entered (d : Dev) (i : Nat) (x : Slot) (g : Fld) : (d.entered i x).rg g = d.rg g := rfl

theorem Dev.slot_entered (d : Dev) (i : Nat) (x : Slot) : (d.entered i x).slot i = x := SMap.get_set_same _ _ _ _

theorem slotOpened_side (d : Dev) (m : List Host.Cell) (i : Nat) (x : Slot) :
    SlotSide i d (slotOpened { d with gddr := m } i x) := by
  have pages : SlotSide i d { d with gddr := m } := ⟨fun _ _ => rfl, rfl, rfl, rfl⟩
  exact (((((pages.rs rfl rfl (by decide) _).setSt 1).rs rfl rfl (by decide) 0).rs rfl rfl (by decide) 0).rs rfl rfl
    (by decide) 0).entered x

theorem rg_rs_slot_ne (f g : Fld) (d : Dev) (i v : Nat) (h : g.off = f.off ∧ g.s1 = f.s1 ∧ g.lo ≠ f.lo) :
    (d.rs (f.at i) v).rg (g.at i) = d.rg (g.at i) := by
  obtain ⟨off, stride, low⟩ := h
  exact Dev.rg_rs_ne d (slotField_ne_at off stride low i) v

theorem slotPrefill_regs (d : Dev) (i : Nat) : slotSt (slotPrefill d i) i = 1 ∧
    slotGen (slotPrefill d i) i = (slotGen d i + 1) % 2 ^ 32 ∧ slotBase (slotPrefill d i) i = 0 := by
  unfold slotPrefill slotSt slotBase
  generalize slotGen d i + 1 = n
  refine ⟨?_, ?_, ?_⟩
  · rw [rg_rs_slot_ne fSTP_SLOT_PRIOR fSTP_SLOT_STATE _ i 0 (by decide),
      rg_rs_slot_ne fSTP_SLOT_N fSTP_SLOT_STATE _ i 0 (by decide),
      rg_rs_slot_ne fSTP_SLOT_BASE fSTP_SLOT_STATE _ i 0 (by decide), Dev.rg_rs_same]
    rfl
  · rw [slotGen, rg_rs_slot_ne fSTP_SLOT_PRIOR fSTP_SLOT_GEN _ i 0 (by decide),
      rg_rs_slot_ne fSTP_SLOT_N fSTP_SLOT_GEN _ i 0 (by decide),
      rg_rs_slot_ne fSTP_SLOT_BASE fSTP_SLOT_GEN _ i 0 (by decide),
      rg_rs_slot_ne fSTP_SLOT_STATE fSTP_SLOT_GEN _ i 1 (by decide), Dev.rg_rs_same]
    rfl
  · rw [rg_rs_slot_ne fSTP_SLOT_PRIOR fSTP_SLOT_BASE _ i 0 (by decide),
      rg_rs_slot_ne fSTP_SLOT_N fSTP_SLOT_BASE _ i 0 (by decide), Dev.rg_rs_same]
    rfl

theorem slotOpened_regs (d : Dev) (i : Nat) (x : Slot) : slotSt (slotOpened d i x) i = 1 ∧
    slotGen (slotOpened d i x) i = (slotGen d i + 1) % 2 ^ 32 ∧ slotBase (slotOpened d i x) i = 0 := by
  have regs := slotPrefill_regs d i
  simpa only [slotOpened, slotSt, slotGen, slotBase, Dev.rg_entered] using regs

/-- A valid prompt has at most 2^20 tokens. -/
theorem jobInvalid_prompt {d : Dev} (valid : jobInvalid d j = 0) (op : jobV j 0 1 = 1) : jobV j 12 4 ≤ 2 ^ 20 := by
  by_contra long
  unfold jobInvalid at valid
  simp only [op, Nat.not_le.mp long] at valid
  simp at valid

theorem promptBad_open {d : Dev} (valid : jobInvalid d j = 0) (op : jobV j 0 1 = 1) :
    promptBad j 0 Slot.reset = if j.readErr then 0x0F11 else 0 := by
  have short := jobInvalid_prompt valid op
  have queued : Slot.reset.queued = 0 := rfl
  rw [promptBad, queued, if_neg (by omega)]

/-- What OPEN makes of slot `i`. -/
def SlotTaken (o : Dev) (j : Job) (i : Nat) (e : Dev) : Prop :=
  JobConsumed o e ∧ slotSt e i = 1 ∧ slotGen e i = (slotGen o i + 1) % 2 ^ 32 ∧ slotBase e i = 0 ∧
    (e.slot i).queued = jobV j 12 4 ∧ (e.slot i).tag = jobV j 4 4 ∧ (e.slot i).maxNew = jobV j 24 4 ∧
    (e.slot i).seed = jobV j 40 8 ∧ (e.slot i).emitted = 0 ∧
    (ringFree o 2 = 0 → e.steps.events =
      [⟨eventRecord 0 1 i (jobV j 4 4) ((slotGen o i + 1) % 2 ^ 32) 0 o.steps.lastNo 0⟩])

theorem slotTaken_opened {o : Dev} {x : Slot} (hi : i < 16) (m : List Host.Cell) (events : o.steps.events = [])
    (opens : SlotOpens j x) : SlotTaken o j i
      (indexLine (pushEvent (slotOpened { jobTaken o with gddr := m } i x) 0 1 i (jobV j 4 4) 0)) := by
  have told := (pushEvent_announces (slotOpened { jobTaken o with gddr := m } i x) hi 0 1 (jobV j 4 4) 0).indexLine
  obtain ⟨st, gen, base⟩ := slotOpened_regs { jobTaken o with gddr := m } i x
  have side := slotOpened_side (jobTaken o) m i x
  have slot := Dev.slot_entered (slotPrefill { jobTaken o with gddr := m } i) i x
  have before : slotGen { jobTaken o with gddr := m } i = slotGen o i := jobTaken_gen o hi
  have lastNo : (jobTaken o).steps.lastNo = o.steps.lastNo := rfl
  have quiet : (jobTaken o).steps.events = [] := events
  rw [before] at gen
  rw [← slotOpened] at slot
  generalize slotOpened { jobTaken o with gddr := m } i x = a at told st gen base side slot
  rw [gen, base, side.lastNo, lastNo] at told
  have event := side.event hi told
  generalize indexLine _ = e at told event
  obtain ⟨queued, tag, maxNew, seed, emitted⟩ := opens
  refine ⟨event.consumed hi, (told.st hi).trans st, (told.gen hi).trans gen, (told.base hi).trans base, ?_⟩
  rw [told.slot i, slot]
  refine ⟨queued, tag, maxNew, seed, emitted, fun full => ?_⟩
  rw [event.events ((jobTaken_ringFree o).trans full), quiet, List.nil_append]

theorem open_applied (h : TakesJob s.dev j i) (op : jobV j 0 1 = 1) (free : slotSt s.dev i = 0) (read : j.readErr = false) :
    jobApply (jobTaken s.dev) j = jobOpen (jobTaken s.dev) j := by
  rw [jobApply_open h.valid op, h.place, jobTaken_st s.dev h.inside, free, if_neg (fun n => n rfl),
    promptBad_open h.valid op, read, if_neg Bool.false_ne_true, if_neg (fun n => n rfl)]

theorem open_completes (h : TakesJob s.dev j i) (op : jobV j 0 1 = 1) (free : slotSt s.dev i = 0) (read : j.readErr = false) :
    Completes (.open j) s (fun t => SlotTaken s.dev j i t.dev) := by
  obtain ⟨m, x, opens, opened⟩ := jobOpen_eq (jobTaken s.dev) j
  rw [h.place] at opened
  have applied := (open_applied h op free read).trans opened
  have done := slotTaken_opened h.inside m h.events opens
  generalize slotOpened { jobTaken s.dev with gddr := m } i x = y at applied done
  have gives := job_gives exec_open h op applied
  exact gives.completes done

theorem open_refused (h : TakesJob s.dev j i) (op : jobV j 0 1 = 1) :
    (slotSt s.dev i = 0 → j.readErr = true → Completes (.open j) s (fun t => JobRejected s.dev j i 0x0F11 t.dev)) ∧
      (slotSt s.dev i ≠ 0 → Completes (.open j) s (fun t => JobRejected s.dev j i 0x0F01 t.dev)) := by
  have hi := h.inside
  refine ⟨fun free err => job_rejected exec_open h op ?_, fun used => job_rejected exec_open h op ?_⟩
  · rw [jobApply_open h.valid op, h.place, jobTaken_st s.dev hi, free, if_neg (fun n => n rfl), promptBad_open h.valid op, err,
      if_pos rfl, if_pos (by decide)]
  · rw [jobApply_open h.valid op, h.place, jobTaken_st s.dev hi, if_pos used]

/-! ## APPEND -/

/-- A job that names the generation of its slot. -/
theorem TakesJob.current (h : TakesJob s.dev j i) (gen : slotGen s.dev i = jobV j 8 4) : JobCurrent (jobTaken s.dev) j := by
  rw [JobCurrent, h.place, jobTaken_gen s.dev h.inside]
  exact fun stale => stale.2 gen

/-- A job on a FREE slot. -/
theorem TakesJob.current_free (h : TakesJob s.dev j i) (free : slotSt s.dev i = 0) : JobCurrent (jobTaken s.dev) j := by
  rw [JobCurrent, h.place, jobTaken_st s.dev h.inside]
  exact fun stale => stale.1 free

theorem TakesJob.append (h : TakesJob s.dev j i) (op : jobV j 0 1 = 2) (gen : slotGen s.dev i = jobV j 8 4) :
    jobApply (jobTaken s.dev) j = if slotSt s.dev i ≠ 1 ∨ (s.dev.slot i).lastSeen then jobReject (jobTaken s.dev) j 0x0F02
      else if promptBad j (slotBase s.dev i) (s.dev.slot i) ≠ 0 then
        jobReject (jobTaken s.dev) j (promptBad j (slotBase s.dev i) (s.dev.slot i))
      else (stageTokens (jobTaken s.dev) j.staging (j.tokens.take (jobV j 12 4))).setSlot i { s.dev.slot i with
        chunks := addChunk (s.dev.slot i).chunks ⟨j.staging, jobV j 12 4, jobFlag j 0⟩, lastSeen := jobFlag j 0 } := by
  rw [jobApply_append h.valid op (h.current gen), h.place, jobTaken_st s.dev h.inside, jobTaken_base s.dev h.inside]
  rfl

/-- A slot with the chunk of a job behind its own. -/
def Slot.chunked (x : Slot) (j : Job) : Slot :=
  { x with chunks := addChunk x.chunks ⟨j.staging, jobV j 12 4, jobFlag j 0⟩, lastSeen := jobFlag j 0 }

/-- What APPEND makes of slot `i`. -/
def SlotAppended (o : Dev) (j : Job) (i : Nat) (e : Dev) : Prop :=
  JobConsumed o e ∧ slotSt e i = 1 ∧ slotBase e i = slotBase o i ∧ (e.slot i).queued = (o.slot i).queued + jobV j 12 4 ∧
    (e.slot i).lastSeen = jobFlag j 0

theorem slotAppended_chunked {o : Dev} (hi : i < 16) (prefill : slotSt o i = 1) (ts : List Nat) : SlotAppended o j i
    (indexLine ((stageTokens (jobTaken o) j.staging ts).setSlot i ((o.slot i).chunked j))) := by
  have told := (Told.refl ((stageTokens (jobTaken o) j.staging ts).setSlot i ((o.slot i).chunked j))).indexLine
  generalize indexLine _ = e at told
  have slot : e.slot i = (o.slot i).chunked j := by
    rw [Dev.slot, told.steps]
    exact SMap.get_set_same _ _ _ _
  rw [SlotAppended, slot]
  exact ⟨jobConsumed_told (told.regs _ outsideTold_consumer),
    (told.regs _ (outsideTold_slot hi rfl rfl (by decide))).trans ((jobTaken_st o hi).trans prefill),
    (told.regs _ (outsideTold_slot hi rfl rfl (by decide))).trans (jobTaken_base o hi), chunkTokens_addChunk _ _, rfl⟩

theorem append_completes (h : TakesJob s.dev j i) (op : jobV j 0 1 = 2) (prefill : slotSt s.dev i = 1)
    (gen : slotGen s.dev i = jobV j 8 4) (more : (s.dev.slot i).lastSeen = false)
    (room : slotBase s.dev i + (s.dev.slot i).queued + jobV j 12 4 ≤ 2 ^ 20) (read : j.readErr = false) :
    Completes (.append j) s (fun t => SlotAppended s.dev j i t.dev) := by
  have good : promptBad j (slotBase s.dev i) (s.dev.slot i) = 0 := by
    rw [promptBad, if_neg (by omega), read, if_neg Bool.false_ne_true]
  have applied := h.append op gen
  rw [if_neg (by simp [prefill, more]), good, if_neg (fun n => n rfl)] at applied
  have done := slotAppended_chunked (j := j) h.inside prefill (j.tokens.take (jobV j 12 4))
  have gives := job_gives exec_append h op applied
  exact gives.completes done

theorem append_long (h : TakesJob s.dev j i) (op : jobV j 0 1 = 2) (prefill : slotSt s.dev i = 1)
    (gen : slotGen s.dev i = jobV j 8 4) (more : (s.dev.slot i).lastSeen = false)
    (long : 2 ^ 20 < slotBase s.dev i + (s.dev.slot i).queued + jobV j 12 4) :
    Completes (.append j) s (fun t => JobRejected s.dev j i 0x0F10 t.dev) := by
  have bad : promptBad j (slotBase s.dev i) (s.dev.slot i) = 0x0F10 := if_pos long
  have applied := h.append op gen
  rw [if_neg (by simp [prefill, more]), bad, if_pos (by decide)] at applied
  exact job_rejected exec_append h op applied

/-- A slot that takes no more prompt. -/
theorem append_closed (h : TakesJob s.dev j i) (op : jobV j 0 1 = 2) (gen : slotGen s.dev i = jobV j 8 4)
    (closed : slotSt s.dev i ≠ 1 ∨ (s.dev.slot i).lastSeen = true) :
    Completes (.append j) s (fun t => JobRejected s.dev j i 0x0F02 t.dev) :=
  job_rejected exec_append h op ((h.append op gen).trans (if_pos closed))

/-! ## CANCEL and RESUME -/

theorem cancel_completes (h : TakesJob s.dev j i) (op : jobV j 0 1 = 3) (used : slotSt s.dev i ≠ 0)
    (gen : slotGen s.dev i = jobV j 8 4) : Completes (.cancel j) s (fun t => JobConsumed s.dev t.dev ∧ slotSt t.dev i = 0 ∧
      (ringFree s.dev 2 = 0 → t.dev.steps.events =
        [⟨eventRecord 0 3 i (s.dev.slot i).tag (slotGen s.dev i) (slotBase s.dev i) s.dev.steps.lastNo 3⟩])) := by
  have hi := h.inside
  have applied := jobApply_cancel h.valid op (h.current gen)
  have ended : transNow (jobTaken s.dev) (.cancel i) =
      pushEvent (freeSlot (jobTaken s.dev) i) 0 3 i ((jobTaken s.dev).slot i).tag 3 :=
    if_neg (by rw [jobTaken_st s.dev hi]; exact used)
  rw [h.place, jobTaken_st s.dev hi, if_neg used, h.raises, ended] at applied
  obtain ⟨st, event⟩ := freeSlot_event (jobTaken s.dev) hi 0 3 3
  have gives := job_gives exec_cancel h op applied
  generalize indexLine _ = e at gives st event
  refine gives.completes ⟨event.consumed hi, st, fun full => ?_⟩
  have events := event.events ((jobTaken_ringFree s.dev).trans full)
  rw [jobTaken_gen s.dev hi, jobTaken_base s.dev hi, show (jobTaken s.dev).steps = s.dev.steps from rfl, h.events] at events
  exact events

/-- A PARKED slot back in its former state. -/
def slotResumed (d : Dev) (i : Nat) : Dev :=
  (setSlotSt d i (d.rg (fSTP_SLOT_PRIOR.at i))).setSlot i { d.slot i with hold := none }

theorem transNow_resume {d : Dev} (parked : slotSt d i = 4) :
    transNow d (.resume i) = pushEvent (slotResumed d i) 0 6 i (d.slot i).tag 0 := if_neg (fun n => n parked)

/-- What RESUME makes of slot `i`. -/
def SlotBack (o : Dev) (i : Nat) (e : Dev) : Prop :=
  JobConsumed o e ∧ slotSt e i = o.rg (fSTP_SLOT_PRIOR.at i) ∧ (e.slot i).hold = none ∧
    (ringFree o 2 = 0 → e.steps.events =
      [⟨eventRecord 0 6 i (o.slot i).tag (slotGen o i) (slotBase o i) o.steps.lastNo 0⟩])

theorem slotBack_resumed {o : Dev} (hi : i < 16) (prior : o.rg (fSTP_SLOT_PRIOR.at i) < 4) (events : o.steps.events = []) :
    SlotBack o i (indexLine (pushEvent (slotResumed (jobTaken o) i) 0 6 i ((jobTaken o).slot i).tag 0)) := by
  have told := (pushEvent_announces (slotResumed (jobTaken o) i) hi 0 6 ((jobTaken o).slot i).tag 0).indexLine
  have side : SlotSide i (jobTaken o) (slotResumed (jobTaken o) i) := ((SlotSide.refl i _).setSt _).setSlot _
  have was : (jobTaken o).rg (fSTP_SLOT_PRIOR.at i) = o.rg (fSTP_SLOT_PRIOR.at i) :=
    jobTaken_rg (slotField_ne_consumer hi rfl rfl (by decide))
  have st : slotSt (slotResumed (jobTaken o) i) i = o.rg (fSTP_SLOT_PRIOR.at i) :=
    (Dev.rg_rs_same _ _ _).trans ((Nat.mod_eq_of_lt (by rw [was]; exact Nat.lt_trans prior (show 4 < 2 ^ 3 by decide))).trans was)
  have gen : slotGen (slotResumed (jobTaken o) i) i = slotGen o i :=
    (rg_rs_slot_ne fSTP_SLOT_STATE fSTP_SLOT_GEN _ i _ (by decide)).trans (jobTaken_gen o hi)
  have base : slotBase (slotResumed (jobTaken o) i) i = slotBase o i :=
    (rg_rs_slot_ne fSTP_SLOT_STATE fSTP_SLOT_BASE _ i _ (by decide)).trans (jobTaken_base o hi)
  have slot : (slotResumed (jobTaken o) i).slot i = { o.slot i with hold := none } := SMap.get_set_same _ _ _ _
  have former : (jobTaken o).slot i = o.slot i := rfl
  have lastNo : (jobTaken o).steps.lastNo = o.steps.lastNo := rfl
  have quiet : (jobTaken o).steps.events = [] := events
  generalize slotResumed (jobTaken o) i = a at told side st gen base slot
  rw [gen, base, side.lastNo, lastNo, former] at told
  have event := side.event hi told
  rw [former]
  generalize indexLine _ = e at told event
  refine ⟨event.consumed hi, (told.st hi).trans st, by rw [told.slot i, slot], fun full => ?_⟩
  rw [event.events ((jobTaken_ringFree o).trans full), quiet, List.nil_append]

theorem resume_completes (h : TakesJob s.dev j i) (op : jobV j 0 1 = 4) (gen : slotGen s.dev i = jobV j 8 4)
    (parked : slotSt s.dev i = 4) (prior : s.dev.rg (fSTP_SLOT_PRIOR.at i) < 4) :
    Completes (.resume j) s (fun t => SlotBack s.dev i t.dev) := by
  have still : slotSt (jobTaken s.dev) i = 4 := (jobTaken_st s.dev h.inside).trans parked
  have applied := jobApply_resume h.valid op (h.current gen)
  rw [h.place, if_pos still, h.raises, transNow_resume still] at applied
  have done := slotBack_resumed h.inside prior h.events
  generalize pushEvent _ 0 6 i _ 0 = e at applied done
  have gives := job_gives exec_resume h op applied
  exact gives.completes done

theorem cancel_free (h : TakesJob s.dev j i) (op : jobV j 0 1 = 3) (free : slotSt s.dev i = 0) :
    Completes (.cancel j) s (fun t => JobRejected s.dev j i 0x0F02 t.dev) :=
  job_rejected exec_cancel h op (by
    rw [jobApply_cancel h.valid op (h.current_free free), h.place, jobTaken_st s.dev h.inside, if_pos free])

theorem resume_refused (h : TakesJob s.dev j i) (op : jobV j 0 1 = 4) (gen : slotGen s.dev i = jobV j 8 4)
    (other : slotSt s.dev i ≠ 4) : Completes (.resume j) s (fun t => JobRejected s.dev j i 0x0F02 t.dev) :=
  job_rejected exec_resume h op (by
    rw [jobApply_resume h.valid op (h.current gen), h.place, jobTaken_st s.dev h.inside, if_neg other])

/-- A job that names another generation of a slot in use. -/
theorem stale_refused {c : Instr} {op : Nat} (row : exec c s = onDev s fun d => jobTake d op j) (h : TakesJob s.dev j i)
    (hop : jobV j 0 1 = op) (later : op ≠ 1) (used : slotSt s.dev i ≠ 0) (stale : slotGen s.dev i ≠ jobV j 8 4) :
    Completes c s (fun t => JobRejected s.dev j i 0x0F03 t.dev) :=
  job_rejected row h hop (jobApply_stale h.valid (by rw [hop]; exact later)
    (by rw [h.place, jobTaken_st s.dev h.inside]; exact used) (by rw [h.place, jobTaken_gen s.dev h.inside]; exact stale))

end

end Sys2Proof.Machine
end

section
/-! PROOFS. The waiting transitions of a slot, STP_CFG, the step abandoned, and the jobs of a slot together (R253, R268, R274). -/

namespace Sys2Proof.Machine

/-! ## Transitions that wait (R253, R367) -/

section
variable {s : State} {i : Nat}

theorem exec_slotEventRaise (s : State) : exec .slotEventRaise s = onDev s fun d => match d.steps.waiting with
    | t :: w => if 0 < evFree d then indexLine (transNow { d with steps := { d.steps with waiting := w } } t) else d
    | [] => d := rfl

theorem exec_holdTimerExpiry (s : State) (i : Nat) : exec (.holdTimerExpiry i) s = onDev s fun d =>
    if i < 16 ∧ slotSt d i = 4 ∧ (d.slot i).hold.isSome then indexLine (raiseTrans d (.evict i)) else d := rfl

theorem transNow_evict {d : Dev} (parked : slotSt d i = 4) :
    transNow d (.evict i) = pushEvent (freeSlot d i) 0x0F31 7 i (d.slot i).tag 0 := if_neg (fun n => n parked)

/-- The device with these transitions left to wait. -/
def Dev.leftWaiting (d : Dev) (w : List Trans) : Dev := { d with steps := { d.steps with waiting := w } }

theorem slotEventRaise_evicts {w : List Trans} (live : Live s) (hi : i < 16) (idle : s.dev.steps.run = none)
    (events : s.dev.steps.events = []) (jobs : s.dev.steps.jobs = []) (parked : slotSt s.dev i = 4)
    (waiting : s.dev.steps.waiting = .evict i :: w) :
    Completes .slotEventRaise s (fun t => slotSt t.dev i = 0 ∧ t.dev.steps.waiting = w) := by
  have still : slotSt (s.dev.leftWaiting w) i = 4 := parked
  have gives : Gives .slotEventRaise s (indexLine (transNow (s.dev.leftWaiting w) (.evict i))) := by
    rw [Gives, exec_slotEventRaise, onDev_live live, waiting]
    dsimp only
    rw [if_pos (evFree_pos idle events jobs)]
    rfl
  rw [transNow_evict still] at gives
  obtain ⟨st, event⟩ := freeSlot_event (s.dev.leftWaiting w) hi 0x0F31 7 0
  generalize indexLine _ = e at gives st event
  exact gives.completes ⟨st, event.waiting⟩

theorem holdTimerExpiry_evicts (live : Live s) (hi : i < 16) (idle : s.dev.steps.run = none)
    (events : s.dev.steps.events = []) (jobs : s.dev.steps.jobs = []) (parked : slotSt s.dev i = 4)
    (waiting : s.dev.steps.waiting = []) (held : (s.dev.slot i).hold.isSome = true) :
    Completes (.holdTimerExpiry i) s (fun t => slotSt t.dev i = 0 ∧ t.dev.steps.waiting = [] ∧
      (ringFree s.dev 2 = 0 → t.dev.steps.events =
        [⟨eventRecord 0x0F31 7 i (s.dev.slot i).tag (slotGen s.dev i) (slotBase s.dev i) s.dev.steps.lastNo 0⟩])) := by
  have gives : Gives (.holdTimerExpiry i) s (indexLine (pushEvent (freeSlot s.dev i) 0x0F31 7 i (s.dev.slot i).tag 0)) := by
    rw [Gives, exec_holdTimerExpiry, onDev_live live, if_pos ⟨hi, parked, held⟩, raiseTrans_now idle events jobs waiting,
      transNow_evict parked]
  obtain ⟨st, event⟩ := freeSlot_event s.dev hi 0x0F31 7 0
  generalize indexLine _ = e at gives st event
  refine gives.completes ⟨st, event.waiting.trans waiting, fun full => ?_⟩
  have raised := event.events full
  rw [events] at raised
  exact raised

/-! ## STP_CFG (R274) -/

theorem exec_stpCfgWrite (s : State) (data : Nat) : exec (.stpCfgWrite data) s = onDev s fun d => stpCfgWrite d data := rfl

theorem bitsOf_lt (n lo w : Nat) : bitsOf n lo w < 2 ^ w := Nat.mod_lt _ (Nat.two_pow_pos w)

theorem stpCfgApply_rows (d : Dev) (data : Nat) : (stpCfgApply d data).rg fSTP_CFG_PREFILL_ROWS = bitsOf data 16 16 := by
  have put : (d.rs fSTP_CFG_PREFILL_ROWS (bitsOf data 16 16)).rg fSTP_CFG_PREFILL_ROWS = bitsOf data 16 16 :=
    (Dev.rg_rs_same _ _ _).trans (Nat.mod_eq_of_lt (bitsOf_lt data 16 16))
  unfold stpCfgApply
  dsimp only
  split
  · exact put
  · rw [Dev.rg_rs_ne _ (by decide), put]

theorem stpCfgApply_taken (d : Dev) {data : Nat} (legal : bitsOf data 0 9 ≤ 256) :
    (stpCfgApply d data).rg fSTP_CFG_SIEVE_P = bitsOf data 0 9 ∧
      OnlyRegs [fSTP_CFG_SIEVE_P, fSTP_CFG_PREFILL_ROWS] d (stpCfgApply d data) := by
  have applied : stpCfgApply d data = (d.rs fSTP_CFG_PREFILL_ROWS (bitsOf data 16 16)).rs fSTP_CFG_SIEVE_P (bitsOf data 0 9) :=
    if_neg (Nat.not_lt.mpr legal)
  rw [applied]
  refine ⟨(Dev.rg_rs_same _ _ _).trans (Nat.mod_eq_of_lt (bitsOf_lt data 0 9)), rfl, fun g hg => ?_⟩
  rw [List.map_cons, List.map_singleton, List.mem_pair, not_or] at hg
  obtain ⟨sieve, rows⟩ := hg
  rw [Dev.rg_rs_ne _ sieve, Dev.rg_rs_ne _ rows]

theorem stpCfgApply_refused (d : Dev) {data : Nat} (bad : 256 < bitsOf data 0 9) :
    stpCfgApply d data = d.rs fSTP_CFG_PREFILL_ROWS (bitsOf data 16 16) := if_pos bad

theorem stpCfgWrite_gives {data : Nat} (live : Live s) {e : Dev} (he : stpCfgWrite s.dev data = e) :
    Gives (.stpCfgWrite data) s e := by
  rw [Gives, exec_stpCfgWrite, onDev_live live, he]

theorem stpCfgWrite_takes {data : Nat} (live : Live s) (idle : s.dev.steps.run = none) (legal : bitsOf data 0 9 ≤ 256) :
    Completes (.stpCfgWrite data) s (fun t => t.dev.rg fSTP_CFG_SIEVE_P = bitsOf data 0 9 ∧
      t.dev.rg fSTP_CFG_PREFILL_ROWS = bitsOf data 16 16 ∧
      OnlyRegs [fSTP_CFG_SIEVE_P, fSTP_CFG_PREFILL_ROWS] s.dev t.dev) := by
  have written : stpCfgWrite s.dev data = stpCfgApply s.dev data := by
    unfold stpCfgWrite
    rw [if_neg (Nat.not_lt.mpr legal)]
    exact if_neg (by rw [idle]; exact Bool.false_ne_true)
  obtain ⟨sieve, only⟩ := stpCfgApply_taken s.dev legal
  exact (stpCfgWrite_gives live written).completes ⟨sieve, stpCfgApply_rows s.dev data, only⟩

/-- The registers of the step unit, at 0x380000 to 0x380180, are not what recording a code changes. -/
theorem recordErr_rg_step (d : Dev) (k i c : Nat) {g : Fld} (hg : 0x380000 * 64 ≤ g.key ∧ g.key < 0x380180 * 64) :
    (recordErr d k i c).rg g = d.rg g := by
  obtain ⟨low, high⟩ := hg
  refine recordErr_rg d k i c g ?_ fun b => ?_
  · unfold outsideRecord
    omega
  · unfold outsideBank bankOffset
    split_ifs <;> omega

theorem recordErr_steps (d : Dev) (k i c : Nat) : (recordErr d k i c).steps = d.steps := by rw [(RegsOnly.recordErr d k i c).1]

theorem stpCfgWrite_blocks {data : Nat} (live : Live s) (idle : s.dev.steps.run = none) (bad : 256 < bitsOf data 0 9) :
    Completes (.stpCfgWrite data) s (fun t => t.dev.rg fSTP_CFG_SIEVE_P = s.dev.rg fSTP_CFG_SIEVE_P ∧
      t.dev.rg fSTP_CFG_PREFILL_ROWS = bitsOf data 16 16 ∧ SawClass 15 t.dev) := by
  have written : stpCfgWrite s.dev data = stpCfgApply (recordErr s.dev 12 0x7FF 0x0F04) data := by
    unfold stpCfgWrite
    rw [if_pos bad]
    exact if_neg (by rw [recordErr_steps, idle]; exact Bool.false_ne_true)
  have sieve : (stpCfgApply (recordErr s.dev 12 0x7FF 0x0F04) data).rg fSTP_CFG_SIEVE_P = s.dev.rg fSTP_CFG_SIEVE_P := by
    rw [stpCfgApply_refused _ bad, Dev.rg_rs_ne _ (by decide), recordErr_rg_step _ _ _ _ (by decide)]
  have seen : SawClass 15 (stpCfgApply (recordErr s.dev 12 0x7FF 0x0F04) data) := by
    rw [stpCfgApply_refused _ bad]
    exact (recordErr_sawClass s.dev 12 0x7FF (by decide) (by decide)).rs _ _ (by decide)
  exact (stpCfgWrite_gives live written).completes ⟨sieve, stpCfgApply_rows _ data, seen⟩

theorem stpCfgWrite_waits {data : Nat} (live : Live s) (running : s.dev.steps.run ≠ none) (legal : bitsOf data 0 9 ≤ 256) :
    Gives (.stpCfgWrite data) s { s.dev with steps := { s.dev.steps with cfgWait := some data } } := by
  refine stpCfgWrite_gives live ?_
  unfold stpCfgWrite
  rw [if_neg (Nat.not_lt.mpr legal)]
  exact if_pos (Option.isSome_iff_ne_none.mpr running)

/-! ## STEP_ABANDON (R268) -/

theorem exec_stepAbandon (s : State) : exec .stepAbandon s = onDev s fun d => stepAbandon d true := rfl

/-- The device whose running step `r` has been abandoned, before the step is set to run again. -/
def abandonCounted (d : Dev) : Dev := ((recordErr d 12 0x7FF 0x0F20).count fSTP_CNT_ABANDONED 1).rs fSTP_STATUS_ROWS 0

theorem abandonCounted_rg (d : Dev) {g : Fld} (hg : 0x380000 * 64 ≤ g.key ∧ g.key < 0x380180 * 64)
    (count : g.key ≠ fSTP_CNT_ABANDONED.key) (rows : g.key ≠ fSTP_STATUS_ROWS.key) : (abandonCounted d).rg g = d.rg g := by
  rw [abandonCounted, Dev.rg_rs_ne _ rows, Dev.rg_count_ne _ count, recordErr_rg_step d _ _ _ hg]

theorem abandonCounted_count (d : Dev) (h : d.rg fSTP_CNT_ABANDONED < 65535) :
    (abandonCounted d).rg fSTP_CNT_ABANDONED = d.rg fSTP_CNT_ABANDONED + 1 := by
  rw [abandonCounted, Dev.rg_rs_ne _ (by decide), Dev.rg_count_same, recordErr_rg_step d _ _ _ (by decide),
    show fSTP_CNT_ABANDONED.w = 16 from rfl, satAdd]
  omega

theorem abandonCounted_sawClass (d : Dev) : SawClass 15 (abandonCounted d) :=
  ((recordErr_sawClass d 12 0x7FF (c := 0x0F20) (by decide) (by decide)).rs fSTP_CNT_ABANDONED _ (by decide)).rs _ _ (by decide)

theorem abandonCounted_slot (d : Dev) {k : Nat} (hk : k < 16) :
    slotSt (abandonCounted d) k = slotSt d k ∧ slotBase (abandonCounted d) k = slotBase d k := by
  have field (f : Fld) (hf : f.off = 0x380100) (hs : f.s1 = 8) (hl : f.lo < 64) :
      (abandonCounted d).rg (f.at k) = d.rg (f.at k) := by
    refine abandonCounted_rg d ?_ (slotField_ne hf hs hl (show fSTP_CNT_ABANDONED.off < _ by decide) (by decide) k).symm
      (slotField_ne hf hs hl (show fSTP_STATUS_ROWS.off < _ by decide) (by decide) k).symm
    simp only [Fld.at, Fld.key, hf, hs]
    omega
  exact ⟨field fSTP_SLOT_STATE rfl rfl (by decide), field fSTP_SLOT_BASE rfl rfl (by decide)⟩

theorem abandonCounted_steps (d : Dev) : (abandonCounted d).steps = d.steps := by
  rw [abandonCounted, Dev.rs_steps, Dev.count_steps, recordErr_steps]

theorem stepAbandon_completes {r : StepRun} (live : Live s) (run : s.dev.steps.run = some r) (first : r.again = false) :
    Completes .stepAbandon s (fun t =>
      t.dev.steps = { s.dev.steps with run := some { r with again := true, opened := [], noSpace := [] } } ∧
      t.dev.rg fSTP_STATUS_ROWS = 0 ∧ SawClass 15 t.dev ∧
      (s.dev.rg fSTP_CNT_ABANDONED < 65535 → t.dev.rg fSTP_CNT_ABANDONED = s.dev.rg fSTP_CNT_ABANDONED + 1) ∧
      ∀ k, k < 16 → slotSt t.dev k = slotSt s.dev k ∧ slotBase t.dev k = slotBase s.dev k) := by
  have gives : Gives .stepAbandon s { abandonCounted s.dev with steps := { (abandonCounted s.dev).steps with
      run := some { r with again := true, opened := [], noSpace := [] } } } := by
    rw [Gives, exec_stepAbandon, onDev_live live, stepAbandon, run]
    dsimp only
    rw [if_neg (by rw [first]; exact Bool.false_ne_true), if_pos rfl]
    rfl
  have rows : (abandonCounted s.dev).rg fSTP_STATUS_ROWS = 0 := Dev.rg_rs_same _ _ 0
  have steps := abandonCounted_steps s.dev
  have seen := abandonCounted_sawClass s.dev
  have counted := abandonCounted_count s.dev
  have slots := fun k (hk : k < 16) => abandonCounted_slot s.dev hk
  generalize abandonCounted s.dev = e at gives rows steps seen counted slots
  exact gives.completes ⟨by rw [steps], rows, seen, counted, slots⟩

end

/-- Settles O20: a job by what it makes of its slot, or by its code; a transition by the slot that ends; the registers of
STP_CFG; and the step that is abandoned. -/
theorem jobsOfASlot : Obligations.JobsOfASlot := by
  refine ⟨fun s j i h => ?_, fun s i w live hi idle events jobs parked =>
      ⟨slotEventRaise_evicts live hi idle events jobs parked, holdTimerExpiry_evicts live hi idle events jobs parked⟩,
    fun s data live => ⟨stpCfgWrite_takes live, stpCfgWrite_blocks live, stpCfgWrite_waits live⟩,
    fun s r live run first => stepAbandon_completes live run first⟩
  refine ⟨fun op => ⟨open_completes h op, open_refused h op⟩,
    fun op prefill gen => ⟨append_completes h op prefill gen, append_long h op prefill gen,
      fun last => append_closed h op gen (.inr last)⟩,
    fun op used gen => cancel_completes h op used gen,
    fun op gen => ⟨resume_completes h op gen, resume_refused h op gen⟩,
    fun op other gen => append_closed h op gen (.inl other), cancel_free h,
    fun used stale => ⟨fun op => stale_refused exec_append h op (by decide) used stale,
      fun op => stale_refused exec_cancel h op (by decide) used stale,
      fun op => stale_refused exec_resume h op (by decide) used stale⟩⟩

end Sys2Proof.Machine
end

section
/-! PROOFS. What the reply to the message in process leaves in the mailbox and of the device (R361 to R363). -/

namespace Sys2Proof.Machine

/-! ## A message that Ervoec answers (R361, R511) -/

theorem onMail_in {d : Dev} {ty : Nat} {m : Mail} (h : MailIn d ty m) (f : Dev → Mail → Dev) : onMail d ty f = f d m := by
  obtain ⟨mail, type, firmware, -⟩ := h
  unfold onMail
  rw [mail]
  exact if_pos ⟨type, firmware⟩

/-- The reply to a message. -/
def Mail.reply (m : Mail) (status : Nat) (body : List Byte) : Mail := ⟨1, 0, m.type, 1, m.seq, status, body⟩

/-- A message in process, with MBX_OUT free for its reply. -/
def MailAsked (d : Dev) (m : Mail) : Prop := d.cpl.mail = some m ∧ d.rg fCPL_MBX_STATUS_OUT_FULL = 0

/-- The device with reply `r` in MBX_OUT, before its notification. -/
def Dev.boxed (d : Dev) (r : Mail) : Dev :=
  ((Dev.rs { d with cpl := { d.cpl with mboxOut := memWrite d.cpl.mboxOut 0 r.bytes } }
    fCPL_MBX_STATUS_OUT_SEQ r.seq).rs fCPL_MBX_STATUS_OUT_FULL 1).rs fCPL_MBX_STATUS_IN_BUSY 0

theorem mailPlace_reply (d : Dev) {r : Mail} (reply : bitOf r.flags 0 = true) :
    ∃ v, mailPlace d r = notify (d.boxed r) v := by
  unfold mailPlace
  dsimp only
  rw [if_pos reply]
  exact ⟨_, rfl⟩

/-- The device without a message in process. -/
def Dev.answering (d : Dev) : Dev := { d with cpl := { d.cpl with mail := none } }

section
variable {d : Dev} {m : Mail}

theorem mailReply_eq (h : MailAsked d m) (status : Nat) (body : List Byte) :
    ∃ v, mailReply d status body = notify (d.answering.boxed (m.reply status body)) v := by
  obtain ⟨mail, free⟩ := h
  have sent : mailReply d status body = mailPlace d.answering (m.reply status body) := by
    unfold mailReply
    rw [mail]
    exact if_pos free
  rw [sent]
  exact mailPlace_reply d.answering (show bitOf 1 0 = true by decide)

theorem mailReply_told (h : MailAsked d m) (status : Nat) (body : List Byte) :
    Told (d.answering.boxed (m.reply status body)) (mailReply d status body) := by
  obtain ⟨v, placed⟩ := mailReply_eq h status body
  rw [placed]
  exact (Told.refl _).notify v

theorem Mail.bytes_length (m : Mail) : m.bytes.length = 16 + m.body.length := by
  simp only [Mail.bytes, List.length_append, leBytes_length, zeros, List.length_replicate]

/-- The device `e` has answered message `m` of `o`: the reply lies in MBX_OUT, and steps, flash, plots and the phase table are as
they were. -/
structure Answered (m : Mail) (status : Nat) (body : List Byte) (o e : Dev) : Prop where
  replied : RepliedWith m status body e
  steps : e.steps = o.steps
  flash : e.flash = o.flash
  plots : e.plots = o.plots
  phase : e.rg fSTP_PHASE_ADDR = o.rg fSTP_PHASE_ADDR

theorem Dev.boxed_mailbox (d : Dev) (r : Mail) : (d.boxed r).rg fCPL_MBX_STATUS_OUT_FULL = 1 ∧
    (d.boxed r).rg fCPL_MBX_STATUS_IN_BUSY = 0 ∧ memRead (d.boxed r).cpl.mboxOut 0 (16 + r.body.length) = r.bytes := by
  unfold Dev.boxed
  refine ⟨?_, ?_, ?_⟩
  · rw [Dev.rg_rs_ne _ (by decide), Dev.rg_rs_same]
    rfl
  · rw [Dev.rg_rs_same]
    rfl
  · have written := memRead_memWrite r.bytes d.cpl.mboxOut 0
    rw [Mail.bytes_length] at written
    rw [Dev.rs_cpl, Dev.rs_cpl, Dev.rs_cpl]
    dsimp only
    rw [written]

theorem Dev.boxed_rg (d : Dev) (r : Mail) {g : Fld} (hg : g.key < 0x600000 * 64) : (d.boxed r).rg g = d.rg g := by
  have apart {f : Fld} (hf : 0x600000 ≤ f.off) : g.key ≠ f.key := by
    unfold Fld.key at hg ⊢
    omega
  rw [Dev.boxed, Dev.rg_rs_ne _ (apart (by decide)), Dev.rg_rs_ne _ (apart (by decide)), Dev.rg_rs_ne _ (apart (by decide))]
  rfl

theorem outsideTold_mailbox : ∀ f ∈ [fCPL_MBX_STATUS_OUT_FULL, fCPL_MBX_STATUS_IN_BUSY, fSTP_PHASE_ADDR], outsideTold f.key := by
  unfold outsideTold outsideFlit outsideRecord outsideBank
  decide

/-- The reply to the message in process. -/
theorem mailReply_answered (h : MailAsked d m) (status : Nat) (body : List Byte) :
    Answered m status body d (mailReply d status body) := by
  have told := mailReply_told h status body
  obtain ⟨full, busy, box⟩ := d.answering.boxed_mailbox (m.reply status body)
  have phase := d.answering.boxed_rg (m.reply status body) (g := fSTP_PHASE_ADDR) (by decide)
  have empty : (d.answering.boxed (m.reply status body)).cpl.mail = none := rfl
  have steps : (d.answering.boxed (m.reply status body)).steps = d.steps := rfl
  have flash : (d.answering.boxed (m.reply status body)).flash = d.flash := rfl
  have plots : (d.answering.boxed (m.reply status body)).plots = d.plots := rfl
  generalize mailReply d status body = e at told
  generalize d.answering.boxed (m.reply status body) = a at told full busy box phase empty steps flash plots
  refine ⟨⟨told.mail.trans empty, (told.regs _ (outsideTold_mailbox _ (by simp))).trans full,
    (told.regs _ (outsideTold_mailbox _ (by simp))).trans busy, by rw [told.mboxOut]; exact box⟩,
    told.steps.trans steps, ?_, ?_, (told.regs _ (outsideTold_mailbox _ (by simp))).trans phase⟩
  · rw [told.only]
    exact flash
  · rw [told.only]
    exact plots

end

/-! ## Mail that waits behind the reply (R363, R419) -/

/-- The reply stays in MBX_OUT, the phase table and the steps are as they were. -/
structure Waits (o e : Dev) : Prop where
  mail : e.cpl.mail = o.cpl.mail
  mboxOut : e.cpl.mboxOut = o.cpl.mboxOut
  steps : e.steps = o.steps
  regs : ∀ g : Fld, g.key ≠ fCPL_MBX_STATUS_LOST.key → e.rg g = o.rg g

theorem Waits.refl (o : Dev) : Waits o o := ⟨rfl, rfl, rfl, fun _ _ => rfl⟩

theorem Waits.lost (o : Dev) : Waits o (o.count fCPL_MBX_STATUS_LOST 1) :=
  ⟨rfl, rfl, rfl, fun _ hg => Dev.rg_count_ne o hg 1⟩

/-- An unsolicited message behind a full MBX_OUT waits or is lost. -/
theorem mailSend_waits {d : Dev} (full : d.rg fCPL_MBX_STATUS_OUT_FULL = 1) {m : Mail} (unasked : bitOf m.flags 0 = false) :
    Waits d (mailSend d m) := by
  unfold mailSend
  dsimp only
  rw [if_neg (by rw [full]; decide), if_neg (by rw [unasked]; exact Bool.false_ne_true)]
  split
  · exact Waits.lost d
  · exact ⟨rfl, rfl, rfl, fun _ _ => rfl⟩

theorem Waits.journalAdd {o e : Dev} (h : Waits o e) (ty step code : Nat) (b : List Byte) : Waits o (journalAdd e ty step code b) :=
  ⟨h.mail, h.mboxOut, h.steps, h.regs⟩

theorem Waits.of_free {o e : Dev} {n : Nat} (h : Waits (o.free n).1 e) : Waits o e := ⟨h.mail, h.mboxOut, h.steps, h.regs⟩

theorem mailUnsolicited_waits {d : Dev} (full : d.rg fCPL_MBX_STATUS_OUT_FULL = 1) (ty : Nat) (b : List Byte) :
    Waits d (mailUnsolicited d ty b) := by
  have still : (d.free 32).1.rg fCPL_MBX_STATUS_OUT_FULL = 1 := full
  have plain : bitOf 2 0 = false := by decide
  exact (mailSend_waits still plain).of_free

theorem capacityMail_waits {d : Dev} (full : d.rg fCPL_MBX_STATUS_OUT_FULL = 1) : Waits d (capacityMail d) := by
  unfold capacityMail
  split
  · exact Waits.refl d
  · exact (mailUnsolicited_waits full _ _).journalAdd _ _ _ _

/-- A change of CAPACITY is sent behind the reply. -/
theorem capacityChange_waits (o : Dev) {d : Dev} (full : d.rg fCPL_MBX_STATUS_OUT_FULL = 1) : Waits d (capacityChange o d) := by
  unfold capacityChange
  split
  · exact Waits.refl d
  · exact capacityMail_waits full

theorem RepliedWith.waits {m : Mail} {status : Nat} {body : List Byte} {d e : Dev} (h : RepliedWith m status body d)
    (k : Waits d e) : RepliedWith m status body e := by
  obtain ⟨mail, full, busy, box⟩ := h
  exact ⟨k.mail.trans mail, (k.regs _ (by decide)).trans full, (k.regs _ (by decide)).trans busy, by rw [k.mboxOut]; exact box⟩

end Sys2Proof.Machine
end

section
/-! PROOFS. PLACEMENT_LOAD and PLACEMENT_UNLOAD (R168, R270, R419, R420). -/

namespace Sys2Proof.Machine

/-! ## What a sow changes (R168) -/

/-- The steps, the companion's part and MBX_OUT's flag are those of `o`. -/
structure SowSide (o d : Dev) : Prop where
  steps : d.steps = o.steps
  cpl : d.cpl = o.cpl
  full : d.rg fCPL_MBX_STATUS_OUT_FULL = o.rg fCPL_MBX_STATUS_OUT_FULL

section
variable {o d : Dev}

theorem SowSide.refl (o : Dev) : SowSide o o := ⟨rfl, rfl, rfl⟩

theorem SowSide.trans {e : Dev} (h : SowSide o d) (k : SowSide d e) : SowSide o e :=
  ⟨k.steps.trans h.steps, k.cpl.trans h.cpl, k.full.trans h.full⟩

theorem SowSide.other {e : Dev} (h : SowSide o d) (hs : e.steps = d.steps) (hc : e.cpl = d.cpl) (hr : e.regs = d.regs) :
    SowSide o e := h.trans ⟨hs, hc, by rw [Dev.rg, hr, Dev.rg]⟩

theorem SowSide.ite {e : Dev} (c : Prop) [Decidable c] (h : SowSide o d) (k : SowSide o e) : SowSide o (if c then d else e) := by
  split <;> assumption

theorem SowSide.setPlot (h : SowSide o d) (p : Nat) (pl : Plot) : SowSide o (d.setPlot p pl) := h.other rfl rfl rfl

theorem SowSide.modPlot (h : SowSide o d) (p : Nat) (f : Plot → Plot) : SowSide o (d.modPlot p f) := h.setPlot _ _

theorem SowSide.foldl {α : Type} (h : SowSide o d) (l : List α) (f : Dev → α → Dev)
    (hf : ∀ e a, SowSide o e → SowSide o (f e a)) : SowSide o (l.foldl f d) :=
  List.foldlRecOn l f h fun e he a _ => hf e a he

theorem recordErr_full (d : Dev) (k i c : Nat) :
    (recordErr d k i c).rg fCPL_MBX_STATUS_OUT_FULL = d.rg fCPL_MBX_STATUS_OUT_FULL := by
  have key : fCPL_MBX_STATUS_OUT_FULL.key = 0x600050 * 64 + 2 := rfl
  refine recordErr_rg d k i c _ ?_ fun b => ?_
  · rw [key, outsideRecord]
    omega
  · rw [key, outsideBank, bankOffset]
    split_ifs <;> omega

theorem SowSide.recordPlot (h : SowSide o d) (p c : Nat) : SowSide o (recordPlot d p c) :=
  h.trans ⟨recordErr_steps d 10 p c, by rw [Machine.recordPlot, (RegsOnly.recordErr d 10 p c).1], recordErr_full d 10 p c⟩

theorem SowSide.wakePlot (h : SowSide o d) (p : Nat) : SowSide o (wakePlot d p) := by
  have lost : SowSide o (plotLose d p) := h.other rfl rfl rfl
  unfold Machine.wakePlot plotReach
  exact SowSide.ite _ h (((SowSide.ite _ lost h).modPlot _ _).modPlot _ _)

theorem SowSide.sowRefuse (h : SowSide o d) (p code : Nat) : SowSide o (sowRefuse d p code) := (h.modPlot _ _).recordPlot _ _

theorem SowSide.sowBegin (h : SowSide o d) (p gen lib base count crc : Nat) : SowSide o (sowBegin d p gen lib base count crc) :=
  SowSide.ite _ (h.sowRefuse _ _) (SowSide.ite _ (h.sowRefuse _ _) (h.setPlot _ _))

theorem SowSide.sowData (h : SowSide o d) (p gen seq : Nat) (ws : List Nat) : SowSide o (sowData d p gen seq ws) := by
  unfold Machine.sowData
  dsimp only
  split
  · exact h
  · exact SowSide.ite _ h (h.setPlot _ _)

theorem SowSide.sowEnd (h : SowSide o d) (p gen packets : Nat) : SowSide o (sowEnd d p gen packets) := by
  have acknowledged (pl : Plot) (r : Option SowRound) : SowSide o { d.setPlot p pl with sowRound := r } := h.other rfl rfl rfl
  unfold Machine.sowEnd
  dsimp only
  split
  · exact h
  · exact SowSide.ite _ h (SowSide.ite _ (acknowledged _ _) ((h.setPlot _ _).recordPlot _ _))

theorem SowSide.sowPlot (h : SowSide o d) (gen p : Nat) (l : SowLib) : SowSide o (sowPlot d gen p l) :=
  (((h.wakePlot p).sowBegin _ _ _ _ _ _).foldl _ _ fun _ _ he => he.sowData _ _ _ _).sowEnd _ _ _

/-- A plot sown with the library that stands at a place. -/
def sowPlace (libs : List SowLib) (gen : Nat) (d : Dev) (e : Nat × Nat) : Dev :=
  match libs[e.2]? with
  | some l => sowPlot d gen e.1 l
  | none => d

theorem SowSide.sowPlace (h : SowSide o d) (libs : List SowLib) (gen : Nat) (e : Nat × Nat) :
    SowSide o (sowPlace libs gen d e) := by
  unfold Machine.sowPlace
  split
  · exact h.sowPlot _ _ _
  · exact h

theorem sowTurn_eq (d : Dev) (round : Nat) (libs : List SowLib) (todo : List (Nat × Nat)) : ∃ gen r,
    sowTurn d round libs todo = { todo.foldl (sowPlace libs gen)
      (sowGen { d with sowRound := some ⟨round, libs, todo⟩ } (todo.map (·.1))).1 with sowRound := r } := by
  unfold sowTurn
  dsimp only
  generalize sowGen { d with sowRound := some ⟨round, libs, todo⟩ } (todo.map (·.1)) = g
  refine ⟨g.2, ?_⟩
  change ∃ r, (match (todo.foldl (Machine.sowPlace libs g.2) g.1).sowRound with
    | some r => if r.todo.isEmpty then { todo.foldl (Machine.sowPlace libs g.2) g.1 with sowRound := none }
      else todo.foldl (Machine.sowPlace libs g.2) g.1
    | none => todo.foldl (Machine.sowPlace libs g.2) g.1) = _
  generalize todo.foldl (Machine.sowPlace libs g.2) g.1 = e
  split
  · split
    · exact ⟨_, rfl⟩
    · exact ⟨e.sowRound, rfl⟩
  · exact ⟨e.sowRound, rfl⟩

theorem SowSide.sowTurn (h : SowSide o d) (round : Nat) (libs : List SowLib) (todo : List (Nat × Nat)) :
    SowSide o (sowTurn d round libs todo) := by
  obtain ⟨gen, r, turned⟩ := sowTurn_eq d round libs todo
  have begun : SowSide o (sowGen { d with sowRound := some ⟨round, libs, todo⟩ } (todo.map (·.1))).1 := h.other rfl rfl rfl
  rw [turned]
  exact (begun.foldl todo _ fun _ e he => he.sowPlace libs gen e).other rfl rfl rfl

theorem SowSide.sowAll (h : SowSide o d) (libs : List SowLib) : SowSide o (sowAll d libs) := h.sowTurn _ _ _

theorem SowSide.tineLoad (h : SowSide o d) (p : Nat) (ws : List Nat) : SowSide o (tineLoad d p ws) := h.modPlot _ _

end

end Sys2Proof.Machine
end

section
/-! PROOFS. The messages about placements (R270, R419, R420). -/

namespace Sys2Proof.Machine

/-! ## The rows of the messages -/

section
variable {s : State} {m : Mail}

theorem MailIn.asked {d : Dev} {ty : Nat} (h : MailIn d ty m) : MailAsked d m := by
  obtain ⟨mail, -, -, free⟩ := h
  exact ⟨mail, free⟩

theorem mail_gives {c : Instr} {ty : Nat} {f : Dev → Mail → Dev} (row : exec c s = onDev s fun d => onMail d ty f)
    (live : Live s) (h : MailIn s.dev ty m) {e : Dev} (he : f s.dev m = e) : Gives c s e := by
  rw [Gives, row, onDev_live live, onMail_in h, he]

/-- A row that answers its message. -/
theorem mail_answers {c : Instr} {d : Dev} {status : Nat} {body : List Byte} (gives : Gives c s (mailReply d status body))
    (h : MailAsked d m) : Completes c s (fun t => Answered m status body d t.dev) := by
  have done := mailReply_answered h status body
  generalize mailReply d status body = e at gives done
  exact gives.completes done

/-- What the obligation says of an answer that changes no step. -/
theorem Answered.withSteps {c : Instr} {o : Dev} {status : Nat} {body : List Byte}
    (h : Completes c s (fun t => Answered m status body o t.dev)) :
    Completes c s (fun t => RepliedWith m status body t.dev ∧ t.dev.steps = o.steps) :=
  h.imp fun _ a => ⟨a.replied, a.steps⟩

/-! ## PLACEMENT_LOAD (R420) -/

theorem exec_placementLoad (s : State) : exec .placementLoad s = onDev s fun d => onMail d 0x0300 placementLoad := rfl

theorem shape_whole (m : Mail) (n : Nat) : m.shape n n 0 = decide (m.body.length = n) := by
  rw [Mail.shape, recZero, List.take_zero]
  exact Bool.and_true _

theorem placementLoad_malformed (d : Dev) (long : m.body.length ≠ 16) : placementLoad d m = mailReply d 0x0704 [] := by
  unfold placementLoad
  rw [shape_whole, decide_eq_false long]
  rfl

theorem shape_of_length (whole : m.body.length = 16) : (!m.shape 16 16 0) = false := by
  rw [shape_whole, decide_eq_true whole]
  rfl

theorem placementLoad_empty (d : Dev) (whole : m.body.length = 16) (none_ : m.v 8 8 = 0) :
    placementLoad d m = mailReply d 0 (zeros 8) := by
  unfold placementLoad
  rw [shape_of_length whole, if_neg Bool.false_ne_true]
  exact if_pos none_

theorem placementLoad_refused (d : Dev) (whole : m.body.length = 16) (some_ : m.v 8 8 ≠ 0)
    (bad : placementCode d (m.v 0 8) (m.v 8 8) ≠ 0) :
    placementLoad d m = mailReply d (placementCode d (m.v 0 8) (m.v 8 8)) [] := by
  unfold placementLoad
  rw [shape_of_length whole, if_neg Bool.false_ne_true]
  dsimp only
  rw [if_neg some_, if_pos bad]

/-- The placement that an image at `a` makes. -/
def imagePlacement (d : Dev) (a : Nat) : Placement :=
  ⟨gV d a 6 2, gV d a (gV d a 24 4) 32, true, (placementLibs d a).map (·.1),
    (List.range 16384).map (fun i => gV d a (gV d a 20 4 + 4 * i) 4)⟩

/-- The device with this placement. -/
def Dev.placed (d : Dev) (pm : Placement) : Dev := { d with steps := { d.steps with placement := some pm } }

/-- The libraries of a placement sown, and its tine program in every plot in service. -/
def placementSows (d : Dev) (pm : Placement) : Dev :=
  let e := sowAll (d.placed pm) pm.libs
  (e.numbering.map (·.2)).foldl (fun d p => tineLoad d p pm.tine) e

theorem placementSows_side (d : Dev) (pm : Placement) : SowSide (d.placed pm) (placementSows d pm) :=
  ((SowSide.refl _).sowAll _).foldl _ _ fun _ _ he => he.tineLoad _ _

theorem placementLoad_loads (d : Dev) (whole : m.body.length = 16) (some_ : m.v 8 8 ≠ 0)
    (good : placementCode d (m.v 0 8) (m.v 8 8) = 0) : ∃ body, placementLoad d m = capacityChange d (mailReply
      ((placementSows d (imagePlacement d (m.v 0 8))).rs fSTP_PHASE_ADDR (m.v 0 8 + gV d (m.v 0 8) 16 4)) 0 body) := by
  unfold placementLoad
  rw [shape_of_length whole, if_neg Bool.false_ne_true]
  dsimp only
  rw [if_neg some_, if_neg (by rw [good]; decide)]
  unfold placementSows imagePlacement Dev.placed
  dsimp only
  generalize (List.range 16384).map (fun i => gV d (m.v 0 8) (gV d (m.v 0 8) 20 4 + 4 * i) 4) = tine
  exact ⟨_, rfl⟩

/-- An image that passes its checks lies in GDDR7, and its phase table with it. -/
theorem placementCode_extent {d : Dev} {a len : Nat} (good : placementCode d a len = 0) : a + gV d a 16 4 < 2 ^ 48 := by
  have extent : placementExtent d a len = true := by
    by_contra bad
    unfold placementCode at good
    rw [Bool.eq_false_of_not_eq_true bad, if_pos (by rfl)] at good
    exact absurd good (by decide)
  simp only [placementExtent, inGddr, Bool.and_eq_true, decide_eq_true_eq] at extent
  omega

theorem placementLoad_completes (live : Live s) (h : MailIn s.dev 0x0300 m) (whole : m.body.length = 16)
    (some_ : m.v 8 8 ≠ 0) (good : placementCode s.dev (m.v 0 8) (m.v 8 8) = 0) :
    Completes .placementLoad s (fun t => t.dev.cpl.mail = none ∧
      t.dev.rg fSTP_PHASE_ADDR = m.v 0 8 + gV s.dev (m.v 0 8) 16 4 ∧
      t.dev.steps.placement = some (imagePlacement s.dev (m.v 0 8))) := by
  obtain ⟨body, loaded⟩ := placementLoad_loads s.dev whole some_ good
  have gives := mail_gives (exec_placementLoad s) live h loaded
  have side := placementSows_side s.dev (imagePlacement s.dev (m.v 0 8))
  have extent := placementCode_extent good
  have before : MailAsked (s.dev.placed (imagePlacement s.dev (m.v 0 8))) m := h.asked
  have steps : (s.dev.placed (imagePlacement s.dev (m.v 0 8))).steps.placement = some (imagePlacement s.dev (m.v 0 8)) := rfl
  generalize s.dev.placed (imagePlacement s.dev (m.v 0 8)) = a at side before steps
  generalize placementSows s.dev (imagePlacement s.dev (m.v 0 8)) = n at gives side
  generalize m.v 0 8 + gV s.dev (m.v 0 8) 16 4 = addr at gives extent
  obtain ⟨mail, free⟩ := before
  have asked : MailAsked (n.rs fSTP_PHASE_ADDR addr) m :=
    ⟨(congrArg Companion.mail side.cpl).trans mail, (Dev.rg_rs_ne n (by decide) addr).trans (side.full.trans free)⟩
  have answered := mailReply_answered asked 0 body
  have phase : (n.rs fSTP_PHASE_ADDR addr).rg fSTP_PHASE_ADDR = addr :=
    (Dev.rg_rs_same n _ addr).trans (Nat.mod_eq_of_lt extent)
  generalize mailReply (n.rs fSTP_PHASE_ADDR addr) 0 body = e at gives answered
  obtain ⟨empty, full, -⟩ := answered.replied
  have waits := capacityChange_waits s.dev full
  generalize capacityChange s.dev e = t at gives waits
  refine gives.completes ⟨waits.mail.trans empty,
    (waits.regs fSTP_PHASE_ADDR (by decide)).trans (answered.phase.trans phase), ?_⟩
  dsimp only
  rw [waits.steps, answered.steps, Dev.rs_steps, side.steps, steps]

/-! ## PLACEMENT_UNLOAD (R420, R495) -/

theorem exec_placementUnload (s : State) : exec .placementUnload s = onDev s fun d => onMail d 0x0301 placementUnload := rfl

/-- The device without a placement, its flagged replicas answered. -/
def Dev.unplaced (d : Dev) : Dev :=
  replicaHold { d with
    steps := { d.steps with placement := none },
    sed := { d.sed with groups := d.sed.groups.map (fun g => if g.flagged = 2 then g else { g with flagged := 0 }) } }

theorem placementUnload_malformed (d : Dev) (some_ : m.body ≠ []) : placementUnload d m = mailReply d 0x0704 [] := if_pos some_

theorem placementUnload_busy (d : Dev) (empty : m.body = []) (used : slotsFree d = false) :
    placementUnload d m = mailReply d 0x011A [] := by
  unfold placementUnload
  rw [if_neg (fun some_ => some_ empty), used]
  rfl

theorem placementUnload_unloads (d : Dev) (empty : m.body = []) (free : slotsFree d = true) :
    placementUnload d m = capacityChange d (mailReply d.unplaced 0 []) := by
  unfold placementUnload
  rw [if_neg (fun some_ => some_ empty), free]
  rfl

theorem placementUnload_completes (live : Live s) (h : MailIn s.dev 0x0301 m) (empty : m.body = [])
    (free : slotsFree s.dev = true) : Completes .placementUnload s (fun t => RepliedWith m 0 [] t.dev ∧
      t.dev.steps.placement = none) := by
  have gives := mail_gives (exec_placementUnload s) live h (placementUnload_unloads s.dev empty free)
  have asked : MailAsked s.dev.unplaced m := h.asked
  have gone : s.dev.unplaced.steps.placement = none := rfl
  have answered := mailReply_answered asked 0 []
  generalize s.dev.unplaced = n at gives gone answered
  generalize mailReply n 0 [] = e at gives answered
  obtain ⟨-, full, -⟩ := answered.replied
  have waits := capacityChange_waits s.dev full
  generalize capacityChange s.dev e = t at gives waits
  refine gives.completes ⟨answered.replied.waits waits, ?_⟩
  dsimp only
  rw [waits.steps, answered.steps, gone]

end

end Sys2Proof.Machine
end

section
/-! PROOFS. The messages about test content packs (R490, R501). -/

namespace Sys2Proof.Machine

/-! ## Objects in module flash (R529, R563) -/

/-- The flash of a device with other bytes. -/
def Dev.flashed (d : Dev) (c : List Host.Cell) : Dev := { d with flash := { d.flash with bytes := c } }

theorem flRead_flWrite (d : Dev) (a : Nat) (b : List Byte) : flRead (flWrite d a b) a b.length = b := by
  rw [flRead_eq]
  exact flBytes_flPut_same _ a b

theorem get_memClear {m : List Host.Cell} {a n c : Nat} (low : a ≤ c) (high : c < a + n) :
    SMap.get 0xFF (memClear m a n) c = 0xFF := by
  have outside : (decide (c < a) || decide (a + n ≤ c)) = false := by
    rw [decide_eq_false (by omega), decide_eq_false (by omega)]
    rfl
  have lost := SMap.find?_filter_key (fun x => decide (x < a) || decide (a + n ≤ x)) c m
  rw [outside, if_neg Bool.false_ne_true] at lost
  rw [SMap.get, memClear, lost]
  rfl

theorem flBytes_memClear (m : List Host.Cell) (a : Nat) {n k : Nat} (inside : k ≤ n) :
    flBytes (memClear m a n) a k = List.replicate k 0xFF := by
  have erased : ∀ i ∈ List.range k, SMap.get 0xFF (memClear m a n) (a + i) = 0xFF := fun i hi =>
    get_memClear (Nat.le_add_right a i) (by have := List.mem_range.1 hi; omega)
  rw [flBytes, List.map_congr_left erased, List.map_const', List.length_range]

/-! ## The store of packs (R490) -/

theorem packAt_congr {d e : Dev} (h : e.flash = d.flash) (k : Nat) : packAt e k = packAt d k := by
  unfold packAt
  rw [flRead_congr h]
  dsimp only
  rw [flRead_congr h]

/-- Erased flash holds no MAGIC. -/
theorem packAt_erased (d : Dev) (k : Nat) : packAt (d.flashed (memClear d.flash.bytes (flPACK k) 0x140000)) k = none := by
  have header : flRead (d.flashed (memClear d.flash.bytes (flPACK k) 0x140000)) (flPACK k) 128 = List.replicate 128 0xFF :=
    flBytes_memClear _ _ (by decide)
  have unmarked : recV (List.replicate 128 (0xFF : Byte)) 0 4 ≠ 0x54325246 := by decide
  unfold packAt
  rw [header]
  exact if_neg unmarked

theorem packFree_first {d : Dev} {k : Nat} (hk : k < 8) (free : packAt d k = none) (used : ∀ j, j < k → packAt d j ≠ none) :
    (List.range 8).find? (fun j => (packAt d j).isNone) = some k := by
  rw [List.find?_range_eq_some]
  refine ⟨by rw [free]; rfl, List.mem_range.2 hk, fun j hj => ?_⟩
  obtain ⟨b, held⟩ := Option.ne_none_iff_exists'.1 (used j hj)
  rw [held]
  rfl

/-- A pack that passes its checks is whole. -/
theorem packCode_long {f : Fuses} {d : Dev} {b : List Byte} (good : packCode f d b = 0) : packBody b + sigBytes ≤ b.length := by
  by_contra short
  unfold packCode at good
  dsimp only at good
  rw [if_pos (Nat.lt_of_not_le short), ite_self] at good
  exact absurd good (by decide)

/-! ## The rows of the messages -/

/-- The bytes of a pack up to the end of its signature. -/
def packWhole (b : List Byte) : List Byte := b.take (packBody b + sigBytes)

theorem packWhole_length {f : Fuses} {d : Dev} {b : List Byte} (good : packCode f d b = 0) :
    (packWhole b).length = packBody b + sigBytes := List.length_take_of_le (packCode_long good)

/-- The body that answers TESTPACK_LOAD: PACK_ID and the version stored. -/
def packAnswer (b : List Byte) (v : Nat) : List Byte := leBytes 4 (recV b 8 4) ++ leBytes 4 v

section
variable {s : State} {m : Mail}

theorem exec_testpackLoad (s : State) : exec .testpackLoad s = onDevFused s fun f d => onMail d 0x0210 (packLoad f) := rfl

theorem testpackLoad_answers (live : Live s) (h : MailIn s.dev 0x0210 m) {o : Dev} {status : Nat} {body : List Byte}
    (asked : MailAsked o m) (load : packLoad s.fused s.dev m = mailReply o status body) :
    Completes .testpackLoad s (fun t => Answered m status body o t.dev) := by
  have gives : Gives .testpackLoad s (mailReply o status body) := by
    rw [Gives, exec_testpackLoad, onDevFused_live live, onMail_in h, load]
  exact mail_answers gives asked

/-- What the obligation says of an answer that leaves the flash. -/
theorem Answered.withFlash {c : Instr} {o : Dev} {status : Nat} {body : List Byte}
    (h : Completes c s (fun t => Answered m status body o t.dev)) :
    Completes c s (fun t => RepliedWith m status body t.dev ∧ t.dev.flash = o.flash) :=
  h.imp fun _ a => ⟨a.replied, a.flash⟩

theorem packLoad_outside {f : Fuses} {d : Dev} (whole : m.body.length = 16) (out : inGddr (m.v 0 8) (m.v 8 8) = false) :
    packLoad f d m = mailReply d 0x1010 [] := by
  unfold packLoad
  rw [shape_of_length whole, if_neg Bool.false_ne_true, out]
  rfl

section
variable {f : Fuses} {d : Dev} {b : List Byte} (whole : m.body.length = 16) (within : inGddr (m.v 0 8) (m.v 8 8) = true)
  (read : memRead d.gddr (m.v 0 8) (min (m.v 8 8) 1310720) = b)
include whole within read

theorem packLoad_refused (bad : packCode f d b ≠ 0) : packLoad f d m = mailReply d (packCode f d b) [] := by
  unfold packLoad
  rw [shape_of_length whole, if_neg Bool.false_ne_true, within, if_neg (by decide)]
  dsimp only
  rw [read, if_pos bad]

theorem packLoad_free (good : packCode f d b = 0) (place : packPlace d (recV b 8 4) = none) {k : Nat}
    (free : (List.range 8).find? (fun j => (packAt d j).isNone) = some k) :
    packLoad f d m = mailReply (flWrite d (flPACK k) (packWhole b)) 0 (packAnswer b (recV b 12 4)) := by
  unfold packLoad
  rw [shape_of_length whole, if_neg Bool.false_ne_true, within, if_neg (by decide)]
  dsimp only
  rw [read, if_neg (not_not_intro good), place, free]
  rfl

theorem packLoad_held (good : packCode f d b = 0) {k : Nat} {old : List Byte}
    (place : packPlace d (recV b 8 4) = some k) (held : packAt d k = some old) :
    packLoad f d m = if recV old 12 4 < recV b 12 4
      then mailReply (flWrite d (flPACK k) (packWhole b)) 0 (packAnswer b (recV b 12 4))
      else mailReply d 0 (packAnswer b (recV old 12 4)) := by
  unfold packLoad
  rw [shape_of_length whole, if_neg Bool.false_ne_true, within, if_neg (by decide)]
  dsimp only
  rw [read, if_neg (not_not_intro good), place]
  dsimp only
  rw [held]
  rfl

end

/-- A pack written to a place is read there. -/
theorem testpackLoad_stores (live : Live s) (h : MailIn s.dev 0x0210 m) {b : List Byte} {k : Nat}
    (good : packCode s.fused s.dev b = 0)
    (load : packLoad s.fused s.dev m = mailReply (flWrite s.dev (flPACK k) (packWhole b)) 0 (packAnswer b (recV b 12 4))) :
    Completes .testpackLoad s (fun t => flRead t.dev (flPACK k) (packBody b + sigBytes) = packWhole b ∧
      RepliedWith m 0 (packAnswer b (recV b 12 4)) t.dev) := by
  have asked : MailAsked (flWrite s.dev (flPACK k) (packWhole b)) m := h.asked
  have stored := flRead_flWrite s.dev (flPACK k) (packWhole b)
  rw [packWhole_length good] at stored
  exact (testpackLoad_answers live h asked load).imp fun t a => ⟨(flRead_congr a.flash _ _).trans stored, a.replied⟩

/-! ## TESTPACK_REMOVE (R501) -/

/-- The store without the pack at place `k`. -/
def packRemove (d : Dev) : Option Nat → Dev
  | some k => mailReply (d.flashed (memClear d.flash.bytes (flPACK k) 0x140000)) 0 []
  | none => mailReply d 0 []

theorem testpackRemove_gives (live : Live s) (h : MailIn s.dev 0x0211 m) (shaped : m.shape 8 4 4 = true) :
    Gives .testpackRemove s (packRemove s.dev (packPlace s.dev (m.v 0 4))) := by
  refine mail_gives rfl live h ?_
  dsimp only
  rw [shaped]
  cases packPlace s.dev (m.v 0 4) <;> rfl

theorem testpackRemove_unknown (live : Live s) (h : MailIn s.dev 0x0211 m) (shaped : m.shape 8 4 4 = true)
    (place : packPlace s.dev (m.v 0 4) = none) : Completes .testpackRemove s (fun t => RepliedWith m 0 [] t.dev ∧
      t.dev.flash = s.dev.flash) := by
  have gives := testpackRemove_gives live h shaped
  rw [place] at gives
  exact Answered.withFlash (mail_answers gives h.asked)

theorem testpackRemove_erases (live : Live s) (h : MailIn s.dev 0x0211 m) (shaped : m.shape 8 4 4 = true) {k : Nat}
    (place : packPlace s.dev (m.v 0 4) = some k) : Completes .testpackRemove s (fun t => RepliedWith m 0 [] t.dev ∧
      packAt t.dev k = none) := by
  have gives := testpackRemove_gives live h shaped
  rw [place] at gives
  have asked : MailAsked (s.dev.flashed (memClear s.dev.flash.bytes (flPACK k) 0x140000)) m := h.asked
  exact (mail_answers gives asked).imp fun t a => ⟨a.replied, (packAt_congr a.flash k).trans (packAt_erased s.dev k)⟩

end

/-- Settles O55: each message is answered by its case of `placementLoad`, `placementUnload`, `packLoad` and `packRemove`; the sow
leaves MBX_OUT as it was, and a change of CAPACITY waits behind the reply. -/
theorem placementsAndPackStore : Obligations.PlacementsAndPackStore := by
  unfold Obligations.PlacementsAndPackStore
  refine ⟨fun s m live h => ?_, fun s m live h => ?_, fun s m live h whole => ?_, fun s m live h shaped => ?_⟩
  · have answers {status : Nat} {body : List Byte} (load : placementLoad s.dev m = mailReply s.dev status body) :=
      mail_answers (mail_gives (exec_placementLoad s) live h load) h.asked
    refine ⟨fun long => Answered.withSteps (answers (placementLoad_malformed s.dev long)),
      fun whole none_ => Answered.withSteps (answers (placementLoad_empty s.dev whole none_)),
      fun whole some_ => ⟨fun bad => ?_, fun good => ?_⟩⟩
    · exact (answers (placementLoad_refused s.dev whole some_ bad)).imp fun t a => ⟨a.replied, a.steps, a.plots⟩
    · exact (placementLoad_completes live h whole some_ good).imp fun t ⟨mail, phase, placed⟩ =>
        ⟨mail, phase, _, placed, rfl, rfl, rfl⟩
  · have answers {status : Nat} {body : List Byte} (load : placementUnload s.dev m = mailReply s.dev status body) :=
      mail_answers (mail_gives (exec_placementUnload s) live h load) h.asked
    exact ⟨fun some_ => Answered.withSteps (answers (placementUnload_malformed s.dev some_)),
      fun empty used => Answered.withSteps (answers (placementUnload_busy s.dev empty used)),
      placementUnload_completes live h⟩
  · refine ⟨fun out => Answered.withFlash (testpackLoad_answers live h h.asked (packLoad_outside whole out)), fun within => ?_⟩
    generalize read : memRead s.dev.gddr (m.v 0 8) (min (m.v 8 8) 1310720) = b
    refine ⟨fun bad => ?_, fun k good place hk free used => ?_, fun k old good place held => ?_⟩
    · exact Answered.withFlash (testpackLoad_answers live h h.asked (packLoad_refused whole within read bad))
    · exact testpackLoad_stores live h good (packLoad_free whole within read good place (packFree_first hk free used))
    · have load := packLoad_held whole within read good place held
      refine ⟨fun newer => testpackLoad_stores live h good (load.trans (if_pos newer)), fun older => ?_⟩
      exact (testpackLoad_answers live h h.asked (load.trans (if_neg (Nat.not_lt_of_le older)))).imp
        fun t a => ⟨a.flash, a.replied⟩
  · exact ⟨testpackRemove_unknown live h shaped, fun k => testpackRemove_erases live h shaped⟩

end Sys2Proof.Machine
end
